-- ==== Sys2Proof/Word.lean ====
section
/-! DEFINITION. The plainest types of the model: bytes, 32-bit and 64-bit words, and the sparse table (a list of
key and value pairs, keys rising) in which the device's numbered state is held. -/
namespace Sys2Proof

/-- One byte. -/
abbrev Byte := BitVec 8

/-- A 32-bit word: the width of most registers and of a scribe register. -/
abbrev W32 := BitVec 32

/-- A 64-bit word: the width of the system bus, of device time and of a stored memory word. -/
abbrev W64 := BitVec 64

/-- A sparse table: (key, value) pairs, keys strictly rising. What an unlisted key reads as is said where the table is
used. -/
abbrev SMap (α : Type) := List (Nat × α)

/-- The messages of a USDO transfer (R284): an expedited read or write, the begin and the segments of a segmented one, and its abort.
Reads name the most bytes they take. -/
inductive UsdoOp where
  | read (index sub off len : Nat)
  | write (index sub off : Nat) (data : List Byte)
  | readBegin (index sub off len : Nat)
  | writeBegin (index sub off len : Nat)
  | readSegment (session n : Nat)
  | writeSegment (session : Nat) (data : List Byte)
  | abort (session : Nat)
deriving DecidableEq, Repr

/-- What the configuration scrubber finds in a frame. -/
inductive ScrubFind where
  | clean
  /-- A correctable word. -/
  | correctable
  /-- An uncorrectable word. -/
  | uncorrectable
  /-- At the end of a pass: the signature does not match, with no uncorrectable word. -/
  | signature
deriving DecidableEq, Repr

/-- A stored cell that does not hold what is written: word of the region, stored bit, and the value it keeps (a hardware
failure the march is to find). -/
structure Stuck where
  word : Nat
  bit : Nat
  val : Bool
deriving DecidableEq, Repr

/-- Where a read or write of an ECC-protected memory comes from: a system-bus address and access size (R15), or, for a port that is
not on the bus (inkwells, scribe RAM, engine tables), a word of a memory (Table 10.1). -/
inductive MemAt where
  | bus (addr size : Nat)
  | word (mem idx : Nat)
deriving DecidableEq, Repr

/-- A write of fewer than 64 bits (R222): by a system-bus address and size, or to the bytes of a mask of a word of a memory; both ports
of an inkwell may write in one cycle, each the bits of its mask (R181). -/
inductive NarrowAt where
  | bus (addr size : Nat)
  | word (mem idx mask : Nat)
  | inkwell (idx maskA maskB : Nat) (other : W64)
deriving DecidableEq, Repr

/-- An answer of the fabric design at the dictionary port (R192): RESP, and whether the request it answers has been withdrawn already. -/
structure DictAns where
  resp : Nat
  late : Bool
deriving DecidableEq, Repr

/-- A differential encoder input (R45): A, B or Z of an angle channel. -/
inductive EncIn where
  | a (chan : Nat)
  | b (chan : Nat)
  | z (chan : Nat)
deriving DecidableEq, Repr

/-- Channel of a differential input. -/
def EncIn.chan (v : EncIn) : Nat :=
  match v with
  | .a k => k
  | .b k => k
  | .z k => k

/-- How SDRAM is reached: through the window (R17), or a whole line. -/
inductive LineAt where
  | window (addr size : Nat)
  | line (l : Nat)
deriving DecidableEq, Repr

/-- Who pushes (R80): a producer port with the words of the event it pushes, or a scribe's PUSH instruction with its registers. -/
inductive PushSrc where
  /-- A port and its push words: a host port stages them in its own registers (R82). -/
  | port (p q : Nat) (w0 w1 w2 w3 : W32)
  | scribe (pair rd ra rb : Nat)
deriving DecidableEq, Repr

end Sys2Proof
end

