-- ==== Sys2Proof/Syntax.lean ====
section
/-! DEFINITION. The commands of the device: one constructor for each row of the operation table, in its order. The scribe instructions
(prefix `s`) name their pair first. -/
namespace Sys2Proof

/-- A command. -/
inductive Instr where
  /-- POWER_ON (R395). -/
  | powerOn
  /-- BROWN_OUT (R21). -/
  | brownOut
  /-- RESET_N (R21). -/
  | resetN
  /-- FREEZE_N (R378). -/
  | freezeN
  /-- WARM_RESET (R21). -/
  | warmReset (v : Nat)
  /-- PLL_LOCK (R322). -/
  | pllLock
  /-- PLL_LOCK_RETRY (R26). -/
  | pllLockRetry (which : Nat)
  /-- PIN_SETTLE (R199). -/
  | pinSettle
  /-- LCS_VOTE (R365). -/
  | lcsVote
  /-- STARTUP_TEST_END (R21). -/
  | startupTestEnd (chk : Nat) (marchFail : Bool)
  /-- MANIFEST_AUTH (R196). -/
  | manifestAuth
  /-- SECTOR_STREAM_END (R201). -/
  | sectorStreamEnd (slot : Nat) (disturbed : Bool)
  /-- LOAD_RELEASE (R274). -/
  | loadRelease
  /-- RETENTION_CHECK (R334). -/
  | retentionCheck
  /-- FABRIC_DEFAULTS_DONE (R279). -/
  | fabricDefaultsDone
  /-- MODE_REQ_SELFTEST (R21). -/
  | modeReqSelftest
  /-- MODE_REQ_STANDBY (R21). -/
  | modeReqStandby
  /-- MODE_REQ_RUN (R21). -/
  | modeReqRun
  /-- MODE_REQ_SAFE (R21). -/
  | modeReqSafe
  /-- MODE_REQ_SLEEP (R327). -/
  | modeReqSleep (sel : Nat)
  /-- SLEEP_ABORT_POINT (R327). -/
  | sleepAbortPoint
  /-- SLEEP_ENTRY_DONE (R328). -/
  | sleepEntryDone
  /-- SELFTEST_END (R361). -/
  | selftestEnd (failPhase : Nat) (chk : Nat)
  /-- STANDBY_OUTPUTS_SAFE (R144). -/
  | standbyOutputsSafe
  /-- NMT_START_REMOTE_NODE (R286). -/
  | nmtStartRemoteNode
  /-- NMT_ENTER_PRE_OPERATIONAL (R286). -/
  | nmtEnterPreOperational
  /-- NMT_STOP_REMOTE_NODE (R286). -/
  | nmtStopRemoteNode
  /-- NMT_RESET_NODE (R286). -/
  | nmtResetNode
  /-- NMT_RESET_COMMUNICATION (R286). -/
  | nmtResetCommunication
  /-- REGISTER_WRITE (R7). -/
  | registerWrite (addr : Nat) (size : Nat) (value : Nat) (master : Nat)
  /-- MEMORY_READ (R221). -/
  | memoryRead (loc : MemAt) (master : Nat)
  /-- MEMORY_WRITE (R220). -/
  | memoryWrite (loc : MemAt) (data : W64) (master : Nat)
  /-- NARROW_WRITE (R222). -/
  | narrowWrite (loc : NarrowAt) (data : W64) (master : Nat)
  /-- MERGE_FLUSH (R222). -/
  | mergeFlush (m : Nat)
  /-- WRITE_BACK (R224). -/
  | writeBack (m : Nat)
  /-- SCRUB_READ (R227). -/
  | scrubRead (m : Nat)
  /-- SCRUB_CORRECT_WRITE (R227). -/
  | scrubCorrectWrite
  /-- SCRUB_PASS_LATE (R227). -/
  | scrubPassLate (m : Nat)
  /-- BIT_SET (R234). -/
  | bitSet (bank : Nat) (off : Nat) (size : Nat) (data : W64) (master : Nat)
  /-- BIT_CLEAR (R234). -/
  | bitClear (bank : Nat) (off : Nat) (size : Nat) (data : W64) (master : Nat)
  /-- ATOMIC_ADD (R234). -/
  | atomicAdd (bank : Nat) (off : Nat) (size : Nat) (data : W64) (master : Nat)
  /-- ATOMIC_SWAP (R234). -/
  | atomicSwap (bank : Nat) (off : Nat) (size : Nat) (data : W64) (master : Nat)
  /-- OWNER_CHANGE (R233). -/
  | ownerChange (bank : Nat) (owner : Nat) (master : Nat)
  /-- OWNER_CHANGE_DONE (R233). -/
  | ownerChangeDone (bank : Nat)
  /-- MEM_INJ_ARM (R231). -/
  | memInjArm (addr : Nat) (m : Nat) (mask : Nat)
  /-- MEM_INJ_DISARM (R231). -/
  | memInjDisarm
  /-- REMAP_PROMOTE (R226). -/
  | remapPromote (tbl : Nat) (bank : Nat) (i : Nat) (name : Nat)
  /-- REMAP_RELEASE (R226). -/
  | remapRelease (tbl : Nat) (bank : Nat) (i : Nat)
  /-- XMC_INIT (R244). -/
  | xmcInit
  /-- XMC_TRAINING_DONE (R244). -/
  | xmcTrainingDone (ok : Bool)
  /-- SDRAM_READ (R239). -/
  | sdramRead (loc : LineAt) (master : Nat)
  /-- SDRAM_WRITE (R241). -/
  | sdramWrite (loc : LineAt) (data : Nat) (mask : Nat) (master : Nat)
  /-- SDRAM_REFRESH (R236). -/
  | sdramRefresh
  /-- PATROL_LINE (R242). -/
  | patrolLine
  /-- PATROL_PASS_LATE (R242). -/
  | patrolPassLate
  /-- FILL (R245). -/
  | fill (line : Nat) (lines : Nat) (pat : W64)
  /-- FILL_DONE (R245). -/
  | fillDone
  /-- MARK (R240). -/
  | mark (rank : Nat) (dev : Nat)
  /-- UNMARK (R240). -/
  | unmark (rank : Nat) (dev : Nat)
  /-- PATROL_RESTART (R242). -/
  | patrolRestart
  /-- XMC_INJ_ARM (R231). -/
  | xmcInjArm (line : Nat) (devA : Nat) (devB : Nat) (two : Bool)
  /-- XMC_INJ_DISARM (R231). -/
  | xmcInjDisarm
  /-- DMA_START (R249). -/
  | dmaStart (n : Nat)
  /-- DMA_STOP (R249). -/
  | dmaStop (n : Nat)
  /-- DMA_CLEAR (R249). -/
  | dmaClear (n : Nat)
  /-- DMA_BURST (R247). -/
  | dmaBurst (n : Nat) (answers : List Nat)
  /-- DMA_DESCRIPTOR_END (R249). -/
  | dmaDescriptorEnd (n : Nat) (answers : List Nat)
  /-- ENCODER_EDGE (R48). -/
  | encoderEdge (k : Nat) (a : Bool) (b : Bool)
  /-- Z_INDEX (R49). -/
  | zIndex (k : Nat)
  /-- LOSS_OF_SIGNAL (R46). -/
  | lossOfSignal (k : EncIn) (lost : Bool)
  /-- ADC_SAMPLE (R50). -/
  | adcSample (k : Nat) (sn : Nat) (cs : Nat)
  /-- ADC_CONVERSION_DONE (R52). -/
  | adcConversionDone (k : Nat)
  /-- ESTIMATE_UPDATE (R56). -/
  | estimateUpdate
  /-- STOP_TIMEOUT (R57). -/
  | stopTimeout (k : Nat)
  /-- TBL_SWAP (R54). -/
  | tblSwap (k : Nat)
  /-- LEARN_START (R70). -/
  | learnStart (ch : Nat) (ref : Nat) (revs : Nat)
  /-- LEARN_DONE (R70). -/
  | learnDone
  /-- STAT_START (R69). -/
  | statStart (ch : Nat) (log2n : Nat)
  /-- STAT_DONE (R69). -/
  | statDone
  /-- ALIGN (R71). -/
  | alignChk
  /-- CPR_WRITE (R66). -/
  | cprWrite (k : Nat) (cpr : Nat)
  /-- AFE_CFG_WRITE (R65). -/
  | afeCfgWrite (off : Nat) (value : Nat) (master : Nat)
  /-- FINE_SNAPSHOT (R59). -/
  | fineSnapshot (k : Nat) (master : Nat)
  /-- PUSH (R80). -/
  | push (src : PushSrc)
  /-- PUSH_COMMIT (R80). -/
  | pushCommit (src : PushSrc)
  /-- COMMIT (R80). -/
  | commit (src : PushSrc)
  /-- ABORT (R80). -/
  | abort (src : PushSrc)
  /-- INIT (R97). -/
  | queInit (q : Nat)
  /-- RESUME (R97). -/
  | queResume (q : Nat)
  /-- PAUSE (R97). -/
  | quePause (q : Nat)
  /-- SKIP (R102). -/
  | queSkip (q : Nat)
  /-- DISABLE (R97). -/
  | queDisable (q : Nat)
  /-- REPAIR (R102). -/
  | queRepair (q : Nat)
  /-- SET_LATE (R97). -/
  | queSetLate (q : Nat) (late : Nat)
  /-- BAR_OPEN (R93). -/
  | queBarOpen (q : Nat) (b : Nat)
  /-- QUE_DRAIN_DONE (R98). -/
  | queDrainDone
  /-- STALE_HEAD_SWEEP (R95). -/
  | staleHeadSweep
  /-- BARRIER_OPENING (R93). -/
  | barrierOpening (b : Nat)
  /-- GROUP_ENABLE_WRITE (R100). -/
  | groupEnableWrite (v : W64)
  /-- CRING_ENABLE (R101). -/
  | cringEnable (g : Nat) (base : Nat) (log2len : Nat)
  /-- COMPLETION_RECORD (R101). -/
  | completionRecord
  /-- HALT_LOG_READ (R102). -/
  | haltLogRead
  /-- SELECT (R110). -/
  | selectTick
  /-- NIB_ARM (R106). -/
  | nibArm
  /-- RETIME (R114). -/
  | retime (k : Nat)
  /-- DESCRIPTOR_RESTORE (R121). -/
  | descriptorRestore
  /-- GUARD (R115). -/
  | guardTick
  /-- FIRE (R118). -/
  | fire
  /-- TRAILING_EDGE (R135). -/
  | trailingEdge
  /-- ECHO_APPLY (R126). -/
  | echoApply
  /-- DELAY_WRITE (R127). -/
  | delayWrite (chan : Bool) (n : Nat) (v : Nat)
  /-- RESEED (R127). -/
  | reseed (c : Nat)
  /-- NIB_RECORD_READ (R106). -/
  | nibRecordRead (k : Nat)
  /-- FRAME_CUT (R138). -/
  | frameCut (st : Nat)
  /-- STRING_SHIFT_END (R141). -/
  | stringShiftEnd (st : Nat) (sdi : BitVec 256)
  /-- STRING_LATCH (R140). -/
  | stringLatch (st : Nat)
  /-- SAFE_IMAGE_LATCH (R143). -/
  | safeImageLatch (st : Nat) (sdi : BitVec 256)
  /-- ECHO_EDGE (R148). -/
  | echoEdge (u : Nat) (samples : Nat) (rising : Bool)
  /-- ECHO_TIMEOUT (R148). -/
  | echoTimeout (u : Nat)
  /-- CHN_BIND_WRITE (R132). -/
  | chnBindWrite (word : Option Nat) (n : Nat) (v : Nat)
  /-- START (R154). -/
  | scrStart (p : Nat) (pass : Bool)
  /-- STOP (R154). -/
  | scrStop (p : Nat)
  /-- RESET (R154). -/
  | scrReset (p : Nat)
  /-- FC_INVAL (R156). -/
  | fcInval (p : Nat)
  /-- LOCKSTEP_MISMATCH (R152). -/
  | lockstepMismatch (p : Nat)
  /-- FETCH_CACHE_REFILL (R156). -/
  | fetchCacheRefill (p : Nat) (addr : Nat) (drop : Bool)
  /-- ADD (R161). -/
  | sAdd (p : Nat) (rd : Nat) (ra : Nat) (rb : Nat) (sat : Bool)
  /-- SUB (R161). -/
  | sSub (p : Nat) (rd : Nat) (ra : Nat) (rb : Nat) (sat : Bool)
  /-- ADDU (R161). -/
  | sAddu (p : Nat) (rd : Nat) (ra : Nat) (rb : Nat) (sat : Bool)
  /-- SUBU (R161). -/
  | sSubu (p : Nat) (rd : Nat) (ra : Nat) (rb : Nat) (sat : Bool)
  /-- AND (R161). -/
  | sAnd (p : Nat) (rd : Nat) (ra : Nat) (rb : Nat)
  /-- OR (R161). -/
  | sOr (p : Nat) (rd : Nat) (ra : Nat) (rb : Nat)
  /-- XOR (R161). -/
  | sXor (p : Nat) (rd : Nat) (ra : Nat) (rb : Nat)
  /-- ANDN (R161). -/
  | sAndn (p : Nat) (rd : Nat) (ra : Nat) (rb : Nat)
  /-- SLL (R161). -/
  | sSll (p : Nat) (rd : Nat) (ra : Nat) (rb : Nat)
  /-- SRL (R161). -/
  | sSrl (p : Nat) (rd : Nat) (ra : Nat) (rb : Nat)
  /-- SRA (R161). -/
  | sSra (p : Nat) (rd : Nat) (ra : Nat) (rb : Nat)
  /-- ROR (R161). -/
  | sRor (p : Nat) (rd : Nat) (ra : Nat) (rb : Nat)
  /-- SLT (R161). -/
  | sSlt (p : Nat) (rd : Nat) (ra : Nat) (rb : Nat)
  /-- SLTU (R161). -/
  | sSltu (p : Nat) (rd : Nat) (ra : Nat) (rb : Nat)
  /-- MIN (R161). -/
  | sMin (p : Nat) (rd : Nat) (ra : Nat) (rb : Nat)
  /-- MAX (R161). -/
  | sMax (p : Nat) (rd : Nat) (ra : Nat) (rb : Nat)
  /-- MINU (R161). -/
  | sMinu (p : Nat) (rd : Nat) (ra : Nat) (rb : Nat)
  /-- MAXU (R161). -/
  | sMaxu (p : Nat) (rd : Nat) (ra : Nat) (rb : Nat)
  /-- MUL (R161). -/
  | sMul (p : Nat) (rd : Nat) (ra : Nat) (rb : Nat)
  /-- MULH (R161). -/
  | sMulh (p : Nat) (rd : Nat) (ra : Nat) (rb : Nat)
  /-- MULHU (R161). -/
  | sMulhu (p : Nat) (rd : Nat) (ra : Nat) (rb : Nat)
  /-- CLZ (R161). -/
  | sClz (p : Nat) (rd : Nat) (ra : Nat)
  /-- CTZ (R161). -/
  | sCtz (p : Nat) (rd : Nat) (ra : Nat)
  /-- POPC (R161). -/
  | sPopc (p : Nat) (rd : Nat) (ra : Nat)
  /-- LOCLR (R161). -/
  | sLoclr (p : Nat) (rd : Nat) (ra : Nat)
  /-- BREV (R161). -/
  | sBrev (p : Nat) (rd : Nat) (ra : Nat)
  /-- AWIN (R161). -/
  | sAwin (p : Nat) (rd : Nat) (ra : Nat) (rb : Nat)
  /-- ADDM (R161). -/
  | sAddm (p : Nat) (rd : Nat) (ra : Nat) (rb : Nat)
  /-- SUBM (R161). -/
  | sSubm (p : Nat) (rd : Nat) (ra : Nat) (rb : Nat)
  /-- ADDI (R161). -/
  | sAddi (p : Nat) (rd : Nat) (ra : Nat) (imm : Nat)
  /-- ANDI (R161). -/
  | sAndi (p : Nat) (rd : Nat) (ra : Nat) (imm : Nat)
  /-- ORI (R161). -/
  | sOri (p : Nat) (rd : Nat) (ra : Nat) (imm : Nat)
  /-- XORI (R161). -/
  | sXori (p : Nat) (rd : Nat) (ra : Nat) (imm : Nat)
  /-- LUI (R161). -/
  | sLui (p : Nat) (rd : Nat) (imm : Nat)
  /-- SLTI (R161). -/
  | sSlti (p : Nat) (rd : Nat) (ra : Nat) (imm : Nat)
  /-- SLTIU (R161). -/
  | sSltiu (p : Nat) (rd : Nat) (ra : Nat) (imm : Nat)
  /-- SLLI (R161). -/
  | sSlli (p : Nat) (rd : Nat) (ra : Nat) (sh : Nat)
  /-- SRLI (R161). -/
  | sSrli (p : Nat) (rd : Nat) (ra : Nat) (sh : Nat)
  /-- SRAI (R161). -/
  | sSrai (p : Nat) (rd : Nat) (ra : Nat) (sh : Nat)
  /-- SHRR (R161). -/
  | sShrr (p : Nat) (rd : Nat) (ra : Nat) (sh : Nat) (rm : Nat)
  /-- MULQ (R160). -/
  | sMulq (p : Nat) (rd : Nat) (ra : Nat) (rb : Nat) (sh : Nat) (rm : Nat) (sat : Bool) (u : Bool)
  /-- MAC (R161). -/
  | sMac (p : Nat) (ra : Nat) (rb : Nat) (sat : Bool)
  /-- MSU (R161). -/
  | sMsu (p : Nat) (ra : Nat) (rb : Nat) (sat : Bool)
  /-- MULA (R161). -/
  | sMula (p : Nat) (ra : Nat) (rb : Nat) (sat : Bool)
  /-- ACCR (R161). -/
  | sAccr (p : Nat) (rd : Nat) (sh : Nat) (rm : Nat) (sat : Bool) (u : Bool)
  /-- ACCL (R161). -/
  | sAccl (p : Nat) (rd : Nat)
  /-- ACCH (R161). -/
  | sAcch (p : Nat) (rd : Nat)
  /-- ACCW (R161). -/
  | sAccw (p : Nat) (ra : Nat)
  /-- DIV (R161). -/
  | sDiv (p : Nat) (rd : Nat) (ra : Nat) (rb : Nat) (rm : Nat) (sat : Bool) (u : Bool)
  /-- LDW (R161). -/
  | sLdw (p : Nat) (rd : Nat) (ra : Nat) (imm : Nat)
  /-- LDH (R161). -/
  | sLdh (p : Nat) (rd : Nat) (ra : Nat) (imm : Nat)
  /-- LDHU (R161). -/
  | sLdhu (p : Nat) (rd : Nat) (ra : Nat) (imm : Nat)
  /-- LDB (R161). -/
  | sLdb (p : Nat) (rd : Nat) (ra : Nat) (imm : Nat)
  /-- LDBU (R161). -/
  | sLdbu (p : Nat) (rd : Nat) (ra : Nat) (imm : Nat)
  /-- STW (R161). -/
  | sStw (p : Nat) (rs : Nat) (ra : Nat) (imm : Nat)
  /-- STH (R161). -/
  | sSth (p : Nat) (rs : Nat) (ra : Nat) (imm : Nat)
  /-- STB (R161). -/
  | sStb (p : Nat) (rs : Nat) (ra : Nat) (imm : Nat)
  /-- BEQ (R161). -/
  | sBeq (p : Nat) (ra : Nat) (rb : Nat) (off : Nat)
  /-- BNE (R161). -/
  | sBne (p : Nat) (ra : Nat) (rb : Nat) (off : Nat)
  /-- BLT (R161). -/
  | sBlt (p : Nat) (ra : Nat) (rb : Nat) (off : Nat)
  /-- BGE (R161). -/
  | sBge (p : Nat) (ra : Nat) (rb : Nat) (off : Nat)
  /-- BLTU (R161). -/
  | sBltu (p : Nat) (ra : Nat) (rb : Nat) (off : Nat)
  /-- BGEU (R161). -/
  | sBgeu (p : Nat) (ra : Nat) (rb : Nat) (off : Nat)
  /-- JAL (R161). -/
  | sJal (p : Nat) (rd : Nat) (off : Nat)
  /-- JALR (R161). -/
  | sJalr (p : Nat) (rd : Nat) (ra : Nat) (imm : Nat)
  /-- RDS (R162). -/
  | sRds (p : Nat) (rd : Nat) (sel : Nat)
  /-- WRS (R162). -/
  | sWrs (p : Nat) (ra : Nat) (sel : Nat)
  /-- XPUSH (R164). -/
  | sXpush (p : Nat) (rd : Nat) (ra : Nat) (rb : Nat) (t : Nat) (c : Bool)
  /-- QFREE (R163). -/
  | sQfree (p : Nat) (rd : Nat) (ra : Nat)
  /-- PFETCH (R165). -/
  | sPfetch (p : Nat) (rd : Nat) (ra : Nat) (rb : Nat) (n : Nat)
  /-- PFETCH_BURST (R165). -/
  | pfetchBurst (p : Nat) (tag : Nat)
  /-- PWAIT (R165). -/
  | sPwait (p : Nat) (rd : Nat) (ra : Nat)
  /-- WAIT (R166). -/
  | sWait (p : Nat) (rd : Nat) (ra : Nat) (mask : Nat)
  /-- WAIT_CONDITION (R166). -/
  | waitCondition (p : Nat)
  /-- WAIT_TIMEOUT (R166). -/
  | waitTimeout (p : Nat)
  /-- SIGNAL (R161). -/
  | sSignal (p : Nat) (m : Nat)
  /-- TRAP (R167). -/
  | sTrap (p : Nat) (n : Nat)
  /-- RETT (R167). -/
  | sRett (p : Nat)
  /-- HALT (R154). -/
  | sHalt (p : Nat)
  /-- DEBUG_HALT (R170). -/
  | debugHalt (p : Nat) (bp0 : Bool) (bp1 : Bool)
  /-- DEBUG_STEP (R170). -/
  | debugStep (p : Nat) (bp0 : Bool) (bp1 : Bool)
  /-- DEBUG_RESUME (R170). -/
  | debugResume (p : Nat) (bp0 : Bool) (bp1 : Bool)
  /-- BREAKPOINT (R170). -/
  | breakpoint (p : Nat)
  /-- DEBUG_REG_WRITE (R170). -/
  | debugRegWrite (v : Nat)
  /-- CHAIN_CONTENTION (R178). -/
  | chainContention (chain : Nat) (enables : Nat)
  /-- FPLL_LOSS (R182). -/
  | fpllLoss (m : Nat)
  /-- FABRIC_FAULT_LINE (R189). -/
  | fabricFaultLine (n : Nat) (level : Bool)
  /-- FABRIC_DICT_ANSWER (R192). -/
  | fabricDictAnswer (resp : DictAns) (data : W64)
  /-- FABRIC_DICT_TIMEOUT (R192). -/
  | fabricDictTimeout
  /-- FABRIC_WINDOW_TIMEOUT (R16). -/
  | fabricWindowTimeout
  /-- LOUPE_WRITE (R187). -/
  | loupeWrite (probe : Option Nat) (v : Nat)
  /-- AUTH_BANK (R196). -/
  | authBank (master : Nat) (b : Nat)
  /-- CFG_ERASE_BLOCK (R206). -/
  | cfgEraseBlock (master : Nat) (b : Nat)
  /-- CFG_PROGRAM_PAGE (R206). -/
  | cfgProgramPage (master : Nat) (b : Nat)
  /-- READ_PAGE (R205). -/
  | readPage (master : Nat) (b : Nat)
  /-- HASH_SLOT (R205). -/
  | hashSlot (master : Nat) (b : Nat) (slot : Nat)
  /-- SHADOW_LOAD (R208). -/
  | shadowLoad (master : Nat) (b : Nat) (slot : Nat) (sector : Nat)
  /-- SHADOW_STREAM_END (R208). -/
  | shadowStreamEnd (readback : Bool)
  /-- SHADOW_CLEAR (R212). -/
  | shadowClear (master : Nat) (sector : Nat)
  /-- CFG_COMMIT (R209). -/
  | cfgCommit (master : Nat) (b : Nat)
  /-- COMMIT_PHASE_END (R209). -/
  | commitPhaseEnd (margin : Bool)
  /-- RESTART (R205). -/
  | restart (master : Nat)
  /-- ROW_ERASE (R206). -/
  | rowErase (master : Nat)
  /-- ROW_PROGRAM (R206). -/
  | rowProgram (master : Nat)
  /-- CFG_CMD_DONE (R205). -/
  | cfgCmdDone
  /-- CONFIG_SCRUB_FRAME (R216). -/
  | configScrubFrame (sector : Nat) (plane : Nat) (find : ScrubFind) (repairOk : Bool)
  /-- UFL_ERASE_BLOCK (R259). -/
  | uflEraseBlock (master : Nat)
  /-- UFL_PROGRAM_PAGE (R257). -/
  | uflProgramPage (master : Nat)
  /-- COMPARE_PAGE (R258). -/
  | comparePage (master : Nat)
  /-- BLANK_CHECK (R256). -/
  | blankCheck (master : Nat)
  /-- UFL_CMD_DONE (R257). -/
  | uflCmdDone
  /-- XO_WRITE (R262). -/
  | xoWrite (i : Nat) (v : Nat)
  /-- STORE (R280). -/
  | storeAll (client : Nat) (tag : Nat)
  /-- RESTORE (R281). -/
  | restoreAll (client : Nat) (tag : Nat)
  /-- STORE_DONE (R267). -/
  | storeDone (fail : Option Nat)
  /-- RETAINED_UPDATE (R277). -/
  | retainedUpdate
  /-- REGION_REWRITE (R277). -/
  | regionRewrite
  /-- USDO_REQUEST (R287). -/
  | usdoRequest (client : Nat) (op : UsdoOp)
  /-- USDO_TIMEOUT (R284). -/
  | usdoTimeout (session : Nat)
  /-- TAGGED_WRITE (R282). -/
  | taggedWrite (client : Nat) (tag : Nat) (content : List Byte)
  /-- RPDO (R289). -/
  | rpdo (n : Nat) (data : List Byte)
  /-- TPDO (R288). -/
  | tpdo (n : Nat) (timer : Bool)
  /-- SYNC (R290). -/
  | sync (late : List Nat)
  /-- SYNC_PRODUCE (R290). -/
  | syncProduce (late : List Nat)
  /-- HEARTBEAT_PRODUCE (R286). -/
  | heartbeatProduce
  /-- HEARTBEAT_RECEIVE (R291). -/
  | heartbeatReceive (node : Nat)
  /-- HEARTBEAT_TIMEOUT (R291). -/
  | heartbeatTimeout (i : Nat)
  /-- BUS_OFF_RECOVERY (R291). -/
  | busOffRecovery (line : Nat)
  /-- EMCY_TRANSMIT (R292). -/
  | emcyTransmit
  /-- SRDO_RECEIVE (R293). -/
  | srdoReceive (n : Nat) (data : List Byte) (inverse : List Byte)
  /-- SRDO_TRANSMIT (R293). -/
  | srdoTransmit (n : Nat)
  /-- SRDO_TIMEOUT (R293). -/
  | srdoTimeout (n : Nat)
  /-- BUS_READ (R297). -/
  | spiBusRead (tag : Nat) (addr : Nat) (len : Nat)
  /-- BUS_WRITE (R297). -/
  | spiBusWrite (tag : Nat) (addr : Nat) (data : List Byte)
  /-- DICT_READ (R297). -/
  | spiDictRead (tag : Nat) (index : Nat) (sub : Nat) (off : Nat) (len : Nat)
  /-- DICT_WRITE (R297). -/
  | spiDictWrite (tag : Nat) (index : Nat) (sub : Nat) (off : Nat) (data : List Byte)
  /-- STATUS (R297). -/
  | spiStatus (tag : Nat)
  /-- RESULT (R297). -/
  | spiResult (tag : Nat)
  /-- SPI_ABANDON (R298). -/
  | spiAbandon
  /-- NET_WAKE (R294). -/
  | netWake (line : Nat)
  /-- IRQ_SOURCE_EVENT (R303). -/
  | irqSourceEvent (i : Nat) (level : Bool)
  /-- CLAIM (R305). -/
  | claim (t : Nat)
  /-- COMPLETE (R306). -/
  | complete (t : Nat) (i : Nat)
  /-- PEND_CLEAR (R303). -/
  | pendClear (i : Nat)
  /-- PEND_SET (R303). -/
  | pendSet (i : Nat)
  /-- MODERATION_TIMER (R307). -/
  | moderationTimer (t : Nat)
  /-- LOG_WRITE (R315). -/
  | logWrite
  /-- LOG_USER (R318). -/
  | logUser (v : Nat) (master : Nat)
  /-- RSEQ_WRITE (R317). -/
  | rseqWrite (v : Nat)
  /-- QUAL_ACK (R313). -/
  | qualAck
  /-- LOG_TIME_READ (R311). -/
  | logTimeRead
  /-- AON_SOURCE_SWITCH (R312). -/
  | aonSourceSwitch (rc : Bool)
  /-- EXPORT (R320). -/
  | logExport
  /-- EXPORT_ABORT (R320). -/
  | exportAbort
  /-- EXPORT_DONE (R320). -/
  | exportDone (stop : Option Nat)
  /-- PWR_PL_REQUEST (R323). -/
  | plRequest (target : Nat)
  /-- PL_CHANGE_DONE (R324). -/
  | plChangeDone
  /-- WAKE_PIN (R330). -/
  | wakePin (level : Bool)
  /-- HSP_CS_WAKE (R330). -/
  | hspCsWake
  /-- MOTION_WAKE (R330). -/
  | motionWake
  /-- WAKE_TIMER (R330). -/
  | wakeTimer
  /-- WAKE_DONE (R331). -/
  | wakeDone
  /-- IDLE_TIMER (R333). -/
  | idleTimer
  /-- DEEPEN_TIMER (R332). -/
  | deepenTimer
  /-- BANK_SUPPLY_LOST (R339). -/
  | bankSupplyLost (n : Nat)
  /-- BANK_SUPPLY_RETURN (R339). -/
  | bankSupplyReturn (n : Nat)
  /-- VIN_LOW (R340). -/
  | vinLow (low : Bool)
  /-- FAULT_INPUT (R344). -/
  | faultInput (i : Nat)
  /-- FAULT_ACK (R346). -/
  | faultAck (mask : Nat)
  /-- SAF_LOCK_WRITE (R347). -/
  | safLockWrite (v : Nat)
  /-- REGULATOR_MONITOR_TRIP (R348). -/
  | regulatorMonitorTrip
  /-- CLOCK_MONITOR_TRIP (R348). -/
  | clockMonitorTrip
  /-- PATH_MONITOR_TEST (R348). -/
  | pathMonitorTest (pass : Bool)
  /-- READBACK_MISMATCH (R350). -/
  | readbackMismatch (path : Nat) (level : Bool)
  /-- GRACE_EXPIRY (R351). -/
  | graceExpiry
  /-- WDG_KICK (R352). -/
  | wdgKick (key : Nat) (master : Nat)
  /-- WDG_WINDOW_OPEN (R353). -/
  | wdgWindowOpen
  /-- WDG_EXPIRY (R352). -/
  | wdgExpiry
  /-- BIST_SLICE (R356). -/
  | bistSlice (t : Nat)
  /-- BIST_SLICE_END (R359). -/
  | bistSliceEnd (t : Nat) (elements : Nat) (stuck : List Stuck)
  /-- BIST_PASS_LATE (R355). -/
  | bistPassLate (t : Nat)
  /-- BST_STOP (R362). -/
  | bstStop (t : Nat)
  /-- BST_RESUME (R362). -/
  | bstResume (t : Nat)
  /-- RESTART_PASS (R362). -/
  | restartPass (t : Nat)
  /-- BST_TGT_EN_WRITE (R362). -/
  | bstTgtEnWrite (v : Nat)
  /-- BST_INJ_ARM (R362). -/
  | bstInjArm (t : Nat)
  /-- PROVISION (R367). -/
  | provision (key : Nat) (slot : Nat) (master : Nat)
  /-- CLOSE (R368). -/
  | close (key : Nat) (master : Nat)
  /-- SCRAP (R379). -/
  | scrap (key : Nat) (master : Nat)
  /-- RAISE_FLOOR (R371). -/
  | raiseFloor (key : Nat) (master : Nat)
  /-- BUMP_DBG_CTR (R374). -/
  | bumpDbgCtr (key : Nat) (master : Nat)
  /-- LCS_CMD_DONE (R367). -/
  | lcsCmdDone
  /-- PRESENT (R373). -/
  | present (master : Nat)
  /-- CERT_CHECK_DONE (R373). -/
  | certCheckDone
  /-- REVOKE (R374). -/
  | revoke (master : Nat)
  /-- EXTEST (R376). -/
  | jtagExtest
  /-- SAMPLE_PRELOAD (R376). -/
  | jtagSamplePreload
  /-- IDCODE (R375). -/
  | jtagIdcode
  /-- HIGHZ (R376). -/
  | jtagHighz
  /-- BYPASS (R375). -/
  | jtagBypass
  /-- DBG_ACCESS (R377). -/
  | dbgAccess (write : Bool) (addr : Nat) (size : Nat) (data : W64)
  /-- LCS_STATUS (R375). -/
  | jtagLcsStatus
  /-- FREEZE_READ (R378). -/
  | freezeRead (addr : Nat) (space : Nat) (load : Bool)
  /-- RESET_N_RELEASE (R21). -/
  | resetNRelease
  /-- RC_FIELD_READ (R7). -/
  | rcFieldRead (addr : Nat) (size : Nat) (master : Nat)
  /-- BUS_OFF (R291). -/
  | busOff (line : Nat)
  /-- ERROR_PASSIVE (R292). -/
  | errorPassive (line : Nat) (on : Bool)
  /-- RECEIVE_OVERRUN (R292). -/
  | receiveOverrun (line : Nat)
  /-- FABRIC_WINDOW_ACK (R189). -/
  | fabricWindowAck (data : W64)
  /-- JTAG_CLAMP (R376). -/
  | jtagClamp
  /-- TEST_LOGIC_RESET (R375). -/
  | testLogicReset
  /-- SPI_REQUEST_REJECTED (R299). -/
  | spiRequestRejected (frame : List Byte)
  /-- RAIL_WITHIN_WINDOW (R343). -/
  | railWithinWindow
  /-- CLOCK_WITHIN_WINDOW (R343). -/
  | clockWithinWindow
deriving DecidableEq, Repr

end Sys2Proof
end

