-- ==== Sys2Proof/WellFormed.lean ====
section
/-! DEFINITION. Which commands are well-formed: every operand names something the device has and fits its field. What an ill-formed
command does says nothing about the device. -/
namespace Sys2Proof

/-- The checks of an operand, by what it must be. -/
inductive Ill where
  /-- Not a 32-bit register value or address. -/
  | notWord
  /-- Not one of four PLLs. -/
  | notPll
  /-- Not the 17 decoders of the checker test. -/
  | notDecoders
  /-- Not an image slot. -/
  | notSlot
  /-- Not SLEEP_SEL. -/
  | notSleepSel
  /-- Not a phase of the self-test. -/
  | notTestPhase
  /-- Not a system address (R15). -/
  | notAddress
  /-- Not an access size in bytes. -/
  | notSize
  /-- Not a 64-bit value. -/
  | notDword
  /-- Not a bus master (Table 1.2). -/
  | notMaster
  /-- Not a place of a memory read. -/
  | notMemAt
  /-- Not a place of a full memory write. -/
  | notMemAtFull
  /-- Not a place of a narrow write. -/
  | notNarrowAt
  /-- Not a memory of Table 10.1. -/
  | notMemory
  /-- Not a large bank. -/
  | notLargeBank
  /-- Not an offset within a large bank. -/
  | notBankOffset
  /-- Not an 8-bit value. -/
  | notByte
  | notResp
  /-- Not a remap table. -/
  | notRemapTable
  /-- Not an entry of a remap table. -/
  | notRemapEntry
  /-- Not an SDRAM line. -/
  | notLine
  /-- Not a place in SDRAM. -/
  | notLineAt
  /-- Not the data of a line. -/
  | notLineData
  /-- Not the byte mask of a line. -/
  | notLineMask
  /-- Not an SDRAM rank. -/
  | notRank
  /-- Not an SDRAM device field. -/
  | notDevice
  /-- Not a DMA channel. -/
  | notDma
  /-- Not one of two. -/
  | notChannel
  /-- Not a number of samples. -/
  | notCount
  /-- Not a raw ADC code. -/
  | notAdcCode
  /-- Not REVS. -/
  | notRevs
  /-- Not a 5-bit field: a scribe register, a shift, a mask. -/
  | notRegister
  /-- Not an offset in the AFE block. -/
  | notAfeOffset
  /-- Not who pushes. -/
  | notPushSrc
  /-- Not a queue. -/
  | notQueue
  /-- Not a late policy. -/
  | notLate
  /-- Not a barrier. -/
  | notBarrier
  /-- Not a group. -/
  | notGroup
  /-- Not a granule. -/
  | notGranule
  /-- Not a nib. -/
  | notNib
  /-- Not a lead class or a channel. -/
  | notDelayEntry
  /-- Not a lead class. -/
  | notLeadClass
  /-- Not a string. -/
  | notString
  /-- Not an echo unit. -/
  | notEchoUnit
  /-- Not a word of SCFG. -/
  | notBindWord
  /-- Not a direct channel or a string. -/
  | notDirect
  /-- Not one of eight. -/
  | notPair
  /-- Not a 16-bit field. -/
  | notImm16
  /-- Not a 2-bit field. -/
  | notRounding
  /-- Not a 21-bit field. -/
  | notImm21
  /-- Not a fetch tag. -/
  | notFetchTag
  /-- Not a 4-bit value. -/
  | notNibble
  /-- Not a chain. -/
  | notChain
  /-- Not a loupe probe. -/
  | notProbe
  /-- Not a configuration bank or plane. -/
  | notBank
  /-- Not a sector. -/
  | notSector
  /-- Not a client that may ask for a store. -/
  | notStoreClient
  /-- Not a request tag or a 16-bit length. -/
  | notTag
  /-- Not a USDO client or the SPI port. -/
  | notClient
  /-- Not a USDO message. -/
  | notUsdoOp
  /-- Not a USDO session. -/
  | notSession
  /-- Not a USDO client or the SPI port. -/
  | notDictClient
  /-- Not the content of a tagged write. -/
  | notTagged
  /-- Not a PDO. -/
  | notPdo
  /-- Not the data of a PDO. -/
  | notPdoData
  /-- Not a node-ID. -/
  | notNode
  /-- Not the data of an SRDO frame. -/
  | notSrdoData
  /-- Not the data of a SPI frame. -/
  | notSpiData
  /-- Not an interrupt source. -/
  | notSource
  /-- Not an I/O bank. -/
  | notIoBank
  /-- Not a safety input. -/
  | notSafInput
  /-- Not a BIST target. -/
  | notBistTarget
  /-- Not a march element. -/
  | notMarchElement
  /-- Not a set of BIST targets. -/
  | notTargetSet
deriving DecidableEq, Repr

/-- A check that holds gives nothing, one that fails its name. -/
def refuse (c : Bool) (e : Ill) : List Ill := if c then [] else [e]

/-- The operand is an access size in bytes. -/
def sizeOk (v : Nat) : Bool :=
  [1, 2, 4, 8].contains v

/-- The operand is a bus master (Table 1.2). -/
def masterOk (v : Nat) : Bool :=
  decide (1 ≤ v ∧ v ≤ 4) || decide (0x10 ≤ v ∧ v ≤ 0x17)

/-- The operand is a place of a memory read. -/
def memAtOk (v : MemAt) : Bool :=
  match v with
    | .bus a n => decide (a < 2 ^ 32) && [1, 2, 4, 8].contains n
    | .word m i => decide (m < 16) && decide (i < 2 ^ 20)

/-- The operand is a place of a full memory write: the event store and the descriptors (memories 0 and 1) change only through the QUE
(R77). -/
def memAtFullOk (v : MemAt) : Bool :=
  match v with
    | .bus a n => decide (a < 2 ^ 32) && n == 8
    | .word m i => decide (2 ≤ m) && decide (m < 16) && decide (i < 2 ^ 20)

/-- The operand is a place of a narrow write, outside the event store and the descriptors (R77). -/
def narrowAtOk (v : NarrowAt) : Bool :=
  match v with
    | .bus a n => decide (a < 2 ^ 32) && [1, 2, 4].contains n
    | .word m i mask => decide (2 ≤ m) && decide (m < 16) && decide (i < 2 ^ 20) && decide (mask < 255)
    | .inkwell i ma mb _ => decide (i < 1152 * 512) && decide (0 < ma) && decide (ma < 2 ^ 64) && decide (mb < 2 ^ 64)

/-- The operand is a place in SDRAM. -/
def lineAtOk (v : LineAt) : Bool :=
  match v with
    | .window a n => decide (0x40000000 ≤ a ∧ a < 2 ^ 32) && [1, 2, 4, 8].contains n
    | .line l => decide (l < 2 ^ 34)

/-- The operand is who pushes. -/
def pushSrcOk (v : PushSrc) : Bool :=
  match v with
    | .port p q _ _ _ _ => decide (8 ≤ p ∧ p < 64) && decide (q < 65536)
    | .scribe p rd ra rb => decide (p < 8) && decide (rd < 32 ∧ ra < 32 ∧ rb < 32)

/-- The operand is a word of SCFG. -/
def bindWordOk (v : Option Nat) : Bool :=
  v.all (fun w => decide (w < 4))

/-- The operand is a loupe probe. -/
def probeOk (v : Option Nat) : Bool :=
  v.all (fun k => decide (k < 64))

/-- The operand is a client that may ask for a store. -/
def storeClientOk (v : Nat) : Bool :=
  decide (v < 128) || v == 255

/-- The operand is a USDO message. -/
def usdoOpOk (v : UsdoOp) : Bool :=
  match v with
    | .read i b _ _ => decide (i < 65536 ∧ b < 256)
    | .write i b _ _ => decide (i < 65536 ∧ b < 256)
    | .readBegin i b _ _ => decide (i < 65536 ∧ b < 256)
    | .writeBegin i b _ _ => decide (i < 65536 ∧ b < 256)
    | .readSegment j _ => decide (j < 4)
    | .writeSegment j _ => decide (j < 4)
    | .abort j => decide (j < 4)

/-- The operand is the content of a tagged write. -/
def taggedOk (v : List Byte) : Bool :=
  decide (v.length ≤ 64)

/-- The operand is the data of a PDO. -/
def pdoDataOk (v : List Byte) : Bool :=
  decide (v.length ≤ 64)

/-- The operand is the data of an SRDO frame. -/
def srdoDataOk (v : List Byte) : Bool :=
  decide (v.length ≤ 8)

/-- The operand is the data of a SPI frame. -/
def spiDataOk (v : List Byte) : Bool :=
  decide (v.length ≤ 4096)

/-- The checks a command fails. -/
def Instr.ill (i : Instr) : List Ill :=
  match i with
  | .powerOn => []
  | .brownOut => []
  | .resetN => []
  | .freezeN => []
  | .warmReset v => refuse (decide (v < 2 ^ 32)) .notWord
  | .pllLock => []
  | .pllLockRetry which => refuse (decide (which < 4)) .notPll
  | .pinSettle => []
  | .lcsVote => []
  | .startupTestEnd chk _ => refuse (decide (chk < 2 ^ 17)) .notDecoders
  | .manifestAuth => []
  | .sectorStreamEnd slot _ => refuse (decide (slot < 32)) .notSlot
  | .loadRelease => []
  | .retentionCheck => []
  | .fabricDefaultsDone => []
  | .modeReqSelftest => []
  | .modeReqStandby => []
  | .modeReqRun => []
  | .modeReqSafe => []
  | .modeReqSleep sel => refuse (decide (sel < 4)) .notSleepSel
  | .sleepAbortPoint => []
  | .sleepEntryDone => []
  | .selftestEnd failPhase chk => refuse (decide (failPhase < 256)) .notTestPhase ++ refuse (decide (chk < 2 ^ 17)) .notDecoders
  | .standbyOutputsSafe => []
  | .nmtStartRemoteNode => []
  | .nmtEnterPreOperational => []
  | .nmtStopRemoteNode => []
  | .nmtResetNode => []
  | .nmtResetCommunication => []
  | .registerWrite addr size value master => refuse (decide (addr < 2 ^ 32)) .notAddress ++ refuse (sizeOk size) .notSize ++ refuse (decide (value < 2 ^ 64)) .notDword ++ refuse (masterOk master) .notMaster
  | .memoryRead loc master => refuse (memAtOk loc) .notMemAt ++ refuse (masterOk master) .notMaster
  | .memoryWrite loc _ master => refuse (memAtFullOk loc) .notMemAtFull ++ refuse (masterOk master) .notMaster
  | .narrowWrite loc _ master => refuse (narrowAtOk loc) .notNarrowAt ++ refuse (masterOk master) .notMaster
  | .mergeFlush m => refuse (decide (m < 16)) .notMemory
  | .writeBack m => refuse (decide (m < 16)) .notMemory
  | .scrubRead m => refuse (decide (m < 16)) .notMemory
  | .scrubCorrectWrite => []
  | .scrubPassLate m => refuse (decide (m < 16)) .notMemory
  | .bitSet bank off size _ master => refuse (decide (bank < 8)) .notLargeBank ++ refuse (decide (off < 2 ^ 21)) .notBankOffset ++ refuse (sizeOk size) .notSize ++ refuse (masterOk master) .notMaster
  | .bitClear bank off size _ master => refuse (decide (bank < 8)) .notLargeBank ++ refuse (decide (off < 2 ^ 21)) .notBankOffset ++ refuse (sizeOk size) .notSize ++ refuse (masterOk master) .notMaster
  | .atomicAdd bank off size _ master => refuse (decide (bank < 8)) .notLargeBank ++ refuse (decide (off < 2 ^ 21)) .notBankOffset ++ refuse (sizeOk size) .notSize ++ refuse (masterOk master) .notMaster
  | .atomicSwap bank off size _ master => refuse (decide (bank < 8)) .notLargeBank ++ refuse (decide (off < 2 ^ 21)) .notBankOffset ++ refuse (sizeOk size) .notSize ++ refuse (masterOk master) .notMaster
  | .ownerChange bank owner master => refuse (decide (bank < 8)) .notLargeBank ++ refuse (decide (owner < 256)) .notByte ++ refuse (masterOk master) .notMaster
  | .ownerChangeDone bank => refuse (decide (bank < 8)) .notLargeBank
  | .memInjArm addr m mask => refuse (decide (addr < 2 ^ 32)) .notWord ++ refuse (decide (m < 16)) .notMemory ++ refuse (decide (mask < 256)) .notByte
  | .memInjDisarm => []
  | .remapPromote tbl bank i name => refuse (decide (tbl < 3)) .notRemapTable ++ refuse (decide (bank < 8)) .notLargeBank ++ refuse (decide (i < 16)) .notRemapEntry ++ refuse (decide (name < 2 ^ 34)) .notLine
  | .remapRelease tbl bank i => refuse (decide (tbl < 3)) .notRemapTable ++ refuse (decide (bank < 8)) .notLargeBank ++ refuse (decide (i < 16)) .notRemapEntry
  | .xmcInit => []
  | .xmcTrainingDone _ => []
  | .sdramRead loc master => refuse (lineAtOk loc) .notLineAt ++ refuse (masterOk master) .notMaster
  | .sdramWrite loc data mask master => refuse (lineAtOk loc) .notLineAt ++ refuse (decide (data < 2 ^ 512)) .notLineData ++ refuse (decide (mask < 2 ^ 64)) .notLineMask ++ refuse (masterOk master) .notMaster
  | .sdramRefresh => []
  | .patrolLine => []
  | .patrolPassLate => []
  | .fill line lines _ => refuse (decide (line < 2 ^ 34)) .notLine ++ refuse (decide (lines < 2 ^ 34)) .notLine
  | .fillDone => []
  | .mark rank dev => refuse (decide (rank < 2)) .notRank ++ refuse (decide (dev < 32)) .notDevice
  | .unmark rank dev => refuse (decide (rank < 2)) .notRank ++ refuse (decide (dev < 32)) .notDevice
  | .patrolRestart => []
  | .xmcInjArm line devA devB _ => refuse (decide (line < 2 ^ 34)) .notLine ++ refuse (decide (devA < 32)) .notDevice ++ refuse (decide (devB < 32)) .notDevice
  | .xmcInjDisarm => []
  | .dmaStart n => refuse (decide (n < 32)) .notDma
  | .dmaStop n => refuse (decide (n < 32)) .notDma
  | .dmaClear n => refuse (decide (n < 32)) .notDma
  | .dmaBurst n _ => refuse (decide (n < 32)) .notDma
  | .dmaDescriptorEnd n _ => refuse (decide (n < 32)) .notDma
  | .encoderEdge k _ _ => refuse (decide (k < 2)) .notChannel
  | .zIndex k => refuse (decide (k < 2)) .notChannel
  | .lossOfSignal k _ => refuse (decide (k.chan < 2)) .notChannel
  | .adcSample k sn cs => refuse (decide (k < 2)) .notChannel ++ refuse (decide (sn < 65536)) .notAdcCode ++ refuse (decide (cs < 65536)) .notAdcCode
  | .adcConversionDone k => refuse (decide (k < 2)) .notChannel
  | .estimateUpdate => []
  | .stopTimeout k => refuse (decide (k < 2)) .notChannel
  | .tblSwap k => refuse (decide (k < 2)) .notChannel
  | .learnStart ch ref revs => refuse (decide (ch < 2)) .notChannel ++ refuse (decide (ref < 2)) .notChannel ++ refuse (decide (revs < 16)) .notRevs
  | .learnDone => []
  | .statStart ch log2n => refuse (decide (ch < 2)) .notChannel ++ refuse (decide (log2n < 32)) .notRegister
  | .statDone => []
  | .alignChk => []
  | .cprWrite k cpr => refuse (decide (k < 2)) .notChannel ++ refuse (decide (cpr < 2 ^ 32)) .notWord
  | .afeCfgWrite off value master => refuse (decide (off < 0x10000)) .notAfeOffset ++ refuse (decide (value < 2 ^ 32)) .notWord ++ refuse (masterOk master) .notMaster
  | .fineSnapshot k master => refuse (decide (k < 2)) .notChannel ++ refuse (masterOk master) .notMaster
  | .push src => refuse (pushSrcOk src) .notPushSrc
  | .pushCommit src => refuse (pushSrcOk src) .notPushSrc
  | .commit src => refuse (pushSrcOk src) .notPushSrc
  | .abort src => refuse (pushSrcOk src) .notPushSrc
  | .queInit q => refuse (decide (q < 65536)) .notQueue
  | .queResume q => refuse (decide (q < 65536)) .notQueue
  | .quePause q => refuse (decide (q < 65536)) .notQueue
  | .queSkip q => refuse (decide (q < 65536)) .notQueue
  | .queDisable q => refuse (decide (q < 65536)) .notQueue
  | .queRepair q => refuse (decide (q < 65536)) .notQueue
  | .queSetLate q late => refuse (decide (q < 65536)) .notQueue ++ refuse (decide (late < 4)) .notLate
  | .queBarOpen q b => refuse (decide (q < 65536)) .notQueue ++ refuse (decide (b < 256)) .notBarrier
  | .queDrainDone => []
  | .staleHeadSweep => []
  | .barrierOpening b => refuse (decide (b < 256)) .notBarrier
  | .groupEnableWrite _ => []
  | .cringEnable g base log2len => refuse (decide (g < 64)) .notGroup ++ refuse (decide (base < 2 ^ 18)) .notGranule ++ refuse (decide (log2len < 32)) .notRegister
  | .completionRecord => []
  | .haltLogRead => []
  | .selectTick => []
  | .nibArm => []
  | .retime k => refuse (decide (k < 1024)) .notNib
  | .descriptorRestore => []
  | .guardTick => []
  | .fire => []
  | .trailingEdge => []
  | .echoApply => []
  | .delayWrite _ n v => refuse (decide (n < 8704)) .notDelayEntry ++ refuse (decide (v < 2 ^ 32)) .notWord
  | .reseed c => refuse (decide (c < 256)) .notLeadClass
  | .nibRecordRead k => refuse (decide (k < 1024)) .notNib
  | .frameCut st => refuse (decide (st < 32)) .notString
  | .stringShiftEnd st _ => refuse (decide (st < 32)) .notString
  | .stringLatch st => refuse (decide (st < 32)) .notString
  | .safeImageLatch st _ => refuse (decide (st < 32)) .notString
  | .echoEdge u samples _ => refuse (decide (u < 32)) .notEchoUnit ++ refuse (decide (samples < 64)) .notCount
  | .echoTimeout u => refuse (decide (u < 32)) .notEchoUnit
  | .chnBindWrite word n v => refuse (bindWordOk word) .notBindWord ++ refuse (decide (n < 512)) .notDirect ++ refuse (decide (v < 2 ^ 32)) .notWord
  | .scrStart p _ => refuse (decide (p < 8)) .notPair
  | .scrStop p => refuse (decide (p < 8)) .notPair
  | .scrReset p => refuse (decide (p < 8)) .notPair
  | .fcInval p => refuse (decide (p < 8)) .notPair
  | .lockstepMismatch p => refuse (decide (p < 8)) .notPair
  | .fetchCacheRefill p addr _ => refuse (decide (p < 8)) .notPair ++ refuse (decide (addr < 2 ^ 32)) .notAddress
  | .sAdd p rd ra rb _ => refuse (decide (p < 8)) .notPair ++ refuse (decide (rd < 32)) .notRegister ++ refuse (decide (ra < 32)) .notRegister ++ refuse (decide (rb < 32)) .notRegister
  | .sSub p rd ra rb _ => refuse (decide (p < 8)) .notPair ++ refuse (decide (rd < 32)) .notRegister ++ refuse (decide (ra < 32)) .notRegister ++ refuse (decide (rb < 32)) .notRegister
  | .sAddu p rd ra rb _ => refuse (decide (p < 8)) .notPair ++ refuse (decide (rd < 32)) .notRegister ++ refuse (decide (ra < 32)) .notRegister ++ refuse (decide (rb < 32)) .notRegister
  | .sSubu p rd ra rb _ => refuse (decide (p < 8)) .notPair ++ refuse (decide (rd < 32)) .notRegister ++ refuse (decide (ra < 32)) .notRegister ++ refuse (decide (rb < 32)) .notRegister
  | .sAnd p rd ra rb => refuse (decide (p < 8)) .notPair ++ refuse (decide (rd < 32)) .notRegister ++ refuse (decide (ra < 32)) .notRegister ++ refuse (decide (rb < 32)) .notRegister
  | .sOr p rd ra rb => refuse (decide (p < 8)) .notPair ++ refuse (decide (rd < 32)) .notRegister ++ refuse (decide (ra < 32)) .notRegister ++ refuse (decide (rb < 32)) .notRegister
  | .sXor p rd ra rb => refuse (decide (p < 8)) .notPair ++ refuse (decide (rd < 32)) .notRegister ++ refuse (decide (ra < 32)) .notRegister ++ refuse (decide (rb < 32)) .notRegister
  | .sAndn p rd ra rb => refuse (decide (p < 8)) .notPair ++ refuse (decide (rd < 32)) .notRegister ++ refuse (decide (ra < 32)) .notRegister ++ refuse (decide (rb < 32)) .notRegister
  | .sSll p rd ra rb => refuse (decide (p < 8)) .notPair ++ refuse (decide (rd < 32)) .notRegister ++ refuse (decide (ra < 32)) .notRegister ++ refuse (decide (rb < 32)) .notRegister
  | .sSrl p rd ra rb => refuse (decide (p < 8)) .notPair ++ refuse (decide (rd < 32)) .notRegister ++ refuse (decide (ra < 32)) .notRegister ++ refuse (decide (rb < 32)) .notRegister
  | .sSra p rd ra rb => refuse (decide (p < 8)) .notPair ++ refuse (decide (rd < 32)) .notRegister ++ refuse (decide (ra < 32)) .notRegister ++ refuse (decide (rb < 32)) .notRegister
  | .sRor p rd ra rb => refuse (decide (p < 8)) .notPair ++ refuse (decide (rd < 32)) .notRegister ++ refuse (decide (ra < 32)) .notRegister ++ refuse (decide (rb < 32)) .notRegister
  | .sSlt p rd ra rb => refuse (decide (p < 8)) .notPair ++ refuse (decide (rd < 32)) .notRegister ++ refuse (decide (ra < 32)) .notRegister ++ refuse (decide (rb < 32)) .notRegister
  | .sSltu p rd ra rb => refuse (decide (p < 8)) .notPair ++ refuse (decide (rd < 32)) .notRegister ++ refuse (decide (ra < 32)) .notRegister ++ refuse (decide (rb < 32)) .notRegister
  | .sMin p rd ra rb => refuse (decide (p < 8)) .notPair ++ refuse (decide (rd < 32)) .notRegister ++ refuse (decide (ra < 32)) .notRegister ++ refuse (decide (rb < 32)) .notRegister
  | .sMax p rd ra rb => refuse (decide (p < 8)) .notPair ++ refuse (decide (rd < 32)) .notRegister ++ refuse (decide (ra < 32)) .notRegister ++ refuse (decide (rb < 32)) .notRegister
  | .sMinu p rd ra rb => refuse (decide (p < 8)) .notPair ++ refuse (decide (rd < 32)) .notRegister ++ refuse (decide (ra < 32)) .notRegister ++ refuse (decide (rb < 32)) .notRegister
  | .sMaxu p rd ra rb => refuse (decide (p < 8)) .notPair ++ refuse (decide (rd < 32)) .notRegister ++ refuse (decide (ra < 32)) .notRegister ++ refuse (decide (rb < 32)) .notRegister
  | .sMul p rd ra rb => refuse (decide (p < 8)) .notPair ++ refuse (decide (rd < 32)) .notRegister ++ refuse (decide (ra < 32)) .notRegister ++ refuse (decide (rb < 32)) .notRegister
  | .sMulh p rd ra rb => refuse (decide (p < 8)) .notPair ++ refuse (decide (rd < 32)) .notRegister ++ refuse (decide (ra < 32)) .notRegister ++ refuse (decide (rb < 32)) .notRegister
  | .sMulhu p rd ra rb => refuse (decide (p < 8)) .notPair ++ refuse (decide (rd < 32)) .notRegister ++ refuse (decide (ra < 32)) .notRegister ++ refuse (decide (rb < 32)) .notRegister
  | .sClz p rd ra => refuse (decide (p < 8)) .notPair ++ refuse (decide (rd < 32)) .notRegister ++ refuse (decide (ra < 32)) .notRegister
  | .sCtz p rd ra => refuse (decide (p < 8)) .notPair ++ refuse (decide (rd < 32)) .notRegister ++ refuse (decide (ra < 32)) .notRegister
  | .sPopc p rd ra => refuse (decide (p < 8)) .notPair ++ refuse (decide (rd < 32)) .notRegister ++ refuse (decide (ra < 32)) .notRegister
  | .sLoclr p rd ra => refuse (decide (p < 8)) .notPair ++ refuse (decide (rd < 32)) .notRegister ++ refuse (decide (ra < 32)) .notRegister
  | .sBrev p rd ra => refuse (decide (p < 8)) .notPair ++ refuse (decide (rd < 32)) .notRegister ++ refuse (decide (ra < 32)) .notRegister
  | .sAwin p rd ra rb => refuse (decide (p < 8)) .notPair ++ refuse (decide (rd < 32)) .notRegister ++ refuse (decide (ra < 32)) .notRegister ++ refuse (decide (rb < 32)) .notRegister
  | .sAddm p rd ra rb => refuse (decide (p < 8)) .notPair ++ refuse (decide (rd < 32)) .notRegister ++ refuse (decide (ra < 32)) .notRegister ++ refuse (decide (rb < 32)) .notRegister
  | .sSubm p rd ra rb => refuse (decide (p < 8)) .notPair ++ refuse (decide (rd < 32)) .notRegister ++ refuse (decide (ra < 32)) .notRegister ++ refuse (decide (rb < 32)) .notRegister
  | .sAddi p rd ra imm => refuse (decide (p < 8)) .notPair ++ refuse (decide (rd < 32)) .notRegister ++ refuse (decide (ra < 32)) .notRegister ++ refuse (decide (imm < 65536)) .notImm16
  | .sAndi p rd ra imm => refuse (decide (p < 8)) .notPair ++ refuse (decide (rd < 32)) .notRegister ++ refuse (decide (ra < 32)) .notRegister ++ refuse (decide (imm < 65536)) .notImm16
  | .sOri p rd ra imm => refuse (decide (p < 8)) .notPair ++ refuse (decide (rd < 32)) .notRegister ++ refuse (decide (ra < 32)) .notRegister ++ refuse (decide (imm < 65536)) .notImm16
  | .sXori p rd ra imm => refuse (decide (p < 8)) .notPair ++ refuse (decide (rd < 32)) .notRegister ++ refuse (decide (ra < 32)) .notRegister ++ refuse (decide (imm < 65536)) .notImm16
  | .sLui p rd imm => refuse (decide (p < 8)) .notPair ++ refuse (decide (rd < 32)) .notRegister ++ refuse (decide (imm < 65536)) .notImm16
  | .sSlti p rd ra imm => refuse (decide (p < 8)) .notPair ++ refuse (decide (rd < 32)) .notRegister ++ refuse (decide (ra < 32)) .notRegister ++ refuse (decide (imm < 65536)) .notImm16
  | .sSltiu p rd ra imm => refuse (decide (p < 8)) .notPair ++ refuse (decide (rd < 32)) .notRegister ++ refuse (decide (ra < 32)) .notRegister ++ refuse (decide (imm < 65536)) .notImm16
  | .sSlli p rd ra sh => refuse (decide (p < 8)) .notPair ++ refuse (decide (rd < 32)) .notRegister ++ refuse (decide (ra < 32)) .notRegister ++ refuse (decide (sh < 32)) .notRegister
  | .sSrli p rd ra sh => refuse (decide (p < 8)) .notPair ++ refuse (decide (rd < 32)) .notRegister ++ refuse (decide (ra < 32)) .notRegister ++ refuse (decide (sh < 32)) .notRegister
  | .sSrai p rd ra sh => refuse (decide (p < 8)) .notPair ++ refuse (decide (rd < 32)) .notRegister ++ refuse (decide (ra < 32)) .notRegister ++ refuse (decide (sh < 32)) .notRegister
  | .sShrr p rd ra sh rm => refuse (decide (p < 8)) .notPair ++ refuse (decide (rd < 32)) .notRegister ++ refuse (decide (ra < 32)) .notRegister ++ refuse (decide (sh < 32)) .notRegister ++ refuse (decide (rm < 4)) .notRounding
  | .sMulq p rd ra rb sh rm _ _ => refuse (decide (p < 8)) .notPair ++ refuse (decide (rd < 32)) .notRegister ++ refuse (decide (ra < 32)) .notRegister ++ refuse (decide (rb < 32)) .notRegister ++ refuse (decide (sh < 32)) .notRegister ++ refuse (decide (rm < 4)) .notRounding
  | .sMac p ra rb _ => refuse (decide (p < 8)) .notPair ++ refuse (decide (ra < 32)) .notRegister ++ refuse (decide (rb < 32)) .notRegister
  | .sMsu p ra rb _ => refuse (decide (p < 8)) .notPair ++ refuse (decide (ra < 32)) .notRegister ++ refuse (decide (rb < 32)) .notRegister
  | .sMula p ra rb _ => refuse (decide (p < 8)) .notPair ++ refuse (decide (ra < 32)) .notRegister ++ refuse (decide (rb < 32)) .notRegister
  | .sAccr p rd sh rm _ _ => refuse (decide (p < 8)) .notPair ++ refuse (decide (rd < 32)) .notRegister ++ refuse (decide (sh < 32)) .notRegister ++ refuse (decide (rm < 4)) .notRounding
  | .sAccl p rd => refuse (decide (p < 8)) .notPair ++ refuse (decide (rd < 32)) .notRegister
  | .sAcch p rd => refuse (decide (p < 8)) .notPair ++ refuse (decide (rd < 32)) .notRegister
  | .sAccw p ra => refuse (decide (p < 8)) .notPair ++ refuse (decide (ra < 32)) .notRegister
  | .sDiv p rd ra rb rm _ _ => refuse (decide (p < 8)) .notPair ++ refuse (decide (rd < 32)) .notRegister ++ refuse (decide (ra < 32)) .notRegister ++ refuse (decide (rb < 32)) .notRegister ++ refuse (decide (rm < 4)) .notRounding
  | .sLdw p rd ra imm => refuse (decide (p < 8)) .notPair ++ refuse (decide (rd < 32)) .notRegister ++ refuse (decide (ra < 32)) .notRegister ++ refuse (decide (imm < 65536)) .notImm16
  | .sLdh p rd ra imm => refuse (decide (p < 8)) .notPair ++ refuse (decide (rd < 32)) .notRegister ++ refuse (decide (ra < 32)) .notRegister ++ refuse (decide (imm < 65536)) .notImm16
  | .sLdhu p rd ra imm => refuse (decide (p < 8)) .notPair ++ refuse (decide (rd < 32)) .notRegister ++ refuse (decide (ra < 32)) .notRegister ++ refuse (decide (imm < 65536)) .notImm16
  | .sLdb p rd ra imm => refuse (decide (p < 8)) .notPair ++ refuse (decide (rd < 32)) .notRegister ++ refuse (decide (ra < 32)) .notRegister ++ refuse (decide (imm < 65536)) .notImm16
  | .sLdbu p rd ra imm => refuse (decide (p < 8)) .notPair ++ refuse (decide (rd < 32)) .notRegister ++ refuse (decide (ra < 32)) .notRegister ++ refuse (decide (imm < 65536)) .notImm16
  | .sStw p rs ra imm => refuse (decide (p < 8)) .notPair ++ refuse (decide (rs < 32)) .notRegister ++ refuse (decide (ra < 32)) .notRegister ++ refuse (decide (imm < 65536)) .notImm16
  | .sSth p rs ra imm => refuse (decide (p < 8)) .notPair ++ refuse (decide (rs < 32)) .notRegister ++ refuse (decide (ra < 32)) .notRegister ++ refuse (decide (imm < 65536)) .notImm16
  | .sStb p rs ra imm => refuse (decide (p < 8)) .notPair ++ refuse (decide (rs < 32)) .notRegister ++ refuse (decide (ra < 32)) .notRegister ++ refuse (decide (imm < 65536)) .notImm16
  | .sBeq p ra rb off => refuse (decide (p < 8)) .notPair ++ refuse (decide (ra < 32)) .notRegister ++ refuse (decide (rb < 32)) .notRegister ++ refuse (decide (off < 65536)) .notImm16
  | .sBne p ra rb off => refuse (decide (p < 8)) .notPair ++ refuse (decide (ra < 32)) .notRegister ++ refuse (decide (rb < 32)) .notRegister ++ refuse (decide (off < 65536)) .notImm16
  | .sBlt p ra rb off => refuse (decide (p < 8)) .notPair ++ refuse (decide (ra < 32)) .notRegister ++ refuse (decide (rb < 32)) .notRegister ++ refuse (decide (off < 65536)) .notImm16
  | .sBge p ra rb off => refuse (decide (p < 8)) .notPair ++ refuse (decide (ra < 32)) .notRegister ++ refuse (decide (rb < 32)) .notRegister ++ refuse (decide (off < 65536)) .notImm16
  | .sBltu p ra rb off => refuse (decide (p < 8)) .notPair ++ refuse (decide (ra < 32)) .notRegister ++ refuse (decide (rb < 32)) .notRegister ++ refuse (decide (off < 65536)) .notImm16
  | .sBgeu p ra rb off => refuse (decide (p < 8)) .notPair ++ refuse (decide (ra < 32)) .notRegister ++ refuse (decide (rb < 32)) .notRegister ++ refuse (decide (off < 65536)) .notImm16
  | .sJal p rd off => refuse (decide (p < 8)) .notPair ++ refuse (decide (rd < 32)) .notRegister ++ refuse (decide (off < 2 ^ 21)) .notImm21
  | .sJalr p rd ra imm => refuse (decide (p < 8)) .notPair ++ refuse (decide (rd < 32)) .notRegister ++ refuse (decide (ra < 32)) .notRegister ++ refuse (decide (imm < 65536)) .notImm16
  | .sRds p rd sel => refuse (decide (p < 8)) .notPair ++ refuse (decide (rd < 32)) .notRegister ++ refuse (decide (sel < 65536)) .notImm16
  | .sWrs p ra sel => refuse (decide (p < 8)) .notPair ++ refuse (decide (ra < 32)) .notRegister ++ refuse (decide (sel < 65536)) .notImm16
  | .sXpush p rd ra rb t _ => refuse (decide (p < 8)) .notPair ++ refuse (decide (rd < 32)) .notRegister ++ refuse (decide (ra < 32)) .notRegister ++ refuse (decide (rb < 32)) .notRegister ++ refuse (decide (t < 32)) .notRegister
  | .sQfree p rd ra => refuse (decide (p < 8)) .notPair ++ refuse (decide (rd < 32)) .notRegister ++ refuse (decide (ra < 32)) .notRegister
  | .sPfetch p rd ra rb n => refuse (decide (p < 8)) .notPair ++ refuse (decide (rd < 32)) .notRegister ++ refuse (decide (ra < 32)) .notRegister ++ refuse (decide (rb < 32)) .notRegister ++ refuse (decide (n < 256)) .notByte
  | .pfetchBurst p tag => refuse (decide (p < 8)) .notPair ++ refuse (decide (tag < 4)) .notFetchTag
  | .sPwait p rd ra => refuse (decide (p < 8)) .notPair ++ refuse (decide (rd < 32)) .notRegister ++ refuse (decide (ra < 32)) .notRegister
  | .sWait p rd ra mask => refuse (decide (p < 8)) .notPair ++ refuse (decide (rd < 32)) .notRegister ++ refuse (decide (ra < 32)) .notRegister ++ refuse (decide (mask < 32)) .notRegister
  | .waitCondition p => refuse (decide (p < 8)) .notPair
  | .waitTimeout p => refuse (decide (p < 8)) .notPair
  | .sSignal p m => refuse (decide (p < 8)) .notPair ++ refuse (decide (m < 16)) .notNibble
  | .sTrap p n => refuse (decide (p < 8)) .notPair ++ refuse (decide (n < 256)) .notByte
  | .sRett p => refuse (decide (p < 8)) .notPair
  | .sHalt p => refuse (decide (p < 8)) .notPair
  | .debugHalt p _ _ => refuse (decide (p < 8)) .notPair
  | .debugStep p _ _ => refuse (decide (p < 8)) .notPair
  | .debugResume p _ _ => refuse (decide (p < 8)) .notPair
  | .breakpoint p => refuse (decide (p < 8)) .notPair
  | .debugRegWrite v => refuse (decide (v < 2 ^ 32)) .notWord
  | .chainContention chain enables => refuse (decide (chain < 4096)) .notChain ++ refuse (decide (enables < 2 ^ 32)) .notWord
  | .fpllLoss m => refuse (decide (m < 4)) .notPll
  | .fabricFaultLine n _ => refuse (decide (n < 8)) .notPair
  | .fabricDictAnswer resp _ => refuse (decide (resp.resp < 4)) .notResp
  | .fabricDictTimeout => []
  | .fabricWindowTimeout => []
  | .loupeWrite probe v => refuse (probeOk probe) .notProbe ++ refuse (decide (v < 2 ^ 32)) .notWord
  | .authBank master b => refuse (masterOk master) .notMaster ++ refuse (decide (b < 2)) .notBank
  | .cfgEraseBlock master b => refuse (masterOk master) .notMaster ++ refuse (decide (b < 2)) .notBank
  | .cfgProgramPage master b => refuse (masterOk master) .notMaster ++ refuse (decide (b < 2)) .notBank
  | .readPage master b => refuse (masterOk master) .notMaster ++ refuse (decide (b < 2)) .notBank
  | .hashSlot master b slot => refuse (masterOk master) .notMaster ++ refuse (decide (b < 2)) .notBank ++ refuse (decide (slot < 32)) .notSlot
  | .shadowLoad master b slot sector => refuse (masterOk master) .notMaster ++ refuse (decide (b < 2)) .notBank ++ refuse (decide (slot < 32)) .notSlot ++ refuse (decide (sector < 32)) .notSector
  | .shadowStreamEnd _ => []
  | .shadowClear master sector => refuse (masterOk master) .notMaster ++ refuse (decide (sector < 32)) .notSector
  | .cfgCommit master b => refuse (masterOk master) .notMaster ++ refuse (decide (b < 2)) .notBank
  | .commitPhaseEnd _ => []
  | .restart master => refuse (masterOk master) .notMaster
  | .rowErase master => refuse (masterOk master) .notMaster
  | .rowProgram master => refuse (masterOk master) .notMaster
  | .cfgCmdDone => []
  | .configScrubFrame sector plane _ _ => refuse (decide (sector < 32)) .notSector ++ refuse (decide (plane < 2)) .notBank
  | .uflEraseBlock master => refuse (masterOk master) .notMaster
  | .uflProgramPage master => refuse (masterOk master) .notMaster
  | .comparePage master => refuse (masterOk master) .notMaster
  | .blankCheck master => refuse (masterOk master) .notMaster
  | .uflCmdDone => []
  | .xoWrite i v => refuse (decide (i < 8)) .notPair ++ refuse (decide (v < 2 ^ 32)) .notWord
  | .storeAll client tag => refuse (storeClientOk client) .notStoreClient ++ refuse (decide (tag < 65536)) .notTag
  | .restoreAll client tag => refuse (storeClientOk client) .notStoreClient ++ refuse (decide (tag < 65536)) .notTag
  | .storeDone _ => []
  | .retainedUpdate => []
  | .regionRewrite => []
  | .usdoRequest client op => refuse (decide (client < 128)) .notClient ++ refuse (usdoOpOk op) .notUsdoOp
  | .usdoTimeout session => refuse (decide (session < 4)) .notSession
  | .taggedWrite client tag content => refuse (decide (client < 128)) .notDictClient ++ refuse (decide (tag < 65536)) .notTag ++ refuse (taggedOk content) .notTagged
  | .rpdo n data => refuse (decide (n < 64)) .notPdo ++ refuse (pdoDataOk data) .notPdoData
  | .tpdo n _ => refuse (decide (n < 64)) .notPdo
  | .sync _ => []
  | .syncProduce _ => []
  | .heartbeatProduce => []
  | .heartbeatReceive node => refuse (decide (node < 128)) .notNode
  | .heartbeatTimeout i => refuse (decide (i < 8)) .notPair
  | .busOffRecovery line => refuse (decide (line < 2)) .notChannel
  | .emcyTransmit => []
  | .srdoReceive n data inverse => refuse (decide (n < 8)) .notPair ++ refuse (srdoDataOk data) .notSrdoData ++ refuse (srdoDataOk inverse) .notSrdoData
  | .srdoTransmit n => refuse (decide (n < 8)) .notPair
  | .srdoTimeout n => refuse (decide (n < 8)) .notPair
  | .spiBusRead tag addr len => refuse (decide (tag < 65536)) .notTag ++ refuse (decide (addr < 2 ^ 32)) .notWord ++ refuse (decide (len < 65536)) .notTag
  | .spiBusWrite tag addr data => refuse (decide (tag < 65536)) .notTag ++ refuse (decide (addr < 2 ^ 32)) .notWord ++ refuse (spiDataOk data) .notSpiData
  | .spiDictRead tag index sub off len => refuse (decide (tag < 65536)) .notTag ++ refuse (decide (index < 65536)) .notImm16 ++ refuse (decide (sub < 256)) .notByte ++ refuse (decide (off < 2 ^ 32)) .notWord ++ refuse (decide (len < 65536)) .notTag
  | .spiDictWrite tag index sub off data => refuse (decide (tag < 65536)) .notTag ++ refuse (decide (index < 65536)) .notImm16 ++ refuse (decide (sub < 256)) .notByte ++ refuse (decide (off < 2 ^ 32)) .notWord ++ refuse (spiDataOk data) .notSpiData
  | .spiStatus tag => refuse (decide (tag < 65536)) .notTag
  | .spiResult tag => refuse (decide (tag < 65536)) .notTag
  | .spiAbandon => []
  | .netWake line => refuse (decide (line < 2)) .notChannel
  | .irqSourceEvent i _ => refuse (decide (i < 1024)) .notSource
  | .claim t => refuse (decide (t < 8)) .notPair
  | .complete t i => refuse (decide (t < 8)) .notPair ++ refuse (decide (i < 1024)) .notSource
  | .pendClear i => refuse (decide (i < 1024)) .notSource
  | .pendSet i => refuse (decide (i < 1024)) .notSource
  | .moderationTimer t => refuse (decide (t < 8)) .notPair
  | .logWrite => []
  | .logUser v master => refuse (decide (v < 2 ^ 32)) .notWord ++ refuse (masterOk master) .notMaster
  | .rseqWrite v => refuse (decide (v < 2 ^ 32)) .notWord
  | .qualAck => []
  | .logTimeRead => []
  | .aonSourceSwitch _ => []
  | .logExport => []
  | .exportAbort => []
  | .exportDone _ => []
  | .plRequest target => refuse (decide (target < 4)) .notRounding
  | .plChangeDone => []
  | .wakePin _ => []
  | .hspCsWake => []
  | .motionWake => []
  | .wakeTimer => []
  | .wakeDone => []
  | .idleTimer => []
  | .deepenTimer => []
  | .bankSupplyLost n => refuse (decide (n < 14)) .notIoBank
  | .bankSupplyReturn n => refuse (decide (n < 14)) .notIoBank
  | .vinLow _ => []
  | .faultInput i => refuse (decide (i < 45)) .notSafInput
  | .faultAck mask => refuse (decide (mask < 2 ^ 64)) .notDword
  | .safLockWrite v => refuse (decide (v < 2 ^ 32)) .notWord
  | .regulatorMonitorTrip => []
  | .clockMonitorTrip => []
  | .pathMonitorTest _ => []
  | .readbackMismatch path _ => refuse (decide (path < 2)) .notChannel
  | .graceExpiry => []
  | .wdgKick key master => refuse (decide (key < 65536)) .notImm16 ++ refuse (masterOk master) .notMaster
  | .wdgWindowOpen => []
  | .wdgExpiry => []
  | .bistSlice t => refuse (decide (t < 19)) .notBistTarget
  | .bistSliceEnd t elements _ => refuse (decide (t < 19)) .notBistTarget ++ refuse (decide (elements < 8)) .notMarchElement
  | .bistPassLate t => refuse (decide (t < 19)) .notBistTarget
  | .bstStop t => refuse (decide (t < 32)) .notRegister
  | .bstResume t => refuse (decide (t < 32)) .notRegister
  | .restartPass t => refuse (decide (t < 32)) .notRegister
  | .bstTgtEnWrite v => refuse (decide (v < 2 ^ 19)) .notTargetSet
  | .bstInjArm t => refuse (decide (t < 32)) .notRegister
  | .provision key slot master => refuse (decide (key < 65536)) .notImm16 ++ refuse (decide (slot < 4)) .notRounding ++ refuse (masterOk master) .notMaster
  | .close key master => refuse (decide (key < 65536)) .notImm16 ++ refuse (masterOk master) .notMaster
  | .scrap key master => refuse (decide (key < 65536)) .notImm16 ++ refuse (masterOk master) .notMaster
  | .raiseFloor key master => refuse (decide (key < 65536)) .notImm16 ++ refuse (masterOk master) .notMaster
  | .bumpDbgCtr key master => refuse (decide (key < 65536)) .notImm16 ++ refuse (masterOk master) .notMaster
  | .lcsCmdDone => []
  | .present master => refuse (masterOk master) .notMaster
  | .certCheckDone => []
  | .revoke master => refuse (masterOk master) .notMaster
  | .jtagExtest => []
  | .jtagSamplePreload => []
  | .jtagIdcode => []
  | .jtagHighz => []
  | .jtagBypass => []
  | .dbgAccess _ addr size _ => refuse (decide (addr < 2 ^ 32)) .notAddress ++ refuse (sizeOk size) .notSize
  | .jtagLcsStatus => []
  | .freezeRead addr space _ => refuse (decide (addr < 2 ^ 32)) .notWord ++ refuse (decide (space < 4)) .notRounding
  | .resetNRelease => []
  | .rcFieldRead addr size master => refuse (decide (addr < 2 ^ 32)) .notAddress ++ refuse (sizeOk size) .notSize ++ refuse (masterOk master) .notMaster
  | .busOff line => refuse (decide (line < 2)) .notChannel
  | .errorPassive line _ => refuse (decide (line < 2)) .notChannel
  | .receiveOverrun line => refuse (decide (line < 2)) .notChannel
  | .fabricWindowAck _ => []
  | .jtagClamp => []
  | .testLogicReset => []
  | .spiRequestRejected _ => []
  | .railWithinWindow => []
  | .clockWithinWindow => []

/-- A well-formed command. -/
def Instr.wf (i : Instr) : Bool := i.ill.isEmpty

end Sys2Proof
end

