-- ==== Sys2Proof/Machine/Map.lean ====
section
/-! DEFINITION. The operations of the sparse table: look up, write in order, remove. -/
namespace Sys2Proof.Machine

open Sys2Proof

/-- The value listed for a key. -/
def mapGet? {α : Type} : SMap α → Nat → Option α
  | [], _ => none
  | e :: r, k => if e.1 = k then some e.2 else mapGet? r k

/-- The value of a key, `d` where the key is not listed. -/
def mapGet {α : Type} (d : α) (m : SMap α) (k : Nat) : α := (mapGet? m k).getD d

/-- List a value for a key, before the first greater key. -/
def mapPut {α : Type} : SMap α → Nat → α → SMap α
  | [], k, v => [(k, v)]
  | e :: r, k, v =>
    if k < e.1 then (k, v) :: e :: r
    else if k = e.1 then (k, v) :: r
    else e :: mapPut r k v

/-- Remove a key. -/
def mapDel {α : Type} : SMap α → Nat → SMap α
  | [], _ => []
  | e :: r, k => if e.1 = k then mapDel r k else e :: mapDel r k

/-- Write a value; a value equal to what an unlisted key reads as is not listed. -/
def mapSet {α : Type} [DecidableEq α] (d : α) (m : SMap α) (k : Nat) (v : α) : SMap α :=
  if v = d then mapDel m k else mapPut m k v

/-- Keep the entries whose key satisfies `p`. -/
def mapKeep {α : Type} (p : Nat → Bool) (m : SMap α) : SMap α := m.filter (fun e => p e.1)

/-- The keys rise strictly. -/
def mapWf {α : Type} (m : SMap α) : Bool :=
  match m with
  | [] => true
  | e :: r => r.all (fun f => decide (e.1 < f.1)) && mapWf r

/-- The keys rise strictly and no entry equals what an unlisted key reads as: the one canonical form of a table with
a default. -/
def mapCanon {α : Type} [DecidableEq α] (d : α) (m : SMap α) : Bool :=
  mapWf m && m.all (fun e => decide (e.2 ≠ d))

end Sys2Proof.Machine
end

