-- ==== Sys2Proof/Machine/Design.lean ====
section
/-! DEFINITION. What a sector image sets up in its sector (R171 to R185): the sources its wires select, beads, strands, chains, boundary
cells, math blocks, inkwell ports and I/O cells. The frame layout that encodes it belongs to the toolchain and the loader (R194). -/
namespace Sys2Proof.Machine

open Sys2Proof

/-- A signal that a hardened block gives the fabric (Table 8.4); the second number of a bus is its bit. -/
inductive PortSig where
  | ready (n : Nat)
  | statusValid (n : Nat)
  | status (n bit : Nat)
  | staged (n bit : Nat)
  | strobe
  | angle (bit : Nat)
  | frac (bit : Nat)
  | vel (bit : Nat)
  | dir
  | valid
  | referenced
  | crossing
  | mode (bit : Nat)
  | time (bit : Nat)
  | targetValid
  | targetAddr (bit : Nat)
  | targetWrite
  | targetData (bit : Nat)
  | dictValid
  | dictIndex (bit : Nat)
  | dictSub (bit : Nat)
  | dictWrite
  | dictSize (bit : Nat)
  | dictOffset (bit : Nat)
  | dictData (bit : Nat)
  | safeActive
deriving DecidableEq, Repr

/-- The source of a routing wire: every wire is driven by one multiplexer, and every select encoding names one source (R175). A LUT input
that selects a flip-flop of its own bead is the fast feedback (R172). -/
inductive WireSrc where
  | const (b : Bool)
  /-- A bead's LUT: its first output, or the second function of the same five inputs. -/
  | lut (bead : Nat) (second : Bool)
  /-- A bead's carry sum, and its carry out. -/
  | sum (bead : Nat)
  | carry (bead : Nat)
  | ff (bead : Nat) (one : Bool)
  | chain (k : Nat)
  /-- A boundary cell that brings a wire from another sector (R176). -/
  | cell (i : Nat)
  /-- A bit of a math block's output, and its SAT (false) or OVF flag; the block by its number in the sector. -/
  | math (block bit : Nat)
  | mathFlag (block : Nat) (ovf : Bool)
  /-- A bit of an inkwell port's data, and its CORR (0), UE (1) and COLL (2); port 2 × inkwell of the sector, plus 1 for port B. -/
  | ink (port bit : Nat)
  | inkFlag (port flag : Nat)
  /-- The input of a user pin. -/
  | pin (p : Nat)
  | sig (x : PortSig)
deriving DecidableEq, Repr, Inhabited

/-- What a flip-flop takes its data from (R172). -/
inductive FfData where
  | lut (second : Bool)
  | sum
  | bypass (x : WireSrc)
deriving DecidableEq, Repr, Inhabited

/-- The settings of one of a bead's flip-flops (R172 to R174). -/
structure FfCfg where
  data : FfData
  init : Bool
  /-- It uses the strand's clock enable; the set/reset acts on it, and sets it to 1 (else clears it). -/
  useCe : Bool
  useSr : Bool
  srSets : Bool
deriving DecidableEq, Repr, Inhabited

/-- The settings of a bead (R172): the table of its LUT, whether it is split into two functions of five inputs (the second in the low half
of the table), its inputs and its flip-flops. -/
structure BeadCfg where
  table : BitVec 64
  split : Bool
  input : Nat → WireSrc
  ff0 : FfCfg
  ff1 : FfCfg
deriving Inhabited

/-- The control set of a strand (R173): two global networks reach it and one of them clocks it, on either edge; a clock enable; a
set/reset, asynchronous or synchronous. -/
structure StrandCfg where
  netA : Nat
  netB : Nat
  useB : Bool
  falling : Bool
  ce : WireSrc
  sr : WireSrc
  async : Bool
deriving DecidableEq, Repr, Inhabited

/-- A tap of a chain: its number, enable and data (R177). -/
structure TapCfg where
  tap : Nat
  en : WireSrc
  data : WireSrc
deriving DecidableEq, Repr, Inhabited

/-- A chain: its taps in ascending order, and its monitor's sampling network and mode (R178). -/
structure ChainCfg where
  taps : List TapCfg
  net : Nat
  cmode : BitVec 2
deriving DecidableEq, Repr, Inhabited

/-- A boundary cell of a receiving sector (R176): the driving sector and its wire, and the isolation value: 0, 1, or hold-last. -/
structure CellCfg where
  sector : Nat
  wire : WireSrc
  iso : Option Bool
deriving DecidableEq, Repr, Inhabited

/-- The settings of a math block that the image gives (R179). -/
structure MathCfg where
  pre : Nat
  mode : Nat
  sh : Nat
  rm : Nat
  ow : Nat
  u : Bool
  sat : Bool
deriving DecidableEq, Repr, Inhabited

/-- A math block's settings, the clock network, operand wires by bit, load and flag-clear inputs, and which stages are registered
(R179, R180). -/
structure MathImg where
  cfg : MathCfg
  net : Nat
  a : Nat → WireSrc
  b : Nat → WireSrc
  c : Nat → WireSrc
  d : Nat → WireSrc
  load : WireSrc
  clear : WireSrc
  regIn : Bool
  regPre : Bool
  regMul : Bool
  regAcc : Bool
  regOut : Bool
deriving Inhabited

/-- A port of an inkwell (R181): clock network, width 2^logw bits, whether it reads and writes, the output register of latency 2, and its
wires. -/
structure InkImg where
  net : Nat
  logw : Nat
  reads : Bool
  writes : Bool
  late : Bool
  en : WireSrc
  we : WireSrc
  addr : Nat → WireSrc
  data : Nat → WireSrc
deriving Inhabited

/-- The output data and output enable the design gives a pin's I/O cell (R184). -/
structure PinDrive where
  data : WireSrc
  oe : WireSrc
deriving DecidableEq, Repr, Inhabited

/-- A sector's design. Numbers are those of the sector: beads 0 to 12,287, strands (bead / 8), chains, boundary cells, math blocks, inkwell
ports. -/
structure SectorDesign where
  bead : Nat → BeadCfg
  strand : Nat → StrandCfg
  /-- The carry into the lowest bead of a tile column. -/
  carryIn : Nat → Bool
  chain : Nat → ChainCfg
  cells : Nat
  cell : Nat → CellCfg
  math : Nat → MathImg
  ink : Nat → InkImg
  /-- An inkwell has the Limusk 120 behaviour (R232), and its scrubber runs (R227). -/
  limusk : Nat → Bool
  inkScrub : Nat → Bool
  inkInit : Nat → Nat → BitVec 64
  pin : Nat → Option PinDrive
  /-- Global networks the logic uses, one bit each. -/
  nets : BitVec 24
deriving Inhabited

end Sys2Proof.Machine
end

