-- ==== Sys2Proof/Config.lean ====
section
/-! DEFINITION. The values and functions the spec leaves open or takes from outside: free values, undefined contents, and the
standards it names without stating them. Each is an opaque constant: no proof can see a value of it. -/
namespace Sys2Proof.Config

open Sys2Proof

/-- Bytes of an object of the fabric window, by the loaded image's ID, INDEX and SUB: the fabric design's (R275, R279). -/
opaque fabObjSize : Nat → Nat → Nat → Nat

/-- A value the spec leaves open, drawn at a counter of the state. -/
opaque freeValue : Nat → BitVec 64

/-- Undefined contents of an SDRAM line after the n-th power-on or cold reset (R245): generation and line. -/
opaque sdramLine : Nat → Nat → BitVec 576

/-- Which of the phases R52 allows (those within 2^-19 period of the true phase) the CORDIC gives for a sin/cos pair; for the
pair (0, 0), which has no phase, the phase itself. -/
opaque cordicPick : Int → Int → Nat

/-- SHA-256 of bytes (FIPS 180-4), digest byte 0 in the lowest bits: a standard the spec names and does not state. -/
opaque sha256 : List Byte → BitVec 256

/-- ECDSA on P-256 with SHA-256 (FIPS 186-4): public key (X, Y), message, signature (r, s). -/
opaque ecdsaP256 : List Byte → List Byte → List Byte → Bool

/-- The AES-256 block cipher: key and block, byte 0 in the lowest bits. -/
opaque aes256 : List Byte → List Byte → BitVec 128

/-- The vendor test root provisioned before shipping (R364): X in the low half. -/
opaque vendorRoot : BitVec 512

/-- The design that a plane's data sets up. The frame layout of a sector image belongs to the toolchain and the loader (R194). -/
opaque design : List Byte → Machine.SectorDesign

/-- The global networks a plane's logic uses, one bit each. -/
def planeNets (data : List Byte) : BitVec 24 := (design data).nets

/-- CMODE of a chain of a plane (R178). -/
def chainMode (data : List Byte) (k : Nat) : BitVec 2 := ((design data).chain k).cmode

/-- Initial contents of an inkwell word of a plane: inkwell of the sector, word. -/
def inkInit (data : List Byte) (j w : Nat) : BitVec 64 := (design data).inkInit j w

/-- The fabric design of the active planes drives a user pin. -/
def fabDrives (planes : List (List Byte)) (p : Nat) : Bool := planes.any (fun d => ((design d).pin p).isSome)

/-- The carry stage of a bead (R172), which the spec names and does not define: sum and carry out, of the LUT's two outputs and the carry
in. -/
opaque carrySum : Bool → Bool → Bool → Bool
opaque carryOut : Bool → Bool → Bool → Bool

/-- What a wire carries in half an engine tick that depends on itself through no flip-flop: the design has it oscillate or hold, which no
rule decides. -/
opaque unsettled : Nat → Bool

/-- A fabric PLL of an image has a rising (true) or falling edge in half an engine tick: the image gives its rate, of at most 400 MHz, and no
rule its phase. -/
opaque fpllEdge : List (List Byte) → Nat → Nat → Bool → Bool

/-- Where the sys PLL stands against the engine clock, in fifths of its 1,200 MHz cycle, and how many of its cycles the sys divider has
counted: no rule gives either phase. -/
opaque sysPhase : Nat
opaque sysCount : Nat

/-- Two edges of different networks in half an engine tick lie within t_COLL of each other (R232, Table 17.12). -/
opaque edgesMeet : Nat → Nat → Bool

/-- What the board drives on a user pin in half an engine tick: nothing, or a level. -/
opaque pinIn : Nat → Nat → Option Bool

/-- The watchdog's count at a device time, as far as R353 leaves it open: its oscillator may drift within 16 MHz ±5 %. -/
opaque wdgCount : Nat → Nat

/-- The global network an image connects a fabric port to (R189), modulo 24: 0 to 7 push ports, 8 the estimate port, 9 the time port, 10 to 17
master ports, 18 the target port, 19 the dictionary port. -/
opaque portNet : List (List Byte) → Nat → Nat

/-- The source an image gives a global network (R182): 0 to 3 FPLL0 to FPLL3, 4 sys, 5 engine, 6 to 13 a clock-capable pin
in the order of R398, others none. -/
opaque netSource : List (List Byte) → Nat → BitVec 4

end Sys2Proof.Config
end

