-- ==== Sys2Proof/Machine/State.lean ====
section
/-! DEFINITION. What the device holds. Every register field of the field tables lives in one register file `regs`
(keyed by system address and lowest bit, see `Fld`); everything the spec gives the machine beside its registers (memories,
queues' wheels, nibs, estimators, streams in progress, OTP, flash …) is a typed field of the block it belongs to. -/
namespace Sys2Proof.Machine

open Sys2Proof

/-- A register field: system address of its register (R6), lowest bit, width, value after reset (R9). -/
structure Fld where
  addr : Nat
  lo : Nat
  w : Nat
  rst : Nat
deriving DecidableEq, Repr

/-- Access codes (Table 0.4). -/
inductive Acc where
  | ro | rw | w1c | wo | rc | rwOnce
deriving DecidableEq, Repr

/-- Reset source codes (Table 0.5); `hw` is a plain reset value. -/
inductive Src where
  | hw | ret | img | cal
deriving DecidableEq, Repr

/-- A field of a register's row: lowest bit, width, access, reset source and hardware value at a register address. -/
structure FieldRow where
  lo : Nat
  w : Nat
  acc : Acc
  src : Src
  rst : Nat → Nat

/-- A register's row: address of instance 0, width, index ranges (first index, count, stride) and fields. -/
structure RegRow where
  base : Nat
  width : Nat
  dims : List (Nat × Nat × Nat)
  fields : List FieldRow

/-- Reasons the machine stops with a fault. No command of the spec ends in one: the spec gives every command an effect
or a status. -/
inductive Fault where
  /-- Raised by no meaning. Safe. -/
  | none
deriving DecidableEq, Repr

/-- Reasons a command is refused by the model. -/
inductive Refusal where
  /-- The command has no meaning yet in the model. Raised only by an arm of `exec` that is not written. Safe. -/
  | notModelled (mnemonic : String)
deriving DecidableEq, Repr

/-! ### SYS -/

/-- The phases of the start-up timeline (Table 1.9), and the phases outside it. -/
inductive Phase where
  /-- VIN is not valid: reset is held (Table 1.6). -/
  | noVin
  /-- RESET_N is low: reset is held. -/
  | resetHeld
  /-- Regulators and PLLs. -/
  | regulators
  /-- Pins are settling. -/
  | pinSettle
  /-- Life-cycle vote and key check. -/
  | vote
  /-- Checker self-test and start-up march (SELFTEST, start-up pass). -/
  | startTest
  /-- Manifest authentication. -/
  | auth
  /-- Sector and tail streams. -/
  | stream
  /-- Defaults and release. -/
  | defaults
  /-- Start-up is over: released, or ended in SAFE. -/
  | over
deriving DecidableEq, Repr

/-- SYS: what its registers do not show. -/
structure SysSt where
  /-- Phase of the start-up timeline. -/
  phase : Phase
  /-- RESET_N is held low. -/
  resetLow : Bool
  /-- Kind of the last reset: 0 power-on, 1 cold, 2 warm or wake from S3 (Table 1.8). -/
  kind : Nat
  /-- The retention check has been made since the last reset (R334). -/
  checked : Bool
  /-- PLL lock retries of R26. -/
  pllRetries : Nat
  /-- A move from RUN or LIMITED to STANDBY waits for its last fire (Table 1.6). -/
  toStandby : Bool
  /-- A commanded self-test runs. -/
  selfTest : Bool
  /-- The counter the free values are drawn at (the model's own, not the spec's). -/
  free : Nat
  /-- The last word a read command returned (the model's own record of what left the device). -/
  rdData : Nat
  /-- A bus access of the last command was a bus error or an error response (the model's own record). -/
  rdErr : Nat
deriving DecidableEq, Repr

/-! ### MEM, XMC -/

/-- A stored memory word: bits 63 to 0 data, bits 71 to 64 the check byte (R218, R219). -/
abbrev MemWord := BitVec 72

/-- An entry of a correction history (R225). -/
structure Corr where
  mem : Nat
  idx : Nat
  count : Nat
deriving DecidableEq, Repr

/-- A word a scrubber is to correct in its next slot (R227). -/
structure ScrubFix where
  mem : Nat
  idx : Nat
  word : MemWord
deriving DecidableEq, Repr

/-- A merge-buffer entry of a memory port (R222): the word it holds, the word's merged data, and the requester whose writes coalesce in
it. -/
structure Merge where
  key : Nat
  side : Nat
  data : W64
  by_ : Nat
deriving DecidableEq, Repr

/-- MEM: what its registers do not show. -/
structure MemSt where
  /-- Correction write-back buffers: memory and word, corrected and still to be written (R224). -/
  writeBack : List (Nat × Nat)
  /-- Correction histories, most recently used first (R225). -/
  history : List Corr
  /-- Merge-buffer entries (R222), the one held longest first. -/
  merge : List Merge
  /-- Remap spares in use, keyed as `mem`: an access to the word goes to the spare (R226). -/
  spares : SMap MemWord
  /-- Next word of each memory's scrub pass (R227). -/
  scrubPos : SMap Nat
  /-- The correction each memory's scrubber writes in its next slot, by memory (R227). -/
  scrubFix : SMap ScrubFix
  /-- Old value of each master's last atomic access (R235). -/
  atomOld : SMap Nat
  /-- New owner of a large bank whose change waits (R233). -/
  ownPend : SMap Nat
deriving DecidableEq, Repr

/-- A correction-history entry of the SDRAM controller (R243). -/
structure LineHist where
  line : Nat
  count : Nat
deriving DecidableEq, Repr

/-- A fill in progress (R245). -/
structure FillSt where
  line : Nat
  left : Nat
  pat : W64
deriving DecidableEq, Repr

/-- An access of a master through its SDRAM window that waits for the line to be served, by the physical address it was issued with (R17). -/
structure LineWait where
  phys : Nat
  size : Nat
  write : Bool
  data : W64
  master : Nat
deriving DecidableEq, Repr

/-- XMC: what its registers do not show. -/
structure XmcSt where
  /-- SDRAM lines as stored: 72 symbols (two codewords of 36), symbol k of codeword c in byte 36c + k; an unlisted line
  has had no write since power-on or cold reset and its contents are undefined. -/
  lines : SMap (BitVec 576)
  /-- Power-on and cold resets counted, so that undefined contents may differ after each (the model's own). -/
  gen : Nat
  /-- Next line of the patrol pass (R242). -/
  patrolPos : Nat
  /-- Correction history of lines (R243). -/
  history : List LineHist
  /-- The fill in progress. -/
  fill : Option FillSt
  /-- The SDRAM kept its contents across the last reset (Table 1.8). -/
  kept : Bool
  /-- The SDRAM is in self-refresh. -/
  selfRefresh : Bool
  /-- The SDRAM bank has been without its supply since the last training: its contents are lost (Table 1.8). -/
  unsupplied : Bool
  /-- Refreshes issued (R236). -/
  refreshes : Nat
  /-- Window accesses that wait, the one the controller turns to next first (R17, R18); the host's SPI access waits in its own operation. -/
  waits : List LineWait
deriving DecidableEq, Repr

/-! ### AFE -/

/-- A measurement on its way to the estimator (Table 3.3): angle before and after correction (Q32.8), stamp, the ticks at which it
enters the table stage and at which it is ready, and whether its edge reversed the direction (R58). -/
structure Meas where
  raw : Nat
  theta : Nat
  tm : Nat
  enter : Nat
  ready : Nat
  rev : Bool
deriving DecidableEq, Repr

/-- One angle channel: the estimator and the input stages (R45 to R60). -/
structure AfeCh where
  /-- P: 72-bit position, Q32.40 aq (R55). -/
  p : Nat
  /-- V: velocity, signed Q8.40. -/
  v : Int
  /-- A: extended acceleration, signed Q0.40. -/
  a : Int
  /-- Published estimate of the last update: P, V, A and its time. -/
  pubP : Nat
  pubV : Int
  pubA : Int
  tU : Nat
  /-- Count of the same update (R59). -/
  pubCell : Nat
  /-- Count cell or period index within the revolution, and the revolution count (R48, R52). -/
  cell : Nat
  rev : Nat
  /-- Accepted A and B levels. -/
  lvA : Bool
  lvB : Bool
  /-- A and B levels have been accepted since the channel started. -/
  seen : Bool
  /-- Last sin/cos phase, 20-bit fraction of a period, and whether one was taken. -/
  phase : Nat
  phaseOk : Bool
  /-- Corrected measurements not yet taken, oldest first. -/
  meas : List Meas
  /-- Last measured angle before correction, and after it. -/
  lastRaw : Nat
  lastTheta : Nat
  /-- Stamp of the last measurement taken. -/
  tLast : Nat
  /-- The estimator restarts at its next measurement (R403). -/
  restart : Bool
  /-- Tick of the last accepted edge, or of the last movement of a sin/cos channel (R57). -/
  lastEdge : Nat
  /-- An edge has been accepted since the restart. -/
  moved : Bool
  /-- Net signed travel since the last gated Z, in counts or periods (R49). -/
  sinceZ : Int
  /-- The last gated Z: stamp, and the Z-to-Z time before it (0: none yet). -/
  zAt : Option Nat
  zPer : Nat
  /-- Revolution count of the ZOFS cell at the last gated Z (R70). -/
  zRev : Nat
  /-- Fine angle at its last extreme (R58), and where a sin/cos channel last counted as moving (R57). -/
  dirRef : Nat
  stopRef : Nat
  /-- The amplitude lies outside its window since the last sample (R52). -/
  ampBad : Bool
  /-- Differential signals that are lost now: bits 0 A, 1 B, 2 Z (Table 3.2). -/
  lost : Nat
  /-- Values captured by the last read of the low word of FINE (R59): velocity, acceleration, time, count. -/
  snapV : Int
  snapA : Int
  snapTime : Nat
  snapCount : Nat
  /-- Raw ADC pair in conversion (R50): codes and strobe time. -/
  conv : Option (Int × Int × Nat)
deriving DecidableEq, Repr

/-- A correction-table learning run (R70). -/
structure LearnSt where
  ch : Nat
  /-- Revolutions left. -/
  left : Nat
  /-- The first Z or revolution carry has come. -/
  started : Bool
deriving DecidableEq, Repr

/-- AFE: what its registers do not show. -/
structure AfeSt where
  ch0 : AfeCh
  ch1 : AfeCh
  /-- The learning run, and its bins (R70). -/
  learn : Option LearnSt
  bins : SMap (Int × Nat)
  /-- Samples left of a statistics run (R69). -/
  statLeft : Nat
  /-- LIMITED was entered for an AFE cause: the engine moves to channel 1 at the next update (R64). -/
  moveSrc : Bool
  /-- Values that stay in force until the next update tick, of the fields written since the last one, keyed as the register file
  (R65). -/
  held : SMap Nat
  /-- Consecutive updates above LIM_VMAX (R351). -/
  overN : Nat
deriving DecidableEq, Repr

/-! ### QUE, NIB, CHN -/

/-- Outcome of an event waiting for its completion record (Table 4.10). -/
structure Cpl where
  queue : Nat
  outcome : Nat
  phase : Nat
  w3 : W32
  time : Nat
  group : Nat
  /-- The tick of the outcome: for a dropped event that of its retirement, where TIME is that of the decision. -/
  tick : Nat
deriving DecidableEq, Repr

/-- An entry of the halt log (QUE_HALT_LOG). -/
structure HaltEntry where
  queue : Nat
  cause : Nat
  idx : Nat
deriving DecidableEq, Repr

/-- A queue command that waits for ARMED 0 (R98). -/
structure QueCmdSt where
  op : Nat
  queue : Nat
deriving DecidableEq, Repr

/-- An entry of the halt map (R99): queue state and cause, held outside the descriptor memory. -/
structure HaltMapE where
  state : Nat
  cause : Nat
  /-- Ring index of the entry a HALTED queue halted at (R102). -/
  idx : Nat
deriving DecidableEq, Repr

/-- QUE: what its registers, the event store and the descriptor memory do not show. -/
structure QueSt where
  /-- State of every queue that is not DISABLED (R99). -/
  halt : SMap HaltMapE
  /-- Allocation map: bit g is granule g (R76). -/
  alloc : Nat
  /-- The queues whose head barrier has arrived, with the barrier (R92). -/
  barAt : SMap Nat
  /-- Records due since EN was set, per group (R101). -/
  recCnt : SMap Nat
  /-- Outcomes whose records are still to be written (R101). -/
  cpl : List Cpl
  /-- The halt log, oldest first, at most 16 entries. -/
  haltLog : List HaltEntry
  /-- The queue command in progress. -/
  cmd : Option QueCmdSt
  /-- Next queue of the stale-head sweep (R95). -/
  sweep : Nat
  /-- Queues whose next unarmed entry is to be dropped when its predecessor retires (Table 4.6, LATE 1), with the time of that
  decision. -/
  dropPend : SMap Nat
  /-- Queues that have fired or retired at least one event since INIT (R102). -/
  retired : List Nat
deriving DecidableEq, Repr

/-- STATE of a nib in use (Table 5.6). -/
inductive NibMode where
  | armed | locked | crossing
deriving DecidableEq, Repr

/-- A nib in use (R106). -/
structure Nib where
  queue : Nat
  entry : Nat
  mode : NibMode
  /-- Fire time in force, 68 bits: tick × 16 + phase. -/
  fire : Nat
  /-- Fire time at arming. -/
  fire0 : Nat
  /-- Fire angle of the last prediction, Q32.8. -/
  phi : Nat
  /-- Direction of travel the event fires in: 0 increasing, 1 decreasing. -/
  dir : Nat
  retimes : Nat
  /-- The copied event (R77). -/
  w0 : W32
  w1 : W32
  w2 : W32
  w3 : W32
  /-- Armed late under LATE 0: its record carries outcome 1. -/
  late : Bool
  /-- Passed over under LATE 1: retired without firing in its tick (R117); the time of that decision. -/
  dropAt : Option Nat
  /-- Locked in crossing mode, or given its fire tick there (R124). -/
  cross : Bool
  /-- Its fire tick stands although the engine is in crossing mode: a late event or barrier armed there, or one passed over
  there (R96, R124, R129). -/
  fixed : Bool
  /-- In crossing mode, its fire angle has been reached while an event ahead of it in its queue has not (R85). -/
  met : Bool
deriving DecidableEq, Repr

/-- An echo result waiting to be applied (R126). -/
structure EchoRes where
  stamp : Nat
  unit : Nat
  m : Nat
  cls : Nat
  chan : Nat
  dsrc : Bool
  learn : Bool
deriving DecidableEq, Repr

/-- NIB: what its registers do not show. -/
structure NibSt where
  /-- The nibs in use. -/
  nibs : SMap Nib
  /-- Predictions whose nib is still to be written, oldest first. -/
  arming : List Nib
  /-- Descriptor restores owed (R121): queue and number of nibs taken back. -/
  restores : List (Nat × Nat)
  /-- Queues examined since the last update (R110). -/
  examined : List Nat
  /-- Fire time of the last fired event of each queue (R113). -/
  lastFire : SMap Nat
  /-- Class of the last fired event on a channel whose class had DSRC 1 (R127). -/
  classRec : SMap Nat
  /-- Words 1 to 3 of the nib record captured by a read of its word 0, and the nib. -/
  recHold : List W32
  recNib : Nat
  /-- Echo results waiting for stamp + 66. -/
  echo : List EchoRes
  /-- NIB_HORIZON.H as the last update took it (R112). -/
  horizon : Nat
deriving DecidableEq, Repr

/-- A pending trailing edge (R135): its time (68 bits) and the level it restores. -/
structure Trail where
  time : Nat
  level : Bool
deriving DecidableEq, Repr

/-- A string frame (R138). -/
structure Frame where
  tL : Nat
  phase : Nat
  members : List Nat
  trails : List Nat
  /-- Queue and ring entry of the opener (R138). -/
  opener : Nat
  openEntry : Nat
  image : BitVec 256
  shiftEnd : Nat
  shifted : Bool
  locked : Bool
  /-- The members in the order in which the image took their actions at the cut (R138, R139). -/
  acts : List Nat
deriving DecidableEq, Repr

/-- A serial string (R137 to R143). -/
structure StrSt where
  frame : Option Frame
  latched : BitVec 256
  status : BitVec 256
  prevShift : BitVec 256
  shiftedOnce : Bool
  lastEnd : Nat
  /-- The last latch pulse on LAT: from and up to these times, in 1/16 tick (R137). -/
  latFrom : Nat
  latTo : Nat
  /-- The safe image is still to be shifted and latched (R143), and the tick at which its shift began. -/
  safeDue : Bool
  safeFrom : Nat
  /-- The safe image has been latched since it was last due (R145). -/
  imaged : Bool
  /-- OE is at its enabling level (R145). -/
  oe : Bool
deriving DecidableEq, Repr

/-- A measurement of an echo unit in progress (R148). -/
structure EchoUnit where
  fire : Nat
  falling : Bool
  cls : Nat
  chan : Nat
  dsrc : Bool
  learn : Bool
deriving DecidableEq, Repr

/-- Who drives the user pins. -/
inductive PinState where
  /-- Not settled: high-impedance without pull (R25). -/
  | unsettled
  /-- Safe-state row values. -/
  | safe
  /-- Their owners (R145, R185). -/
  | owners
  /-- As latched in the hold cells (R337). -/
  | held
deriving DecidableEq, Repr

/-- The one transition of a direct channel's pin in a tick (R134): its phase, and the level it goes to. -/
structure PinEdge where
  phase : Nat
  level : Bool
deriving DecidableEq, Repr

/-- CHN: what its registers do not show. -/
structure ChnSt where
  /-- Commanded levels of channels 0 to 8,703; unlisted reads as low. -/
  level : SMap Bool
  /-- Pending trailing edges by channel. -/
  trail : SMap Trail
  /-- Direct channels whose pin stays high-impedance until their first action (R145). -/
  idleHiZ : List Nat
  /-- Direct channels whose pin has left that high-impedance, with the time of the first action (68 bits, R145). -/
  firstAct : SMap Nat
  /-- The last tick in which a direct channel's commanded level made its pin change, and the changes of that tick by channel
  (R134). -/
  edgeTick : Nat
  edges : SMap PinEdge
  /-- Strings. -/
  str : SMap StrSt
  /-- Echo units with a measurement in progress. -/
  echo : SMap EchoUnit
  /-- Who drives the user pins. -/
  pins : PinState
deriving DecidableEq, Repr

/-! ### SCR -/

/-- What a scribe pair waits for in the middle of an instruction (R164 to R166). -/
inductive ScrWait where
  | none
  /-- WAIT: destination register, condition mask, reference angle and the tick it began at. -/
  | wait (rd mask ref start : Nat)
  /-- PWAIT: destination register and tag. -/
  | pwait (rd tag : Nat)
deriving DecidableEq, Repr

/-- A pattern-fetch tag (R165). -/
structure FetchTag where
  /-- Source and destination of the next burst. -/
  src : Nat
  dst : Nat
  /-- Bursts still to come. -/
  left : Nat
  status : Nat
  busy : Bool
deriving DecidableEq, Repr

/-- A fetch-cache line (R156). -/
structure CacheLine where
  /-- System address / 64. -/
  line : Nat
  /-- Its place: set × 4 + way. Its words stand in memory 15. -/
  slot : Nat
  /-- The words the flash array gave as uncorrectable. -/
  bad : List Nat
deriving DecidableEq, Repr

/-- A scribe pair (R150): what its registers do not show. -/
structure Pair where
  /-- g1 to g31; g0 is not held. -/
  g : SMap W32
  /-- The 64-bit accumulator. -/
  acc : W64
  /-- Special registers (Table 7.5) with no register of the SCR block. -/
  sdhi : W32
  waitTmo : W32
  tvec : W32
  /-- High words captured by RDS (Table 7.5). -/
  timeHi : W32
  fineFrac : W32
  velCap : W32
  waiting : ScrWait
  /-- Pattern-fetch tags 0 to 3 (R165). -/
  tags : SMap FetchTag
  /-- Fetch-cache lines held, most recently used first (R156). -/
  cache : List CacheLine
  /-- The tick of the last START: CYCLE counts from it. -/
  start : Nat
  /-- In DEBUG, a STEP waits for the refill of the line its instruction stands in (R156, R170). -/
  stepDue : Bool
deriving DecidableEq, Repr

/-- SCR: what its registers do not show. -/
structure ScrSt where
  pair : SMap Pair
  /-- The first entry to STANDBY after the reset is still to come: it starts the pairs with AUTOSTART (Table 7.1). -/
  autoDue : Bool
deriving DecidableEq, Repr

/-! ### FAB, CFG -/

/-- A dictionary-port request waiting for the fabric design (R192). -/
structure FabReq where
  index : Nat
  sub : Nat
  offset : Nat
  write : Bool
  /-- Bytes still to be written; empty for a read. -/
  data : List Byte
  /-- Bytes still to be asked for, or written. -/
  size : Nat
  /-- Bytes read so far. -/
  got : List Byte
  /-- The requester: 0 SPI, 1 to 127 a USDO client, 254 the dictionary store, 253 and 255 the device's own fabric defaults, of the snapshot
  and of the manifest. -/
  client : Nat
  /-- The requester's tag. -/
  tag : Nat
deriving DecidableEq, Repr

/-- A fabric-window access waiting for its acknowledgement (R16, R189). -/
structure FabAcc where
  addr : Nat
  write : Bool
  data : W64
  master : Nat
deriving DecidableEq, Repr

/-- The operands of a math block at its input stage (R179). -/
structure MathIn where
  a : Int
  d : Int
  b : Int
  c : Int
  load : Bool
deriving DecidableEq, Repr

/-- What a math block's pre-adder gives its multiplier, with the operands that travel with it. -/
structure MathPre where
  v : Int
  b : Int
  c : Int
  load : Bool
deriving DecidableEq, Repr

/-- What a math block's multiplier gives its accumulator. -/
structure MathMul where
  p : Int
  c : Int
  load : Bool
deriving DecidableEq, Repr

/-- The registers of a math block (R180): the input stage, the pre-adder, the register between the two multiplier stages, the accumulator,
the output stage. -/
structure MathSt where
  inp : MathIn
  pre : MathPre
  mul : MathMul
  acc : Int
  y : Int
deriving DecidableEq, Repr

/-- What an inkwell port gives the fabric with a read (R181). -/
structure InkOut where
  data : W64
  corr : Bool
  ue : Bool
deriving DecidableEq, Repr

/-- The registers of an inkwell port (R181, R232): the last read, the output register of latency 2, the COLL pulse and the UE
of a refused write. -/
structure InkPort where
  q : InkOut
  q2 : InkOut
  coll : Bool
  /-- UE for the cycle after a refused write (R223). -/
  late : Bool
deriving DecidableEq, Repr

/-- What the estimate port presents (R191). -/
structure EstPort where
  strobe : Bool
  angle : BitVec 32
  frac : Byte
  vel : BitVec 24
  dir : Bool
  valid : Bool
  referenced : Bool
  crossing : Bool
  mode : BitVec 3
deriving DecidableEq, Repr

/-- A push port (R190): an operation is under way (READY 0), and the status it returned last, shown by STATUS_VALID for one cycle of the
port's clock. -/
structure PushPort where
  busy : Bool
  statusValid : Bool
  status : Nat
  staged : Nat
deriving DecidableEq, Repr

/-- FAB: what its registers do not show. -/
structure FabSt where
  /-- Fabric interrupt lines 0 to 63. -/
  irq : BitVec 64
  /-- Fabric fault lines 0 to 7. -/
  faultLine : BitVec 8
  /-- The dictionary-port request outstanding. -/
  req : Option FabReq
  /-- The fabric-window accesses not yet acknowledged, the one given to the fabric design first (R18). -/
  acc : List FabAcc
  /-- Requests that wait for the dictionary port, oldest first. -/
  wait : List FabReq
  /-- The fabric ports are connected (user logic released). -/
  connected : Bool
  /-- Sectors whose flip-flops have taken their INIT values since the last load. -/
  initDone : SMap Bool
  /-- FPLLs out of lock since their image was released (R182). -/
  fpllOut : List Nat
  /-- A loaded image has been released and its global networks run. -/
  released : Bool
  /-- Probes whose selection is in force: it names a pin and a signal (R188). -/
  loupeOn : SMap Bool
  /-- Flip-flops that hold 1, by index 2^15 × sector + 2 × bead + FF (R172, R188). -/
  ff : SMap Bool
  /-- Math blocks whose registers are not all zero, by block (R179, R180). -/
  math : SMap MathSt
  /-- Ports of inkwells whose registers are not all zero: 2 × inkwell, plus 1 for port B (R181). -/
  ink : SMap InkPort
  /-- Chains whose keeper holds 1 (R177). -/
  keeper : SMap Bool
  /-- Boundary cells whose wire last carried 1: 2^16 × receiving sector + cell (R176). -/
  cells : SMap Bool
  /-- What the device drove on the pins at the end of the last tick: 0 low, 1 high; a pin not listed was not driven. -/
  pad : SMap Nat
  /-- The level each pin's keeper holds, the last one driven on it (R184). -/
  padKeep : SMap Bool
  /-- The estimate port, and an estimate that has come into force and is not yet presented (R191). -/
  est : EstPort
  estNext : Option EstPort
  /-- Device time at the last edges of the time port's clock, newest first, at most 4 (Table 8.4). -/
  time : List Nat
  /-- Push ports that have taken an operation, by port 0 to 7. -/
  push : SMap PushPort
  /-- Sectors that have swapped, the tick of their last swap, and the pins their design drove before it (R214). -/
  swapTick : SMap Nat
  swapPins : SMap (List Nat)
  /-- Which half of an engine tick the fabric's edges stand in; 0 between ticks (the model's own). -/
  half : Nat
  /-- Levels of the clock-capable pins at the end of the last half tick, by pin (R182, R398). -/
  clkPin : SMap Bool
  /-- Samples of each probe's signal, newest first, at most 4 (R188). -/
  probe : SMap (List Bool)
deriving DecidableEq, Repr

/-- A flash array: the words of its pages as programmed, and what is kept outside the array. -/
structure Flash where
  /-- Programmed words by word index; an unlisted word is erased: its 72 bits read 1 (R252). -/
  words : SMap MemWord
  /-- Pages whose program flag is set, ascending. -/
  flags : List Nat
  /-- Erase units whose last erase has not completed (R194, R259), ascending. -/
  undone : List Nat
deriving DecidableEq, Repr

/-- A configuration plane of a sector (Table 9.6). -/
structure Plane where
  /-- State of a shadow plane: 0 EMPTY, 1 LOADING, 2 VERIFIED, 3 FAILED; an active plane is 2. -/
  st : Nat
  bank : Nat
  slot : Nat
  planeId : Nat
  plLimit : Nat
  /-- Global networks the plane uses, one bit each. -/
  nets : Nat
  /-- The source slot still holds the plane's words (R217). -/
  repairable : Bool
  /-- The plane's stored words: 5,632 frames of 16 words, each with its check bits (R218, R219). -/
  words : List MemWord
  /-- The plane signature captured when the plane was verified (R216). -/
  sig : Nat
  /-- Frames found uncorrectable and not repaired. -/
  bad : List Nat
  /-- Frames found correctable whose correction could not be written while a swap of the sector was locked (R213). -/
  soft : List Nat
  /-- The repair in progress: its frame, and whether a signature mismatch asked for it (R217). -/
  repair : Option (Nat × Bool)
  /-- The scrub pass under way has met an uncorrectable word (R216). -/
  passBad : Bool
deriving DecidableEq, Repr

/-- A configuration command in progress (Table 9.7), with its arguments. -/
structure CfgCmdSt where
  op : Nat
  bank : Nat
  addr : Nat
  sector : Nat
  slot : Nat
  /-- Its flash operation has begun: with IMGPROG_PACE 3 a program or erase waits (R206). -/
  started : Bool
  /-- Margin reads of a COMMIT: pages completed up to a tick (R209). -/
  pages : Nat
  since : Nat
deriving DecidableEq, Repr

/-- CFG: what its registers do not show. -/
structure CfgSt where
  bank0 : Flash
  bank1 : Flash
  /-- Commit record area: two record blocks of 16 pages (R210). -/
  recs : Flash
  /-- Safe-state row: two halves of 16 pages (R198). -/
  row : Flash
  /-- Half that holds the latest ROW_ERASE, not yet followed by another (R206). -/
  rowErased : Option Nat
  /-- The safe-state row value of each user pin: 0 low, 1 high, 2 high-impedance. -/
  rowVal : SMap Nat
  /-- The other bits of the pin record in force: [3:2] PULL, [5:4] DRIVE, [7:6] SLEW. -/
  rowPin : SMap Nat
  cmd : Option CfgCmdSt
  /-- Bank under authentication or loading. -/
  loadBank : Nat
  /-- Slots whose stream has failed once in this load (R201). -/
  retried : List Nat
  /-- Slots whose stream is done in this load. -/
  streamed : List Nat
  active : SMap Plane
  shadow : SMap Plane
  /-- Sectors whose active plane holds a fault that was not repaired (R217). -/
  unrepaired : List Nat
  /-- Next frame of each scrub pass: 2 × sector + plane. -/
  scrubPos : SMap Nat
  /-- Device time at which the last page program began (R206). -/
  pageAt : Option Nat
deriving DecidableEq, Repr

/-! ### UFL, NET, HSP -/

/-- A user-flash command in progress (Table 11.2), with its offset. -/
structure UflCmdSt where
  op : Nat
  addr : Nat
  /-- The port that gave it may read an execute-only region (R263). -/
  mayRead : Bool
deriving DecidableEq, Repr

/-- A dictionary-store operation in progress or waiting for the array (R268, R280, R281). -/
structure StoreSt where
  /-- Records of fabric objects read so far (R279, R280). -/
  fab : List Byte
  /-- Fabric objects still to be read, the one in progress first: index, subindex, size. -/
  todo : List (Nat × Nat × Nat)
  /-- A fabric object was not answered with RESP 0. -/
  part : Bool
  /-- RESTORE: the snapshot is void (R281). -/
  void : Bool
  /-- The client that asked, and its tag. -/
  client : Nat
  tag : Nat
deriving DecidableEq, Repr

/-- UFL: what its registers do not show. -/
structure UflSt where
  main : Flash
  /-- Erase counts of the blocks. -/
  eraseCnt : SMap Nat
  cmd : Option UflCmdSt
  pageBuf : SMap W32
  /-- The calibration row: words of both copies. -/
  cal : Flash
  store : Option StoreSt
  /-- The block the next store begins in, when the last one failed its confirmation (R267). -/
  storeNext : Option Nat
  /-- Execute-only registers whose one write has been used (R262). -/
  xoUsed : List Nat
  /-- The markers have been scanned in this load (R261). -/
  scanned : Bool
deriving DecidableEq, Repr

/-- A remembered request tag (R282, R283). -/
structure TagE where
  tag : Nat
  status : Nat
  dup : Bool
deriving DecidableEq, Repr

/-- A segmented USDO transfer in progress (R284): a write takes its data until `len` bytes have come, a read still has `data` to give. -/
structure UsdoSt where
  client : Nat
  index : Nat
  sub : Nat
  off : Nat
  write : Bool
  data : List Byte
  len : Nat
deriving DecidableEq, Repr

/-- An EMCY waiting to be sent (R292). -/
structure Emcy where
  code : Nat
  origin : Nat
  detail : Nat
  time : Nat
  /-- The error register 0x1001 with the message's own cause. -/
  er : Nat
deriving DecidableEq, Repr

/-- A CAN frame the device has sent: its line, its identifier, its data, whether it is an FD frame and whether it switches the bit rate
(R285). -/
structure TxFrame where
  line : Nat
  id : Nat
  data : List Byte
  fd : Bool
  brs : Bool
deriving DecidableEq, Repr

/-- An access of the dictionary engine that waits for the one in progress (R273): a client's read (`seg`: the first of a segmented upload)
or write, a received PDO or SRDO, a PDO or SRDO to be sampled and sent. -/
inductive DictWork where
  | read (client index sub off len : Nat) (seg : Bool)
  | write (client tag index sub off : Nat) (data : List Byte)
  | rpdo (n : Nat) (data : List Byte)
  | tpdo (n : Nat)
  | srdoIn (n : Nat) (data : List Byte)
  | srdoOut (n : Nat)
deriving DecidableEq, Repr

/-- A host SPI bus operation in progress (R297): next address, bytes left, the data of a write still to be written or of a read so far,
and its status so far. -/
structure SpiOp where
  write : Bool
  addr : Nat
  left : Nat
  data : List Byte
  /-- The SDRAM address of the access that waits, by the window base in force when it was issued (R17). -/
  phys : Option Nat
deriving DecidableEq, Repr

/-- NET: what its registers do not show. -/
structure NetSt where
  /-- The windows of Table 12.8 (PDO and SRDO parameters and mappings), 32-bit words by offset. -/
  win : SMap W32
  /-- The node-ID in force: NET_CFG.NODE_ID as the last reset or Reset Communication took it. -/
  node : Nat
  /-- The dictionary region of retained RAM is to be rewritten whole (R277). -/
  rewrite : Bool
  /-- Tag entries of each client: oldest first, at most 16 (R282). -/
  tags : SMap (List TagE)
  /-- Last tagged write of each USDO session, as written. -/
  lastTag : SMap (List Byte)
  /-- Segmented transfers in progress, by session 0 to 3 (R284). -/
  usdo : SMap UsdoSt
  /-- Each requester's copy of the push words of port 9: 8 × requester + word. -/
  push : SMap W32
  emcy : List Emcy
  /-- Causes that hold a bit of 0x1001. -/
  causes : List Nat
  /-- The frames the last command that sent any has sent (the model's own record). -/
  tx : List TxFrame
  /-- SYNCs counted (R288). -/
  syncCnt : Nat
  /-- RPDOs received that wait for their SYNC (R288). -/
  rpdo : SMap (List Byte)
  /-- TPDOs of type 0 whose event has come and that wait for a SYNC (R288). -/
  tpdoDue : List Nat
  /-- Heartbeat consumer entries whose node has been heard, with the time of its last heartbeat (R291). -/
  hbAlive : SMap Nat
  /-- SRDOs that are faulty (R293). -/
  srdoFault : List Nat
  /-- Reset Communication waits for STANDBY (R286). -/
  resetComm : Bool
  /-- NMT state: 0 none, 4 Stopped, 5 Operational, 127 Pre-operational. -/
  nmt : Nat
  /-- A SPI request in progress: the response is still to be sent. -/
  spiBusy : Bool
  spiTag : Nat
  /-- The bus operation of that request. -/
  spiOp : Option SpiOp
  /-- What the device last sent back over SPI (R296, R299), and whether the host may still abandon it. -/
  spiOut : List Byte
  spiResp : Bool
  /-- The last USDO response: abort code or 0, and data. -/
  usdoAbort : Nat
  usdoData : List Byte
  /-- Each TPDO's last sample (R288). -/
  sample : SMap (List Byte)
  /-- Device time at which each TPDO was last sent, and the event-driven TPDOs their inhibit time holds back (R288). -/
  tpdoAt : SMap Nat
  tpdoHeld : List Nat
  /-- Device time at which an emergency frame was last sent (R292). -/
  emcyAt : Option Nat
  /-- LINE1_EN in force: NET_CFG.LINE1_EN as the last reset or Reset Communication took it (R285). -/
  line1 : Bool
  /-- Arbitration and data rate in force, kbit/s: NET_CFG's as the last reset or Reset Communication took them (R285, R286). -/
  arbRate : Nat
  dataRate : Nat
  /-- Device time at which the last heartbeat and the last produced SYNC were sent (R286, R290). -/
  hbAt : Option Nat
  syncAt : Option Nat
  /-- Device time of the entry to the Operational NMT state (R293, R354). -/
  opAt : Nat
  /-- Device time since that entry at which each SRDO's last normal frame came or was sent, and at which a normal frame came that no
  inverse has followed (R293). -/
  srdoAt : SMap Nat
  srdoHalf : SMap Nat
  /-- Accesses of the dictionary engine that wait for the one in progress, in order of arrival (R273). -/
  work : List DictWork
  /-- A restore has set the region's SEQ to 0; it stays so up to the next reset (R281). -/
  seqZero : Bool
deriving DecidableEq, Repr

/-! ### IRQ, LOG, PWR, SAF, BST, LCS -/

/-- State of an interrupt source that is not IDLE (Table 13.2). -/
inductive IrqMode where
  | pending | active | activePending
deriving DecidableEq, Repr

/-- A source that is not IDLE: its state and the target that claimed it. -/
structure IrqSrc where
  mode : IrqMode
  by_ : Nat
deriving DecidableEq, Repr

/-- IRQ: what its registers do not show. -/
structure IrqSt where
  /-- The sources that are not IDLE. -/
  src : SMap IrqSrc
  /-- Moderation is flushed: RELEASED stays 1 from AP1 until SLEEP is left (R308). -/
  flushed : Bool
  /-- Where each running moderation timer started: device time, or the AON count with CLK 1 (R309). -/
  timerAt : SMap Nat
deriving DecidableEq, Repr

/-- A trouble-log request waiting in the queue (R315). -/
structure LogReq where
  time : Nat
  source : Nat
  code : Nat
  d0 : Nat
  d1 : Nat
  d2 : Nat
deriving DecidableEq, Repr

/-- A time bridge in progress (R312): device time and AON count at its start. -/
structure BridgeSt where
  t0 : Nat
  a0 : Nat
  src : Nat
  broken : Bool
  /-- Counting has resumed: the next AON edge ends the bridge. -/
  ending : Bool
deriving DecidableEq, Repr

/-- An export in progress (R320). -/
structure ExportSt where
  last : Nat
  page : Nat
  abort : Bool
deriving DecidableEq, Repr

/-- LOG: what its registers and the retained RAM do not show. -/
structure LogSt where
  queue : List LogReq
  /-- Requests discarded since the last entry (R315). -/
  lost : Nat
  bridge : Option BridgeSt
  /-- High word captured by a read of the low word of LOG_TIME. -/
  timeHi : Nat
  /-- Ticks toward the next AON count, in 1/256 tick. -/
  aonFrac : Nat
  /-- Device time at the last AON edge (R312). -/
  edgeAt : Nat
  exp : Option ExportSt
  /-- Next page of the export region. -/
  expPos : Nat
  /-- The search for the export position of a new LOG_EXPORT_CFG waits for the array (R253, R319). -/
  scan : Bool
deriving DecidableEq, Repr

/-- Where the power controller stands. -/
inductive SleepPhase where
  | awake
  /-- Entry under way: the next abort point, 2 to 4. -/
  | entry (ap : Nat)
  /-- After AP4: the power-down phase. -/
  | down
  /-- Asleep in S1, S2 or S3. -/
  | asleep (st : Nat)
  /-- A wake is under way from a sleep state. -/
  | waking (st : Nat)
  /-- A deeper state is being entered from state `st`: AP3 has passed, AP4 comes next (R332). -/
  | deepening (st : Nat)
deriving DecidableEq, Repr

/-- PWR: what its registers do not show. -/
structure PwrSt where
  sleep : SleepPhase
  /-- Sleep state requested, and whether the idle timer asked. -/
  sel : Nat
  /-- Wake events latched and not yet served: bit k − 1 is event k (Table 14.7). -/
  wake : Nat
  wakeTime : Nat
  /-- AON count, and the part of a count, at the first event of the wake latched (R330). -/
  wakeAon : Nat
  /-- AON count at AP4 (Table 14.13). -/
  ap4Aon : Nat
  /-- Channel 0 count at AP4. -/
  motion0 : Int
  /-- Target of the level change in progress. -/
  plTo : Nat
  /-- Level before a sleep entry. -/
  plSaved : Nat
  /-- User pins, INT_N and SDRAM controls are latched in the hold cells. -/
  hold : Bool
  /-- Regions whose EMCY 0xFF03 is still to be sent. -/
  retEmcy : List Nat
  /-- Bank supplies lost in RUN or LIMITED and not present again (input 35). -/
  lostNow : List Nat
  /-- Level of the WAKE pin. -/
  wakePin : Bool
  /-- A deepening was stopped in this stay: the deepen timer does not restart (R332). -/
  noDeepen : Bool
  /-- VIN reads below 2.75 V (R340). -/
  vinLow : Bool
  /-- The targets whose INT_N the hold cells keep low, and those they keep high (R337). -/
  intHeld : Nat
  intHeldUp : Nat
  /-- AON count at which the sleep state was entered, and at which the idle timer last restarted (R332, R333). -/
  downAon : Nat
  idleAon : Nat
  /-- Bank supplies that were lost and are not present again (R339). -/
  absent : List Nat
deriving DecidableEq, Repr

/-- SAF: what its registers do not show. -/
structure SafSt where
  /-- A safety reaction is in force. -/
  reaction : Bool
  /-- The run-enable wait is in force (R354). -/
  runWait : Bool
  /-- GRACE has passed since LIMITED was entered (R351). -/
  graceOver : Bool
  /-- The watchdog count runs. -/
  wdgRun : Bool
  /-- Inputs latched in SLEEP that still have to act (R345), one bit each. -/
  slept : Nat
  /-- Inputs raised by the command in progress and still to be latched (R344); empty between commands. -/
  due : List Nat
  /-- The one write of SAF_LOCK.LOCK since the last reset has been used (rw-once, Table 0.4). -/
  lockUsed : Bool
  /-- Device time of the entry to LIMITED, and of the watchdog count's restart (R351, R352). -/
  limitedAt : Nat
  wdgAt : Nat
  /-- The paths, 0 and 1, that read a safe pin back at a level other than the one they drive (R350). -/
  padOff : List Nat
  /-- The inputs latched with class SAFE, and those latched with class LIMITED, since their bit of SAF_FAULT last read 0 (R344, R346): a cause
  is such a bit while SAF_FAULT shows it. -/
  safeBits : Nat
  limBits : Nat
deriving DecidableEq, Repr

/-- A BIST slice in progress (R356). -/
structure SliceSt where
  region : Nat
  /-- The save buffer: the words of the region, keyed as `mem`. -/
  saved : SMap MemWord
  inject : Bool
  yield_ : Bool
  /-- The SDRAM array line a slice of target 17 marches with its spare line (Table 15.4). -/
  line : Option Nat
deriving DecidableEq, Repr

/-- BST: what its registers do not show. -/
structure BstSt where
  slice : SMap SliceSt
  /-- Slices run per target, for the inverted 256th (R358). -/
  count : SMap Nat
  paused : List Nat
  /-- Regions that failed and have not passed since. -/
  failing : List (Nat × Nat)
  /-- The SDRAM array line the next slice of target 17 marches (Table 15.4). -/
  line : Nat
  /-- Regions a commanded self-test has still to march, by target, and whether a slice of it has failed unrepaired (R361). -/
  testLeft : SMap Nat
  testBad : Bool
deriving DecidableEq, Repr

/-- A life-cycle command in progress (Table 16.4). -/
structure LcsCmdSt where
  op : Nat
  slot : Nat
  /-- The OTP words the command programs, in order: index and code. -/
  words : List (Nat × Nat)
deriving DecidableEq, Repr

/-- LCS and DBG: the OTP and what the registers do not show. -/
structure LcsSt where
  /-- The OTP of Table 16.1 by word (OTP offset / 4); an unlisted word is not programmed and reads 0. -/
  otp : SMap W32
  keyBuf : SMap W32
  cert : SMap W32
  cmd : Option LcsCmdSt
deriving DecidableEq, Repr

/-- The instruction in force in the JTAG test port (Table 16.8). -/
inductive JtagIr where
  | idcode | bypass | extest | samplePreload | highz | clamp | dbgAccess | lcsStatus | freezeRead
deriving DecidableEq, Repr

/-- JTAG: the TAP and the readout position. -/
structure JtagSt where
  /-- The 8-bit instruction register (Table 16.8), the instruction it acts as (R375, R376), and what its last scan shifted out. -/
  code : Nat
  ir : JtagIr
  irOut : Nat
  /-- The boundary-scan register's update stage by cell (R375): 0 low, 1 high, 2 not driven; a cell not listed is not driven. -/
  cells : SMap Nat
  /-- Readout address and space (R378). -/
  addr : Nat
  space : Nat
  /-- What the selected register shifted out last. -/
  shiftOut : Nat
deriving DecidableEq, Repr

/-- The whole machine. -/
structure State where
  /-- The commands waiting, first in first out. -/
  pending : List Sys2Proof.Instr
  /-- The register file: fields that have been written since their reset; the others read their reset value. -/
  regs : SMap Nat
  /-- The ECC-protected memories of Table 10.1, keyed by memory ID × 2^32 + word; an unlisted word reads as zero with
  valid check bits. -/
  mem : SMap MemWord
  sys : SysSt
  mst : MemSt
  xmc : XmcSt
  afe : AfeSt
  que : QueSt
  nib : NibSt
  chn : ChnSt
  scr : ScrSt
  fab : FabSt
  cfg : CfgSt
  ufl : UflSt
  net : NetSt
  irq : IrqSt
  log : LogSt
  pwr : PwrSt
  saf : SafSt
  bst : BstSt
  lcs : LcsSt
  jtag : JtagSt
deriving DecidableEq, Repr

/-! ### The state right after reset

Every block as a power-on reset leaves it. Values that no reset source of the spec gives are DESIGN CHOICES named in the log
(INVENTORY.md, "State"). -/

/-- An angle channel after reset: V and A 0, not referenced, the estimator restarts at its first measurement (R56, R403). -/
def afeChFresh : AfeCh :=
  { p := 0, v := 0, a := 0, pubP := 0, pubV := 0, pubA := 0, tU := 0, pubCell := 0, cell := 0, rev := 0, lvA := false, lvB := false, seen := false,
    phase := 0, phaseOk := false, meas := [], lastRaw := 0, lastTheta := 0, tLast := 0, restart := true, lastEdge := 0, moved := false,
    sinceZ := 0, zAt := none, zPer := 0, zRev := 0, dirRef := 0, stopRef := 0, ampBad := false, lost := 0, snapV := 0, snapA := 0, snapTime := 0,
    snapCount := 0, conv := none }

/-- SYS after reset: the first start-up phase. -/
def sysFresh : SysSt :=
  { phase := .regulators, resetLow := false, kind := 0, checked := false, pllRetries := 0, toStandby := false, selfTest := false,
    free := 0, rdData := 0, rdErr := 0 }

/-- MEM after reset. -/
def mstFresh : MemSt :=
  { writeBack := [], history := [], merge := [], spares := [], scrubPos := [], scrubFix := [], atomOld := [], ownPend := [] }

/-- XMC after reset. -/
def xmcFresh : XmcSt :=
  { lines := [], gen := 0, patrolPos := 0, history := [], fill := none, kept := false, selfRefresh := false, unsupplied := false,
    refreshes := 0, waits := [] }

/-- AFE after reset. -/
def afeFresh : AfeSt :=
  { ch0 := afeChFresh, ch1 := afeChFresh, learn := none, bins := [], statLeft := 0, moveSrc := false, held := [], overN := 0 }

/-- QUE after reset: every queue DISABLED, the allocation map and the barriers clear (R78). -/
def queFresh : QueSt :=
  { halt := [], alloc := 0, barAt := [], recCnt := [], cpl := [], haltLog := [], cmd := none, sweep := 0, dropPend := [], retired := [] }

/-- NIB after reset. -/
def nibFresh : NibSt :=
  { nibs := [], arming := [], restores := [], examined := [], lastFire := [], classRec := [], recHold := [], recNib := 0, echo := [],
    horizon := 250000 }

/-- CHN after reset. -/
def chnFresh : ChnSt := { level := [], trail := [], idleHiZ := [], firstAct := [], edgeTick := 0, edges := [], str := [], echo := [], pins := .unsettled }

/-- A math block with its registers at 0 (Table 9.5). -/
def mathZero : MathSt := ⟨⟨0, 0, 0, 0, false⟩, ⟨0, 0, 0, false⟩, ⟨0, 0, false⟩, 0, 0⟩

/-- An inkwell port with its registers at 0 (Table 9.5). -/
def inkPortZero : InkPort := ⟨⟨0, false, false⟩, ⟨0, false, false⟩, false, false⟩

/-- The estimate port before its first estimate. -/
def estZero : EstPort := ⟨false, 0, 0, 0, false, false, false, false, 0⟩

/-- A push port that has taken nothing. -/
def pushZero : PushPort := ⟨false, false, 0, 0⟩

/-- FAB after reset: no user logic. -/
def fabFresh : FabSt :=
  { irq := 0, faultLine := 0, req := none, acc := [], wait := [], connected := false, initDone := [], fpllOut := [],
    released := false, loupeOn := [], ff := [], math := [], ink := [], keeper := [], cells := [], pad := [], padKeep := [],
    est := estZero, estNext := none, time := [], push := [], swapTick := [], swapPins := [],
    half := 0, clkPin := [], probe := [] }

/-- A flash array with nothing programmed. -/
def flashFresh : Flash := { words := [], flags := [], undone := [] }

/-- CFG after reset. -/
def cfgFresh : CfgSt :=
  { bank0 := flashFresh, bank1 := flashFresh, recs := flashFresh, row := flashFresh, rowErased := none, rowVal := [], rowPin := [],
    cmd := none, loadBank := 0, retried := [], streamed := [], active := [], shadow := [], unrepaired := [], scrubPos := [], pageAt := none }

/-- UFL after reset. -/
def uflFresh : UflSt :=
  { main := flashFresh, eraseCnt := [], cmd := none, pageBuf := [], cal := flashFresh, store := none, storeNext := none, xoUsed := [],
    scanned := false }

/-- NET after reset. -/
def netFresh : NetSt :=
  { win := [], node := 127, rewrite := false, tags := [], lastTag := [], usdo := [], push := [], emcy := [], causes := [], tx := [],
    syncCnt := 0, rpdo := [], tpdoDue := [], hbAlive := [], srdoFault := [], resetComm := false, nmt := 0, spiBusy := false,
    spiTag := 0, spiOp := none, spiOut := [],
    spiResp := false, usdoAbort := 0, usdoData := [], sample := [],
    tpdoAt := [], tpdoHeld := [], emcyAt := none, line1 := false, arbRate := 1000, dataRate := 8000,
    hbAt := none, syncAt := none, opAt := 0, srdoAt := [], srdoHalf := [], work := [], seqZero := false }

/-- IRQ after reset. -/
def irqFresh : IrqSt := { src := [], flushed := false, timerAt := [] }

/-- LOG after a power-on reset: the request for the reset's own entry waits (Table 13.5). -/
def logFresh : LogSt :=
  { queue := [⟨0, 0x13, 0x01, 1, 0, 0⟩], lost := 0, bridge := none, timeHi := 0, aonFrac := 0, edgeAt := 0, exp := none, expPos := 0, scan := false }

/-- PWR after reset. -/
def pwrFresh : PwrSt :=
  { sleep := .awake, sel := 0, wake := 0, wakeTime := 0, wakeAon := 0, ap4Aon := 0, motion0 := 0, plTo := 1, plSaved := 1, hold := false, retEmcy := [], lostNow := [],
    wakePin := false, noDeepen := false, vinLow := false, intHeld := 0, intHeldUp := 0, downAon := 0, idleAon := 0, absent := [] }

/-- SAF after reset. -/
def safFresh : SafSt :=
  { reaction := false, runWait := false, graceOver := false, wdgRun := false, slept := 0, due := [], lockUsed := false,
    limitedAt := 0, wdgAt := 0, padOff := [], safeBits := 0, limBits := 0 }

/-- BST after reset. -/
def bstFresh : BstSt :=
  { slice := [], count := [], paused := [], failing := [], line := 0, testLeft := [], testBad := false }

/-- The OTP as a device is shipped (R364): five copies of OPEN and the vendor test root with its digest in slot 0. -/
def otpShipped : SMap W32 :=
  let key : List Byte := (List.range 64).map (fun i => Config.vendorRoot.extractLsb' (8 * i) 8)
  let digest := Config.sha256 key
  (List.range 5).map (fun i => (i, 0x03961248)) ++ [(64, 0x0000A55A)] ++
    (List.range 16).map (fun i => (65 + i, Config.vendorRoot.extractLsb' (32 * i) 32)) ++
    (List.range 8).map (fun i => (81 + i, digest.extractLsb' (32 * i) 32))

/-- LCS and DBG after reset, in a device as shipped. -/
def lcsFresh : LcsSt := { otp := otpShipped, keyBuf := [], cert := [], cmd := none }

/-- The test port after Test-Logic-Reset. -/
def jtagFresh : JtagSt := { code := 2, ir := .idcode, irOut := 0, cells := [], addr := 0, space := 0, shiftOut := 0 }

/-- The machine right after a power-on reset, a device as shipped (R24, R364): LOAD, the first start-up phase,
SYS_RESET_CAUSE.POWER_ON set, PWR_RCHK the CRCs of the empty regions (R334), every other field at its value after reset, memories
without contents, flash arrays erased. -/
def State.reset : State :=
  { pending := [], regs := [(0x060B0080 * 64, 0xD7978EEB), (0x060B0088 * 64, 0x7EE8CDCD), (0x060B0090 * 64, 0xD7978EEB), (0x06120008 * 64, 1)], mem := [], sys := sysFresh, mst := mstFresh, xmc := xmcFresh, afe := afeFresh, que := queFresh, nib := nibFresh, chn := chnFresh, scr := { pair := [], autoDue := true }, fab := fabFresh, cfg := cfgFresh,
    ufl := uflFresh, net := netFresh, irq := irqFresh, log := logFresh, pwr := pwrFresh, saf := safFresh,
    bst := bstFresh, lcs := lcsFresh, jtag := jtagFresh }

end Sys2Proof.Machine
end

