-- ==== Sys2Proof/Machine/Ops.lean ====
section
/-! DEFINITION. The named operations over the register file: reading and writing a field, sticky bits, counters; the
current mode and device time; small bit helpers. Every read and write of a register field goes through `rd` and `wr`. -/
namespace Sys2Proof.Machine

open Sys2Proof

/-- The key of a field in the register file: register address and lowest bit. -/
def Fld.key (f : Fld) : Nat := f.addr * 64 + f.lo

/-- The value of a field: what it holds, or its value after reset when nothing has written it since. -/
def State.rd (s : State) (f : Fld) : Nat := mapGet f.rst s.regs f.key

/-- Set a field: the value is cut to the field's width. -/
def State.wr (s : State) (f : Fld) (v : Nat) : State := { s with regs := mapPut s.regs f.key (v % 2 ^ f.w) }

/-- A one-bit field as a truth value. -/
def State.rdB (s : State) (f : Fld) : Bool := s.rd f != 0

/-- Set a one-bit field. -/
def State.set1 (s : State) (f : Fld) : State := s.wr f 1

/-- Clear a field. -/
def State.clr (s : State) (f : Fld) : State := s.wr f 0

/-- Set or clear a one-bit field. -/
def State.wrB (s : State) (f : Fld) (b : Bool) : State := s.wr f (if b then 1 else 0)

/-- OR bits into a field. -/
def State.orF (s : State) (f : Fld) (m : Nat) : State := s.wr f (s.rd f ||| m)

/-- Clear the bits of a mask in a field (R7, w1c). -/
def State.w1c (s : State) (f : Fld) (m : Nat) : State := s.wr f (s.rd f ^^^ (s.rd f &&& m))

/-- Count up, stopping at the largest value of the field. -/
def State.incSat (s : State) (f : Fld) : State := s.wr f (min (s.rd f + 1) (2 ^ f.w - 1))

/-- Count up by n, stopping at the largest value of the field. -/
def State.addSat (s : State) (f : Fld) (n : Nat) : State := s.wr f (min (s.rd f + n) (2 ^ f.w - 1))

/-- Count up, wrapping at the field's width. -/
def State.incWrap (s : State) (f : Fld) : State := s.wr f (s.rd f + 1)

/-- Count up by n, wrapping at the field's width. -/
def State.addWrap (s : State) (f : Fld) (n : Nat) : State := s.wr f (s.rd f + n)

/-- The low n bits of a number read as a two's complement number (R30). -/
def sx (n v : Nat) : Int :=
  if (v % 2 ^ n) < 2 ^ (n - 1) then ((v % 2 ^ n : Nat) : Int) else ((v % 2 ^ n : Nat) : Int) - (2 ^ n : Nat)

/-- The n-bit two's complement encoding of a number. -/
def enc (n : Nat) (i : Int) : Nat := (i % ((2 ^ n : Nat) : Int)).toNat

/-- A field read as a two's complement number. -/
def State.rdI (s : State) (f : Fld) : Int := sx f.w (s.rd f)

/-- Set a field to the two's complement encoding of a number. -/
def State.wrI (s : State) (f : Fld) (i : Int) : State := s.wr f (enc f.w i)

/-- Bits m down to n of a number (R3). -/
def bits (v hi lo : Nat) : Nat := (v / 2 ^ lo) % 2 ^ (hi + 1 - lo)

/-- Bit n of a number. -/
def bit (v n : Nat) : Bool := v.testBit n

/-- Replace bits m down to n of a number. -/
def setBits (v hi lo x : Nat) : Nat :=
  (v - bits v hi lo * 2 ^ lo) + (x % 2 ^ (hi + 1 - lo)) * 2 ^ lo

/-- One bit of a truth value. -/
def b2n (b : Bool) : Nat := if b then 1 else 0

/-- The bytes of a number, least significant first (R4). -/
def toBytes : Nat → Nat → List Byte
  | 0, _ => []
  | n + 1, v => BitVec.ofNat 8 v :: toBytes n (v / 256)

/-- The number a list of bytes spells, least significant first (R4). -/
def ofBytes : List Byte → Nat
  | [] => 0
  | b :: r => b.toNat + 256 * ofBytes r

/-- The value at a position of a list, `d` past its end. -/
def nth {α : Type} (d : α) (l : List α) (i : Nat) : α := (l[i]?).getD d

/-- Run an update for each element of a list, in order. -/
def forEach {α : Type} (l : List α) (s : State) (f : α → State → State) : State :=
  l.foldl (fun t a => f a t) s

/-- Apply an update when a condition holds. -/
def when_ (c : Bool) (f : State → State) (s : State) : State := if c then f s else s

/-- Insert into an ascending list of numbers without repeats. -/
def setIns : List Nat → Nat → List Nat
  | [], k => [k]
  | e :: r, k => if k < e then k :: e :: r else if k = e then e :: r else e :: setIns r k

/-- Remove a number from a list. -/
def setDel (l : List Nat) (k : Nat) : List Nat := l.filter (fun e => e != k)

/-- A free value of the spec: the counter in State is read and advanced, and an opaque constant answers for it. -/
def State.drawn (s : State) : State := { s with sys := { s.sys with free := s.sys.free + 1 } }

/-- Record what a read returned. -/
def State.ret (s : State) (v : Nat) : State := { s with sys := { s.sys with rdData := v, rdErr := 0 } }

/-- Record that an access was a bus error or an error response. -/
def State.retErr (s : State) (code : Nat) : State := { s with sys := { s.sys with rdData := 0, rdErr := code } }

end Sys2Proof.Machine
end

