-- ==== Sys2Proof/Machine/Codes.lean ====
section
/-! DEFINITION. The codes the spec names: CRC-16 (0x1021), CRC-32 (IEEE 802.3), the SEC-DED code of R219 and the
Reed-Solomon code of the SDRAM lines (R239). -/
namespace Sys2Proof.Machine

open Sys2Proof

/-- n steps of the CRC-16 shift register, polynomial 0x1021. -/
def crc16Steps : Nat → Nat → Nat
  | 0, c => c
  | n + 1, c => crc16Steps n (if c.testBit 15 then ((c * 2) ^^^ 0x1021) % 65536 else c * 2 % 65536)

/-- CRC-16 over bytes from a register value: polynomial 0x1021, no reflection, no final XOR (R296, R314). -/
def crc16From (c : Nat) (l : List Byte) : Nat := l.foldl (fun a b => crc16Steps 8 (a ^^^ (b.toNat * 256))) c

/-- CRC-16 with initial value 0xFFFF. -/
def crc16 (l : List Byte) : Nat := crc16From 0xFFFF l

/-- n steps of the reflected CRC-32 shift register. -/
def crc32Steps : Nat → Nat → Nat
  | 0, c => c
  | n + 1, c => crc32Steps n (if c % 2 = 1 then (c / 2) ^^^ 0xEDB88320 else c / 2)

/-- CRC-32 (IEEE 802.3) register over bytes. -/
def crc32Reg (c : Nat) (l : List Byte) : Nat := l.foldl (fun a b => crc32Steps 8 (a ^^^ b.toNat)) c

/-- CRC-32 (IEEE 802.3) of bytes: initial value and final XOR 0xFFFF_FFFF. -/
def crc32 (l : List Byte) : Nat := (crc32Reg 0xFFFFFFFF l) ^^^ 0xFFFFFFFF

/-- Product of two elements of the reflected CRC-32 field, k bits of the second. -/
def crcMulAux : Nat → Nat → Nat → Nat → Nat
  | 0, _, _, acc => acc
  | n + 1, a, b, acc =>
    crcMulAux n (if a % 2 = 1 then (a / 2) ^^^ 0xEDB88320 else a / 2) (b * 2)
      (if b.testBit 31 then acc ^^^ a else acc)

/-- Product of two polynomials modulo the CRC-32 polynomial, in the reflected form. -/
def crcMul (a b : Nat) : Nat := crcMulAux 32 a b 0

/-- x to the power 8n modulo the CRC-32 polynomial, from the bits of n. -/
def crcShiftAux : Nat → Nat → Nat → Nat → Nat
  | 0, _, _, acc => acc
  | k + 1, n, sq, acc => crcShiftAux k (n / 2) (crcMul sq sq) (if n % 2 = 1 then crcMul acc sq else acc)

/-- The factor by which n further bytes shift a CRC-32 register. -/
def crcShift (n : Nat) : Nat := crcShiftAux 24 n 0x00800000 0x80000000

/-- The CRC-32 of a region after one of its words of data has changed by `delta` (a XOR of old and new, 8 bytes), with
`after` bytes of the region behind the word: the CRC is linear in its data. -/
def crc32Patch (crc : Nat) (delta : Nat) (after : Nat) : Nat :=
  crc ^^^ crcMul (crcShift after) (crc32Reg 0 (toBytes 8 delta))

/-- The columns of the 64 data bits in the code of R219. -/
def eccCols : List Nat :=
  [0x07, 0x0B, 0x0D, 0x0E, 0x13, 0x15, 0x16, 0x19, 0x1A, 0x1C, 0x23, 0x25, 0x26, 0x29, 0x2A, 0x2C,
   0x31, 0x32, 0x34, 0x38, 0x43, 0x45, 0x46, 0x49, 0x4A, 0x4C, 0x51, 0x52, 0x54, 0x58, 0x61, 0x62]
  ++
  [0x64, 0x68, 0x70, 0x83, 0x85, 0x86, 0x89, 0x8A, 0x8C, 0x91, 0x92, 0x94, 0x98, 0xA1, 0xA2, 0xA4,
   0xA8, 0xB0, 0xC1, 0xC2, 0xC4, 0xC8, 0xD0, 0xE0, 0x1F, 0x2F, 0x37, 0x3B, 0x3D, 0x3E, 0x4F, 0x57]

/-- XOR of the columns of the set bits of a data word. -/
def eccAux : List Nat → Nat → Nat → Nat
  | [], _, acc => acc
  | c :: r, d, acc => eccAux r (d / 2) (if d % 2 = 1 then acc ^^^ c else acc)

/-- The check byte of a data word (R219). -/
def eccCheck (d : Nat) : Nat := eccAux eccCols d 0

/-- The outcome of decoding a stored word (R219). -/
inductive EccOut where
  /-- The word is clean. -/
  | clean (d : W64)
  /-- One stored bit was in error: the data delivered. -/
  | fixed (d : W64)
  /-- The word is uncorrectable. -/
  | bad
deriving DecidableEq, Repr

/-- Position of a column in the code, if it is one. -/
def eccFind : List Nat → Nat → Nat → Option Nat
  | [], _, _ => none
  | c :: r, x, i => if c = x then some i else eccFind r x (i + 1)

/-- Decode a stored word (R219). -/
def eccDecode (w : MemWord) : EccOut :=
  let d := w.toNat % 2 ^ 64
  let syn := (w.toNat / 2 ^ 64) ^^^ eccCheck d
  if syn = 0 then .clean (BitVec.ofNat 64 d)
  else match eccFind eccCols syn 0 with
    | some i => .fixed (BitVec.ofNat 64 (d ^^^ 2 ^ i))
    | none => if syn ∈ [1, 2, 4, 8, 16, 32, 64, 128] then .fixed (BitVec.ofNat 64 d) else .bad

/-- A word with fresh check bits (R220). -/
def eccEncode (d : W64) : MemWord := BitVec.ofNat 72 (d.toNat + eccCheck d.toNat * 2 ^ 64)

/-- The poison mark: check bits as computed XOR 0x03 (R223). -/
def eccPoison (d : W64) : MemWord := BitVec.ofNat 72 (d.toNat + (eccCheck d.toNat ^^^ 0x03) * 2 ^ 64)

end Sys2Proof.Machine
end

