-- ==== Sys2Proof/Machine/Tables.lean ====
section
/-! DEFINITION. Small tables of the spec that other files look up: user banks (Table 17.16), interrupt source types
(Table 13.1), safety inputs (Table 15.1), block IDs (Table 1.1) and status codes (Table 1.4). -/
namespace Sys2Proof.Machine

/-- The user bank of a pin index (Table 17.16). -/
def pinBank (p : Nat) : Nat := if p < 440 then p / 44 else if p < 476 then 10 else 11

/-- The clock-capable pins (R182, R398). -/
def clockPins : List Nat := [0, 1, 44, 45, 88, 89, 132, 133]

/-- A master ID is a fabric master port (Table 1.3). -/
def isFabric (master : Nat) : Bool := decide (0x10 ≤ master) && decide (master ≤ 0x17)

/-- The sources of Table 13.1 that are of level type. -/
def irqIsLevel (i : Nat) : Bool :=
  (decide (32 ≤ i) && decide (i < 96)) || i == 160 || i == 178 || (decide (200 ≤ i) && decide (i < 232)) ||
  (decide (320 ≤ i) && decide (i < 384)) || i == 400

/-- The sources of Table 13.1 that exist; all others are reserved. -/
def irqExists (i : Nat) : Bool :=
  i == 1 || i == 2 || (decide (16 ≤ i) && decide (i ≤ 21)) || (decide (32 ≤ i) && decide (i < 162)) ||
  (decide (176 ≤ i) && decide (i ≤ 178)) || (decide (192 ≤ i) && decide (i < 232)) ||
  (decide (256 ≤ i) && decide (i < 288)) || (decide (320 ≤ i) && decide (i < 403))

/-- Default class of a safety input: 0 REPORT, 1 LIMITED, 2 SAFE (Table 15.1). -/
def safDefault (i : Nat) : Nat :=
  if i ∈ [3, 4, 16, 18, 20, 21] then 0
  else if i ∈ [8, 9, 10, 11, 12, 13, 14, 15, 19, 22, 42, 43] then 1
  else if i = 6 ∨ i = 7 ∨ 45 ≤ i then 0
  else 2

/-- Permitted classes of a safety input as a bit mask: bit 0 REPORT, bit 1 LIMITED, bit 2 SAFE (Table 15.1). -/
def safPermitted (i : Nat) : Nat :=
  if i ∈ [3, 4, 16, 18, 19, 20, 21, 22, 24, 25, 26, 27, 28, 29, 30, 31, 42, 43] then 7
  else if i ∈ [0, 1, 5, 8, 9, 10, 11, 12, 13, 14, 15, 23, 35, 41] then 6
  else if i = 6 ∨ i = 7 ∨ 45 ≤ i then 0
  else 4

/-- The reset value of SAF_CLASS[w]: the default classes of inputs 16w to 16w + 15. -/
def safClassWord (w : Nat) : Nat :=
  (List.range 16).foldl (fun a j => a + safDefault (16 * w + j) * 2 ^ (2 * j)) 0

/-- The inputs that are active only in the tick they are raised (Table 15.1, "event"). -/
def safIsEvent (i : Nat) : Bool := i ∈ [4, 16, 18, 20, 21, 23, 38]

/-- Block ID of a safety input's origin (Table 15.1, Table 1.1). -/
def safOrigin (i : Nat) : Nat :=
  if i ≤ 3 then 0x01
  else if i ≤ 5 then 0x03
  else if i ≤ 15 then 0x04
  else if i ≤ 17 then 0x06
  else if i ≤ 19 then 0x07
  else if i ≤ 22 then 0x08
  else if i ≤ 32 then 0x05
  else if i ≤ 34 then 0x0A
  else if i = 35 then 0x0C
  else if i ≤ 40 then 0x0D
  else if i ≤ 43 then 0x0E
  else 0x0D

namespace Blk
/-! Block IDs (Table 1.1). -/
def afe := 0x01
def que := 0x02
def nib := 0x03
def scr := 0x04
def fab := 0x05
def cfg := 0x06
def mem := 0x07
def xmc := 0x08
def ufl := 0x09
def net := 0x0A
def irq := 0x0B
def pwr := 0x0C
def saf := 0x0D
def bst := 0x0E
def lcs := 0x0F
def dma := 0x10
def log := 0x11
def hsp := 0x12
def sys := 0x13
end Blk

namespace St
/-! Command status codes (Table 1.4). -/
def ok := 0x00
def busy := 0x01
def refusedMode := 0x02
def notErased := 0x03
def order := 0x04
def access := 0x05
def auth := 0x06
def uncorrectable := 0x07
def duplicate := 0x08
def range := 0x09
def incomplete := 0x0A
end St

namespace Md
/-! Mode codes (Table 1.5). -/
def load := 0
def selftest := 1
def standby := 2
def run := 3
def limited := 4
def safe := 5
def sleep := 6
def frozen := 7
end Md

end Sys2Proof.Machine
end

