-- ==== Sys2Proof/Machine/Regs.lean ====
section
/-! DEFINITION. The named register fields of the device, one `Fld` per field of the field tables of spec/01 to
spec/16: its system address (block base of Table 1.1 plus offset, R6), lowest bit, width and value after reset (R9:
where the Reset column holds a source code, the hardware value the Meaning column gives). Indexed registers take
their index as an argument. -/
namespace Sys2Proof.Machine.Fd

open Sys2Proof.Machine


/-! Registers of block SYS. -/

def SYS_MODE_MODE : Fld := ⟨0x06120000, 0, 3, 0⟩
def SYS_MODE_SLEEP_STATE : Fld := ⟨0x06120000, 4, 2, 0⟩
def SYS_MODE_STARTUP_DONE : Fld := ⟨0x06120000, 6, 1, 0⟩
def SYS_MODE_FALLBACK_BANK : Fld := ⟨0x06120000, 7, 1, 0⟩
def SYS_MODE_LAST_CAUSE : Fld := ⟨0x06120000, 8, 8, 0⟩
def SYS_MODE_PREV_MODE : Fld := ⟨0x06120000, 16, 3, 0⟩
def SYS_MODE_REQ_TARGET : Fld := ⟨0x06120004, 0, 3, 0⟩
def SYS_MODE_REQ_SLEEP_SEL : Fld := ⟨0x06120004, 4, 2, 0⟩
def SYS_MODE_REQ_STATUS : Fld := ⟨0x06120004, 16, 8, 0⟩
def SYS_MODE_REQ_BUSY : Fld := ⟨0x06120004, 24, 1, 0⟩
def SYS_RESET_CAUSE_POWER_ON : Fld := ⟨0x06120008, 0, 1, 0⟩
def SYS_RESET_CAUSE_BROWN_OUT : Fld := ⟨0x06120008, 1, 1, 0⟩
def SYS_RESET_CAUSE_PIN : Fld := ⟨0x06120008, 2, 1, 0⟩
def SYS_RESET_CAUSE_WARM_CMD : Fld := ⟨0x06120008, 3, 1, 0⟩
def SYS_RESET_CAUSE_NMT_RESET : Fld := ⟨0x06120008, 4, 1, 0⟩
def SYS_RESET_CAUSE_S3_WAKE : Fld := ⟨0x06120008, 5, 1, 0⟩
def SYS_RESET_CAUSE_FROZEN_EXIT : Fld := ⟨0x06120008, 6, 1, 0⟩
def SYS_RESET_CAUSE_LCS_CHANGE : Fld := ⟨0x06120008, 7, 1, 0⟩
def SYS_RESET_CMD_KEY : Fld := ⟨0x0612000C, 0, 16, 0⟩
def SYS_RESET_CMD_WARM : Fld := ⟨0x0612000C, 16, 1, 0⟩
def SYS_ID_DEVICE_CODE : Fld := ⟨0x06120010, 0, 16, 918⟩
def SYS_ID_STEPPING : Fld := ⟨0x06120010, 16, 8, 1⟩
def SYS_SDRAM_WIN_BASE (c : Nat) : Fld := ⟨0x06120018 + 4 * c, 0, 8, 0⟩
def SYS_ARB_CFG_SDRAM_LOW_SHARE : Fld := ⟨0x06120020, 0, 3, 3⟩
def SYS_ARB_CFG_IMGPROG_PACE : Fld := ⟨0x06120020, 8, 2, 0⟩
def SYS_BUSERR_ADDR_ADDR : Fld := ⟨0x06120028, 0, 32, 0⟩
def SYS_BUSERR_INFO_MASTER : Fld := ⟨0x0612002C, 0, 8, 0⟩
def SYS_BUSERR_INFO_WRITE : Fld := ⟨0x0612002C, 8, 1, 0⟩
def SYS_BUSERR_INFO_CAUSE : Fld := ⟨0x0612002C, 9, 3, 0⟩
def SYS_BUSERR_INFO_VALID : Fld := ⟨0x0612002C, 31, 1, 0⟩

/-! Registers of block AFE. -/

def AFE_CTRL_SRC : Fld := ⟨0x06000000, 0, 1, 0⟩
def AFE_CTRL_SINGLE_OK : Fld := ⟨0x06000000, 1, 1, 0⟩
def AFE_EST_STAT_VEL_SAT : Fld := ⟨0x06000004, 0, 1, 0⟩
def AFE_EST_STAT_ACC_SAT : Fld := ⟨0x06000004, 1, 1, 0⟩
def AFE_EST_STAT_RESID_SAT : Fld := ⟨0x06000004, 2, 1, 0⟩
def AFE_EST_STAT_CFG_REFUSED : Fld := ⟨0x06000004, 3, 1, 0⟩
def AFE_FAULT_CH0 : Fld := ⟨0x06000008, 0, 8, 0⟩
def AFE_FAULT_CH1 : Fld := ⟨0x06000008, 8, 8, 0⟩
def AFE_FAULT_PLAUS_ANG : Fld := ⟨0x06000008, 16, 1, 0⟩
def AFE_FAULT_PLAUS_VEL : Fld := ⟨0x06000008, 17, 1, 0⟩
def AFE_FAULT_PLAUS_DIR : Fld := ⟨0x06000008, 18, 1, 0⟩
def AFE_FAULT_CAL_INVALID : Fld := ⟨0x06000008, 19, 1, 0⟩
def AFE_PLAUS_CFG_PLAUS_N : Fld := ⟨0x0600000C, 0, 14, 15624⟩
def AFE_PLAUS_ANG_ANG_WIN : Fld := ⟨0x06000010, 0, 24, 16384⟩
def AFE_PLAUS_VEL_VEL_WIN : Fld := ⟨0x06000014, 0, 24, 4096⟩
def AFE_PLAUS_STAT_ANG_VIOL : Fld := ⟨0x06000018, 0, 1, 0⟩
def AFE_PLAUS_STAT_VEL_VIOL : Fld := ⟨0x06000018, 1, 1, 0⟩
def AFE_PLAUS_STAT_DIR_VIOL : Fld := ⟨0x06000018, 2, 1, 0⟩
def AFE_PLAUS_STAT_VCOUNT : Fld := ⟨0x06000018, 16, 14, 0⟩
def AFE_PLAUS_CMD_ALIGN : Fld := ⟨0x0600001C, 0, 1, 0⟩
def AFE_CHK_OFFSET_OFFSET : Fld := ⟨0x06000020, 0, 40, 0⟩
def AFE_PLAUS_DIFF_DIFF : Fld := ⟨0x06000028, 0, 40, 0⟩
def AFE_TBL_CTRL_ACTIVE0 : Fld := ⟨0x06000030, 0, 1, 0⟩
def AFE_TBL_CTRL_ACTIVE1 : Fld := ⟨0x06000030, 1, 1, 0⟩
def AFE_TBL_CTRL_EN0 : Fld := ⟨0x06000030, 2, 1, 0⟩
def AFE_TBL_CTRL_EN1 : Fld := ⟨0x06000030, 3, 1, 0⟩
def AFE_TBL_CTRL_SWAP0 : Fld := ⟨0x06000030, 8, 1, 0⟩
def AFE_TBL_CTRL_SWAP1 : Fld := ⟨0x06000030, 9, 1, 0⟩
def AFE_TBL_CTRL_PENDING0 : Fld := ⟨0x06000030, 16, 1, 0⟩
def AFE_TBL_CTRL_PENDING1 : Fld := ⟨0x06000030, 17, 1, 0⟩
def AFE_LEARN_CTRL_START : Fld := ⟨0x06000034, 0, 1, 0⟩
def AFE_LEARN_CTRL_CH : Fld := ⟨0x06000034, 1, 1, 0⟩
def AFE_LEARN_CTRL_REF : Fld := ⟨0x06000034, 2, 1, 0⟩
def AFE_LEARN_CTRL_REVS : Fld := ⟨0x06000034, 8, 4, 0⟩
def AFE_LEARN_CTRL_BUSY : Fld := ⟨0x06000034, 16, 1, 0⟩
def AFE_LEARN_CTRL_DONE : Fld := ⟨0x06000034, 17, 1, 0⟩
def AFE_LEARN_CTRL_ABORTED : Fld := ⟨0x06000034, 18, 1, 0⟩
def AFE_STAT_CTRL_START : Fld := ⟨0x06000038, 0, 1, 0⟩
def AFE_STAT_CTRL_CH : Fld := ⟨0x06000038, 1, 1, 0⟩
def AFE_STAT_CTRL_LOG2N : Fld := ⟨0x06000038, 8, 5, 18⟩
def AFE_STAT_CTRL_BUSY : Fld := ⟨0x06000038, 16, 1, 0⟩
def AFE_STAT_CTRL_DONE : Fld := ⟨0x06000038, 17, 1, 0⟩
def AFE_ADC_TRIM_FOFF (j : Nat) : Fld := ⟨0x06000040 + 4 * j, 0, 16, 0⟩
def AFE_ADC_TRIM_FGAIN (j : Nat) : Fld := ⟨0x06000040 + 4 * j, 16, 16, 32768⟩
def AFE_ADC_SKEW_SKEW (p : Nat) : Fld := ⟨0x06000050 + 4 * p, 0, 8, 0⟩
def AFE_STAT_SUM_S_SUM : Fld := ⟨0x06000060, 0, 64, 0⟩
def AFE_STAT_SUM_C_SUM : Fld := ⟨0x06000068, 0, 64, 0⟩
def AFE_STAT_SUM_SS_SUM : Fld := ⟨0x06000070, 0, 64, 0⟩
def AFE_STAT_SUM_CC_SUM : Fld := ⟨0x06000078, 0, 64, 0⟩
def AFE_STAT_SUM_SC_SUM : Fld := ⟨0x06000080, 0, 64, 0⟩
def AFE_CH_CFG_TYPE (k : Nat) : Fld := ⟨0x06000100 + 256 * k, 0, 2, 0⟩
def AFE_CH_CFG_DECODE (k : Nat) : Fld := ⟨0x06000100 + 256 * k, 2, 2, 3⟩
def AFE_CH_CFG_SINGLE_ENDED (k : Nat) : Fld := ⟨0x06000100 + 256 * k, 4, 1, 0⟩
def AFE_CH_CFG_TERM (k : Nat) : Fld := ⟨0x06000100 + 256 * k, 5, 1, 1⟩
def AFE_CH_CFG_INVERT_DIR (k : Nat) : Fld := ⟨0x06000100 + 256 * k, 6, 1, 0⟩
def AFE_CH_CFG_Z_MODE (k : Nat) : Fld := ⟨0x06000100 + 256 * k, 8, 2, 2⟩
def AFE_CH_CFG_Z_GATE_EN (k : Nat) : Fld := ⟨0x06000100 + 256 * k, 10, 1, 0⟩
def AFE_CH_CFG_Z_GATE_STATE (k : Nat) : Fld := ⟨0x06000100 + 256 * k, 11, 2, 0⟩
def AFE_CH_CFG_FILT (k : Nat) : Fld := ⟨0x06000100 + 256 * k, 16, 6, 2⟩
def AFE_CH_CPR_CPR (k : Nat) : Fld := ⟨0x06000104 + 256 * k, 0, 21, 0⟩
def AFE_CH_SCALE_S (k : Nat) : Fld := ⟨0x06000108 + 256 * k, 0, 64, 0⟩
def AFE_CH_ZCFG_ZOFS (k : Nat) : Fld := ⟨0x06000110 + 256 * k, 0, 21, 0⟩
def AFE_CH_ZCFG_ZTOL (k : Nat) : Fld := ⟨0x06000110 + 256 * k, 24, 4, 1⟩
def AFE_CH_RESID_RESID_MAX (k : Nat) : Fld := ⟨0x06000114 + 256 * k, 0, 24, 32768⟩
def AFE_CH_TAU_TAU (k : Nat) : Fld := ⟨0x06000118 + 256 * k, 0, 28, 250000⟩
def AFE_CH_STOP_STOP (k : Nat) : Fld := ⟨0x0600011C + 256 * k, 0, 24, 24414⟩
def AFE_CH_AMP_AMP_MIN (k : Nat) : Fld := ⟨0x06000120 + 256 * k, 0, 16, 8192⟩
def AFE_CH_AMP_AMP_MAX (k : Nat) : Fld := ⟨0x06000120 + 256 * k, 16, 16, 24576⟩
def AFE_CH_DIRCFG_DIR_HYST (k : Nat) : Fld := ⟨0x06000124 + 256 * k, 0, 16, 64⟩
def AFE_CH_VMAX_VMAX (k : Nat) : Fld := ⟨0x06000128 + 256 * k, 0, 24, 4398047⟩
def AFE_CH_UOFF_S_UOFF (k : Nat) : Fld := ⟨0x06000130 + 256 * k, 0, 22, 0⟩
def AFE_CH_UOFF_C_UOFF (k : Nat) : Fld := ⟨0x06000134 + 256 * k, 0, 22, 0⟩
def AFE_CH_UGAIN_GAIN_S (k : Nat) : Fld := ⟨0x06000138 + 256 * k, 0, 16, 32768⟩
def AFE_CH_UGAIN_GAIN_C (k : Nat) : Fld := ⟨0x06000138 + 256 * k, 16, 16, 32768⟩
def AFE_CH_QUAD_QK1 (k : Nat) : Fld := ⟨0x0600013C + 256 * k, 0, 16, 32768⟩
def AFE_CH_QUAD_QK2 (k : Nat) : Fld := ⟨0x0600013C + 256 * k, 16, 16, 0⟩
def AFE_CH_STAT_VALID (k : Nat) : Fld := ⟨0x06000140 + 256 * k, 0, 1, 0⟩
def AFE_CH_STAT_REFERENCED (k : Nat) : Fld := ⟨0x06000140 + 256 * k, 1, 1, 0⟩
def AFE_CH_STAT_DIR (k : Nat) : Fld := ⟨0x06000140 + 256 * k, 2, 1, 0⟩
def AFE_CH_STAT_STOPPED (k : Nat) : Fld := ⟨0x06000140 + 256 * k, 3, 1, 0⟩
def AFE_CH_STAT_SILENCE (k : Nat) : Fld := ⟨0x06000140 + 256 * k, 4, 1, 0⟩
def AFE_CH_STAT_AMP (k : Nat) : Fld := ⟨0x06000140 + 256 * k, 16, 16, 0⟩
def AFE_CH_ERRCNT_ILLEGAL_CNT (k : Nat) : Fld := ⟨0x06000144 + 256 * k, 0, 16, 0⟩
def AFE_CH_ERRCNT_ZMISS_CNT (k : Nat) : Fld := ⟨0x06000144 + 256 * k, 16, 16, 0⟩
def AFE_CH_FINE_FINE (k : Nat) : Fld := ⟨0x06000148 + 256 * k, 0, 40, 0⟩
def AFE_CH_VEL_VALUE (k : Nat) : Fld := ⟨0x06000150 + 256 * k, 0, 25, 0⟩
def AFE_CH_ACC_VALUE (k : Nat) : Fld := ⟨0x06000154 + 256 * k, 0, 25, 0⟩
def AFE_CH_XACC_XACC (k : Nat) : Fld := ⟨0x06000158 + 256 * k, 0, 41, 0⟩
def AFE_CH_TIME_T_U (k : Nat) : Fld := ⟨0x06000160 + 256 * k, 0, 64, 0⟩
def AFE_CH_COUNT_CELL (k : Nat) : Fld := ⟨0x06000168 + 256 * k, 0, 21, 0⟩

/-! Registers of block QUE. -/

def QUE_CMD_OP : Fld := ⟨0x06010000, 0, 4, 0⟩
def QUE_CMD_ARG : Fld := ⟨0x06010000, 8, 8, 0⟩
def QUE_CMD_QUEUE : Fld := ⟨0x06010000, 16, 16, 0⟩
def QUE_CMD_STAT_STATUS : Fld := ⟨0x06010004, 0, 8, 0⟩
def QUE_CMD_STAT_BUSY : Fld := ⟨0x06010004, 8, 1, 0⟩
def QUE_CMD_STAT_QUEUE : Fld := ⟨0x06010004, 16, 16, 0⟩
def QUE_INIT_CFG0_BASE : Fld := ⟨0x06010008, 0, 18, 0⟩
def QUE_INIT_CFG0_LOG2LEN : Fld := ⟨0x06010008, 24, 5, 0⟩
def QUE_INIT_CFG1_LATE : Fld := ⟨0x0601000C, 2, 2, 0⟩
def QUE_INIT_CFG1_DIR : Fld := ⟨0x0601000C, 4, 1, 0⟩
def QUE_INIT_CFG1_GROUP : Fld := ⟨0x0601000C, 8, 6, 0⟩
def QUE_INIT_CFG1_CPL : Fld := ⟨0x0601000C, 14, 2, 0⟩
def QUE_INIT_CFG1_PROD : Fld := ⟨0x0601000C, 16, 6, 0⟩
def QUE_INIT_CFG1_OWNER : Fld := ⟨0x0601000C, 24, 4, 0⟩
def QUE_REPAIR_W_WORD (i : Nat) : Fld := ⟨0x06010010 + 4 * i, 0, 32, 0⟩
def QUE_STAT_WIN_WRITE : Fld := ⟨0x06010020, 0, 1, 0⟩
def QUE_STAT_PORT_MISUSE : Fld := ⟨0x06010020, 1, 1, 0⟩
def QUE_STAT_DESC_UE : Fld := ⟨0x06010020, 2, 1, 0⟩
def QUE_STAT_CRING_OVF : Fld := ⟨0x06010020, 3, 1, 0⟩
def QUE_STAT_HALT_LOG_OVR : Fld := ⟨0x06010020, 4, 1, 0⟩
def QUE_STAT_BAR_REFUSED : Fld := ⟨0x06010020, 5, 1, 0⟩
def QUE_STAT_CRING_REFUSED : Fld := ⟨0x06010020, 6, 1, 0⟩
def QUE_HALT_LOG_QUEUE : Fld := ⟨0x06010028, 0, 16, 0⟩
def QUE_HALT_LOG_CAUSE : Fld := ⟨0x06010028, 16, 4, 0⟩
def QUE_HALT_LOG_VALID : Fld := ⟨0x06010028, 31, 1, 0⟩
def QUE_HALT_LOG_IDX : Fld := ⟨0x06010028, 32, 16, 0⟩
def QUE_GROUP_EN_EN : Fld := ⟨0x06010030, 0, 64, 18446744073709551615⟩
def QUE_REFUSE_CNT_COUNT (s : Nat) : Fld := ⟨0x06010040 + 4 * s, 0, 32, 0⟩
def QUE_PUSH_W_WORD (m : Nat) (i : Nat) : Fld := ⟨0x06010100 + 32 * m + 4 * i, 0, 32, 0⟩
def QUE_PUSH_CMD_QUEUE (m : Nat) : Fld := ⟨0x06010110 + 32 * m, 0, 16, 0⟩
def QUE_PUSH_CMD_OP (m : Nat) : Fld := ⟨0x06010110 + 32 * m, 16, 2, 0⟩
def QUE_PUSH_STAT_STATUS (m : Nat) : Fld := ⟨0x06010114 + 32 * m, 0, 8, 0⟩
def QUE_PUSH_STAT_BUSY (m : Nat) : Fld := ⟨0x06010114 + 32 * m, 8, 1, 0⟩
def QUE_PUSH_STAT_STAGED (m : Nat) : Fld := ⟨0x06010114 + 32 * m, 16, 16, 0⟩
def QUE_BAR_NEED (b : Nat) : Fld := ⟨0x06011000 + 4 * b, 0, 16, 0⟩
def QUE_BAR_ARRIVED (b : Nat) : Fld := ⟨0x06011000 + 4 * b, 16, 16, 0⟩
def QUE_CRING_CFG_BASE (g : Nat) : Fld := ⟨0x06012000 + 16 * g, 0, 18, 0⟩
def QUE_CRING_CFG_LOG2LEN (g : Nat) : Fld := ⟨0x06012000 + 16 * g, 24, 5, 0⟩
def QUE_CRING_CFG_EN (g : Nat) : Fld := ⟨0x06012000 + 16 * g, 31, 1, 0⟩
def QUE_CRING_PIDX_PIDX (g : Nat) : Fld := ⟨0x06012004 + 16 * g, 0, 16, 0⟩
def QUE_CRING_CIDX_CIDX (g : Nat) : Fld := ⟨0x06012008 + 16 * g, 0, 16, 0⟩
def QUE_CRING_CIDX_THRESH (g : Nat) : Fld := ⟨0x06012008 + 16 * g, 16, 16, 1⟩
def QUE_CRING_STAT_OVF_CNT (g : Nat) : Fld := ⟨0x0601200C + 16 * g, 0, 16, 0⟩
def QUE_GRP_CNT_COUNT (g : Nat) (j : Nat) : Fld := ⟨0x06013000 + 16 * g + 4 * j, 0, 32, 0⟩

/-! Registers of block NIB. -/

def NIB_CTRL_ACC_EN : Fld := ⟨0x06020000, 0, 1, 1⟩
def NIB_STAT_CROSSING : Fld := ⟨0x06020004, 0, 1, 0⟩
def NIB_STAT_SRC_CHANGED : Fld := ⟨0x06020004, 1, 1, 0⟩
def NIB_STAT_FULL : Fld := ⟨0x06020004, 2, 1, 0⟩
def NIB_STAT_IN_USE : Fld := ⟨0x06020004, 16, 11, 0⟩
def NIB_HORIZON_H : Fld := ⟨0x06020008, 0, 20, 250000⟩
def NIB_CROSS_VMIN : Fld := ⟨0x0602000C, 0, 16, 73⟩
def NIB_CROSS_REACH_REACH : Fld := ⟨0x06020010, 0, 24, 65536⟩
def NIB_ARITH_STAT_LEAD_SAT : Fld := ⟨0x06020014, 0, 1, 0⟩
def NIB_ARITH_STAT_DELAY_SAT : Fld := ⟨0x06020014, 1, 1, 0⟩
def NIB_ARITH_STAT_CFG_REFUSED : Fld := ⟨0x06020014, 2, 1, 0⟩
def NIB_REACH_REACH : Fld := ⟨0x06020018, 0, 32, 0⟩
def NIB_CNT_COUNT (i : Nat) : Fld := ⟨0x06020100 + 8 * i, 0, 64, 0⟩
def NIB_SPEC_MAX_SHIFT : Fld := ⟨0x06020180, 0, 24, 0⟩
def NIB_HWM_IN_USE_MAX : Fld := ⟨0x06020184, 0, 11, 0⟩
def NIB_RET_REC_COUNT : Fld := ⟨0x06020188, 0, 64, 0⟩
def NIB_LC_DELAY_DELAY (c : Nat) : Fld := ⟨0x06021000 + 16 * c, 0, 24, 0⟩
def NIB_LC_OFFSET_OFFSET (c : Nat) : Fld := ⟨0x06021004 + 16 * c, 0, 32, 0⟩
def NIB_LC_LEARN_LEARN_EN (c : Nat) : Fld := ⟨0x06021008 + 16 * c, 0, 1, 0⟩
def NIB_LC_LEARN_DSRC (c : Nat) : Fld := ⟨0x06021008 + 16 * c, 1, 1, 0⟩
def NIB_LC_LEARN_RESEED (c : Nat) : Fld := ⟨0x06021008 + 16 * c, 2, 1, 0⟩
def NIB_LC_LEARN_K (c : Nat) : Fld := ⟨0x06021008 + 16 * c, 4, 4, 4⟩
def NIB_LC_LEARN_ECHO_WIN (c : Nat) : Fld := ⟨0x06021008 + 16 * c, 8, 24, 16000⟩
def NIB_LC_STAT_SEEDED (c : Nat) : Fld := ⟨0x0602100C + 16 * c, 0, 1, 0⟩
def NIB_LC_STAT_REJECTS (c : Nat) : Fld := ⟨0x0602100C + 16 * c, 16, 16, 0⟩

/-! Registers of block CHN. -/

def CHN_STAT_BIND_REFUSED : Fld := ⟨0x06020200, 0, 1, 0⟩
def CHN_STAT_PIN_CONFLICT : Fld := ⟨0x06020200, 1, 1, 0⟩
def CHN_STAT_UNBOUND_FIRE : Fld := ⟨0x06020200, 2, 1, 0⟩
def CHN_STAT_CFG_REFUSED : Fld := ⟨0x06020200, 3, 1, 0⟩
def CHN_SFAULT_FAULT : Fld := ⟨0x06020204, 0, 32, 0⟩
def CHN_CNT_COUNT (i : Nat) : Fld := ⟨0x06020210 + 8 * i, 0, 64, 0⟩
def CHN_DCFG_PIN (c : Nat) : Fld := ⟨0x0602A800 + 4 * c, 0, 9, ((fun a => (a - 0x0602A800) / 4) (0x0602A800 + 4 * c))⟩
def CHN_DCFG_BOUND (c : Nat) : Fld := ⟨0x0602A800 + 4 * c, 9, 1, 0⟩
def CHN_DCFG_ECHO_UNIT (c : Nat) : Fld := ⟨0x0602A800 + 4 * c, 12, 5, 0⟩
def CHN_DCFG_ECHO_EN (c : Nat) : Fld := ⟨0x0602A800 + 4 * c, 17, 1, 0⟩
def CHN_DCFG_LEVEL (c : Nat) : Fld := ⟨0x0602A800 + 4 * c, 24, 1, 0⟩
def CHN_DCFG_PULSE_PENDING (c : Nat) : Fld := ⟨0x0602A800 + 4 * c, 25, 1, 0⟩
def CHN_DCFG_SAFE (c : Nat) : Fld := ⟨0x0602A800 + 4 * c, 26, 2, 0⟩
def CHN_SCFG0_SCK_PIN (s : Nat) : Fld := ⟨0x0602B000 + 16 * s, 0, 9, 0⟩
def CHN_SCFG0_SDO_PIN (s : Nat) : Fld := ⟨0x0602B000 + 16 * s, 16, 9, 0⟩
def CHN_SCFG1_LAT_PIN (s : Nat) : Fld := ⟨0x0602B004 + 16 * s, 0, 9, 0⟩
def CHN_SCFG1_OE_PIN (s : Nat) : Fld := ⟨0x0602B004 + 16 * s, 16, 9, 0⟩
def CHN_SCFG1_OE_POL (s : Nat) : Fld := ⟨0x0602B004 + 16 * s, 31, 1, 0⟩
def CHN_SCFG2_SDI_PIN (s : Nat) : Fld := ⟨0x0602B008 + 16 * s, 0, 9, 0⟩
def CHN_SCFG2_RET_MODE (s : Nat) : Fld := ⟨0x0602B008 + 16 * s, 12, 2, 0⟩
def CHN_SCFG2_LEN8 (s : Nat) : Fld := ⟨0x0602B008 + 16 * s, 16, 6, 0⟩
def CHN_SCFG2_DIV (s : Nat) : Fld := ⟨0x0602B008 + 16 * s, 24, 8, 4⟩
def CHN_SCFG3_LATW (s : Nat) : Fld := ⟨0x0602B00C + 16 * s, 0, 16, 1250⟩
def CHN_SCFG3_ECHO_UNIT (s : Nat) : Fld := ⟨0x0602B00C + 16 * s, 16, 5, 0⟩
def CHN_SCFG3_ECHO_EN (s : Nat) : Fld := ⟨0x0602B00C + 16 * s, 21, 1, 0⟩
def CHN_SCFG3_LATPW (s : Nat) : Fld := ⟨0x0602B00C + 16 * s, 22, 6, 4⟩
def CHN_SCFG3_FRAME_OPEN (s : Nat) : Fld := ⟨0x0602B00C + 16 * s, 28, 1, 0⟩
def CHN_ECFG_PIN (u : Nat) : Fld := ⟨0x0602B200 + 16 * u, 0, 9, 0⟩
def CHN_ECFG_EN (u : Nat) : Fld := ⟨0x0602B200 + 16 * u, 9, 1, 0⟩
def CHN_ECFG_ACT_EDGE (u : Nat) : Fld := ⟨0x0602B200 + 16 * u, 10, 1, 0⟩
def CHN_ECFG_REL_EDGE (u : Nat) : Fld := ⟨0x0602B200 + 16 * u, 11, 1, 1⟩
def CHN_ECFG_EFILT (u : Nat) : Fld := ⟨0x0602B200 + 16 * u, 12, 6, 2⟩
def CHN_ETIME_EBLANK (u : Nat) : Fld := ⟨0x0602B204 + 16 * u, 0, 16, 0⟩
def CHN_ETIME_ETMO (u : Nat) : Fld := ⟨0x0602B204 + 16 * u, 16, 16, 39063⟩
def CHN_ESTAT_TIMEOUTS (u : Nat) : Fld := ⟨0x0602B208 + 16 * u, 0, 16, 0⟩
def CHN_ESTAT_BUSY_MISSES (u : Nat) : Fld := ⟨0x0602B208 + 16 * u, 16, 16, 0⟩
def CHN_ELAST_M (u : Nat) : Fld := ⟨0x0602B20C + 16 * u, 0, 24, 0⟩
def CHN_ELAST_BUSY (u : Nat) : Fld := ⟨0x0602B20C + 16 * u, 31, 1, 0⟩

/-! Registers of block SCR. -/

def SCR_STAT_WIN_REFUSED : Fld := ⟨0x06030000, 0, 1, 0⟩
def SCR_STAT_FAILED : Fld := ⟨0x06030000, 8, 8, 0⟩
def SCR_WIN_SEL_PAIR : Fld := ⟨0x06030004, 0, 3, 0⟩
def SCR_WIN_SEL_MEM : Fld := ⟨0x06030004, 4, 1, 0⟩
def SCR_WIN_SEL_HALF : Fld := ⟨0x06030004, 5, 1, 0⟩
def SCR_CMD_OP (p : Nat) : Fld := ⟨0x06030100 + 64 * p, 0, 4, 0⟩
def SCR_PSTAT_STATE (p : Nat) : Fld := ⟨0x06030104 + 64 * p, 0, 3, 0⟩
def SCR_PSTAT_IN_TRAP (p : Nat) : Fld := ⟨0x06030104 + 64 * p, 3, 1, 0⟩
def SCR_PSTAT_WAITING (p : Nat) : Fld := ⟨0x06030104 + 64 * p, 4, 1, 0⟩
def SCR_PSTAT_BUSY (p : Nat) : Fld := ⟨0x06030104 + 64 * p, 5, 1, 0⟩
def SCR_PSTAT_STATUS (p : Nat) : Fld := ⟨0x06030104 + 64 * p, 8, 8, 0⟩
def SCR_PSTAT_SAT (p : Nat) : Fld := ⟨0x06030104 + 64 * p, 16, 1, 0⟩
def SCR_PSTAT_OVF (p : Nat) : Fld := ⟨0x06030104 + 64 * p, 17, 1, 0⟩
def SCR_PSTAT_DIV0 (p : Nat) : Fld := ⟨0x06030104 + 64 * p, 18, 1, 0⟩
def SCR_PSTAT_FAIL_CAUSE (p : Nat) : Fld := ⟨0x06030104 + 64 * p, 20, 2, 0⟩
def SCR_PSTAT_FETCHES (p : Nat) : Fld := ⟨0x06030104 + 64 * p, 24, 3, 0⟩
def SCR_PC_INIT_AUTOSTART (p : Nat) : Fld := ⟨0x06030108 + 64 * p, 0, 1, 0⟩
def SCR_PC_INIT_ADDR (p : Nat) : Fld := ⟨0x06030108 + 64 * p, 2, 30, 0⟩
def SCR_PC_PC (p : Nat) : Fld := ⟨0x0603010C + 64 * p, 0, 32, 0⟩
def SCR_TRAP_CAUSE (p : Nat) : Fld := ⟨0x06030110 + 64 * p, 0, 3, 0⟩
def SCR_TRAP_COUNT (p : Nat) : Fld := ⟨0x06030110 + 64 * p, 16, 16, 0⟩
def SCR_TRAP_PC_VALUE (p : Nat) : Fld := ⟨0x06030114 + 64 * p, 0, 32, 0⟩
def SCR_TRAP_INFO_VALUE (p : Nat) : Fld := ⟨0x06030118 + 64 * p, 0, 32, 0⟩
def SCR_DOORBELL_RING (p : Nat) : Fld := ⟨0x0603011C + 64 * p, 0, 16, 0⟩
def SCR_DOORBELL_PENDING (p : Nat) : Fld := ⟨0x0603011C + 64 * p, 16, 16, 0⟩
def SCR_SIGNAL_SIG (p : Nat) : Fld := ⟨0x06030120 + 64 * p, 0, 4, 0⟩
def SCR_FC_CNT_MISSES (p : Nat) : Fld := ⟨0x06030124 + 64 * p, 0, 16, 0⟩
def SCR_FC_CNT_LINE_DROPS (p : Nat) : Fld := ⟨0x06030124 + 64 * p, 16, 16, 0⟩
def SCR_RETIRED_COUNT (p : Nat) : Fld := ⟨0x06030128 + 64 * p, 0, 64, 0⟩
def SCR_DBG_CTRL_PAIR : Fld := ⟨0x06030400, 0, 3, 0⟩
def SCR_DBG_CTRL_HALT : Fld := ⟨0x06030400, 8, 1, 0⟩
def SCR_DBG_CTRL_STEP : Fld := ⟨0x06030400, 9, 1, 0⟩
def SCR_DBG_CTRL_RESUME : Fld := ⟨0x06030400, 10, 1, 0⟩
def SCR_DBG_CTRL_BP0_EN : Fld := ⟨0x06030400, 16, 1, 0⟩
def SCR_DBG_CTRL_BP1_EN : Fld := ⟨0x06030400, 17, 1, 0⟩
def SCR_DBG_STAT_STATUS : Fld := ⟨0x06030404, 0, 8, 0⟩
def SCR_DBG_STAT_HALTED : Fld := ⟨0x06030404, 8, 1, 0⟩
def SCR_DBG_STAT_BP0_HIT : Fld := ⟨0x06030404, 9, 1, 0⟩
def SCR_DBG_STAT_BP1_HIT : Fld := ⟨0x06030404, 10, 1, 0⟩
def SCR_DBG_BP_ADDR (i : Nat) : Fld := ⟨0x06030408 + 4 * i, 2, 30, 0⟩
def SCR_DBG_REG_SEL_SEL : Fld := ⟨0x06030410, 0, 16, 0⟩
def SCR_DBG_REG_DATA_DATA : Fld := ⟨0x06030414, 0, 32, 0⟩

/-! Registers of block FAB. -/

def FAB_STAT_CFG_REFUSED : Fld := ⟨0x06040000, 0, 1, 0⟩
def FAB_STAT_LOUPE_REFUSED : Fld := ⟨0x06040000, 1, 1, 0⟩
def FAB_STAT_CONTENTION : Fld := ⟨0x06040000, 2, 1, 0⟩
def FAB_STAT_DICT_TMO : Fld := ⟨0x06040000, 3, 1, 0⟩
def FAB_STAT_FPLL_LOSS : Fld := ⟨0x06040000, 4, 1, 0⟩
def FAB_STAT_MATH_SAT_ANY : Fld := ⟨0x06040000, 5, 1, 0⟩
def FAB_STAT_MATH_OVF_ANY : Fld := ⟨0x06040000, 6, 1, 0⟩
def FAB_CLK_STAT_NET_RUN : Fld := ⟨0x06040004, 0, 24, 0⟩
def FAB_CLK_STAT_PL_LIMIT : Fld := ⟨0x06040004, 24, 2, 3⟩
def FAB_CLK_STAT_FPLL_LOCK : Fld := ⟨0x06040004, 28, 4, 0⟩
def FAB_CHAIN_CAP_CHAIN : Fld := ⟨0x06040008, 0, 12, 0⟩
def FAB_CHAIN_CAP_TAP_A : Fld := ⟨0x06040008, 12, 5, 0⟩
def FAB_CHAIN_CAP_TAP_B : Fld := ⟨0x06040008, 17, 5, 0⟩
def FAB_CHAIN_CAP_VALID : Fld := ⟨0x06040008, 31, 1, 0⟩
def FAB_CHAIN_CAP_TIME : Fld := ⟨0x06040008, 32, 32, 0⟩
def FAB_CHAIN_CNT_COUNT : Fld := ⟨0x06040010, 0, 32, 0⟩
def FAB_DICT_STAT_REQ_CNT : Fld := ⟨0x06040014, 0, 16, 0⟩
def FAB_DICT_STAT_TMO_CNT : Fld := ⟨0x06040014, 16, 16, 0⟩
def FAB_LOUPE_CTRL_EN : Fld := ⟨0x06040020, 0, 1, 0⟩
def FAB_LOUPE_CTRL_CLK : Fld := ⟨0x06040020, 4, 5, 0⟩
def FAB_LOUPE_CTRL_STATUS : Fld := ⟨0x06040020, 16, 8, 0⟩
def FAB_MATH_SAT_FLAG (w : Nat) : Fld := ⟨0x06040100 + 4 * w, 0, 32, 0⟩
def FAB_MATH_OVF_FLAG (w : Nat) : Fld := ⟨0x06040200 + 4 * w, 0, 32, 0⟩
def FAB_LOUPE_SEL_INDEX (k : Nat) : Fld := ⟨0x06040400 + 4 * k, 0, 20, 0⟩
def FAB_LOUPE_SEL_SRC (k : Nat) : Fld := ⟨0x06040400 + 4 * k, 20, 3, 0⟩
def FAB_LOUPE_SEL_PIN (k : Nat) : Fld := ⟨0x06040400 + 4 * k, 23, 9, 0⟩
def FAB_IOCFG_PULL (p : Nat) : Fld := ⟨0x06041000 + 4 * p, 0, 2, 0⟩
def FAB_IOCFG_DRIVE (p : Nat) : Fld := ⟨0x06041000 + 4 * p, 2, 2, 1⟩
def FAB_IOCFG_SLEW (p : Nat) : Fld := ⟨0x06041000 + 4 * p, 4, 2, 0⟩
def FAB_IOCFG_HYST (p : Nat) : Fld := ⟨0x06041000 + 4 * p, 6, 1, 1⟩
def FAB_IOCFG_IN_EN (p : Nat) : Fld := ⟨0x06041000 + 4 * p, 7, 1, 1⟩
def FAB_IOCFG_FAB_OUT (p : Nat) : Fld := ⟨0x06041000 + 4 * p, 8, 1, 0⟩
def FAB_IOCFG_CHN_USE (p : Nat) : Fld := ⟨0x06041000 + 4 * p, 9, 1, 0⟩
def FAB_IOCFG_PROBE (p : Nat) : Fld := ⟨0x06041000 + 4 * p, 10, 1, 0⟩
def FAB_IOCFG_BANK (p : Nat) : Fld := ⟨0x06041000 + 4 * p, 12, 4, ((fun a => pinBank ((a - 0x06041000) / 4)) (0x06041000 + 4 * p))⟩
def FAB_IOCFG_SAFE (p : Nat) : Fld := ⟨0x06041000 + 4 * p, 16, 2, ((fun _ => 2) (0x06041000 + 4 * p))⟩

/-! Registers of block CFG. -/

def CFG_CMD_OP : Fld := ⟨0x06050000, 0, 4, 0⟩
def CFG_CMD_BANK : Fld := ⟨0x06050000, 4, 1, 0⟩
def CFG_CMD_SECTOR : Fld := ⟨0x06050000, 8, 5, 0⟩
def CFG_CMD_SLOT : Fld := ⟨0x06050000, 16, 5, 0⟩
def CFG_CMD_STAT_STATUS : Fld := ⟨0x06050004, 0, 8, 0⟩
def CFG_CMD_STAT_BUSY : Fld := ⟨0x06050004, 8, 1, 0⟩
def CFG_CMD_STAT_PHASE : Fld := ⟨0x06050004, 9, 3, 0⟩
def CFG_CMD_STAT_OP : Fld := ⟨0x06050004, 12, 4, 0⟩
def CFG_CMD_STAT_PROGRESS : Fld := ⟨0x06050004, 16, 16, 0⟩
def CFG_ADDR_OFFSET : Fld := ⟨0x06050008, 0, 25, 0⟩
def CFG_STAT_LOADED_BANK : Fld := ⟨0x0605000C, 0, 1, 0⟩
def CFG_STAT_COMMITTED_BANK : Fld := ⟨0x0605000C, 1, 1, 0⟩
def CFG_STAT_ROW_HALF : Fld := ⟨0x0605000C, 2, 1, 0⟩
def CFG_STAT_ROW_SWITCHED : Fld := ⟨0x0605000C, 3, 1, 0⟩
def CFG_STAT_LOAD_RETRY : Fld := ⟨0x0605000C, 4, 1, 0⟩
def CFG_STAT_COMMIT_INCOMPLETE : Fld := ⟨0x0605000C, 5, 1, 0⟩
def CFG_STAT_SCRUB_CE : Fld := ⟨0x0605000C, 6, 1, 0⟩
def CFG_STAT_SCRUB_UE : Fld := ⟨0x0605000C, 7, 1, 0⟩
def CFG_STAT_FAB_CMD : Fld := ⟨0x0605000C, 8, 1, 0⟩
def CFG_LOADED_ID_IMAGE_ID : Fld := ⟨0x06050010, 0, 32, 0⟩
def CFG_BANK_STAT_AUTH (b : Nat) : Fld := ⟨0x06050020 + 8 * b, 0, 1, 0⟩
def CFG_BANK_STAT_COMMITTED (b : Nat) : Fld := ⟨0x06050020 + 8 * b, 1, 1, 0⟩
def CFG_BANK_STAT_LOADED (b : Nat) : Fld := ⟨0x06050020 + 8 * b, 2, 1, 0⟩
def CFG_BANK_STAT_SIGNER (b : Nat) : Fld := ⟨0x06050020 + 8 * b, 3, 1, 0⟩
def CFG_BANK_STAT_IMAGE_ID (b : Nat) : Fld := ⟨0x06050020 + 8 * b, 32, 32, 0⟩
def CFG_SCRUB_CFG_PERIOD : Fld := ⟨0x06050030, 0, 4, 8⟩
def CFG_HASH_WORD (i : Nat) : Fld := ⟨0x06050040 + 4 * i, 0, 32, 0⟩
def CFG_SCRUB_CNT_CORRECTED : Fld := ⟨0x06050060, 0, 32, 0⟩
def CFG_SCRUB_CNT_REPAIRS : Fld := ⟨0x06050060, 32, 16, 0⟩
def CFG_SCRUB_CNT_UNREPAIRED : Fld := ⟨0x06050060, 48, 16, 0⟩
def CFG_SCRUB_LAST_SECTOR : Fld := ⟨0x06050068, 0, 5, 0⟩
def CFG_SCRUB_LAST_PLANE : Fld := ⟨0x06050068, 5, 1, 0⟩
def CFG_SCRUB_LAST_FRAME : Fld := ⟨0x06050068, 6, 13, 0⟩
def CFG_SCRUB_LAST_KIND : Fld := ⟨0x06050068, 19, 2, 0⟩
def CFG_SCRUB_LAST_VALID : Fld := ⟨0x06050068, 31, 1, 0⟩
def CFG_SCRUB_LAST_TIME : Fld := ⟨0x06050068, 32, 32, 0⟩
def CFG_SWAP_CNT_COUNT : Fld := ⟨0x06050070, 0, 32, 0⟩
def CFG_SECT_STAT_ACTIVE (s : Nat) : Fld := ⟨0x06050100 + 8 * s, 0, 1, 0⟩
def CFG_SECT_STAT_ACT_REPAIRABLE (s : Nat) : Fld := ⟨0x06050100 + 8 * s, 1, 1, 0⟩
def CFG_SECT_STAT_ACT_SRC_BANK (s : Nat) : Fld := ⟨0x06050100 + 8 * s, 2, 1, 0⟩
def CFG_SECT_STAT_ACT_SRC_SLOT (s : Nat) : Fld := ⟨0x06050100 + 8 * s, 3, 5, 0⟩
def CFG_SECT_STAT_SHADOW_STATE (s : Nat) : Fld := ⟨0x06050100 + 8 * s, 8, 2, 0⟩
def CFG_SECT_STAT_SHD_REPAIRABLE (s : Nat) : Fld := ⟨0x06050100 + 8 * s, 10, 1, 0⟩
def CFG_SECT_STAT_SHD_SRC_BANK (s : Nat) : Fld := ⟨0x06050100 + 8 * s, 11, 1, 0⟩
def CFG_SECT_STAT_SHD_SRC_SLOT (s : Nat) : Fld := ⟨0x06050100 + 8 * s, 12, 5, 0⟩
def CFG_SECT_STAT_RESERVED (s : Nat) : Fld := ⟨0x06050100 + 8 * s, 17, 11, 0⟩
def CFG_SECT_STAT_ACTIVE_ID (s : Nat) : Fld := ⟨0x06050100 + 8 * s, 32, 16, 0⟩
def CFG_SECT_STAT_SHADOW_ID (s : Nat) : Fld := ⟨0x06050100 + 8 * s, 48, 16, 0⟩

/-! Registers of block MEM. -/

def MEM_STAT_CE : Fld := ⟨0x06060000, 0, 1, 0⟩
def MEM_STAT_UE : Fld := ⟨0x06060000, 1, 1, 0⟩
def MEM_STAT_HARD : Fld := ⟨0x06060000, 2, 1, 0⟩
def MEM_STAT_REMAP_FULL : Fld := ⟨0x06060000, 3, 1, 0⟩
def MEM_STAT_WB_DROP : Fld := ⟨0x06060000, 4, 1, 0⟩
def MEM_STAT_ERR_RESP : Fld := ⟨0x06060000, 5, 1, 0⟩
def MEM_STAT_INK_COLL : Fld := ⟨0x06060000, 6, 1, 0⟩
def MEM_STAT_CHK_FAIL : Fld := ⟨0x06060000, 7, 1, 0⟩
def MEM_STAT_INJ_REFUSED : Fld := ⟨0x06060000, 8, 1, 0⟩
def MEM_STAT_OWN_REFUSED : Fld := ⟨0x06060000, 9, 1, 0⟩
def MEM_HARD_CFG_THRESH : Fld := ⟨0x06060004, 0, 4, 3⟩
def MEM_HARD_CFG_AUTO_REMAP : Fld := ⟨0x06060004, 4, 1, 1⟩
def MEM_ERR_CAP_ADDR : Fld := ⟨0x06060008, 0, 32, 0⟩
def MEM_ERR_CAP_MEMID : Fld := ⟨0x06060008, 32, 4, 0⟩
def MEM_ERR_CAP_KIND : Fld := ⟨0x06060008, 36, 3, 0⟩
def MEM_ERR_CAP_MASTER : Fld := ⟨0x06060008, 40, 8, 0⟩
def MEM_ERR_CAP_VALID : Fld := ⟨0x06060008, 63, 1, 0⟩
def MEM_ATOM_OLD_OLD : Fld := ⟨0x06060010, 0, 64, 0⟩
def MEM_INK_CAP_INKWELL : Fld := ⟨0x06060018, 0, 11, 0⟩
def MEM_INK_CAP_WORD : Fld := ⟨0x06060018, 11, 9, 0⟩
def MEM_INK_CAP_VALID : Fld := ⟨0x06060018, 31, 1, 0⟩
def MEM_INK_CAP_TIME : Fld := ⟨0x06060018, 32, 32, 0⟩
def MEM_INK_CNT_COUNT : Fld := ⟨0x06060020, 0, 32, 0⟩
def MEM_CHK_STAT_FAIL : Fld := ⟨0x06060024, 0, 16, 0⟩
def MEM_CHK_STAT_XMC_FAIL : Fld := ⟨0x06060024, 16, 1, 0⟩
def MEM_CHK_STAT_DONE : Fld := ⟨0x06060024, 17, 1, 0⟩
def MEM_SCRUB_LATE_LATE : Fld := ⟨0x06060028, 0, 16, 0⟩
def MEM_INJ_ADDR : Fld := ⟨0x06060030, 0, 32, 0⟩
def MEM_INJ_MEMID : Fld := ⟨0x06060030, 32, 4, 0⟩
def MEM_INJ_MASK : Fld := ⟨0x06060030, 40, 8, 0⟩
def MEM_INJ_DISARM : Fld := ⟨0x06060030, 62, 1, 0⟩
def MEM_INJ_ARMED : Fld := ⟨0x06060030, 63, 1, 0⟩
def MEM_ECNT_CORRECTED (m : Nat) : Fld := ⟨0x06060100 + 8 * m, 0, 32, 0⟩
def MEM_ECNT_UNCORR (m : Nat) : Fld := ⟨0x06060100 + 8 * m, 32, 16, 0⟩
def MEM_ECNT_HARD (m : Nat) : Fld := ⟨0x06060100 + 8 * m, 48, 16, 0⟩
def MEM_LB_OWN_OWNER (b : Nat) : Fld := ⟨0x06060200 + 4 * b, 0, 8, 1⟩
def MEM_LB_OWN_PENDING (b : Nat) : Fld := ⟨0x06060200 + 4 * b, 8, 1, 0⟩
def MEM_LB_REMAP_WORD (b : Nat) (i : Nat) : Fld := ⟨0x06060300 + 16 * b + 4 * i, 0, 18, 0⟩
def MEM_LB_REMAP_POISONED (b : Nat) (i : Nat) : Fld := ⟨0x06060300 + 16 * b + 4 * i, 30, 1, 0⟩
def MEM_LB_REMAP_VALID (b : Nat) (i : Nat) : Fld := ⟨0x06060300 + 16 * b + 4 * i, 31, 1, 0⟩
def MEM_ES_REMAP_ENTRY (k : Nat) (i : Nat) : Fld := ⟨0x06060400 + 8 * k + 4 * i, 0, 16, 0⟩
def MEM_ES_REMAP_POISONED (k : Nat) (i : Nat) : Fld := ⟨0x06060400 + 8 * k + 4 * i, 30, 1, 0⟩
def MEM_ES_REMAP_VALID (k : Nat) (i : Nat) : Fld := ⟨0x06060400 + 8 * k + 4 * i, 31, 1, 0⟩

/-! Registers of block XMC. -/

def XMC_CFG_RANKS : Fld := ⟨0x06070000, 0, 2, 0⟩
def XMC_CFG_DENSITY : Fld := ⟨0x06070000, 2, 1, 1⟩
def XMC_CFG_RATE : Fld := ⟨0x06070000, 4, 2, 3⟩
def XMC_CTRL_INIT : Fld := ⟨0x06070004, 0, 1, 0⟩
def XMC_CTRL_PATROL_EN : Fld := ⟨0x06070004, 1, 1, 0⟩
def XMC_CTRL_HOT : Fld := ⟨0x06070004, 2, 1, 0⟩
def XMC_CTRL_MARK_AUTO : Fld := ⟨0x06070004, 3, 1, 1⟩
def XMC_STAT_STATE : Fld := ⟨0x06070008, 0, 3, 0⟩
def XMC_STAT_CONTENTS_KEPT : Fld := ⟨0x06070008, 3, 1, 0⟩
def XMC_STAT_PATROL_LATE : Fld := ⟨0x06070008, 4, 1, 0⟩
def XMC_STAT_STATUS : Fld := ⟨0x06070008, 8, 8, 0⟩
def XMC_STAT_BUSY : Fld := ⟨0x06070008, 16, 1, 0⟩
def XMC_STAT_CAP_GIB : Fld := ⟨0x06070008, 24, 8, 0⟩
def XMC_CMD_OP : Fld := ⟨0x0607000C, 0, 4, 0⟩
def XMC_CMD_RANK : Fld := ⟨0x0607000C, 8, 1, 0⟩
def XMC_CMD_DEVICE : Fld := ⟨0x0607000C, 16, 5, 0⟩
def XMC_CMD_ADDR_LINE : Fld := ⟨0x06070010, 6, 34, 0⟩
def XMC_CMD_LEN_LINES : Fld := ⟨0x06070018, 0, 31, 0⟩
def XMC_FILL_PAT_PAT : Fld := ⟨0x06070020, 0, 64, 0⟩
def XMC_MARK_CFG_THRESH : Fld := ⟨0x06070028, 0, 16, 256⟩
def XMC_MARK_DEVICE (r : Nat) : Fld := ⟨0x06070030 + 4 * r, 0, 5, 0⟩
def XMC_MARK_AUTO (r : Nat) : Fld := ⟨0x06070030 + 4 * r, 6, 1, 0⟩
def XMC_MARK_VALID (r : Nat) : Fld := ⟨0x06070030 + 4 * r, 7, 1, 0⟩
def XMC_ECNT_CORRECTED : Fld := ⟨0x06070040, 0, 32, 0⟩
def XMC_ECNT_UNCORR : Fld := ⟨0x06070040, 32, 16, 0⟩
def XMC_ECNT_HARD : Fld := ⟨0x06070040, 48, 16, 0⟩
def XMC_ERR_CAP_CW : Fld := ⟨0x06070048, 5, 35, 0⟩
def XMC_ERR_CAP_DEVICE : Fld := ⟨0x06070048, 40, 5, 0⟩
def XMC_ERR_CAP_KIND : Fld := ⟨0x06070048, 45, 3, 0⟩
def XMC_ERR_CAP_SOURCE : Fld := ⟨0x06070048, 48, 8, 0⟩
def XMC_ERR_CAP_VALID : Fld := ⟨0x06070048, 63, 1, 0⟩
def XMC_PATROL_POS : Fld := ⟨0x06070050, 6, 34, 0⟩
def XMC_PATROL_PASSES : Fld := ⟨0x06070050, 48, 16, 0⟩
def XMC_RMW_CNT_RMW : Fld := ⟨0x06070058, 0, 16, 0⟩
def XMC_RMW_CNT_REFUSED : Fld := ⟨0x06070058, 16, 16, 0⟩
def XMC_INJ_LINE : Fld := ⟨0x06070060, 6, 34, 0⟩
def XMC_INJ_DEV_A : Fld := ⟨0x06070060, 40, 5, 0⟩
def XMC_INJ_DEV_B : Fld := ⟨0x06070060, 45, 5, 0⟩
def XMC_INJ_TWO : Fld := ⟨0x06070060, 50, 1, 0⟩
def XMC_INJ_DISARM : Fld := ⟨0x06070060, 62, 1, 0⟩
def XMC_INJ_ARMED : Fld := ⟨0x06070060, 63, 1, 0⟩
def XMC_DEV_CNT_COUNT (r : Nat) (d : Nat) : Fld := ⟨0x06070100 + 128 * r + 4 * d, 0, 16, 0⟩
def XMC_DEV_CNT_PASS_COUNT (r : Nat) (d : Nat) : Fld := ⟨0x06070100 + 128 * r + 4 * d, 16, 16, 0⟩
def XMC_REMAP_LINE (i : Nat) : Fld := ⟨0x06070200 + 8 * i, 6, 34, 0⟩
def XMC_REMAP_POISONED (i : Nat) : Fld := ⟨0x06070200 + 8 * i, 62, 1, 0⟩
def XMC_REMAP_VALID (i : Nat) : Fld := ⟨0x06070200 + 8 * i, 63, 1, 0⟩

/-! Registers of block DMA. -/

def DMA_DESC_WORD (n : Nat) (w : Nat) : Fld := ⟨0x060F0000 + 64 * n + 4 * w, 0, 32, 0⟩
def DMA_CMD_OP (n : Nat) : Fld := ⟨0x060F0020 + 64 * n, 0, 2, 0⟩
def DMA_STAT_STATE (n : Nat) : Fld := ⟨0x060F0024 + 64 * n, 0, 2, 0⟩
def DMA_STAT_CAUSE (n : Nat) : Fld := ⟨0x060F0024 + 64 * n, 2, 3, 0⟩
def DMA_STAT_STATUS (n : Nat) : Fld := ⟨0x060F0024 + 64 * n, 8, 8, 0⟩
def DMA_STAT_DESC_CNT (n : Nat) : Fld := ⟨0x060F0024 + 64 * n, 16, 16, 0⟩
def DMA_REMAIN_BYTES (n : Nat) : Fld := ⟨0x060F0028 + 64 * n, 0, 28, 0⟩
def DMA_HALT_ADDR_ADDR (n : Nat) : Fld := ⟨0x060F0030 + 64 * n, 0, 40, 0⟩
def DMA_HALT_ADDR_SPACE (n : Nat) : Fld := ⟨0x060F0030 + 64 * n, 40, 1, 0⟩
def DMA_RUN_RUNNING : Fld := ⟨0x060F0800, 0, 32, 0⟩

/-! Registers of block UFL. -/

def UFL_CMD_OP : Fld := ⟨0x06080000, 0, 4, 0⟩
def UFL_CMD_STAT_STATUS : Fld := ⟨0x06080004, 0, 8, 0⟩
def UFL_CMD_STAT_BUSY : Fld := ⟨0x06080004, 8, 1, 0⟩
def UFL_CMD_STAT_EQUAL : Fld := ⟨0x06080004, 9, 1, 0⟩
def UFL_CMD_STAT_OP : Fld := ⟨0x06080004, 12, 4, 0⟩
def UFL_ADDR_OFFSET : Fld := ⟨0x06080008, 0, 25, 0⟩
def UFL_STAT_UE : Fld := ⟨0x0608000C, 0, 1, 0⟩
def UFL_STAT_WIN_WRITE : Fld := ⟨0x0608000C, 1, 1, 0⟩
def UFL_STAT_FAB_CMD : Fld := ⟨0x0608000C, 2, 1, 0⟩
def UFL_STAT_XO_READ : Fld := ⟨0x0608000C, 3, 1, 0⟩
def UFL_STAT_XO_REFUSED : Fld := ⟨0x0608000C, 4, 1, 0⟩
def UFL_STAT_EIM_FOUND : Fld := ⟨0x0608000C, 5, 1, 0⟩
def UFL_STAT_WORN : Fld := ⟨0x0608000C, 6, 1, 0⟩
def UFL_STAT_STORE_BUSY : Fld := ⟨0x0608000C, 7, 1, 0⟩
def UFL_STAT_CAL_VALID : Fld := ⟨0x0608000C, 8, 1, 0⟩
def UFL_STAT_CAL_COPY : Fld := ⟨0x0608000C, 9, 1, 0⟩
def UFL_EIM_BLOCK : Fld := ⟨0x06080010, 0, 7, 0⟩
def UFL_EIM_VALID : Fld := ⟨0x06080010, 31, 1, 0⟩
def UFL_XO_CNT_COUNT : Fld := ⟨0x06080014, 0, 32, 0⟩
def UFL_ECNT_CORRECTED : Fld := ⟨0x06080018, 0, 32, 0⟩
def UFL_ECNT_UNCORR : Fld := ⟨0x06080018, 32, 16, 0⟩
def UFL_SERIAL_SERIAL : Fld := ⟨0x06080020, 0, 64, 0⟩
def UFL_XO_FIRST (i : Nat) : Fld := ⟨0x06080100 + 4 * i, 0, 7, 0⟩
def UFL_XO_LAST (i : Nat) : Fld := ⟨0x06080100 + 4 * i, 8, 7, 0⟩
def UFL_XO_PAIRS (i : Nat) : Fld := ⟨0x06080100 + 4 * i, 16, 8, 0⟩
def UFL_XO_LOCK (i : Nat) : Fld := ⟨0x06080100 + 4 * i, 24, 1, 0⟩
def UFL_XO_VALID (i : Nat) : Fld := ⟨0x06080100 + 4 * i, 31, 1, 0⟩

/-! Registers of block NET. -/

def NET_CFG_NODE_ID : Fld := ⟨0x06090000, 0, 7, 127⟩
def NET_CFG_ARB_RATE : Fld := ⟨0x06090000, 8, 3, 3⟩
def NET_CFG_DATA_RATE : Fld := ⟨0x06090000, 12, 3, 4⟩
def NET_CFG_LINE1_EN : Fld := ⟨0x06090000, 16, 1, 0⟩
def NET_STAT_NMT : Fld := ⟨0x06090004, 0, 2, 0⟩
def NET_STAT_BUS_OFF0 : Fld := ⟨0x06090004, 2, 1, 0⟩
def NET_STAT_BUS_OFF1 : Fld := ⟨0x06090004, 3, 1, 0⟩
def NET_STAT_PASSIVE0 : Fld := ⟨0x06090004, 4, 1, 0⟩
def NET_STAT_PASSIVE1 : Fld := ⟨0x06090004, 5, 1, 0⟩
def NET_STAT_HB_TMO : Fld := ⟨0x06090004, 6, 1, 0⟩
def NET_STAT_SRDO_FAULT : Fld := ⟨0x06090004, 7, 1, 0⟩
def NET_STAT_RET_LOST : Fld := ⟨0x06090004, 8, 1, 0⟩
def NET_STAT_DEF_REFUSED : Fld := ⟨0x06090004, 9, 1, 0⟩
def NET_STAT_RX_OVR : Fld := ⟨0x06090004, 10, 1, 0⟩
def NET_STAT_PDO_LEN : Fld := ⟨0x06090004, 11, 1, 0⟩
def NET_STAT_NMT_REFUSED : Fld := ⟨0x06090004, 12, 1, 0⟩
def NET_STORE_SIGNATURE : Fld := ⟨0x06090008, 0, 32, 0⟩
def NET_RESTORE_SIGNATURE : Fld := ⟨0x0609000C, 0, 32, 0⟩
def NET_STORE_STAT_STATUS : Fld := ⟨0x06090010, 0, 8, 0⟩
def NET_STORE_STAT_BUSY : Fld := ⟨0x06090010, 8, 1, 0⟩
def NET_STORE_STAT_KIND : Fld := ⟨0x06090010, 9, 1, 0⟩
def NET_DEF_STAT_RET_USED : Fld := ⟨0x06090018, 0, 1, 0⟩
def NET_DEF_STAT_STORE_USED : Fld := ⟨0x06090018, 1, 1, 0⟩
def NET_DEF_STAT_MANIFEST_USED : Fld := ⟨0x06090018, 2, 1, 0⟩
def NET_DEF_STAT_RET_FAILED : Fld := ⟨0x06090018, 3, 1, 0⟩
def NET_DEF_STAT_FABRIC_STALE : Fld := ⟨0x06090018, 4, 1, 0⟩
def NET_DEF_STAT_FABRIC_DONE : Fld := ⟨0x06090018, 5, 1, 0⟩
def NET_DEF_STAT_REFUSED : Fld := ⟨0x06090018, 16, 16, 0⟩
def NET_DEF_STAT_FIRST_INDEX : Fld := ⟨0x06090018, 32, 16, 0⟩
def NET_DEF_STAT_FIRST_SUB : Fld := ⟨0x06090018, 48, 8, 0⟩
def NET_ERR_REG_ER : Fld := ⟨0x06090020, 0, 8, 0⟩
def NET_HB_PROD_TIME : Fld := ⟨0x06090024, 0, 16, 0⟩
def NET_ERR_BEH_COMM : Fld := ⟨0x06090028, 0, 8, 0⟩
def NET_EMCY_COBID_ID : Fld := ⟨0x0609002C, 0, 11, 255⟩
def NET_EMCY_COBID_INVALID : Fld := ⟨0x0609002C, 31, 1, 0⟩
def NET_EMCY_INH_TIME : Fld := ⟨0x06090030, 0, 16, 0⟩
def NET_SYNC_COBID_ID : Fld := ⟨0x06090034, 0, 11, 128⟩
def NET_SYNC_COBID_GEN : Fld := ⟨0x06090034, 30, 1, 0⟩
def NET_SYNC_PERIOD_PERIOD : Fld := ⟨0x06090038, 0, 32, 0⟩
def NET_SYNC_WIN_WINDOW : Fld := ⟨0x0609003C, 0, 32, 0⟩
def NET_SYNC_OVF_OVF : Fld := ⟨0x06090040, 0, 8, 0⟩
def NET_SYNC_TIME_TIME : Fld := ⟨0x06090048, 0, 64, 0⟩
def NET_HB_CONS_TIME (i : Nat) : Fld := ⟨0x06090050 + 4 * i, 0, 16, 0⟩
def NET_HB_CONS_NODE (i : Nat) : Fld := ⟨0x06090050 + 4 * i, 16, 7, 0⟩
def NET_ERR_HIST_CNT_COUNT : Fld := ⟨0x06090070, 0, 5, 0⟩
def NET_ERR_HIST_CODE (i : Nat) : Fld := ⟨0x06090080 + 4 * i, 0, 16, 0⟩
def NET_ERR_HIST_ORIGIN (i : Nat) : Fld := ⟨0x06090080 + 4 * i, 16, 8, 0⟩
def NET_ERR_HIST_DETAIL (i : Nat) : Fld := ⟨0x06090080 + 4 * i, 24, 8, 0⟩
def NET_CAN_CNT_TEC (l : Nat) : Fld := ⟨0x060900C0 + 8 * l, 0, 8, 0⟩
def NET_CAN_CNT_REC (l : Nat) : Fld := ⟨0x060900C0 + 8 * l, 8, 8, 0⟩
def NET_CAN_CNT_BUS_OFFS (l : Nat) : Fld := ⟨0x060900C0 + 8 * l, 16, 16, 0⟩
def NET_CAN_CNT_RX_LOST (l : Nat) : Fld := ⟨0x060900C0 + 8 * l, 32, 32, 0⟩
def NET_WAKE_CFG_MODE (l : Nat) : Fld := ⟨0x060900D0 + 4 * l, 0, 2, 0⟩
def NET_WAKE_CFG_TACT (l : Nat) : Fld := ⟨0x060900D0 + 4 * l, 8, 8, 5⟩
def NET_WAKE_CFG_TWAKE (l : Nat) : Fld := ⟨0x060900D0 + 4 * l, 16, 4, 10⟩
def NET_WAKE_STAT_WOKE0 : Fld := ⟨0x060900D8, 0, 1, 0⟩
def NET_WAKE_STAT_WOKE1 : Fld := ⟨0x060900D8, 1, 1, 0⟩
def NET_SRDO_VALID_VALID : Fld := ⟨0x060900E0, 0, 8, 0⟩
def NET_SRDO_CRC_CRC : Fld := ⟨0x060900E4, 0, 16, 0⟩

/-! Registers of block HSP. -/

def HSP_STAT_CRC_ERR : Fld := ⟨0x06110000, 0, 1, 0⟩
def HSP_STAT_LEN_ERR : Fld := ⟨0x06110000, 1, 1, 0⟩
def HSP_STAT_OP_ERR : Fld := ⟨0x06110000, 2, 1, 0⟩
def HSP_STAT_ABANDONED : Fld := ⟨0x06110000, 3, 1, 0⟩
def HSP_STAT_LAST_STATUS : Fld := ⟨0x06110000, 8, 8, 0⟩
def HSP_ERR_CNT_REJECTED : Fld := ⟨0x06110004, 0, 16, 0⟩
def HSP_ERR_CNT_ABANDONS : Fld := ⟨0x06110004, 16, 16, 0⟩

/-! Registers of block IRQ. -/

def IRQ_TGT_CFG_THRESH (t : Nat) : Fld := ⟨0x060A0100 + 32 * t, 0, 4, 0⟩
def IRQ_TGT_CFG_OUT_EN (t : Nat) : Fld := ⟨0x060A0100 + 32 * t, 4, 1, ((fun a => if (a - 0x060A0100) / 0x20 < 4 then 1 else 0) (0x060A0100 + 32 * t))⟩
def IRQ_TGT_CFG_OD (t : Nat) : Fld := ⟨0x060A0100 + 32 * t, 5, 1, ((fun a => if (a - 0x060A0100) / 0x20 < 4 then 1 else 0) (0x060A0100 + 32 * t))⟩
def IRQ_MOD_CFG_COUNT (t : Nat) : Fld := ⟨0x060A0104 + 32 * t, 0, 8, 0⟩
def IRQ_MOD_CFG_TIME (t : Nat) : Fld := ⟨0x060A0104 + 32 * t, 8, 16, 0⟩
def IRQ_MOD_CFG_CLK (t : Nat) : Fld := ⟨0x060A0104 + 32 * t, 24, 1, 0⟩
def IRQ_CLAIM_SOURCE (t : Nat) : Fld := ⟨0x060A0108 + 32 * t, 0, 10, 0⟩
def IRQ_COMPLETE_SOURCE (t : Nat) : Fld := ⟨0x060A010C + 32 * t, 0, 10, 0⟩
def IRQ_TGT_STAT_ASSERTED (t : Nat) : Fld := ⟨0x060A0110 + 32 * t, 0, 1, 0⟩
def IRQ_TGT_STAT_RELEASED (t : Nat) : Fld := ⟨0x060A0110 + 32 * t, 1, 1, 0⟩
def IRQ_TGT_STAT_TIMER_RUN (t : Nat) : Fld := ⟨0x060A0110 + 32 * t, 2, 1, 0⟩
def IRQ_TGT_STAT_AON_CHANGED (t : Nat) : Fld := ⟨0x060A0110 + 32 * t, 3, 1, 0⟩
def IRQ_TGT_STAT_M (t : Nat) : Fld := ⟨0x060A0110 + 32 * t, 16, 11, 0⟩
def IRQ_TGT_CNT_CLAIMS (t : Nat) : Fld := ⟨0x060A0118 + 32 * t, 0, 24, 0⟩
def IRQ_TGT_CNT_EMPTY (t : Nat) : Fld := ⟨0x060A0118 + 32 * t, 24, 16, 0⟩
def IRQ_TGT_CNT_REFIRES (t : Nat) : Fld := ⟨0x060A0118 + 32 * t, 40, 12, 0⟩
def IRQ_TGT_CNT_BAD_COMPLETES (t : Nat) : Fld := ⟨0x060A0118 + 32 * t, 52, 8, 0⟩
def IRQ_TGT_CNT_FLUSHES (t : Nat) : Fld := ⟨0x060A0118 + 32 * t, 60, 4, 0⟩
def IRQ_PEND_PENDING (w : Nat) : Fld := ⟨0x060A0800 + 4 * w, 0, 32, 0⟩
def IRQ_PEND_SET_SET (w : Nat) : Fld := ⟨0x060A0880 + 4 * w, 0, 32, 0⟩
def IRQ_ACTIVE_ACTIVE (w : Nat) : Fld := ⟨0x060A0900 + 4 * w, 0, 32, 0⟩
def IRQ_SRC_CFG_PRIO (i : Nat) : Fld := ⟨0x060A1000 + 4 * i, 0, 4, 0⟩
def IRQ_SRC_CFG_TARGET (i : Nat) : Fld := ⟨0x060A1000 + 4 * i, 4, 3, 0⟩
def IRQ_SRC_CFG_MOD (i : Nat) : Fld := ⟨0x060A1000 + 4 * i, 8, 1, 0⟩
def IRQ_SRC_CFG_WAKE_EN (i : Nat) : Fld := ⟨0x060A1000 + 4 * i, 9, 1, 0⟩
def IRQ_SRC_CFG_TYPE (i : Nat) : Fld := ⟨0x060A1000 + 4 * i, 16, 1, ((fun a => if irqIsLevel ((a - 0x060A1000) / 4) then 1 else 0) (0x060A1000 + 4 * i))⟩
def IRQ_SRC_CFG_LEVEL (i : Nat) : Fld := ⟨0x060A1000 + 4 * i, 17, 1, 0⟩
def IRQ_SRC_CFG_STATE (i : Nat) : Fld := ⟨0x060A1000 + 4 * i, 18, 2, 0⟩
def IRQ_SRC_CFG_CLAIMED_BY (i : Nat) : Fld := ⟨0x060A1000 + 4 * i, 20, 3, 0⟩

/-! Registers of block LOG. -/

def LOG_TIME_TIME : Fld := ⟨0x06100000, 0, 64, 0⟩
def LOG_TIME_QUAL_UNCERT : Fld := ⟨0x06100008, 0, 48, 0⟩
def LOG_TIME_QUAL_QUAL : Fld := ⟨0x06100008, 48, 2, 0⟩
def LOG_TIME_CTRL_QUAL_ACK : Fld := ⟨0x06100010, 0, 1, 0⟩
def LOG_AON_COUNT : Fld := ⟨0x06100018, 0, 48, 0⟩
def LOG_AON_SRC : Fld := ⟨0x06100018, 48, 1, 0⟩
def LOG_AON_SRC_CHANGED : Fld := ⟨0x06100018, 49, 1, 0⟩
def LOG_BRIDGE_N : Fld := ⟨0x06100020, 0, 48, 0⟩
def LOG_BRIDGE_QUAL : Fld := ⟨0x06100020, 48, 2, 0⟩
def LOG_BRIDGE_VALID : Fld := ⟨0x06100020, 50, 1, 0⟩
def LOG_CFG_STOP_FULL : Fld := ⟨0x06100028, 0, 1, 0⟩
def LOG_CFG_AUTO_EXPORT : Fld := ⟨0x06100028, 1, 1, 0⟩
def LOG_CFG_THRESH : Fld := ⟨0x06100028, 16, 12, 3072⟩
def LOG_RSEQ_RSEQ : Fld := ⟨0x0610002C, 0, 32, 0⟩
def LOG_NSEQ_NSEQ : Fld := ⟨0x06100030, 0, 32, 0⟩
def LOG_STAT_OVERWRITTEN : Fld := ⟨0x06100034, 0, 1, 0⟩
def LOG_STAT_LOST : Fld := ⟨0x06100034, 1, 1, 0⟩
def LOG_STAT_REFUSED : Fld := ⟨0x06100034, 2, 1, 0⟩
def LOG_STAT_CFG_REFUSED : Fld := ⟨0x06100034, 3, 1, 0⟩
def LOG_STAT_LOST_CNT : Fld := ⟨0x06100034, 16, 16, 0⟩
def LOG_USER_CODE : Fld := ⟨0x06100038, 0, 8, 0⟩
def LOG_USER_DETAIL : Fld := ⟨0x06100038, 8, 56, 0⟩
def LOG_CMD_OP : Fld := ⟨0x06100040, 0, 4, 0⟩
def LOG_EXPORT_CFG_FIRST : Fld := ⟨0x06100044, 0, 7, 0⟩
def LOG_EXPORT_CFG_COUNT : Fld := ⟨0x06100044, 8, 5, 0⟩
def LOG_EXPORT_CFG_EN : Fld := ⟨0x06100044, 31, 1, 0⟩
def LOG_EXPORT_STAT_STATUS : Fld := ⟨0x06100048, 0, 8, 0⟩
def LOG_EXPORT_STAT_BUSY : Fld := ⟨0x06100048, 8, 1, 0⟩
def LOG_EXPORT_STAT_SKIPPED : Fld := ⟨0x06100048, 16, 16, 0⟩
def LOG_EXPORT_STAT_ESEQ : Fld := ⟨0x06100048, 32, 32, 0⟩

/-! Registers of block PWR. -/

def PWR_PL_TARGET : Fld := ⟨0x060B0000, 0, 2, 1⟩
def PWR_PL_CURRENT : Fld := ⟨0x060B0000, 4, 2, 1⟩
def PWR_PL_BUSY : Fld := ⟨0x060B0000, 6, 1, 0⟩
def PWR_PL_STATUS : Fld := ⟨0x060B0000, 8, 8, 0⟩
def PWR_PL_REFUSER : Fld := ⟨0x060B0000, 16, 8, 0⟩
def PWR_STAT_PL_DONE : Fld := ⟨0x060B0004, 0, 1, 0⟩
def PWR_STAT_PL_REFUSED : Fld := ⟨0x060B0004, 1, 1, 0⟩
def PWR_STAT_ABANDONED : Fld := ⟨0x060B0004, 2, 1, 0⟩
def PWR_STAT_WOKE : Fld := ⟨0x060B0004, 3, 1, 0⟩
def PWR_STAT_VIN_LOW : Fld := ⟨0x060B0004, 4, 1, 0⟩
def PWR_STAT_RET_FAIL : Fld := ⟨0x060B0004, 5, 3, 0⟩
def PWR_SLEEP_CFG_TGT_MASK : Fld := ⟨0x060B0008, 0, 8, 15⟩
def PWR_SLEEP_CFG_DISCARD_QUEUES : Fld := ⟨0x060B0008, 8, 1, 0⟩
def PWR_SLEEP_CFG_DEEPEN_EN : Fld := ⟨0x060B0008, 9, 1, 0⟩
def PWR_SLEEP_CFG_DEEPEN_SEL : Fld := ⟨0x060B0008, 10, 2, 3⟩
def PWR_SLEEP_CFG_DEEPEN_TIME : Fld := ⟨0x060B0008, 16, 16, 3600⟩
def PWR_IDLE_TMR_TIME : Fld := ⟨0x060B000C, 0, 16, 60000⟩
def PWR_IDLE_TMR_SEL : Fld := ⟨0x060B000C, 16, 2, 1⟩
def PWR_IDLE_TMR_EN : Fld := ⟨0x060B000C, 18, 1, 0⟩
def PWR_WAKE_CFG_PIN_EN : Fld := ⟨0x060B0010, 0, 1, 1⟩
def PWR_WAKE_CFG_PIN_POL : Fld := ⟨0x060B0010, 1, 1, 1⟩
def PWR_WAKE_CFG_TMR_EN : Fld := ⟨0x060B0010, 2, 1, 0⟩
def PWR_WAKE_CFG_HSP_EN : Fld := ⟨0x060B0010, 3, 1, 1⟩
def PWR_WAKE_CFG_MOTION_EN : Fld := ⟨0x060B0010, 4, 1, 0⟩
def PWR_WAKE_SRC_LATCHED : Fld := ⟨0x060B0014, 0, 7, 0⟩
def PWR_WAKE_SRC_FIRST : Fld := ⟨0x060B0014, 8, 8, 0⟩
def PWR_WAKE_SRC_IRQ_SRC : Fld := ⟨0x060B0014, 16, 10, 0⟩
def PWR_WAKE_TMR_N : Fld := ⟨0x060B0018, 0, 48, 0⟩
def PWR_MOTION_COUNTS : Fld := ⟨0x060B0020, 0, 16, 16⟩
def PWR_BANK_STAT_PRESENT : Fld := ⟨0x060B0024, 0, 14, 0⟩
def PWR_BANK_STAT_LOST : Fld := ⟨0x060B0024, 16, 14, 0⟩
def PWR_LAST_KIND : Fld := ⟨0x060B0028, 0, 1, 0⟩
def PWR_LAST_AP : Fld := ⟨0x060B0028, 1, 3, 0⟩
def PWR_LAST_COND : Fld := ⟨0x060B0028, 4, 4, 0⟩
def PWR_LAST_REFUSER : Fld := ⟨0x060B0028, 8, 8, 0⟩
def PWR_LAST_TIME : Fld := ⟨0x060B0028, 32, 32, 0⟩
def PWR_REFUSE_CNT_SLEEP : Fld := ⟨0x060B0030, 0, 16, 0⟩
def PWR_REFUSE_CNT_PL : Fld := ⟨0x060B0030, 16, 16, 0⟩
def PWR_ABORT_CNT_AP2 : Fld := ⟨0x060B0038, 0, 16, 0⟩
def PWR_ABORT_CNT_AP3 : Fld := ⟨0x060B0038, 16, 16, 0⟩
def PWR_ABORT_CNT_AP4 : Fld := ⟨0x060B0038, 32, 16, 0⟩
def PWR_SLEEP_CNT_S1 : Fld := ⟨0x060B0040, 0, 16, 0⟩
def PWR_SLEEP_CNT_S2 : Fld := ⟨0x060B0040, 16, 16, 0⟩
def PWR_SLEEP_CNT_S3 : Fld := ⟨0x060B0040, 32, 16, 0⟩
def PWR_RCHK_CRC (r : Nat) : Fld := ⟨0x060B0080 + 8 * r, 0, 32, 0⟩
def PWR_RCHK_SEQ (r : Nat) : Fld := ⟨0x060B0080 + 8 * r, 32, 32, 0⟩

/-! Registers of block SAF. -/

def SAF_STAT_REACTION : Fld := ⟨0x060C0000, 0, 1, 1⟩
def SAF_STAT_SAFE_A : Fld := ⟨0x060C0000, 1, 1, 1⟩
def SAF_STAT_SAFE_B : Fld := ⟨0x060C0000, 2, 1, 1⟩
def SAF_STAT_CFG_REFUSED : Fld := ⟨0x060C0000, 3, 1, 0⟩
def SAF_STAT_LOCKED : Fld := ⟨0x060C0000, 4, 1, 0⟩
def SAF_STAT_WDG_FAB : Fld := ⟨0x060C0000, 5, 1, 0⟩
def SAF_STAT_LAST_INPUT : Fld := ⟨0x060C0000, 8, 6, 0⟩
def SAF_FAULT_LATCHED : Fld := ⟨0x060C0008, 0, 64, 0⟩
def SAF_ACTIVE_ACTIVE : Fld := ⟨0x060C0010, 0, 64, 0⟩
def SAF_CLASS_CLASS (w : Nat) : Fld := ⟨0x060C0020 + 4 * w, 0, 32, ((fun a => safClassWord ((a - 0x060C0020) / 4)) (0x060C0020 + 4 * w))⟩
def SAF_LOCK_LOCK : Fld := ⟨0x060C0030, 0, 1, 0⟩
def SAF_WDG_CFG_EN : Fld := ⟨0x060C0040, 0, 1, 0⟩
def SAF_WDG_CFG_OPEN : Fld := ⟨0x060C0040, 1, 7, 0⟩
def SAF_WDG_CFG_CLOSE : Fld := ⟨0x060C0040, 8, 7, 100⟩
def SAF_WDG_KICK_KEY : Fld := ⟨0x060C0044, 0, 16, 0⟩
def SAF_WDG_STAT_WINDOW_OPEN : Fld := ⟨0x060C0048, 0, 1, 0⟩
def SAF_WDG_STAT_NEXT_KEY : Fld := ⟨0x060C0048, 1, 1, 0⟩
def SAF_WDG_STAT_LAST_FAULT : Fld := ⟨0x060C0048, 2, 2, 0⟩
def SAF_WDG_STAT_COUNT : Fld := ⟨0x060C0048, 16, 16, 0⟩
def SAF_LIM_CFG_LIM_VMAX : Fld := ⟨0x060C0050, 0, 24, 29320⟩
def SAF_LIM_CFG_GRACE : Fld := ⟨0x060C0050, 32, 16, 2000⟩
def SAF_LIM_CFG_LIM_N : Fld := ⟨0x060C0050, 48, 14, 1563⟩
def SAF_SRDO_IN_RUN_ENABLE : Fld := ⟨0x060C0060, 0, 1, 0⟩
def SAF_SRDO_OUT_MODE : Fld := ⟨0x060C0064, 0, 3, 0⟩
def SAF_SRDO_OUT_SAFE_A : Fld := ⟨0x060C0064, 3, 1, 1⟩
def SAF_SRDO_OUT_SAFE_B : Fld := ⟨0x060C0064, 4, 1, 1⟩
def SAF_SRDO_OUT_REACTION : Fld := ⟨0x060C0064, 5, 1, 1⟩
def SAF_SRDO_OUT_LAST_INPUT : Fld := ⟨0x060C0064, 8, 6, 0⟩
def SAF_CNT_SAFE : Fld := ⟨0x060C0080, 0, 16, 0⟩
def SAF_CNT_LIMITED : Fld := ⟨0x060C0080, 16, 16, 0⟩
def SAF_CNT_REPORT : Fld := ⟨0x060C0080, 32, 16, 0⟩
def SAF_CNT_WDG : Fld := ⟨0x060C0080, 48, 16, 0⟩
def SAF_FIRST_INPUT : Fld := ⟨0x060C0088, 0, 6, 0⟩
def SAF_FIRST_CLASS : Fld := ⟨0x060C0088, 6, 2, 0⟩
def SAF_FIRST_MODE : Fld := ⟨0x060C0088, 8, 3, 0⟩
def SAF_FIRST_VALID : Fld := ⟨0x060C0088, 31, 1, 0⟩
def SAF_FIRST_TIME : Fld := ⟨0x060C0088, 32, 32, 0⟩

/-! Registers of block BST. -/

def BST_STAT_DONE : Fld := ⟨0x060D0000, 0, 1, 0⟩
def BST_STAT_PASS : Fld := ⟨0x060D0000, 1, 1, 0⟩
def BST_STAT_CFG_REFUSED : Fld := ⟨0x060D0000, 2, 1, 0⟩
def BST_STAT_STATUS : Fld := ⟨0x060D0000, 8, 8, 0⟩
def BST_CMD_OP : Fld := ⟨0x060D0004, 0, 2, 0⟩
def BST_CMD_TARGET : Fld := ⟨0x060D0004, 8, 5, 0⟩
def BST_TGT_EN_TARGETS : Fld := ⟨0x060D0008, 0, 19, 524287⟩
def BST_TEST_MASK_TARGETS : Fld := ⟨0x060D000C, 0, 19, 524287⟩
def BST_LATE_TARGETS : Fld := ⟨0x060D0010, 0, 19, 0⟩
def BST_FAILED_TARGETS : Fld := ⟨0x060D0014, 0, 19, 0⟩
def BST_INJ_TARGET : Fld := ⟨0x060D0018, 0, 5, 0⟩
def BST_INJ_ARMED : Fld := ⟨0x060D0018, 31, 1, 0⟩
def BST_FAIL_CAP_TARGET : Fld := ⟨0x060D0020, 0, 5, 0⟩
def BST_FAIL_CAP_KIND : Fld := ⟨0x060D0020, 5, 3, 0⟩
def BST_FAIL_CAP_INDEX : Fld := ⟨0x060D0020, 8, 24, 0⟩
def BST_FAIL_CAP_BIT : Fld := ⟨0x060D0020, 32, 8, 0⟩
def BST_FAIL_CAP_VALID : Fld := ⟨0x060D0020, 63, 1, 0⟩
def BST_SU_POS_FRAME : Fld := ⟨0x060D0028, 0, 13, 0⟩
def BST_TGT_STAT_POS (t : Nat) : Fld := ⟨0x060D0100 + 16 * t, 0, 24, 0⟩
def BST_TGT_STAT_PASSES (t : Nat) : Fld := ⟨0x060D0100 + 16 * t, 32, 16, 0⟩
def BST_TGT_STAT_YIELDS (t : Nat) : Fld := ⟨0x060D0100 + 16 * t, 48, 16, 0⟩
def BST_TGT_SIG_SIG (t : Nat) : Fld := ⟨0x060D0108 + 16 * t, 0, 32, 0⟩
def BST_TGT_SIG_ELEMENTS (t : Nat) : Fld := ⟨0x060D0108 + 16 * t, 32, 3, 0⟩
def BST_TGT_SIG_COMPLETE (t : Nat) : Fld := ⟨0x060D0108 + 16 * t, 35, 1, 0⟩
def BST_TGT_SIG_MATCH (t : Nat) : Fld := ⟨0x060D0108 + 16 * t, 36, 1, 0⟩

/-! Registers of block LCS. -/

def LCS_STATE_STATE : Fld := ⟨0x060E0000, 0, 2, 3⟩
def LCS_STATE_MATCH : Fld := ⟨0x060E0000, 2, 5, 0⟩
def LCS_STATE_COMPLETED : Fld := ⟨0x060E0000, 7, 1, 0⟩
def LCS_STATE_CLOSE_INTENT : Fld := ⟨0x060E0000, 8, 1, 0⟩
def LCS_STATE_SCRAP_INTENT : Fld := ⟨0x060E0000, 9, 1, 0⟩
def LCS_KEY_STAT_PROV : Fld := ⟨0x060E0004, 0, 4, 0⟩
def LCS_KEY_STAT_FAIL : Fld := ⟨0x060E0004, 8, 4, 0⟩
def LCS_CMD_OP : Fld := ⟨0x060E0008, 0, 4, 0⟩
def LCS_CMD_SLOT : Fld := ⟨0x060E0008, 4, 2, 0⟩
def LCS_CMD_KEY : Fld := ⟨0x060E0008, 16, 16, 0⟩
def LCS_CMD_STAT_STATUS : Fld := ⟨0x060E000C, 0, 8, 0⟩
def LCS_CMD_STAT_BUSY : Fld := ⟨0x060E000C, 8, 1, 0⟩
def LCS_CMD_STAT_OP : Fld := ⟨0x060E000C, 12, 4, 0⟩
def LCS_ARG_FLOOR : Fld := ⟨0x060E0010, 0, 9, 0⟩
def LCS_FLOOR_FLOOR : Fld := ⟨0x060E0014, 0, 9, 0⟩
def LCS_DBG_CTR_COUNT : Fld := ⟨0x060E0018, 0, 11, 0⟩

/-! Registers of block DBG. -/

def DBG_CMD_OP : Fld := ⟨0x060E0800, 0, 2, 0⟩
def DBG_STAT_STATUS : Fld := ⟨0x060E0804, 0, 8, 0⟩
def DBG_STAT_BUSY : Fld := ⟨0x060E0804, 8, 1, 0⟩
def DBG_STAT_LOCKOUT : Fld := ⟨0x060E0804, 9, 1, 0⟩
def DBG_STAT_BSCAN_REFUSED : Fld := ⟨0x060E0804, 10, 1, 0⟩
def DBG_STAT_FAB_CMD : Fld := ⟨0x060E0804, 11, 1, 0⟩
def DBG_STAT_FAILS : Fld := ⟨0x060E0804, 16, 4, 0⟩
def DBG_RIGHTS_RIGHTS : Fld := ⟨0x060E0808, 0, 6, 0⟩

end Sys2Proof.Machine.Fd
end

