-- ==== Sys2Proof/Machine/Mem0.lean ====
section
/-! DEFINITION. The stored words of the memories of Table 10.1: keys, system addresses, raw reads and writes through
borrowed regions and remap spares, full writes with fresh check bits, and the running checks of retained RAM. -/
namespace Sys2Proof.Machine

open Sys2Proof

/-- The key of word i of memory m. -/
def mkey (m i : Nat) : Nat := m * 2 ^ 32 + i

/-- The one canonical form of the memories: keys rise strictly, and no entry equals what an unlisted word reads as. -/
def Memory.wf (m : SMap MemWord) : Bool := mapCanon 0 m

/-- Words of each memory (Table 10.1). The order of the tables in memory 14 and of the buffers in memory 15 is the model's own (log 20 and
76). -/
def memWords (m : Nat) : Nat :=
  if m = 0 then 524288
  else if m = 1 then 131072
  else if m ≤ 9 then 262144
  else if m = 10 then 1152 * 512
  else if m = 11 ∨ m = 12 then 8 * 8192
  else if m = 13 then 32768
  else if m = 14 then 8832
  else 0x20000

/-- Word of memory 15 where SDRAM spare line i begins (log 76): 8 words hold its 64 B. -/
def spareWord (i : Nat) : Nat := 0x8000 + 8 * i

/-- Word i of memory m exists: in memory 15 the CFG page buffer, the SDRAM spare lines and the fetch caches have words; the network and
host-port buffers are reached by no word address (log 76). -/
def wordThere (m i : Nat) : Bool :=
  if m = 15 then decide (i < 64) || (decide (0x8000 ≤ i) && decide (i < 0x8080)) || (decide (0x10000 ≤ i) && decide (i < 0x14000))
  else decide (m < 15) && decide (i < memWords m)

/-- The merge-buffer port of word i of memory m (R222): each inkwell has two ports (side 0 port A, 1 port B), each scribe RAM one, every
other memory one. -/
def mergePort (m i side : Nat) : Nat :=
  if m = 10 then 2 * (i / 512) + side else if m = 11 ∨ m = 12 then i / 8192 else 0

/-- The port of a memory that serves word i for a side, as a number of its own. -/
def mergeKey (m i side : Nat) : Nat := m * 2 ^ 32 + mergePort m i (side % 2)

/-- The port whose merge buffer an entry stands in. -/
def Merge.port (e : Merge) : Nat := mergeKey (e.key / 2 ^ 32) (e.key % 2 ^ 32) e.side

/-- The merge-buffer entry that holds the word of a key. -/
def State.mergeOf (s : State) (k : Nat) : Option Merge := s.mst.merge.find? (fun e => e.key == k)

/-- The address MEM_ERR_CAP and MEM_INJ name word i of memory m by: its system address, or its index where the memory
lies outside the system map. -/
def memAddr (m i : Nat) : Nat :=
  if m = 0 then 0x04000000 + 8 * i
  else if m = 1 then 0x04400000 + 8 * i
  else if m ≤ 9 then (m - 2) * 0x200000 + 8 * i
  else if m = 13 then 0x05000000 + 8 * i
  else i

/-- The save buffer that holds a borrowed word, if a BIST slice holds it (R229). -/
def borrowed? : SMap SliceSt → Nat → Option Nat
  | [], _ => none
  | e :: r, k => if (mapGet? e.2.saved k).isSome then some e.1 else borrowed? r k

/-- The stored word: of a save buffer, of a spare, or of the array (R226, R229). -/
def State.mget (s : State) (k : Nat) : MemWord :=
  match borrowed? s.bst.slice k with
  | some t => match mapGet? s.bst.slice t with
    | some sl => mapGet 0 sl.saved k
    | none => 0
  | none => match mapGet? s.mst.spares k with
    | some w => w
    | none => mapGet 0 s.mem k

/-- The word as every port sees it: the merge-buffer entry that holds it, or the stored word (R222). -/
def State.mcur (s : State) (k : Nat) : MemWord :=
  match s.mergeOf k with
  | some e => eccEncode e.data
  | none => s.mget k

/-- The region of retained RAM a word lies in, and the bytes of the region behind the word (Table 14.9). -/
def retRegion (i : Nat) : Nat × Nat :=
  if i < 8192 then (0, (8191 - i) * 8)
  else if i < 24576 then (1, (24575 - i) * 8)
  else (2, (32767 - i) * 8)

/-- CRC-32 of a region that holds zeros only. -/
def retZeroCrc (r : Nat) : Nat := if r = 1 then 0x7EE8CDCD else 0xD7978EEB

/-- The CRC-32 of region r as PWR_RCHK[r] keeps it; before the first write since power-on, that of zeros. -/
def State.retCrc (s : State) (r : Nat) : Nat :=
  (mapGet? s.regs (Fd.PWR_RCHK_CRC r).key).getD (retZeroCrc r)

/-- Follow a write to retained RAM in PWR_RCHK (R334): the data word changes by `delta`. -/
def State.retTrack (s : State) (i delta : Nat) : State :=
  let r := retRegion i
  s.wr (Fd.PWR_RCHK_CRC r.1) (crc32Patch (s.retCrc r.1) delta r.2)

/-- Store a word: into the save buffer, the spare or the array. A write to retained RAM updates its check in the same
step (R334). -/
def State.mput (s : State) (k : Nat) (w : MemWord) : State :=
  let s1 := if k / 2 ^ 32 = 13 then
      s.retTrack (k % 2 ^ 32) (((s.mget k).toNat ^^^ w.toNat) % 2 ^ 64) else s
  match borrowed? s1.bst.slice k with
  | some t => match mapGet? s1.bst.slice t with
    | some sl => { s1 with bst := { s1.bst with slice := mapPut s1.bst.slice t { sl with saved := mapPut sl.saved k w } } }
    | none => s1
  | none => match mapGet? s1.mst.spares k with
    | some _ => { s1 with mst := { s1.mst with spares := mapPut s1.mst.spares k w } }
    | none => { s1 with mem := mapSet 0 s1.mem k w }

/-- A full 64-bit write: fresh check bits, with an armed injection XORed into them (R220, R231). -/
def State.mwrite (s : State) (m i : Nat) (d : W64) : State :=
  let hit := s.rdB Fd.MEM_INJ_ARMED && s.rd Fd.MEM_INJ_MEMID == m && s.rd Fd.MEM_INJ_ADDR == memAddr m i
  let w := eccEncode d
  let w' : MemWord := if hit then w ^^^ BitVec.ofNat 72 (s.rd Fd.MEM_INJ_MASK * 2 ^ 64) else w
  let s1 := if hit then s.clr Fd.MEM_INJ_ARMED else s
  s1.mput (mkey m i) w'

/-- The data of a word as decoded, zero where it is uncorrectable. -/
def State.mdata (s : State) (m i : Nat) : Nat :=
  match eccDecode (s.mcur (mkey m i)) with
  | .clean d => d.toNat
  | .fixed d => d.toNat
  | .bad => 0

/-- The word reads without an uncorrectable error. -/
def State.mok (s : State) (m i : Nat) : Bool :=
  match eccDecode (s.mcur (mkey m i)) with
  | .bad => false
  | _ => true

end Sys2Proof.Machine
end

