-- ==== Sys2Proof/Machine/Irq.lean ====
section
/-! DEFINITION. Interrupt sources, targets and moderation (R301 to R310), and the latching of wake events (R330). -/
namespace Sys2Proof.Machine

open Sys2Proof

/-- The sleep state the device rests in: none in an entry, in the power-down phase and in a wake (R328, R332). -/
def SleepPhase.resting : SleepPhase → Option Nat
  | .asleep st => some st
  | .deepening st => some st
  | _ => none

/-- Current device mode (Table 1.5). -/
def State.mode (s : State) : Nat := s.rd Fd.SYS_MODE_MODE

/-- Device time in ticks (R311). -/
def State.now (s : State) : Nat := s.rd Fd.LOG_TIME_TIME

/-- The largest number of records the completion ring of a group can name, as its index modulus. -/
def cringLen (s : State) (g : Nat) : Nat := 2 ^ s.rd (Fd.QUE_CRING_CFG_LOG2LEN g)

/-- Records held by the completion ring of a group (R101). -/
def cringCount (s : State) (g : Nat) : Nat :=
  (s.rd (Fd.QUE_CRING_PIDX_PIDX g) + cringLen s g - s.rd (Fd.QUE_CRING_CIDX_CIDX g)) % cringLen s g

/-- Trouble-log entries that firmware has not read (R317). -/
def logUnread (s : State) : Nat := (s.rd Fd.LOG_NSEQ_NSEQ + 2 ^ 32 - s.rd Fd.LOG_RSEQ_RSEQ) % 2 ^ 32

/-- LOG_CFG.THRESH, where 0 acts as 1. -/
def logThresh (s : State) : Nat := max 1 (s.rd Fd.LOG_CFG_THRESH)

/-- The level of a level-type source (Table 13.1). -/
def irqLevel (s : State) (i : Nat) : Bool :=
  if 32 ≤ i ∧ i < 96 then
    s.rdB (Fd.QUE_CRING_CFG_EN (i - 32)) && decide (s.rd (Fd.QUE_CRING_CIDX_THRESH (i - 32)) ≤ cringCount s (i - 32))
  else if i = 160 then !s.que.haltLog.isEmpty
  else if i = 178 then s.rd Fd.CHN_SFAULT_FAULT != 0
  else if 200 ≤ i ∧ i < 232 then (s.rd (Fd.SCR_SIGNAL_SIG ((i - 200) / 4))).testBit ((i - 200) % 4)
  else if 320 ≤ i ∧ i < 384 then s.fab.irq.toNat.testBit (i - 320)
  else if i = 400 then decide (logThresh s ≤ logUnread s)
  else false

/-- A source counts toward M of target t (R307). -/
def irqCounts (s : State) (t : Nat) (e : Nat × IrqSrc) : Bool :=
  s.rdB (Fd.IRQ_SRC_CFG_MOD e.1) && s.rd (Fd.IRQ_SRC_CFG_TARGET e.1) == t &&
  s.rd (Fd.IRQ_SRC_CFG_PRIO e.1) != 0 && e.2.mode != .active

/-- M of target t over a table of sources (R307). -/
def irqM (s : State) (src : SMap IrqSrc) (t : Nat) : Nat := (src.filter (irqCounts s t)).length

/-- Target t does not moderate: COUNT 0 and TIME 0 (R307). -/
def irqUnmoderated (s : State) (t : Nat) : Bool :=
  s.rd (Fd.IRQ_MOD_CFG_COUNT t) == 0 && s.rd (Fd.IRQ_MOD_CFG_TIME t) == 0

/-- Moderation of target t reads RELEASED (R307, R308). -/
def irqReleased (s : State) (t : Nat) : Bool :=
  s.irq.flushed || irqUnmoderated s t || s.rdB (Fd.IRQ_TGT_STAT_RELEASED t)

/-- The timer of target t starts at the count of its clock (R309). -/
def irqTimerStart (s : State) (t : Nat) : State :=
  let c := if s.rdB (Fd.IRQ_MOD_CFG_CLK t) then s.rd Fd.LOG_AON_COUNT else s.now
  let u := s.set1 (Fd.IRQ_TGT_STAT_TIMER_RUN t)
  { u with irq := { u.irq with timerAt := mapPut u.irq.timerAt t c } }

/-- Moderation of target t after M went from m0 to m1 (R307). -/
def irqModStep (s : State) (t m0 m1 : Nat) : State :=
  if m1 = 0 then
    (if s.irq.flushed then s else s.clr (Fd.IRQ_TGT_STAT_RELEASED t)).clr (Fd.IRQ_TGT_STAT_TIMER_RUN t)
  else
    let s1 := if m0 = 0 && !irqReleased s t && s.rd (Fd.IRQ_MOD_CFG_TIME t) != 0 then irqTimerStart s t
      else s
    if s.rd (Fd.IRQ_MOD_CFG_COUNT t) != 0 && decide (s.rd (Fd.IRQ_MOD_CFG_COUNT t) ≤ m1) then
      (s1.set1 (Fd.IRQ_TGT_STAT_RELEASED t)).clr (Fd.IRQ_TGT_STAT_TIMER_RUN t)
    else s1

/-- Put a new table of sources in force; every target's moderation follows its M. -/
def irqSetSrc (s : State) (src : SMap IrqSrc) : State :=
  (List.range 8).foldl
    (fun u t => let m0 := irqM s s.irq.src t; let m1 := irqM s src t; if m0 = m1 then u else irqModStep u t m0 m1)
    { s with irq := { s.irq with src := src } }

/-- The idle timer restarts (R333). -/
def idleRestart (s : State) : State := { s with pwr := { s.pwr with idleAon := s.rd Fd.LOG_AON_COUNT } }

/-- The block of a source loses its supply or clock in a sleep state, so it cannot wake from it (Table 14.7, event 7). -/
def irqWakes (st i : Nat) : Bool :=
  if st = 1 then true
  else if st = 2 then (decide (16 ≤ i) && decide (i < 232)) || (decide (320 ≤ i) && decide (i < 384)) || i == 388 ||
    i == 395 || i == 396 || i == 397 || i == 399 || i == 400 || i == 401
  else i == 395

/-- The moment on the always-on clock: the AON count and the part of a count. -/
def aonAt (s : State) : Nat := s.rd Fd.LOG_AON_COUNT * 2 ^ 24 + s.log.aonFrac

/-- Latch a wake event: event k of Table 14.7 from block `blk` (R330). FIRST names the first event; of events latched at one moment, the one
highest in the table (DEDUCED, log 77: a monitor-oscillator cycle is taken as one moment of the model). -/
def wakeLatch (s : State) (k blk src : Nat) : State :=
  let fresh := s.pwr.wake == 0
  let s1 := if fresh then s.wr Fd.PWR_WAKE_SRC_LATCHED (2 ^ (k - 1)) else s.orF Fd.PWR_WAKE_SRC_LATCHED (2 ^ (k - 1))
  let s2 := if fresh || (s.pwr.wakeAon == aonAt s && s.pwr.wake % 2 ^ k == 0) then s1.wr Fd.PWR_WAKE_SRC_FIRST blk else s1
  let s3 := if k = 7 ∧ !s.pwr.wake.testBit 6 then s2.wr Fd.PWR_WAKE_SRC_IRQ_SRC src else s2
  { s3 with pwr := { s3.pwr with
      wake := s3.pwr.wake ||| 2 ^ (k - 1)
      wakeTime := if fresh then s.now else s.pwr.wakeTime
      wakeAon := if fresh then aonAt s else s.pwr.wakeAon } }

/-- A source has become pending: with WAKE_EN 1 it is a wake event after AP1 of an entry and in SLEEP, the wake order
included (R310). -/
def irqWake (s : State) (i : Nat) : State :=
  if s.rdB (Fd.IRQ_SRC_CFG_WAKE_EN i) then
    match s.pwr.sleep with
    | .awake => s
    | .waking st => if s.mode = Md.sleep ∧ irqWakes st i then wakeLatch s 7 Blk.irq i else s
    | .asleep st => if irqWakes st i then wakeLatch s 7 Blk.irq i else s
    | .deepening st => if irqWakes st i then wakeLatch s 7 Blk.irq i else s
    | _ => wakeLatch s 7 Blk.irq i
  else s

/-- A source event reaches source i (Table 13.2). -/
def irqEvent (i : Nat) (s : State) : State :=
  match mapGet? s.irq.src i with
  | none =>
    if s.rd (Fd.IRQ_SRC_CFG_PRIO i) = 0 then s
    else irqWake (irqSetSrc s (mapPut s.irq.src i ⟨.pending, 0⟩)) i
  | some ⟨.pending, _⟩ => s
  | some ⟨.active, t⟩ =>
    if irqIsLevel i then s
    else irqWake ((irqSetSrc s (mapPut s.irq.src i ⟨.activePending, t⟩)).incSat (Fd.IRQ_TGT_CNT_REFIRES t)) i
  | some ⟨.activePending, _⟩ => s

/-- Judge a level-type source: from IDLE it becomes PENDING while its level is asserted (Table 13.2). -/
def irqJudge (i : Nat) (s : State) : State :=
  match mapGet? s.irq.src i with
  | none => if irqLevel s i then irqEvent i s else s
  | some _ => s

/-- A source is deliverable to target t (R304). -/
def irqDeliverable (s : State) (t : Nat) (e : Nat × IrqSrc) : Bool :=
  e.2.mode != .active && s.rd (Fd.IRQ_SRC_CFG_TARGET e.1) == t &&
  s.rd (Fd.IRQ_SRC_CFG_PRIO e.1) != 0 &&
  decide (s.rd (Fd.IRQ_TGT_CFG_THRESH t) < s.rd (Fd.IRQ_SRC_CFG_PRIO e.1)) &&
  (!s.rdB (Fd.IRQ_SRC_CFG_MOD e.1) || irqReleased s t)

/-- The deliverable sources of target t, lowest number first. -/
def irqDeliv (s : State) (t : Nat) : List Nat := ((s.irq.src.filter (irqDeliverable s t)).map Prod.fst)

/-- Target t is asserted (R302). -/
def irqAsserted (s : State) (t : Nat) : Bool := !(irqDeliv s t).isEmpty

/-- INT_N[t] is to be low: target t is asserted and OUT_EN is 1 (R302). -/
def intNLow (s : State) (t : Nat) : Bool := s.rdB (Fd.IRQ_TGT_CFG_OUT_EN t) && irqAsserted s t

/-- The targets whose INT_N is to be low, one bit each. -/
def intNMask (s : State) : Nat := (List.range 4).foldl (fun a t => if intNLow s t then a + 2 ^ t else a) 0

/-- What INT_N[t] is driven to by its own driver: low, or high but on an open-drain pin (R302). -/
def intOwn (s : State) (t : Nat) : Option Bool :=
  if intNLow s t then some false else if s.rdB (Fd.IRQ_TGT_CFG_OD t) then none else some true

/-- The targets whose INT_N is driven high, one bit each. -/
def intNUp (s : State) : Nat := (List.range 4).foldl (fun a t => if intOwn s t = some true then a + 2 ^ t else a) 0

/-- What cell c of the boundary-scan register holds its pin at (R375). -/
def cellDrive (s : State) (c : Nat) : Option Bool :=
  match mapGet 2 s.jtag.cells c with
  | 0 => some false
  | 1 => some true
  | _ => none

/-- The cell of INT_N[t]; cells 0 to 511 are those of the user pins. The places of the cells in the register are the BSDL file's (log 62). -/
def intCell (t : Nat) : Nat := 512 + t

/-- What the device drives on INT_N[t] (R302, R337): nothing in LOAD and FROZEN and without VCCIO6; EXTEST, CLAMP and HIGHZ act on it as on
every dedicated pin (R375, R376). From AP3 of a sleep entry until the hold
release the hold cells keep the level, in the LOAD of a wake from S3 too. -/
def intDrive (s : State) (t : Nat) : Option Bool :=
  if 6 ∈ s.pwr.absent ∨ s.jtag.ir = .highz then none
  else if s.jtag.ir = .extest ∨ s.jtag.ir = .clamp then cellDrive s (intCell t)
  else if s.mode = Md.frozen then none
  else if s.pwr.hold then
    if s.pwr.intHeld.testBit t then some false else if s.pwr.intHeldUp.testBit t then some true else none
  else if s.mode = Md.load then none
  else intOwn s t

/-- The best of the deliverable sources: highest PRIO, among equals the lowest number (R305). -/
def irqBest (s : State) : List Nat → Nat → Nat
  | [], b => b
  | i :: r, b =>
    irqBest s r (if b = 0 ∨ s.rd (Fd.IRQ_SRC_CFG_PRIO b) < s.rd (Fd.IRQ_SRC_CFG_PRIO i) then i else b)

/-- A read of IRQ_CLAIM[t]: the source claimed, or 0, and the state after it (R305). -/
def irqClaim (t : Nat) (s : State) : Nat × State :=
  let i := irqBest s (irqDeliv s t) 0
  if i = 0 then (0, s.incSat (Fd.IRQ_TGT_CNT_EMPTY t))
  else
    let new : IrqMode := .active
    (i, (irqSetSrc s (mapPut s.irq.src i ⟨new, t⟩)).incSat (Fd.IRQ_TGT_CNT_CLAIMS t))

/-- A write of source i to IRQ_COMPLETE[t] (R306, Table 13.2). A source that becomes pending again by it may be a wake event (R310). -/
def irqComplete (t i : Nat) (s : State) : State :=
  match mapGet? s.irq.src i with
  | some ⟨.active, u⟩ =>
    if u = t then
      if irqIsLevel i && irqLevel s i then
        irqWake ((irqSetSrc s (mapPut s.irq.src i ⟨.pending, 0⟩)).incSat (Fd.IRQ_TGT_CNT_REFIRES t)) i
      else irqSetSrc s (mapDel s.irq.src i)
    else s.incSat (Fd.IRQ_TGT_CNT_BAD_COMPLETES t)
  | some ⟨.activePending, u⟩ =>
    if u = t then irqWake (irqSetSrc s (mapPut s.irq.src i ⟨.pending, 0⟩)) i
    else s.incSat (Fd.IRQ_TGT_CNT_BAD_COMPLETES t)
  | _ => s.incSat (Fd.IRQ_TGT_CNT_BAD_COMPLETES t)

/-- A 1 written to the IRQ_PEND bit of source i (Table 13.2). -/
def irqPendClear (i : Nat) (s : State) : State :=
  match mapGet? s.irq.src i with
  | some ⟨.pending, _⟩ => if irqIsLevel i && irqLevel s i then s else irqSetSrc s (mapDel s.irq.src i)
  | some ⟨.activePending, t⟩ => irqSetSrc s (mapPut s.irq.src i ⟨.active, t⟩)
  | _ => s

/-- A 1 written to the IRQ_PEND_SET bit of source i (Table 13.2): PRIO not 0. -/
def irqPendSet (i : Nat) (s : State) : State :=
  if s.rd (Fd.IRQ_SRC_CFG_PRIO i) = 0 ∨ !irqExists i then s
  else match mapGet? s.irq.src i with
    | none => irqWake (irqSetSrc s (mapPut s.irq.src i ⟨.pending, 0⟩)) i
    | some ⟨.active, t⟩ => irqWake (irqSetSrc s (mapPut s.irq.src i ⟨.activePending, t⟩)) i
    | _ => s

/-- TIME has passed on the timer of target t: TIME × 250 engine ticks, or TIME AON counts (R309). -/
def irqTimerOver (s : State) (t : Nat) : Bool :=
  let a := mapGet 0 s.irq.timerAt t
  if s.rdB (Fd.IRQ_MOD_CFG_CLK t) then decide (s.rd (Fd.IRQ_MOD_CFG_TIME t) ≤ (s.rd Fd.LOG_AON_COUNT + 2 ^ 48 - a) % 2 ^ 48)
  else decide (s.rd (Fd.IRQ_MOD_CFG_TIME t) * 250 ≤ s.now - a)

/-- The moderation timer of target t expires (R307). -/
def irqTimer (t : Nat) (s : State) : State :=
  if s.rdB (Fd.IRQ_TGT_STAT_TIMER_RUN t) && irqTimerOver s t then
    (s.set1 (Fd.IRQ_TGT_STAT_RELEASED t)).clr (Fd.IRQ_TGT_STAT_TIMER_RUN t)
  else s

/-- Flush every moderation at AP1 (R308). -/
def irqFlush (s : State) : State :=
  let s1 := (List.range 8).foldl (fun u t =>
    let u1 := if irqM s s.irq.src t = 0 then u else u.incSat (Fd.IRQ_TGT_CNT_FLUSHES t)
    (u1.set1 (Fd.IRQ_TGT_STAT_RELEASED t)).clr (Fd.IRQ_TGT_STAT_TIMER_RUN t)) s
  { s1 with irq := { s1.irq with flushed := true } }

/-- The flush ends: RELEASED is cleared for a target whose M is 0 (R307, R308). -/
def irqUnflush (s : State) : State :=
  let s0 := { s with irq := { s.irq with flushed := false } }
  (List.range 8).foldl (fun u t => if irqM s s.irq.src t = 0 then u.clr (Fd.IRQ_TGT_STAT_RELEASED t) else u) s0

/-- Every timer stops and RELEASED is cleared: on a reset of any kind and on entry to FROZEN (R309). -/
def irqStopTimers (s : State) : State :=
  (List.range 8).foldl (fun u t => (u.clr (Fd.IRQ_TGT_STAT_RELEASED t)).clr (Fd.IRQ_TGT_STAT_TIMER_RUN t)) s

/-- A write changes the priority or routing of sources: every target's moderation follows its M (R307). -/
def irqReroute (before : State) (s : State) : State :=
  (List.range 8).foldl
    (fun u t => let m0 := irqM before before.irq.src t; let m1 := irqM s s.irq.src t
                if m0 = m1 then u else irqModStep u t m0 m1) s

end Sys2Proof.Machine
end

