-- ==== Sys2Proof/Machine/MemErr.lean ====
section
/-! DEFINITION. Raising a safety input, and what a read and a write of an ECC-protected word leave behind: the error
counts, the capture, the write-back and the correction history (R219 to R225), promotion to a spare (R226). -/
namespace Sys2Proof.Machine

open Sys2Proof

/-- A safety input is raised; it is latched before the command ends (R344). -/
def safRaise (i : Nat) (s : State) : State :=
  if i ∈ s.saf.due then s else { s with saf := { s.saf with due := s.saf.due ++ [i] } }

/-- Set a bit of MEM_STAT that raises source 388 (Table 13.1). -/
def memStat (f : Fld) (s : State) : State := irqEvent 388 (s.set1 f)

/-- Capture an event in MEM_ERR_CAP: the first while VALID is 0; kinds 2 to 6 also replace a held kind 1. -/
def memCap (kind m addr master : Nat) (s : State) : State :=
  if s.rd Fd.MEM_ERR_CAP_VALID = 0 ∨ (s.rd Fd.MEM_ERR_CAP_KIND = 1 ∧ 2 ≤ kind) then
    ((((s.wr Fd.MEM_ERR_CAP_ADDR addr).wr Fd.MEM_ERR_CAP_MEMID m).wr Fd.MEM_ERR_CAP_KIND kind).wr
      Fd.MEM_ERR_CAP_MASTER master).set1 Fd.MEM_ERR_CAP_VALID
  else s

/-- A correctable read of word i of memory m: counted, captured and queued for write-back (R221, R224). -/
def noteFixed (m i master : Nat) (s : State) : State :=
  let s1 := memCap 1 m (memAddr m i) master ((s.set1 Fd.MEM_STAT_CE).incSat (Fd.MEM_ECNT_CORRECTED m))
  if m = 15 ∨ (m, i) ∈ s1.mst.writeBack then s1
  else if (s1.mst.writeBack.filter (fun e => e.1 == m)).length < 4 then
    { s1 with mst := { s1.mst with writeBack := s1.mst.writeBack ++ [(m, i)] } }
  else s1.set1 Fd.MEM_STAT_WB_DROP

/-- An uncorrectable read of word i of memory m: counted, captured, reported (R221, input 18). -/
def noteUE (m i master : Nat) (s : State) : State :=
  safRaise 18 (memCap 2 m (memAddr m i) master (memStat Fd.MEM_STAT_UE (s.incSat (Fd.MEM_ECNT_UNCORR m))))

/-- A requester's read of a word: its data, none where it is uncorrectable, and the state after it. -/
def readWord (m i master : Nat) (s : State) : Option W64 × State :=
  match eccDecode (s.mcur (mkey m i)) with
  | .clean d => (some d, s)
  | .fixed d => (some d, noteFixed m i master s)
  | .bad => (none, noteUE m i master s)

/-- A requester's write reaches a word: its pending write-back, its scrub correction and its correction history end
(R224, R225, R227), and a merge-buffer entry of it is superseded. -/
def touchWord (m i : Nat) (s : State) : State :=
  { s with mst := { s.mst with
    writeBack := s.mst.writeBack.filter (fun e => e != (m, i)),
    merge := s.mst.merge.filter (fun e => e.key != mkey m i),
    history := s.mst.history.filter (fun h => !(h.mem == m && h.idx == i)),
    scrubFix := match mapGet? s.mst.scrubFix m with
      | some f => if f.idx = i then mapDel s.mst.scrubFix m else s.mst.scrubFix
      | none => s.mst.scrubFix } }

/-- The merge-buffer entry of a word of retained RAM is about to go: PWR_RCHK turns back to the stored word (R334). -/
def retUnmerge (m i : Nat) (s : State) : State :=
  match s.mergeOf (mkey m i) with
  | some e => if m = 13 then s.retTrack i ((e.data.toNat ^^^ (s.mget (mkey m i)).toNat) % 2 ^ 64) else s
  | none => s

/-- A merge buffer takes a word of retained RAM with data `d`: PWR_RCHK follows the write in the same cycle (R334). -/
def retMerge (m i : Nat) (d : W64) (s : State) : State :=
  if m = 13 then s.retTrack i ((d.toNat ^^^ (s.mget (mkey m i)).toNat) % 2 ^ 64) else s

/-- A requester's full write of a word (R220). -/
def writeWord (m i : Nat) (d : W64) (s : State) : State := (touchWord m i (retUnmerge m i s)).mwrite m i d

/-- Poison a word: its data as last read, with the check byte of that data XOR 0x03 (R220). -/
def poisonWord (m i : Nat) (s : State) : State :=
  let w := s.mget (mkey m i)
  s.mput (mkey m i) (eccPoison (BitVec.ofNat 64 w.toNat))

/-- The word of a key as the merge buffers hold it is written to the array and leaves them (R222): no full write, so an armed injection
waits on (R231). A scrub correction of the word that waits for its slot is cancelled (R227). -/
def mergeStore (k : Nat) (s : State) : State :=
  match s.mergeOf k with
  | some e =>
    let m := k / 2 ^ 32
    let i := k % 2 ^ 32
    let s1 := retUnmerge m i s
    let s2 := { s1 with mst := { s1.mst with
      merge := s1.mst.merge.filter (fun x => x.key != k)
      scrubFix := match mapGet? s1.mst.scrubFix m with
        | some f => if f.idx = i then mapDel s1.mst.scrubFix m else s1.mst.scrubFix
        | none => s1.mst.scrubFix } }
    s2.mput k (eccEncode e.data)
  | none => s

/-- The entry of memory m that its merge buffers hold longest is written to its word (R222). -/
def mergeFlush (m : Nat) (s : State) : State :=
  match s.mst.merge.find? (fun e => e.key / 2 ^ 32 == m) with
  | some e => mergeStore e.key s
  | none => s

/-- Merge the bytes of a mask into a word. -/
def mergeBytes (old d : Nat) : Nat → Nat → Nat
  | 0, _ => 0
  | n + 1, mask =>
    mergeBytes old d n mask + (if mask.testBit n then (d / 2 ^ (8 * n)) % 256 else (old / 2 ^ (8 * n)) % 256) * 2 ^ (8 * n)

/-- Bits of a byte mask as a mask of bits. -/
def byteBits : Nat → Nat → Nat
  | 0, _ => 0
  | n + 1, mask => byteBits n mask + (if mask.testBit n then 255 * 2 ^ (8 * n) else 0)

/-- A narrow write of the bits of a mask through one side's port (R222, R223): the word is read, corrected and merged in the port's merge
buffer, in which the writes of one requester to one word coalesce; an uncorrectable word refuses the write and is poisoned. Answers
whether the write was taken. -/
def narrowBits (side m i : Nat) (d mask : W64) (master : Nat) (s : State) : Bool × State :=
  let r := readWord m i master s
  match r.1 with
  | none => (false, memCap 6 m (memAddr m i) master (poisonWord m i r.2))
  | some old =>
    let s1 := match r.2.mst.merge.find? (fun e => e.port == mergeKey m i side) with
      | some e => if e.key = mkey m i ∧ e.by_ = master then r.2 else mergeStore e.key r.2
      | none => r.2
    let new := (old &&& ~~~mask) ||| (d &&& mask)
    let s2 := retMerge m i new (touchWord m i (retUnmerge m i s1))
    (true, { s2 with mst := { s2.mst with merge := s2.mst.merge ++ [⟨mkey m i, side, new, master⟩] } })

/-- A narrow write of the bytes of a mask. -/
def narrowWrite (m i : Nat) (d : W64) (mask master : Nat) (s : State) : Bool × State :=
  narrowBits 0 m i d (BitVec.ofNat 64 (byteBits 8 mask)) master s

/-- A write of a whole 64-bit word or of the bytes of a mask. -/
def anyWrite (m i : Nat) (d : W64) (mask master : Nat) (s : State) : Bool × State :=
  if mask % 256 = 255 then (true, writeWord m i d s) else narrowWrite m i d mask master s

end Sys2Proof.Machine
end

