-- ==== Sys2Proof/Machine/Operands.lean ====
section
/-! DEFINITION. The shared number formats of spec/02: the four rounding modes (R39), differences of circular
quantities (R32), the angle window (R33) and the conversion of always-on counts (R44). -/
namespace Sys2Proof.Machine

/-- RDN: drop n fraction bits toward minus infinity (R39). -/
def rdn (x : Int) (n : Nat) : Int := x / ((2 ^ n : Nat) : Int)

/-- RTZ: drop n fraction bits toward zero (R39). -/
def rtz (x : Int) (n : Nat) : Int := if 0 ≤ x then rdn x n else -(rdn (-x) n)

/-- RNE: drop n fraction bits to the nearest, ties to even (R39); exact when n is 0. -/
def rne (x : Int) (n : Nat) : Int :=
  if n = 0 then x
  else
    let h : Int := ((2 ^ (n - 1) : Nat) : Int)
    let q := rdn x n
    let r := x - q * ((2 ^ n : Nat) : Int)
    if r > h ∨ (r = h ∧ q % 2 = 1) then q + 1 else q

/-- RNA: drop n fraction bits to the nearest, ties away from zero (R39); exact when n is 0. -/
def rna (x : Int) (n : Nat) : Int :=
  if n = 0 then x
  else
    let h : Int := ((2 ^ (n - 1) : Nat) : Int)
    if 0 ≤ x then rdn (x + h) n else -(rdn (-x + h) n)

/-- The rounding mode of a two-bit code: 0 RNE, 1 RNA, 2 RTZ, 3 RDN (R160). -/
def roundBy (m : Nat) (x : Int) (n : Nat) : Int :=
  match m with
  | 0 => rne x n
  | 1 => rna x n
  | 2 => rtz x n
  | _ => rdn x n

/-- The quotient of two integers rounded to nearest, ties to even; the divisor is positive. -/
def divRne (x y : Int) : Int :=
  let q := x / y
  let r := x - q * y
  if 2 * r > y ∨ (2 * r = y ∧ q % 2 = 1) then q + 1 else q

/-- The quotient of two integers rounded toward zero; the divisor is positive. -/
def divRtz (x y : Int) : Int := if 0 ≤ x then x / y else -((-x) / y)

/-- The nearest value of an interval (R41). -/
def clampI (lo hi x : Int) : Int := if x < lo then lo else if hi < x then hi else x

/-- The range of an n-bit signed number. -/
def sMin (n : Nat) : Int := -((2 ^ (n - 1) : Nat) : Int)
def sMax (n : Nat) : Int := ((2 ^ (n - 1) : Nat) : Int) - 1

/-- Saturate to an n-bit signed number (R41). -/
def satI (n : Nat) (x : Int) : Int := clampI (sMin n) (sMax n) x

/-- The difference a − b of two n-bit circular quantities, signed (R32). -/
def diffS (n a b : Nat) : Int := sx n (a + 2 ^ n - b % 2 ^ n)

/-- The angle window of R33: from one revolution behind to 127 revolutions ahead. -/
def inWindow (d : Int) : Bool := decide (-16777216 ≤ d) && decide (d ≤ 2130706432)

/-- A distance taken in a direction of travel: 0 increasing, 1 decreasing (R82). -/
def alongDir (dir : Nat) (d : Int) : Int := if dir = 1 then -d else d

/-- Ticks of an interval of n always-on counts (R44). -/
def aonTicks (n : Nat) : Nat := n * 7629 + n * 101 / 256

/-- The integer square root, rounded down, by bisection from a power of two. -/
def isqrtAux : Nat → Nat → Nat → Nat
  | 0, _, r => r
  | k + 1, x, r =>
    let c := r + 2 ^ k
    if c * c ≤ x then isqrtAux k x c else isqrtAux k x r

/-- The integer square root of a number below 2^256, rounded down. -/
def isqrt (x : Nat) : Nat := isqrtAux 128 x 0

/-- The lead of one event (R36): delay (Q20.4) × velocity word (Q8.16) plus static offset (Q24.8), and whether it
saturated. -/
def leadOf (delay : Nat) (vw : Int) (off : Int) : Int × Bool :=
  let q := rne ((delay : Int) * vw) 12
  let s := q + off
  (satI 32 s, decide (satI 32 s ≠ s))

end Sys2Proof.Machine
end

