-- ==== Sys2Proof/Machine/LogOps.lean ====
section
/-! DEFINITION. Trouble-log requests and entries (R314 to R317), and the queueing of emergency messages (R292). -/
namespace Sys2Proof.Machine

open Sys2Proof

/-- Ask for a trouble-log entry (R315): the request waits in a 16-entry queue, and one that finds it full is counted. -/
def logReq (source code d0 d1 d2 : Nat) (s : State) : State :=
  if s.log.queue.length < 16 then
    { s with log := { s.log with queue := s.log.queue ++ [⟨s.now, source, code, d0, d1, d2⟩] } }
  else
    let s1 := (s.set1 Fd.LOG_STAT_LOST).incSat Fd.LOG_STAT_LOST_CNT
    { s1 with log := { s1.log with lost := s1.log.lost + 1 } }

/-- Words 0 to 3 (64 bits each) of an entry with its CRC (Table 13.4). -/
def logWords (s : State) (r : LogReq) (seq : Nat) : List W64 :=
  let w0 := r.time % 2 ^ 64
  let w1 := seq % 2 ^ 32 +
    (r.source % 256 + (r.code % 256) * 2 ^ 8 + s.rd Fd.LOG_TIME_QUAL_QUAL * 2 ^ 16 + s.mode * 2 ^ 18) * 2 ^ 32
  let w2 := r.d0 % 2 ^ 32 + (r.d1 % 2 ^ 32) * 2 ^ 32
  let d2 := r.d2 % 2 ^ 32
  let c := crc16 (toBytes 8 w0 ++ toBytes 8 w1 ++ toBytes 8 w2 ++ toBytes 4 d2)
  [BitVec.ofNat 64 w0, BitVec.ofNat 64 w1, BitVec.ofNat 64 w2, BitVec.ofNat 64 (d2 + c * 2 ^ 32)]

/-- Write the words of a list to consecutive words of memory m from i. -/
def State.mwrites (m : Nat) : List W64 → Nat → State → State
  | [], _, s => s
  | d :: r, i, s => State.mwrites m r (i + 1) (writeWord m i d s)

/-- First word, in retained RAM, of the slot of a sequence number (R314). -/
def logSlot (seq : Nat) : Nat := 0x2000 + 4 * (seq % 4096)

/-- Write an entry as the next of the log; a full log overwrites its oldest entry (R317, STOP_FULL 0). -/
def logPut (r : LogReq) (s : State) : State :=
  let seq := s.rd Fd.LOG_NSEQ_NSEQ
  let full := decide (4096 ≤ logUnread s)
  let s1 := State.mwrites 13 (logWords s r seq) (logSlot seq) s
  let s2 := (s1.wr (Fd.PWR_RCHK_SEQ 1) seq).wr Fd.LOG_NSEQ_NSEQ (seq + 1)
  let s3 := if full then (s2.incWrap Fd.LOG_RSEQ_RSEQ).set1 Fd.LOG_STAT_OVERWRITTEN else s2
  irqJudge 400 s3

/-- Write the request at the head of the queue, after the entry that reports discards (R315, R317). -/
def logStep (s : State) : State :=
  match s.log.queue with
  | [] => s
  | r :: rest =>
    let s0 := { s with log := { s.log with queue := rest } }
    if s.rdB Fd.LOG_CFG_STOP_FULL && decide (4096 ≤ logUnread s) then
      let s1 := ((s0.set1 Fd.LOG_STAT_REFUSED).incSat Fd.LOG_STAT_LOST_CNT)
      { s1 with log := { s1.log with lost := s1.log.lost + 1 } }
    else if s.log.lost = 0 then logPut r s0
    else
      let s1 := logPut ⟨s.now, Blk.log, 0x01, s.log.lost, 0, 0⟩ s0
      let s2 := { s1 with log := { s1.log with lost := 0 } }
      if s.rdB Fd.LOG_CFG_STOP_FULL && decide (4096 ≤ logUnread s2) then
        let s3 := ((s2.set1 Fd.LOG_STAT_REFUSED).incSat Fd.LOG_STAT_LOST_CNT)
        { s3 with log := { s3.log with lost := s3.log.lost + 1 } }
      else logPut r s2

/-- The entry of a bank supply lost in sleep waits for the wake (R339). -/
def logWaits (s : State) : Bool :=
  s.pwr.sleep.resting.isSome &&
    s.log.queue.head?.any (fun r => r.source == Blk.pwr && r.code == 0x06)

/-- LOG_WRITE: the request at the head is written, unless it waits. -/
def logWrite1 (s : State) : State := if logWaits s then s else logStep s

/-- Every waiting request is written, at most as many as the queue holds. -/
def logDrain : Nat → State → State
  | 0, s => s
  | n + 1, s => logDrain n (logStep s)

/-- The bit of 0x1001 that an emergency code sets (Table 12.6). -/
def emcyBit (code : Nat) : Nat :=
  if code = 0x3000 then 2
  else if code = 0x5000 then 0
  else if 0x8100 ≤ code ∧ code < 0x8300 then 4
  else 7

/-- Queue an emergency message (R292): code, block ID of the origin and detail byte. -/
def emcy (code origin detail : Nat) (s : State) : State :=
  let s1 := if code = 0 then s.clr Fd.NET_ERR_REG_ER
    else s.wr Fd.NET_ERR_REG_ER (s.rd Fd.NET_ERR_REG_ER ||| 2 ^ emcyBit code ||| 1)
  let s2 := { s1 with net := { s1.net with
    emcy := s1.net.emcy ++ [⟨code, origin, detail % 256, s.now, s1.rd Fd.NET_ERR_REG_ER⟩],
    causes := if code = 0 then [] else setIns s1.net.causes code } }
  irqEvent 391 s2

/-- The cause of an emergency code still stands (Table 12.6). -/
def emcyHolds (s : State) (code : Nat) : Bool :=
  if code = 0x3000 then (s.rd Fd.SAF_FAULT_LATCHED).testBit 36 || (s.rd Fd.SAF_FAULT_LATCHED).testBit 37
  else if code = 0x5000 then (s.rd Fd.SAF_FAULT_LATCHED).testBit 18 || (s.rd Fd.SAF_FAULT_LATCHED).testBit 21
  else if code = 0x8110 then s.rdB Fd.NET_STAT_RX_OVR
  else if code = 0x8120 then s.rdB Fd.NET_STAT_PASSIVE0 || s.rdB Fd.NET_STAT_PASSIVE1
  else if code = 0x8130 then s.rdB Fd.NET_STAT_HB_TMO
  else if code = 0x8210 then s.rdB Fd.NET_STAT_PDO_LEN
  else if code = 0xFF01 then s.mode == Md.limited
  else if code = 0xFF02 then s.mode == Md.safe
  else if code = 0xFF03 then s.rdB Fd.NET_STAT_RET_LOST || s.rd Fd.PWR_STAT_RET_FAIL != 0
  else if code = 0xFF04 then s.rdB Fd.SYS_MODE_FALLBACK_BANK
  else if code = 0xFF05 then s.rdB Fd.NET_STAT_DEF_REFUSED
  else if code = 0xFF06 then s.rd Fd.NET_STORE_STAT_STATUS != 0
  else if code = 0xFF07 then s.rdB Fd.NET_STAT_SRDO_FAULT
  else false

/-- The error register of a list of causes (R292). -/
def errReg (l : List Nat) : Nat := l.foldl (fun a c => a ||| 2 ^ emcyBit c ||| 1) 0

/-- Causes that have ended leave the error register; when the last one has, EMCY 0x0000 is queued (R292). -/
def emcyRefresh (s : State) : State :=
  if s.net.causes.all (emcyHolds s) then s
  else
    let l := s.net.causes.filter (emcyHolds s)
    let t := { s with net := { s.net with causes := l } }.wr Fd.NET_ERR_REG_ER (errReg l)
    if l.isEmpty then emcy 0 Blk.net 0 t else t

end Sys2Proof.Machine
end

