-- ==== Sys2Proof/Machine/Tab14.lean ====
section
/-! DEFINITION. The engine tables of memory 14 (Table 10.1): where the AFE correction tables, the channel delay table, the
nib records and the safe images lie in it, and 32-bit reads and writes of their slots. The order of the tables in the
memory is the model's own (DESIGN CHOICE, log entry 20): the spec gives the memory no address map. -/
namespace Sys2Proof.Machine

open Sys2Proof

/-- Slot (32 bits, two to a word) of entry e of bank b of the correction table of channel k (R54). -/
def slotTbl (k b e : Nat) : Nat := (k * 2 + b) * 1024 + e

/-- Slot of a channel's entry in the channel delay table (Table 5.5). -/
def slotDelay (ch : Nat) : Nat := 4096 + ch

/-- Slot of word w of nib record n (Table 5.6). -/
def slotNib (n w : Nat) : Nat := 12800 + 4 * n + w

/-- Slot of word w of string st's safe image (Table 6.2). -/
def slotSafe (st w : Nat) : Nat := 16896 + 8 * st + w

/-- A requester reads a slot: none where its word is uncorrectable. -/
def slotReadBy (j master : Nat) (s : State) : Option Nat × State :=
  let r := readWord 14 (j / 2) master s
  (r.1.map (fun d => (d.toNat / 2 ^ (32 * (j % 2))) % 2 ^ 32), r.2)

/-- The engine reads a slot. -/
def slotRead (j : Nat) (s : State) : Option Nat × State := slotReadBy j 0 s

/-- Value of a slot without accounting the read, zero where uncorrectable. -/
def slotVal (s : State) (j : Nat) : Nat := (s.mdata 14 (j / 2) / 2 ^ (32 * (j % 2))) % 2 ^ 32

/-- The slot's word reads without an uncorrectable error. -/
def slotOk (s : State) (j : Nat) : Bool := s.mok 14 (j / 2)

/-- A requester writes a slot, a narrow write (R222): the other half of its word is kept; refused when the word is uncorrectable
(R223). -/
def slotWriteBy (j v master : Nat) (s : State) : Bool × State :=
  narrowWrite 14 (j / 2) (BitVec.ofNat 64 (v % 2 ^ 32 * 2 ^ (32 * (j % 2)))) (15 * 16 ^ (j % 2)) master s

/-- The engine writes a slot. -/
def slotWrite (j v : Nat) (s : State) : State := (slotWriteBy j v 0 s).2

end Sys2Proof.Machine
end

