-- ==== Sys2Proof/Machine/Desc.lean ====
section
/-! DEFINITION. Queue descriptors (Table 4.3) and event store entries (Table 4.1) as the QUE reads and writes them:
each change reads the 64-bit words, decodes them and writes them whole (R102). -/
namespace Sys2Proof.Machine

open Sys2Proof

/-- A queue descriptor (Table 4.3). -/
structure Desc where
  base : Nat
  log2 : Nat
  pidx : Nat
  sidx : Nat
  cidx : Nat
  armed : Nat
  state : Nat
  late : Nat
  dir : Nat
  group : Nat
  cpl : Nat
  prod : Nat
  owner : Nat
  cause : Nat
deriving DecidableEq, Repr

/-- A descriptor of zeros: DISABLED. -/
def descZero : Desc := ⟨0, 0, 0, 0, 0, 0, 0, 0, 0, 0, 0, 0, 0, 0⟩

/-- Read the fields of a descriptor from its two words. -/
def descOf (a b : Nat) : Desc :=
  ⟨bits a 17 0, bits a 28 24, bits a 47 32, bits a 63 48, bits b 15 0, bits b 26 16,
   bits b 33 32, bits b 35 34, bits b 36 36, bits b 45 40, bits b 47 46, bits b 53 48, bits b 59 56, bits b 63 60⟩

/-- The first word of a descriptor (words 0 and 1 of Table 4.3). -/
def descLo (d : Desc) : Nat :=
  d.base % 2 ^ 18 + (d.log2 % 32) * 2 ^ 24 + (d.pidx % 65536) * 2 ^ 32 + (d.sidx % 65536) * 2 ^ 48

/-- The second word of a descriptor (words 2 and 3 of Table 4.3). -/
def descHi (d : Desc) : Nat :=
  d.cidx % 65536 + (d.armed % 2048) * 2 ^ 16 + (d.state % 4) * 2 ^ 32 + (d.late % 4) * 2 ^ 34 + (d.dir % 2) * 2 ^ 36 +
  (d.group % 64) * 2 ^ 40 + (d.cpl % 4) * 2 ^ 46 + (d.prod % 64) * 2 ^ 48 + (d.owner % 16) * 2 ^ 56 +
  (d.cause % 16) * 2 ^ 60

/-- The descriptor of queue q, none where a word of it is uncorrectable. -/
def getDesc (s : State) (q : Nat) : Option Desc :=
  if s.mok 1 (2 * q) && s.mok 1 (2 * q + 1) then some (descOf (s.mdata 1 (2 * q)) (s.mdata 1 (2 * q + 1))) else none

/-- Write a descriptor: each changed word whole, with fresh check bits (R102). -/
def putDesc (q : Nat) (d : Desc) (s : State) : State :=
  let a := BitVec.ofNat 64 (descLo d)
  let b := BitVec.ofNat 64 (descHi d)
  let s1 := if s.mok 1 (2 * q) && s.mdata 1 (2 * q) == a.toNat then s else writeWord 1 (2 * q) a s
  if s1.mok 1 (2 * q + 1) && s1.mdata 1 (2 * q + 1) == b.toNat then s1 else writeWord 1 (2 * q + 1) b s1

/-- Set the halt map entry of a queue: DISABLED queues are not listed (R99). -/
def setHalt (q st cause : Nat) (s : State) : State :=
  { s with que := { s.que with
    halt := if st = 0 then mapDel s.que.halt q else mapPut s.que.halt q ⟨st, cause, 0⟩ } }

/-- A queue is HALTED with a cause at a ring index (R99, R102). -/
def setHaltAt (q cause idx : Nat) (s : State) : State :=
  { s with que := { s.que with halt := mapPut s.que.halt q ⟨3, cause, idx⟩ } }

/-- State of a queue in the halt map: 0 DISABLED, 1 RUNNING, 2 PAUSED, 3 HALTED. -/
def qState (s : State) (q : Nat) : Nat :=
  match mapGet? s.que.halt q with
  | some h => h.state
  | none => 0

/-- Cause of a queue in the halt map. -/
def qCause (s : State) (q : Nat) : Nat :=
  match mapGet? s.que.halt q with
  | some h => h.cause
  | none => 0

/-- The ring index a HALTED queue halted at. -/
def haltIdx (s : State) (q : Nat) : Nat :=
  match mapGet? s.que.halt q with
  | some h => h.idx
  | none => 0

/-- The event store entry that ring index x of a descriptor's ring names (R75). -/
def ringEntry (d : Desc) (x : Nat) : Nat := d.base + x % 2 ^ d.log2

/-- Ring index arithmetic: x + n modulo the ring's length. -/
def ringAdd (d : Desc) (x n : Nat) : Nat := (x + n) % 2 ^ d.log2

/-- Events from index a up to index b of a ring. -/
def ringDiff (d : Desc) (b a : Nat) : Nat := (b + 2 ^ d.log2 - a) % 2 ^ d.log2

/-- Pending events of a descriptor's ring. -/
def pendingOf (d : Desc) : Nat := ringDiff d d.pidx d.cidx

/-- An event: its four words (Table 4.1). -/
structure Ev where
  w0 : W32
  w1 : W32
  w2 : W32
  w3 : W32
deriving DecidableEq, Repr

def Ev.target (e : Ev) : Nat := e.w0.toNat
def Ev.channel (e : Ev) : Nat := bits e.w1.toNat 13 0
def Ev.action (e : Ev) : Nat := bits e.w1.toNat 18 16
def Ev.cls (e : Ev) : Nat := bits e.w1.toNat 26 19
def Ev.learn (e : Ev) : Bool := e.w1.toNat.testBit 27
def Ev.bidir (e : Ev) : Bool := e.w1.toNat.testBit 28

/-- The event in event store entry e, none where a word of it is uncorrectable. -/
def getEntry (s : State) (e : Nat) : Option Ev :=
  if s.mok 0 (2 * e) && s.mok 0 (2 * e + 1) then
    let a := s.mdata 0 (2 * e)
    let b := s.mdata 0 (2 * e + 1)
    some ⟨BitVec.ofNat 32 a, BitVec.ofNat 32 (a / 2 ^ 32), BitVec.ofNat 32 b, BitVec.ofNat 32 (b / 2 ^ 32)⟩
  else none

/-- Write an event store entry: all 16 bytes, with fresh check bits. -/
def putEntry (e : Nat) (v : Ev) (s : State) : State :=
  writeWord 0 (2 * e + 1) (v.w3 ++ v.w2) (writeWord 0 (2 * e) (v.w1 ++ v.w0) s)

/-- Log a halt in QUE_HALT_LOG (R102). -/
def haltLog (q cause idx : Nat) (s : State) : State :=
  if s.que.haltLog.length < 16 then
    irqJudge 160 { s with que := { s.que with haltLog := s.que.haltLog ++ [⟨q, cause, idx⟩] } }
  else s.set1 Fd.QUE_STAT_HALT_LOG_OVR

/-- Owe a completion record: outcomes of one tick stand in ascending queue number (R101). -/
def cplInsert (c : Cpl) : List Cpl → List Cpl
  | [] => [c]
  | x :: r => if x.tick = c.tick ∧ c.queue < x.queue then c :: x :: r else x :: cplInsert c r

/-- Count an outcome of a queue's group (QUE_GRP_CNT), and owe its completion record under the queue's CPL (R101). -/
def outcome (q : Nat) (d : Desc) (oc phase : Nat) (w3 : W32) (time : Nat) (s : State) : State :=
  let s1 :=
    if oc = 0 ∨ oc = 5 ∨ oc = 7 then s.incWrap (Fd.QUE_GRP_CNT_COUNT d.group 0)
    else if oc = 1 then s.incWrap (Fd.QUE_GRP_CNT_COUNT d.group 1)
    else if oc = 2 then s.incWrap (Fd.QUE_GRP_CNT_COUNT d.group 2)
    else if oc = 4 then s.incWrap (Fd.QUE_GRP_CNT_COUNT d.group 3)
    else s
  if d.cpl = 0 ∨ (d.cpl = 1 ∧ oc = 0) then s1
  else { s1 with que := { s1.que with cpl := cplInsert ⟨q, oc, phase, w3, time, d.group, s.now⟩ s1.que.cpl } }

/-- The QUE reads a descriptor: its fields, none where a word of it is uncorrectable, and what the reads leave (R221). -/
def readDesc (q : Nat) (s : State) : Option Desc × State :=
  let a := readWord 1 (2 * q) 0 s
  let b := readWord 1 (2 * q + 1) 0 a.2
  match a.1, b.1 with
  | some x, some y => (some (descOf x.toNat y.toNat), b.2)
  | _, _ => (none, b.2)

/-- The scheduler or a push reads an event store entry: the event, none where a word of it is uncorrectable. -/
def readEntry (e : Nat) (s : State) : Option Ev × State :=
  let a := readWord 0 (2 * e) 0 s
  let b := readWord 0 (2 * e + 1) 0 a.2
  match a.1, b.1 with
  | some x, some y =>
    (some ⟨BitVec.ofNat 32 x.toNat, BitVec.ofNat 32 (x.toNat / 2 ^ 32), BitVec.ofNat 32 y.toNat,
      BitVec.ofNat 32 (y.toNat / 2 ^ 32)⟩, b.2)
  | _, _ => (none, b.2)

end Sys2Proof.Machine
end

