-- ==== Sys2Proof/Machine/Chn0.lean ====
section
/-! DEFINITION. Channels and strings below the fire stage: commanded levels, pending trailing edges, frames and their
images (R134 to R141), and the hardwired safe path of the pins (R142). -/
namespace Sys2Proof.Machine

open Sys2Proof

/-- A string that has shifted nothing. -/
def strZero : StrSt := ⟨none, 0, 0, 0, false, 0, 0, 0, false, 0, false, false⟩

/-- A string. -/
def State.strOf (s : State) (n : Nat) : StrSt := mapGet strZero s.chn.str n

/-- Put a string. -/
def State.setStr (s : State) (n : Nat) (x : StrSt) : State :=
  { s with chn := { s.chn with str := mapPut s.chn.str n x } }

/-- The safe-state row value of a pin: 0 low, 1 high, 2 high-impedance (R198, R199). -/
def State.rowSafe (s : State) (p : Nat) : Nat := mapGet 2 s.cfg.rowVal p

/-- Commanded level of a channel (R134). -/
def State.level (s : State) (ch : Nat) : Bool := mapGet false s.chn.level ch

/-- Set the commanded level of a channel. -/
def State.setLevel (s : State) (ch : Nat) (b : Bool) : State :=
  { s with chn := { s.chn with level := mapSet false s.chn.level ch b } }

/-- Length in bits of a string. -/
def strLen (s : State) (n : Nat) : Nat := 8 * s.rd (Fd.CHN_SCFG2_LEN8 n)

/-- T_shift of a string in ticks (R137). -/
def tShift (s : State) (n : Nat) : Nat := 2 * s.rd (Fd.CHN_SCFG2_DIV n) * strLen s n

/-- String and bit of a channel of 512 or more (R130). -/
def chString (ch : Nat) : Nat × Nat := ((ch - 512) / 256, (ch - 512) % 256)

/-- The channel is a bit of a string that the string's length covers. -/
def onString (s : State) (ch : Nat) : Bool :=
  decide (512 ≤ ch) && decide (ch < 8704) && decide ((chString ch).2 < strLen s (chString ch).1)

/-- A 68-bit time seen from the current tick (R29): negative in the past. -/
def tRel (s : State) (t : Nat) : Int := diffS 68 t (s.now * 16)

/-- The event a nib holds. -/
def Nib.ev (n : Nib) : Ev := ⟨n.w0, n.w1, n.w2, n.w3⟩

/-- Order of two things that act on one channel: time, then queue, then place in the ring (R117, R134). -/
structure ActKey where
  time : Int
  queue : Nat
  ring : Nat
deriving DecidableEq, Repr

/-- The order of R117. -/
def ActKey.le (a b : ActKey) : Bool :=
  if a.time ≠ b.time then decide (a.time < b.time)
  else if a.queue ≠ b.queue then decide (a.queue < b.queue)
  else decide (a.ring ≤ b.ring)

/-- Insert by an order. -/
def insBy {α : Type} (le : α → α → Bool) (x : α) : List α → List α
  | [] => [x]
  | y :: r => if le x y then x :: y :: r else y :: insBy le x r

/-- Sort by an order, keeping equals in place. -/
def sortBy {α : Type} (le : α → α → Bool) (l : List α) : List α := l.foldr (insBy le) []

/-- Consumer index of a queue, 0 where its descriptor is unreadable. -/
def cidxOf (s : State) (q : Nat) : Nat × Nat :=
  match getDesc s q with
  | some d => (d.cidx, d.log2)
  | none => (0, 16)

/-- Place of a ring index in its queue, counted from CIDX. -/
def ringOf (s : State) (q idx : Nat) : Nat :=
  let c := cidxOf s q
  (idx + 2 ^ c.2 - c.1 % 2 ^ c.2) % 2 ^ c.2

/-- Place of a nib's event in its queue. -/
def ringPos (s : State) (n : Nib) : Nat := ringOf s n.queue n.entry

/-- The order key of a nib. -/
def nibKey (s : State) (n : Nib) : ActKey := ⟨tRel s n.fire, n.queue, ringPos s n⟩

/-- The level an action leaves on a channel that stood at `b` (Table 4.2, R134). -/
def actLevel (act : Nat) (b : Bool) : Bool :=
  match act with
  | 0 => true
  | 1 => false
  | 2 => true
  | 3 => false
  | _ => !b

/-- Set one bit of a string image. -/
def imgSet (img : BitVec 256) (b : Nat) (v : Bool) : BitVec 256 :=
  let m := BitVec.ofNat 256 (2 ^ b)
  if v then img ||| m else img &&& ~~~m

/-- One change of a string image: an action of a nib (`act` 0 to 4) or a trailing edge (`act` 0 high or 1 low). -/
structure ImgAct where
  bit : Nat
  act : Nat
deriving DecidableEq, Repr

/-- The nibs of a list of nib numbers. -/
def nibsOf (s : State) (l : List Nat) : List Nib := l.filterMap (fun n => mapGet? s.nib.nibs n)

/-- Trailing edges of the channels of a list, with their channels. -/
def trailsOf (s : State) (l : List Nat) : List (Nat × Trail) :=
  l.filterMap (fun c => (mapGet? s.chn.trail c).map (fun t => (c, t)))

/-- The changes of a frame's latch: its trailing edges, which go before the actions of their tick (R135), then its members' actions in
the order given. -/
def frameActs (s : State) (order trails : List Nat) : List ImgAct :=
  (trailsOf s trails).map (fun x => ⟨(chString x.1).2, if x.2.level then 0 else 1⟩) ++
  (nibsOf s order).map (fun n => ⟨(chString n.ev.channel).2, n.ev.action⟩)

/-- The members of a frame in the order of R134, by their fire times in force. -/
def actOrder (s : State) (members : List Nat) : List Nat :=
  (sortBy (fun (a b : Nat × Nib) => (nibKey s a.2).le (nibKey s b.2))
    (members.filterMap (fun k => (mapGet? s.nib.nibs k).map (fun n => (k, n))))).map Prod.fst

/-- The latched image of a string with the changes of trailing edges and of members in an order (R138). -/
def imageOf (s : State) (st : Nat) (order trails : List Nat) : BitVec 256 :=
  (frameActs s order trails).foldl (fun img x => imgSet img x.bit (actLevel x.act (img.getLsbD x.bit))) (s.strOf st).latched

/-- The image a frame has at its cut: the latched image with the members' changes in the order of R134 (R138). -/
def frameImage (s : State) (st : Nat) (members trails : List Nat) : BitVec 256 := imageOf s st (actOrder s members) trails

/-- Queue and entry that stand for a frame under the same-tick rule: its opener, or where that has left, the earliest of its members
(R140). -/
def frameFirst (s : State) (f : Frame) (ms : List Nat) : Nat × Nat :=
  let l := nibsOf s ms
  if l.any (fun n => n.queue == f.opener && n.entry == f.openEntry) then (f.opener, f.openEntry)
  else match sortBy (fun (a b : Nib) => (nibKey s a).le (nibKey s b)) l with
    | n :: _ => (n.queue, n.entry)
    | [] => (f.opener, f.openEntry)

/-- Recompose a frame without some members: the shift in progress is abandoned, the image shifted again and the latch
moved (R139). The members that stay keep the order of the cut. -/
def recompose (st : Nat) (gone : List Nat) (s : State) : State :=
  match (s.strOf st).frame with
  | none => s
  | some f =>
    if f.locked || (f.members.filter (fun n => n ∈ gone)).isEmpty then s
    else
      let ms := f.members.filter (fun n => n ∉ gone)
      let tl := max f.tL (s.now + tShift s st + 8)
      let o := frameFirst s f ms
      let order := f.acts.filter (fun n => n ∉ gone)
      let g : Frame := { f with tL := tl, phase := if tl = f.tL then f.phase else 0, members := ms, opener := o.1, openEntry := o.2,
                                acts := order, image := imageOf s st order f.trails, shiftEnd := s.now + tShift s st, shifted := false }
      (s.setStr st { (s.strOf st) with frame := some g }).incWrap (Fd.CHN_CNT_COUNT 1)

/-- Recompose every frame that loses one of the nibs of a list. -/
def recomposeAll (gone : List Nat) (s : State) : State :=
  forEach (s.chn.str.map Prod.fst) s (fun st t => recompose st gone t)

/-- The strings that are bound (R131). -/
def boundStrings (s : State) : List Nat := (List.range 32).filter (fun n => s.rd (Fd.CHN_SCFG2_LEN8 n) != 0)

/-- Every bound string owes its safe image (R143), and OE stands at its safe-state row value until it is latched (R145). -/
def imagesDue (s : State) : State :=
  forEach (boundStrings s) s (fun n t => t.setStr n { (t.strOf n) with safeDue := true, safeFrom := t.now, imaged := false, oe := false })

/-- The hardwired safe path (R142): pins to their safe-state row values, trailing edges cancelled, shifts and frames
abandoned; each string then owes its safe image (R143). -/
def outputsSafe (s : State) : State :=
  imagesDue { s with chn := { s.chn with
    pins := .safe, trail := [], idleHiZ := [], firstAct := [],
    str := s.chn.str.map (fun e => (e.1, { e.2 with frame := none, oe := false })) } }

/-- The pins with a channel output use: those of bound direct channels and the four output pins of bound strings (R131, R132). -/
def boundPins (s : State) : List Nat :=
  ((List.range 512).filter (fun c => s.rdB (Fd.CHN_DCFG_BOUND c))).map (fun c => s.rd (Fd.CHN_DCFG_PIN c)) ++
  (boundStrings s).flatMap (fun n => [s.rd (Fd.CHN_SCFG0_SCK_PIN n), s.rd (Fd.CHN_SCFG0_SDO_PIN n), s.rd (Fd.CHN_SCFG1_LAT_PIN n),
    s.rd (Fd.CHN_SCFG1_OE_PIN n)])

end Sys2Proof.Machine
end

