-- ==== Sys2Proof/Machine/Nib0.lean ====
section
/-! DEFINITION. Nibs below the scheduler: retraction (R106, R120), clearing (R119), and the queues' side of both. -/
namespace Sys2Proof.Machine

open Sys2Proof

/-- The words of a nib record (Table 5.6): mode code 1 armed, 2 locked, 3 armed in crossing mode. -/
def nibRecWords (n : Nib) : List W32 :=
  let st := match n.mode with | .armed => 1 | .locked => 2 | .crossing => 3
  let f := if n.mode = NibMode.crossing then n.phi else n.fire / 16
  [BitVec.ofNat 32 (n.queue + st * 2 ^ 16 + (n.fire % 16) * 2 ^ 18),
   BitVec.ofNat 32 (n.entry + n.retimes * 2 ^ 16), BitVec.ofNat 32 f, BitVec.ofNat 32 (f / 2 ^ 32)]

/-- Write the record of nib k to the engine tables. -/
def writeRec (k : Nat) (w : List W32) (s : State) : State :=
  let a := nth 0 w 1 ++ nth 0 w 0
  let b := nth 0 w 3 ++ nth 0 w 2
  writeWord 14 (slotNib k 2 / 2) b (writeWord 14 (slotNib k 0 / 2) a s)

/-- Put nib k and its record. -/
def putNib (k : Nat) (n : Nib) (s : State) : State :=
  writeRec k (nibRecWords n) { s with nib := { s.nib with nibs := mapPut s.nib.nibs k n } }

/-- Free nib k: its record reads STATE 0. -/
def freeNib (k : Nat) (s : State) : State :=
  writeRec k [] { s with nib := { s.nib with nibs := mapDel s.nib.nibs k } }

/-- Owe a descriptor restore of n nibs to queue q (R121). -/
def addRestore (l : List (Nat × Nat)) (q n : Nat) : List (Nat × Nat) :=
  if n = 0 then l
  else match l with
    | [] => [(q, n)]
    | e :: r => if e.1 = q then (q, e.2 + n) :: r else e :: addRestore r q n

/-- Queues of a list of nibs, each once. -/
def queuesOf (l : SMap Nib) : List Nat := l.foldl (fun a e => setIns a e.2.queue) []

/-- Take the unlocked nibs that satisfy `p` back to their queues: they leave the guard's view, the counter advances by
their number, their descriptor restores are owed, predictions of the same queues that wait to be armed are withdrawn, and
frames lose them (R120, R121, R139). -/
def retractWhere (p : Nib → Bool) (ctr : Fld) (s : State) : State :=
  let gone := s.nib.nibs.filter (fun e => p e.2 && e.2.mode != NibMode.locked)
  if gone.isEmpty then s
  else
    let qs := queuesOf gone
    let s1 := { s with
      nib := { s.nib with
        nibs := s.nib.nibs.filter (fun e => !(p e.2 && e.2.mode != NibMode.locked))
        arming := s.nib.arming.filter (fun n => n.queue ∉ qs)
        restores := qs.foldl (fun l q => addRestore l q (gone.filter (fun (e : Nat × Nib) => e.2.queue == q)).length) s.nib.restores }
      que := { s.que with dropPend := s.que.dropPend.filter (fun e => e.1 ∉ qs) } }
    recomposeAll (gone.map Prod.fst) (forEach (gone.map Prod.fst) (s1.addWrap ctr gone.length) (fun k t => writeRec k [] t))

/-- Predictions that wait to be armed are withdrawn, all or those of some queues, and with them a drop that waits for one of them. -/
def withdrawWhere (p : Nat → Bool) (s : State) : State :=
  let qs := (s.nib.arming.filter (fun n => p n.queue)).map Nib.queue
  { s with
    nib := { s.nib with arming := s.nib.arming.filter (fun n => !p n.queue) }
    que := { s.que with dropPend := s.que.dropPend.filter (fun e => e.1 ∉ qs) } }

/-- Retract a nib and every armed event behind it in its queue (R106). -/
def retractFrom (n : Nib) (ctr : Fld) (s : State) : State :=
  let k := ringPos s n
  retractWhere (fun m => m.queue == n.queue && decide (k ≤ ringPos s m)) ctr s

/-- The predictions of a queue that wait to be armed are withdrawn, and with them a drop that waits for one of them. -/
def withdraw (q : Nat) (s : State) : State :=
  { s with
    nib := { s.nib with arming := s.nib.arming.filter (fun n => n.queue != q) }
    que := { s.que with dropPend := mapDel s.que.dropPend q } }

/-- Retract every unlocked nib of a queue, cause command (Table 5.2); predictions waiting to be armed are withdrawn. -/
def retractQueue (q : Nat) (s : State) : State :=
  withdraw q (retractWhere (fun m => m.queue == q) (Fd.NIB_CNT_COUNT 10) s)

/-- The descriptor of a queue was read uncorrectable: the queue halts with cause 8 (R99, R102). Its unlocked nibs are
retracted and counted in RET_CMD; its descriptor cannot be restored. The rules give the entry index of this halt nowhere, and the
descriptor that holds CIDX cannot be read: the log shows index 0 (DESIGN CHOICE, log 75). -/
def haltCause8 (q : Nat) (s : State) : State :=
  if qState s q = 0 ∨ (qState s q = 3 ∧ qCause s q = 8) then s.set1 Fd.QUE_STAT_DESC_UE
  else
    let s1 := retractQueue q s
    let s2 := { s1 with nib := { s1.nib with restores := s1.nib.restores.filter (fun r => r.1 != q) } }
    haltLog q 8 0 ((setHaltAt q 8 0 s2).set1 Fd.QUE_STAT_DESC_UE)

/-- Read a descriptor and go on with it; an uncorrectable one halts its queue with cause 8 (Table 4.9). -/
def withDesc (q : Nat) (f : Desc → State → State) (s : State) : State :=
  match readDesc q s with
  | (some d, t) => f d t
  | (none, t) => haltCause8 q t

/-- Put a queue into a state with a cause: descriptor and halt map. -/
def qSetState (q st cause : Nat) (s : State) : State :=
  withDesc q (fun d t => setHalt q st cause (putDesc q { d with state := st, cause := cause } t)) s

/-- ARMED of a queue goes to 0 (R86). -/
def zeroArmed (q : Nat) (s : State) : State :=
  withDesc q (fun d t => if d.armed = 0 then t else putDesc q { d with armed := 0 } t) s

/-- Clear every nib, locked ones included; their events stay pending at their places (R119, R86). -/
def clearNibs (s : State) : State :=
  let qs := (queuesOf s.nib.nibs) ++ s.nib.restores.map Prod.fst
  let s1 := s.addWrap (Fd.NIB_CNT_COUNT 14) s.nib.nibs.length
  let s2 := { s1 with
    nib := { s1.nib with nibs := [], arming := [], restores := [], examined := [] }
    que := { s1.que with dropPend := [] } }
  forEach qs (forEach (s.nib.nibs.map Prod.fst) s2 (fun k t => writeRec k [] t)) zeroArmed

/-- A queue in use or with a waiting command has no nib and owes no restore: its ARMED is 0 (R98). -/
def queueDrained (s : State) (q : Nat) : Bool :=
  !(s.nib.nibs.any (fun e => e.2.queue == q)) && !(s.nib.restores.any (fun r => r.1 == q)) &&
  !(s.nib.arming.any (fun n => n.queue == q))

/-- A swap of the sector is locked: from the guard's answer until the swap tick no scrub write reaches its planes (R213). -/
def swapLocked (s : State) (k : Nat) : Bool :=
  s.nib.nibs.any (fun e => e.2.mode == NibMode.locked && e.2.ev.action == 7 && e.2.ev.channel == k)

end Sys2Proof.Machine
end

