-- ==== Sys2Proof/Machine/Flash.lean ====
section
/-! DEFINITION. Flash arrays: reads with the code of R252, page programs and unit erases with what is kept outside the array
(R194, R253, R259); the two users of the form, configuration flash and user flash. -/
namespace Sys2Proof.Machine

open Sys2Proof

/-- An erased word: its 72 bits read 1 (R252). -/
def wordErased : MemWord := BitVec.allOnes 72

/-- A flash array with every unit erased and every marker complete. -/
def flashZero : Flash := ⟨[], [], []⟩

/-- The stored word of an array. -/
def Flash.raw (f : Flash) (i : Nat) : MemWord := mapGet wordErased f.words i

/-- A stored word as the array delivers it: an erased word is clean and reads as ones (R252). -/
def flashDecode (w : MemWord) : EccOut := if w = wordErased then .clean (BitVec.allOnes 64) else eccDecode w

/-- Read word i of an array whose erase units hold `u` words: a unit whose erase has not completed reads uncorrectable
(R259). -/
def Flash.read (f : Flash) (u i : Nat) : EccOut := if i / u ∈ f.undone then .bad else flashDecode (f.raw i)

/-- The data of a word, none where it is uncorrectable. -/
def EccOut.data? : EccOut → Option Nat
  | .clean d => some d.toNat
  | .fixed d => some d.toNat
  | .bad => none

/-- The bytes of n words from word i, none where one is uncorrectable. -/
def Flash.bytes (f : Flash) (u : Nat) : Nat → Nat → Option (List Byte)
  | 0, _ => some []
  | n + 1, i =>
    match (f.read u i).data?, Flash.bytes f u n (i + 1) with
    | some d, some r => some (toBytes 8 d ++ r)
    | _, _ => none

/-- The bytes of n words from word i, an uncorrectable word as zeros. -/
def Flash.bytes0 (f : Flash) (u : Nat) : Nat → Nat → List Byte
  | 0, _ => []
  | n + 1, i => toBytes 8 (((f.read u i).data?).getD 0) ++ Flash.bytes0 f u n (i + 1)

/-- Some word of n from word i is uncorrectable. -/
def Flash.anyBad (f : Flash) (u n i : Nat) : Bool := (List.range n).any (fun k => ((f.read u (i + k)).data?).isNone)

/-- Program 64-bit words from word i on, with fresh check bits; programming clears no bit back to 1, and each page is
programmed once, so the words are what is programmed. -/
def Flash.program (f : Flash) (i : Nat) (l : List Nat) : Flash :=
  { f with words := (l.foldl (fun (a : SMap MemWord × Nat) d => (mapPut a.1 a.2 (eccEncode (BitVec.ofNat 64 d)), a.2 + 1))
      (f.words, i)).1 }

/-- Set a page's program flag: the first pulse of its program (R194, R253). -/
def Flash.flagPage (f : Flash) (p : Nat) : Flash := { f with flags := setIns f.flags p }

/-- The first step of an erase of unit b: its marker says that the erase has not completed (R194, R259). -/
def Flash.eraseBegin (f : Flash) (b : Nat) : Flash := { f with undone := setIns f.undone b }

/-- The end of an erase of unit b, of `u` words and `p` pages: every word erased, the page flags cleared, the marker set
right (R194, R259). -/
def Flash.eraseEnd (f : Flash) (u p b : Nat) : Flash :=
  { words := mapKeep (fun k => k / u != b) f.words
    flags := f.flags.filter (fun k => k / p != b)
    undone := setDel f.undone b }

/-- No page of unit b above page n of the array has its flag set, with `p` pages a unit. -/
def Flash.noneAbove (f : Flash) (p n : Nat) : Bool := !f.flags.any (fun k => k / p == n / p && decide (n < k))

/-- Page n may be programmed: its flag is clear and its unit is erased. -/
def Flash.pageFree (f : Flash) (p n : Nat) : Bool := !f.flags.contains n && !f.undone.contains (n / p)

/-- A unit is blank: every word erased, no flag, no marker (R256, BLANK_CHECK). -/
def Flash.blank (f : Flash) (u p b : Nat) : Bool :=
  !f.words.any (fun e => e.1 / u == b) && !f.flags.any (fun k => k / p == b) && !f.undone.contains b

/-- The 64-bit words of a page buffer of 32-bit words. -/
def bufWords (buf : SMap W32) (n : Nat) : List Nat :=
  (List.range n).map (fun k => (mapGet 0 buf (2 * k)).toNat + (mapGet 0 buf (2 * k + 1)).toNat * 2 ^ 32)

/-- A page cut short: its contents are undefined (R260); every word is a free value. -/
def Flash.scramble (f : Flash) (n page seed : Nat) : Flash :=
  { f with words := ((List.range n).foldl
      (fun m k => mapPut m (page * n + k) (BitVec.ofNat 72 ((Config.freeValue (seed + 2 * k)).toNat +
        (Config.freeValue (seed + 2 * k + 1)).toNat * 2 ^ 64))) f.words) }

/-- What a completed program pulse leaves in page `page` of n words: its status does not report that the page holds the data (R207, R258).
Whether it does is a free value, and so are the contents of a page that does not (log 77). -/
def Flash.pulsed (f : Flash) (n page seed : Nat) (l : List Nat) : Flash :=
  if (Config.freeValue seed).toNat % 2 = 0 then f.program (n * page) l else f.scramble n page (seed + 1)

/-- The data bytes of a configuration plane. -/
def Plane.bytes (p : Plane) : List Byte := p.words.flatMap (fun w => toBytes 8 (w.toNat % 2 ^ 64))

/-- Word i of a configuration plane as a read finds it: the words of a frame with a fault not repaired read uncorrectable. -/
def Plane.read (p : Plane) (i : Nat) : EccOut :=
  if p.bad.contains (i / 16) || p.repair.any (fun r => r.1 == i / 16) then .bad
  else eccDecode (nth 0 p.words i)

/-- The design of an active sector; where the sector is not active, one of no logic, which no rule reads. -/
def designOf (s : State) (k : Nat) : SectorDesign :=
  match mapGet? s.cfg.active k with
  | some p => Config.design p.bytes
  | none => default

/-- The flip-flops and the registers of a sector's math blocks and inkwell ports take their initial values: INIT of the plane's design, and
0 (R174, Table 9.5, Table 9.10). -/
def sectorInit (k : Nat) (data : List Byte) (s : State) : State :=
  let d := Config.design data
  { s with fab := { s.fab with
      ff := (List.range 24576).foldl (fun m j =>
        let b := d.bead (j / 2)
        mapSet false m (2 ^ 15 * k + j) (if j % 2 = 0 then b.ff0.init else b.ff1.init)) s.fab.ff
      math := mapKeep (fun b => b / 48 != k) s.fab.math
      ink := mapKeep (fun j => j / 72 != k) s.fab.ink } }

/-! ### User flash (R251 to R253) -/

/-- Words of a user-flash block, and pages of it. -/
def uflU : Nat := 32768
def uflP : Nat := 512

/-- The array serves one operation at a time (R253): a program or erase is under way. -/
def uflBusy (s : State) : Bool :=
  (match s.ufl.cmd with | some c => c.op == 1 || c.op == 2 | none => false) || s.rdB Fd.UFL_STAT_STORE_BUSY

/-- A read of word i of the main array, counted in UFL_ECNT; an uncorrectable read sets UE (R252, R259). -/
def uflRead (i : Nat) (s : State) : Option Nat × State :=
  match s.ufl.main.read uflU i with
  | .clean d => (some d.toNat, s)
  | .fixed d => (some d.toNat, s.incSat Fd.UFL_ECNT_CORRECTED)
  | .bad => (none, (s.incSat Fd.UFL_ECNT_UNCORR).set1 Fd.UFL_STAT_UE)

/-- Words of the main array are read by a hardware reader: each is counted (R252). -/
def uflTally (l : List Nat) (s : State) : State := l.foldl (fun t i => (uflRead i t).2) s

/-- Region i of the execute-only regions is in force and holds block b (R262). -/
def xoHolds (s : State) (b i : Nat) : Bool :=
  s.rdB (Fd.UFL_XO_VALID i) && decide (s.rd (Fd.UFL_XO_FIRST i) ≤ b) && decide (b ≤ s.rd (Fd.UFL_XO_LAST i))

/-- The execute-only region that holds block b (R262: regions in force do not overlap). -/
def xoRegion (s : State) (b : Nat) : Option Nat := (List.range 8).find? (xoHolds s b)

/-- Scribe pair p may fetch from a system address of user flash (R155, R263). -/
def xoFetch (s : State) (p addr : Nat) : Bool :=
  match xoRegion s ((addr - 0x02000000) / 0x40000) with
  | some i => (s.rd (Fd.UFL_XO_PAIRS i)).testBit p
  | none => false

end Sys2Proof.Machine
end

