-- ==== Sys2Proof/Machine/Mem.lean ====
section
/-! DEFINITION. The memory commands (R218 to R235): requester accesses, narrow writes, write-back and scrubbing, hard errors
and remap spares, alias and atomic ports, ownership, injection, inkwell collisions. -/
namespace Sys2Proof.Machine

open Sys2Proof

/-- A right of Table 16.7 is in force; in OPEN every right is (R374). -/
def hasRight (k : Nat) (s : State) : Bool := (s.rd Fd.DBG_RIGHTS_RIGHTS).testBit k

/-- The life-cycle state of the last vote: 0 OPEN, 1 CLOSED, 3 INVALID. -/
def lcsState (s : State) : Nat := s.rd Fd.LCS_STATE_STATE

/-- The modes of Table 1.7 in which scrubbing runs. -/
def scrubMode (s : State) : Bool :=
  s.mode == Md.standby || s.mode == Md.run || s.mode == Md.limited || s.mode == Md.safe

/-- Memory m is a large bank. -/
def isLarge (m : Nat) : Bool := decide (2 ≤ m) && decide (m ≤ 9)

/-! ### Inkwell ports (R181) -/

/-- A port of an inkwell: side 0 port A, side 1 port B, of the inkwell that holds word i. -/
def inkPort (s : State) (side i : Nat) : InkPort := mapGet inkPortZero s.fab.ink (2 * (i / 512) + side)

/-- Update a port of the inkwell that holds word i. -/
def updInk (side i : Nat) (f : InkPort → InkPort) (s : State) : State :=
  { s with fab := { s.fab with ink := mapSet inkPortZero s.fab.ink (2 * (i / 512) + side) (f (inkPort s side i)) } }

/-- What a port reads: data, CORR and UE (R181): an uncorrectable word is given as stored. -/
def inkRead (side i : Nat) (s : State) : InkOut × State :=
  let w := s.mcur (mkey 10 i)
  let r := readWord 10 i 0 s
  let o : InkOut := match eccDecode w with
    | .clean d => ⟨d, false, false⟩
    | .fixed d => ⟨d, true, false⟩
    | .bad => ⟨BitVec.ofNat 64 w.toNat, false, true⟩
  (o, updInk side i (fun p => { p with q := o, q2 := p.q, late := false }) r.2)

/-- A refused write of a port: UE in the cycle after it (R223). -/
def inkRefused (side i : Nat) (s : State) : State := updInk side i (fun p => { p with late := true }) s

/-- A large bank serves only its owner; internal requesters (0) are not subject to ownership (R233). -/
def memOwned (m master : Nat) (s : State) : Bool :=
  !isLarge m || master == 0 || s.rd (Fd.MEM_LB_OWN_OWNER (m - 2)) == master

/-- An access ends with an error response (R221): zero data, no write effect. -/
def errResp (master : Nat) (s : State) : State :=
  if master = 0 then s.retErr 2 else memStat Fd.MEM_STAT_ERR_RESP (s.retErr 2)

/-- A read by a requester: the word, none for an error response. An inkwell port gets an uncorrectable word's data as stored, its UE flag
stands beside it (R181, Table 10.2). -/
def memRead (m i master : Nat) (s : State) : Option W64 × State :=
  if memOwned m master s then
    if m = 10 then
      match inkRead 0 i s with
      | (o, t) => (some o.data, t.ret o.data.toNat)
    else
    match readWord m i master s with
    | (some d, t) => (some d, t.ret d.toNat)
    | (none, t) => (none, errResp master t)
  else (none, errResp master (memCap 4 m (memAddr m i) master s))

/-- A write of the bytes of a mask by a requester: whether it was taken. A refused write of an inkwell shows in its port's UE flag
(R223). -/
def memWrite (m i : Nat) (d : W64) (mask master : Nat) (s : State) : Bool × State :=
  if memOwned m master s then
    match anyWrite m i d mask master s with
    | (true, t) => (true, t.ret 0)
    | (false, t) => (false, if m = 10 then inkRefused 0 i (t.ret 0) else errResp master t)
  else (false, errResp master (memCap 4 m (memAddr m i) master s))

/-- An alias or atomic operation of Table 10.4 on a field of a word. -/
inductive LbOp where
  | bitSet | bitClear | add | swap
deriving DecidableEq, Repr

/-- The value an alias or atomic write stores (R234), modulo 2^size. -/
def LbOp.value (o : LbOp) (old d n : Nat) : Nat :=
  match o with
  | .bitSet => old ||| d
  | .bitClear => old ^^^ (old &&& d)
  | .add => (old + d) % 2 ^ n
  | .swap => d % 2 ^ n

/-- The operation keeps its old value for MEM_ATOM_OLD. -/
def LbOp.keeps (o : LbOp) : Bool := o == .add || o == .swap

/-- An alias or atomic write of `size` bytes at byte offset `off` of large bank b (R234, R235). -/
def lbWrite (o : LbOp) (b off size d master : Nat) (s : State) : State :=
  let m := b + 2
  let i := off / 8
  if !memOwned m master s then errResp master (memCap 4 m (memAddr m i) master s)
  else if size ≠ 4 ∧ size ≠ 8 then errResp master (memCap 5 m (memAddr m i) master s)
  else
    match readWord m i master s with
    | (none, t) => errResp master (memCap 6 m (memAddr m i) master (poisonWord m i t))
    | (some w, t) =>
      let lo := if size = 4 then 32 * (off / 4 % 2) else 0
      let hi := lo + 8 * size - 1
      let old := bits w.toNat hi lo
      let v := BitVec.ofNat 64 (setBits w.toNat hi lo (o.value old (d % 2 ^ (8 * size)) (8 * size)))
      let t1 := if size = 8 then writeWord m i v t else (touchWord m i t).mput (mkey m i) (eccEncode v)
      let t2 := if o.keeps then { t1 with mst := { t1.mst with atomOld := mapSet 0 t1.mst.atomOld master old } } else t1
      t2.ret 0

/-! ### Promotion (R226) -/

/-- Banks, entries per bank of a remap table: 0 large banks, 1 event store. -/
def remapValid (tbl bank i : Nat) : Fld := if tbl = 0 then Fd.MEM_LB_REMAP_VALID bank i else Fd.MEM_ES_REMAP_VALID bank i

/-- The field that names the remapped word or entry. -/
def remapName (tbl bank i : Nat) : Fld := if tbl = 0 then Fd.MEM_LB_REMAP_WORD bank i else Fd.MEM_ES_REMAP_ENTRY bank i

/-- The words a remap entry covers: one of a large bank, both of an event-store entry. -/
def remapKeys (tbl bank word : Nat) : List Nat :=
  if tbl = 0 then [mkey (bank + 2) word] else [mkey 0 (2 * (4 * word + bank)), mkey 0 (2 * (4 * word + bank) + 1)]

/-- The word as it goes into a spare: corrected, or poisoned when it is uncorrectable. -/
def spareCopy (w : MemWord) : MemWord :=
  match eccDecode w with
  | .clean d => eccEncode d
  | .fixed d => eccEncode d
  | .bad => eccPoison (BitVec.ofNat 64 w.toNat)

/-- A word leaves the save buffer of a slice, which yields (R357). -/
def unborrow (k : Nat) (s : State) : State :=
  match borrowed? s.bst.slice k with
  | some t => match mapGet? s.bst.slice t with
    | some x => { s with bst := { s.bst with slice := mapPut s.bst.slice t { x with saved := mapDel x.saved k, yield_ := true } } }
    | none => s
  | none => s

/-- Promote the words of a remap entry to its spare and make the entry VALID. -/
def promote (tbl bank i word : Nat) (s : State) : State :=
  let s1 := forEach (remapKeys tbl bank word) s (fun k t =>
    let w := spareCopy (t.mget k)
    let u := unborrow k t
    { u with mst := { u.mst with spares := mapPut u.mst.spares k w } })
  (s1.wr (remapName tbl bank i) word).set1 (remapValid tbl bank i)

/-- Release a remap entry: the spare is copied back into the array. -/
def remapRelease (tbl bank i : Nat) (s : State) : State :=
  if s.rdB (remapValid tbl bank i) then
    let s1 := forEach (remapKeys tbl bank (s.rd (remapName tbl bank i))) s (fun k t =>
      match mapGet? t.mst.spares k with
      | some w => { t with mst := { t.mst with spares := mapDel t.mst.spares k }, mem := mapSet 0 t.mem k w }
      | none => t)
    s1.clr (remapValid tbl bank i)
  else s

/-- A firmware write of VALID 1: the named word is promoted; an entry that is VALID keeps its word. -/
def remapPromote (tbl bank i word : Nat) (s : State) : State :=
  if s.rdB (remapValid tbl bank i) then s else promote tbl bank i word s

/-- POISONED of a remap entry: the spare holds a word that reads uncorrectable. -/
def remapPoisoned (tbl bank i : Nat) (s : State) : Bool :=
  s.rdB (remapValid tbl bank i) &&
  (remapKeys tbl bank (s.rd (remapName tbl bank i))).any (fun k => match eccDecode (s.mget k) with | .bad => true | _ => false)

/-- The remap table and bank of a word, with its name in the entry: none where the memory has no remap entries. -/
def remapSite (m i : Nat) : Option (Nat × Nat × Nat) :=
  if m = 0 then some (1, (i / 2) % 4, i / 8)
  else if isLarge m then some (0, m - 2, i)
  else none

/-- Promote a hard word into the lowest free entry of its bank; answers whether it was promoted. -/
def autoPromote (m i : Nat) (s : State) : Bool × State :=
  match remapSite m i with
  | none => (false, s)
  | some (tbl, bank, word) =>
    if !s.rdB Fd.MEM_HARD_CFG_AUTO_REMAP || (mapGet? s.mst.spares (mkey m i)).isSome then (false, s)
    else match (List.range (if tbl = 0 then 4 else 2)).find? (fun e => !s.rdB (remapValid tbl bank e)) with
      | some e => (true, promote tbl bank e word s)
      | none => (false, memStat Fd.MEM_STAT_REMAP_FULL s)

/-! ### Write-back, history, scrubbing (R224 to R227) -/

/-- MEM_HARD_CFG.THRESH: 0 and 1 act as 2. -/
def hardThresh (s : State) : Nat := max 2 (s.rd Fd.MEM_HARD_CFG_THRESH)

/-- The word has become a hard error (R225). -/
def hardError (m i : Nat) (s : State) : State :=
  let s1 := memCap 3 m (memAddr m i) 0 (memStat Fd.MEM_STAT_HARD (s.incSat (Fd.MEM_ECNT_HARD m)))
  let r := autoPromote m i s1
  logReq Blk.mem 0x01 (memAddr m i) m (b2n r.1) r.2

/-- Enter a write-back in the memory's correction history: most recently used first, at most 8 entries (R225). -/
def histEnter (m i : Nat) (s : State) : State :=
  let old := s.mst.history.find? (fun h => h.mem == m && h.idx == i)
  let n := match old with | some h => h.count + 1 | none => 1
  let mine := (s.mst.history.filter (fun h => h.mem == m && h.idx != i)).take 7
  let rest := s.mst.history.filter (fun h => h.mem != m)
  let s1 := { s with mst := { s.mst with history := ⟨m, i, n⟩ :: mine ++ rest } }
  if n = hardThresh s then hardError m i s1 else s1

/-- The oldest queued corrected word of memory m is written back (R224). -/
def writeBack (m : Nat) (s : State) : State :=
  match s.mst.writeBack.find? (fun e => e.1 == m) with
  | none => s
  | some e =>
    let s1 := { s with mst := { s.mst with writeBack := s.mst.writeBack.filter (fun x => x != e) } }
    match eccDecode (s1.mget (mkey m e.2)) with
    | .fixed d => histEnter m e.2 (s1.mput (mkey m e.2) (eccEncode d))
    | .clean d => histEnter m e.2 (s1.mput (mkey m e.2) (eccEncode d))
    | .bad => s1

/-- A memory of Table 10.1 that a scrubber covers. -/
def scrubbed (m : Nat) : Bool := decide (m ≤ 14)

/-- A scrubber reaches word i of memory m: an inkwell's runs only where the image of its sector enables it, and stands while port B's clock
is stopped (R227). -/
def scrubReaches (m i : Nat) (s : State) : Bool :=
  let k := i / 512 / 36
  let d := designOf s k
  let j := i / 512 % 36
  m != 10 || (s.rdB (Fd.CFG_SECT_STAT_ACTIVE k) && d.inkScrub j && (s.rd Fd.FAB_CLK_STAT_NET_RUN).testBit (d.ink (2 * j + 1)).net)

/-- The scrubbers and the patrol run: in the modes of Table 1.7 and, of a sleep entry, up to AP2 (R326, Table 14.6). -/
def scrubRuns (s : State) : Bool := scrubMode s || (s.mode == Md.sleep && s.pwr.sleep == .entry 2)

/-- A scrubber reads the next word of its pass (R227), as its port sees it: a word a merge buffer holds reads clean; a correctable word is corrected in the next slot, an uncorrectable one
is poisoned. -/
def scrubRead (m : Nat) (s : State) : State :=
  if scrubRuns s && scrubbed m then
    let i := mapGet 0 s.mst.scrubPos m
    let nextPos := if i + 1 < memWords m then i + 1 else 0
    let s1 := { s with mst := { s.mst with scrubPos := mapSet 0 s.mst.scrubPos m nextPos } }
    if !scrubReaches m i s then s1 else
    match eccDecode (s1.mcur (mkey m i)) with
    | .clean _ => s1
    | .fixed d =>
      let s2 := memCap 1 m (memAddr m i) 0 ((s1.set1 Fd.MEM_STAT_CE).incSat (Fd.MEM_ECNT_CORRECTED m))
      { s2 with mst := { s2.mst with scrubFix := mapPut s2.mst.scrubFix m ⟨m, i, eccEncode d⟩ } }
    | .bad => poisonWord m i (noteUE m i 0 s1)
  else s

/-- A scrubber's correction is stored. -/
def scrubPut (e : Nat × ScrubFix) (s : State) : State := s.mput (mkey e.2.mem e.2.idx) e.2.word

/-- Each scrubber writes the corrected word it holds, in the slot after its read (R227). -/
def scrubWrite (s : State) : State :=
  let t := forEach s.mst.scrubFix s scrubPut
  { t with mst := { t.mst with scrubFix := [] } }

/-- A pass of memory m overruns its period (R227): input 19. -/
def scrubLate (m : Nat) (s : State) : State := safRaise 19 (s.orF Fd.MEM_SCRUB_LATE_LATE (2 ^ m))

/-! ### Ownership and injection (R231, R233) -/

/-- A write of MEM_LB_OWN[b].OWNER by a master (R233). -/
def ownerChange (b owner master : Nat) (s : State) : State :=
  if master = s.rd (Fd.MEM_LB_OWN_OWNER b) ∨ master = 0x01 ∨ master = 0x03 then
    let s1 := s.set1 (Fd.MEM_LB_OWN_PENDING b)
    { s1 with mst := { s1.mst with ownPend := mapPut s1.mst.ownPend b (owner % 256) } }
  else s.set1 Fd.MEM_STAT_OWN_REFUSED

/-- The accepted accesses of the old owner have completed: the new owner takes effect. -/
def ownerDone (b : Nat) (s : State) : State :=
  match mapGet? s.mst.ownPend b with
  | none => s
  | some o =>
    let s1 := { s with mst := { s.mst with ownPend := mapDel s.mst.ownPend b } }
    (s1.wr (Fd.MEM_LB_OWN_OWNER b) o).clr (Fd.MEM_LB_OWN_PENDING b)

/-- Injections are accepted in OPEN, and in CLOSED with the full BIST control right. -/
def injAllowed (s : State) : Bool := lcsState s == 0 || (lcsState s == 1 && hasRight 5 s)

/-- A refused injection write (R231): BST_STAT shows it like every write of Table 15.6 that the state refuses (R362). -/
def injRefuse (s : State) : State :=
  ((s.set1 Fd.MEM_STAT_INJ_REFUSED).set1 Fd.BST_STAT_CFG_REFUSED).wr Fd.BST_STAT_STATUS St.access

/-- Arm an injection in a memory of Table 10.1. -/
def memInjArm (addr m mask : Nat) (s : State) : State :=
  if injAllowed s then
    (((s.wr Fd.MEM_INJ_ADDR addr).wr Fd.MEM_INJ_MEMID m).wr Fd.MEM_INJ_MASK mask).set1 Fd.MEM_INJ_ARMED
  else injRefuse s

/-! ### Inkwell collisions (R232) -/

/-- Two colliding writes of one inkwell word overlap in bits with different data: port B's write is dropped (Table 10.3). -/
def inkClash (da ma db mb : Nat) : Bool := (da &&& (ma &&& mb)) != (db &&& (ma &&& mb))

/-- A colliding write of port B is dropped in full: counted and captured, and port B pulses COLL (Table 10.3). -/
def inkDrop (i : Nat) (s : State) : State :=
  let s0 := updInk 1 i (fun p => { p with coll := true }) s
  let s1 := (s0.set1 Fd.MEM_STAT_INK_COLL).incSat Fd.MEM_INK_CNT_COUNT
  if s1.rdB Fd.MEM_INK_CAP_VALID then s1
  else (((s1.wr Fd.MEM_INK_CAP_INKWELL (i / 512)).wr Fd.MEM_INK_CAP_WORD (i % 512)).wr Fd.MEM_INK_CAP_TIME s1.now).set1
    Fd.MEM_INK_CAP_VALID

/-- A write of the bits of a mask through one port of an inkwell (R181): a whole word directly, less through the port's merge buffer; a
refused one raises the port's UE (R223). -/
def inkWrite (side i : Nat) (d mask : W64) (s : State) : State :=
  if mask = 0 then s
  else if mask = BitVec.allOnes 64 then writeWord 10 i d s
  else match narrowBits side 10 i d mask 0 s with
    | (true, t) => t
    | (false, t) => inkRefused side i t

/-- Port A and port B write bits of one inkwell word at colliding edges (Table 10.3). -/
def inkWrites (i : Nat) (da ma db mb : W64) (s : State) : State :=
  if inkClash da.toNat ma.toNat db.toNat mb.toNat then inkDrop i (inkWrite 0 i da ma s)
  else inkWrite 1 i db mb (inkWrite 0 i da ma s)

end Sys2Proof.Machine
end

