-- ==== Sys2Proof/Machine/Rs.lean ====
section
/-! DEFINITION. The Reed-Solomon code RS(36,32) of the SDRAM lines (R238, R239): field arithmetic, check symbols,
syndromes, and the decoder. A codeword is a number whose byte k is symbol k. -/
namespace Sys2Proof.Machine

/-- n steps of the product in GF(2^8), field polynomial x^8 + x^4 + x^3 + x^2 + 1. -/
def gfMulAux : Nat → Nat → Nat → Nat → Nat
  | 0, _, _, acc => acc
  | n + 1, a, b, acc =>
    gfMulAux n (if 128 ≤ a then (a * 2) ^^^ 0x11D else a * 2) (b / 2) (if b % 2 = 1 then acc ^^^ a else acc)

/-- Product in GF(2^8). -/
def gfMul (a b : Nat) : Nat := gfMulAux 8 a b 0

/-- Power in GF(2^8). -/
def gfPow (a : Nat) : Nat → Nat
  | 0 => 1
  | n + 1 => gfMul (gfPow a n) a

/-- α to a power: α = 0x02, of order 255. -/
def gfAlpha (n : Nat) : Nat := gfPow 2 (n % 255)

/-- Inverse in GF(2^8): a^254 by squares, 254 = 2 + 4 + 8 + 16 + 32 + 64 + 128. -/
def gfInv (a : Nat) : Nat :=
  let b := gfMul a a
  let c := gfMul b b
  let d := gfMul c c
  let e := gfMul d d
  let f := gfMul e e
  let g := gfMul f f
  gfMul (gfMul (gfMul b c) (gfMul d e)) (gfMul (gfMul f g) (gfMul g g))

/-- Symbol k of a codeword. -/
def symOf (cw k : Nat) : Nat := (cw / 2 ^ (8 * k)) % 256

/-- XOR a value into symbol k. -/
def symXor (cw k v : Nat) : Nat := cw ^^^ (v * 2 ^ (8 * k))

/-- Horner evaluation of the first n symbols at x, symbol 0 the highest coefficient. -/
def rsEval (cw x : Nat) : Nat → Nat
  | 0 => 0
  | n + 1 => gfMul (rsEval cw x n) x ^^^ symOf cw n

/-- Syndromes S_0 to S_3 of a codeword. -/
def rsSyn (cw : Nat) : List Nat := (List.range 4).map (fun j => rsEval cw (gfAlpha j) 36)

/-- Shift one data symbol into the remainder register (four symbols, highest first in byte 3): g(x) = x^4 + 15x^3 + 54x^2 +
120x + 64 by its coefficients. -/
def rsStep (r d : Nat) : Nat :=
  let f := (r / 2 ^ 24) % 256 ^^^ d
  ((r % 2 ^ 24) * 256) ^^^ (gfMul f 15 * 2 ^ 24 + gfMul f 54 * 2 ^ 16 + gfMul f 120 * 2 ^ 8 + gfMul f 64)

/-- Remainder of the data symbols of a codeword. -/
def rsRem (cw : Nat) : Nat → Nat
  | 0 => 0
  | n + 1 => rsStep (rsRem cw n) (symOf cw n)

/-- The codeword of 32 data bytes: check symbols 32 to 35 are the coefficients of x^3 to x^0 of the remainder (R238). -/
def rsEncode (d : Nat) : Nat :=
  let m := d % 2 ^ 256
  let r := rsRem m 32
  m + ((r / 2 ^ 24) % 256) * 2 ^ 256 + ((r / 2 ^ 16) % 256) * 2 ^ 264 + ((r / 2 ^ 8) % 256) * 2 ^ 272 + (r % 256) * 2 ^ 280

/-- The poison pattern: 0xFF in symbols 32 and 34 (R239). -/
def rsPoison (cw : Nat) : Nat := symXor (symXor cw 32 0xFF) 34 0xFF

/-- Locator of symbol k. -/
def rsLoc (k : Nat) : Nat := gfAlpha (35 - k)

/-- Error values e, f at symbols a and b that give S_0 and S_1. -/
def rsPair (syn : List Nat) (a b : Nat) : Nat × Nat :=
  let x := rsLoc a
  let y := rsLoc b
  let s0 := nth 0 syn 0
  let f := gfMul (nth 0 syn 1 ^^^ gfMul s0 x) (gfInv (x ^^^ y))
  (s0 ^^^ f, f)

/-- The contribution of an error value v at symbol k to S_j. -/
def rsTerm (k v j : Nat) : Nat := gfMul v (gfPow (rsLoc k) j)

/-- Errors (symbol and value) that explain the syndromes. -/
def rsExplains (syn : List Nat) (es : List (Nat × Nat)) : Bool :=
  (List.range 4).all (fun j => nth 0 syn j == es.foldl (fun a e => a ^^^ rsTerm e.1 e.2 j) 0)

/-- Errors in the two symbols of device d, where they explain the syndromes. -/
def rsDevice (syn : List Nat) (d : Nat) : Option (List (Nat × Nat)) :=
  let p := rsPair syn (2 * d) (2 * d + 1)
  let es := [(2 * d, p.1), (2 * d + 1, p.2)]
  if rsExplains syn es then some es else none

/-- Errors in the two erased symbols of device m and in symbol k, where they explain the syndromes: the value at k is taken
from S_2 and S_1, S_0 with the erasure locator polynomial. -/
def rsErase (syn : List Nat) (m k : Nat) : Option (List (Nat × Nat)) :=
  let a := rsLoc (2 * m)
  let b := rsLoc (2 * m + 1)
  let x := rsLoc k
  let t := nth 0 syn 2 ^^^ gfMul (a ^^^ b) (nth 0 syn 1) ^^^ gfMul (gfMul a b) (nth 0 syn 0)
  let v := gfMul t (gfInv (gfMul (x ^^^ a) (x ^^^ b)))
  let rest := (List.range 4).map (fun j => nth 0 syn j ^^^ rsTerm k v j)
  let p := rsPair rest (2 * m) (2 * m + 1)
  let es := [(2 * m, p.1), (2 * m + 1, p.2), (k, v)]
  if rsExplains syn es then some es else none

/-- The first answer of a search. -/
def firstSome {α : Type} (f : Nat → Option α) : List Nat → Option α
  | [] => none
  | k :: r => match f k with
    | some x => some x
    | none => firstSome f r

/-- The outcome of decoding a codeword. -/
inductive CwOut where
  | clean
  /-- Corrected: the codeword, and the symbols that were in error. -/
  | fixed (cw : Nat) (syms : List Nat)
  | poison
  | bad
deriving DecidableEq, Repr

/-- Syndromes of the poison pattern. -/
def rsPoisonSyn : List Nat := rsSyn (rsPoison 0)

/-- Decode a codeword of a rank whose marked device is `mark` (R239). -/
def rsDecode (mark : Option Nat) (cw : Nat) : CwOut :=
  let syn := rsSyn cw
  if syn = [0, 0, 0, 0] then .clean
  else if syn = rsPoisonSyn then .poison
  else
    let found := match mark with
      | none => firstSome (rsDevice syn) (List.range 18)
      | some m => match rsDevice syn m with
        | some es => some es
        | none => firstSome (rsErase syn m) ((List.range 36).filter (fun k => k / 2 != m))
    match found with
    | none => .bad
    | some es =>
      let real := es.filter (fun e => e.2 != 0)
      .fixed (real.foldl (fun c e => symXor c e.1 e.2) cw) (real.map Prod.fst)

end Sys2Proof.Machine
end

