-- ==== Sys2Proof/Machine/Xmc.lean ====
section
/-! DEFINITION. The SDRAM controller (R236 to R245): line reads and writes through the code, device counts and marks, the
patrol, spare lines, training and fill. -/
namespace Sys2Proof.Machine

open Sys2Proof

/-- Capacity in lines (R237): CAP_GIB. -/
def xmcLines (s : State) : Nat := s.rd Fd.XMC_STAT_CAP_GIB * 2 ^ 24

/-- The controller is READY. -/
def xmcReady (s : State) : Bool := s.rd Fd.XMC_STAT_STATE == 2

/-- SDRAM is accessed in the modes of Table 1.7. -/
def xmcMode (s : State) : Bool := scrubMode s

/-- STATE changes: source 389 (Table 13.1). -/
def xmcState (st : Nat) (s : State) : State :=
  if s.rd Fd.XMC_STAT_STATE = st then s
  else
    let s1 := irqEvent 389 (s.wr Fd.XMC_STAT_STATE st)
    if st = 4 then safRaise 22 s1 else s1

/-- A line as the array holds it, undefined when nothing has written it (R245). -/
def lineCell (s : State) (l : Nat) : BitVec 576 := (mapGet? s.xmc.lines l).getD (Config.sdramLine s.xmc.gen l)

/-- The spare that serves a line (R243). -/
def spareOf (s : State) (l : Nat) : Option Nat :=
  (List.range 16).find? (fun i => s.rdB (Fd.XMC_REMAP_VALID i) && s.rd (Fd.XMC_REMAP_LINE i) == l)

/-- Codeword c of a stored line. -/
def cwOf (x : BitVec 576) (c : Nat) : Nat := (x.toNat / 2 ^ (288 * c)) % 2 ^ 288

/-- A stored line of two codewords. -/
def lineOf (a b : Nat) : BitVec 576 := BitVec.ofNat 576 (a % 2 ^ 288 + (b % 2 ^ 288) * 2 ^ 288)

/-- Write codeword c's data into spare i, as four words of memory 15; poisoned, each word is stored poisoned (R220, R243). -/
def sparePut (i c d : Nat) (poison : Bool) (s : State) : State :=
  forEach (List.range 4) s (fun k t =>
    let w := BitVec.ofNat 64 (d / 2 ^ (64 * k))
    let x := spareWord i + 4 * c + k
    if poison then (touchWord 15 x t).mput (mkey 15 x) (eccPoison w) else writeWord 15 x w t)

/-- Codeword c's data in spare i as its words stand, and whether a word of it reads uncorrectable. -/
def spareRaw (s : State) (i c : Nat) : Nat × Bool :=
  (List.range 4).foldl (fun a k =>
    let w := s.mcur (mkey 15 (spareWord i + 4 * c + k))
    match eccDecode w with
    | .clean d => (a.1 + d.toNat * 2 ^ (64 * k), a.2)
    | .fixed d => (a.1 + d.toNat * 2 ^ (64 * k), a.2)
    | .bad => (a.1 + w.toNat % 2 ^ 64 * 2 ^ (64 * k), true)) (0, false)

/-- Codeword c as it goes from spare i back into the array: a poisoned one stays poisoned (R226). -/
def spareCw (s : State) (i c : Nat) : Nat :=
  let r := spareRaw s i c
  if r.2 then rsPoison (rsEncode r.1) else rsEncode r.1

/-- A line as stored: in its spare, or in the array (R226, R243). -/
def lineGet (s : State) (l : Nat) : BitVec 576 :=
  match spareOf s l with
  | some i => lineOf (spareCw s i 0) (spareCw s i 1)
  | none => lineCell s l

/-- A line of codewords goes into spare i: corrected, or poisoned where uncorrectable (R226, R243). -/
def spareFill (i : Nat) (mark : Option Nat) (x : BitVec 576) (s : State) : State :=
  forEach [0, 1] s (fun c t => match rsDecode mark (cwOf x c) with
    | .clean => sparePut i c (cwOf x c % 2 ^ 256) false t
    | .fixed w _ => sparePut i c (w % 2 ^ 256) false t
    | _ => sparePut i c (cwOf x c % 2 ^ 256) true t)

/-- Store a line: in its spare, or in the array. -/
def linePut (l : Nat) (x : BitVec 576) (s : State) : State :=
  match spareOf s l with
  | some i => spareFill i none x s
  | none => { s with xmc := { s.xmc with lines := mapPut s.xmc.lines l x } }

/-- Rank of a line (R237): the bit above the row, with 2 ranks. -/
def rankOf (s : State) (l : Nat) : Nat := if s.rd Fd.XMC_CFG_RANKS = 2 then (if xmcLines s / 2 ≤ l then 1 else 0) else 0

/-- The marked device of a rank. -/
def markOf (s : State) (r : Nat) : Option Nat :=
  if s.rdB (Fd.XMC_MARK_VALID r) then some (s.rd (Fd.XMC_MARK_DEVICE r)) else none

/-- Capture in XMC_ERR_CAP, by the rule of MEM_ERR_CAP. -/
def xmcCap (kind l c dev src : Nat) (s : State) : State :=
  if s.rd Fd.XMC_ERR_CAP_VALID = 0 ∨ (s.rd Fd.XMC_ERR_CAP_KIND = 1 ∧ 2 ≤ kind) then
    ((((s.wr Fd.XMC_ERR_CAP_CW (2 * l + c)).wr Fd.XMC_ERR_CAP_DEVICE dev).wr Fd.XMC_ERR_CAP_KIND kind).wr
      Fd.XMC_ERR_CAP_SOURCE src).set1 Fd.XMC_ERR_CAP_VALID
  else s

/-- Devices of a list of symbols, each once. -/
def devsOf (syms : List Nat) : List Nat := syms.foldl (fun a k => setIns a (k / 2)) []

/-- XMC_MARK_CFG.THRESH: 0 acts as 1. -/
def markThresh (s : State) : Nat := max 1 (s.rd Fd.XMC_MARK_CFG_THRESH)

/-- Count a correction in device d of rank r, and mark the device when its pass count reaches the threshold (R240). -/
def devCount (r d : Nat) (s : State) : State :=
  let s1 := (s.incSat (Fd.XMC_DEV_CNT_COUNT r d)).incSat (Fd.XMC_DEV_CNT_PASS_COUNT r d)
  let n := s1.rd (Fd.XMC_DEV_CNT_PASS_COUNT r d)
  if markThresh s1 ≤ n ∧ s1.rdB Fd.XMC_CTRL_MARK_AUTO ∧ !s1.rdB (Fd.XMC_MARK_VALID r) then
    let s2 := ((s1.wr (Fd.XMC_MARK_DEVICE r) d).set1 (Fd.XMC_MARK_AUTO r)).set1 (Fd.XMC_MARK_VALID r)
    safRaise 20 (irqEvent 389 (logReq Blk.xmc 0x01 r d n s2))
  else s1

/-- A slice of a target is asked to yield (R357). -/
def bstYield (t : Nat) (s : State) : State :=
  match mapGet? s.bst.slice t with
  | some x => { s with bst := { s.bst with slice := mapPut s.bst.slice t { x with yield_ := true } } }
  | none => s

/-- A promotion of line l into spare i makes a slice that marches either of them yield (R243, R357). -/
def spareYield (i l : Nat) (s : State) : State :=
  match mapGet? s.bst.slice 17 with
  | some x => if x.region = i ∨ x.line = some l then bstYield 17 s else s
  | none => s

/-- Promote a hard line into the lowest free spare; answers whether it was promoted (R243). -/
def linePromote (l : Nat) (s : State) : Bool × State :=
  if !s.rdB Fd.MEM_HARD_CFG_AUTO_REMAP || (spareOf s l).isSome then (false, s)
  else match (List.range 16).find? (fun i => !s.rdB (Fd.XMC_REMAP_VALID i)) with
    | none => (false, memStat Fd.MEM_STAT_REMAP_FULL s)
    | some i =>
      let s1 := spareYield i l (spareFill i (markOf s (rankOf s l)) (lineCell s l) s)
      (true, (s1.wr (Fd.XMC_REMAP_LINE i) l).set1 (Fd.XMC_REMAP_VALID i))

/-- Enter a line corrected for a source in the correction history of 16 lines, and take a hard error, captured with that source and the
corrected device (R225, R243). -/
def lineHist (l c dev src : Nat) (s : State) : State :=
  let n := match s.xmc.history.find? (fun h => h.line == l) with | some h => h.count + 1 | none => 1
  let s1 := { s with xmc := { s.xmc with
    history := ⟨l, n⟩ :: (s.xmc.history.filter (fun h => h.line != l)).take 15 } }
  if n = hardThresh s then
    let s2 := xmcCap 4 l c dev src (s1.incSat Fd.XMC_ECNT_HARD)
    let r := linePromote l s2
    logReq Blk.xmc 0x02 (l % 2 ^ 32) (l / 2 ^ 32) (b2n r.1) r.2
  else s1

/-- A correction touches both symbols of one device. -/
def bothSyms (syms : List Nat) : Bool := syms.any (fun k => k % 2 == 0 && syms.contains (k + 1))

/-- Codeword c of line l as spare i serves it: its data (none where a word of it is uncorrectable), the codeword it stands for, and what
the reads of memory 15 leave behind (R221, R243). -/
def cwSpare (i l c src : Nat) (s : State) : Option Nat × Nat × State :=
  let raw := spareRaw s i c
  let t := forEach (List.range 4) s (fun k u => (readWord 15 (spareWord i + 4 * c + k) 0 u).2)
  if raw.2 then (none, rsPoison (rsEncode raw.1), safRaise 21 (xmcCap 3 l c 31 src (t.incSat Fd.XMC_ECNT_UNCORR)))
  else (some raw.1, rsEncode raw.1, t)

/-- Decode codeword c of line l of a rank with a marked device, for a source: its data (none where uncorrectable), the codeword to write back, and what the
decoding leaves behind (R239, R240, R243). -/
def cwArray (mark : Option Nat) (l c src : Nat) (s : State) : Option Nat × Nat × State :=
  let cw := cwOf (lineCell s l) c
  let r := rankOf s l
  match rsDecode mark cw with
  | .clean => (some (cw % 2 ^ 256), cw, s)
  | .fixed w syms =>
    let devs := devsOf syms
    let dev := match devs with | [d] => d | _ => 31
    let s1 := xmcCap 1 l c dev src (s.incSat Fd.XMC_ECNT_CORRECTED)
    let s2 := forEach devs s1 (devCount r)
    (some (w % 2 ^ 256), w, if bothSyms syms then s2 else lineHist l c dev src s2)
  | .poison => (none, cw, safRaise 21 (xmcCap 3 l c 31 src (s.incSat Fd.XMC_ECNT_UNCORR)))
  | .bad => (none, rsPoison (rsEncode cw), safRaise 21 (xmcCap 2 l c 31 src (s.incSat Fd.XMC_ECNT_UNCORR)))

/-- A codeword of a line, from its spare or the array. -/
def cwRead (mark : Option Nat) (l c src : Nat) (s : State) : Option Nat × Nat × State :=
  match spareOf s l with
  | some i => cwSpare i l c src s
  | none => cwArray mark l c src s

/-- Read a line of the array: both codewords' data, and the line as it is written back (R239, R242). A mark made by it applies from the
next line (R240). -/
def lineArray (l src : Nat) (s : State) : Option Nat × Option Nat × BitVec 576 × State :=
  let mark := markOf s (rankOf s l)
  let a := cwArray mark l 0 src s
  let b := cwArray mark l 1 src a.2.2
  (a.1, b.1, lineOf a.2.1 b.2.1, b.2.2)

/-- Read a line, from its spare or the array. -/
def lineRead (l src : Nat) (s : State) : Option Nat × Option Nat × BitVec 576 × State :=
  let mark := markOf s (rankOf s l)
  let a := cwRead mark l 0 src s
  let b := cwRead mark l 1 src a.2.2
  (a.1, b.1, lineOf a.2.1 b.2.1, b.2.2)

/-- An SDRAM access can be served: mode, capacity and READY. -/
def lineOk (l : Nat) (s : State) : Bool := xmcMode s && xmcReady s && decide (l < xmcLines s)

/-- XOR 0x5A into both symbols of device d of codeword 0 (R231). -/
def injDev (d : Nat) (x : BitVec 576) : BitVec 576 :=
  lineOf (symXor (symXor (cwOf x 0) (2 * d) 0x5A) (2 * d + 1) 0x5A) (cwOf x 1)

/-- Store a line, ending its correction history (R225). -/
def lineStore (l : Nat) (x : BitVec 576) (s : State) : State :=
  let s1 := { s with xmc := { s.xmc with history := s.xmc.history.filter (fun h => h.line != l) } }
  linePut l x s1

/-- A full-line write, with an armed injection applied (R231, R241). -/
def lineFull (l d : Nat) (s : State) : State :=
  let x := lineOf (rsEncode (d % 2 ^ 256)) (rsEncode (d / 2 ^ 256 % 2 ^ 256))
  if s.rdB Fd.XMC_INJ_ARMED && s.rd Fd.XMC_INJ_LINE == l then
    let y := injDev (s.rd Fd.XMC_INJ_DEV_A) x
    let z := if s.rdB Fd.XMC_INJ_TWO then injDev (s.rd Fd.XMC_INJ_DEV_B) y else y
    lineStore l z (s.clr Fd.XMC_INJ_ARMED)
  else lineStore l x s

/-- Write the bytes of a 64-bit mask of line l from d (512 bits); answers whether the write was taken (R241). -/
def lineWrite (l d mask src : Nat) (s : State) : Bool × State :=
  if mask % 2 ^ 64 = 2 ^ 64 - 1 then (true, lineFull l d s)
  else
    let r := lineRead l src (s.incSat Fd.XMC_RMW_CNT_RMW)
    let s1 := r.2.2.2
    let ma := mask % 2 ^ 32
    let mb := mask / 2 ^ 32 % 2 ^ 32
    let x := r.2.2.1
    let part := fun (m : Nat) (o : Option Nat) => m != 0 && m != 2 ^ 32 - 1 && o.isNone
    if part ma r.1 || part mb r.2.1 then
      (false, xmcCap 5 l 0 31 src ((linePut l x s1).incSat Fd.XMC_RMW_CNT_REFUSED))
    else
      let one := fun (m : Nat) (o : Option Nat) (c : Nat) =>
        if m = 0 then cwOf x c
        else rsEncode (mergeBytes (o.getD 0) (d / 2 ^ (256 * c)) 32 m)
      (true, lineStore l (lineOf (one ma r.1 0) (one mb r.2.1 1)) s1)

/-! ### Commands of the controller -/

/-- An XMC_CMD status is reported: source 390. -/
def xmcStatus (st : Nat) (s : State) : State := irqEvent 390 (s.wr Fd.XMC_STAT_STATUS st)

/-- Take an XMC_CMD, or report BUSY (R20). -/
def xmcCmd (f : State → State) (s : State) : State := if s.rdB Fd.XMC_STAT_BUSY then xmcStatus St.busy s else f s

/-- FILL (R245). -/
def xmcFill (line n pat : Nat) (s : State) : State :=
  let s0 := ((s.wr Fd.XMC_CMD_ADDR_LINE line).wr Fd.XMC_CMD_LEN_LINES n).wr Fd.XMC_FILL_PAT_PAT pat
  xmcCmd (fun t =>
    if xmcLines t < line + n then xmcStatus St.range t
    else
      let t1 := t.set1 Fd.XMC_STAT_BUSY
      { t1 with xmc := { t1.xmc with fill := some ⟨line, n, BitVec.ofNat 64 pat⟩ } }) s0

/-- Eight copies of a 64-bit pattern. -/
def fillData (p : Nat) : Nat := (List.range 8).foldl (fun a k => a + p * 2 ^ (64 * k)) 0

/-- The fill has written its lines and ends; before READY it waits (R244). -/
def xmcFillDone (s : State) : State :=
  match s.xmc.fill with
  | none => s
  | some f =>
    if !xmcReady s then s else
    let s1 := forEach (List.range f.left) s (fun k t => lineFull (f.line + k) (fillData f.pat.toNat) t)
    xmcStatus St.ok ({ s1 with xmc := { s1.xmc with fill := none } }.clr Fd.XMC_STAT_BUSY)

/-- MARK (R240): a marked device raises source 389 (Table 13.1). -/
def xmcMark (rank dev : Nat) (s : State) : State :=
  xmcCmd (fun t =>
    if 18 ≤ dev ∨ t.rd Fd.XMC_CFG_RANKS ≤ rank then xmcStatus St.range t
    else if !xmcReady t then xmcStatus St.order t
    else if t.rdB (Fd.XMC_MARK_VALID rank) then xmcStatus St.order t
    else xmcStatus St.ok (irqEvent 389 (((t.wr (Fd.XMC_MARK_DEVICE rank) dev).clr (Fd.XMC_MARK_AUTO rank)).set1 (Fd.XMC_MARK_VALID rank)))) s

/-- UNMARK (R240). -/
def xmcUnmark (rank dev : Nat) (s : State) : State :=
  xmcCmd (fun t =>
    if 18 ≤ dev ∨ t.rd Fd.XMC_CFG_RANKS ≤ rank then xmcStatus St.range t
    else if !xmcReady t then xmcStatus St.order t
    else xmcStatus St.ok (((t.clr (Fd.XMC_MARK_DEVICE rank)).clr (Fd.XMC_MARK_AUTO rank)).clr (Fd.XMC_MARK_VALID rank))) s

/-- Put the patrol at a line. -/
def patrolAt (l : Nat) (s : State) : State :=
  let s1 := { s with xmc := { s.xmc with patrolPos := l } }
  s1.wr Fd.XMC_PATROL_POS l

/-- PATROL_RESTART. -/
def xmcPatrolRestart (s : State) : State := xmcCmd (fun t => xmcStatus St.ok (patrolAt 0 t)) s

/-- Every PASS_COUNT is cleared at the end of a pass (R242). -/
def passClear (s : State) : State :=
  forEach (List.range 2) s (fun r t => forEach (List.range 18) t (fun d u => u.clr (Fd.XMC_DEV_CNT_PASS_COUNT r d)))

/-- The patrol handles one line (R242). -/
def patrolLine (s : State) : State :=
  if s.rdB Fd.XMC_CTRL_PATROL_EN && xmcReady s && scrubRuns s && decide (0 < xmcLines s) then
    let l := s.xmc.patrolPos
    let r := lineRead l 0x00 s
    let s1 := if (spareOf r.2.2.2 l).isSome ∨ r.2.2.1 = lineCell r.2.2.2 l then r.2.2.2 else linePut l r.2.2.1 r.2.2.2
    if l + 1 < xmcLines s then patrolAt (l + 1) s1
    else patrolAt 0 (passClear (s1.incWrap Fd.XMC_PATROL_PASSES))
  else s

/-- A patrol pass has lasted more than 1 h (R242): input 22. -/
def patrolLate (s : State) : State := safRaise 22 (irqEvent 389 (s.set1 Fd.XMC_STAT_PATROL_LATE))

/-- Capacity in GiB of the fitted devices (R236): 16 data devices of 8 or 16 Gbit a rank. -/
def capGib (s : State) : Nat := s.rd Fd.XMC_CFG_RANKS % 3 * (if s.rdB Fd.XMC_CFG_DENSITY then 32 else 16)

/-- Training starts (R244): accesses wait for READY within the capacity, which reads 0 only while XMC is OFF or FAILED. -/
def xmcTrain (s : State) : State :=
  if s.rd Fd.XMC_CFG_RANKS = 0 then s else (xmcState 1 s).wr Fd.XMC_STAT_CAP_GIB (capGib s)

/-- XMC_CTRL.INIT from OFF or FAILED. -/
def xmcInit (s : State) : State :=
  if s.rd Fd.XMC_STAT_STATE = 0 ∨ s.rd Fd.XMC_STAT_STATE = 4 then xmcTrain s else s

/-- Every VALID spare is reloaded from its line through the decoder (R243). -/
def spareReload (s : State) : State :=
  forEach (List.range 16) s (fun i t =>
    if t.rdB (Fd.XMC_REMAP_VALID i) then
      let l := t.rd (Fd.XMC_REMAP_LINE i)
      let r := lineArray l 0x30 t
      spareFill i none r.2.2.1 r.2.2.2
    else t)

/-- XMC enters READY: its spares are reloaded (R243). -/
def xmcIsReady (s : State) : State := spareReload (xmcState 2 s)

/-- Initialisation or training ends (R244); the devices are supplied then. -/
def xmcTrained (ok : Bool) (s : State) : State :=
  if s.rd Fd.XMC_STAT_STATE = 1 then
    if ok then
      let s1 := xmcIsReady (s.wrB Fd.XMC_STAT_CONTENTS_KEPT s.xmc.kept)
      { s1 with xmc := { s1.xmc with unsupplied := false } }
    else (xmcState 4 s).clr Fd.XMC_STAT_CAP_GIB
  else s

/-- An all-bank refresh at a tREFI interval (R236). -/
def xmcRefresh (s : State) : State :=
  if xmcReady s then { s with xmc := { s.xmc with refreshes := s.xmc.refreshes + 1 } } else s

/-- Arm an SDRAM injection (R231). -/
def xmcInjArm (line a b two : Nat) (s : State) : State :=
  if injAllowed s then
    ((((s.wr Fd.XMC_INJ_LINE line).wr Fd.XMC_INJ_DEV_A a).wr Fd.XMC_INJ_DEV_B b).wr Fd.XMC_INJ_TWO two).set1 Fd.XMC_INJ_ARMED
  else injRefuse s

/-- A firmware write of VALID 1 to XMC_REMAP[i]: the named line is promoted. A line another spare serves stays there. -/
def spareTake (i line : Nat) (s : State) : State :=
  if s.rdB (Fd.XMC_REMAP_VALID i) ∨ (spareOf s line).isSome then s
  else
    let r := lineArray line 0x30 s
    ((spareYield i line (spareFill i none r.2.2.1 r.2.2.2)).wr (Fd.XMC_REMAP_LINE i) line).set1 (Fd.XMC_REMAP_VALID i)

/-- A write that clears VALID of XMC_REMAP[i]: the spare is copied back into the array. -/
def spareFree (i : Nat) (s : State) : State :=
  if s.rdB (Fd.XMC_REMAP_VALID i) then
    let l := s.rd (Fd.XMC_REMAP_LINE i)
    { s with xmc := { s.xmc with lines := mapPut s.xmc.lines l (lineOf (spareCw s i 0) (spareCw s i 1)) } }.clr (Fd.XMC_REMAP_VALID i)
  else s

/-- POISONED of XMC_REMAP[i]. -/
def sparePoisoned (i : Nat) (s : State) : Bool :=
  s.rdB (Fd.XMC_REMAP_VALID i) && ((spareRaw s i 0).2 || (spareRaw s i 1).2)

end Sys2Proof.Machine
end

