-- ==== Sys2Proof/Machine/React.lean ====
section
/-! DEFINITION. Mode changes (R21, Table 1.6) and what they do to every block: the SAFE reaction (R349), LIMITED entry
(R351), the stop and the hold of scribe pairs (Table 7.1), the pause of queues (Table 4.9), the safe outputs. -/
namespace Sys2Proof.Machine

open Sys2Proof

/-- A word of the NET windows (Table 12.8) in the range where unlisted words read as zero. -/
def netWin0 (s : State) (off : Nat) : Nat := (mapGet 0 s.net.win off).toNat

/-- SRDO n is an enabled receive SRDO (direction 2) and one of its mapping entries names SAF_SRDO_IN, 0x2901 sub 0x01
(R293, R354, Table 12.8). -/
def srdoMapsIn (s : State) (n : Nat) : Bool :=
  netWin0 s (0xA000 + 0x20 * n) == 2 &&
  (List.range (min 16 (netWin0 s (0xA100 + 0x80 * n)))).any
    (fun i => netWin0 s (0xA100 + 0x80 * n + 4 * (i + 1)) / 256 == 0x290101)

/-- Run enable applies (R354). -/
def runEnableApplies (s : State) : Bool :=
  s.rd Fd.NET_SRDO_VALID_VALID == 0xA5 && (List.range 8).any (fun n => srdoMapsIn s n)

/-- The level both paths drive on SAFE_A_N and SAFE_B_N is low (R350). -/
def safePinsLow (s : State) : Bool :=
  !((s.mode == Md.run || s.mode == Md.limited) && !s.saf.reaction && !s.saf.runWait)

/-- SAF_STAT and SAF_SRDO_OUT follow the mode, the reaction and the run-enable wait. -/
def safRefresh (s : State) : State :=
  let low := safePinsLow s
  let re := s.saf.reaction || !(s.mode == Md.run || s.mode == Md.limited)
  let s1 := ((s.wrB Fd.SAF_STAT_REACTION re).wrB Fd.SAF_STAT_SAFE_A low).wrB Fd.SAF_STAT_SAFE_B low
  let s2 := ((s1.wrB Fd.SAF_SRDO_OUT_REACTION re).wrB Fd.SAF_SRDO_OUT_SAFE_A low).wrB Fd.SAF_SRDO_OUT_SAFE_B low
  (s2.wr Fd.SAF_SRDO_OUT_MODE s.mode).wr Fd.SAF_SRDO_OUT_LAST_INPUT (s.rd Fd.SAF_STAT_LAST_INPUT)

/-- The watchdog count restarts from 0 with the first key (R352). -/
def wdgRestart (s : State) : State :=
  if s.rdB Fd.SAF_WDG_CFG_EN then
    let s1 := ((s.clr Fd.SAF_WDG_STAT_COUNT).clr Fd.SAF_WDG_STAT_NEXT_KEY).wrB Fd.SAF_WDG_STAT_WINDOW_OPEN
      (s.rd Fd.SAF_WDG_CFG_OPEN == 0)
    { s1 with saf := { s1.saf with wdgRun := true, wdgAt := s.now } }
  else { s with saf := { s.saf with wdgRun := false } }

/-- NMT state of a mode (Table 1.5); SLEEP keeps the one before. -/
def nmtOf (m old : Nat) : Nat :=
  if m = Md.selftest ∨ m = Md.standby then 127
  else if m = Md.run ∨ m = Md.limited then 5
  else if m = Md.safe then 4
  else if m = Md.sleep then old
  else 0

/-- The engine source becomes channel k; a change sets SRC_CHANGED (R64, R122). -/
def setSrc (k : Nat) (s : State) : State :=
  if s.rd Fd.AFE_CTRL_SRC = k then s
  else irqEvent 177 ((s.wr Fd.AFE_CTRL_SRC k).set1 Fd.NIB_STAT_SRC_CHANGED)

/-- The pins pass from the safe path to their owners: every direct channel's level is its pin's safe-state row value, a
high-impedance value sets it to 0 and the pin waits for the channel's first action; a string drives OE once it has latched its safe
image (R145). -/
def pinsToOwners (s : State) : State :=
  let chs := List.range 512
  let pin := fun c => s.rowSafe (s.rd (Fd.CHN_DCFG_PIN c))
  { s with chn := { s.chn with
    pins := .owners
    level := (chs.filter (fun c => pin c == 1)).map (fun c => (c, true)) ++ s.chn.level.filter (fun e => decide (512 ≤ e.1))
    firstAct := []
    idleHiZ := chs.filter (fun c => s.rdB (Fd.CHN_DCFG_BOUND c) && pin c == 2)
    str := s.chn.str.map (fun e => (e.1, { e.2 with oe := e.2.imaged && s.rd (Fd.CHN_SCFG2_LEN8 e.1) != 0 })) } }

/-- The pins of RUN and LIMITED are taken over or given back: RUN and LIMITED are one side, all other modes the other. -/
def driving (m : Nat) : Bool := m == Md.run || m == Md.limited

/-- The instructions of the boundary scan act (R376): the right is held or the state is OPEN, and EXTEST, CLAMP and HIGHZ only outside RUN
and LIMITED. -/
def bscanActs (ir : JtagIr) (s : State) : Bool :=
  (lcsState s == 0 || (lcsState s == 1 && hasRight 0 s)) && (ir == .samplePreload || !driving s.mode)

/-- A boundary-scan instruction that no longer may act ends: it acts as BYPASS from then on and sets BSCAN_REFUSED (R376). -/
def bscanJudge (s : State) : State :=
  if (s.jtag.ir = .extest ∨ s.jtag.ir = .samplePreload ∨ s.jtag.ir = .clamp ∨ s.jtag.ir = .highz) ∧ bscanActs s.jtag.ir s = false then
    { s.set1 Fd.DBG_STAT_BSCAN_REFUSED with jtag := { s.jtag with ir := .bypass } }
  else s

/-- A SCRAP is BUSY: the device stays in its mode (R379). -/
def scrapping (s : State) : Bool := match s.lcs.cmd with | some c => c.op == 3 | none => false

/-- Change the mode: SYS_MODE, the NMT state, run enable, the watchdog, the speed check, the pins, the safe images and the idle timer (R21, R143, R145, R333, R351, R352,
R354), and source 2 for the completed transition. EXTEST, CLAMP and HIGHZ end when the pins pass to their owners (R376). -/
def setMode (m : Nat) (s : State) : State :=
  let old := s.mode
  let s1 := (s.wr Fd.SYS_MODE_PREV_MODE old).wr Fd.SYS_MODE_MODE m
  let s2 := { s1 with net := { s1.net with
    nmt := nmtOf m s1.net.nmt
    tpdoHeld := if driving m then s1.net.tpdoHeld else []
    opAt := if driving m && !driving old then s.now else s1.net.opAt
    srdoAt := if driving m && !driving old then [] else s1.net.srdoAt
    srdoHalf := if driving m && !driving old then [] else s1.net.srdoHalf } }
  let s3 := s2.wr Fd.NET_STAT_NMT (if m = Md.sleep then s2.rd Fd.NET_STAT_NMT else nmtOf m 0)
  let s4 := if m = Md.standby ∨ m = Md.safe ∨ m = Md.sleep then s3.clr Fd.SAF_SRDO_IN_RUN_ENABLE else s3
  let s5 := if m = Md.standby ∨ driving m then wdgRestart s4 else { s4 with saf := { s4.saf with wdgRun := false } }
  let s6 := { s5 with saf := { s5.saf with
    runWait := driving m && runEnableApplies s5
    reaction := if m = Md.safe ∨ m = Md.frozen then true else if old = Md.safe then false else s5.saf.reaction
    graceOver := if m = Md.limited ∧ old ≠ Md.limited then false else s5.saf.graceOver
    limitedAt := if m = Md.limited ∧ old ≠ Md.limited then s.now else s5.saf.limitedAt } }
  let s7 := if m = Md.limited ∧ old ≠ Md.limited then { s6 with afe := { s6.afe with overN := 0 } } else s6
  let s8 := if driving m && !driving old then pinsToOwners s7 else if m = Md.standby ∧ old ≠ Md.standby then imagesDue s7 else s7
  let s9 := if m = Md.run ∧ old = Md.standby then setSrc 0 s8 else s8
  irqEvent 2 (safRefresh (idleRestart (bscanJudge s9)))

/-- A pair enters a state. -/
def setPair (p st : Nat) (s : State) : State := s.wr (Fd.SCR_PSTAT_STATE p) st

/-- RUNNING, HELD and DEBUG pairs stop when the device enters SAFE (Table 7.1). -/
def pairsStop (s : State) : State :=
  forEach (List.range 8) s (fun p t =>
    let st := t.rd (Fd.SCR_PSTAT_STATE p)
    if st = 1 ∨ st = 2 ∨ st = 3 then
      let t1 := if st = 3 ∧ t.rd Fd.SCR_DBG_CTRL_PAIR = p then t.clr Fd.SCR_DBG_STAT_HALTED else t
      irqEvent (192 + p) (setPair p 0 t1)
    else t)

/-- RUNNING pairs are held when the device enters SELFTEST or SLEEP (Table 7.1). -/
def pairsHold (s : State) : State :=
  forEach (List.range 8) s (fun p t => if t.rd (Fd.SCR_PSTAT_STATE p) = 1 then setPair p 2 t else t)

/-- HELD pairs run again when the device returns to STANDBY, RUN or LIMITED (Table 7.1). -/
def pairsRelease (s : State) : State :=
  forEach (List.range 8) s (fun p t => if t.rd (Fd.SCR_PSTAT_STATE p) = 2 then setPair p 1 t else t)

/-- The queues in the halt map with a state. -/
def queuesIn (s : State) (st : Nat) : List Nat := (s.que.halt.filter (fun e => e.2.state == st)).map Prod.fst

/-- Every RUNNING queue becomes PAUSED with a cause (Table 4.9). -/
def queuesPause (cause : Nat) (s : State) : State := forEach (queuesIn s 1) s (fun q t => qSetState q 2 cause t)

/-- A requested transition in progress is cancelled and returns REFUSED_MODE (R22). -/
def cancelRequest (s : State) : State :=
  if s.rdB Fd.SYS_MODE_REQ_BUSY then
    let s1 := (s.wr Fd.SYS_MODE_REQ_STATUS St.refusedMode).clr Fd.SYS_MODE_REQ_BUSY
    { s1 with sys := { s1.sys with toStandby := false, selfTest := false } }
  else { s with sys := { s.sys with toStandby := false, selfTest := false } }

/-- Every BIST slice in progress is asked to yield (R357). -/
def slicesYield (s : State) : State :=
  { s with bst := { s.bst with slice := s.bst.slice.map (fun e => (e.1, { e.2 with yield_ := true })) } }

/-- The fabric ports connect where user logic is released; a fault line asserted by then raises its input (Table 8.4, R329). -/
def portsConnect (s : State) : State :=
  let t := { s with fab := { s.fab with connected := s.fab.released } }
  if s.fab.released && !s.fab.connected then
    forEach ((List.range 8).filter (fun n => s.fab.faultLine.toNat.testBit n)) t (fun n u => safRaise (24 + n) u)
  else t

/-- The PWR undoes a sleep entry: hold cells, self-refresh, a wake event latched and the moderation flush end, the fabric ports connect (R308, R329). -/
def sleepUndo (s : State) : State :=
  let s1 := if s.rd Fd.XMC_STAT_STATE = 3 then xmcIsReady s else s
  let s2 := { s1 with
    pwr := { s1.pwr with sleep := .awake, hold := false, wake := 0 }
    xmc := { s1.xmc with selfRefresh := false }
    chn := { s1.chn with pins := if s1.chn.pins = .held then .safe else s1.chn.pins } }
  portsConnect (if s2.irq.flushed then irqUnflush s2 else s2)

/-- The modes from which a SAFE trigger leads to SAFE (Table 1.6); a sleep entry under way is abandoned. -/
def safeFrom (s : State) : Bool :=
  s.mode == Md.selftest || s.mode == Md.standby || s.mode == Md.run || s.mode == Md.limited ||
  (s.mode == Md.sleep && match s.pwr.sleep with | .entry _ => true | _ => false)

/-- Enter SAFE for an origin (block ID) with the detail its emergency message carries: Tables 1.6 and 15.3. -/
def enterSafe (origin detail : Nat) (s : State) : State :=
  let s0 := if s.mode = Md.sleep then sleepUndo s else s
  let s1 := slicesYield (cancelRequest s0)
  let s2 := outputsSafe (clearNibs s1)
  let s3 := pairsStop (queuesPause 3 s2)
  let s4 := setMode Md.safe (s3.wr Fd.SYS_MODE_LAST_CAUSE origin)
  emcy 0xFF02 origin detail s4

/-- The class field of input i: 3 acts as 2. -/
def safClassField (s : State) (i : Nat) : Nat :=
  min 2 (s.rd (Fd.SAF_CLASS_CLASS (i / 16)) / 2 ^ (2 * (i % 16)) % 4)

/-- LIMITED is entered, or met again, for a cause of the AFE (inputs 0 to 3) with SINGLE_OK: the engine is to move to channel 1 (R64).
An entry from STANDBY names no cause; there it is any AFE input latched with class LIMITED. -/
def limitedFromAfe (origin : Nat) (s : State) : Bool :=
  s.rdB Fd.AFE_CTRL_SINGLE_OK && (origin == Blk.afe ||
    s.mode != Md.limited && s.rd Fd.SAF_FAULT_LATCHED &&& s.saf.limBits &&& 0xF != 0)

/-- A LIMITED cause in RUN cancels a move to STANDBY in progress, and with it a Reset Communication that waits for it (R22). -/
def limitedCancels (s : State) : State :=
  if s.mode = Md.run ∧ s.sys.toStandby = true then
    let t := cancelRequest s
    if t.net.resetComm then { t.set1 Fd.NET_STAT_NMT_REFUSED with net := { t.net with resetComm := false } } else t
  else s

/-- Enter LIMITED, or meet a further LIMITED cause in it (R351): restrictions and the emergency message. -/
def enterLimited (origin detail : Nat) (s0 : State) : State :=
  let s := limitedCancels s0
  let s1 := { s with afe := { s.afe with moveSrc := s.afe.moveSrc || limitedFromAfe origin s } }
  let s2 := s1.wr Fd.SYS_MODE_LAST_CAUSE origin
  let s3 := if s.mode = Md.limited then s2 else setMode Md.limited s2
  emcy 0xFF01 origin detail s3

end Sys2Proof.Machine
end

