-- ==== Sys2Proof/Machine/Saf0.lean ====
section
/-! DEFINITION. The safety manager: what keeps an input active (R343), its class (R345), latching a raised input and its
reaction (R344), and settling what a command raised before the command ends. -/
namespace Sys2Proof.Machine

open Sys2Proof

/-- A safety input of the state: the condition that keeps input i active once it is raised (Table 15.1). Inputs whose end
is an event of its own (36, 37, 44) stay active until that event clears their bit. -/
def safCond (s : State) (i : Nat) : Bool :=
  if i = 0 then s.rd Fd.AFE_FAULT_CH0 != 0
  else if i = 1 then s.rd Fd.AFE_FAULT_CH1 != 0
  else if i = 2 then s.rdB Fd.AFE_FAULT_PLAUS_ANG || s.rdB Fd.AFE_FAULT_PLAUS_VEL || s.rdB Fd.AFE_FAULT_PLAUS_DIR
  else if i = 3 then s.rdB Fd.AFE_FAULT_CAL_INVALID
  else if i = 5 then s.rd Fd.CHN_SFAULT_FAULT != 0
  else if 8 ≤ i ∧ i < 16 then s.rd (Fd.SCR_PSTAT_STATE (i - 8)) == 4
  else if i = 17 then !s.cfg.unrepaired.isEmpty
  else if i = 19 then s.rd Fd.MEM_SCRUB_LATE_LATE != 0
  else if i = 22 then s.rdB Fd.XMC_STAT_PATROL_LATE || s.rd Fd.XMC_STAT_STATE == 4
  else if 24 ≤ i ∧ i < 32 then s.fab.connected && s.fab.faultLine.toNat.testBit (i - 24)
  else if i = 32 then s.rd Fd.FAB_STAT_FPLL_LOSS != 0 || !s.fab.fpllOut.isEmpty
  else if i = 33 then !s.net.srdoFault.isEmpty || s.rdB Fd.NET_STAT_SRDO_FAULT
  else if i = 34 then !s.rdB Fd.SAF_SRDO_IN_RUN_ENABLE
  else if i = 35 then s.rd Fd.PWR_BANK_STAT_LOST != 0 || !s.pwr.lostNow.isEmpty
  else if i = 39 then !s.saf.padOff.isEmpty
  else if i = 40 then s.mode == Md.limited
  else if i = 41 then s.bst.failing.any (fun f => f.1 ∈ [0, 1, 2, 3, 4, 16])
  else if i = 42 then s.bst.failing.any (fun f => f.1 ∉ [0, 1, 2, 3, 4, 16])
  else if i = 43 then s.rd Fd.BST_LATE_TARGETS != 0
  else if safIsEvent i then false
  else true

/-- Inputs whose stated end has come stop being active (R343). -/
def safClean (s : State) : State :=
  let a := s.rd Fd.SAF_ACTIVE_ACTIVE
  if a = 0 then s
  else
    let b := (List.range 45).foldl (fun x i => if a.testBit i && safCond s i then x + 2 ^ i else x) 0
    if b = a then s else s.wr Fd.SAF_ACTIVE_ACTIVE b

/-- The class in force for input i: LIMITED acts as SAFE where the restrictions cannot hold (R345). -/
def safClassOf (s : State) (i : Nat) : Nat :=
  let c := safClassField s i
  if c = 1 ∧ i = 0 then (if s.rdB Fd.AFE_CTRL_SINGLE_OK && s.rdB (Fd.AFE_CH_STAT_VALID 1) then 1 else 2)
  else if c = 1 ∧ i = 1 then (if s.rdB Fd.AFE_CTRL_SINGLE_OK && s.rdB (Fd.AFE_CH_STAT_VALID 0) then 1 else 2)
  else c

/-- The counter of SAF_CNT for a class. -/
def safCntFld (c : Nat) : Fld := if c = 2 then Fd.SAF_CNT_SAFE else if c = 1 then Fd.SAF_CNT_LIMITED else Fd.SAF_CNT_REPORT

/-- Latch input i: SAF_FAULT, SAF_ACTIVE, LAST_INPUT, the counter of its class, SAF_FIRST, the class it latched with, the log entry and
source 396 (R344). An input latched again before its bit is cleared keeps the causes of both classes. -/
def safLatch (i c : Nat) (s : State) : State :=
  let m := s.mode
  let s1 := s.orF Fd.SAF_FAULT_LATCHED (2 ^ i)
  let s2 := if safIsEvent i then s1 else s1.orF Fd.SAF_ACTIVE_ACTIVE (2 ^ i)
  let s3 := ((s2.wr Fd.SAF_STAT_LAST_INPUT i).wr Fd.SAF_SRDO_OUT_LAST_INPUT i).incSat (safCntFld c)
  let s4 := if s3.rdB Fd.SAF_FIRST_VALID then s3
    else ((((s3.wr Fd.SAF_FIRST_INPUT i).wr Fd.SAF_FIRST_CLASS c).wr Fd.SAF_FIRST_MODE m).wr Fd.SAF_FIRST_TIME s.now).set1
      Fd.SAF_FIRST_VALID
  let held := s.rd Fd.SAF_FAULT_LATCHED
  let s5 := { s4 with saf := { s4.saf with
    safeBits := (s4.saf.safeBits &&& held) ||| (if c = 2 then 2 ^ i else 0)
    limBits := (s4.saf.limBits &&& held) ||| (if c = 1 then 2 ^ i else 0) } }
  irqEvent 396 (logReq Blk.saf 0x02 i c m s5)

/-- What a latched input does by its class in the mode of the moment (R344, R345). -/
def safAct (i c : Nat) (s : State) : State :=
  if c = 2 then
    if safeFrom s then enterSafe (safOrigin i) i s
    else if s.mode = Md.safe then safRefresh { s with saf := { s.saf with reaction := true } }
    else if s.mode = Md.sleep then { s with saf := { s.saf with slept := s.saf.slept ||| 2 ^ i } }
    else s
  else if c = 1 then
    if driving s.mode then enterLimited (safOrigin i) i s
    else if s.mode = Md.sleep then { s with saf := { s.saf with slept := s.saf.slept ||| 2 ^ i } }
    else s
  else s

/-- The emergency message of a supply or clock monitor, or of an uncorrectable memory error (Table 12.6). -/
def safEmcy (i : Nat) (s : State) : State :=
  if i = 36 ∨ i = 37 then emcy 0x3000 (safOrigin i) i s
  else if i = 18 ∨ i = 21 then emcy 0x5000 (safOrigin i) i s
  else s

/-- A fault input is raised: it takes the class in force, is latched and acts (R344). -/
def safInput (i : Nat) (s : State) : State :=
  let c := safClassOf s i
  safAct i c (safEmcy i (safLatch i c s))

/-- SAFE inputs of a list act before the others, so that the first in the order of R22 prevails; all latch. -/
def safOrder (s : State) (l : List Nat) : List Nat :=
  l.filter (fun i => safClassOf s i == 2) ++ l.filter (fun i => safClassOf s i != 2)

/-- Latch every input raised so far; what that raises is latched next. -/
def settleLoop : Nat → State → State
  | 0, s => { s with saf := { s.saf with due := [] } }
  | n + 1, s =>
    if s.saf.due.isEmpty then s
    else settleLoop n (forEach (safOrder s s.saf.due) { s with saf := { s.saf with due := [] } } safInput)

/-- What a command raised is latched, and inputs and emergencies whose end has come are no longer active, before the command ends. -/
def settle (s : State) : State := emcyRefresh (safClean (settleLoop 16 s))

/-! ### SRDO supervision (R293) -/

/-- SRDO n is enabled in direction d: 1 transmit, 2 receive. -/
def srdoIs (s : State) (d n : Nat) : Bool := netWin0 s (0xA000 + 0x20 * n) == d

/-- SRDO n is faulty: NET_STAT, EMCY 0xFF07 with the fault's bit of NET_STAT as its detail, source 394 and input 33. -/
def srdoFail (n : Nat) (s : State) : State :=
  let t := { s with net := { s.net with srdoFault := setIns s.net.srdoFault n } }
  safRaise 33 (emcy 0xFF07 Blk.net 7 (irqEvent 394 (t.set1 Fd.NET_STAT_SRDO_FAULT)))

/-- While 0x13FE is not 0xA5 every enabled SRDO is faulty; SRDOs act, and are faulty, only while the NMT state is Operational. -/
def srdoJudge (s : State) : State :=
  if !driving s.mode then { s with net := { s.net with srdoFault := [] } }
  else if s.rd Fd.NET_SRDO_VALID_VALID = 0xA5 then
    { s with net := { s.net with srdoFault := s.net.srdoFault.filter (srdoIs s 2) } }
  else
    forEach ((List.range 8).filter (fun n => (srdoIs s 1 n || srdoIs s 2 n) && !s.net.srdoFault.contains n)) s srdoFail

/-- A SAFE cause is latched (Table 1.6): an input whose bit reads 1 and that was latched with class SAFE (R344, R346). -/
def safeCause (s : State) : Bool := s.rd Fd.SAF_FAULT_LATCHED &&& s.saf.safeBits != 0

/-- A LIMITED cause is latched. -/
def limitedCause (s : State) : Bool := s.rd Fd.SAF_FAULT_LATCHED &&& s.saf.limBits != 0

/-- Inputs latched in SLEEP act once the device reaches STANDBY (R345). -/
def safWoken (s : State) : State :=
  let l := (List.range 45).filter (fun i => s.saf.slept.testBit i && s.saf.safeBits.testBit i)
  let s1 := { s with saf := { s.saf with slept := 0 } }
  match l with
  | [] => s1
  | i :: _ => enterSafe (safOrigin i) i s1

end Sys2Proof.Machine
end

