-- ==== Sys2Proof/Machine/Eng.lean ====
section
/-! DEFINITION. The engine estimate (R107), leads (R36, R125), prediction (R113), reach (R109), fire-time order (R85), and
the writing of nib records (Table 5.6). -/
namespace Sys2Proof.Machine

open Sys2Proof

/-- An angle channel. -/
def State.ach (s : State) (k : Nat) : AfeCh := if k = 0 then s.afe.ch0 else s.afe.ch1

/-- Put an angle channel. -/
def State.setAch (s : State) (k : Nat) (c : AfeCh) : State :=
  if k = 0 then { s with afe := { s.afe with ch0 := c } } else { s with afe := { s.afe with ch1 := c } }

/-- The value in force of an AFE field: one written since the last update tick takes effect at the next (R65). -/
def State.afeRd (s : State) (f : Fld) : Nat := mapGet (s.rd f) s.afe.held f.key

/-- The value in force of an AFE field as a truth value. -/
def State.afeRdB (s : State) (f : Fld) : Bool := s.afeRd f != 0

/-- The value in force of an AFE field read as a two's complement number. -/
def State.afeRdI (s : State) (f : Fld) : Int := sx f.w (s.afeRd f)

/-- A field is about to be written: its value stays in force until the next update tick (R65). -/
def afeHold (f : Fld) (s : State) : State :=
  match mapGet? s.afe.held f.key with
  | some _ => s
  | none => { s with afe := { s.afe with held := mapPut s.afe.held f.key (s.rd f) } }

/-- An AFE field takes a value by an ordinary write (R65). -/
def afePut (f : Fld) (v : Nat) (s : State) : State := (afeHold f s).wr f v

/-- The channel the engine schedules against (R64). -/
def engSrc (s : State) : Nat := s.rd Fd.AFE_CTRL_SRC

/-- CHK_OFFSET where the engine runs on channel 1, else 0 (R64, R107). -/
def engOffset (s : State) : Nat := if engSrc s = 1 then s.afeRd Fd.AFE_CHK_OFFSET_OFFSET else 0

/-- Fine angle of the engine estimate, Q32.8 (R107). -/
def engTheta (s : State) : Nat := ((s.ach (engSrc s)).pubP / 2 ^ 32 + engOffset s) % 2 ^ 40

/-- Angle word of the engine (Table 2.3, RDN). -/
def engWord (s : State) : Nat := engTheta s / 256

/-- Estimator velocity, Q8.40. -/
def engV (s : State) : Int := (s.ach (engSrc s)).pubV

/-- Velocity word, Q8.16: rounded RNE and saturated (R34). -/
def velWord (v : Int) : Int := satI 24 (rne v 24)

/-- Extended acceleration, Q0.40. -/
def engA (s : State) : Int := (s.ach (engSrc s)).pubA

/-- Update time of the estimate in force. -/
def engTu (s : State) : Nat := (s.ach (engSrc s)).tU

/-- The source channel is VALID (R61). -/
def engValid (s : State) : Bool := s.rdB (Fd.AFE_CH_STAT_VALID (engSrc s))

/-- Direction of travel: 0 increasing, 1 decreasing (R58). -/
def engDir (s : State) : Nat := s.rd (Fd.AFE_CH_STAT_DIR (engSrc s))

/-- The engine is in crossing mode (R123). -/
def crossing (s : State) : Bool := s.rdB Fd.NIB_STAT_CROSSING

/-- The delay of an event's lead (R125): the channel's entry when the class asks for it, the event names an actuator
channel and the entry is seeded and readable; else the class delay. An uncorrectable entry is reported (input 4). -/
def leadDelay (c : Nat) (e : Ev) (s : State) : Nat × State :=
  if s.rd (Fd.NIB_LC_LEARN_DSRC c) = 1 ∧ e.action ≤ 4 then
    match slotRead (slotDelay e.channel) s with
    | (some v, t) => (if v.testBit 31 then v % 2 ^ 24 else t.rd (Fd.NIB_LC_DELAY_DELAY c), t)
    | (none, t) => (t.rd (Fd.NIB_LC_DELAY_DELAY c), safRaise 4 t)
  else (s.rd (Fd.NIB_LC_DELAY_DELAY c), s)

/-- The lead of an event at the current velocity word, Q24.8; barriers take none (R36, R92, R125). -/
def eventLead (e : Ev) (s : State) : Int × State :=
  if e.action = 6 then (0, s)
  else
    let d := leadDelay e.cls e s
    let l := leadOf d.1 (velWord (engV s)) (d.2.rdI (Fd.NIB_LC_OFFSET_OFFSET e.cls))
    (l.1, if l.2 then d.2.set1 Fd.NIB_ARITH_STAT_LEAD_SAT else d.2)

/-- The fire angle of an event, Q32.8 (R113). -/
def fireAngle (target : Nat) (lead : Int) : Nat := enc 40 ((target * 256 : Nat) - lead)

/-- Distance, velocity and acceleration are taken negative (R113): a BIDIR 0 event of a DIR 1 queue, or a BIDIR 1 event while
the shaft runs backward. -/
def predictNeg (bidir : Bool) (qdir : Nat) (v : Int) : Bool := (!bidir && qdir == 1) || (bidir && decide (v < 0))

/-- τ in sixteenths of a tick from an exact quotient: RTZ to 12 fraction bits with a sticky remainder, then RNE to 4, the
sticky bit breaking a tie upward (R113). The divisor is positive. -/
def tauRound (num den : Int) : Int :=
  let n := num * 4096
  let q := divRtz n den
  let sticky := decide (q * den ≠ n)
  let r := rdn q 8
  let rem := q - r * 256
  if rem > 128 ∨ (rem = 128 ∧ (sticky = true ∨ r % 2 = 1)) then r + 1 else r

/-- τ of a prediction in sixteenths of a tick; none where no crossing lies ahead (R113). d is Q.8, v and a are Q.40. -/
def tauOf (accEn bidir : Bool) (d v a : Int) : Option Int :=
  if v ≤ 0 then none
  else if d < 0 ∧ bidir then none
  else if d < 0 then some (tauRound (d * 2 ^ 32) v)
  else if !accEn || a == 0 then some (tauRound (d * 2 ^ 32) v)
  else
    let disc := v * v + 2 * a * d * 2 ^ 32
    if disc < 0 then none
    else some (tauRound (2 * d * 2 ^ 32) (v + (isqrt disc.toNat : Nat)))

/-- Predict an event from the estimate in force: τ in sixteenths (none: no crossing ahead) and the fire angle (R113). A barrier that the
shaft has passed has a negative τ whatever its BIDIR: at a re-timing it clamps and does not retract. -/
def predictEv (e : Ev) (qdir : Nat) (s : State) : Option Int × Nat × State :=
  let l := eventLead e s
  let phi := fireAngle e.target l.1
  let d0 := diffS 40 phi (engTheta s)
  let neg := predictNeg e.bidir qdir (engV s)
  let sg := fun (x : Int) => if neg then -x else x
  (tauOf (s.rdB Fd.NIB_CTRL_ACC_EN) (e.bidir && e.action != 6) (sg d0) (sg (engV s)) (sg (engA s)), phi, l.2)

/-- A fire time: τ after the update time of the estimate, modulo 2^68 (R113). -/
def fireOf (s : State) (tau : Int) : Nat := enc 68 ((engTu s * 16 : Nat) + tau)

/-- The later of two fire times, seen from now. -/
def laterOf (s : State) (a b : Nat) : Nat := if tRel s a < tRel s b then b else a

/-- A fire time given as a tick with phase 0. -/
def atTick (t : Nat) : Nat := (t * 16) % 2 ^ 68

/-- The frame that holds nib k, if any. -/
def frameOf (s : State) (k : Nat) (n : Nib) : Option Frame :=
  if decide (n.ev.action ≤ 4) && onString s n.ev.channel then
    match (s.strOf (chString n.ev.channel).1).frame with
    | some f => if k ∈ f.members then some f else none
    | none => none
  else none

/-- The time a nib acts at as things stand: its frame's latch, else its fire time in force (R138, R140). -/
def effFire (s : State) (k : Nat) (n : Nib) : Nat :=
  match frameOf s k n with
  | some f => (atTick f.tL + f.phase) % 2 ^ 68
  | none => n.fire

/-- The nibs that hold events of the same queue ahead of a nib's, nearest first. -/
def nibsAhead (s : State) (n : Nib) : List (Nat × Nib) :=
  let pos := ringPos s n
  sortBy (fun (a b : Nat × Nib) => decide (ringPos s b.2 ≤ ringPos s a.2))
    (s.nib.nibs.filter (fun e => e.2.queue == n.queue && decide (ringPos s e.2 < pos)))

/-- The fire time of the last armed event of a queue, or of its last fired event (R113); one that waits in crossing mode holds none. -/
def predFire (s : State) (q : Nat) : Option Nat :=
  match (s.nib.arming.filter (fun n => n.queue == q && n.mode != NibMode.crossing)).getLast? with
  | some n => some n.fire
  | none =>
    let mine := s.nib.nibs.filter (fun e => e.2.queue == q && e.2.mode != NibMode.crossing)
    match sortBy (fun (a b : Nat × Nib) => decide (ringPos s b.2 ≤ ringPos s a.2)) mine with
    | e :: _ => some (effFire s e.1 e.2)
    | [] => mapGet? s.nib.lastFire q

/-- A fire time raised to the predecessor's (R85). -/
def afterPred (s : State) (q f : Nat) : Nat :=
  match predFire s q with
  | some p => laterOf s f p
  | none => f

/-- The lowest-numbered free nib. -/
def freeIdx (s : State) : Option Nat := (List.range 1024).find? (fun k => (mapGet? s.nib.nibs k).isNone)

/-- The two channel delay entries of a word as the reach takes them: an uncorrectable word counts as not SEEDED. -/
def seedWord (e : EccOut) : Nat :=
  match e with
  | .clean d => d.toNat
  | .fixed d => d.toNat
  | .bad => 0

/-- The largest |lead| over the lead classes at the current velocity word (R109). -/
def leadMax (s : State) : Nat :=
  let vw := velWord (engV s)
  let keys := s.mem.map Prod.fst ++ (s.mst.merge.filter (fun e => e.key / 2 ^ 32 == 14)).map (fun e => e.key) ++
    s.bst.slice.flatMap (fun e => e.2.saved.map Prod.fst)
  let chanMax := (keys.filter (fun k => decide (mkey 14 2048 ≤ k) && decide (k < mkey 14 6400))).foldl (fun m k =>
    let d := seedWord (eccDecode (s.mcur k))
    let a := if d.testBit 31 then d % 2 ^ 24 else 0
    let b := if d.testBit 63 then d / 2 ^ 32 % 2 ^ 24 else 0
    max m (max a b)) 0
  (List.range 256).foldl (fun m c =>
    let cd := s.rd (Fd.NIB_LC_DELAY_DELAY c)
    let d := if s.rdB (Fd.NIB_LC_LEARN_DSRC c) then max cd chanMax else cd
    max m (leadOf d vw (s.rdI (Fd.NIB_LC_OFFSET_OFFSET c))).1.natAbs) 0

/-- NIB_REACH: |v| × h + max(0, a_t) × h² / 2 + lmax, rounded up to whole aq and saturated (R109). -/
def reachOf (s : State) : Nat :=
  let vw := (velWord (engV s)).natAbs
  let h := s.nib.horizon
  let at_ := (if engDir s = 1 then -(engA s) else engA s).toNat
  let sum := vw * h * 2 ^ 25 + at_ * h * h + leadMax s * 2 ^ 33
  min 2130706432 ((sum + 2 ^ 41 - 1) / 2 ^ 41)

end Sys2Proof.Machine
end

