-- ==== Sys2Proof/Machine/Que.lean ====
section
/-! DEFINITION. The queues: the push checks and port operations (R79 to R84), queue commands (Table 4.9), halts, barriers,
completion records, the stale-head sweep (R85 to R103). Commands of the QUE family stand at the end. -/
namespace Sys2Proof.Machine

open Sys2Proof

/-- Count a refused push, commit or abort by its status (QUE_REFUSE_CNT). -/
def refuseCnt (st : Nat) (s : State) : State :=
  if 1 ≤ st ∧ st ≤ 10 then s.incSat (Fd.QUE_REFUSE_CNT_COUNT st) else s

/-- The producer ports of Table 4.4. -/
def portExists (p : Nat) : Bool :=
  decide (p ≤ 10) || (decide (16 ≤ p) && decide (p ≤ 23)) || (decide (32 ≤ p) && decide (p ≤ 63))

/-- The mode admits pushes (Table 1.7). -/
def pushMode (s : State) : Bool := s.mode == Md.standby || s.mode == Md.run || s.mode == Md.limited

/-- Check 6 of Table 4.5: the fields of Table 4.2, and a barrier's NEED. -/
def fieldsOk (e : Ev) (s : State) : Bool :=
  if e.action ≤ 1 ∨ e.action = 4 then decide (e.channel ≤ 8703)
  else if e.action = 2 ∨ e.action = 3 then decide (e.channel ≤ 8703) && decide (e.w2.toNat % 2 ^ 24 ≠ 0)
  else if e.action = 5 then true
  else if e.action = 6 then s.rd (Fd.QUE_BAR_NEED (e.w2.toNat % 256)) != 0
  else decide (e.channel ≤ 31)

/-- Check 7: the angle window, measured in a direction (R33, R82). -/
def windowOk (target dir : Nat) (s : State) : Bool := inWindow (alongDir dir (diffS 32 target (engWord s)))

/-- Target a lies behind target b in a direction (R82). -/
def behindOf (a b dir : Nat) : Bool := decide (alongDir dir (diffS 32 a b) < 0)

/-- Checks 1 to 3 of Table 4.5 on queue q from port p: the descriptor, or the status of the first check that fails. -/
def portChecks (p q : Nat) (s : State) : Sum Desc Nat × State :=
  if !pushMode s then (.inr St.refusedMode, s)
  else if qState s q = 3 ∧ qCause s q = 8 then (.inr St.uncorrectable, s)
  else match readDesc q s with
    | (none, t) => (.inr St.uncorrectable, haltCause8 q t)
    | (some d, t) =>
      if d.prod ≠ p ∨ !portExists p then (.inr St.access, t)
      else if d.state = 1 ∨ d.state = 2 then (.inl d, t)
      else (.inr St.refusedMode, t)

/-- Checks 4 to 9 of Table 4.5 on an event. -/
def pushChecks (d : Desc) (e : Ev) (s : State) : Nat × State :=
  if !engValid s then (St.refusedMode, s)
  else if ringAdd d d.sidx 1 = d.cidx % 2 ^ d.log2 then (St.busy, s)
  else if !fieldsOk e s then (St.range, s)
  else if !windowOk e.target d.dir s then (St.range, s)
  else if d.sidx = d.cidx then (St.ok, s)
  else match readEntry (ringEntry d (d.sidx + 2 ^ d.log2 - 1)) s with
    | (none, t) => (St.uncorrectable, t)
    | (some p, t) => if behindOf e.target p.target d.dir then (St.order, t) else (St.ok, t)

/-- SIDX − PIDX of a queue (QUE_PUSH_STAT.STAGED); 0 where its descriptor cannot be read (DESIGN CHOICE, log 75). -/
def stagedOf (s : State) (q : Nat) : Nat :=
  match getDesc s q with
  | some d => ringDiff d d.sidx d.pidx
  | none => 0

/-- PUSH, PUSH_COMMIT, COMMIT or ABORT (op 0 to 3) of queue q by port p: its status, and the state after it (R80, R81). -/
def portOp (op p q : Nat) (e : Ev) (s : State) : Nat × State :=
  if op = 3 then
    if qState s q = 3 ∧ qCause s q = 8 then (St.uncorrectable, refuseCnt St.uncorrectable s)
    else match readDesc q s with
      | (none, t) => (St.uncorrectable, refuseCnt St.uncorrectable (haltCause8 q t))
      | (some d, t) =>
        if d.prod ≠ p ∨ !portExists p then (St.access, refuseCnt St.access t)
        else (St.ok, putDesc q { d with sidx := d.pidx } t)
  else match portChecks p q s with
    | (.inr st, t) => (st, refuseCnt st t)
    | (.inl d, t) =>
      if op = 2 then (St.ok, putDesc q { d with pidx := d.sidx } t)
      else match pushChecks d e t with
        | (st, u) =>
          if st = St.ok then
            let n := ringAdd d d.sidx 1
            (St.ok, putDesc q { d with sidx := n, pidx := if op = 1 then n else d.pidx }
              (putEntry (ringEntry d d.sidx) e u))
          else (st, refuseCnt st u)

/-- The event spelled by four words. -/
def evOf (w0 w1 w2 w3 : W32) : Ev := ⟨w0, w1, w2, w3⟩

/-- A host producer port m (Table 4.4, ports 8 to 10): the operation on the words of QUE_PUSH_W[m], its status and STAGED in
QUE_PUSH_STAT[m] (R79). -/
def hostPush (m q op : Nat) (s : State) : State :=
  let w := fun i => BitVec.ofNat 32 (s.rd (Fd.QUE_PUSH_W_WORD m i))
  let r := portOp op (8 + m) q (evOf (w 0) (w 1) (w 2) (w 3)) s
  (r.2.wr (Fd.QUE_PUSH_STAT_STATUS m) r.1).wr (Fd.QUE_PUSH_STAT_STAGED m) (stagedOf r.2 q)

/-- Halt a queue at an entry with a cause (Table 4.8): state and halt log; a late event under policy fault also owes the
record of outcome 3 (Table 4.6). -/
def haltQueue (q cause : Nat) (d : Desc) (idx : Nat) (s : State) : State :=
  let i := idx % 2 ^ d.log2
  let s1 := haltLog q cause i (setHaltAt q cause i (putDesc q { d with state := 3, cause := cause } s))
  let w3 : W32 := match getEntry s1 (ringEntry d idx) with
    | some e => e.w3
    | none => 0
  if cause = 5 then outcome q d 3 0 w3 s.now s1 else s1

/-- A queue has fired or retired an event since its INIT (R102). -/
def noteRetired (q : Nat) (s : State) : State := { s with que := { s.que with retired := setIns s.que.retired q } }

/-- Retire the entry at CIDX of a queue without firing it, with an outcome decided at a time: CIDX advances (R86). The record of an entry that
reads uncorrectable carries TAG and USER 0, here and at a halt (DESIGN CHOICE, log 75). -/
def retireHead (q oc time : Nat) (d : Desc) (s : State) : State :=
  let w3 : W32 := match getEntry s (ringEntry d d.cidx) with
    | some e => e.w3
    | none => 0
  noteRetired q (outcome q d oc 0 w3 time (putDesc q { d with cidx := ringAdd d d.cidx 1 } s))

/-- A late event that waited for its predecessor is retired once nothing of its queue is armed or about to be (Table 4.6, LATE 1). -/
def serveDrop (q : Nat) (s : State) : State :=
  match mapGet? s.que.dropPend q with
  | none => s
  | some t0 =>
    withDesc q (fun d t =>
      if d.armed = 0 ∧ !(t.nib.arming.any (fun n => n.queue == q)) then
        retireHead q 2 t0 d { t with que := { t.que with dropPend := mapDel t.que.dropPend q } }
      else t) s

/-- Halt every queue of a failed pair: cause 6, staged events discarded, nibs retracted (R152, Table 4.9, R84). The index its halt log entry
shows is that of the first entry which no locked nib holds, CIDX plus the locked nibs: the rules name none (DESIGN CHOICE, log 75). -/
def haltOwner (p : Nat) (s : State) : State :=
  forEach (queuesIn s 1 ++ queuesIn s 2) s (fun q t =>
    withDesc q (fun d u =>
      if d.owner = p then
        let u1 := retractQueue q u
        withDesc q (fun d2 v => haltQueue q 6 { d2 with sidx := d2.pidx }
          (d2.cidx + (u1.nib.nibs.filter (fun e => e.2.queue == q)).length) v) u1
      else u) t)

/-- Granules of a ring of 2^log2 entries at an entry (R76), as a mask. -/
def granMask (base log2 : Nat) : Nat := (2 ^ (2 ^ (log2 - 2)) - 1) * 2 ^ (base / 4)

/-- A ring's fields are within bounds and aligned (R75). -/
def ringOk (base log2 : Nat) : Bool := decide (2 ≤ log2) && decide (log2 ≤ 16) && base % 2 ^ log2 == 0

/-- Its granules are all free, or all allocated. -/
def granFree (s : State) (base log2 : Nat) : Bool := s.que.alloc &&& granMask base log2 == 0
def granHeld (s : State) (base log2 : Nat) : Bool := s.que.alloc &&& granMask base log2 == granMask base log2

/-- Allocate or free granules. -/
def granTake (base log2 : Nat) (s : State) : State :=
  { s with que := { s.que with alloc := s.que.alloc ||| granMask base log2 } }
def granGive (base log2 : Nat) (s : State) : State :=
  { s with que := { s.que with alloc := s.que.alloc ^^^ (s.que.alloc &&& granMask base log2) } }

/-- Report the status of a queue command (QUE_CMD_STAT, source 161). -/
def queStatus (q st : Nat) (s : State) : State :=
  irqEvent 161 (((s.wr Fd.QUE_CMD_STAT_STATUS st).clr Fd.QUE_CMD_STAT_BUSY).wr Fd.QUE_CMD_STAT_QUEUE q)

/-- A queue command arrives: it is not taken while one is in progress (R20, R98). -/
def queCmd (q : Nat) (f : State → State) (s : State) : State :=
  if s.rdB Fd.QUE_CMD_STAT_BUSY then irqEvent 161 (s.wr Fd.QUE_CMD_STAT_STATUS St.busy) else f (s.wr Fd.QUE_CMD_STAT_QUEUE q)

/-- INIT (Table 4.9): DISABLED to PAUSED from QUE_INIT_CFG0 and QUE_INIT_CFG1. -/
def queInit (q : Nat) (s : State) : State :=
  if qState s q ≠ 0 then queStatus q St.refusedMode s
  else
    let base := s.rd Fd.QUE_INIT_CFG0_BASE
    let log2 := s.rd Fd.QUE_INIT_CFG0_LOG2LEN
    if !ringOk base log2 || !granFree s base log2 then queStatus q St.range s
    else
      let d : Desc := ⟨base, log2, 0, 0, 0, 0, 2, s.rd Fd.QUE_INIT_CFG1_LATE, s.rd Fd.QUE_INIT_CFG1_DIR,
        s.rd Fd.QUE_INIT_CFG1_GROUP, s.rd Fd.QUE_INIT_CFG1_CPL, s.rd Fd.QUE_INIT_CFG1_PROD, s.rd Fd.QUE_INIT_CFG1_OWNER, 0⟩
      let s1 := setHalt q 2 0 (granTake base log2 (putDesc q d s))
      queStatus q St.ok { s1 with
        que := { s1.que with retired := setDel s1.que.retired q, barAt := mapDel s1.que.barAt q }
        nib := { s1.nib with lastFire := mapDel s1.nib.lastFire q } }

/-- RESUME (Table 4.9). -/
def queResume (q : Nat) (s : State) : State :=
  if qState s q = 3 ∧ qCause s q = 6 then
    match readDesc q s with
    | (none, t) => queStatus q St.uncorrectable (haltCause8 q t)
    | (some d, t) =>
      if d.owner < 8 ∧ t.rd (Fd.SCR_PSTAT_STATE d.owner) = 4 then queStatus q St.refusedMode t
      else queStatus q St.ok (setHalt q 1 6 (putDesc q { d with state := 1 } t))
  else if qState s q ≠ 2 then queStatus q St.refusedMode s
  else match readDesc q s with
    | (none, t) => queStatus q St.uncorrectable (haltCause8 q t)
    | (some d, t) =>
      let run := fun (u : State) => queStatus q St.ok (setHalt q 1 d.cause (putDesc q { d with state := 1 } u))
      if pendingOf d = 0 then run t
      else match readEntry (ringEntry d d.cidx) t with
        | (none, u) => queStatus q St.uncorrectable (haltQueue q 4 d d.cidx u)
        | (some e, u) =>
          if windowOk e.target d.dir u then run u
          else queStatus q St.range (haltQueue q 7 d d.cidx u)

/-- The command waits for ARMED 0 (R98), or ends at once where the queue holds no nib. -/
def queWait (op q : Nat) (fin : State → State) (s : State) : State :=
  if queueDrained s q then fin s
  else { s.set1 Fd.QUE_CMD_STAT_BUSY with que := { s.que with cmd := some ⟨op, q⟩ } }

/-- PAUSE (Table 4.9): retraction, cause 1; the command waits for ARMED 0. -/
def quePause (q : Nat) (s : State) : State :=
  if qState s q ≠ 1 then queStatus q St.refusedMode s
  else match readDesc q s with
    | (none, t) => queStatus q St.uncorrectable (haltCause8 q t)
    | (some _, t) => queWait 2 q (queStatus q St.ok) (retractQueue q (qSetState q 2 1 t))

/-- The ring of QUE_INIT_CFG0 is well formed and all its granules are allocated (R99). -/
def cfg0Held (s : State) : Bool :=
  ringOk (s.rd Fd.QUE_INIT_CFG0_BASE) (s.rd Fd.QUE_INIT_CFG0_LOG2LEN) &&
  granHeld s (s.rd Fd.QUE_INIT_CFG0_BASE) (s.rd Fd.QUE_INIT_CFG0_LOG2LEN)

/-- The end of a DISABLE: granules freed, events discarded, the descriptor DISABLED; for cause 8 the descriptor is written
as zero and the granules of QUE_INIT_CFG0 are freed, which must all be allocated (R99): a queue may come to cause 8 while its DISABLE
waits. -/
def disableEnd (q : Nat) (s : State) : State :=
  let fin := fun (base log2 : Nat) (t : State) =>
    let t1 := setHalt q 0 0 (granGive base log2 t)
    queStatus q St.ok { t1 with
      que := { t1.que with
        barAt := mapDel t1.que.barAt q
        retired := setDel t1.que.retired q
        dropPend := mapDel t1.que.dropPend q }
      nib := { t1.nib with lastFire := mapDel t1.nib.lastFire q } }
  if qCause s q = 8 ∧ qState s q = 3 then
    if cfg0Held s then
      fin (s.rd Fd.QUE_INIT_CFG0_BASE) (s.rd Fd.QUE_INIT_CFG0_LOG2LEN) (writeWord 1 (2 * q + 1) 0 (writeWord 1 (2 * q) 0 s))
    else queStatus q St.range s
  else match readDesc q s with
    | (none, t) => queStatus q St.uncorrectable (haltCause8 q t)
    | (some d, t) => fin d.base d.log2 (putDesc q { d with state := 0, sidx := d.cidx, pidx := d.cidx, armed := 0 } t)

/-- DISABLE (Table 4.9, R99). -/
def queDisable (q : Nat) (s : State) : State :=
  if qState s q ≠ 2 ∧ qState s q ≠ 3 then queStatus q St.refusedMode s
  else if qCause s q = 8 ∧ qState s q = 3 then
    if cfg0Held s then queWait 4 q (disableEnd q) s else queStatus q St.range s
  else match readDesc q s with
    | (none, t) => queStatus q St.uncorrectable (haltCause8 q t)
    | (some _, t) => queWait 4 q (disableEnd q) (retractQueue q t)

/-- SKIP (Table 4.9, R102). Where the head is a barrier entry that has arrived, QUE_BAR.ARRIVED keeps its count, here and at a DISABLE:
the rules take it back nowhere (DESIGN CHOICE, log 75). -/
def queSkip (q : Nat) (s : State) : State :=
  if qState s q ≠ 3 ∨ qCause s q ∉ [4, 5, 7] then queStatus q St.refusedMode s
  else match readDesc q s with
    | (none, t) => queStatus q St.uncorrectable (haltCause8 q t)
    | (some d, t) =>
      if d.armed ≠ 0 ∨ !queueDrained t q ∨ pendingOf d = 0 then queStatus q St.order t
      else
        let t1 := { t with que := { t.que with barAt := mapDel t.que.barAt q } }
        queStatus q St.ok (setHalt q 2 1 (retireHead q 4 t1.now { d with state := 2, cause := 1 } t1))

/-- The event of QUE_REPAIR_W. -/
def repairEv (s : State) : Ev :=
  let w := fun i => BitVec.ofNat 32 (s.rd (Fd.QUE_REPAIR_W_WORD i))
  evOf (w 0) (w 1) (w 2) (w 3)

/-- A replacement keeps queue order on both sides (R102). An entry that reads uncorrectable gives no target to compare with: the check against
it is left out, at CIDX − 1 as the rule says and at CIDX + 1 too (DESIGN CHOICE, log 75). -/
def repairOrder (d : Desc) (e : Ev) (q : Nat) (s : State) : Bool × State :=
  let a := if q ∈ s.que.retired then
      match readEntry (ringEntry d (d.cidx + 2 ^ d.log2 - 1)) s with
      | (some p, t) => (!behindOf e.target p.target d.dir, t)
      | (none, t) => (true, t)
    else (true, s)
  if pendingOf d ≤ 1 then a
  else match readEntry (ringEntry d (d.cidx + 1)) a.2 with
    | (some n, t) => (a.1 && !behindOf n.target e.target d.dir, t)
    | (none, t) => (a.1, t)

/-- REPAIR (R102): ARMED 0, and CIDX at the entry the queue halted at. A replaced barrier entry that had arrived waits no more. -/
def queRepair (q : Nat) (s : State) : State :=
  if qState s q ≠ 3 ∨ qCause s q ∉ [4, 5, 7] then queStatus q St.refusedMode s
  else match readDesc q s with
    | (none, t) => queStatus q St.uncorrectable (haltCause8 q t)
    | (some d, t) =>
      let e := repairEv t
      if d.armed ≠ 0 ∨ !queueDrained t q ∨ pendingOf d = 0 ∨ d.cidx ≠ haltIdx t q then queStatus q St.order t
      else if !fieldsOk e t || !windowOk e.target d.dir t then queStatus q St.range t
      else match repairOrder d e q t with
        | (false, u) => queStatus q St.order u
        | (true, u) =>
          let u1 := setHalt q 2 1 (putDesc q { d with state := 2, cause := 1 } (putEntry (ringEntry d d.cidx) e u))
          queStatus q St.ok { u1 with que := { u1.que with barAt := mapDel u1.que.barAt q } }

/-- SET_LATE (Table 4.9). -/
def queSetLate (q late : Nat) (s : State) : State :=
  if qState s q = 0 ∨ (qState s q = 3 ∧ qCause s q = 8) then queStatus q St.refusedMode s
  else match readDesc q s with
    | (none, t) => queStatus q St.uncorrectable (haltCause8 q t)
    | (some d, t) => queStatus q St.ok (putDesc q { d with late := late % 4 } t)

/-- Queues that wait at barrier b, lowest number first (R92). -/
def atBarrier (s : State) (b : Nat) : List Nat := (s.que.barAt.filter (fun e => e.2 == b)).map Prod.fst

/-- Retire the barrier entry a queue waits at: outcome 6 (R93). -/
def retireBarrier (q : Nat) (s : State) : State :=
  let s1 := { s with que := { s.que with barAt := mapDel s.que.barAt q } }
  withDesc q (fun d t => retireHead q 6 t.now d t) s1

/-- BAR_OPEN (R93). -/
def barOpen (b : Nat) (s : State) : State :=
  queStatus (s.rd Fd.QUE_CMD_STAT_QUEUE) St.ok ((forEach (atBarrier s b) s retireBarrier).clr (Fd.QUE_BAR_ARRIVED b))

/-- A barrier whose ARRIVED reaches NEED opens (R93). -/
def barrierOpening (b : Nat) (s : State) : State :=
  let need := s.rd (Fd.QUE_BAR_NEED b)
  let arr := s.rd (Fd.QUE_BAR_ARRIVED b)
  if need = 0 ∨ arr < need then s
  else (forEach ((atBarrier s b).take need) s retireBarrier).wr (Fd.QUE_BAR_ARRIVED b) (arr - need)

/-- A pause or disable completes once the queue holds no nib (R98). -/
def drainDone (s : State) : State :=
  match s.que.cmd with
  | none => s
  | some c =>
    if queueDrained s c.queue then
      let s1 := { s with que := { s.que with cmd := none } }
      if c.op = 4 then disableEnd c.queue s1 else queStatus c.queue St.ok s1
    else s

/-- The stale-head sweep visits the next queue (R95). -/
def sweepStep (s : State) : State :=
  let q := s.que.sweep
  let s0 := { s with que := { s.que with sweep := (q + 1) % 65536 } }
  if qState s q = 1 ∨ qState s q = 2 then
    withDesc q (fun d t =>
      if pendingOf d = 0 ∨ d.armed ≠ 0 ∨ !queueDrained t q then t
      else match readEntry (ringEntry d d.cidx) t with
        | (none, u) => if qState s q = 1 then haltQueue q 4 d d.cidx u else u
        | (some e, u) => if windowOk e.target d.dir u then u else haltQueue q 7 d d.cidx u) s0
  else s0

/-- A change of QUE_GROUP_EN: the armed events of the queues of cleared groups are retracted (R100). -/
def groupEnable (v : Nat) (s : State) : State :=
  let cleared := s.rd Fd.QUE_GROUP_EN_EN &&& (v ^^^ (2 ^ 64 - 1))
  let s1 := s.wr Fd.QUE_GROUP_EN_EN v
  forEach (queuesOf s.nib.nibs ++ s.nib.arming.map Nib.queue) s1 (fun q t =>
    match getDesc t q with
    | some d => if cleared.testBit d.group then retractQueue q t else t
    | none => t)

/-- Setting EN of a completion ring (R101): its granules are allocated and it starts empty, or the write is refused. -/
def cringEnable (g base log2 : Nat) (s : State) : State :=
  if s.rdB (Fd.QUE_CRING_CFG_EN g) then s
  else
    let s1 := (s.wr (Fd.QUE_CRING_CFG_BASE g) base).wr (Fd.QUE_CRING_CFG_LOG2LEN g) log2
    if ringOk base log2 && granFree s base log2 then
      let s2 := (((granTake base log2 s1).clr (Fd.QUE_CRING_PIDX_PIDX g)).clr (Fd.QUE_CRING_CIDX_CIDX g)).set1
        (Fd.QUE_CRING_CFG_EN g)
      irqJudge (32 + g) { s2 with que := { s2.que with recCnt := mapDel s2.que.recCnt g } }
    else s1.set1 Fd.QUE_STAT_CRING_REFUSED

/-- Clearing EN of a completion ring frees its granules (R76). -/
def cringDisable (g : Nat) (s : State) : State :=
  if s.rdB (Fd.QUE_CRING_CFG_EN g) then
    (granGive (s.rd (Fd.QUE_CRING_CFG_BASE g)) (s.rd (Fd.QUE_CRING_CFG_LOG2LEN g)) s).clr (Fd.QUE_CRING_CFG_EN g)
  else s

/-- The completion record of an outcome (Table 4.10). -/
def cplRecord (c : Cpl) (seq : Nat) : Ev :=
  ⟨BitVec.ofNat 32 (c.queue % 65536 + c.outcome % 16 * 2 ^ 16 + c.phase % 16 * 2 ^ 20 + seq % 256 * 2 ^ 24), c.w3,
   BitVec.ofNat 32 c.time, BitVec.ofNat 32 (c.time / 2 ^ 32)⟩

/-- Write the record of the oldest outcome, or discard it where the ring is full (R101). -/
def completionRecord (s : State) : State :=
  match s.que.cpl with
  | [] => s
  | c :: rest =>
    let g := c.group
    let s0 := { s with que := { s.que with cpl := rest } }
    if !s.rdB (Fd.QUE_CRING_CFG_EN g) then s0
    else
      let seq := mapGet 0 s.que.recCnt g
      let s1 := { s0 with que := { s0.que with recCnt := mapPut s0.que.recCnt g ((seq + 1) % 256) } }
      let p := s.rd (Fd.QUE_CRING_PIDX_PIDX g)
      let len := cringLen s g
      if (p + 1) % len = s.rd (Fd.QUE_CRING_CIDX_CIDX g) % len then
        (s1.incSat (Fd.QUE_CRING_STAT_OVF_CNT g)).set1 Fd.QUE_STAT_CRING_OVF
      else
        irqJudge (32 + g) ((putEntry (s.rd (Fd.QUE_CRING_CFG_BASE g) + p % len) (cplRecord c seq) s1).wr
          (Fd.QUE_CRING_PIDX_PIDX g) ((p + 1) % len))

/-- A read of the low word of QUE_HALT_LOG: its 64 bits, and the log without the entry shown (R102). -/
def haltLogRead (s : State) : Nat × State :=
  match s.que.haltLog with
  | [] => (0, s)
  | h :: rest =>
    (h.queue + h.cause * 2 ^ 16 + 2 ^ 31 + h.idx * 2 ^ 32, { s with que := { s.que with haltLog := rest } })

end Sys2Proof.Machine
end

