-- ==== Sys2Proof/Machine/Dma0.lean ====
section
/-! DEFINITION. DMA channels: the descriptor fields and their check (Table 10.6, R247), the commands START, STOP and CLEAR and
the halt (R248, R249, Table 10.7). -/
namespace Sys2Proof.Machine

open Sys2Proof

/-- Word w of the current descriptor of channel n. -/
def dmaWord (s : State) (n w : Nat) : Nat := s.rd (Fd.DMA_DESC_WORD n w)

/-- SRC_SPACE is 1. -/
def dmaSrcX (s : State) (n : Nat) : Bool := (dmaWord s n 1).testBit 8

/-- Source address, 40 bits. -/
def dmaSrc (s : State) (n : Nat) : Nat := dmaWord s n 0 + dmaWord s n 1 % 256 * 2 ^ 32

/-- DST_SPACE is 1. -/
def dmaDstX (s : State) (n : Nat) : Bool := (dmaWord s n 3).testBit 8

/-- DST_QUEUE is 1. -/
def dmaToQueue (s : State) (n : Nat) : Bool := (dmaWord s n 3).testBit 9

/-- Destination address, 40 bits. -/
def dmaDst (s : State) (n : Nat) : Nat := dmaWord s n 2 + dmaWord s n 3 % 256 * 2 ^ 32

/-- The destination queue. -/
def dmaQueue (s : State) (n : Nat) : Nat := dmaWord s n 2 % 2 ^ 16

/-- LEN. -/
def dmaLen (s : State) (n : Nat) : Nat := dmaWord s n 4 % 2 ^ 28

/-- One end of a memory range: aligned, and in SPACE 0 below the SDRAM window with bits [39:32] zero. -/
def dmaEndOk (addr len align : Nat) (sdram : Bool) : Bool :=
  addr % align == 0 && (sdram || decide (addr + len ≤ 0x40000000))

/-- R247: the descriptor of channel n passes its checks. -/
def dmaOk (s : State) (n : Nat) : Bool :=
  let q := dmaToQueue s n
  let len := dmaLen s n
  let unit := if q then 16 else 8
  len != 0 && len % unit == 0 && dmaEndOk (dmaSrc s n) len unit (dmaSrcX s n) &&
  (if q then decide (dmaWord s n 2 < 2 ^ 16) else dmaEndOk (dmaDst s n) len 8 (dmaDstX s n)) &&
  dmaWord s n 1 / 2 ^ 9 == 0 && dmaWord s n 3 / 2 ^ 10 == 0 && dmaWord s n 4 / 2 ^ 28 == 0 &&
  dmaWord s n 5 / 4 == 0 && dmaWord s n 6 % 32 == 0 && dmaWord s n 7 == 0

/-- STATE of a channel: 0 IDLE, 1 RUNNING, 2 DONE, 3 HALTED. -/
def dmaState (s : State) (n : Nat) : Nat := s.rd (Fd.DMA_STAT_STATE n)

/-- Status of the last command or halt. -/
def dmaStatus (n st : Nat) (s : State) : State := s.wr (Fd.DMA_STAT_STATUS n) st

/-- The queues in which the channel's port has staged events. -/
def dmaStaged (s : State) (n : Nat) : List Nat :=
  (s.que.halt.map Prod.fst).filter (fun q => match getDesc s q with
    | some d => d.prod == 32 + n && ringDiff d d.sidx d.pidx != 0
    | none => false)

/-- Abort what the channel has staged (R248). -/
def dmaAbort (n : Nat) (s : State) : State :=
  forEach (dmaStaged s n) s (fun q t => (portOp 3 (32 + n) q (evOf 0 0 0 0) t).2)

/-- HALTED with a cause and a status; the channel's interrupt source (Table 10.7). -/
def dmaHalt (n cause st : Nat) (s : State) : State :=
  irqEvent (256 + n) (dmaAbort n (dmaStatus n st ((s.wr (Fd.DMA_STAT_STATE n) 3).wr (Fd.DMA_STAT_CAUSE n) cause)))

/-- The modes START is taken in (R249). -/
def dmaMode (s : State) : Bool :=
  s.mode == Md.standby || s.mode == Md.run || s.mode == Md.limited || s.mode == Md.safe

/-- START (Table 10.7). -/
def dmaStart (n : Nat) (s : State) : State :=
  if !dmaMode s then dmaStatus n St.refusedMode s
  else if dmaState s n = 1 then dmaStatus n St.busy s
  else if dmaOk s n then
    (dmaStatus n St.ok ((s.wr (Fd.DMA_STAT_STATE n) 1).clr (Fd.DMA_STAT_DESC_CNT n))).wr (Fd.DMA_REMAIN_BYTES n) (dmaLen s n)
  else dmaHalt n 5 St.range (s.clr (Fd.DMA_STAT_DESC_CNT n))

/-- STOP: every state of the model stands at a burst boundary (Table 10.7). -/
def dmaStop (n : Nat) (s : State) : State :=
  if dmaState s n = 1 then dmaHalt n 6 St.ok s else dmaStatus n St.order s

/-- CLEAR (Table 10.7). -/
def dmaClear (n : Nat) (s : State) : State :=
  if 2 ≤ dmaState s n then dmaStatus n St.ok (s.clr (Fd.DMA_STAT_STATE n)) else dmaStatus n St.order s

/-- A write to DMA_CMD. -/
def dmaCmd (n op : Nat) (s : State) : State :=
  if op = 1 then dmaStart n s else if op = 2 then dmaStop n s else if op = 3 then dmaClear n s
  else dmaStatus n St.range s

end Sys2Proof.Machine
end

