-- ==== Sys2Proof/Machine/Saf.lean ====
section
/-! DEFINITION. The safety manager's commands: acknowledging causes (R346), the safety configuration and its lock (R347),
monitors and readback (R348, R350), the host window watchdog (R352, R353). -/
namespace Sys2Proof.Machine

open Sys2Proof

/-- A fault input of Table 15.1 is raised; reserved inputs are never raised. -/
def faultInput (i : Nat) (s : State) : State := if i = 6 ∨ i = 7 ∨ 45 ≤ i then s else safRaise i s

/-- Ones written to SAF_FAULT clear the bits of inactive inputs (R346). -/
def faultAck (mask : Nat) (s : State) : State :=
  let act := (safClean s).rd Fd.SAF_ACTIVE_ACTIVE
  s.w1c Fd.SAF_FAULT_LATCHED (mask ^^^ (mask &&& act))

/-- The safety configuration accepts a write (R347). -/
def safCfgOk (s : State) : Bool := (s.mode == Md.standby || s.mode == Md.safe) && !s.rdB Fd.SAF_LOCK_LOCK

/-- A refused safety configuration write. -/
def safCfgRefuse (s : State) : State := s.set1 Fd.SAF_STAT_CFG_REFUSED

/-- A class word names a class permitted for every input of its word: inputs 16w to 16w + 15. Inputs with one permitted class
are read-only, and their field is ignored; reserved inputs likewise. -/
def classWordOk (w v : Nat) : Bool :=
  (List.range 16).all (fun j =>
    let p := safPermitted (16 * w + j)
    let c := min 2 (v / 2 ^ (2 * j) % 4)
    p == 0 || p == 4 || p.testBit c)

/-- The class word as it is stored: read-only fields keep their default. -/
def classWord (w v : Nat) : Nat :=
  (List.range 16).foldl (fun a j =>
    let p := safPermitted (16 * w + j)
    let c := if p = 0 ∨ p = 4 then safDefault (16 * w + j) else v / 2 ^ (2 * j) % 4
    a + c * 2 ^ (2 * j)) 0

/-- A write of SAF_CLASS[w] (R347). -/
def classWrite (w v : Nat) (s : State) : State :=
  if safCfgOk s && classWordOk w v then s.wr (Fd.SAF_CLASS_CLASS w) (classWord w v) else safCfgRefuse s

/-- OPEN and CLOSE after a write that offers them (R352, R402): a CLOSE outside 1 to 100 and an OPEN not below CLOSE are refused and
leave their field; a CLOSE the OPEN kept does not lie below is refused with it (DESIGN CHOICE, log entry 73). -/
def wdgWindow (op cl : Nat) (s : State) : Nat × Nat :=
  let op0 := s.rd Fd.SAF_WDG_CFG_OPEN
  let cl0 := s.rd Fd.SAF_WDG_CFG_CLOSE
  let cl1 := if 1 ≤ cl ∧ cl ≤ 100 then cl else cl0
  if op < cl1 then (op, cl1) else if op0 < cl1 then (op0, cl1) else (op0, cl0)

/-- A write of SAF_WDG_CFG (R347, R352, R402). -/
def wdgCfgWrite (v : Nat) (s : State) : State :=
  let en := v % 2
  let op := bits v 7 1
  let cl := bits v 14 8
  if safCfgOk s then
    let was := s.rd Fd.SAF_WDG_CFG_EN
    let w := wdgWindow op cl s
    let s0 := if w = (op, cl) then s else safCfgRefuse s
    let s1 := ((s0.wr Fd.SAF_WDG_CFG_EN en).wr Fd.SAF_WDG_CFG_OPEN w.1).wr Fd.SAF_WDG_CFG_CLOSE w.2
    if was = en then s1
    else if s1.mode = Md.standby ∨ driving s1.mode then wdgRestart s1
    else s1
  else safCfgRefuse s

/-- A write of SAF_LIM_CFG (R347, R351). -/
def limCfgWrite (v : Nat) (s : State) : State :=
  let n := bits v 61 48
  if safCfgOk s then
    let s1 := (s.wr Fd.SAF_LIM_CFG_LIM_VMAX (bits v 23 0)).wr Fd.SAF_LIM_CFG_GRACE (bits v 47 32)
    if 1 ≤ n ∧ n ≤ 15625 then s1.wr Fd.SAF_LIM_CFG_LIM_N n else safCfgRefuse s1
  else safCfgRefuse s

/-- A write of SAF_LOCK.LOCK: it is taken once after a reset, and a lock holds until the next reset (R347, Table 0.4). -/
def safLock (v : Nat) (s : State) : State :=
  if s.saf.lockUsed || s.rdB Fd.SAF_LOCK_LOCK then s
  else { s.wr Fd.SAF_LOCK_LOCK v with saf := { s.saf with lockUsed := true } }

/-- An input whose end is an event of its own stops being active. -/
def safEnd (i : Nat) (s : State) : State := s.w1c Fd.SAF_ACTIVE_ACTIVE (2 ^ i)

/-- The periodic reaction-path and monitor test ends (R348). -/
def pathTest (pass : Bool) (s : State) : State := if pass then safEnd 44 s else safRaise 44 s

/-- The level read back on a safe pin: 0 path A, 1 path B (R350). A level that differs from the level driven raises input
39; it ends once neither path reads one. Without VCCIO6 the pins are unpowered and nothing is judged (R382). -/
def readback (path : Nat) (level : Bool) (s : State) : State :=
  if 6 ∈ s.pwr.absent then s
  else if level = !safePinsLow s then { s with saf := { s.saf with padOff := setDel s.saf.padOff path } }
  else safRaise 39 (logReq Blk.saf 0x04 path (b2n level) 0 { s with saf := { s.saf with padOff := setIns s.saf.padOff path } })

/-- GRACE ms have passed since the entry to LIMITED: the speed check begins (R351). -/
def graceOver (s : State) : State :=
  if s.mode = Md.limited ∧ s.rd Fd.SAF_LIM_CFG_GRACE * 250000 ≤ s.now - s.saf.limitedAt then { s with saf := { s.saf with graceOver := true } } else s

/-- The least and the greatest count the watchdog can have: 100 µs units of an oscillator within ±5 % since the restart (R353). -/
def wdgLeast (s : State) : Nat := (s.now - s.saf.wdgAt) * 95 / 2500000
def wdgMost (s : State) : Nat := (s.now - s.saf.wdgAt) * 105 / 2500000

/-- The watchdog's window is open: the event has come, or the count has reached OPEN whatever the oscillator's rate (R353). -/
def wdgIsOpen (s : State) : Bool := s.rdB Fd.SAF_WDG_STAT_WINDOW_OPEN || decide (s.rd Fd.SAF_WDG_CFG_OPEN ≤ wdgLeast s)

/-- SAF_WDG_STAT.COUNT: what it was stopped at; while it runs a value the oscillator's drift leaves free, within its bounds, short of the
CLOSE and, before the window has opened, of the OPEN that are still to come. -/
def wdgCount (s : State) : Nat :=
  if !s.saf.wdgRun then s.rd Fd.SAF_WDG_STAT_COUNT
  else
    let open_ := wdgIsOpen s
    let lo := if open_ then max (wdgLeast s) (s.rd Fd.SAF_WDG_CFG_OPEN) else wdgLeast s
    let hi := min (wdgMost s) ((if open_ then s.rd Fd.SAF_WDG_CFG_CLOSE else s.rd Fd.SAF_WDG_CFG_OPEN) - 1)
    min hi (max lo (Config.wdgCount s.now))

/-- A watchdog fault: 1 expiry, 2 early, 3 wrong key (R352). -/
def wdgFault (kind : Nat) (s0 : State) : State :=
  let s := if kind = 1 then s0 else s0.wr Fd.SAF_WDG_STAT_COUNT (wdgCount s0)
  let s1 := (s.wr Fd.SAF_WDG_STAT_LAST_FAULT kind).incSat Fd.SAF_CNT_WDG
  let s2 := logReq Blk.saf 0x03 kind (s.rd Fd.SAF_WDG_STAT_COUNT) 0 s1
  safRaise 38 { s2 with saf := { s2.saf with wdgRun := false } }

/-- The watchdog runs (R352). -/
def wdgRuns (s : State) : Bool :=
  s.saf.wdgRun && s.rdB Fd.SAF_WDG_CFG_EN && (s.mode == Md.standby || driving s.mode)

/-- The watchdog count reaches OPEN: source 397 (R353). -/
def wdgOpen (s : State) : State :=
  if wdgRuns s && decide (s.rd Fd.SAF_WDG_CFG_OPEN ≤ wdgMost s) then irqEvent 397 (s.set1 Fd.SAF_WDG_STAT_WINDOW_OPEN)
  else s

/-- The watchdog count reaches CLOSE: a watchdog fault (R352). -/
def wdgExpire (s : State) : State :=
  if wdgRuns s && decide (s.rd Fd.SAF_WDG_CFG_CLOSE ≤ wdgMost s) then wdgFault 1 ((s.wr Fd.SAF_WDG_STAT_COUNT (s.rd Fd.SAF_WDG_CFG_CLOSE)).set1 Fd.SAF_WDG_STAT_WINDOW_OPEN)
  else s

/-- A write to SAF_WDG_KICK (R352). Once the count has reached CLOSE whatever the oscillator's rate, the watchdog has expired. -/
def wdgKick (key master : Nat) (s : State) : State :=
  if isFabric master then s.set1 Fd.SAF_STAT_WDG_FAB
  else if !wdgRuns s then s
  else if s.rd Fd.SAF_WDG_CFG_CLOSE ≤ wdgLeast s then wdgExpire s
  else
    let want := if s.rdB Fd.SAF_WDG_STAT_NEXT_KEY then 0xC3A5 else 0x3C5A
    if key ≠ want then wdgFault 3 s
    else if !wdgIsOpen s then wdgFault 2 s
    else
      let t := ((s.clr Fd.SAF_WDG_STAT_COUNT).wrB Fd.SAF_WDG_STAT_NEXT_KEY (!s.rdB Fd.SAF_WDG_STAT_NEXT_KEY)).wrB
        Fd.SAF_WDG_STAT_WINDOW_OPEN (s.rd Fd.SAF_WDG_CFG_OPEN == 0)
      { t with saf := { t.saf with wdgAt := s.now } }

end Sys2Proof.Machine
end

