-- ==== Sys2Proof/Machine/Bst.lean ====
section
/-! DEFINITION. Background self-test (R355 to R362): slices, their signatures and failures, passes, control. -/
namespace Sys2Proof.Machine

open Sys2Proof

/-- Regions of a target (Table 15.4). -/
def bstRegions (t : Nat) : Nat :=
  if t ≤ 4 then 2048
  else if t ≤ 12 then 4096
  else if t = 13 then 256
  else if t = 14 then 288
  else if t = 15 then 512
  else if t = 16 then 138
  else if t = 17 then 16
  else 352

/-- Words of memories of Table 10.1 in region r of target t, in address order (Table 15.4); target 17 marches the words of a spare line, which
stand in memory 15 (R243), target 18 none of them. -/
def bstKeys (t r : Nat) : List Nat :=
  if t ≤ 3 then (List.range 64).map (fun j => mkey 0 (2 * (4 * (32 * r + j / 2) + t) + j % 2))
  else if t = 4 then (List.range 64).map (fun j => mkey 1 (64 * r + j))
  else if t ≤ 12 then (List.range 64).map (fun j => mkey (t - 3) (64 * r + j))
  else if t = 13 then
    (List.range 512).map (fun j => mkey (if r < 128 then 11 else 12) ((j / 64) * 8192 + 64 * (r % 128) + j % 64))
  else if t = 14 then
    (List.range 2048).map (fun j => mkey 10 ((36 * (j / 64) + 64 * r / 512) * 512 + 64 * r % 512 + j % 64))
  else if t = 15 then (List.range 64).map (fun j => mkey 13 (64 * r + j))
  else if t = 16 then (List.range 64).map (fun j => mkey 14 (64 * r + j))
  else if t = 17 then (List.range 8).map (fun j => mkey 15 (spareWord r + j))
  else []

/-- The sectors whose shadow plane is EMPTY or FAILED, which target 18 marches (Table 15.4). -/
def idlePlanes (s : State) : List Nat :=
  (List.range 32).filter (fun k => match mapGet? s.cfg.shadow k with
    | some p => p.st == 0 || p.st == 3
    | none => true)

/-- The number a save buffer keeps word i of sector k's shadow plane by: beyond the memories of Table 10.1. -/
def planeKey (k i : Nat) : Nat := mkey (16 + k) i

/-- The words of region r of target 18: 16 frames of 16 words of each idle shadow plane, all sectors in parallel; their order within a slice
is the model's own (DESIGN CHOICE, log 59). -/
def planeKeys (s : State) (r : Nat) : List Nat :=
  (idlePlanes s).flatMap (fun k => (List.range 256).map (fun j => planeKey k (256 * r + j)))

/-- A stored word of a shadow plane; an EMPTY plane keeps nothing. -/
def planeWord (s : State) (k : Nat) : MemWord :=
  match mapGet? s.cfg.shadow (k / 2 ^ 32 - 16) with
  | some p => nth 0 p.words (k % 2 ^ 32)
  | none => 0

/-- Put a word back into a FAILED shadow plane; a plane that has been cleared or is loading takes none (R357). -/
def planePut (k : Nat) (w : MemWord) (s : State) : State :=
  match mapGet? s.cfg.shadow (k / 2 ^ 32 - 16) with
  | some p => if p.st = 3 then
      { s with cfg := { s.cfg with shadow := mapPut s.cfg.shadow (k / 2 ^ 32 - 16) { p with words := p.words.set (k % 2 ^ 32) w } } } else s
  | none => s

/-- The words a slice of target t marches in region r: those an access reaches in a remap spare stay served there. -/
def bstMarch (s : State) (t r : Nat) : List Nat :=
  if t = 18 then planeKeys s r else (bstKeys t r).filter (fun k => (mapGet? s.mst.spares k).isNone)

/-- Stored words that a slice marches one after the other: those it saved, and the 8 of its SDRAM array line. -/
def bstWords (x : SliceSt) : Nat := x.saved.length + (if x.line.isSome then 8 else 0)

/-- BST control is allowed (Table 15.6). -/
def bstRight (s : State) : Bool := injAllowed s

/-- A refused BST write (R362). -/
def bstRefuse (s : State) : State := (s.set1 Fd.BST_STAT_CFG_REFUSED).wr Fd.BST_STAT_STATUS St.access

/-- Target t may take a slice now (R355, R361, Table 1.7). -/
def bstMay (t : Nat) (s : State) : Bool :=
  (mapGet? s.bst.slice t).isNone && (t != 18 || !(idlePlanes s).isEmpty) &&
  (if s.mode = Md.selftest then s.sys.selfTest && (s.rd Fd.BST_TEST_MASK_TARGETS).testBit t
   else scrubMode s && (s.rd Fd.BST_TGT_EN_TARGETS).testBit t && !s.bst.paused.contains t)

/-- The save phase of one word: read through the decoder; corrected words are saved corrected, uncorrectable ones poisoned. -/
def bstSave (k : Nat) (s : State) : MemWord × State :=
  let m := k / 2 ^ 32
  let i := k % 2 ^ 32
  if 16 ≤ m then (spareCopy (planeWord s k), s)
  else
  let w := s.mget k
  match eccDecode w with
  | .clean _ => (w, s)
  | .fixed d => (eccEncode d, memCap 1 m (memAddr m i) 0 ((s.set1 Fd.MEM_STAT_CE).incSat (Fd.MEM_ECNT_CORRECTED m)))
  | .bad => (eccPoison (BitVec.ofNat 64 w.toNat), noteUE m i 0 s)

/-- The SDRAM array line that a slice of target 17 marches with its spare line: the next one, while XMC is READY and the patrol has the array
in its care (DESIGN CHOICE, log 59). Lines a spare serves are passed over. -/
def bstLine (t : Nat) (s : State) : Option Nat :=
  if t = 17 ∧ xmcReady s = true ∧ s.rdB Fd.XMC_CTRL_PATROL_EN = true ∧ 0 < xmcLines s then
    let l := s.bst.line % xmcLines s
    if (spareOf s l).isSome then none else some l
  else none

/-- The line is saved corrected, an uncorrectable codeword poisoned (R356): every access meanwhile is served what was saved. -/
def bstLineSave (t : Nat) (s : State) : State :=
  match bstLine t s with
  | some l =>
    let r := lineArray l 0x40 s
    { r.2.2.2 with
      xmc := { r.2.2.2.xmc with lines := mapPut r.2.2.2.xmc.lines l r.2.2.1 }
      bst := { r.2.2.2.bst with line := l + 1 } }
  | none => if t = 17 then { s with bst := { s.bst with line := s.bst.line + 1 } } else s

/-- A slice saves and borrows the target's next region (R356). -/
def bstSlice (t : Nat) (s0 : State) : State :=
  if bstMay t s0 then
    let s := bstLineSave t s0
    let r := s.rd (Fd.BST_TGT_STAT_POS t)
    let keys := bstMarch s t r
    let p := keys.foldl (fun (a : SMap MemWord × State) k => let x := bstSave k a.2; (mapPut a.1 k x.1, x.2)) ([], s)
    let inj := s.rdB Fd.BST_INJ_ARMED && s.rd Fd.BST_INJ_TARGET == t
    let fix := p.2.mst.scrubFix.filter (fun e => !keys.contains (mkey e.2.mem e.2.idx))
    { p.2 with
      bst := { p.2.bst with slice := mapPut p.2.bst.slice t ⟨r, p.1, inj, false, bstLine t s0⟩ }
      mst := { p.2.mst with scrubFix := fix } }
  else s0

/-- A stored word as such a cell lets it be. -/
def stuckApply (f : Stuck) (w : MemWord) : MemWord :=
  if f.val then w ||| BitVec.ofNat 72 (2 ^ f.bit) else w &&& ~~~(BitVec.ofNat 72 (2 ^ f.bit))

/-- The word at place j of the region as its failing cells let it be. -/
def stuckAt (f : List Stuck) (j : Nat) (w : MemWord) : MemWord := f.foldl (fun a x => if x.word = j then stuckApply x a else a) w

/-- The stored word a march read returns: the pattern, unless a failing cell is in it. -/
def marchRead (f : List Stuck) (j : Nat) (ones : Bool) : Nat := (stuckAt f j (if ones then BitVec.allOnes 72 else 0)).toNat

/-- The signature over the reads of elements 2 to e of March C− (R356, R358): elements 2 and 3 ascend, 4 and 5 descend, 6
ascends. -/
def marchSig (f : List Stuck) (n e : Nat) : Nat :=
  let up := List.range n
  let dn := up.reverse
  let pass := fun (c : Nat) (l : List Nat) (ones : Bool) =>
    l.foldl (fun a j => crc32Reg a (toBytes 9 (marchRead f j ones))) c
  let c1 := if 2 ≤ e then pass 0xFFFFFFFF up false else 0xFFFFFFFF
  let c2 := if 3 ≤ e then pass c1 up true else c1
  let c3 := if 4 ≤ e then pass c2 dn false else c2
  let c4 := if 5 ≤ e then pass c3 dn true else c3
  (if 6 ≤ e then pass c4 up false else c4) ^^^ 0xFFFFFFFF

/-- The places of a region of n words where a march read fails, those where a read of zeros fails first (R356): elements 2 and 3. -/
def bstHurt (f : List Stuck) (n : Nat) : List Nat :=
  let js := List.range n
  js.filter (fun j => stuckAt f j 0 != 0) ++ js.filter (fun j => stuckAt f j 0 == 0 && stuckAt f j (BitVec.allOnes 72) != BitVec.allOnes 72)

/-- The first failing stored bit of a place. -/
def stuckBit (f : List Stuck) (j : Nat) : Nat :=
  let d := if stuckAt f j 0 != 0 then stuckAt f j 0 else ~~~stuckAt f j (BitVec.allOnes 72)
  ((List.range 72).find? (fun b => d.getLsbD b)).getD 0

/-- Write the save buffer back to the array, with fresh check bits; a poisoned word stays poisoned (R356). -/
def bstRestore (saved : SMap MemWord) (s : State) : State :=
  forEach saved s (fun e t => if e.1 < mkey 16 0 then { t with mem := mapSet 0 t.mem e.1 (spareCopy e.2) } else planePut e.1 (spareCopy e.2) t)

/-- Stored word j of an SDRAM array line: bits 72j to 72j + 71. -/
def lineWord (x : BitVec 576) (j : Nat) : MemWord := BitVec.ofNat 72 (x.toNat / 2 ^ (72 * j))

/-- The word a place of a slice holds once restored: of its save buffer, or of its array line. -/
def bstHeld (x : SliceSt) (j : Nat) (s : State) : MemWord :=
  match x.saved[j]? with
  | some e => spareCopy e.2
  | none => match x.line with
    | some l => lineWord (lineCell s l) (j - x.saved.length)
    | none => 0

/-- The failing cells keep the word at a place from verifying. -/
def bstDiffers (f : List Stuck) (x : SliceSt) (j : Nat) (s : State) : Bool := stuckAt f j (bstHeld x j s) != bstHeld x j s

/-- Index in BST_FAIL_CAP of a place of a slice: word, entry, line or frame within the memory. -/
def bstIndex (t : Nat) (x : SliceSt) (j : Nat) : Nat :=
  match x.saved[j]? with
  | some e => if t ≤ 3 then e.1 % 2 ^ 32 / 2 else if t = 17 then x.region else if t = 18 then e.1 % 2 ^ 32 / 16 else e.1 % 2 ^ 32
  | none => if t = 17 then x.line.getD x.region else x.region

/-- Capture the first failure (R359). -/
def bstCap (t kind idx b : Nat) (s : State) : State :=
  if s.rdB Fd.BST_FAIL_CAP_VALID then s
  else ((((s.wr Fd.BST_FAIL_CAP_TARGET t).wr Fd.BST_FAIL_CAP_KIND kind).wr Fd.BST_FAIL_CAP_INDEX idx).wr
    Fd.BST_FAIL_CAP_BIT b).set1 Fd.BST_FAIL_CAP_VALID

/-- An unrepaired failure of region r: input 41 or 42, BST_FAILED and log code 0x01 (R359); a commanded self-test under way has failed
(R361). -/
def bstUnrepaired (t r b : Nat) (s : State) : State :=
  let s1 := s.orF Fd.BST_FAILED_TARGETS (2 ^ t)
  let s2 := irqEvent 398 (logReq Blk.bst 0x01 t r b s1)
  let l := if s2.bst.failing.contains (t, r) then s2.bst.failing else s2.bst.failing ++ [(t, r)]
  let s3 := { s2 with bst := { s2.bst with failing := l, testBad := s2.bst.testBad || s2.sys.selfTest } }
  safRaise (if t ≤ 4 ∨ t = 16 then 41 else 42) s3

/-- A failing place goes into a spare where one is free (R226, R243). -/
def bstRepair (x : SliceSt) (j : Nat) (s : State) : Bool × State :=
  match x.saved[j]? with
  | some e => if e.1 < mkey 16 0 then
      let p := autoPromote (e.1 / 2 ^ 32) (e.1 % 2 ^ 32) s
      if p.1 then (true, p.2.incSat (Fd.MEM_ECNT_HARD (e.1 / 2 ^ 32))) else p
    else (false, s)
  | none => match x.line with
    | some l => let p := linePromote l s
      if p.1 then (true, p.2.incSat Fd.XMC_ECNT_HARD) else p
    | none => (false, s)

/-- A failing place is poisoned (R359): its word, or its codeword of the array line. -/
def bstPoison (x : SliceSt) (j : Nat) (s : State) : State :=
  match x.saved[j]? with
  | some e =>
    let w := eccPoison (BitVec.ofNat 64 e.2.toNat)
    if e.1 < mkey 16 0 then { s with mem := mapSet 0 s.mem e.1 w } else planePut e.1 w s
  | none => match x.line with
    | some l =>
      let y := lineCell s l
      let c := (j - x.saved.length) / 4
      let p := rsPoison (rsEncode (cwOf y c % 2 ^ 256))
      { s with xmc := { s.xmc with lines := mapPut s.xmc.lines l (if c = 0 then lineOf p (cwOf y 1) else lineOf (cwOf y 0) p) } }
    | none => s

/-- A failing place is repaired, else restored, and poisoned when it does not verify (R359): with the place, whether the failure stays
unrepaired. -/
def bstFailWord (t : Nat) (f : List Stuck) (x : SliceSt) (j : Nat) (s : State) : Bool × State :=
  let b := stuckBit f j
  let i := bstIndex t x j
  let p := bstRepair x j s
  if p.1 then (false, bstCap t 1 i b p.2)
  else if bstDiffers f x j p.2 then (true, bstPoison x j (bstCap t 3 i b p.2))
  else (true, bstCap t 2 i b p.2)

/-- Every failing place of a slice is treated in turn; one that stays unrepaired makes the slice an unrepaired failure, logged with the bit of
the first (R359). -/
def bstFail (t : Nat) (f : List Stuck) (x : SliceSt) (js : List Nat) (s : State) : State :=
  let p := js.foldl (fun (a : List Nat × State) j => let r := bstFailWord t f x j a.2; (if r.1 then a.1 ++ [j] else a.1, r.2)) ([], s)
  match p.1 with
  | j :: _ => bstUnrepaired t x.region (stuckBit f j) p.2
  | [] => p.2

/-- The target goes on with the next region; a pass ends with the last (R355). A commanded self-test counts the region (R361). -/
def bstNext (t r : Nat) (s : State) : State :=
  let s1 := if s.sys.selfTest then { s with bst := { s.bst with testLeft := mapSet 0 s.bst.testLeft t (mapGet 0 s.bst.testLeft t - 1) } } else s
  if r + 1 < bstRegions t then s1.wr (Fd.BST_TGT_STAT_POS t) (r + 1)
  else (s1.clr (Fd.BST_TGT_STAT_POS t)).incWrap (Fd.BST_TGT_STAT_PASSES t)

/-- A commanded self-test has marched every masked target once (R361); a target 18 with no idle plane has nothing to march. -/
def bstMarched (s : State) : Bool :=
  (List.range 19).all (fun t => mapGet 0 s.bst.testLeft t == 0 || (t == 18 && (idlePlanes s).isEmpty))

/-- A slice of target t ends after `elements` march elements (R356 to R359). -/
def bstSliceEnd (t elements : Nat) (f : List Stuck) (s : State) : State :=
  match mapGet? s.bst.slice t with
  | none => s
  | some x =>
    let s0 := { s with bst := { s.bst with slice := mapDel s.bst.slice t } }
    let s1 := bstRestore x.saved s0
    let n := bstWords x
    let unverified := (List.range n).filter (fun j => bstDiffers f x j s1)
    if x.yield_ then
      let e := min elements 5
      let s2 := (((s1.wr (Fd.BST_TGT_SIG_ELEMENTS t) e).clr (Fd.BST_TGT_SIG_COMPLETE t)).clr (Fd.BST_TGT_SIG_MATCH t)).incSat
        (Fd.BST_TGT_STAT_YIELDS t)
      bstFail t f x unverified s2
    else
      let k := mapGet 0 s1.bst.count t + 1
      let inv := k % 256 == 0
      let sig := marchSig f n 6
      let want := marchSig [] n 6 ^^^ (if inv then 0xFFFFFFFF else 0)
      let isMatch := sig == want && !x.inject
      let s2 := (((s1.wr (Fd.BST_TGT_SIG_SIG t) sig).wr (Fd.BST_TGT_SIG_ELEMENTS t) 6).set1 (Fd.BST_TGT_SIG_COMPLETE t)).wrB
        (Fd.BST_TGT_SIG_MATCH t) isMatch
      let s3 := { s2 with bst := { s2.bst with count := mapSet 0 s2.bst.count t (k % 256) } }
      let s4 := if x.inject then s3.clr Fd.BST_INJ_ARMED else s3
      let mism := !isMatch && !inv
      let s5 := if isMatch && inv then safRaise 44 s4 else s4
      let js := if mism then bstHurt f n else unverified
      let s6 := if !js.isEmpty then bstFail t f x js s5
        else if mism then bstUnrepaired t x.region 0 (bstCap t 4 (bstIndex t x n) 0 s5)
        else { s5 with bst := { s5.bst with failing := s5.bst.failing.filter (fun p => p != (t, x.region)) } }
      bstNext t x.region s6

/-- A pass of target t overruns its coverage period (R355): input 43. -/
def bstLate (t : Nat) (s : State) : State :=
  safRaise 43 (irqEvent 398 (logReq Blk.bst 0x02 t (s.rd (Fd.BST_TGT_STAT_PASSES t)) 0 (s.orF Fd.BST_LATE_TARGETS (2 ^ t))))

/-- Targets a BST_CMD names: one, or all with 31; none is RANGE. -/
def bstTargets (t : Nat) : List Nat := if t = 31 then List.range 19 else if t < 19 then [t] else []

/-- A BST_CMD over its targets: RANGE for a target that does not exist. -/
def bstCmd (t : Nat) (f : Nat → State → State) (s : State) : State :=
  if (bstTargets t).isEmpty then s.wr Fd.BST_STAT_STATUS St.range
  else (forEach (bstTargets t) s f).wr Fd.BST_STAT_STATUS St.ok

/-- BST_CMD STOP: the slice yields and the target pauses (R357, R362). -/
def bstStop (t : Nat) (s : State) : State :=
  if bstRight s then
    bstCmd t (fun k u => let v := bstYield k u; { v with bst := { v.bst with paused := setIns v.bst.paused k } }) s
  else bstRefuse s

/-- RESUME, RESTART_PASS, the enables and the test mask are open in OPEN and CLOSED; INVALID has the status only (R362, Table 16.3). -/
def bstOpen (s : State) : Bool := lcsState s != 3

/-- BST_CMD RESUME: a write that concerns the target, whose slice yields (R357). -/
def bstResume (t : Nat) (s : State) : State :=
  if bstOpen s then
    bstCmd t (fun k u => let v := bstYield k u; { v with bst := { v.bst with paused := setDel v.bst.paused k } }) s
  else bstRefuse s

/-- BST_CMD RESTART_PASS: the slice yields and the pass starts at the first region. -/
def bstRestart (t : Nat) (s : State) : State :=
  if bstOpen s then bstCmd t (fun k u => (bstYield k u).clr (Fd.BST_TGT_STAT_POS k)) s else bstRefuse s

/-- A write of BST_TGT_EN (R362): clearing a bit needs the right. -/
def bstEnWrite (v : Nat) (s : State) : State :=
  let old := s.rd Fd.BST_TGT_EN_TARGETS
  let new := v % 2 ^ 19
  if ((old &&& new) ≠ old ∧ !bstRight s) ∨ !bstOpen s then bstRefuse s
  else
    let s1 := forEach ((List.range 19).filter (fun t => old.testBit t != new.testBit t)) s bstYield
    (s1.wr Fd.BST_TGT_EN_TARGETS new).wr Fd.BST_STAT_STATUS St.ok

/-- A write of BST_TEST_MASK (R362). -/
def bstMaskWrite (v : Nat) (s : State) : State :=
  if bstOpen s then s.wr Fd.BST_TEST_MASK_TARGETS (v % 2 ^ 19) else bstRefuse s

/-- A write of ARMED to BST_INJ (R362). -/
def bstInj (t : Nat) (s : State) : State :=
  if bstRight s then ((s.wr Fd.BST_INJ_TARGET t).set1 Fd.BST_INJ_ARMED).wr Fd.BST_STAT_STATUS St.ok else bstRefuse s

/-- The commanded self-test ends (R361): the failing phase of Table 15.5, 0 on a pass, and the decoders found failing. -/
def selfTestEnd (failPhase chk : Nat) (s : State) : State :=
  let pass := failPhase == 0
  let s1 := ((s.wr Fd.MEM_CHK_STAT_FAIL (chk % 65536)).wr Fd.MEM_CHK_STAT_XMC_FAIL (chk / 65536)).set1 Fd.MEM_CHK_STAT_DONE
  let s2 := if chk = 0 then s1 else memStat Fd.MEM_STAT_CHK_FAIL s1
  let s3 := (s2.set1 Fd.BST_STAT_DONE).wrB Fd.BST_STAT_PASS pass
  irqEvent 398 (logReq Blk.bst 0x03 (b2n pass) failPhase (s.rd Fd.BST_FAILED_TARGETS) s3)

end Sys2Proof.Machine
end

