-- ==== Sys2Proof/Machine/Chn.lean ====
section
/-! DEFINITION. Actuator channels, strings and echo units (R130 to R149): actions on direct channels, trailing edges, frames
from the cut to the latch, return checks, safe images, and echo measurements. -/
namespace Sys2Proof.Machine

open Sys2Proof

/-- The pin uses of the channels, without one direct channel or one string: pins of bound direct channels and of the four
output signals of bound strings (R132). -/
def pinTaken (s : State) (exCh exStr : Nat) (p : Nat) : Bool :=
  (List.range 512).any (fun c => c != exCh && s.rdB (Fd.CHN_DCFG_BOUND c) && s.rd (Fd.CHN_DCFG_PIN c) == p) ||
  (List.range 32).any (fun n => n != exStr && s.rd (Fd.CHN_SCFG2_LEN8 n) != 0 &&
    (s.rd (Fd.CHN_SCFG0_SCK_PIN n) == p || s.rd (Fd.CHN_SCFG0_SDO_PIN n) == p ||
     s.rd (Fd.CHN_SCFG1_LAT_PIN n) == p || s.rd (Fd.CHN_SCFG1_OE_PIN n) == p))

/-- Another output use of a pin is disconnected by a channel output use (R132): a fabric I/O cell or a loupe probe. -/
def pinConflict (s : State) (p : Nat) : Bool :=
  s.rdB (Fd.FAB_IOCFG_FAB_OUT p) ||
  (List.range 64).any (fun k => mapGet false s.fab.loupeOn k && s.rd (Fd.FAB_LOUPE_SEL_PIN k) == p)

/-- Pins newly carry a channel output use: PIN_CONFLICT where that disconnects another use (R132). -/
def notePins (l : List Nat) (s : State) : State :=
  if l.any (pinConflict s) then s.set1 Fd.CHN_STAT_PIN_CONFLICT else s

/-- Configuration writes are accepted in STANDBY and SAFE; the defaults applied in LOAD are exempt (R133). -/
def cfgMode (s : State) : Bool := s.mode == Md.standby || s.mode == Md.safe

/-- A write of CHN_DCFG[c] (R131 to R133). -/
def bindDirect (c v : Nat) (s : State) : State :=
  let bound := v.testBit 9
  if !cfgMode s then s.set1 Fd.CHN_STAT_CFG_REFUSED
  else if bound && pinTaken s c 32 (v % 512) then s.set1 Fd.CHN_STAT_BIND_REFUSED
  else
    let s1 := ((s.wr (Fd.CHN_DCFG_PIN c) v).wr (Fd.CHN_DCFG_BOUND c) (v / 2 ^ 9)).wr (Fd.CHN_DCFG_ECHO_UNIT c) (v / 2 ^ 12)
    let s2 := s1.wr (Fd.CHN_DCFG_ECHO_EN c) (v / 2 ^ 17)
    if bound then notePins [v % 512] s2 else s2

/-- The pins a string would use for its outputs after word w of its configuration takes value v. -/
def strPins (s : State) (n w v : Nat) : List Nat :=
  let f := fun (k lo : Nat) (g : Fld) => if w = k then bits v (lo + 8) lo else s.rd g
  [f 0 0 (Fd.CHN_SCFG0_SCK_PIN n), f 0 16 (Fd.CHN_SCFG0_SDO_PIN n), f 1 0 (Fd.CHN_SCFG1_LAT_PIN n),
   f 1 16 (Fd.CHN_SCFG1_OE_PIN n)]

/-- Whether a list names a value twice. -/
def hasDup : List Nat → Bool
  | [] => false
  | x :: r => r.contains x || hasDup r

/-- A write of CHN_SCFGw[n], w = 0 to 3 (R131 to R133): field values called ignored leave their field (R402). -/
def bindString (n w v : Nat) (s : State) : State :=
  let len := bits v 21 16
  let newLen := if w = 2 ∧ len ≤ 32 then len else s.rd (Fd.CHN_SCFG2_LEN8 n)
  let pins := strPins s n w v
  if !cfgMode s then s.set1 Fd.CHN_STAT_CFG_REFUSED
  else if w ≤ 2 ∧ newLen ≠ 0 ∧ (pins.any (pinTaken s 512 n) || hasDup pins) then s.set1 Fd.CHN_STAT_BIND_REFUSED
  else
    let t := if w = 0 then (s.wr (Fd.CHN_SCFG0_SCK_PIN n) v).wr (Fd.CHN_SCFG0_SDO_PIN n) (v / 2 ^ 16)
      else if w = 1 then
        ((s.wr (Fd.CHN_SCFG1_LAT_PIN n) v).wr (Fd.CHN_SCFG1_OE_PIN n) (v / 2 ^ 16)).wr (Fd.CHN_SCFG1_OE_POL n) (v / 2 ^ 31)
      else if w = 2 then
        let t1 := (s.wr (Fd.CHN_SCFG2_SDI_PIN n) v).wr (Fd.CHN_SCFG2_RET_MODE n) (v / 2 ^ 12)
        let t2 := if len ≤ 32 then t1.wr (Fd.CHN_SCFG2_LEN8 n) len else t1.set1 Fd.CHN_STAT_CFG_REFUSED
        if 2 ≤ v / 2 ^ 24 % 256 then t2.wr (Fd.CHN_SCFG2_DIV n) (v / 2 ^ 24) else t2.set1 Fd.CHN_STAT_CFG_REFUSED
      else
        let t1 := (s.wr (Fd.CHN_SCFG3_LATW n) v).wr (Fd.CHN_SCFG3_ECHO_UNIT n) (v / 2 ^ 16)
        (t1.wr (Fd.CHN_SCFG3_ECHO_EN n) (v / 2 ^ 21)).wr (Fd.CHN_SCFG3_LATPW n) (v / 2 ^ 22)
    if newLen ≠ 0 ∧ w ≤ 2 then notePins pins t else t

/-- The latch pulse of a string in ticks (R137): 0 acts as 1. -/
def latPw (s : State) (n : Nat) : Nat := max 1 (s.rd (Fd.CHN_SCFG3_LATPW n))

/-- The earliest latch a new shift allows (R137): the previous latch pulse's end plus T_shift plus 8. -/
def earliest (s : State) (n : Nat) : Nat := (s.strOf n).lastEnd + tShift s n + 8

/-- Cancel a pending trailing edge of a channel; PULSE_CUT counts one that is cancelled (R135). -/
def cutTrail (ch : Nat) (s : State) : State :=
  match mapGet? s.chn.trail ch with
  | some _ => { s with chn := { s.chn with trail := mapDel s.chn.trail ch } }.incWrap (Fd.CHN_CNT_COUNT 4)
  | none => s

/-- A trailing edge falls on a channel without a frame: it restores its level (R135). -/
def trailFall (ch : Nat) (s : State) : State :=
  match mapGet? s.chn.trail ch with
  | some t => { s with chn := { s.chn with trail := mapDel s.chn.trail ch } }.setLevel ch t.level
  | none => s

/-- Channels, not bits of a bound string, whose trailing edge is due in the current tick or before (R135). -/
def trailsDue (s : State) : List Nat :=
  (s.chn.trail.filter (fun e => !onString s e.1 && decide (tRel s e.2.time < 16))).map Prod.fst

/-- A direct channel's pin makes its transition of the tick (R134): it changes only if the level at the end of the tick differs from the
level `start` at its beginning, at the phase of the last action. A transition the tick already holds is replaced. -/
def noteEdge (c phase : Nat) (start : Bool) (s : State) : State :=
  let old := if s.chn.edgeTick = s.now then s.chn.edges else []
  let st := match mapGet? old c with
    | some e => !e.level
    | none => start
  let es := if s.level c = st then mapDel old c else mapPut old c ⟨phase % 16, s.level c⟩
  { s with chn := { s.chn with edgeTick := s.now, edges := es } }

/-- A trailing edge falls on a channel; a direct channel's pin changes at its phase. -/
def trailDrop (c : Nat) (s : State) : State :=
  let ph := match mapGet? s.chn.trail c with | some t => t.time % 16 | none => 0
  let t := trailFall c s
  if c < 512 then noteEdge c ph (s.level c) t else t

/-- Apply the trailing edges due. -/
def trailingEdges (s : State) : State := forEach (trailsDue s) s trailDrop

/-- Start the trailing edge of a pulse: at the fire time plus the width, with the leading edge's phase (R37, R135). -/
def startTrail (ch fire width : Nat) (level : Bool) (s : State) : State :=
  { s with chn := { s.chn with trail := mapPut s.chn.trail ch ⟨(fire + width * 16) % 2 ^ 68, level⟩ } }

/-- One fired action on a channel (R134, R135): a pending trailing edge is cut, the level is set, a pulse starts its own
trailing edge, a direct channel's pin has its transition, and the pin leaves high-impedance at the phase of the first action (R145). -/
def chanAct (ch act width fire : Nat) (s : State) : State :=
  let s1 := cutTrail ch s
  let s2 := s1.setLevel ch (actLevel act (s1.level ch))
  let s3 := if act = 2 then startTrail ch fire width false s2 else if act = 3 then startTrail ch fire width true s2 else s2
  let s4 := if ch < 512 then noteEdge ch fire (s.level ch) s3 else s3
  if ch ∈ s4.chn.idleHiZ then
    { s4 with chn := { s4.chn with idleHiZ := setDel s4.chn.idleHiZ ch, firstAct := mapPut s4.chn.firstAct ch fire } }
  else s4

/-- The channel drives a pin: a bound direct channel or a bit of a bound string (R131, R136). -/
def chanBound (s : State) (ch : Nat) : Bool := if ch < 512 then s.rdB (Fd.CHN_DCFG_BOUND ch) else onString s ch

/-- An action on an unbound channel sets UNBOUND_FIRE (R136). -/
def noteUnbound (ch : Nat) (s : State) : State := if chanBound s ch then s else s.set1 Fd.CHN_STAT_UNBOUND_FIRE

/-- A fired LEARN_ECHO event asks unit u for a measurement (R148): a busy unit counts a miss, a disabled or unbound one
measures nothing. -/
def echoArm (u ch cls fire : Nat) (high : Bool) (s : State) : State :=
  if !s.rdB (Fd.CHN_ECFG_EN u) then s
  else match mapGet? s.chn.echo u with
    | some _ => s.incSat (Fd.CHN_ESTAT_BUSY_MISSES u)
    | none =>
      let edge := if high then s.rd (Fd.CHN_ECFG_ACT_EDGE u) else s.rd (Fd.CHN_ECFG_REL_EDGE u)
      let x : EchoUnit := ⟨fire, edge == 1, cls, ch, s.rdB (Fd.NIB_LC_LEARN_DSRC cls), s.rdB (Fd.NIB_LC_LEARN_LEARN_EN cls)⟩
      { s with chn := { s.chn with echo := mapPut s.chn.echo u x } }

/-- Nib k can act at a frame's latch, `members` acting with it, without overtaking an event of its queue (R85): those ahead of it act
with it or no later. -/
def keepsOrder (s : State) (members : List Nat) (latch k : Nat) : Bool :=
  match mapGet? s.nib.nibs k with
  | none => false
  | some n => (nibsAhead s n).all (fun e => e.1 ∈ members || (e.2.mode != NibMode.crossing && decide (tRel s (effFire s e.1 e.2) ≤ tRel s latch)))

/-- The nibs of a list, in queue and ring order, that keep queue order at a latch. -/
def orderedMembers (s : State) (latch : Nat) (l : List (Nat × Nib)) : List Nat :=
  (sortBy (fun (a b : Nat × Nib) => if a.2.queue ≠ b.2.queue then decide (a.2.queue < b.2.queue)
    else decide (ringPos s a.2 ≤ ringPos s b.2)) l).foldl
    (fun ms e => if keepsOrder s ms latch e.1 then ms ++ [e.1] else ms) []

/-- The string nibs that a frame may take: armed, or locked in crossing mode, and in no frame (R138). -/
def frameFree (s : State) (st : Nat) : List (Nat × Nib) :=
  s.nib.nibs.filter (fun e =>
    decide (e.2.ev.action ≤ 4) && onString s e.2.ev.channel && (chString e.2.ev.channel).1 == st &&
    (e.2.mode == NibMode.armed || (e.2.mode == NibMode.locked && e.2.cross)) &&
    !(match (s.strOf st).frame with | some f => e.1 ∈ f.members | none => false))

/-- The trailing edges pending on bits of a string. -/
def stringTrails (s : State) (st : Nat) : List (Nat × Trail) :=
  s.chn.trail.filter (fun e => onString s e.1 && (chString e.1).1 == st)

/-- The opener of a string's next frame (R138): fire time and phase, and the nib's queue and entry (0 for a trailing edge). -/
def frameOpener (s : State) (st : Nat) : Option (Nat × Nat × Nat) :=
  let a := (frameFree s st).map (fun e => (nibKey s e.2, e.2.fire, e.2.queue, e.2.entry))
  let b := (stringTrails s st).map (fun e => ((⟨tRel s e.2.time, 0, 0⟩ : ActKey), e.2.time, 0, 0))
  match sortBy (fun x y => x.1.le y.1) (b ++ a) with
  | x :: _ => some (x.2.1, x.2.2)
  | [] => none

/-- Cut the next frame of a string: at t_L − T_shift − 8 it composes its image and starts the shift (R138). A nib whose queue has an
event ahead of it that would act later than the latch is no member: R85 binds every chapter (DEDUCED, log 75). -/
def frameCut (st : Nat) (s : State) : State :=
  match (s.strOf st).frame, frameOpener s st with
  | none, some (f0, q0, e0) =>
    let tick := f0 / 16
    let t1 := max tick (earliest s st)
    if s.now + tShift s st + 8 < t1 ∨ strLen s st = 0 ∨ !driving s.mode then s
    else
      let tl := max t1 (s.now + tShift s st + 8)
      let ph := if tl = tick then f0 % 16 else 0
      let members := orderedMembers s ((atTick tl + ph) % 2 ^ 68)
        ((frameFree s st).filter (fun e => decide (tRel s e.2.fire < tRel s (atTick (tl + s.rd (Fd.CHN_SCFG3_LATW st))))))
      let trails := ((stringTrails s st).filter (fun e => decide (tRel s (atTick (e.2.time / 16)) ≤ tRel s (atTick tl)))).map Prod.fst
      let f : Frame := ⟨tl, ph, members, trails, q0, e0, frameImage s st members trails, s.now + tShift s st, false, false,
        actOrder s members⟩
      let o := frameFirst s f members
      if members.isEmpty && trails.isEmpty then s
      else s.setStr st { (s.strOf st) with frame := some { f with opener := o.1, openEntry := o.2 } }
  | _, _ => s

/-- The bits a shift captured: LEN bits (R141). -/
def lenMask (n : Nat) : BitVec 256 := BitVec.ofNat 256 (2 ^ n - 1)

/-- Check the captured bits of a finished shift under RET_MODE (R141). -/
def returnCheck (st : Nat) (sdi : BitVec 256) (s : State) : Bool :=
  let x := s.strOf st
  let m := lenMask (strLen s st)
  let mode := s.rd (Fd.CHN_SCFG2_RET_MODE st)
  if mode = 1 then !x.shiftedOnce || (sdi &&& m) == (x.prevShift &&& m)
  else if mode = 2 then (sdi &&& m) == 0
  else true

/-- A string fails its return check or its safe-image read: its bit of CHN_SFAULT, source 178 and input 5 (R141, R143). -/
def stringFault (st : Nat) (s : State) : State :=
  safRaise 5 (irqJudge 178 (s.orF Fd.CHN_SFAULT_FAULT (2 ^ st)))

/-- The shift of a string's frame ends: the captured bits are stored and checked (R141). -/
def shiftEnd (st : Nat) (sdi : BitVec 256) (s : State) : State :=
  match (s.strOf st).frame with
  | none => s
  | some f =>
    if f.shifted then s
    else
      let ok := returnCheck st sdi s
      let x := s.strOf st
      let s1 := s.setStr st { x with
        frame := some { f with shifted := true }
        status := sdi &&& lenMask (strLen s st)
        prevShift := f.image
        shiftedOnce := true }
      if ok then s1 else stringFault st s1

/-- String st's safe image, none where a word of it is uncorrectable (R143). -/
def safeImage (st : Nat) (s : State) : Option (BitVec 256) × State :=
  (List.range 8).foldl (fun a w =>
    let r := slotRead (slotSafe st w) a.2
    (match a.1, r.1 with
      | some img, some v => some (img ||| BitVec.ofNat 256 (v * 2 ^ (32 * w)))
      | _, _ => none, r.2)) (some 0, s)

/-- A string shifts its safe image and latches it (R143): OE then stands at its enabling level in RUN and LIMITED (R145). The
captured bits are stored and checked as those of any shift. Without the image (an uncorrectable read) nothing is latched, and OE stays
at its safe-state row value. The commanded levels are not touched: a toggle after it inverts the commanded level of its channel, and in
the image of its frame the bit as latched (DESIGN CHOICE, log 75). -/
def safeLatch (st : Nat) (sdi : BitVec 256) (s : State) : State :=
  let x0 := s.strOf st
  if !x0.safeDue ∨ strLen s st = 0 then s
  else match safeImage st s with
    | (none, t) => stringFault st (t.setStr st { (t.strOf st) with safeDue := false })
    | (some img, t) =>
      let ok := returnCheck st sdi t
      let x := t.strOf st
      let t1 := t.setStr st { x with
        latched := img
        status := sdi &&& lenMask (strLen t st)
        prevShift := img
        shiftedOnce := true
        safeDue := false
        imaged := true
        lastEnd := t.now + latPw t st
        latFrom := t.now * 16
        latTo := (t.now + latPw t st) * 16
        oe := driving t.mode }
      let t2 := t1.incWrap (Fd.CHN_CNT_COUNT 0)
      if ok then t2 else stringFault st t2

/-- EFILT: 0 acts as 1 (R147). -/
def echoFilt (s : State) (u : Nat) : Nat := max 1 (s.rd (Fd.CHN_ECFG_EFILT u))

/-- Stamp of an edge that unit u accepts at its EFILT-th sample now (R147). -/
def echoStamp (s : State) (u : Nat) : Nat := (s.now + 2 ^ 64 - echoFilt s u - 2) % 2 ^ 64

/-- A stamp lies beyond ETMO × 256 ticks from the fire time (R148). -/
def echoPast (s : State) (u fire stamp : Nat) : Bool :=
  decide (0 < diffS 68 (atTick stamp) ((fire + s.rd (Fd.CHN_ETIME_ETMO u) * 4096) % 2 ^ 68))

/-- No expected edge has come within ETMO × 256 ticks, and none stamped within can still come (R148). -/
def echoTimeout (u : Nat) (s : State) : State :=
  match mapGet? s.chn.echo u with
  | none => s
  | some x =>
    if echoPast s u x.fire (echoStamp s u) then
      { s with chn := { s.chn with echo := mapDel s.chn.echo u } }.incSat (Fd.CHN_ESTAT_TIMEOUTS u)
    else s

/-- Stamp of an edge whose new level has been sampled a number of times up to now: t_a − EFILT − 2, where t_a is the tick of its
EFILT-th sample (R147). -/
def echoStamped (s : State) (samples : Nat) : Nat := (s.now + 2 ^ 64 - samples - 2) % 2 ^ 64

/-- Unit u has sampled a new level a number of times in a row. It accepts the edge at the EFILT-th sample (R147); a shorter level is no
edge. Of the accepted edges (R148) the first expected edge at or after the end of the blanking gives m, clamped to
the delay's range (R126); one beyond ETMO comes after the timeout. -/
def echoEdge (u samples : Nat) (rising : Bool) (s : State) : State :=
  match mapGet? s.chn.echo u with
  | none => s
  | some x =>
    let stamp := echoStamped s samples
    let edge16 := atTick stamp
    let open16 := (x.fire + s.rd (Fd.CHN_ETIME_EBLANK u) * 256) % 2 ^ 68
    if samples < echoFilt s u then s
    else if echoPast s u x.fire stamp then echoTimeout u s
    else if rising == x.falling || decide (diffS 68 edge16 open16 < 0) then s
    else
      let m := (diffS 68 edge16 x.fire).toNat
      let mc := min m (2 ^ 24 - 1)
      let s1 := if m > 2 ^ 24 - 1 then s.set1 Fd.NIB_ARITH_STAT_DELAY_SAT else s
      let s2 := (s1.wr (Fd.CHN_ELAST_M u) mc).incWrap (Fd.CHN_CNT_COUNT 5)
      { s2 with
        chn := { s2.chn with echo := mapDel s2.chn.echo u }
        nib := { s2.nib with echo := s2.nib.echo ++ [⟨stamp, u, mc, x.cls, x.chan, x.dsrc, x.learn⟩] } }

/-- The outputs take their safe values once the last locked nib has fired on a move to STANDBY (R144): trailing edges are cut
and counted, pins are safe, frames are abandoned. -/
def standbyOutputs (s : State) : State :=
  outputsSafe (s.addWrap (Fd.CHN_CNT_COUNT 4) s.chn.trail.length)

end Sys2Proof.Machine
end

