-- ==== Sys2Proof/Machine/Sched.lean ====
section
/-! DEFINITION. The scheduler: selection (R109 to R113), arming and displacement (R106, R111), re-timing (R114, R116), the
guard (R115, R117), firing (R118) and crossing mode (R123, R124). -/
namespace Sys2Proof.Machine

open Sys2Proof

/-! ### Selection -/

/-- The engine may arm: RUN or LIMITED, no reaction, no run-enable wait, source VALID (R108, R109). -/
def mayArm (s : State) : Bool := driving s.mode && !s.saf.reaction && !s.saf.runWait && engValid s

/-- Number of predictions of a queue that wait to be armed. -/
def armingOf (s : State) (q : Nat) : Nat := (s.nib.arming.filter (fun n => n.queue == q)).length

/-- The next unarmed event of a queue is a matter for the select stage: RUNNING, group enabled, no restore owed, no barrier
of the queue armed or arrived, no late event waiting for its predecessor (R100, R109, R129). -/
def queueOpen (s : State) (q : Nat) (d : Desc) : Bool :=
  d.state == 1 && (s.rd Fd.QUE_GROUP_EN_EN).testBit d.group && !(s.nib.restores.any (fun r => r.1 == q)) &&
  (mapGet? s.que.barAt q).isNone && (mapGet? s.que.dropPend q).isNone &&
  !(s.nib.nibs.any (fun e => e.2.queue == q && e.2.ev.action == 6)) &&
  !(s.nib.arming.any (fun n => n.queue == q && n.ev.action == 6))

/-- A candidate: its order key, queue, ring index. -/
structure Cand where
  bucket : Int
  queue : Nat
  idx : Nat
deriving DecidableEq, Repr

/-- Key under which an examined candidate is remembered until the next update. -/
def Cand.key (c : Cand) : Nat := c.queue * 65536 + c.idx

/-- Distance of a target from the engine angle along the direction of travel, Q.8 (R109). -/
def aheadOf (s : State) (target : Nat) : Int := alongDir (engDir s) (diffS 40 (target * 256) (engTheta s))

/-- Signed bucket distance along the direction of travel: buckets of 2^18 aq (R110). -/
def bucketOf (s : State) (target : Nat) : Int :=
  alongDir (engDir s) (diffS 14 (target / 2 ^ 18) (engWord s / 2 ^ 18))

/-- The candidate of one queue, if it has one (R109): an unreadable descriptor or head is examined first, so that Table 4.9 and R88
find it. -/
def candOf (s : State) (q : Nat) : Option Cand :=
  match getDesc s q with
  | none => some ⟨-(2 ^ 20), q, 0⟩
  | some d =>
    let n := d.armed + armingOf s q
    if !queueOpen s q d || decide (pendingOf d ≤ n) then none
    else
      let idx := ringAdd d d.cidx n
      match getEntry s (ringEntry d idx) with
      | none => some ⟨-(2 ^ 20), q, idx⟩
      | some e =>
        let dist := aheadOf s e.target
        let admitted := e.bidir || d.dir == engDir s
        if admitted && decide (-(16777216 * 256) ≤ dist) && decide (dist ≤ (s.rd Fd.NIB_REACH_REACH * 256 : Nat)) then
          some ⟨bucketOf s e.target, q, idx⟩
        else none

/-- The candidates not yet examined since the last update, in the order of R110. -/
def candidates (s : State) : List Cand :=
  let l := (queuesIn s 1).filterMap (candOf s)
  sortBy (fun a b => if a.bucket ≠ b.bucket then decide (a.bucket < b.bucket) else decide (a.queue ≤ b.queue))
    (l.filter (fun c => c.key ∉ s.nib.examined))

/-- The arming latency in ticks (R105). -/
def armLatency : Nat := 16

/-- A new armed nib for an event. -/
def nibFor (q idx fire phi dir : Nat) (e : Ev) (late : Bool) (mode : NibMode) : Nib :=
  ⟨q, idx, mode, fire, fire, phi, dir, 0, e.w0, e.w1, e.w2, e.w3, late, none, false, false, false⟩

/-- Hand a predicted event to the arm stage (R110). -/
def toArm (n : Nib) (s : State) : State := { s with nib := { s.nib with arming := s.nib.arming ++ [n] } }

/-- Retire the late event next to be armed, in ring order (Table 4.6, LATE 1): now, or after its predecessor. -/
def dropLate (q : Nat) (d : Desc) (s : State) : State :=
  if d.armed + armingOf s q = 0 then retireHead q 2 s.now d s
  else { s with que := { s.que with dropPend := mapPut s.que.dropPend q s.now } }

/-- An event armed for a tick of its own although the engine may be in crossing mode, where that tick then stands (R96, R124). -/
def atOwnTick (s : State) (n : Nib) : Nib := { n with cross := n.cross || crossing s, fixed := n.fixed || crossing s }

/-- A late event at ring index idx meets its queue's policy (R96). -/
def lateEvent (q idx phi dir : Nat) (d : Desc) (e : Ev) (s : State) : State :=
  if d.late = 0 then
    toArm (atOwnTick s (nibFor q idx (afterPred s q (atTick (s.now + armLatency))) phi dir e true .armed)) s
  else if d.late = 1 then dropLate q d s
  else haltQueue q 5 d idx s

/-- An event that is never late is armed at the earliest tick, or with its predecessor; CLAMP counts it (R110, R129). -/
def armClamped (q idx phi dir : Nat) (e : Ev) (s : State) : State :=
  toArm (atOwnTick s (nibFor q idx (afterPred s q (atTick (s.now + armLatency))) phi dir e false .armed))
    (s.incWrap (Fd.NIB_CNT_COUNT 5))

/-- The direction an event fires in: its queue's, or for BIDIR 1 the direction of travel. -/
def fireDir (s : State) (d : Desc) (e : Ev) : Nat := if e.bidir then engDir s else d.dir

/-- Distance from the engine angle to a fire angle in a direction of travel, Q.8. -/
def phiAhead (s : State) (dir phi : Nat) : Int := alongDir dir (diffS 40 phi (engTheta s))

/-- A fire angle lies behind the shaft as a prediction takes its distance (R113): in the queue's direction, or for BIDIR 1 in the
direction of motion. -/
def behindShaft (s : State) (e : Ev) (qdir phi : Nat) : Bool :=
  let d := diffS 40 phi (engTheta s)
  decide ((if predictNeg e.bidir qdir (engV s) then -d else d) < 0)

/-- Examine an event outside crossing mode (R110): a barrier whose target the shaft has passed is clamped, whatever its BIDIR
(R129). -/
def examineTimed (q idx : Nat) (d : Desc) (e : Ev) (s : State) : State :=
  let r := predictEv e d.dir s
  let phi := r.2.1
  let t := r.2.2
  let dir := fireDir t d e
  if e.action == 6 && behindShaft t e d.dir phi then armClamped q idx phi dir e t
  else match r.1 with
  | none => t
  | some tau =>
    if tau > 2 ^ 22 * 16 then t
    else
      let f := afterPred t q (fireOf t tau)
      if tRel t f < (armLatency * 16 : Nat) then
        if e.bidir || e.action == 6 then armClamped q idx phi dir e t else lateEvent q idx phi dir d e t
      else if tRel t f ≤ (t.nib.horizon * 16 : Nat) then toArm (nibFor q idx f phi dir e false .armed) t
      else t

/-- Examine an event in crossing mode (R124, R129): within NIB_CROSS_REACH ahead it is armed by its fire angle; behind the
shaft a barrier arrives, a BIDIR 1 event waits, another event is late. -/
def examineCross (q idx : Nat) (d : Desc) (e : Ev) (s : State) : State :=
  let l := eventLead e s
  let phi := fireAngle e.target l.1
  let t := l.2
  let dir := fireDir t d e
  let dist := phiAhead t dir phi
  if dist ≤ 0 ∧ e.action = 6 then armClamped q idx phi dir e t
  else if dist < 0 then (if e.bidir then t else lateEvent q idx phi dir d e t)
  else if dist ≤ (t.rd Fd.NIB_CROSS_REACH_REACH * 256 : Nat) then
    toArm (nibFor q idx (atTick t.now) phi dir e false .crossing) t
  else t

/-- Examine one candidate (R88, R110). -/
def examine (c : Cand) (s : State) : State :=
  let s0 := { s with nib := { s.nib with examined := setIns s.nib.examined c.key } }
  withDesc c.queue (fun d t =>
    match readEntry (ringEntry d c.idx) t with
    | (none, u) => haltQueue c.queue 4 d c.idx u
    | (some e, u) => if crossing u then examineCross c.queue c.idx d e u else examineTimed c.queue c.idx d e u) s0

/-- One tick of the select stage: up to 4 candidates (R110). -/
def selectTick (s : State) : State :=
  if mayArm s then forEach ((candidates s).take 4) s examine else s

/-! ### Arming -/

/-- The direction of a nib's event is admitted (R90, R91). -/
def dirAdmitted (s : State) (n : Nib) : Bool :=
  n.ev.bidir || match getDesc s n.queue with
    | some d => d.dir == engDir s
    | none => false

/-- How far ahead an event lies in crossing mode: its fire angle, or that of an event ahead of it in its queue, which fires no later
(R85). -/
def angleAhead (s : State) (n : Nib) : Int :=
  (nibsAhead s n).foldl (fun m e => max m (phiAhead s e.2.dir e.2.phi)) (phiAhead s n.dir n.phi)

/-- When an event fires as things stand: at its fire time, and no earlier than an event ahead of it in its queue (R85). A prediction
that waits to be armed may hold a time from before its predecessor was re-timed. -/
def timeAhead (s : State) (n : Nib) : Int :=
  (nibsAhead s n).foldl (fun m e => max m (tRel s (effFire s e.1 e.2))) (tRel s n.fire)

/-- What displacement compares (R111): fire times, or in crossing mode fire angles. -/
def dispKey (s : State) (n : Nib) : Int := if crossing s then angleAhead s n else timeAhead s n

/-- The order of displacement (R111): the latest fire time, or in crossing mode the farthest fire angle; then the highest queue
number, then the latest event of the queue. -/
def dispLe (s : State) (a b : Nat × Nib) : Bool :=
  if dispKey s a.2 ≠ dispKey s b.2 then decide (dispKey s b.2 < dispKey s a.2)
  else if a.2.queue ≠ b.2.queue then decide (b.2.queue < a.2.queue)
  else decide (ringPos s b.2 ≤ ringPos s a.2)

/-- The nib a new event displaces, if every nib is in use and some unlocked nib lies later (R111). -/
def displaced (s : State) (n : Nib) : Option (Nat × Nib) :=
  match sortBy (dispLe s) (s.nib.nibs.filter (fun e => e.2.mode != NibMode.locked)) with
  | x :: _ => if dispKey s n < dispKey s x.2 then some x else none
  | [] => none

/-- Write nib k: ARMED of its queue rises, ARM counts, the high-water mark follows (R104, R106). -/
def armInto (k : Nat) (n : Nib) (s : State) : State :=
  let s1 := withDesc n.queue (fun d t => putDesc n.queue { d with armed := d.armed + 1 } t) (putNib k n s)
  let s2 := s1.incWrap (Fd.NIB_CNT_COUNT 0)
  s2.wr Fd.NIB_HWM_IN_USE_MAX (max (s2.rd Fd.NIB_HWM_IN_USE_MAX) s2.nib.nibs.length)

/-- The oldest prediction's nib is written: into the lowest free nib, or into the one it displaces (R106, R111). Where it cannot be
armed, because its queue no longer arms, its direction is no longer admitted (R90) or every nib is locked or due earlier, the
predictions behind it in its queue go back to the wheel with it. -/
def armOldest (s : State) : State :=
  match s.nib.arming with
  | [] => s
  | n :: rest =>
    let s0 := { s with nib := { s.nib with arming := rest } }
    if qState s n.queue ≠ 1 ∨ !mayArm s ∨ !dirAdmitted s n then withdraw n.queue s0
    else match freeIdx s0 with
      | some k => armInto k n s0
      | none => match displaced s0 n with
        | none => withdraw n.queue s0
        | some x => armInto x.1 n (retractFrom x.2 (Fd.NIB_CNT_COUNT 11) s0)

/-- The descriptor of the oldest queue with retracted nibs is restored: ARMED falls by their number (R121). -/
def restoreOldest (s : State) : State :=
  match s.nib.restores with
  | [] => s
  | r :: rest =>
    withDesc r.1 (fun d t => putDesc r.1 { d with armed := d.armed - r.2 } t)
      { s with nib := { s.nib with restores := rest } }

/-! ### The guard -/

/-- A sector swap is ready (R213): the shadow is VERIFIED, no scrub repair of it is in progress, and its PLANE_ID, networks and PL_LIMIT
fit. -/
def swapReady (s : State) (e : Ev) : Bool :=
  match mapGet? s.cfg.shadow e.channel with
  | none => false
  | some p =>
    let id := e.w2.toNat % 65536
    p.st == 2 && (id == 0 || id == p.planeId) && decide (s.rd Fd.PWR_PL_CURRENT ≤ p.plLimit) &&
    (p.nets &&& s.rd Fd.FAB_CLK_STAT_NET_RUN == p.nets) && p.repair.isNone

/-- Check 2 of R115: the queue is RUNNING and its group enabled. A halt with cause 4 leaves the events armed ahead of its entry to fire
(R88). -/
def guardQueue (s : State) (n : Nib) : Bool :=
  (qState s n.queue == 1 || (qState s n.queue == 3 && qCause s n.queue == 4)) &&
  match getDesc s n.queue with
  | some d => (s.rd Fd.QUE_GROUP_EN_EN).testBit d.group
  | none => false

/-- The nib's event acts on a bit of a string: it fires with a frame (R138). -/
def strBit (s : State) (n : Nib) : Bool := decide (n.ev.action ≤ 4) && onString s n.ev.channel

/-- Retraction for direction (Table 5.2): the first unlocked BIDIR 0 nib of the queue and every nib behind it. -/
def retractDir (q : Nat) (s : State) : State :=
  let l := s.nib.nibs.filter (fun e => e.2.queue == q && !e.2.ev.bidir && e.2.mode != NibMode.locked)
  match sortBy (fun (a b : Nat × Nib) => decide (ringPos s a.2 ≤ ringPos s b.2)) l with
  | x :: _ => retractFrom x.2 (Fd.NIB_CNT_COUNT 9) s
  | [] => s

/-- Retraction of every unlocked nib while the source is not VALID (R108); the predictions that wait to be armed go back with them. -/
def retractInvalid (s : State) : State :=
  withdrawWhere (fun _ => true) (retractWhere (fun _ => true) (Fd.NIB_CNT_COUNT 15) s)

/-- A swap that was not ready goes back to its queue, and is offered again at the next update, not before (R128). -/
def retractSwap (n : Nib) (s : State) : State :=
  let t := retractFrom n (Fd.NIB_CNT_COUNT 12) s
  { t with nib := { t.nib with examined := setIns t.nib.examined (Cand.mk 0 n.queue n.entry).key } }

/-- Places taken in tick t: locked nibs but for barriers, dropped ones and members of frames, and locked frames with a member (R117,
R140). -/
def placesTaken (s : State) (t : Nat) : Nat :=
  (s.nib.nibs.filter (fun e => e.2.mode == NibMode.locked && e.2.fire / 16 == t && e.2.ev.action != 6 && e.2.dropAt.isNone &&
    !strBit s e.2)).length +
  (s.chn.str.filter (fun e => match e.2.frame with
    | some f => f.locked && f.tL == t && !f.members.isEmpty
    | none => false)).length

/-- A swap for the sector is already locked for tick t (R117). -/
def swapTaken (s : State) (t sector : Nat) : Bool :=
  s.nib.nibs.any (fun e => e.2.mode == NibMode.locked && e.2.fire / 16 == t && e.2.ev.action == 7 && e.2.ev.channel == sector)

/-- Lock nib k: LOCK counts and the speculation record follows (NIB_SPEC_MAX). -/
def lockNib (k : Nat) (n : Nib) (s : State) : State :=
  let shift := (diffS 68 n.fire n.fire0).natAbs
  let s1 := (putNib k { n with mode := .locked } s).incWrap (Fd.NIB_CNT_COUNT 2)
  s1.wr Fd.NIB_SPEC_MAX_SHIFT (max (s1.rd Fd.NIB_SPEC_MAX_SHIFT) (min shift (2 ^ 24 - 1)))

/-- A fire time in force for nib k: a frame whose window it leaves loses it (R139). -/
def placeNib (k : Nat) (m : Nib) (s : State) : State :=
  let s1 := putNib k m s
  match frameOf s1 k m with
  | some f =>
    if decide (tRel s1 (atTick (f.tL + s1.rd (Fd.CHN_SCFG3_LATW (chString m.ev.channel).1))) ≤ tRel s1 m.fire) then recomposeAll [k] s1
    else s1
  | none => s1

/-- A nib is passed over in tick t (R117): its queue's late policy applies. -/
def passOver (k : Nat) (t : Nat) (s : State) : State :=
  match mapGet? s.nib.nibs k with
  | none => s
  | some n =>
    withDesc n.queue (fun d u =>
      if d.late = 0 then putNib k (atOwnTick u { n with fire := atTick (t + 1), late := true, mode := .armed }) u
      else if d.late = 1 then
        putNib k { n with mode := .locked, dropAt := some u.now, fire := if n.fire / 16 = t then n.fire else atTick t } u
      else withDesc n.queue (fun d2 v => haltQueue n.queue 5 d2 n.entry v) (retractFrom n (Fd.NIB_CNT_COUNT 10) u))
      (s.incWrap (Fd.NIB_CNT_COUNT 6))

/-- An event ahead of a nib in its queue waits for its fire angle: the nib's own is not judged before it (R85, R124). -/
def crossAhead (s : State) (n : Nib) : Bool :=
  (nibsAhead s n).any (fun e =>
    e.2.mode == NibMode.crossing || (crossing s && e.2.mode == NibMode.armed && !e.2.fixed))

/-- The time before which a nib does not act, for the event ahead of it in its queue (R85): that event's latch or fire time; the next
tick at least while a string bit ahead waits for a frame. -/
def holdFire (s : State) (t : Nat) (n : Nib) : Nat :=
  match nibsAhead s n with
  | [] => n.fire
  | e :: _ =>
    if strBit s e.2 && e.2.dropAt.isNone && (frameOf s e.1 e.2).isNone then laterOf s e.2.fire (atTick (t + 1))
    else effFire s e.1 e.2

/-- Nib k, with a fire time in tick t, has no place there (R117). -/
def noPlace (s : State) (t : Nat) (n : Nib) : Bool :=
  decide (64 ≤ placesTaken s t) || (n.ev.action == 7 && swapTaken s t n.ev.channel)

/-- What the guard does with a nib (R115): checks 2 to 6 for tick t. `passed` are the queues passed over in the tick: a later nib of
one is passed over with it, and a barrier, which is never late, follows the events ahead of it. -/
def guardNib (t : Nat) (k : Nat) (passed : List Nat) (s : State) : List Nat × State :=
  match mapGet? s.nib.nibs k with
  | none => (passed, s)
  | some n =>
    if n.mode = NibMode.locked then (passed, s)
    else if !guardQueue s n then (passed, retractFrom n (Fd.NIB_CNT_COUNT 10) s)
    else if !engValid s then (passed, retractInvalid s)
    else if !dirAdmitted s n then (passed, retractDir n.queue s)
    else if n.mode = NibMode.crossing then (passed, s)
    else if crossing s && !n.fixed then (passed, putNib k { n with mode := .crossing } s)
    else if crossAhead s n then (passed, putNib k { n with mode := .crossing, met := true } s)
    else if n.ev.action = 7 ∧ !swapReady s n.ev then (passed, retractSwap n s)
    else if n.ev.action ≠ 6 ∧ n.queue ∈ passed then (passed, passOver k t s)
    else
      let m := { n with fire := laterOf s n.fire (holdFire s t n) }
      if tRel s (atTick (t + 1)) ≤ tRel s m.fire then (passed, placeNib k m s)
      else if n.ev.action ≠ 6 ∧ noPlace s t n then (setIns passed n.queue, passOver k t (putNib k m s))
      else (passed, lockNib k m s)

/-- A member of a frame is judged by checks 2 to 4 (R139): what becomes of its nib. -/
def guardMember (k : Nat) (s : State) : State :=
  match mapGet? s.nib.nibs k with
  | none => s
  | some n =>
    if n.mode = NibMode.locked then s
    else if !guardQueue s n then retractFrom n (Fd.NIB_CNT_COUNT 10) s
    else if !engValid s then retractInvalid s
    else if !dirAdmitted s n then retractDir n.queue s
    else if crossing s && !n.fixed then
      recomposeAll [k] (putNib k { n with mode := .crossing } s)
    else s

/-- A member locks with its frame (R140); one locked in crossing mode is locked already. -/
def lockMember (k : Nat) (s : State) : State :=
  match mapGet? s.nib.nibs k with
  | some n => if n.mode = NibMode.locked then s else lockNib k n s
  | none => s

/-- Queues of the nibs of a list. -/
def memberQueues (s : State) (l : List Nat) : List Nat := (nibsOf s l).map Nib.queue

/-- A frame is passed over in its latch tick (R140): it is handled as one nib of the opener's queue, and each member's queue applies
its own late policy; the members that do not fire with it leave it. EXCESS counts each member, not the frame once (DESIGN CHOICE, log
75). -/
def passFrame (st : Nat) (g : Frame) (s : State) : State :=
  let s1 := s.setStr st { (s.strOf st) with frame := some { g with tL := g.tL + 1, phase := 0 } }
  let s2 := forEach g.members s1 (fun k t => passOver k g.tL t)
  recomposeAll (g.members.filter (fun k => match mapGet? s2.nib.nibs k with | some n => n.dropAt.isSome | none => true)) s2

/-- Every event ahead of nib k in its queue is locked, or acts with it as one of `members` (R85). -/
def aheadSettled (s : State) (members : List Nat) (k : Nat) : Bool :=
  match mapGet? s.nib.nibs k with
  | none => false
  | some n => (nibsAhead s n).all (fun e => e.1 ∈ members || e.2.mode == NibMode.locked)

/-- The guard of a frame at t_L − 2 (R139, R140): members that fail their checks, whose queue order would break (R85) or whose queue
was passed over in the tick leave it; else all members lock together; a frame without a place, or whose opener's queue was passed over,
is passed over. -/
def guardFrame (st : Nat) (passed : List Nat) (s : State) : List Nat × State :=
  match (s.strOf st).frame with
  | none => (passed, s)
  | some f =>
    if f.locked then (passed, s)
    else
      let s1 := forEach f.members s guardMember
      match (s1.strOf st).frame with
      | none => (passed, s1)
      | some g =>
        let ext := (memberQueues s1 g.members).foldl setIns passed
        if s1.now + 2 < g.tL then (passed, s1)
        else if !g.members.isEmpty && (decide (g.opener ∈ passed) || decide (64 ≤ placesTaken s1 g.tL)) then
          (ext, passFrame st g s1)
        else
          let late := g.members.filter (fun k => match mapGet? s1.nib.nibs k with | some n => decide (n.queue ∈ passed) | none => false)
          let stray := g.members.filter (fun k =>
            k ∉ late && !(keepsOrder s1 g.members ((atTick g.tL + g.phase) % 2 ^ 68) k && aheadSettled s1 g.members k))
          if late.isEmpty && stray.isEmpty then
            let s2 := forEach g.members s1 lockMember
            (passed, s2.setStr st { (s2.strOf st) with frame := some { g with locked := true } })
          else (passed, recomposeAll (late ++ stray) (forEach late s1 (fun k t => passOver k g.tL t)))

/-- What the guard examines in one pass, in the order of R117: nibs and frames due within 2 ticks. -/
inductive Due where
  | nib (k : Nat)
  | frame (st : Nat)
deriving DecidableEq, Repr

/-- The order key of a frame at its opener's place (R140). -/
def openerKey (s : State) (f : Frame) : ActKey := ⟨tRel s (atTick f.tL + f.phase), f.opener, ringOf s f.opener f.openEntry⟩

/-- The order key of a frame: its opener's place, but behind the unlocked events ahead of its members in their queues, which are judged
first (R85). -/
def frameKey (s : State) (f : Frame) : ActKey :=
  ((nibsOf s f.members).flatMap (nibsAhead s)).foldl (fun (m : ActKey) e =>
    if e.2.mode == NibMode.locked || e.1 ∈ f.members then m
    else
      let k := match frameOf s e.1 e.2 with | some g => openerKey s g | none => nibKey s e.2
      let k1 : ActKey := { k with ring := k.ring + 1 }
      if m.le k1 then k1 else m) (openerKey s f)

/-- The order of the guard within a tick: ascending phase, queue, ring (R117); a frame stands at its opener's place (R140). -/
def dueList (s : State) : List (Nat × ActKey × Due) :=
  let a := (s.nib.nibs.filter (fun e => e.2.mode == NibMode.armed &&
      !strBit s e.2 && decide (tRel s e.2.fire < 48))).map
    (fun e => (e.2.fire / 16, nibKey s e.2, Due.nib e.1))
  let b := (s.chn.str.filter (fun e => match e.2.frame with
      | some f => !f.locked && decide (f.tL ≤ s.now + 2)
      | none => false)).map
    (fun e => match e.2.frame with
      | some f => (f.tL, frameKey s f, Due.frame e.1)
      | none => (0, ⟨0, 0, 0⟩, Due.frame e.1))
  sortBy (fun x y => x.2.1.le y.2.1) (a ++ b)

/-- One pass of the guard (R115). A failure of check 1 clears the nibs (R119). -/
def guardPass (s : State) : State :=
  let l := dueList s
  if l.isEmpty then s
  else if !driving s.mode || s.saf.reaction then clearNibs s
  else
    (l.foldl (fun (a : Nat × List Nat × State) x =>
      let passed := if x.1 = a.1 then a.2.1 else []
      match x.2.2 with
      | .nib k => let r := guardNib x.1 k passed a.2.2; (x.1, r.1, r.2)
      | .frame st => let r := guardFrame st passed a.2.2; (x.1, r.1, r.2)) (0, [], s)).2.2

/-! ### Firing -/

/-- Outcome code of a fired event (Table 4.10). For a sector swap fired late under LATE 0 R118 gives 1 and R128 gives 7: it is 1 here, as
for every late fire (DESIGN CHOICE, log 75). -/
def firedOutcome (n : Nib) : Nat :=
  if n.late then 1 else if n.ev.action = 5 then 5 else if n.ev.action = 7 then 7 else 0

/-- PL_LIMIT of the active planes: the lowest-numbered among them, 3 while none is active (R215). -/
def refreshPlLimit (s : State) : State :=
  s.wr Fd.FAB_CLK_STAT_PL_LIMIT
    ((s.cfg.active.filter (fun e => s.rdB (Fd.CFG_SECT_STAT_ACTIVE e.1))).foldl (fun m e => min m e.2.plLimit) 3)

/-- The data of the active planes of active sectors, in sector order. -/
def activeData (s : State) : List (List Byte) :=
  (s.cfg.active.filter (fun e => s.rdB (Fd.CFG_SECT_STAT_ACTIVE e.1))).map (fun e => e.2.bytes)

/-- A global network runs. -/
def netOn (s : State) (n : Nat) : Bool := (s.rd Fd.FAB_CLK_STAT_NET_RUN).testBit n

/-- The global network that clocks a fabric port (R189); ports as Config.portNet numbers them. -/
def portNet (s : State) (port : Nat) : Nat := Config.portNet (activeData s) port % 24

/-- A fabric port does something: the ports are connected and its clock runs (R189). -/
def portOn (s : State) (port : Nat) : Bool := s.fab.connected && netOn s (portNet s port)

/-- FAB_OUT of every pin follows the active planes (R185, R214); a pin that a channel uses and the fabric comes to drive is a conflict
(R132). -/
def fabOutRefresh (s : State) : State :=
  let d := activeData s
  let clash := (boundPins s).any (fun p => Config.fabDrives d p && !s.rdB (Fd.FAB_IOCFG_FAB_OUT p))
  forEach (List.range 512) (if clash then s.set1 Fd.CHN_STAT_PIN_CONFLICT else s)
    (fun p t => t.wrB (Fd.FAB_IOCFG_FAB_OUT p) (Config.fabDrives d p))

/-- A plane is REPAIRABLE while its source bank has AUTH 1 and has not been written (R217). -/
def planeRepairable (s : State) (a : Plane) : Bool := a.repairable && s.rdB (Fd.CFG_BANK_STAT_AUTH a.bank)

/-- Show the planes of a sector in CFG_SECT_STAT. -/
def sectShow (k : Nat) (s : State) : State :=
  let s1 := match mapGet? s.cfg.active k with
    | some a => (((s.wrB (Fd.CFG_SECT_STAT_ACT_REPAIRABLE k) (planeRepairable s a)).wr (Fd.CFG_SECT_STAT_ACT_SRC_BANK k) a.bank).wr
        (Fd.CFG_SECT_STAT_ACT_SRC_SLOT k) a.slot).wr (Fd.CFG_SECT_STAT_ACTIVE_ID k) a.planeId
    | none => s
  match mapGet? s1.cfg.shadow k with
  | some a => ((((s1.wr (Fd.CFG_SECT_STAT_SHADOW_STATE k) a.st).wrB (Fd.CFG_SECT_STAT_SHD_REPAIRABLE k) (planeRepairable s a)).wr
      (Fd.CFG_SECT_STAT_SHD_SRC_BANK k) a.bank).wr (Fd.CFG_SECT_STAT_SHD_SRC_SLOT k) a.slot).wr
      (Fd.CFG_SECT_STAT_SHADOW_ID k) a.planeId
  | none => s1

/-- The shadow plane of a sector shows as EMPTY in CFG_SECT_STAT. -/
def shadowBlank (k : Nat) (s : State) : State :=
  ((((s.clr (Fd.CFG_SECT_STAT_SHADOW_STATE k)).clr (Fd.CFG_SECT_STAT_SHD_REPAIRABLE k)).clr (Fd.CFG_SECT_STAT_SHD_SRC_BANK k)).clr
    (Fd.CFG_SECT_STAT_SHD_SRC_SLOT k)).clr (Fd.CFG_SECT_STAT_SHADOW_ID k)

/-- The pins the design of a sector's active plane drives. -/
def sectorPins (s : State) (k : Nat) : List Nat :=
  if s.rdB (Fd.CFG_SECT_STAT_ACTIVE k) then (List.range 512).filter (fun p => ((designOf s k).pin p).isSome) else []

/-- A sector swap acts (R214, R215): the planes exchange, the former active plane is a VERIFIED shadow; with FF_INIT 1 the
sector's registers take their initial values. Through this tick the sector sees no clock edge and its outputs hold; whether the fabric
drives a pin follows the new plane from the next tick. In a sector that no load has made active there is no former active plane: the shadow
is EMPTY after it, and the sector stays not active (R203; DEDUCED, log 72). -/
def swapPlanes (k : Nat) (ffInit : Bool) (s : State) : State :=
  match mapGet? s.cfg.shadow k with
  | some b =>
    let s1 := { s with
      cfg := { s.cfg with
        active := mapPut s.cfg.active k { b with st := 2, passBad := false }
        shadow := match mapGet? s.cfg.active k with
          | some a => mapPut s.cfg.shadow k { a with st := 2, passBad := false }
          | none => mapDel s.cfg.shadow k
        scrubPos := mapDel (mapDel s.cfg.scrubPos (2 * k)) (2 * k + 1) }
      fab := { s.fab with
        swapTick := mapPut s.fab.swapTick k s.now
        swapPins := mapPut s.fab.swapPins k (sectorPins s k)
        initDone := if ffInit then mapPut s.fab.initDone k true else s.fab.initDone } }
    let s2 := if ffInit then sectorInit k b.bytes s1 else s1
    sectShow k (shadowBlank k (refreshPlLimit (s2.incWrap Fd.CFG_SWAP_CNT_COUNT)))
  | none => s

/-- CIDX of a queue rises past an event that has left it, with its outcome; a late event that waited behind it is retired after it
(R118, Table 4.6). The index updates of a queue halted with cause 8 are discarded (R99). -/
def queueLeft (n : Nib) (oc phase time : Nat) (s : State) : State :=
  if qState s n.queue = 3 ∧ qCause s n.queue = 8 then s
  else serveDrop n.queue (withDesc n.queue (fun d t =>
    noteRetired n.queue (outcome n.queue d oc phase n.w3 time
      (putDesc n.queue { d with cidx := ringAdd d d.cidx 1, armed := d.armed - 1 } t))) s)

/-- The queue's side of a fire: the fire time is kept, and the event leaves the queue. -/
def queueFired (n : Nib) (oc : Nat) (s : State) : State :=
  queueLeft n oc (n.fire % 16) (n.fire / 16) { s with nib := { s.nib with lastFire := mapPut s.nib.lastFire n.queue n.fire } }

/-- A barrier's nib fires: it arrives (R92, R129). ARMED falls; the entry stays at the head. -/
def barrierArrive (n : Nib) (s : State) : State :=
  let b := n.ev.w2.toNat % 256
  let s1 := (s.incWrap (Fd.QUE_BAR_ARRIVED b))
  let s2 := { s1 with que := { s1.que with barAt := mapPut s1.que.barAt n.queue b } }
  withDesc n.queue (fun d t => putDesc n.queue { d with armed := d.armed - 1 } t) s2

/-- Remember the class of an event whose class uses the channel delay (R127). -/
def noteClass (n : Nib) (s : State) : State :=
  if n.ev.action ≤ 4 ∧ s.rdB (Fd.NIB_LC_LEARN_DSRC n.ev.cls) then
    { s with nib := { s.nib with classRec := mapPut s.nib.classRec n.ev.channel n.ev.cls } }
  else s

/-- The counter a fire advances: FIRE, or CROSS_FIRE for a lock in crossing mode. -/
def fireCnt (n : Nib) : Fld := if n.cross then Fd.NIB_CNT_COUNT 4 else Fd.NIB_CNT_COUNT 3

/-- A nib stands at the head of its queue: its event is the next to leave it (R86). The descriptor of a queue halted with cause 8 tells no
head. -/
def atHead (s : State) (n : Nib) : Bool :=
  ringPos s n == 0 || (qState s n.queue == 3 && qCause s n.queue == 8)

/-- The fire time a nib acts at: its own, or that of the event before it where that is later (R85). -/
def firesAt (s : State) (n : Nib) : Nib :=
  match mapGet? s.nib.lastFire n.queue with
  | some p => { n with fire := laterOf s n.fire p }
  | none => n

/-- The action of a fired nib on the channels (R118, R134, R214), and its echo request: an event on a string bit beyond the string's
length asks the string's unit, with its own fire time (R136, R149). -/
def fireAct (n : Nib) (s : State) : State :=
  let ch := n.ev.channel
  if n.ev.action ≤ 4 then
    let t := noteUnbound ch (chanAct ch n.ev.action (n.ev.w2.toNat % 2 ^ 24) n.fire s)
    if n.ev.learn && decide (ch < 512) && t.rdB (Fd.CHN_DCFG_ECHO_EN ch) then
      echoArm (t.rd (Fd.CHN_DCFG_ECHO_UNIT ch)) ch n.ev.cls n.fire (t.level ch) t
    else if n.ev.learn && decide (512 ≤ ch) && t.rdB (Fd.CHN_SCFG3_ECHO_EN (chString ch).1) then
      echoArm (t.rd (Fd.CHN_SCFG3_ECHO_UNIT (chString ch).1)) ch n.ev.cls n.fire (t.level ch) t
    else t
  else if n.ev.action = 5 then
    if n.ev.w2.toNat % 2 = 1 then
      match getDesc s n.queue with
      | some d => irqEvent (96 + d.group) s
      | none => s
    else s
  else swapPlanes ch (n.ev.w2.toNat.testBit 16) s

/-- A locked nib at the head of its queue fires (R118, R129); one that was passed over under LATE 1 is retired (R117), its outcome carrying
the time of that decision. -/
def fireNib (k : Nat) (s : State) : State :=
  match mapGet? s.nib.nibs k with
  | none => s
  | some n0 =>
    if !atHead s n0 then s
    else
      let n := firesAt s n0
      let s0 := freeNib k s
      match n.dropAt with
      | some t0 => queueLeft n 2 0 t0 s0
      | none =>
        if n.ev.action = 6 then barrierArrive n (s0.incWrap (fireCnt n))
        else queueFired n (firedOutcome n) (fireAct n (noteClass n (s0.incWrap (fireCnt n))))

/-- The locked nibs due in the current tick or before, in the order of R117; nibs on string bits fire with their frame. -/
def dueFires (s : State) : List (Nat × Nib) :=
  let l := s.nib.nibs.filter (fun e => e.2.mode == NibMode.locked && decide (tRel s e.2.fire < 16) &&
    (e.2.dropAt.isSome || !strBit s e.2))
  sortBy (fun (a b : Nat × Nib) => (nibKey s a.2).le (nibKey s b.2)) l

/-- Channels that more than one action of a list reaches in one tick: COMBINED counts each (R134). -/
def combined (l : List Nib) (s : State) : State :=
  let ks := (l.filter (fun n => decide (n.ev.action ≤ 4) && n.dropAt.isNone)).map (fun n => n.fire / 16 * 16384 + n.ev.channel)
  let multi := (ks.foldl setIns []).filter (fun k => decide (2 ≤ (ks.filter (fun j => j == k)).length))
  s.addWrap (Fd.CHN_CNT_COUNT 3) multi.length

/-- A member of a latched frame fires with fire time t_L and the latch phase (R138, R140): the queue's side of it. -/
def fireMember (fire k : Nat) (s : State) : State :=
  match mapGet? s.nib.nibs k with
  | none => s
  | some n =>
    let m := { n with fire := fire }
    queueFired m (firedOutcome m) ((freeNib k s).incWrap (fireCnt m))

/-- The action of a frame's member on its string bit at the latch (R138, R140). -/
def memberAct (fire k : Nat) (s : State) : State :=
  match mapGet? s.nib.nibs k with
  | none => s
  | some n => chanAct n.ev.channel n.ev.action (n.ev.w2.toNat % 2 ^ 24) fire (noteClass n s)

/-- The time a frame's latch acts at: t_L and the latch phase. -/
def Frame.fire (f : Frame) : Nat := (atTick f.tL + f.phase) % 2 ^ 68

/-- The members of a frame, trailing edges among them, whose own time lies before t_L: DELAYED counts each (R138). -/
def delayedOf (s : State) (f : Frame) : Nat :=
  ((nibsOf s f.members).filter (fun n => decide (diffS 68 n.fire (atTick f.tL) < 0))).length +
  ((trailsOf s f.trails).filter (fun e => decide (diffS 68 e.2.time (atTick f.tL) < 0))).length

/-- The latch pulse of a frame (R140): the image reaches the drivers, trailing edges fall, and the members' actions set the commanded
levels in the order the image took them (R139). -/
def latchFrame (st : Nat) (f : Frame) (s : State) : State :=
  let x := s.strOf st
  let s1 := (s.setStr st { x with frame := none, latched := f.image, lastEnd := f.tL + latPw s st,
                                  latFrom := f.tL * 16 + f.phase, latTo := (f.tL + latPw s st) * 16 + f.phase }).incWrap
    (Fd.CHN_CNT_COUNT 0)
  let s2 := s1.addWrap (Fd.CHN_CNT_COUNT 2) (delayedOf s f)
  forEach f.acts (forEach f.trails s2 trailFall) (memberAct f.fire)

/-- The LEARN_ECHO members of a frame, lowest bit first: the string's unit serves the first, the others are busy misses
(R149). -/
def frameEcho (st tL phase : Nat) (l : List Nib) (s : State) : State :=
  let es := sortBy (fun (a b : Nib) => decide (a.ev.channel ≤ b.ev.channel)) (l.filter (fun n => n.ev.learn))
  if !s.rdB (Fd.CHN_SCFG3_ECHO_EN st) then s
  else match es with
    | [] => s
    | e :: rest =>
      let u := s.rd (Fd.CHN_SCFG3_ECHO_UNIT st)
      let s1 := echoArm u e.ev.channel e.ev.cls ((atTick tL + phase) % 2 ^ 68) (s.level e.ev.channel) s
      if s1.rdB (Fd.CHN_ECFG_EN u) then s1.addSat (Fd.CHN_ESTAT_BUSY_MISSES u) rest.length else s1

/-- The frames that have shifted, are locked, and whose latch tick has come. -/
def framesDue (s : State) : List (Nat × Frame) :=
  s.chn.str.filterMap (fun e => match e.2.frame with
    | some f => if f.locked && f.shifted && decide (f.tL ≤ s.now) then some (e.1, f) else none
    | none => none)

/-- The nibs that can act in the tick with some frames: the direct ones due, and the frames' members. -/
def stageNibs (s : State) (fs : List (Nat × Frame)) : List Nat := (dueFires s).map Prod.fst ++ fs.flatMap (fun e => e.2.members)

/-- Every event ahead of nib k in its queue is one of a list. -/
def aheadIn (s : State) (l : List Nat) (k : Nat) : Bool :=
  match mapGet? s.nib.nibs k with
  | none => true
  | some n => (nibsAhead s n).all (fun e => e.1 ∈ l)

/-- Of some frames, those that can latch without overtaking an event of a member's queue (R85). -/
def settleFrames : Nat → State → List (Nat × Frame) → List (Nat × Frame)
  | 0, _, l => l
  | n + 1, s, l => settleFrames n s (l.filter (fun e => e.2.members.all (aheadIn s (stageNibs s l))))

/-- The frames that can latch in the tick. -/
def latchable (s : State) : List (Nat × Frame) := settleFrames (framesDue s).length s (framesDue s)

/-- The fire stage of the current tick (R118) with the direct events due and some frames that latch in it: the direct channels' trailing
edges due go before the actions (R135); COMBINED counts over all actions of the tick (R134); the frames latch; then the events leave
their queues in the order of R117, the direct ones with their actions. -/
def fireStage (fs : List (Nat × Frame)) (s : State) : State :=
  let direct := dueFires s
  let members := fs.flatMap (fun e => e.2.members.filterMap (fun k =>
    (mapGet? s.nib.nibs k).map (fun n => (k, { n with fire := e.2.fire }))))
  let order := sortBy (fun (a b : Nat × Nib) => (nibKey s a.2).le (nibKey s b.2)) (direct ++ members)
  let s1 := combined (order.map Prod.snd) (trailingEdges s)
  let s2 := forEach fs s1 (fun e t => latchFrame e.1 e.2 t)
  let s3 := forEach order s2 (fun e t => if members.any (fun m => m.1 == e.1) then fireMember e.2.fire e.1 t else fireNib e.1 t)
  let s4 := forEach (direct.map Prod.fst) s3 fireNib
  forEach fs s4 (fun e t => frameEcho e.1 e.2.tL e.2.phase (nibsOf s e.2.members) t)

/-- FIRE at the current tick (R118). Where a direct event due stands behind a member of a frame that latches in the tick, the frames of
the tick latch with it (R85). -/
def fireTick (s : State) : State :=
  if !driving s.mode then s
  else
    let l := dueFires s
    if l.isEmpty then s
    else fireStage (if l.all (fun e => aheadIn s (l.map Prod.fst) e.1) then [] else latchable s) s

/-- The latch of a string's frame at t_L (R138, R140): the image reaches the drivers and every member fires. The direct events due in the
tick, and the frames that hold an event ahead of a member, act with it (R85); a frame whose members cannot act yet waits. -/
def stringLatch (st : Nat) (s : State) : State :=
  match (latchable s).find? (fun e => e.1 == st) with
  | none => s
  | some e => fireStage (if (dueFires s).isEmpty && e.2.members.all (aheadIn s e.2.members) then [e] else latchable s) s

/-! ### Re-timing -/

/-- Raise the fire times of the events behind nib k to its own (R114), those that wait to be armed among them. -/
def raiseBehind (k : Nat) (n : Nib) (s : State) : State :=
  let pos := ringPos s n
  let f := effFire s k n
  let late := fun (m : Nib) => m.queue == n.queue && m.mode == NibMode.armed && decide (tRel s m.fire < tRel s f)
  let s1 := { s with nib := { s.nib with arming := s.nib.arming.map (fun m => if late m then { m with fire := f, fire0 := f } else m) } }
  forEach (s.nib.nibs.filter (fun e => late e.2 && decide (pos < ringPos s e.2))) s1
    (fun e t => placeNib e.1 { e.2 with fire := f } t)

/-- The fire time of the event ahead of a nib in its queue, if armed or fired (R113); an event that waits in crossing mode holds none. -/
def aheadFire (s : State) (n : Nib) : Option Nat :=
  match (nibsAhead s n).filter (fun e => e.2.mode != NibMode.crossing) with
  | x :: _ => some (effFire s x.1 x.2)
  | [] => mapGet? s.nib.lastFire n.queue

/-- A new fire time in force for nib k (R114): RETIME_MOVED and RETIMES count a change; members of a frame that move beyond
its window leave it (R139). -/
def moveNib (k : Nat) (n : Nib) (fire phi : Nat) (s : State) : State :=
  let moved := decide (fire ≠ n.fire)
  let m := { n with fire := fire, phi := phi, mode := .armed, cross := false, fixed := false, met := false,
                    retimes := if moved then min (n.retimes + 1) 65535 else n.retimes }
  raiseBehind k m (placeNib k m (if moved then s.incWrap (Fd.NIB_CNT_COUNT 1) else s))

/-- A re-timed fire time earlier than now + 2 clamps the nib and locks it, subject to R115 (R116). -/
def clampNib (k : Nat) (n : Nib) (phi : Nat) (s : State) : State :=
  let f := atTick (s.now + 2)
  let s1 := moveNib k n f phi (s.incWrap (Fd.NIB_CNT_COUNT 5))
  if strBit s1 n then s1
  else (guardNib (s.now + 2) k [] s1).2

/-- Re-time nib k from the estimate in force (R114, Table 5.2). -/
def retimeNib (k : Nat) (s0 : State) : State :=
  match mapGet? s0.nib.nibs k with
  | none => s0
  | some n =>
    if n.mode = NibMode.locked then s0
    else if !slotOk s0 (slotNib k 0) || !slotOk s0 (slotNib k 2) then
      safRaise 4 (retractFrom n Fd.NIB_RET_REC_COUNT s0)
    else if !engValid s0 then retractInvalid s0
    else if !dirAdmitted s0 n then retractDir n.queue s0
    else if crossing s0 then s0
    else
      let qdir := match getDesc s0 n.queue with | some d => d.dir | none => 0
      let r := predictEv n.ev qdir s0
      let s := r.2.2
      match r.1 with
      | none => retractFrom n (Fd.NIB_CNT_COUNT 8) s
      | some tau =>
        let f0 := fireOf s tau
        let f := match aheadFire s n with | some p => laterOf s f0 p | none => f0
        if tau > 2 ^ 22 * 16 ∨ (s.nib.horizon * 20 : Nat) < tRel s f then retractFrom n (Fd.NIB_CNT_COUNT 7) s
        else if tRel s f < 32 then clampNib k n r.2.1 s
        else moveNib k n f r.2.1 s

/-! ### Crossing mode -/

/-- The engine enters or leaves crossing mode at an update (R123); source 176 is raised. A prediction that waits to be armed at the entry
is treated as a nib: within NIB_CROSS_REACH it keeps its fire angle and holds no fire tick, beyond it goes back to the wheel with those of
its queue. -/
def crossingStep (s : State) : State :=
  let v := (engV s).natAbs
  let vmin := s.rd Fd.NIB_CROSS_VMIN * 2 ^ 24
  let stopped := s.rdB (Fd.AFE_CH_STAT_STOPPED (engSrc s))
  if !crossing s then
    if v < vmin ∨ stopped then
      let s1 := irqEvent 176 (s.set1 Fd.NIB_STAT_CROSSING)
      let reach : Int := (s.rd Fd.NIB_CROSS_REACH_REACH * 256 : Nat)
      let beyond := s1.nib.nibs.filter (fun e => e.2.mode != NibMode.locked && decide (reach < phiAhead s1 e.2.dir e.2.phi))
      let s2 := forEach beyond s1 (fun e t => match mapGet? t.nib.nibs e.1 with
        | some n => retractFrom n (Fd.NIB_CNT_COUNT 13) t
        | none => t)
      let far := (s2.nib.arming.filter (fun n => decide (reach < phiAhead s2 n.dir n.phi))).map Nib.queue
      let s3 := withdrawWhere (fun q => q ∈ far) s2
      let s4 := { s3 with nib := { s3.nib with arming := s3.nib.arming.map (fun n => { n with mode := .crossing }) } }
      forEach (s4.nib.nibs.filter (fun e => e.2.mode == NibMode.armed)) s4
        (fun e t => putNib e.1 { e.2 with mode := .crossing } t)
    else s
  else if 2 * vmin ≤ v ∧ !stopped then irqEvent 176 (s.clr Fd.NIB_STAT_CROSSING)
  else s

/-- A corrected measurement of the source reaches or passes a fire angle in the nib's direction; for a BIDIR 1 event from
either side (R124). -/
def reached (n : Nib) (before theta : Nat) : Bool :=
  let d0 := diffS 40 n.phi before
  let d1 := diffS 40 n.phi theta
  if n.ev.bidir then decide (d1 = 0) || (decide (0 < d0) && decide (d1 ≤ 0)) || (decide (d0 < 0) && decide (0 ≤ d1))
  else decide (alongDir n.dir d1 ≤ 0)

/-- Lock nib k in crossing mode for the tick 6 after its measurement became ready (R124), subject to checks 1, 2, 3, 5 and 6 of R115. It
waits while an event ahead of it in its queue has not reached its fire angle, and goes behind one that still holds a tick of its own
(R85); `passed` are the queues passed over in the tick. -/
def crossLock (ready k : Nat) (passed : List Nat) (s : State) : List Nat × State :=
  match mapGet? s.nib.nibs k with
  | none => (passed, s)
  | some n =>
    let t := ready + 6
    if n.mode ≠ NibMode.crossing then (passed, s)
    else if !guardQueue s n then (passed, retractFrom n (Fd.NIB_CNT_COUNT 10) s)
    else if !engValid s then (passed, retractInvalid s)
    else if !dirAdmitted s n then (passed, retractDir n.queue s)
    else if crossAhead s n then (passed, putNib k { n with met := true } s)
    else if n.ev.action = 7 ∧ !swapReady s n.ev then (passed, retractSwap n s)
    else
      let own := { n with fire := atTick t, mode := NibMode.armed, cross := true, fixed := true, met := false }
      let f := laterOf s own.fire (holdFire s t own)
      let m := { own with fire := f, fire0 := f }
      if n.ev.action ≠ 6 ∧ n.queue ∈ passed then (passed, passOver k t (putNib k m s))
      else if tRel s (atTick (t + 1)) ≤ tRel s f ∨ (nibsAhead s n).any (fun e => e.2.mode != NibMode.locked) then (passed, putNib k m s)
      else if n.ev.action ≠ 6 ∧ noPlace s t n then (setIns passed n.queue, passOver k t (putNib k m s))
      else (passed, lockNib k m s)

/-- A corrected measurement of the source channel in crossing mode, ready at a tick (R124): the nibs it reaches, and those that were
reached before and waited for one of them, are locked in ring order. -/
def crossMeasure (ready before theta : Nat) (s : State) : State :=
  if !crossing s then s
  else
    let l := s.nib.nibs.filter (fun e => e.2.mode == NibMode.crossing && (e.2.met || reached e.2 before theta))
    if l.isEmpty then s
    else if !driving s.mode || s.saf.reaction then clearNibs s
    else
      (((sortBy (fun (a b : Nat × Nib) =>
        if a.2.queue ≠ b.2.queue then decide (a.2.queue < b.2.queue) else decide (ringPos s a.2 ≤ ringPos s b.2)) l).map Prod.fst).foldl
        (fun (a : List Nat × State) k => crossLock ready k a.1 a.2) ([], s)).2

/-! ### Delay learning -/

/-- The words that hold channel ch's delay entry, entry v beside the other entry of its word (Table 5.5). -/
def seedEntry (ch v other : Nat) (s : State) : State :=
  let k := slotDelay ch
  writeWord 14 (k / 2) (BitVec.ofNat 64 (if k % 2 = 0 then v + other * 2 ^ 32 else other + v * 2 ^ 32)) s

/-- Apply one echo result (R126): seed, reject or filter the held delay of the class or of the channel, as DSRC and LEARN_EN
stood at the fire. An uncorrectable channel entry counts as not SEEDED and is reported; the echo seeds it, and since its word cannot be
read the word's other entry is written 0 (DESIGN CHOICE, log 75). -/
def echoApply (x : EchoRes) (s : State) : State :=
  if !x.learn then s
  else
    let k := s.rd (Fd.NIB_LC_LEARN_K x.cls)
    let win := s.rd (Fd.NIB_LC_LEARN_ECHO_WIN x.cls)
    let upd := fun (h : Nat) => h + rne ((x.m : Int) - h) k
    let sat := fun (h : Nat) => decide (upd h > 2 ^ 24 - 1)
    let new := fun (h : Nat) => (clampI 0 (2 ^ 24 - 1) (upd h)).toNat
    let far := fun (h : Nat) => decide (((x.m : Int) - h).natAbs > win)
    if !x.dsrc then
      let h := s.rd (Fd.NIB_LC_DELAY_DELAY x.cls)
      if !s.rdB (Fd.NIB_LC_STAT_SEEDED x.cls) then
        (s.wr (Fd.NIB_LC_DELAY_DELAY x.cls) x.m).set1 (Fd.NIB_LC_STAT_SEEDED x.cls)
      else if far h then s.incSat (Fd.NIB_LC_STAT_REJECTS x.cls)
      else
        let s1 := s.wr (Fd.NIB_LC_DELAY_DELAY x.cls) (new h)
        if sat h then s1.set1 Fd.NIB_ARITH_STAT_DELAY_SAT else s1
    else match slotRead (slotDelay x.chan) s with
      | (none, t) => seedEntry x.chan (x.m + 2 ^ 31) 0 (safRaise 4 t)
      | (some v, t) =>
        let h := v % 2 ^ 24
        if !v.testBit 31 then slotWrite (slotDelay x.chan) (x.m + 2 ^ 31) t
        else if far h then t.incSat (Fd.NIB_LC_STAT_REJECTS x.cls)
        else
          let t1 := slotWrite (slotDelay x.chan) (new h + 2 ^ 31) t
          if sat h then t1.set1 Fd.NIB_ARITH_STAT_DELAY_SAT else t1

/-- Apply the echo results due, each in tick stamp + 66, in order of stamp and unit (R126). -/
def echoApplyDue (s : State) : State :=
  let due := s.nib.echo.filter (fun x => decide (x.stamp + 66 ≤ s.now))
  let s1 := { s with nib := { s.nib with echo := s.nib.echo.filter (fun x => !decide (x.stamp + 66 ≤ s.now)) } }
  forEach (sortBy (fun a b => if a.stamp ≠ b.stamp then decide (a.stamp < b.stamp) else decide (a.unit ≤ b.unit)) due) s1 echoApply

/-- RESEED (R127): SEEDED of the class and of the channel entries whose record names it is cleared. -/
def reseed (c : Nat) (s : State) : State :=
  forEach (s.nib.classRec.filter (fun e => e.2 == c)) (s.clr (Fd.NIB_LC_STAT_SEEDED c)) (fun e t =>
    match slotRead (slotDelay e.1) t with
    | (some v, u) => if v.testBit 31 then slotWrite (slotDelay e.1) (v % 2 ^ 31) u else u
    | (none, u) => u)

/-- A read of word 0 of nib record k captures words 1 to 3 (R106); the word, none where its record is uncorrectable. -/
def nibRecRead (k master : Nat) (s : State) : Option Nat × State :=
  let r0 := slotReadBy (slotNib k 0) master s
  let t := r0.2
  (r0.1, { t with nib := { t.nib with
    recNib := k, recHold := [BitVec.ofNat 32 (slotVal t (slotNib k 1)), BitVec.ofNat 32 (slotVal t (slotNib k 2)),
      BitVec.ofNat 32 (slotVal t (slotNib k 3))] } })

end Sys2Proof.Machine
end

