-- ==== Sys2Proof/Machine/Fab.lean ====
section
/-! DEFINITION. The fabric as the device sees it (R171 to R192): chains and their monitors, math blocks, fabric PLLs and
fault lines, I/O-cell settings, loupe probes. What the loaded user logic computes is the fabric design's. -/
namespace Sys2Proof.Machine

open Sys2Proof

/-! ### Chains (R177, R178) -/

/-- The enabled taps of a chain: (tap, data). -/
def enabledTaps (taps : List (Nat × Bool × Bool)) : List (Nat × Bool) :=
  (taps.filter (fun t => t.2.1)).map (fun t => (t.1, t.2.2))

/-- What a chain reads: the data of the lowest-numbered enabled tap, or its keeper value (R177). -/
def chainRead (taps : List (Nat × Bool × Bool)) (keeper : Bool) : Bool :=
  match (List.range 24).findSome? (fun n => (enabledTaps taps).find? (fun t => t.1 == n)) with
  | some t => t.2
  | none => keeper

/-- The taps of a mask of enables, lowest first. -/
def tapsOf (enables : Nat) : List Nat := (List.range 24).filter (fun t => enables.testBit t)

/-- Taps of the chain with number k in its sector: 16 on a horizontal chain, 24 on a vertical one, none on an unused
number. -/
def chainTaps (k : Nat) : Nat := if k < 48 then 16 else if k < 112 then 24 else 0

/-- CMODE of a chain: the image of its sector gives it; off where the sector is not active (R178). -/
def chainCmode (s : State) (chain : Nat) : Nat :=
  if !s.rdB (Fd.CFG_SECT_STAT_ACTIVE (chain / 128)) then 0
  else match mapGet? s.cfg.active (chain / 128) with
    | some a => (Config.chainMode a.bytes (chain % 128)).toNat
    | none => 0

/-- The sampling network the image gives a chain's monitor (R178). -/
def chainNet (s : State) (chain : Nat) : Nat := ((designOf s (chain / 128)).chain (chain % 128)).net

/-- A monitor samples its chain with the taps of a mask enabled (R178): two or more are contention. It samples on the edges of its
sampling network, so not while that network stands. -/
def chainSample (chain enables : Nat) (s : State) : State :=
  match tapsOf (enables % 2 ^ chainTaps (chain % 128)) with
  | a :: b :: _ =>
    let m := chainCmode s chain
    if m = 0 ∨ !netOn s (chainNet s chain) then s
    else
      let s1 := (s.incSat Fd.FAB_CHAIN_CNT_COUNT).set1 Fd.FAB_STAT_CONTENTION
      let s2 := if s.rdB Fd.FAB_CHAIN_CAP_VALID then s1
        else ((((s1.wr Fd.FAB_CHAIN_CAP_CHAIN chain).wr Fd.FAB_CHAIN_CAP_TAP_A a).wr Fd.FAB_CHAIN_CAP_TAP_B b).wr
          Fd.FAB_CHAIN_CAP_TIME s.now).set1 Fd.FAB_CHAIN_CAP_VALID
      if m = 1 then s2 else safRaise 23 s2
  | _ => s

/-! ### Math blocks (R179, R180) -/

/-- A fit of R180: the value, and whether it was out of range. -/
def mathFit (sat sgn : Bool) (n : Nat) (x : Int) : Int × Bool :=
  let lo : Int := if sgn then sMin n else 0
  let hi : Int := if sgn then sMax n else ((2 ^ n : Nat) : Int) - 1
  let out := decide (x < lo) || decide (hi < x)
  let low : Int := if sgn then sx n (enc n x) else (enc n x : Nat)
  (if sat then clampI lo hi x else if out then low else x, out)

/-- The pre-adder and its fit: what passes to the multiplier, and whether the fit was out of range. -/
def mathPreFit (c : MathCfg) (x : MathIn) : MathPre × Bool :=
  let pre0 := match c.pre with
    | 0 => x.a
    | 1 => x.a + x.d
    | 2 => x.a - x.d
    | _ => x.d - x.a
  let pre := mathFit c.sat true 27 pre0
  (⟨pre.1, x.b, x.c, x.load⟩, pre.2)

/-- The multiplier: 54 bits, exact. -/
def mathProduct (x : MathPre) : MathMul := ⟨x.v * x.b, x.c, x.load⟩

/-- The accumulator and its fit. -/
def mathAccFit (c : MathCfg) (x : MathMul) (cin acc : Int) : Int × Bool :=
  let acc0 := if x.load then x.c
    else match c.mode with
      | 0 => x.p
      | 1 => acc + x.p
      | 2 => acc - x.p
      | _ => cin + x.p
  mathFit c.sat true 64 acc0

/-- The output stage and its fit. -/
def mathOutFit (c : MathCfg) (acc : Int) : Int × Bool := mathFit c.sat (!c.u) c.ow (roundBy c.rm acc c.sh)

/-- One operation of a math block: the new accumulator, the output, and whether some fit was out of range (SAT with S = 1,
OVF with S = 0). -/
def mathBlock (c : MathCfg) (a d b cc cin acc : Int) (load : Bool) : Int × Int × Bool :=
  let pre := mathPreFit c ⟨a, d, b, cc, load⟩
  let acc1 := mathAccFit c (mathProduct pre.1) cin acc
  let y := mathOutFit c acc1.1
  (acc1.1, y.1, pre.2 || acc1.2 || y.2)

/-! ### Clocks and fault lines -/

/-- A fabric PLL loses lock after release (R182): its networks stop, the safety manager is signalled. -/
def fpllLoss (m : Nat) (s : State) : State :=
  if !s.fab.released then s
  else
    let d := activeData s
    let nets := (List.range 24).foldl (fun a n => if (Config.netSource d n).toNat = m then a + 2 ^ n else a) 0
    let s1 := (s.set1 Fd.FAB_STAT_FPLL_LOSS).w1c Fd.FAB_CLK_STAT_FPLL_LOCK (2 ^ m)
    let s2 := s1.w1c Fd.FAB_CLK_STAT_NET_RUN nets
    safRaise 32 { s2 with fab := { s2.fab with fpllOut := setIns s2.fab.fpllOut m } }

/-- A fabric master port has an access that waits: it has one burst outstanding at a time (Table 8.4). -/
def masterBusy (s : State) (master : Nat) : Bool :=
  s.fab.acc.any (fun x => x.master == master) || s.xmc.waits.any (fun x => x.master == master)

/-- What a master sends reaches the device: from a fabric master port only while its clock runs and it has nothing outstanding (R189). -/
def masterServed (s : State) (master : Nat) : Bool :=
  !isFabric master || (portOn s (10 + (master - 0x10)) && !masterBusy s master)

/-- The networks that run from release: those to which the image gives a source; an FPLL network runs while its FPLL is
locked (R182). -/
def netsRunning (s : State) : Nat :=
  let d := activeData s
  (List.range 24).foldl (fun a n =>
    let src := (Config.netSource d n).toNat
    if src < 14 ∧ (4 ≤ src ∨ (s.rd Fd.FAB_CLK_STAT_FPLL_LOCK).testBit src) then a + 2 ^ n else a) 0

/-- A fault line of the fabric design changes (R189): asserted for 2 sys cycles while connected, it raises its input. -/
def faultLine (n : Nat) (level : Bool) (s : State) : State :=
  let s1 := { s with fab := { s.fab with faultLine :=
    if level then s.fab.faultLine ||| BitVec.ofNat 8 (2 ^ n) else s.fab.faultLine &&& ~~~(BitVec.ofNat 8 (2 ^ n)) } }
  if level && s.fab.connected then safRaise (24 + n) s1 else s1

/-- The lines asserted at release raise their inputs (Table 8.4). -/
def faultLinesAtRelease (s : State) : State :=
  forEach ((List.range 8).filter (fun n => s.fab.faultLine.toNat.testBit n)) s (fun n t => safRaise (24 + n) t)

/-! ### I/O cells (R184 to R186) -/

/-- A write of FAB_IOCFG[p] (R186, R402: SLEW 3 is ignored). -/
def iocfgWrite (p v : Nat) (s : State) : State :=
  if cfgMode s then
    let s1 := ((s.wr (Fd.FAB_IOCFG_PULL p) v).wr (Fd.FAB_IOCFG_DRIVE p) (v / 4)).wr (Fd.FAB_IOCFG_HYST p) (v / 64)
    let s2 := s1.wr (Fd.FAB_IOCFG_IN_EN p) (v / 128)
    if bits v 5 4 = 3 then s2 else s2.wr (Fd.FAB_IOCFG_SLEW p) (v / 16)
  else s.set1 Fd.FAB_STAT_CFG_REFUSED

/-! ### Loupe probes (R187, R188) -/

/-- Loupe registers serve: OPEN, or the loupe probe right. -/
def loupeRight (s : State) : Bool := hasRight 1 s

/-- The index of a selection is in range for its source. -/
def loupeIndexOk (src index : Nat) : Bool :=
  match src with
  | 1 => decide (index % 2 ^ 15 < 24576)
  | 2 => decide (index < 4096) && decide (index % 128 < 112)
  | 3 => decide (index < 3072)
  | _ => true

/-- A source of a selection names a signal. -/
def loupeSrcOn (src : Nat) : Bool := src == 1 || src == 2 || src == 3

/-- A write of FAB_LOUPE_CTRL (none) or of FAB_LOUPE_SEL[k] (R187, R188). -/
def loupeWrite (reg : Option Nat) (v : Nat) (s : State) : State :=
  if !loupeRight s then (s.set1 Fd.FAB_STAT_LOUPE_REFUSED).wr Fd.FAB_LOUPE_CTRL_STATUS St.access
  else match reg with
    | none => ((s.wr Fd.FAB_LOUPE_CTRL_EN v).wr Fd.FAB_LOUPE_CTRL_CLK (v / 16)).wr Fd.FAB_LOUPE_CTRL_STATUS St.ok
    | some k =>
      let src := bits v 22 20
      let pin := bits v 31 23
      if loupeSrcOn src && (!loupeIndexOk src (v % 2 ^ 20) || s.rdB (Fd.FAB_IOCFG_FAB_OUT pin) || pinTaken s 512 32 pin) then
        s.wr Fd.FAB_LOUPE_CTRL_STATUS St.range
      else
        let s1 := ((s.wr (Fd.FAB_LOUPE_SEL_INDEX k) v).wr (Fd.FAB_LOUPE_SEL_SRC k) src).wr (Fd.FAB_LOUPE_SEL_PIN k) pin
        let s2 := { s1 with fab := { s1.fab with loupeOn := mapSet false s1.fab.loupeOn k (loupeSrcOn src) } }
        s2.wr Fd.FAB_LOUPE_CTRL_STATUS St.ok

/-- Every probe is disabled and every selection returns to 0 (R187). -/
def loupeRevoke (s : State) : State :=
  let s1 := { s with fab := { s.fab with loupeOn := [] } }
  forEach (List.range 64) s1 (fun k t =>
    ((t.clr (Fd.FAB_LOUPE_SEL_INDEX k)).clr (Fd.FAB_LOUPE_SEL_SRC k)).clr (Fd.FAB_LOUPE_SEL_PIN k))

/-- A loupe probe drives a pin: FAB_IOCFG.PROBE. A channel output use prevails (R132, R188). -/
def probeOn (s : State) (p : Nat) : Bool :=
  s.rdB Fd.FAB_LOUPE_CTRL_EN && !pinTaken s 512 32 p &&
  (List.range 64).any (fun k => mapGet false s.fab.loupeOn k && s.rd (Fd.FAB_LOUPE_SEL_PIN k) == p)

/-- Fabric and probe pins are free of the safe path (R185): RUN or LIMITED, without a safety reaction or the run-enable wait. -/
def pinFree (s : State) : Bool := driving s.mode && !s.saf.reaction && !s.saf.runWait

/-- The fabric's data and output enable reach a pin that its design drives: the pin is free of the safe path and no channel output use
prevails (R185). -/
def fabricOwnsPin (s : State) (p : Nat) : Bool := pinFree s && !pinTaken s 512 32 p && s.rdB (Fd.FAB_IOCFG_FAB_OUT p)

end Sys2Proof.Machine
end

