-- ==== Sys2Proof/Machine/Otp.lean ====
section
/-! DEFINITION. The one-time-programmable memory (R364, Table 16.1): its words, the key slots and the thermometers. -/
namespace Sys2Proof.Machine

open Sys2Proof

/-- The codes of Tables 16.1 and 16.2. -/
def codeOpen : Nat := 0x03961248
def codeClosed : Nat := 0x5B96B7FC
def codeCloseIntent : Nat := 0xC105E0A1
def codeScrapIntent : Nat := 0x5C4AD00D
def codeSlot : Nat := 0x0000A55A

/-- Word i of the OTP (offset 4 × i); an unprogrammed bit reads 0. -/
def otp (s : State) (i : Nat) : Nat := (mapGet 0 s.lcs.otp i).toNat

/-- Programming a word sets bits to 1 and clears none (R364). -/
def otpProg (i v : Nat) (s : State) : State :=
  { s with lcs := { s.lcs with otp := mapPut s.lcs.otp i (mapGet 0 s.lcs.otp i ||| BitVec.ofNat 32 v) } }

/-- Words of the state copies, the intents, the floor, the debug counter and the key slots. -/
def otpCopy (k : Nat) : Nat := k
def otpCloseIntent : Nat := 5
def otpScrapIntent : Nat := 6
def otpFloor (k : Nat) : Nat := 16 + k
def otpCtr (k : Nat) : Nat := 24 + k
def otpSlot (k : Nat) : Nat := 64 + 32 * k
def otpKey (k i : Nat) : Nat := otpSlot k + 1 + i
def otpDigest (k i : Nat) : Nat := otpSlot k + 17 + i

/-- The 1 bits below the first 0 bit of a number of n bits. -/
def thermo : Nat → Nat → Nat
  | 0, _ => 0
  | n + 1, v => if v % 2 = 1 then 1 + thermo n (v / 2) else 0

/-- The number that words of the OTP spell, the first lowest. -/
def otpNum (s : State) (f : Nat → Nat) : Nat → Nat
  | 0 => 0
  | n + 1 => otpNum s f n + otp s (f n) * 2 ^ (32 * n)

/-- The security version floor (R371). -/
def otpFloorVal (s : State) : Nat := thermo 256 (otpNum s otpFloor 8)

/-- The debug counter (Table 16.5). -/
def otpCtrVal (s : State) : Nat := thermo 1024 (otpNum s otpCtr 32)

/-- Bytes of key in a slot: 32 in slot 3, 64 in the others. -/
def keyLen (k : Nat) : Nat := if k = 3 then 32 else 64

/-- The flag of a key slot holds its code. -/
def slotProv (s : State) (k : Nat) : Bool := otp s (otpSlot k) == codeSlot

/-- The key bytes of a slot. -/
def slotKey (s : State) (k : Nat) : List Byte := toBytes (keyLen k) (otpNum s (otpKey k) (keyLen k / 4))

/-- The stored digest of a slot. -/
def slotDigest (s : State) (k : Nat) : Nat := otpNum s (otpDigest k) 8

/-- A key slot is provisioned and passed its check at the vote (R370). -/
def slotUsable (s : State) (k : Nat) : Bool := slotProv s k && !(s.rd Fd.LCS_KEY_STAT_FAIL).testBit k

/-- A root authenticates in the state in force: 0 vendor test root in OPEN, 1 user image root in OPEN and CLOSED (Table
16.3). -/
def rootUsable (s : State) (signer : Nat) : Bool :=
  match signer with
  | 0 => lcsState s == 0 && slotUsable s 0
  | 1 => (lcsState s == 0 || lcsState s == 1) && slotUsable s 1
  | _ => false

end Sys2Proof.Machine
end

