-- ==== Sys2Proof/Machine/Cordic.lean ====
section
/-! DEFINITION. The phase and amplitude of a sin/cos pair (R52): a vectoring rotation that gives the true phase to 2^-40 of a
period, the phases within the CORDIC's stated error of it, and the amplitude. -/
namespace Sys2Proof.Machine

/-- atan(2^-i) / 2π in units of 2^-48 of a period, i = 0 to 43. -/
def atanTable : List Nat :=
  [35184372088832, 20770547670515, 10974586953444, 5570871696862, 2796246208089, 1399486241028, 699913886760, 349978300884,
   174991820497, 87496244017, 43748163730, 21874087080, 10937044192, 5468522177, 2734261099, 1367130551,
   683565276, 341782638, 170891319, 85445659, 42722830, 21361415, 10680707, 5340354,
   2670177, 1335088, 667544, 333772, 166886, 83443, 41722, 20861,
   10430, 5215, 2608, 1304, 652, 326, 163, 81,
   41, 20, 10, 5]

/-- Rotation steps: (x, y) toward the x axis, collecting the angle. -/
def rotSteps : List Nat → Nat → Int → Int → Int → Int
  | [], _, _, _, z => z
  | t :: r, i, x, y, z =>
    let d : Int := ((2 ^ i : Nat) : Int)
    if 0 ≤ y then rotSteps r (i + 1) (x + y / d) (y - x / d) (z + (t : Int))
    else rotSteps r (i + 1) (x - y / d) (y + x / d) (z - (t : Int))

/-- The phase of (sin, cos) in units of 2^-48 of a period, 0 to 2^48 − 1. -/
def truePhase (sn cs : Int) : Nat :=
  let k : Int := ((2 ^ 48 : Nat) : Int)
  if 0 ≤ cs then enc 48 (rotSteps atanTable 0 (cs * k) (sn * k) 0)
  else enc 48 (rotSteps atanTable 0 (-cs * k) (-sn * k) (((2 ^ 47 : Nat) : Int)))

/-- The 20-bit phases within 2^-19 of a period (two steps) of the true one (R52). -/
def phaseChoices (sn cs : Int) : List Nat :=
  let t := (truePhase sn cs + 128) / 256
  let q := t / 2 ^ 20
  let lo := if t % 2 ^ 20 = 0 then q + 2 ^ 20 - 2 else q + 2 ^ 20 - 1
  let n := if t % 2 ^ 20 = 0 then 5 else 4
  (List.range n).map (fun i => (lo + i) % 2 ^ 20)

/-- The amplitude in LSB, from a pair in 1/16 LSB: the root of the sum of squares, rounded to nearest, ties to even. -/
def amplitude (sn cs : Int) : Nat :=
  let n := (sn * sn + cs * cs).toNat
  let q := isqrt n
  let r := (q + 8) / 16
  if q * q = n ∧ q % 16 = 8 ∧ r % 2 = 1 then r - 1 else r

end Sys2Proof.Machine
end

