-- ==== Sys2Proof/Machine/Time.lean ====
section
/-! DEFINITION. Device time, the always-on counter and time bridges (R311 to R313). -/
namespace Sys2Proof.Machine

open Sys2Proof

/-- Uncertainty of a bridge of n ticks by its quality (Table 13.3). -/
def bridgeUncert (qual ticks : Nat) : Nat :=
  if qual = 1 then (ticks * 100 + 999999) / 1000000 else if qual = 2 then (ticks * 2 + 99) / 100 else 2 ^ 48 - 1

/-- A bridge begins: the AON count and the device time captured are those of the AON edge before the stop (R312). One that was to end at
the next edge goes on. -/
def bridgeBegin (s : State) : State :=
  match s.log.bridge with
  | some b => { s with log := { s.log with bridge := some { b with ending := false } } }
  | none => { s with log := { s.log with bridge := some ⟨s.log.edgeAt, s.rd Fd.LOG_AON_COUNT, s.rd Fd.LOG_AON_SRC, false, false⟩ } }

/-- Counting has resumed: the bridge ends at the next AON edge (R312). -/
def bridgeResume (s : State) : State :=
  { s with log := { s.log with bridge := s.log.bridge.map (fun b => { b with ending := true }) } }

/-- A bridge ends: device time is set from the AON counts passed, and the quality follows (R312, R313). -/
def bridgeEnd (s : State) : State :=
  match s.log.bridge with
  | none => s
  | some b =>
    let n := (s.rd Fd.LOG_AON_COUNT + 2 ^ 48 - b.a0) % 2 ^ 48
    let tk := aonTicks n
    let q := if b.broken then 3 else if b.src = 0 then 1 else 2
    let s1 := { s with log := { s.log with bridge := none } }
    let s2 := ((s1.wr Fd.LOG_TIME_TIME (b.t0 + tk)).wr Fd.LOG_BRIDGE_N n).wr Fd.LOG_BRIDGE_QUAL q
    let s3 := (s2.set1 Fd.LOG_BRIDGE_VALID).wr Fd.LOG_TIME_QUAL_QUAL (max q (s.rd Fd.LOG_TIME_QUAL_QUAL))
    let u := if q = 3 then 2 ^ 48 - 1 else min (s.rd Fd.LOG_TIME_QUAL_UNCERT + bridgeUncert q tk) (2 ^ 48 - 1)
    logReq Blk.log 0x02 (n % 2 ^ 32) (n / 2 ^ 32) q (s3.wr Fd.LOG_TIME_QUAL_UNCERT u)

/-- The AON counter's source changes (R312): SRC_CHANGED, moderation timers on the AON clock (R309), and a bridge in progress
is broken. -/
def aonSwitch (src : Nat) (s : State) : State :=
  if s.rd Fd.LOG_AON_SRC = src then s
  else
    let s1 := (s.wr Fd.LOG_AON_SRC src).set1 Fd.LOG_AON_SRC_CHANGED
    let s2 := forEach (List.range 8) s1 (fun t u =>
      if u.rdB (Fd.IRQ_TGT_STAT_TIMER_RUN t) && u.rdB (Fd.IRQ_MOD_CFG_CLK t) then u.set1 (Fd.IRQ_TGT_STAT_AON_CHANGED t) else u)
    { s2 with log := { s2.log with bridge := s2.log.bridge.map (fun b => { b with broken := true }) } }

/-- The AON counter has an edge: it counts, a bridge that is to end there ends, and the device time of the edge is kept (R312). -/
def aonEdge (s : State) : State :=
  let s1 := s.incWrap Fd.LOG_AON_COUNT
  let s2 := if s1.log.bridge.any (fun b => b.ending) then bridgeEnd s1 else s1
  { s2 with log := { s2.log with edgeAt := s2.now } }

/-- The always-on counter advances by n engine ticks: 32,768 counts are 250,000,000 ticks, so a count is 7,629 and 101/256
ticks (R44). -/
def aonTick (n : Nat) (s : State) : State :=
  let f := s.log.aonFrac + 256 * n
  let per := 7629 * 256 + 101
  if per ≤ f then aonEdge { s with log := { s.log with aonFrac := f - per } }
  else { s with log := { s.log with aonFrac := f } }

/-- The engine PLL is not locked: what passes where no command waits is a cycle of XIN, 10 ticks (R311). -/
def pllOff (s : State) : Bool := s.sys.phase == .regulators || s.sys.phase == .resetHeld

/-- One engine tick passes, or an XIN cycle where the engine PLL is not locked: device time and the always-on counter; while a bridge runs
and counting has not resumed, device time stands (R311, R312). -/
def tick (s : State) : State :=
  let n := if pllOff s then 10 else 1
  let stands := s.mode == Md.frozen || s.log.bridge.any (fun b => !b.ending)
  aonTick n (if stands then s else s.addWrap Fd.LOG_TIME_TIME n)

/-- A read of the low word of LOG_TIME captures the high word. -/
def logTimeRead (s : State) : State := { s with log := { s.log with timeHi := s.now / 2 ^ 32 } }

/-- QUAL_ACK (R313). -/
def qualAck (s : State) : State := (s.clr Fd.LOG_TIME_QUAL_QUAL).clr Fd.LOG_TIME_QUAL_UNCERT

end Sys2Proof.Machine
end

