-- ==== Sys2Proof/Machine/Ret.lean ====
section
/-! DEFINITION. Retained RAM: the regions' checks (R334), the dictionary region's header and waiting updates (R277), the power
context (R335), and recovery of a region that failed (R336, R278). -/
namespace Sys2Proof.Machine

open Sys2Proof

/-- First word and word count of a region of retained RAM (Table 14.9). -/
def retBase (r : Nat) : Nat := if r = 0 then 0 else if r = 1 then 8192 else 24576
def retLen (r : Nat) : Nat := if r = 1 then 16384 else 8192

/-- The listed words of a region. -/
def retListed (s : State) (r : Nat) : SMap MemWord :=
  s.mem.filter (fun e => decide (mkey 13 (retBase r) ≤ e.1) && decide (e.1 < mkey 13 (retBase r + retLen r)))

/-- CRC-32 of a region's contents, recomputed from its words: that of zeros, patched by each listed word (R334). -/
def retRecompute (s : State) (r : Nat) : Nat :=
  (retListed s r).foldl (fun c e =>
    crc32Patch c (s.mdata 13 (e.1 % 2 ^ 32)) (retRegion (e.1 % 2 ^ 32)).2) (retZeroCrc r)

/-- A region holds a word that reads uncorrectable. -/
def retHurt (s : State) (r : Nat) : Bool := (retListed s r).any (fun e => !s.mok 13 (e.1 % 2 ^ 32))

/-- The sequence number a region's contents carry (Table 14.9): the header's, or that of the newest log entry. -/
def retSeqStored (s : State) (r : Nat) : Nat :=
  if r = 1 then s.mdata 13 (logSlot (s.rd Fd.LOG_NSEQ_NSEQ + 2 ^ 32 - 1) + 1) % 2 ^ 32
  else s.mdata 13 (retBase r) / 2 ^ 32

/-- A region fails its check (R334). -/
def retFails (s : State) (r : Nat) : Bool :=
  retHurt s r || retRecompute s r != s.retCrc r ||
  (if r = 1 then s.rd Fd.LOG_NSEQ_NSEQ != 0 &&
      (retSeqStored s 1 != s.rd (Fd.PWR_RCHK_SEQ 1) || (retSeqStored s 1 + 1) % 2 ^ 32 != s.rd Fd.LOG_NSEQ_NSEQ)
   else retSeqStored s r != s.rd (Fd.PWR_RCHK_SEQ r))

/-- The region engine, or the retention check, reads word i of retained RAM: its errors are counted and captured (R221). -/
def retRead (i : Nat) (s : State) : State := (readWord 13 i 0 s).2

/-- Write the header's first word of a region: MAGIC and SEQ, with the copy of SEQ (R277, R334, R335). -/
def retHeader (r magic seq : Nat) (s : State) : State :=
  (writeWord 13 (retBase r) (BitVec.ofNat 64 (magic + (seq % 2 ^ 32) * 2 ^ 32)) s).wr (Fd.PWR_RCHK_SEQ r) seq

/-- Magic numbers of the dictionary region and the power context. -/
def magicDict : Nat := 0xDE7A0396
def magicPwr : Nat := 0x5EE90396

/-- LEN of the power context's header (R335): the bytes of the region after the header (DESIGN CHOICE, log 45). -/
def pctxLen (s : State) : State := writeWord 13 (retBase 2 + 1) (BitVec.ofNat 64 0xFFF0) s

/-- Write a record of the power context: its words from an offset, then SEQ (R335). -/
def pctxWrite (off : Nat) (ws : List W64) (s : State) : State :=
  let seq := s.mdata 13 (retBase 2) / 2 ^ 32
  retHeader 2 magicPwr (seq + 1) (pctxLen (State.mwrites 13 ws (retBase 2 + off / 8) (retRead (retBase 2) s)))

/-! ### The dictionary region (R277) -/

/-- Value after reset of a word of the NET windows, where no source supplies it (Table 12.8). -/
def winDflt (s : State) (off : Nat) : Nat :=
  let r := off % 0x20
  let cob := fun (b n : Nat) => if r = 0 then (if n < 4 then b + 0x100 * n + s.net.node else 0x80000000) else if r = 4 then 0xFF else 0
  if 0x1000 ≤ off ∧ off < 0x1800 then cob 0x200 ((off - 0x1000) / 0x20)
  else if 0x1800 ≤ off ∧ off < 0x2000 then cob 0x180 ((off - 0x1800) / 0x20)
  else 0

/-- A word of the NET windows. -/
def winVal (s : State) (off : Nat) : Nat :=
  match mapGet? s.net.win off with
  | some w => w.toNat
  | none => winDflt s off

/-- A piece of a record's data: bytes and the ret fields they hold, or a run of slots of memory 14. -/
inductive RetBody where
  | regs (cells : List (Nat × List Fld))
  | slots (first n : Nat)
  | wins (offs : List Nat)

/-- A record of the dictionary region: INDEX, SUB, KIND and data. -/
structure RetRec where
  index : Nat
  sub : Nat
  kind : Nat
  body : RetBody

/-- Records of one 32-bit cell each of a list of registers, as one run. -/
def retRun (index sub : Nat) (cells : List (Nat × List Fld)) : RetRec := ⟨index, sub, 3, .regs cells⟩

/-- The bank of channel k's correction table that the object of the table names: the inactive one (R54). -/
def tblIdle (s : State) (k : Nat) : Nat := 1 - s.rd (if k = 0 then Fd.AFE_TBL_CTRL_ACTIVE0 else Fd.AFE_TBL_CTRL_ACTIVE1)

/-- The records of the region in ascending order of INDEX and SUB: every ret field of objects 0x2000 to 0x5FFF, one record
of KIND 3 for each run of subindexes, one of KIND 1 for each DOMAIN (R275, R277). -/
def retRecs (s : State) : List RetRec :=
  [retRun 0x2010 1 [(4, [Fd.NET_CFG_NODE_ID, Fd.NET_CFG_ARB_RATE, Fd.NET_CFG_DATA_RATE, Fd.NET_CFG_LINE1_EN])],
   retRun 0x2300 2 [(4, [Fd.CFG_CMD_STAT_STATUS, Fd.CFG_CMD_STAT_OP])],
   retRun 0x2300 4 [(4, [Fd.CFG_STAT_COMMIT_INCOMPLETE])],
   retRun 0x2401 1 ((List.range 32).map (fun j => (4, [Fd.MEM_LB_REMAP_WORD (j / 4) (j % 4), Fd.MEM_LB_REMAP_VALID (j / 4) (j % 4)]))),
   retRun 0x2402 1 ((List.range 8).map (fun j => (4, [Fd.MEM_ES_REMAP_ENTRY (j / 2) (j % 2), Fd.MEM_ES_REMAP_VALID (j / 2) (j % 2)]))),
   retRun 0x2500 4 ((List.range 2).map (fun r => (4, [Fd.XMC_MARK_DEVICE r, Fd.XMC_MARK_AUTO r, Fd.XMC_MARK_VALID r]))),
   retRun 0x2501 1 ((List.range 16).map (fun i => (8, [Fd.XMC_REMAP_LINE i, Fd.XMC_REMAP_VALID i]))),
   retRun 0x2600 2 [(4, [Fd.UFL_CMD_STAT_STATUS, Fd.UFL_CMD_STAT_OP])],
   retRun 0x2700 1 [(4, [Fd.PWR_PL_TARGET]),
     (4, [Fd.PWR_SLEEP_CFG_TGT_MASK, Fd.PWR_SLEEP_CFG_DISCARD_QUEUES, Fd.PWR_SLEEP_CFG_DEEPEN_EN, Fd.PWR_SLEEP_CFG_DEEPEN_SEL,
       Fd.PWR_SLEEP_CFG_DEEPEN_TIME]),
     (4, [Fd.PWR_IDLE_TMR_TIME, Fd.PWR_IDLE_TMR_SEL, Fd.PWR_IDLE_TMR_EN]),
     (4, [Fd.PWR_WAKE_CFG_PIN_EN, Fd.PWR_WAKE_CFG_PIN_POL, Fd.PWR_WAKE_CFG_TMR_EN, Fd.PWR_WAKE_CFG_HSP_EN,
       Fd.PWR_WAKE_CFG_MOTION_EN]),
     (8, [Fd.PWR_WAKE_TMR_N]), (4, [Fd.PWR_MOTION_COUNTS])],
   retRun 0x3001 6 [(8, [Fd.AFE_CHK_OFFSET_OFFSET])]] ++
  (List.range 2).map (fun k => retRun (0x3010 + k) 0x0B [(4, [Fd.AFE_CH_UOFF_S_UOFF k]), (4, [Fd.AFE_CH_UOFF_C_UOFF k]),
    (4, [Fd.AFE_CH_UGAIN_GAIN_S k, Fd.AFE_CH_UGAIN_GAIN_C k]), (4, [Fd.AFE_CH_QUAD_QK1 k, Fd.AFE_CH_QUAD_QK2 k])]) ++
  (List.range 2).map (fun k => ⟨0x3030 + k, 0, 1, .slots (slotTbl k (tblIdle s k) 0) 1024⟩) ++
  (List.range 256).map (fun c => retRun (0x4400 + c) 1 [(4, [Fd.NIB_LC_DELAY_DELAY c]), (4, [Fd.NIB_LC_OFFSET_OFFSET c]),
    (4, [Fd.NIB_LC_LEARN_LEARN_EN c, Fd.NIB_LC_LEARN_DSRC c, Fd.NIB_LC_LEARN_K c, Fd.NIB_LC_LEARN_ECHO_WIN c]),
    (4, [Fd.NIB_LC_STAT_SEEDED c])]) ++
  [⟨0x4600, 0, 1, .slots (slotDelay 0) 8704⟩,
   retRun 0x5E00 7 [(4, [Fd.LOG_RSEQ_RSEQ])],
   retRun 0x5E00 0x0C [(4, [Fd.LOG_EXPORT_CFG_FIRST, Fd.LOG_EXPORT_CFG_COUNT, Fd.LOG_EXPORT_CFG_EN]),
     (8, [Fd.LOG_EXPORT_STAT_ESEQ])]]

/-- Bytes of a record's data. -/
def RetBody.len : RetBody → Nat
  | .regs cells => (cells.map Prod.fst).sum
  | .slots _ n => 4 * n
  | .wins l => 4 * l.length

/-- Bytes of a record as it stands in the region, header and padding included. -/
def RetRec.size (r : RetRec) : Nat := 8 + (r.body.len + 7) / 8 * 8

/-- Value of the ret fields of a cell. -/
def cellVal (s : State) (fs : List Fld) : Nat := fs.foldl (fun a f => a + s.rd f * 2 ^ f.lo) 0

/-- The cells of a record's data as their offsets in the data and their bytes now. -/
def RetBody.cells (s : State) : RetBody → List (Nat × List Byte)
  | .regs l => (l.foldl (fun (a : List (Nat × List Byte) × Nat) (c : Nat × List Fld) =>
      (a.1 ++ [(a.2, toBytes c.1 (cellVal s c.2))], a.2 + c.1)) ([], 0)).1
  | .slots f n => (List.range n).map (fun k => (4 * k, toBytes 4 (slotVal s (f + k))))
  | .wins l => l.zipIdx.map (fun (e : Nat × Nat) => (4 * e.2, toBytes 4 (winVal s e.1)))

/-- The records with the offsets in the region at which they stand. -/
def retPlaced : Nat → List RetRec → List (Nat × RetRec)
  | _, [] => []
  | o, r :: l => (o, r) :: retPlaced (o + r.size) l

/-- The bytes of a record: INDEX, SUB, KIND, LEN, 2 B of zero, the data, padded (R275). -/
def RetRec.bytes (s : State) (r : RetRec) : List Byte :=
  let d := (r.body.cells s).flatMap Prod.snd
  toBytes 2 r.index ++ toBytes 1 r.sub ++ toBytes 1 r.kind ++ toBytes 2 d.length ++ toBytes 2 0 ++ d ++
    List.replicate ((8 - d.length % 8) % 8) 0

/-- Bytes off to off + n − 1 of the region. -/
def regionBytes (s : State) (off n : Nat) : List Byte :=
  let w := off / 8
  let l := (List.range ((off % 8 + n + 7) / 8)).flatMap (fun k => toBytes 8 (s.mdata 13 (w + k)))
  (l.drop (off % 8)).take n

/-- Cells whose record does not hold their present value: offset in the region and bytes. -/
def retDirty (s : State) : List (Nat × List Byte) :=
  (retPlaced 16 (retRecs s)).flatMap (fun (e : Nat × RetRec) =>
    ((e.2.body.cells s).filter (fun (c : Nat × List Byte) => regionBytes s (e.1 + 8 + c.1) c.2.length != c.2)).map
      (fun (c : Nat × List Byte) => (e.1 + 8 + c.1, c.2)))

/-- A communication register as a record of its own. -/
def commRun (index sub : Nat) (fs : List Fld) : RetRec := retRun index sub [(4, fs)]

/-- The records of the communication objects 0x1000 to 0x1FFF in a snapshot (R277, R280). -/
def commRecs : List RetRec :=
  let offs := fun (b n : Nat) => (List.range n).map (fun i => b + 4 * i)
  [commRun 0x1005 0 [Fd.NET_SYNC_COBID_ID, Fd.NET_SYNC_COBID_GEN], commRun 0x1006 0 [Fd.NET_SYNC_PERIOD_PERIOD],
   commRun 0x1007 0 [Fd.NET_SYNC_WIN_WINDOW], commRun 0x1014 0 [Fd.NET_EMCY_COBID_ID, Fd.NET_EMCY_COBID_INVALID],
   commRun 0x1015 0 [Fd.NET_EMCY_INH_TIME],
   retRun 0x1016 1 ((List.range 8).map (fun i => (4, [Fd.NET_HB_CONS_TIME i, Fd.NET_HB_CONS_NODE i]))),
   commRun 0x1017 0 [Fd.NET_HB_PROD_TIME], commRun 0x1019 0 [Fd.NET_SYNC_OVF_OVF], commRun 0x1029 1 [Fd.NET_ERR_BEH_COMM]] ++
  (List.range 8).map (fun n => ⟨0x1301 + n, 1, 3, .wins (offs (0xA000 + 0x20 * n) 6)⟩) ++
  (List.range 8).map (fun n => ⟨0x1381 + n, 0, 3, .wins (offs (0xA100 + 0x80 * n) 17)⟩) ++
  [commRun 0x13FE 0 [Fd.NET_SRDO_VALID_VALID], commRun 0x13FF 0 [Fd.NET_SRDO_CRC_CRC]] ++
  (List.range 64).flatMap (fun n => [⟨0x1400 + n, 1, 3, .wins (offs (0x1000 + 0x20 * n) 3)⟩, ⟨0x1400 + n, 5, 3, .wins [0x1010 + 0x20 * n]⟩]) ++
  (List.range 64).map (fun n => ⟨0x1600 + n, 0, 3, .wins ((0x0E00 + 4 * n) :: offs (0x2000 + 0x100 * n) 64)⟩) ++
  (List.range 64).flatMap (fun n => [⟨0x1800 + n, 1, 3, .wins (offs (0x1800 + 0x20 * n) 3)⟩, ⟨0x1800 + n, 5, 3, .wins [0x1810 + 0x20 * n]⟩]) ++
  (List.range 64).map (fun n => ⟨0x1A00 + n, 0, 3, .wins ((0x0F00 + 4 * n) :: offs (0x6000 + 0x100 * n) 64)⟩)

/-- The writable part of a record of the region, which a snapshot holds (R280): records of ro and w1c fields and of LOG_RSEQ
are left out, and runs end before their ro subindexes. -/
def RetRec.kept (r : RetRec) : Option RetRec :=
  if r.index = 0x2300 ∨ r.index = 0x2600 ∨ (r.index = 0x2500 ∧ r.sub = 4) ∨ (r.index = 0x5E00 ∧ r.sub = 7) then none
  else match r.body with
    | .regs c =>
      if 0x4400 ≤ r.index ∧ r.index < 0x4500 then some { r with body := .regs (c.take 3) }
      else if r.index = 0x5E00 then some { r with body := .regs (c.take 1) }
      else some r
    | _ => some r

/-- The device's own records in a snapshot (R280), as bytes. -/
def snapOwn (s : State) : List Byte := (commRecs ++ (retRecs s).filterMap RetRec.kept).flatMap (RetRec.bytes s)

/-- Total length of the records. -/
def retLenAll (s : State) : Nat := ((retRecs s).map RetRec.size).sum

/-- Second word of the header: LEN and CRC (R277). -/
def headTail (len crc : Nat) : W64 := BitVec.ofNat 64 (len + crc * 2 ^ 32)

/-- Write bytes into the region, one word at a time, keeping the records' CRC-32 in the header. -/
def regionPut (off : Nat) (l : List Byte) (s : State) : State :=
  let len := s.mdata 13 1 % 2 ^ 32
  forEach (List.range ((off % 8 + l.length + 7) / 8)) s (fun k t =>
    let i := off / 8 + k
    let old := toBytes 8 (t.mdata 13 i)
    let new := (List.range 8).map (fun b =>
      let p := 8 * i + b
      if off ≤ p ∧ p < off + l.length then nth 0 l (p - off) else nth 0 old b)
    let crc := crc32Patch (t.mdata 13 1 / 2 ^ 32) (ofBytes old ^^^ ofBytes new) (16 + len - 8 * (i + 1))
    writeWord 13 1 (headTail len crc) (writeWord 13 i (BitVec.ofNat 64 (ofBytes new)) (retRead 1 (retRead i t))))

/-- SEQ of the region advances (R277): 0 is carried by no valid region. -/
def regionSeq (s : State) : State :=
  let seq := s.mdata 13 0 / 2 ^ 32
  retHeader 0 magicDict (if seq = 0 then 0 else if seq + 1 = 2 ^ 32 then 1 else seq + 1) (retRead 0 s)

/-- The region is to be rewritten whole: its SEQ is 0 until then (R277). -/
def retRewrite (s : State) : State :=
  let s1 := retHeader 0 magicDict 0 s
  { s1 with net := { s1.net with rewrite := true } }

/-- RETAINED_UPDATE: one changed ret field is copied into its record with SEQ and CRC; with more than 32 waiting, a rewrite of
the whole region is due (R277). The engine copies nothing in LOAD and FROZEN. -/
def retStep (s : State) : State :=
  if s.sys.phase ≠ .over ∨ s.mode = Md.frozen ∨ s.net.rewrite = true then s
  else
    match retDirty s with
    | [] => s
    | c :: r => if 32 ≤ r.length then retRewrite s else regionSeq (regionPut c.1 c.2 s)

/-- The whole region as it stands now. -/
def retWhole (s : State) : State :=
  let l := (retRecs s).flatMap (RetRec.bytes s)
  let ws := (List.range (l.length / 8)).map (fun k => BitVec.ofNat 64 (ofBytes ((l.drop (8 * k)).take 8)))
  State.mwrites 13 ws 2 (writeWord 13 1 (headTail l.length (crc32 l)) s)

/-- REGION_REWRITE: the rewrite that is due is made (R277); after a restore SEQ stays 0 up to the next reset (R281). -/
def regionRewrite (s : State) : State :=
  if s.net.rewrite then
    let s1 := retHeader 0 magicDict (if s.net.seqZero then 0 else 1) (retWhole s)
    { s1 with net := { s1.net with rewrite := false } }
  else s

/-- Every waiting update is made (R326). -/
def retFlush (s : State) : State :=
  let l := retDirty s
  if 32 < l.length then regionRewrite (retRewrite s)
  else forEach l s (fun c t => regionSeq (regionPut c.1 c.2 t))

/-- The region may supply records: its header is one (R277, R278). -/
def regionGood (s : State) : Bool :=
  s.mdata 13 0 % 2 ^ 32 == magicDict && s.mdata 13 0 / 2 ^ 32 != 0 && !s.rdB Fd.NET_DEF_STAT_RET_FAILED

/-- The trouble log after a failed check: every entry whose CRC or SEQ does not fit its slot is rewritten as PWR code 0x04
(Table 14.10). -/
def retFixLog (s : State) : State :=
  let n := s.rd Fd.LOG_NSEQ_NSEQ
  forEach (List.range (min n 4096)) s (fun k t =>
    let seq := (n + 2 ^ 32 - 1 - k) % 2 ^ 32
    let b := logSlot seq
    let w := fun (i : Nat) => t.mdata 13 (b + i)
    let ok := (List.range 4).all (fun i => t.mok 13 (b + i)) && w 1 % 2 ^ 32 == seq &&
      w 3 / 2 ^ 32 % 65536 == crc16 (toBytes 8 (w 0) ++ toBytes 8 (w 1) ++ toBytes 8 (w 2) ++ toBytes 4 (w 3))
    if ok then t
    else
      let w1 := seq + (Blk.pwr + 0x04 * 2 ^ 8 + 3 * 2 ^ 16 + t.mode * 2 ^ 18) * 2 ^ 32
      let c := crc16 (toBytes 8 0 ++ toBytes 8 w1 ++ toBytes 8 0 ++ toBytes 4 0)
      State.mwrites 13 [0, BitVec.ofNat 64 w1, 0, BitVec.ofNat 64 (c * 2 ^ 32)] b t)

/-- Take a region's words out of the array: they read zero. -/
def retClear (r : Nat) (s : State) : State :=
  { s with mem := mapKeep (fun k => !(decide (mkey 13 (retBase r) ≤ k) && decide (k < mkey 13 (retBase r + retLen r)))) s.mem }

/-- Recover a region that failed (Table 14.10, R278). -/
def retRecover (r : Nat) (s : State) : State :=
  let s1 :=
    if r = 0 then
      retRewrite ((s.set1 Fd.NET_STAT_RET_LOST).set1 Fd.NET_DEF_STAT_RET_FAILED)
    else if r = 1 then retFixLog s
    else
      let t := retClear 2 s
      retHeader 2 magicPwr 0 (pctxLen (t.wr (Fd.PWR_RCHK_CRC 2) (retZeroCrc 2)))
  s1.wr (Fd.PWR_RCHK_CRC r) (retRecompute s1 r)

/-- A region failed its check (R336). -/
def retFail (r : Nat) (s : State) : State :=
  let s1 := irqEvent 395 (s.orF Fd.PWR_STAT_RET_FAIL (2 ^ r))
  let s2 := logReq Blk.pwr 0x03 (2 ^ r) 0 0 s1
  retRecover r { s2 with pwr := { s2.pwr with retEmcy := setIns s2.pwr.retEmcy r } }

/-- The retention check reads every word of the three regions (R221, R334). -/
def retScan (s : State) : State := forEach (s.mem.filter (fun e => e.1 / 2 ^ 32 == 13)) s (fun e t => retRead (e.1 % 2 ^ 32) t)

/-- The retention check: the three regions together (R334). -/
def retCheck (s : State) : State :=
  let t := retScan s
  forEach ((List.range 3).filter (retFails t)) t retFail

/-- The messages owed for failed regions are queued once the device is in STANDBY or SAFE (R336). -/
def retMessages (s : State) : State :=
  if s.mode = Md.standby ∨ s.mode = Md.safe then
    forEach s.pwr.retEmcy { s with pwr := { s.pwr with retEmcy := [] } } (fun r t => emcy 0xFF03 Blk.pwr r t)
  else s

end Sys2Proof.Machine
end

