-- ==== Sys2Proof/Machine/Afe.lean ====
section
/-! DEFINITION. The angle front end (R45 to R71, R403): edges and Z, the sin/cos path, correction tables, the estimator at an
update tick, validity and faults, plausibility, statistics and learning, and writes of its configuration. -/
namespace Sys2Proof.Machine

open Sys2Proof

/-- AFE_FAULT bits of channel k. -/
def faultFld (k : Nat) : Fld := if k = 0 then Fd.AFE_FAULT_CH0 else Fd.AFE_FAULT_CH1

/-- Update an angle channel. -/
def State.updAch (s : State) (k : Nat) (f : AfeCh → AfeCh) : State := s.setAch k (f (s.ach k))

/-- Counts or periods per revolution of channel k. -/
def afeCpr (s : State) (k : Nat) : Nat := s.rd (Fd.AFE_CH_CPR_CPR k)

/-- RNE(2^64 / CPR), 0 while CPR is 0. -/
def scaleOf (cpr : Nat) : Nat := if cpr = 0 then 0 else (divRne ((2 ^ 64 : Nat) : Int) (cpr : Int)).toNat

/-- S: 2^-40 aq per count or period (R48, R52). AFE_CH_SCALE shows it; for one period per revolution S is 2^64, of which the
register's 64 bits show 0. -/
def afeScale (s : State) (k : Nat) : Nat := scaleOf (afeCpr s k)

/-- Z_MODE: 3 acts as 2. -/
def afeZMode (s : State) (k : Nat) : Nat := min 2 (s.rd (Fd.AFE_CH_CFG_Z_MODE k))

/-- Count of channel k over its revolutions, as PWR_MOTION compares it. -/
def afeTotal (k : Nat) (s : State) : Int := (((s.ach k).rev * afeCpr s k + (s.ach k).cell : Nat) : Int)

/-- A learning run ends: BUSY 0, DONE or ABORTED, source 19 (R70). -/
def learnEnd (f : Fld) (s : State) : State :=
  irqEvent 19 ({ s with afe := { s.afe with learn := none } }.set1 f |>.clr Fd.AFE_LEARN_CTRL_BUSY)

/-- A run that learns channel k is aborted. -/
def learnAbort (k : Nat) (s : State) : State :=
  match s.afe.learn with
  | some l => if l.ch = k then learnEnd Fd.AFE_LEARN_CTRL_ABORTED s else s
  | none => s

/-- Channel k loses REFERENCED and with it VALID. -/
def unReference (k : Nat) (s : State) : State :=
  let s1 := s.clr (Fd.AFE_CH_STAT_REFERENCED k)
  let s2 := if afeZMode s k = 0 then s1 else s1.clr (Fd.AFE_CH_STAT_VALID k)
  learnAbort k s2

/-- A channel fault of Table 3.4 latches: source 16 or 17, input 0 or 1; all but OVERSPEED clear REFERENCED. -/
def afeFault (k b : Nat) (s : State) : State :=
  let f := faultFld k
  let s1 := if (s.rd f).testBit b then s else safRaise k (irqEvent (16 + k) (s.orF f (2 ^ b)))
  let s2 := learnAbort k (s1.clr (Fd.AFE_CH_STAT_VALID k))
  if b = 1 then s2 else unReference k s2

/-- VALID by R61. -/
def validNow (s : State) (k : Nat) : Bool :=
  s.rd (Fd.AFE_CH_CFG_TYPE k) != 0 && afeCpr s k != 0 && s.rd (faultFld k) == 0 &&
  (afeZMode s k == 0 || s.rdB (Fd.AFE_CH_STAT_REFERENCED k))

/-! ### Correction table (R53, R54) -/

/-- Active bank of channel k's table. -/
def tblActive (s : State) (k : Nat) : Nat := s.rd (if k = 0 then Fd.AFE_TBL_CTRL_ACTIVE0 else Fd.AFE_TBL_CTRL_ACTIVE1)

/-- Entry e of a bank: signed Q16.8, none where its word is uncorrectable. -/
def tblEntry (k b e : Nat) (s : State) : Option Int × State :=
  let r := slotRead (slotTbl k b e) s
  (r.1.map (fun v => sx 24 v), r.2)

/-- The corrected angle (R53): none of the correction where the table is off or the channel is not REFERENCED. -/
def tblCorrect (k theta : Nat) (s : State) : Nat × State :=
  if s.afeRdB (if k = 0 then Fd.AFE_TBL_CTRL_EN0 else Fd.AFE_TBL_CTRL_EN1) && s.rdB (Fd.AFE_CH_STAT_REFERENCED k) then
    let p := theta % 2 ^ 32
    let i := p / 2 ^ 22
    let f : Nat := p % 2 ^ 22
    let b := tblActive s k
    let x := tblEntry k b i s
    let y := tblEntry k b ((i + 1) % 1024) x.2
    match x.1, y.1 with
    | some u, some v => (enc 40 ((theta : Int) + u + rne ((v - u) * (f : Int)) 22), y.2)
    | _, _ => (theta, afeFault k 7 y.2)
  else (theta, s)

/-! ### Learning (R70) -/

/-- The reference angle of a learning run at a stamp, Q.8: from the last Z at constant speed (REF 0), or the other channel's
estimate (REF 1). The rules give no way to bring that estimate from its update to the stamp: the model extrapolates with V alone and
rounds down; the angle at the last Z is the start of the ZOFS cell, and the share of the revolution since it is rounded RNE to Q.8
(DESIGN CHOICE, log 74). -/
def learnRef (k tm : Nat) (s : State) : Option Nat :=
  let c := s.ach k
  if s.afeRdB Fd.AFE_LEARN_CTRL_REF then
    let o := s.ach (1 - k)
    let th : Int := rdn ((o.pubP : Int) + o.pubV * diffS 64 tm o.tU) 32
    let off := s.afeRdI Fd.AFE_CHK_OFFSET_OFFSET
    some (enc 40 (if k = 0 then th + off else th - off))
  else
    match c.zAt with
    | none => none
    | some tz =>
      if c.zPer = 0 then none
      else
        let zn : Nat := s.rd (Fd.AFE_CH_ZCFG_ZOFS k) % max 1 (afeCpr s k) * afeScale s k + c.zRev * 2 ^ 64
        let zt : Int := (zn : Int)
        some (enc 40 (rne zt 32 + divRne (((2 ^ 32 : Nat) : Int) * diffS 64 tm tz) (c.zPer : Int)))

/-- One measurement goes into its bin. -/
def learnBin (k theta tm : Nat) (s : State) : State :=
  match s.afe.learn with
  | none => s
  | some l =>
    if l.ch ≠ k ∨ !l.started then s
    else match learnRef k tm s with
      | none => s
      | some ref =>
        let b := ((theta % 2 ^ 32 / 256 + 2 ^ 13) % 2 ^ 24) / 2 ^ 14
        let old := mapGet ((0 : Int), (0 : Nat)) s.afe.bins b
        if old.2 = 65535 then s
        else { s with afe := { s.afe with bins := mapPut s.afe.bins b (sx 48 (enc 48 (old.1 + diffS 40 ref theta)), old.2 + 1) } }

/-- A revolution of the learned channel ends: after the last, the run is DONE. -/
def learnTurn (k : Nat) (s : State) : State :=
  match s.afe.learn with
  | none => s
  | some l =>
    if l.ch ≠ k then s
    else if !l.started then { s with afe := { s.afe with learn := some { l with started := true } } }
    else if l.left ≤ 1 then learnEnd Fd.AFE_LEARN_CTRL_DONE s
    else { s with afe := { s.afe with learn := some { l with left := l.left - 1 } } }

/-- LEARN_DONE: the run has reached its revolutions. -/
def learnDone (s : State) : State :=
  match s.afe.learn with
  | some l => if l.started ∧ l.left = 0 then learnEnd Fd.AFE_LEARN_CTRL_DONE s else s
  | none => s

/-! ### Measurements -/

/-- A measured angle of channel k is binned, corrected and put on its way to the estimator; in crossing mode the engine's
source channel judges the crossing nibs at it (R53, R124). It enters the table stage at the tick `enter` and is ready 2 ticks later
(Table 3.3). -/
def measure (k theta tm enter : Nat) (rev : Bool) (s : State) : State :=
  let s1 := learnBin k theta tm s
  let r := tblCorrect k theta s1
  let before := (s.ach k).lastTheta
  let s2 := r.2.updAch k (fun c => { c with meas := c.meas ++ [⟨theta, r.1, tm, enter, (enter + 2) % 2 ^ 64, rev⟩], lastRaw := theta, lastTheta := r.1 })
  if engSrc s2 = k then crossMeasure ((enter + 2) % 2 ^ 64) ((before + engOffset s2) % 2 ^ 40) ((r.1 + engOffset s2) % 2 ^ 40) s2 else s2

/-- The estimator of channel k restarts at its next measurement (R403). The measurements on their way fall away, that of a reversing edge in
the same sample as the Z that references the channel among them: V and A then stay, where R58 would clear them (DESIGN CHOICE, log 74). -/
def restartEst (k : Nat) (s : State) : State := s.updAch k (fun c => { c with meas := [], restart := true })

/-- Count or period moves by d, with carry into the revolution count. A borrow of backward motion counts as the revolution carry that begins
and counts a REF 1 run (R70) too (DESIGN CHOICE, log 74). -/
def moveCell (k : Nat) (d : Int) (s : State) : State :=
  let n := afeCpr s k
  let c := s.ach k
  let x : Int := (c.cell : Int) + d
  let carry := decide (x < 0) || decide ((n : Int) ≤ x)
  let rev := if x < 0 then (c.rev + 255) % 256 else if (n : Int) ≤ x then (c.rev + 1) % 256 else c.rev
  let s1 := s.updAch k (fun c => { c with cell := (x % (n : Int)).toNat, rev := rev, sinceZ := c.sinceZ + d })
  let s2 := s1.wr (Fd.AFE_CH_COUNT_CELL k) (s1.ach k).cell
  if carry && s2.afeRdB Fd.AFE_LEARN_CTRL_REF then learnTurn k s2 else s2

/-- A missing Z (R49): the net travel exceeds CPR + ZTOL. -/
def zMissing (k : Nat) (s : State) : State :=
  if afeZMode s k = 2 ∧ s.rdB (Fd.AFE_CH_STAT_REFERENCED k) ∧
      afeCpr s k + s.rd (Fd.AFE_CH_ZCFG_ZTOL k) < ((s.ach k).sinceZ).natAbs then
    afeFault k 3 (s.incSat (Fd.AFE_CH_ERRCNT_ZMISS_CNT k))
  else s

/-- Place of (A, B) in the quadrature sequence (R48). -/
def quadOf (a b : Bool) : Nat := if a then (if b then 2 else 1) else (if b then 3 else 0)

/-- Counts of a transition: +1, −1, or none where DECODE does not count it (R48). -/
def quadCount (decode : Nat) (q0 q1 : Nat) : Int :=
  let fwd := decide ((q0 + 1) % 4 = q1)
  let counts := if decode = 3 then true
    else if decode = 2 then (q0 == 0 && q1 == 1) || (q0 == 1 && q1 == 0) || (q0 == 2 && q1 == 3) || (q0 == 3 && q1 == 2)
    else (q0 == 0 && q1 == 1) || (q0 == 1 && q1 == 0)
  if counts then (if fwd then 1 else -1) else 0

/-- FILT: 0 acts as 1 (R47). -/
def afeFilt (s : State) (k : Nat) : Nat := max 1 (s.rd (Fd.AFE_CH_CFG_FILT k))

/-- Stamp of an edge accepted now (R47). -/
def edgeStamp (s : State) (k : Nat) : Nat := (s.now + 2 ^ 64 - afeFilt s k - 2) % 2 ^ 64

/-- An accepted edge moves the count (R48): the boundary angle is a measurement. -/
def countEdge (k : Nat) (d : Int) (s : State) : State :=
  let c := s.ach k
  let tm := edgeStamp s k
  let bIdx := if 0 ≤ d then c.cell + 1 else c.cell
  let theta := enc 40 (rne ((c.rev * 2 ^ 64 + bIdx * afeScale s k : Nat) : Int) 32)
  let dir := if 0 ≤ d then 0 else 1
  let rev := c.moved && s.rd (Fd.AFE_CH_STAT_DIR k) != dir
  let s1 := moveCell k d s
  let s2 := ((s1.wr (Fd.AFE_CH_STAT_DIR k) dir).clr (Fd.AFE_CH_STAT_STOPPED k)).clr (Fd.AFE_CH_STAT_SILENCE k)
  let s3 := s2.updAch k (fun c => { c with lastEdge := s.now, moved := true })
  zMissing k (measure k theta tm ((s.now + 1) % 2 ^ 64) rev s3)

/-- The first accepted sample of a channel: with Z_MODE 0 it takes cell 0 (R49). -/
def firstCell (k : Nat) (s : State) : State :=
  if afeZMode s k = 0 then (s.updAch k (fun c => { c with cell := 0 })).wr (Fd.AFE_CH_COUNT_CELL k) 0 else s

/-- New levels of A and B are accepted (R47, R48). -/
def encoderEdge (k : Nat) (a b : Bool) (s : State) : State :=
  if s.rd (Fd.AFE_CH_CFG_TYPE k) ≠ 1 then s
  else
    let c := s.ach k
    let s1 := s.updAch k (fun c => { c with lvA := a, lvB := b, seen := true })
    if !c.seen then firstCell k s1
    else if a != c.lvA && b != c.lvB then afeFault k 0 (s1.incSat (Fd.AFE_CH_ERRCNT_ILLEGAL_CNT k))
    else if a == c.lvA && b == c.lvB then s1
    else if afeCpr s k = 0 then s1
    else
      let d := quadCount (s.rd (Fd.AFE_CH_CFG_DECODE k)) (quadOf c.lvA c.lvB) (quadOf a b)
      let d' := if s.rdB (Fd.AFE_CH_CFG_INVERT_DIR k) then -d else d
      if d' = 0 then s1 else countEdge k d' s1

/-- The gate condition of a Z (R49). -/
def zGate (s : State) (k : Nat) : Bool :=
  let c := s.ach k
  let g := s.rd (Fd.AFE_CH_CFG_Z_GATE_STATE k)
  !s.rdB (Fd.AFE_CH_CFG_Z_GATE_EN k) ||
  (if s.rd (Fd.AFE_CH_CFG_TYPE k) = 2 then c.phase / 2 ^ 18 == g else c.lvB == g.testBit 1 && c.lvA == g.testBit 0)

/-- Cyclic distance of two cells. -/
def cellDist (n a b : Nat) : Nat := min ((a + n - b) % n) ((b + n - a) % n)

/-- The revolution in which the ZOFS cell nearest to the present cell lies: the count may stand up to ZTOL beyond a revolution's end. -/
def zRevOf (s : State) (k : Nat) : Nat :=
  let c := s.ach k
  let n := afeCpr s k
  let z := s.rd (Fd.AFE_CH_ZCFG_ZOFS k) % max 1 n
  if n < 2 * (z - c.cell) then (c.rev + 255) % 256 else if n < 2 * (c.cell - z) then (c.rev + 1) % 256 else c.rev

/-- A gated Z takes its stamp for learning; a revolution whose period differs by more than 1/256 aborts a REF 0 run (R70). -/
def zNote (k : Nat) (s : State) : State :=
  let c := s.ach k
  let t := edgeStamp s k
  let per : Nat := match c.zAt with | some z => (t + 2 ^ 64 - z) % 2 ^ 64 | none => 0
  let bad := c.zPer != 0 && per != 0 && decide (c.zPer < 256 * ((per : Int) - (c.zPer : Int)).natAbs)
  let s1 := s.updAch k (fun c => { c with zAt := some t, zPer := if per = 0 then c.zPer else per, zRev := zRevOf s k, sinceZ := 0 })
  match s1.afe.learn with
  | some l =>
    if l.ch ≠ k ∨ s1.afeRdB Fd.AFE_LEARN_CTRL_REF then s1
    else if bad && l.started then learnEnd Fd.AFE_LEARN_CTRL_ABORTED s1
    else learnTurn k s1
  | none => s1

/-- A Z references channel k (R49): the cell, the revolution count, and a restart in the new frame. -/
def zReference (k : Nat) (s : State) : State :=
  let cell := s.rd (Fd.AFE_CH_ZCFG_ZOFS k) % max 1 (afeCpr s k)
  let s1 := s.updAch k (fun c => { c with cell := cell, rev := 0 })
  restartEst k ((s1.wr (Fd.AFE_CH_COUNT_CELL k) cell).set1 (Fd.AFE_CH_STAT_REFERENCED k))

/-- An accepted Z (R49). -/
def zIndex (k : Nat) (s : State) : State :=
  let zm := afeZMode s k
  if s.rd (Fd.AFE_CH_CFG_TYPE k) = 0 ∨ afeCpr s k = 0 ∨ zm = 0 ∨ !zGate s k then s
  else if !s.rdB (Fd.AFE_CH_STAT_REFERENCED k) then zNote k (zReference k s)
  else
    let s1 := zNote k s
    if zm = 2 ∧ s.rd (Fd.AFE_CH_ZCFG_ZTOL k) <
        cellDist (afeCpr s k) (s.ach k).cell (s.rd (Fd.AFE_CH_ZCFG_ZOFS k) % afeCpr s k) then
      afeFault k 3 (s1.incSat (Fd.AFE_CH_ERRCNT_ZMISS_CNT k))
    else s1

/-- Signals of channel k whose loss is detected, as bits 0 A, 1 B, 2 Z (Table 3.2): differential mode only; A and B of an incremental
channel (R45); Z where Z_MODE uses it. -/
def losWatched (s : State) (k : Nat) : Nat :=
  let ty := s.rd (Fd.AFE_CH_CFG_TYPE k)
  if ty = 0 ∨ s.rdB (Fd.AFE_CH_CFG_SINGLE_ENDED k) then 0
  else (if ty = 1 then 3 else 0) + (if afeZMode s k = 0 then 0 else 4)

/-- A watched signal of channel k is lost now. -/
def losNow (s : State) (k : Nat) : Bool := (s.ach k).lost &&& losWatched s k != 0

/-- Loss of signal begins or ends on differential input `sig` (0 A, 1 B, 2 Z) of channel k (Table 3.2): LOS latches where that input is
watched. -/
def lossOfSignal (e : EncIn) (lost : Bool) (s : State) : State :=
  let k := e.chan
  let sig := match e with | .a _ => 0 | .b _ => 1 | .z _ => 2
  let s1 := s.updAch k (fun c => { c with lost := if lost then c.lost ||| 2 ^ sig else c.lost ^^^ (c.lost &&& 2 ^ sig) })
  if lost && (losWatched s k).testBit sig then afeFault k 2 s1 else s1

/-! ### Sin/cos path (R50 to R52) -/

/-- An ADC pair samples at its strobe (R50); in S2 the ADCs are off (Table 14.6). -/
def adcSample (k : Nat) (sn cs : Nat) (s : State) : State :=
  if s.rd (Fd.AFE_CH_CFG_TYPE k) ≠ 2 ∨ s.pwr.sleep.resting = some 2 then s
  else
    let x := sx 16 sn
    let y := sx 16 cs
    let s1 := s.updAch k (fun c => { c with conv := some (x, y, s.now) })
    if x = -32768 ∨ x = 32767 ∨ y = -32768 ∨ y = 32767 then afeFault k 6 s1 else s1

/-- One trim step (R51), in 1/16 LSB: (x − offset) × gain / 2^15, rounded and saturated to signed Q18.4. -/
def trimStep (x off : Int) (gain : Nat) : Int := satI 22 (rne ((x - off) * (gain : Int)) 15)

/-- Factory-trimmed value of ADC j from a raw code (R51). -/
def trimFactory (s : State) (j : Nat) (x : Int) : Int :=
  trimStep (16 * x) (s.rdI (Fd.AFE_ADC_TRIM_FOFF j)) (s.rd (Fd.AFE_ADC_TRIM_FGAIN j))

/-- Statistics take one sample (R69). CH is read at each sample: a write of it without START while BUSY moves the rest of the run to the
other channel from the next update tick on (DESIGN CHOICE, log 74). -/
def statTake (k : Nat) (s1 c1 : Int) (s : State) : State :=
  if s.afe.statLeft = 0 ∨ s.afeRd Fd.AFE_STAT_CTRL_CH ≠ k then s
  else
    let add := fun (f : Fld) (x : Int) (t : State) => t.wr f (enc 64 (sx 64 (t.rd f) + x))
    let t := add Fd.AFE_STAT_SUM_SC_SUM (s1 * c1) (add Fd.AFE_STAT_SUM_CC_SUM (c1 * c1)
      (add Fd.AFE_STAT_SUM_SS_SUM (s1 * s1) (add Fd.AFE_STAT_SUM_C_SUM c1 (add Fd.AFE_STAT_SUM_S_SUM s1 s))))
    { t with afe := { t.afe with statLeft := t.afe.statLeft - 1 } }

/-- STAT_DONE: the last sample of a statistics run has been taken (R69). -/
def statDone (s : State) : State :=
  if s.afe.statLeft = 0 ∧ s.rdB Fd.AFE_STAT_CTRL_BUSY then
    irqEvent 20 ((s.clr Fd.AFE_STAT_CTRL_BUSY).set1 Fd.AFE_STAT_CTRL_DONE)
  else s

/-- A conversion of an ADC pair completes: trims, phase, amplitude, period, and the measured angle (R51, R52). -/
def adcDone (k : Nat) (s : State) : State :=
  match (s.ach k).conv with
  | none => s
  | some (x, y, tm) =>
    let s0 := s.updAch k (fun c => { c with conv := none })
    let x1 := trimFactory s (2 * k) x
    let y1 := trimFactory s (2 * k + 1) y
    let x2 := trimStep x1 (s.afeRdI (Fd.AFE_CH_UOFF_S_UOFF k)) (s.afeRd (Fd.AFE_CH_UGAIN_GAIN_S k))
    let y2 := trimStep y1 (s.afeRdI (Fd.AFE_CH_UOFF_C_UOFF k)) (s.afeRd (Fd.AFE_CH_UGAIN_GAIN_C k))
    let y3 := satI 22 (rne (y2 * (s.afeRd (Fd.AFE_CH_QUAD_QK1 k) : Int) + x2 * s.afeRdI (Fd.AFE_CH_QUAD_QK2 k)) 15)
    let pick := Config.cordicPick x2 y3
    let ch := phaseChoices x2 y3
    let ph := if x2 = 0 ∧ y3 = 0 then pick % 2 ^ 20 else nth 0 ch (pick % ch.length)
    let amp := min 65535 (amplitude x2 y3)
    let s1 := (statTake k x1 y1 s0).wr (Fd.AFE_CH_STAT_AMP k) amp
    let badAmp := decide (amp < s.afeRd (Fd.AFE_CH_AMP_AMP_MIN k)) || decide (s.afeRd (Fd.AFE_CH_AMP_AMP_MAX k) < amp)
    let s2 := s1.updAch k (fun c => { c with ampBad := badAmp })
    let s3 := if badAmp then afeFault k 4 s2 else s2
    let c := s.ach k
    let step := diffS 20 ph c.phase
    let s4 := if c.phaseOk && decide (2 ^ 18 ≤ step.natAbs) then afeFault k 5 s3 else s3
    let s5 := s4.updAch k (fun c => { c with phase := ph, phaseOk := true })
    if afeCpr s k = 0 then s5
    else
      let q0 := c.phase / 2 ^ 18
      let q1 := ph / 2 ^ 18
      let s6 := if !c.phaseOk then firstCell k s5
        else if q0 = 3 ∧ q1 = 0 then moveCell k 1 s5
        else if q0 = 0 ∧ q1 = 3 then moveCell k (-1) s5
        else s5
      let e := s6.ach k
      let theta := enc 40 (rne (((e.cell * 2 ^ 20 + ph) * afeScale s k : Nat) : Int) 52 + (e.rev : Int) * 2 ^ 32)
      zMissing k (measure k theta tm ((tm + 146) % 2 ^ 64) false s6)

/-! ### The estimator (R55 to R58, R403) -/

/-- Gains of a correction (R56), 32 fraction bits: α, β, γ from ρ. -/
def rhoOf (dm tau : Nat) : Nat := min (divRne ((dm * 2 ^ 32 : Nat) : Int) (max 1 tau : Nat)).toNat (2 ^ 31)
def alphaOf (rho : Nat) : Int := rne (((2 ^ 96 : Nat) : Int) - (((2 ^ 32 - rho) ^ 3 : Nat) : Int)) 64
def betaOf (rho : Nat) : Int := rne ((3 * rho * rho * (2 ^ 33 - rho) : Nat) : Int) 65
def gammaOf (rho : Nat) : Int := rne ((rho ^ 3 : Nat) : Int) 65

/-- Estimator values at an update: P, V, A, and whether V was saturated (Table 2.4). -/
structure Est where
  p : Nat
  v : Int
  a : Int
  sat : Bool
deriving DecidableEq, Repr

/-- Propagation over 16 ticks (R55). -/
def propagate (e : Est) : Est :=
  let v := e.v + 16 * e.a
  ⟨enc 72 ((e.p : Int) + 16 * e.v + 128 * e.a), satI 48 v, e.a, e.sat || satI 48 v != v⟩

/-- Correct from one measurement (R56): a residual beyond RESID_MAX is a TRACK fault and corrects nothing. -/
def correctEst (k tu : Nat) (m : Meas) (e : Est) (s : State) : Est × State :=
  let c := s.ach k
  let delta := diffS 64 tu m.tm
  let dm := (clampI 16 4294967295 (diffS 64 m.tm c.tLast)).toNat
  let s0 := s.updAch k (fun c => { c with tLast := m.tm })
  let back : Int := (e.p : Int) - delta * e.v
  let x := rne (sx 72 (enc 72 ((m.theta * 2 ^ 32 : Nat) - back))) 32
  let r := clampI (-2147483648) 2147483648 x
  let s1 := if r = x then s0 else s0.set1 Fd.AFE_EST_STAT_RESID_SAT
  if s.rd (Fd.AFE_CH_RESID_RESID_MAX k) * 256 < r.natAbs then (e, afeFault k 5 s1)
  else
    let rho := rhoOf dm (s.rd (Fd.AFE_CH_TAU_TAU k))
    let v0 := e.v + divRne (betaOf rho * r) (dm : Int)
    let v := satI 48 v0
    let a0 := e.a + divRne (2 * gammaOf rho * r) ((dm * dm : Nat) : Int)
    let a := satI 41 a0
    (⟨enc 72 ((e.p : Int) + alphaOf rho * r), v, a, e.sat || v != v0⟩, if a = a0 then s1 else s1.set1 Fd.AFE_EST_STAT_ACC_SAT)

/-- Take the measurements that are ready: a reversal restarts P, V and A, a pending restart sets P, else the most recent
corrects (R56, R58, R403). Three points the rules leave open (DESIGN CHOICE, log 74): the boundary angle that P takes at a reversal is
that of the corrected measurement; a reversal edge that is also the restarting measurement keeps V and A, as R403 says of that
measurement; a measurement that becomes ready after the reversal in the same update still corrects. -/
def takeMeas (k tu : Nat) (e : Est) (s : State) : Est × State :=
  let c := s.ach k
  let ready := c.meas.filter (fun m => decide (0 ≤ diffS 64 tu m.ready))
  match ready.getLast? with
  | none => (e, s)
  | some m =>
    let s1 := s.updAch k (fun c => { c with meas := c.meas.filter (fun m => decide (diffS 64 tu m.ready < 0)) })
    if c.restart then
      (⟨enc 72 ((m.theta * 2 ^ 32 : Nat) + diffS 64 tu m.tm * e.v), e.v, e.a, e.sat⟩,
        s1.updAch k (fun c => { c with restart := false, tLast := m.tm }))
    else
      match (ready.filter Meas.rev).getLast? with
      | some r =>
        let e1 : Est := ⟨r.theta * 2 ^ 32, 0, 0, e.sat⟩
        let s2 := s1.updAch k (fun c => { c with tLast := r.tm })
        if r = m then (e1, s2) else correctEst k tu m e1 s2
      | none => correctEst k tu m e s1

/-- The silence bound of an incremental channel (R57): the boundary is that of the cell, without table correction. -/
def silence (k tu : Nat) (e : Est) (s : State) : Est × State :=
  let c := s.ach k
  if s.rd (Fd.AFE_CH_CFG_TYPE k) ≠ 1 ∨ afeCpr s k = 0 ∨ e.v = 0 then (e, s)
  else
    let sc := afeScale s k
    let bnd := (c.rev * 2 ^ 64 + (if 0 < e.v then c.cell + 1 else c.cell) * sc) % 2 ^ 72
    let ovr := diffS 72 e.p bnd
    if (0 < e.v ∧ 0 < ovr) ∨ (e.v < 0 ∧ ovr < 0) then
      let ts := max 1 (diffS 64 tu c.lastEdge)
      let lim := divRne (sc : Int) ts
      let v := if 0 < e.v then min e.v lim else max e.v (-lim)
      let a := if (0 < e.v ∧ 0 < e.a) ∨ (e.v < 0 ∧ e.a < 0) then 0 else e.a
      (⟨bnd, v, a, e.sat⟩, s.set1 (Fd.AFE_CH_STAT_SILENCE k))
    else (e, s)

/-- STOP × 1,024 ticks have passed without motion (R57). -/
def stopDue (k tu : Nat) (s : State) : Bool :=
  decide (((s.afeRd (Fd.AFE_CH_STOP_STOP k) * 1024 : Nat) : Int) ≤ diffS 64 tu (s.ach k).lastEdge)

/-- STOPPED of channel k at an update (R57): an incremental channel also sets V and A to 0; a sin/cos channel counts as moving
once its fine angle has moved DIR_HYST. Its interval runs from the last such movement, and the fine angle is compared with its value
there: no window slides (DESIGN CHOICE, log 74). With DIR_HYST 0 no movement is less, and it never reads STOPPED. -/
def stopJudge (k tu : Nat) (e : Est) (s : State) : Est × State :=
  if s.rd (Fd.AFE_CH_CFG_TYPE k) = 2 then
    let fine := e.p / 2 ^ 32
    if s.rd (Fd.AFE_CH_DIRCFG_DIR_HYST k) * 256 ≤ (diffS 40 fine (s.ach k).stopRef).natAbs then
      (e, (s.updAch k (fun c => { c with stopRef := fine, lastEdge := tu })).clr (Fd.AFE_CH_STAT_STOPPED k))
    else if stopDue k tu s then (e, s.set1 (Fd.AFE_CH_STAT_STOPPED k))
    else (e, s)
  else if s.rd (Fd.AFE_CH_CFG_TYPE k) = 1 ∧ stopDue k tu s then (⟨e.p, 0, 0, e.sat⟩, s.set1 (Fd.AFE_CH_STAT_STOPPED k))
  else (e, s)

/-- DIR of a sin/cos channel (R58): it changes once the fine angle has moved DIR_HYST against it since its last extreme. The fine angle
is the published one, so the jump of P at a restart of the estimator counts as movement, here and for STOPPED (DESIGN CHOICE, log 74). -/
def dirJudge (k : Nat) (fine : Nat) (s : State) : State :=
  if s.rd (Fd.AFE_CH_CFG_TYPE k) ≠ 2 then s
  else
    let dir := s.rd (Fd.AFE_CH_STAT_DIR k)
    let d := alongDir dir (diffS 40 fine (s.ach k).dirRef)
    if 0 < d then s.updAch k (fun c => { c with dirRef := fine })
    else if d < 0 ∧ ((s.rd (Fd.AFE_CH_DIRCFG_DIR_HYST k) * 256 : Nat) : Int) ≤ -d then
      (s.updAch k (fun c => { c with dirRef := fine })).wr (Fd.AFE_CH_STAT_DIR k) (1 - dir)
    else s

/-- Lasting fault conditions latch again while they hold; OVERSPEED is judged on the velocity word (Table 3.4, R61). -/
def condJudge (k : Nat) (vw : Int) (s : State) : State :=
  let s1 := if losNow s k then afeFault k 2 s else s
  let s2 := if (s.ach k).ampBad && s.rd (Fd.AFE_CH_CFG_TYPE k) == 2 then afeFault k 4 s1 else s1
  if min (s.rd (Fd.AFE_CH_VMAX_VMAX k)) 0x7FFFFF < vw.natAbs then afeFault k 1 s2 else s2

/-- A pending bank exchange takes place at the update tick (R54): source 21. -/
def tblSwap (k : Nat) (s : State) : State :=
  let pend := if k = 0 then Fd.AFE_TBL_CTRL_PENDING0 else Fd.AFE_TBL_CTRL_PENDING1
  let act := if k = 0 then Fd.AFE_TBL_CTRL_ACTIVE0 else Fd.AFE_TBL_CTRL_ACTIVE1
  if s.rdB pend then irqEvent 21 ((s.wr act (1 - s.rd act)).clr pend) else s

/-- What changes at an update tick for the table stage (R54, R65): a bank exchange, or a write of ENk. -/
def tblChanges (k : Nat) (s : State) : Bool :=
  s.rdB (if k = 0 then Fd.AFE_TBL_CTRL_PENDING0 else Fd.AFE_TBL_CTRL_PENDING1) ||
  (mapGet? s.afe.held (if k = 0 then Fd.AFE_TBL_CTRL_EN0 else Fd.AFE_TBL_CTRL_EN1).key).isSome

/-- A measurement that enters the table stage only from tick tu on is corrected as the stage stands then (R54). -/
def reCorrect (k tu : Nat) (m : Meas) (s : State) : State :=
  if diffS 64 m.enter tu < 0 then s
  else
    let r := tblCorrect k m.raw s
    r.2.updAch k (fun c => { c with meas := c.meas.map (fun x => if x = m then { x with theta := r.1 } else x) })

/-- The table stage of channel k at an update tick: the exchange, and the measurements that have not reached it. -/
def tblStep (k tu : Nat) (s : State) : State :=
  if tblChanges k s then
    let t := tblSwap k s
    forEach (t.ach k).meas { t with afe := { t.afe with held := mapDel t.afe.held (if k = 0 then Fd.AFE_TBL_CTRL_EN0 else Fd.AFE_TBL_CTRL_EN1).key } }
      (fun m u => reCorrect k tu m u)
  else s

/-- One channel's estimate update at tick tu, published (R55 to R58, R61). -/
def chUpdate (k tu : Nat) (s : State) : State :=
  let c := s.ach k
  let e0 := propagate ⟨c.p, c.v, c.a, false⟩
  let r1 := takeMeas k tu e0 s
  let r2 := silence k tu r1.1 r1.2
  let r3 := stopJudge k tu r2.1 r2.2
  let e := r3.1
  let vw := velWord e.v
  let aw := satI 25 (rne e.a 16)
  let s1 := if vw = rne e.v 24 ∧ e.sat = false then r3.2 else r3.2.set1 Fd.AFE_EST_STAT_VEL_SAT
  let s2 := if aw = rne e.a 16 then s1 else s1.set1 Fd.AFE_EST_STAT_ACC_SAT
  let s3 := condJudge k vw (dirJudge k (e.p / 2 ^ 32) s2)
  let s4 := s3.wrB (Fd.AFE_CH_STAT_VALID k) (validNow s3 k)
  let s5 := s4.updAch k (fun c => { c with p := e.p, v := e.v, a := e.a, pubP := e.p, pubV := e.v, pubA := e.a, tU := tu, pubCell := c.cell })
  s5.wr (Fd.AFE_CH_FINE_FINE k) (e.p / 2 ^ 32)

/-- Plausibility of the two channels (R62, R63). Where no comparison is made the count is held, and ANG_VIOL, VEL_VIOL and DIR_VIOL keep
their values (DESIGN CHOICE for those three bits, log 74). -/
def plausJudge (s : State) : State :=
  if !(s.rdB (Fd.AFE_CH_STAT_VALID 0) && s.rdB (Fd.AFE_CH_STAT_VALID 1)) then s
  else
    let d := sx 40 (enc 40 (((s.ach 0).pubP / 2 ^ 32 : Nat) - ((s.ach 1).pubP / 2 ^ 32 : Nat) - s.rdI Fd.AFE_CHK_OFFSET_OFFSET))
    let v0 := velWord (s.ach 0).pubV
    let v1 := velWord (s.ach 1).pubV
    let win := s.rd Fd.AFE_PLAUS_VEL_VEL_WIN
    let va := decide (s.rd Fd.AFE_PLAUS_ANG_ANG_WIN * 256 < d.natAbs)
    let vv := decide (win < (v0 - v1).natAbs)
    let vd := decide (v0 * v1 < 0) && decide (win < v0.natAbs) && decide (win < v1.natAbs)
    let any := va || vv || vd
    let n := s.rd Fd.AFE_PLAUS_CFG_PLAUS_N
    let cnt := if any then min n (s.rd Fd.AFE_PLAUS_STAT_VCOUNT + 1) else 0
    let s1 := (((s.wr Fd.AFE_PLAUS_DIFF_DIFF (enc 40 d)).wrB Fd.AFE_PLAUS_STAT_ANG_VIOL va).wrB Fd.AFE_PLAUS_STAT_VEL_VIOL vv).wrB
      Fd.AFE_PLAUS_STAT_DIR_VIOL vd
    let s2 := s1.wr Fd.AFE_PLAUS_STAT_VCOUNT cnt
    if any && cnt == n then
      let s3 := when_ va (fun t => t.set1 Fd.AFE_FAULT_PLAUS_ANG) s2
      let s4 := when_ vv (fun t => t.set1 Fd.AFE_FAULT_PLAUS_VEL) s3
      let s5 := when_ vd (fun t => t.set1 Fd.AFE_FAULT_PLAUS_DIR) s4
      safRaise 2 (irqEvent 18 s5)
    else s2

/-- The engine moves to channel 1 at the update after LIMITED was entered for an AFE cause (R64). -/
def srcMove (s : State) : State :=
  if s.afe.moveSrc then
    let s1 := { s with afe := { s.afe with moveSrc := false } }
    if s1.rdB Fd.AFE_CTRL_SINGLE_OK && s1.rdB (Fd.AFE_CH_STAT_VALID 1) && s1.mode == Md.limited then setSrc 1 s1 else s1
  else s

/-- The LIMITED speed check (R351): input 40 after LIM_N consecutive updates above LIM_VMAX. -/
def speedCheck (s : State) : State :=
  if s.mode = Md.limited ∧ s.saf.graceOver then
    let ovr := decide (s.rd Fd.SAF_LIM_CFG_LIM_VMAX < (velWord (engV s)).natAbs)
    let n := if ovr then s.afe.overN + 1 else 0
    let s1 := { s with afe := { s.afe with overN := n } }
    if ovr && n == s.rd Fd.SAF_LIM_CFG_LIM_N then safRaise 40 s1 else s1
  else s

/-- The estimate goes to the fabric's estimate port, while the fabric ports are connected: the newest that is not yet presented (R191). -/
def estPublish (s : State) : State :=
  if s.fab.connected then
    let e : EstPort := {
      strobe := true, angle := BitVec.ofNat 32 (engTheta s / 256), frac := BitVec.ofNat 8 (engTheta s),
      vel := BitVec.ofNat 24 (enc 24 (velWord (engV s))), dir := engDir s == 1, valid := engValid s,
      referenced := s.rdB (Fd.AFE_CH_STAT_REFERENCED (engSrc s)), crossing := crossing s, mode := BitVec.ofNat 3 s.mode }
    { s with fab := { s.fab with estNext := some e } }
  else s

/-- An estimate update at the tick of the moment: both channels, plausibility, the engine's source, the speed check, the
engine's mode, a new round of examinations, and the fabric's estimate port (R56, R62, R64, R109, R110, R123, R191, R351). -/
def estimateUpdate (s : State) : State :=
  let tu := s.now
  let s0 := tblStep 1 tu (tblStep 0 tu s)
  let s1 := plausJudge (chUpdate 1 tu (chUpdate 0 tu { s0 with afe := { s0.afe with held := [] } }))
  let s2 := speedCheck (srcMove s1)
  let s3 := { s2 with nib := { s2.nib with examined := [], horizon := s2.rd Fd.NIB_HORIZON_H } }
  let s4 := if engValid s3 then s3 else retractInvalid s3
  estPublish (crossingStep (s4.wr Fd.NIB_REACH_REACH (reachOf s4)))

/-- STOP × 1,024 ticks have passed without motion on channel k (R57): judged at once. -/
def stopTimeout (k : Nat) (s : State) : State :=
  let c := s.ach k
  if s.rd (Fd.AFE_CH_CFG_TYPE k) = 0 ∨ !stopDue k s.now s ∨
      (s.rd (Fd.AFE_CH_CFG_TYPE k) = 2 ∧ s.afeRd (Fd.AFE_CH_DIRCFG_DIR_HYST k) = 0) then s
  else if s.rd (Fd.AFE_CH_CFG_TYPE k) = 1 then
    (s.set1 (Fd.AFE_CH_STAT_STOPPED k)).setAch k { c with v := 0, a := 0, pubV := 0, pubA := 0 }
  else s.set1 (Fd.AFE_CH_STAT_STOPPED k)

/-! ### Commands and configuration -/

/-- A write, field value or command was ignored: CFG_REFUSED and a status. -/
def afeRefuse (st : Nat) (s : State) : Nat × State := (st, s.set1 Fd.AFE_EST_STAT_CFG_REFUSED)

/-- AFE configuration accepts writes in STANDBY and SAFE; the defaults applied in LOAD are exempt (R65). -/
def afeCfgOk (s : State) : Bool := s.mode == Md.standby || s.mode == Md.safe

/-- CPR lies in the range of a type (R66). -/
def cprOk (ty cpr : Nat) : Bool :=
  cpr == 0 || (if ty = 1 then decide (4 ≤ cpr) && decide (cpr ≤ 1048576)
    else if ty = 2 then decide (cpr ≤ 65536) else decide (cpr ≤ 1048576))

/-- A write of TYPE or CPR restarts the channel (R403, R57); with Z_MODE 0 its next sample gives it cell 0 (R49). -/
def typeRestart (k : Nat) (s : State) : State :=
  let n := if afeZMode s k = 0 then 0 else afeCpr s k
  let s1 := (restartEst k s).updAch k (fun c => { c with
    v := 0, a := 0, moved := false, lastEdge := s.now, phaseOk := false, cell := if n = 0 then 0 else c.cell % n })
  s1.wr (Fd.AFE_CH_COUNT_CELL k) (s1.ach k).cell

/-- Put CPR and its scale. -/
def setCpr (k cpr : Nat) (s : State) : State := (s.wr (Fd.AFE_CH_CPR_CPR k) cpr).wr (Fd.AFE_CH_SCALE_S k) (scaleOf cpr)

/-- A write of AFE_CH_CPR[k] (R65, R66). -/
def cprWrite (k cpr : Nat) (s : State) : Nat × State :=
  if !afeCfgOk s then afeRefuse St.refusedMode s
  else if !cprOk (s.rd (Fd.AFE_CH_CFG_TYPE k)) cpr then afeRefuse St.range s
  else
    let s1 := typeRestart k (setCpr k cpr s)
    (St.ok, if validNow s1 k then s1 else s1.clr (Fd.AFE_CH_STAT_VALID k))

/-- A write of AFE_CH_CFG[k] (R65, R66): TYPE 3 and DECODE 0 are ignored. A conversion in flight is dropped with the sin/cos type (R45). -/
def chCfgWrite (k v : Nat) (s : State) : Nat × State :=
  if !afeCfgOk s then afeRefuse St.refusedMode s
  else
    let ty := v % 4
    let de := bits v 3 2
    let s1 := if ty = 3 then s.set1 Fd.AFE_EST_STAT_CFG_REFUSED else s.wr (Fd.AFE_CH_CFG_TYPE k) ty
    let s2 := if de = 0 then s1.set1 Fd.AFE_EST_STAT_CFG_REFUSED else s1.wr (Fd.AFE_CH_CFG_DECODE k) de
    let s3 := (((s2.wr (Fd.AFE_CH_CFG_SINGLE_ENDED k) (bits v 4 4)).wr (Fd.AFE_CH_CFG_TERM k) (bits v 5 5)).wr
      (Fd.AFE_CH_CFG_INVERT_DIR k) (bits v 6 6)).wr (Fd.AFE_CH_CFG_Z_MODE k) (bits v 9 8)
    let s4 := ((s3.wr (Fd.AFE_CH_CFG_Z_GATE_EN k) (bits v 10 10)).wr (Fd.AFE_CH_CFG_Z_GATE_STATE k) (bits v 12 11)).wr
      (Fd.AFE_CH_CFG_FILT k) (bits v 21 16)
    let s5 := if cprOk (s4.rd (Fd.AFE_CH_CFG_TYPE k)) (afeCpr s4 k) then s4 else setCpr k 0 s4
    let s6 := if ty = 3 then s5
      else (typeRestart k s5).updAch k (fun c => { c with
        seen := c.seen && s.rd (Fd.AFE_CH_CFG_TYPE k) == 1, conv := if ty = 2 then c.conv else none })
    (St.ok, if validNow s6 k then s6 else s6.clr (Fd.AFE_CH_STAT_VALID k))

/-- A write of an AFE field that is accepted only in STANDBY and SAFE. -/
def afeGated (f : State → State) (s : State) : Nat × State :=
  if afeCfgOk s then (St.ok, f s) else afeRefuse St.refusedMode s

/-- A write of AFE_PLAUS_CFG (R63, R65). -/
def plausNWrite (n : Nat) (s : State) : Nat × State :=
  if !afeCfgOk s then afeRefuse St.refusedMode s
  else if n = 0 ∨ 15624 < n then afeRefuse St.range s
  else (St.ok, s.wr Fd.AFE_PLAUS_CFG_PLAUS_N n)

/-- A write of AFE_CH_TAU[k] (R65). -/
def tauWrite (k tau : Nat) (s : State) : Nat × State :=
  if tau < 256 then afeRefuse St.range s else (St.ok, s.wr (Fd.AFE_CH_TAU_TAU k) tau)

/-- ALIGN (R71). -/
def alignCmd (s : State) : Nat × State :=
  if s.mode = Md.standby ∧ s.rdB (Fd.AFE_CH_STAT_VALID 0) ∧ s.rdB (Fd.AFE_CH_STAT_VALID 1) then
    (St.ok, s.wr Fd.AFE_CHK_OFFSET_OFFSET (enc 40 (((s.ach 0).pubP / 2 ^ 32 : Nat) - ((s.ach 1).pubP / 2 ^ 32 : Nat))))
  else afeRefuse St.refusedMode s

/-- SWAPk (R54): PENDINGk. -/
def swapReq (k : Nat) (s : State) : State := s.set1 (if k = 0 then Fd.AFE_TBL_CTRL_PENDING0 else Fd.AFE_TBL_CTRL_PENDING1)

/-- A command sets a field: its value is in force at once. -/
def afeTakes (f : Fld) (s : State) : State := { s with afe := { s.afe with held := mapDel s.afe.held f.key } }

/-- START of the learning function (R70). It clears the bins and leaves DONE and ABORTED as they are; REF is read at each measurement
while the run lasts; a START while BUSY is ignored with status BUSY and CFG_REFUSED, which R70 does not say (DESIGN CHOICE, log 74). The
other fields of a write whose START is ignored take effect (R402, R65). -/
def learnStart (ch ref revs : Nat) (s : State) : Nat × State :=
  let put := fun (t : State) =>
    afePut Fd.AFE_LEARN_CTRL_REVS revs (afePut Fd.AFE_LEARN_CTRL_REF ref (afePut Fd.AFE_LEARN_CTRL_CH ch t))
  if s.rdB Fd.AFE_LEARN_CTRL_BUSY then afeRefuse St.busy (put s)
  else if !s.rdB (Fd.AFE_CH_STAT_REFERENCED ch) then afeRefuse St.order (put s)
  else
    let s0 := afeTakes Fd.AFE_LEARN_CTRL_REF (put s)
    (St.ok, { s0.set1 Fd.AFE_LEARN_CTRL_BUSY with afe := { s0.afe with learn := some ⟨ch, 2 ^ min revs 8, false⟩, bins := [] } })

/-- START of the statistics function (R69). DONE keeps its value at a start (DESIGN CHOICE, log 74). CH and LOG2N of a write whose START is
ignored take effect (R402, R65). -/
def statStart (ch log2n : Nat) (s : State) : Nat × State :=
  let put := fun (t : State) => afePut Fd.AFE_STAT_CTRL_LOG2N log2n (afePut Fd.AFE_STAT_CTRL_CH ch t)
  if s.rdB Fd.AFE_STAT_CTRL_BUSY then afeRefuse St.busy (put s)
  else if s.rd (Fd.AFE_CH_CFG_TYPE ch) ≠ 2 ∨ log2n < 10 ∨ 20 < log2n then afeRefuse St.range (put s)
  else
      let s0 := afeTakes Fd.AFE_STAT_CTRL_CH (put s)
      let s1 := ((((s0.clr Fd.AFE_STAT_SUM_S_SUM).clr Fd.AFE_STAT_SUM_C_SUM).clr Fd.AFE_STAT_SUM_SS_SUM).clr
        Fd.AFE_STAT_SUM_CC_SUM).clr Fd.AFE_STAT_SUM_SC_SUM
      (St.ok, { s1.set1 Fd.AFE_STAT_CTRL_BUSY with afe := { s1.afe with statLeft := 2 ^ log2n } })

/-- A read of the low word of AFE_CH_FINE[k] captures the snapshot (R59). -/
def fineSnap (k : Nat) (s : State) : State :=
  s.updAch k (fun c => { c with
    snapV := c.pubV, snapA := c.pubA, snapTime := c.tU, snapCount := c.pubCell })

/-- Sleep state st reaches the AFE (R67). -/
def afeSleep (st : Nat) (s : State) : State :=
  forEach [0, 1] s (fun k t =>
    if st = 3 ∨ (st = 2 ∧ t.rd (Fd.AFE_CH_CFG_TYPE k) = 2) then
      (unReference k t).updAch k (fun c => { c with conv := none, phaseOk := false })
    else t)

end Sys2Proof.Machine
end

