-- ==== Sys2Proof/Machine/Scr.lean ====
section
/-! DEFINITION. Scribe pairs: states and commands, fetch, traps, the operations of the instruction set over them, pattern
fetches, waiting and debug (R150 to R170). -/
namespace Sys2Proof.Machine

open Sys2Proof

/-! ### Registers and states of a pair -/

/-- A pair with every register cleared (R157). -/
def pairZero : Pair := ⟨[], 0, 0, 0, 0, 0, 0, 0, .none, [], [], 0, false⟩

def State.pairOf (s : State) (p : Nat) : Pair := mapGet pairZero s.scr.pair p

def State.updPair (s : State) (p : Nat) (f : Pair → Pair) : State :=
  { s with scr := { s.scr with pair := mapPut s.scr.pair p (f (s.pairOf p)) } }

/-- Register g of a pair: g0 reads zero (R159). -/
def gRead (s : State) (p r : Nat) : Nat := if r = 0 then 0 else (mapGet 0 (s.pairOf p).g r).toNat

/-- Write a register of a pair: writes to g0 are discarded (R159). -/
def gWrite (p r v : Nat) (s : State) : State :=
  if r = 0 then s else s.updPair p (fun x => { x with g := mapPut x.g r (BitVec.ofNat 32 v) })

/-- The modes in which scribes execute (Table 1.7). -/
def scrMode (s : State) : Bool := s.mode == Md.standby || s.mode == Md.run || s.mode == Md.limited

def pairState (s : State) (p : Nat) : Nat := s.rd (Fd.SCR_PSTAT_STATE p)

/-- A pattern fetch is outstanding on a tag. -/
def tagBusy (s : State) (p t : Nat) : Bool :=
  match mapGet? (s.pairOf p).tags t with
  | some x => x.busy
  | none => false

/-- Outstanding fetches of a pair: SCR_PSTAT.FETCHES. -/
def fetchesOf (s : State) (p : Nat) : Nat := ((List.range 4).filter (tagBusy s p)).length

/-- The pair executes WAIT or PWAIT: SCR_PSTAT.WAITING. -/
def pairWaiting (s : State) (p : Nat) : Bool := (s.pairOf p).waiting != .none

/-- A pair stops other than by SCR_CMD: source 192 + p (Table 7.1). -/
def scrStop (p : Nat) (s : State) : State := irqEvent (192 + p) (setPair p 0 s)

/-- Each outstanding fetch ends after the burst in progress (R152). -/
def fetchesEnd (p : Nat) (s : State) : State :=
  s.updPair p (fun x => { x with tags := x.tags.map (fun e => (e.1, { e.2 with busy := false, left := 0 })) })

/-- A lockstep failure (R152): FAILED with its cause, the safety manager, the halt of the pair's queues. -/
def scrFail (p cause : Nat) (s : State) : State :=
  let s1 := (setPair p 4 s).wr (Fd.SCR_PSTAT_FAIL_CAUSE p) cause
  haltOwner p (safRaise (8 + p) (fetchesEnd p (s1.updPair p (fun x => { x with waiting := .none }))))

/-- The comparator finds a mismatch in a pair that executes (R151, R152). -/
def scrMismatch (p : Nat) (s : State) : State :=
  if pairState s p = 1 ∨ pairState s p = 2 ∨ pairState s p = 3 then irqEvent (192 + p) (scrFail p 1 s) else s

/-! ### Traps (R167) -/

/-- Trap entry, or the stop of a double trap. -/
def scrTrap (p cause info pcv : Nat) (s : State) : State :=
  let s1 := (((s.wr (Fd.SCR_TRAP_PC_VALUE p) pcv).wr (Fd.SCR_TRAP_CAUSE p) cause).wr (Fd.SCR_TRAP_INFO_VALUE p) info).incSat
    (Fd.SCR_TRAP_COUNT p)
  if s.rdB (Fd.SCR_PSTAT_IN_TRAP p) then scrStop p s1
  else (s1.set1 (Fd.SCR_PSTAT_IN_TRAP p)).wr (Fd.SCR_PC_PC p) (s.pairOf p).tvec.toNat

/-- A trap of the instruction at the pair's PC. -/
def scrTrapHere (p cause info : Nat) (s : State) : State := scrTrap p cause info (s.rd (Fd.SCR_PC_PC p)) s

/-- ILLEGAL (R159): the instruction word is the information. -/
def scrIllegal (p word : Nat) (s : State) : State := scrTrapHere p 1 word s

/-! ### Fetch (R155, R156) -/

/-- What fetching the instruction at the PC gives. -/
inductive Fetched where
  | word (w : Nat)
  | trap (cause : Nat)
  /-- The line is not in the fetch cache: the pair stalls until it is refilled. -/
  | stall
deriving DecidableEq, Repr

/-- The cache line that holds a line address. -/
def cacheFind (s : State) (p line : Nat) : Option CacheLine := (s.pairOf p).cache.find? (fun l => l.line == line)

/-- Word k of a slot of a pair's fetch cache in memory 15 (Table 10.1; the layout is the model's, log 76). -/
def cacheWord (p slot k : Nat) : Nat := 0x10000 + (p * 256 + slot) * 8 + k

/-- Use a cache line: it becomes the most recently used (R156). -/
def cacheUse (p : Nat) (l : CacheLine) (s : State) : State :=
  s.updPair p (fun x => { x with cache := l :: x.cache.filter (fun y => y.line != l.line) })

/-- A line leaves a pair's cache. -/
def cacheDrop (p line : Nat) (s : State) : State :=
  s.updPair p (fun x => { x with cache := x.cache.filter (fun y => y.line != line) })

/-- The slot a new line takes: a free way of its set, or that of the set's least recently used line (R156: 64 sets of 4 ways). -/
def cacheSlot (s : State) (p line : Nat) : Nat :=
  let held := ((s.pairOf p).cache.filter (fun l => l.line % 64 == line % 64)).map CacheLine.slot
  match (List.range 4).find? (fun w => !held.contains (line % 64 * 4 + w)) with
  | some w => line % 64 * 4 + w
  | none => (held.getLast?).getD 0

/-- Half of a 64-bit word that a 4-byte aligned address names. -/
def halfOf (d addr : Nat) : Nat := if addr % 8 = 4 then d / 2 ^ 32 else d % 2 ^ 32

/-- Fetch the instruction at the PC of a pair. From user flash only a cached line serves it: one with an uncorrectable word is dropped, to
be refilled (R156); a word the array gave as uncorrectable raises FETCH_UE. -/
def scrFetch (p : Nat) (s : State) : Fetched × State :=
  let pc := s.rd (Fd.SCR_PC_PC p)
  if pc % 4 ≠ 0 then (.trap 2, s)
  else if pc < 0x10000 then
    match readWord 11 (p * 8192 + pc / 8) 0 s with
    | (some d, t) => (.word (halfOf d.toNat pc), t)
    | (none, t) => (.trap 3, t)
  else if 0x02000000 ≤ pc ∧ pc < 0x04000000 ∧ xoFetch s p pc then
    match cacheFind s p (pc / 64) with
    | none => (.stall, s)
    | some l =>
      if pc % 64 / 8 ∈ l.bad then (.trap 3, s)
      else match readWord 15 (cacheWord p l.slot (pc % 64 / 8)) 0 s with
        | (some d, t) => (.word (halfOf d.toNat pc), cacheUse p l t)
        | (none, t) => (.stall, cacheDrop p (pc / 64) (t.incSat (Fd.SCR_FC_CNT_LINE_DROPS p)))
  else (.trap 2, s)

/-- A refill of the line of a system address (R156): the miss is counted, a line held and dropped for an uncorrectable word
is counted too. The refill waits while the array programs or erases. -/
def cacheRefill (p addr : Nat) (drop : Bool) (s : State) : State :=
  if !(pairState s p == 1 || (pairState s p == 3 && (s.pairOf p).stepDue)) ∨ addr < 0x02000000 ∨ 0x04000000 ≤ addr ∨ !xoFetch s p addr ∨ uflBusy s then s
  else
    let s1 := when_ (drop && (cacheFind s p (addr / 64)).isSome) (fun t => t.incSat (Fd.SCR_FC_CNT_LINE_DROPS p)) s
    let first := (addr - 0x02000000) / 64 * 8
    let slot := cacheSlot (cacheDrop p (addr / 64) s1) p (addr / 64)
    let r := (List.range 8).foldl (fun (a : List Nat × State) k => match uflRead (first + k) a.2 with
      | (some d, t) => (a.1, writeWord 15 (cacheWord p slot k) (BitVec.ofNat 64 d) t)
      | (none, t) => (a.1 ++ [k], t)) ([], s1)
    (r.2.incSat (Fd.SCR_FC_CNT_MISSES p)).updPair p (fun x =>
      { x with cache := ⟨addr / 64, slot, r.1⟩ :: x.cache.filter (fun y => y.line != addr / 64 && y.slot != slot) })

/-- Lines of a user-flash block leave every pair's cache (R156). -/
def cacheDropBlock (b : Nat) (s : State) : State :=
  { s with scr := { s.scr with pair := s.scr.pair.map (fun e =>
      (e.1, { e.2 with cache := e.2.cache.filter (fun l => (l.line * 64 - 0x02000000) / 0x40000 != b) })) } }

/-! ### Issue -/

/-- An enabled breakpoint of the pair under debug stands at its PC (R170). Where both stand there it is breakpoint 0 that hits (DESIGN
CHOICE, log 34). -/
def bpHit (p : Nat) (s : State) : Option Nat :=
  if s.rd Fd.SCR_DBG_CTRL_PAIR ≠ p ∨ !hasRight 3 s then none
  else (List.range 2).find? (fun i =>
    s.rdB (if i = 0 then Fd.SCR_DBG_CTRL_BP0_EN else Fd.SCR_DBG_CTRL_BP1_EN) &&
    s.rd (Fd.SCR_DBG_BP_ADDR i) * 4 == s.rd (Fd.SCR_PC_PC p))

/-- A breakpoint halts the pair into DEBUG (Table 7.1). -/
def bpStop (p i : Nat) (s : State) : State :=
  setPair p 3 ((s.set1 (if i = 0 then Fd.SCR_DBG_STAT_BP0_HIT else Fd.SCR_DBG_STAT_BP1_HIT)).updPair p
    (fun x => { x with stepDue := false }))

/-- BREAKPOINT: breakpoint i halts a running pair when it stands at its PC. -/
def scrBreakpoint (p : Nat) (s : State) : State :=
  if pairState s p ≠ 1 ∨ !scrMode s then s
  else match bpHit p s with
    | some i => bpStop p i s
    | none => s

/-- Run one instruction of a pair: fetch it, and do what the word says. -/
def scrDo (p : Nat) (f : Nat → State → State) (s : State) : State :=
  match scrFetch p s with
  | (.word w, t) => f w t
  | (.trap c, t) => scrTrapHere p c (s.rd (Fd.SCR_PC_PC p)) t
  | (.stall, t) => t

/-- The pair is about to execute the instruction at its PC: RUNNING in a mode that admits it, not in the middle of a WAIT or
PWAIT. -/
def scrReady (s : State) (p : Nat) : Bool := pairState s p == 1 && scrMode s && !pairWaiting s p

/-- The instruction is done: it is counted and the PC moves to the next (SCR_RETIRED). -/
def scrRetire (p : Nat) (s : State) : State :=
  (s.incWrap (Fd.SCR_RETIRED_COUNT p)).wr (Fd.SCR_PC_PC p) (s.rd (Fd.SCR_PC_PC p) + 4)

/-- The instruction is done and the PC moves to an address. -/
def scrJump (p target : Nat) (s : State) : State :=
  (s.incWrap (Fd.SCR_RETIRED_COUNT p)).wr (Fd.SCR_PC_PC p) target

/-- A result for rd. -/
def scrSet (p rd v : Nat) (s : State) : State := scrRetire p (gWrite p rd v s)

/-! ### Arithmetic (R160, R161) -/

/-- The range of a destination: n bits, signed or unsigned. -/
def fitLo (sgn : Bool) (n : Nat) : Int := if sgn then sMin n else 0
def fitHi (sgn : Bool) (n : Nat) : Int := if sgn then sMax n else ((2 ^ n : Nat) : Int) - 1

/-- A value is in the range of its destination. -/
def fits (sgn : Bool) (n : Nat) (x : Int) : Bool := decide (fitLo sgn n ≤ x) && decide (x ≤ fitHi sgn n)

/-- The n bits that a value leaves in its destination: the nearest bound with S = 1, its low bits with S = 0 (R41, R160). -/
def fitVal (sat sgn : Bool) (n : Nat) (x : Int) : Nat :=
  enc n (if sat then clampI (fitLo sgn n) (fitHi sgn n) x else x)

/-- The sticky flag of a fit: SAT or OVF when the value was out of range (R160). -/
def fitFlag (p : Nat) (sat sgn : Bool) (n : Nat) (x : Int) (s : State) : State :=
  if fits sgn n x then s else s.set1 (if sat then Fd.SCR_PSTAT_SAT p else Fd.SCR_PSTAT_OVF p)

/-- A fitted 32-bit result for rd. -/
def scrFit (p rd : Nat) (sat sgn : Bool) (x : Int) (s : State) : State :=
  scrSet p rd (fitVal sat sgn 32 x) (fitFlag p sat sgn 32 x s)

/-- A register read signed. -/
def gInt (s : State) (p r : Nat) : Int := sx 32 (gRead s p r)

/-- A register read as the operand of a signed or an unsigned operation. -/
def gOp (s : State) (p r : Nat) (u : Bool) : Int := if u then (gRead s p r : Int) else gInt s p r

/-- ADD, SUB, ADDU, SUBU. -/
def scrAddSub (p rd ra rb : Nat) (sub u sat : Bool) (s : State) : State :=
  let a := gOp s p ra u
  let b := gOp s p rb u
  scrFit p rd sat (!u) (if sub then a - b else a + b) s

/-- ADDM, SUBM: modulo 2^32, with no flag (R43). -/
def scrAddSubM (p rd ra rb : Nat) (sub : Bool) (s : State) : State :=
  scrSet p rd (enc 32 (if sub then gInt s p ra - gInt s p rb else gInt s p ra + gInt s p rb)) s

/-- A result computed from two 32-bit words. -/
def scrOp2 (f : W32 → W32 → W32) (p rd ra rb : Nat) (s : State) : State :=
  scrSet p rd (f (BitVec.ofNat 32 (gRead s p ra)) (BitVec.ofNat 32 (gRead s p rb))).toNat s

/-- A result computed from one 32-bit word. -/
def scrOp1 (f : W32 → W32) (p rd ra : Nat) (s : State) : State := scrSet p rd (f (BitVec.ofNat 32 (gRead s p ra))).toNat s

/-- A result computed from a register and an immediate word. -/
def scrOpI (f : W32 → W32 → W32) (p rd ra : Nat) (imm : W32) (s : State) : State :=
  scrSet p rd (f (BitVec.ofNat 32 (gRead s p ra)) imm).toNat s

/-- 1 or 0 in a register. -/
def bitW (b : Bool) : W32 := if b then 1 else 0

/-- Leading zeros of the n low bits of a number. -/
def clzAux : Nat → Nat → Nat
  | 0, _ => 0
  | n + 1, v => if v.testBit n then 0 else 1 + clzAux n v

/-- Trailing zeros, n when the n low bits are 0. -/
def ctzAux : Nat → Nat → Nat
  | 0, _ => 0
  | n + 1, v => if v % 2 = 1 then 0 else 1 + ctzAux n (v / 2)

/-- Set bits among the n low bits. -/
def popAux : Nat → Nat → Nat
  | 0, _ => 0
  | n + 1, v => v % 2 + popAux n (v / 2)

/-- The n low bits in reverse order. -/
def revAux : Nat → Nat → Nat
  | 0, _ => 0
  | n + 1, v => (v % 2) * 2 ^ n + revAux n (v / 2)

def clzW (a : W32) : W32 := BitVec.ofNat 32 (clzAux 32 a.toNat)
def ctzW (a : W32) : W32 := BitVec.ofNat 32 (ctzAux 32 a.toNat)
def popW (a : W32) : W32 := BitVec.ofNat 32 (popAux 32 a.toNat)
def loclrW (a : W32) : W32 := a &&& (a - 1)
def brevW (a : W32) : W32 := BitVec.ofNat 32 (revAux 32 a.toNat)
def andnW (a b : W32) : W32 := a &&& ~~~b
def sllW (a b : W32) : W32 := a <<< (b.toNat % 32)
def srlW (a b : W32) : W32 := a >>> (b.toNat % 32)
def sraW (a b : W32) : W32 := a.sshiftRight (b.toNat % 32)
def rorW (a b : W32) : W32 := a.rotateRight (b.toNat % 32)
def sltW (a b : W32) : W32 := bitW (a.slt b)
def sltuW (a b : W32) : W32 := bitW (a.ult b)
def minW (a b : W32) : W32 := if a.slt b then a else b
def maxW (a b : W32) : W32 := if a.slt b then b else a
def minuW (a b : W32) : W32 := if a.ult b then a else b
def maxuW (a b : W32) : W32 := if a.ult b then b else a
def mulW (a b : W32) : W32 := a * b
def mulhW (a b : W32) : W32 := BitVec.ofInt 32 ((a.toInt * b.toInt) / 2 ^ 32)
def mulhuW (a b : W32) : W32 := BitVec.ofNat 32 (a.toNat * b.toNat / 2 ^ 32)

/-- AWIN: the push angle window with ra as target and rb as current angle (R33, R161). -/
def awinW (a b : W32) : W32 := bitW (inWindow (a - b).toInt)

/-- A 16-bit immediate, sign-extended or zero-extended to 32 bits. -/
def immS (imm : Nat) : W32 := BitVec.ofInt 32 (sx 16 imm)
def immZ (imm : Nat) : W32 := BitVec.ofNat 32 (imm % 65536)

/-- SHRR: ra / 2^SH rounded by RM. -/
def scrShrr (p rd ra sh rm : Nat) (s : State) : State := scrSet p rd (enc 32 (roundBy rm (gInt s p ra) sh)) s

/-- MULQ: the exact product divided by 2^SH, rounded, then fitted. -/
def scrMulq (p rd ra rb sh rm : Nat) (sat u : Bool) (s : State) : State :=
  scrFit p rd sat (!u) (roundBy rm (gOp s p ra u * gOp s p rb u) sh) s

/-- The accumulator, signed. -/
def accOf (s : State) (p : Nat) : Int := (s.pairOf p).acc.toInt

/-- MAC, MSU and MULA: the accumulator takes base ± the product, fitted to 64 bits signed. -/
def scrMac (p ra rb : Nat) (base : Int) (sub sat : Bool) (s : State) : State :=
  let m := gInt s p ra * gInt s p rb
  let x := if sub then base - m else base + m
  scrRetire p ((fitFlag p sat true 64 x s).updPair p (fun y => { y with acc := BitVec.ofNat 64 (fitVal sat true 64 x) }))

/-- ACCR: the accumulator divided by 2^SH, rounded, fitted. -/
def scrAccr (p rd sh rm : Nat) (sat u : Bool) (s : State) : State :=
  scrFit p rd sat (!u) (roundBy rm (accOf s p) sh) s

/-- ACCW: the accumulator takes the sign-extended ra. -/
def scrAccw (p ra : Nat) (s : State) : State :=
  scrRetire p (s.updPair p (fun y => { y with acc := BitVec.ofInt 64 (gInt s p ra) }))

/-- The quotient of two integers rounded by a mode: the definitions of R39 applied to the exact quotient (R160). -/
def divBy (m : Nat) (x y : Int) : Int :=
  let a := if y < 0 then -x else x
  let b := if y < 0 then -y else y
  match m with
  | 0 => divRne a b
  | 1 => if 0 ≤ a then (2 * a + b) / (2 * b) else -((2 * -a + b) / (2 * b))
  | 2 => divRtz a b
  | _ => a / b

/-- DIV. -/
def scrDiv (p rd ra rb rm : Nat) (sat u : Bool) (s : State) : State :=
  if gRead s p rb = 0 then
    scrSet p rd (if u then 0xFFFFFFFF else if 0 ≤ gInt s p ra then 0x7FFFFFFF else 0x80000000) (s.set1 (Fd.SCR_PSTAT_DIV0 p))
  else scrFit p rd sat (!u) (divBy rm (gOp s p ra u) (gOp s p rb u)) s

/-! ### Data memory (R155) -/

/-- The data address of a load or store: ra + imm modulo 2^32. -/
def dataAddr (s : State) (p ra imm : Nat) : Nat := enc 32 (gInt s p ra + sx 16 imm)

/-- Bytes of a size at an address of a 64-bit word. -/
def laneOf (d addr size : Nat) : Nat := (d / 2 ^ (8 * (addr % 8))) % 2 ^ (8 * size)

/-- A load of `size` bytes, sign-extended or not. -/
def scrLoad (p rd ra imm size : Nat) (sgn : Bool) (s : State) : State :=
  let a := dataAddr s p ra imm
  if 0x10000 ≤ a ∨ a % size ≠ 0 then scrTrapHere p 4 a s
  else match readWord 12 (p * 8192 + a / 8) 0 s with
    | (none, t) => scrTrapHere p 5 a t
    | (some d, t) =>
      let v := laneOf d.toNat a size
      scrSet p rd (if sgn then enc 32 (sx (8 * size) v) else v) t

/-- A store of the low `size` bytes of a register. -/
def scrStore (p rs ra imm size : Nat) (s : State) : State :=
  let a := dataAddr s p ra imm
  if 0x10000 ≤ a ∨ a % size ≠ 0 then scrTrapHere p 4 a s
  else
    let d := BitVec.ofNat 64 ((gRead s p rs % 2 ^ (8 * size)) * 2 ^ (8 * (a % 8)))
    match narrowWrite 12 (p * 8192 + a / 8) d ((2 ^ size - 1) * 2 ^ (a % 8)) 0 s with
    | (true, t) => scrRetire p t
    | (false, t) => scrTrapHere p 5 a t

/-! ### Branches and jumps -/

/-- The target of an offset that counts instructions (R159). -/
def scrTarget (s : State) (p : Nat) (off : Int) : Nat := enc 32 (((s.rd (Fd.SCR_PC_PC p) + 4 : Nat) : Int) + 4 * off)

/-- A branch on a condition of two registers. -/
def scrBranch (c : W32 → W32 → Bool) (p ra rb off : Nat) (s : State) : State :=
  if c (BitVec.ofNat 32 (gRead s p ra)) (BitVec.ofNat 32 (gRead s p rb)) then scrJump p (scrTarget s p (sx 16 off)) s
  else scrRetire p s

/-- JAL. -/
def scrJal (p rd off : Nat) (s : State) : State :=
  scrJump p (scrTarget s p (sx 21 off)) (gWrite p rd (s.rd (Fd.SCR_PC_PC p) + 4) s)

/-- JALR: the address is computed before rd is written. -/
def scrJalr (p rd ra imm : Nat) (s : State) : State :=
  let a := dataAddr s p ra imm
  scrJump p (a - a % 4) (gWrite p rd (s.rd (Fd.SCR_PC_PC p) + 4) s)

/-! ### Special registers (R162) -/

/-- The flags word: SAT, OVF, DIV0. -/
def scrFlags (s : State) (p : Nat) : Nat :=
  s.rd (Fd.SCR_PSTAT_SAT p) + 2 * s.rd (Fd.SCR_PSTAT_OVF p) + 4 * s.rd (Fd.SCR_PSTAT_DIV0 p)

/-- The ESTAT word. -/
def scrEstat (s : State) : Nat :=
  engDir s + 2 * b2n (engValid s) + 4 * s.rd (Fd.AFE_CH_STAT_REFERENCED (engSrc s)) + 8 * b2n (crossing s) + 16 * s.mode

/-- The value of a special register (Table 7.5). -/
def specialGet (s : State) (p k : Nat) : Option Nat :=
  match k with
  | 0x00 => some (engWord s)
  | 0x01 => some (s.pairOf p).fineFrac.toNat
  | 0x02 => some (s.pairOf p).velCap.toNat
  | 0x03 => some (scrEstat s)
  | 0x04 => some (s.now % 2 ^ 32)
  | 0x05 => some (s.pairOf p).timeHi.toNat
  | 0x06 => some (scrFlags s p)
  | 0x07 => some (s.pairOf p).sdhi.toNat
  | 0x08 => some (s.pairOf p).waitTmo.toNat
  | 0x09 => some (s.rd (Fd.SCR_DOORBELL_PENDING p))
  | 0x0A => some (s.pairOf p).tvec.toNat
  | 0x0B => some (s.rd (Fd.SCR_TRAP_PC_VALUE p))
  | 0x0C => some (s.rd (Fd.SCR_TRAP_CAUSE p))
  | 0x0D => some (s.rd (Fd.SCR_TRAP_INFO_VALUE p))
  | 0x0E => some p
  | 0x0F => some ((s.now + 2 ^ 64 - (s.pairOf p).start) % 2 ^ 64 / 2 % 2 ^ 32)
  | _ => none

/-- What reading a special register does beside: ANGLE and TIME_LO capture, DOORBELL clears (Table 7.5). -/
def specialTouch (p k : Nat) (s : State) : State :=
  if k = 0x00 then s.updPair p (fun x => { x with
    fineFrac := BitVec.ofNat 32 (engTheta s % 256)
    velCap := BitVec.ofInt 32 (velWord (engV s)) })
  else if k = 0x04 then s.updPair p (fun x => { x with timeHi := BitVec.ofNat 32 (s.now / 2 ^ 32) })
  else if k = 0x09 then s.clr (Fd.SCR_DOORBELL_PENDING p)
  else s

/-- Write a special register; none where its selector is undefined or read-only. -/
def specialPut (p k v : Nat) (s : State) : Option State :=
  match k with
  | 0x06 => some (((when_ (bit v 0) (fun t => t.clr (Fd.SCR_PSTAT_SAT p)) s) |> when_ (bit v 1) (fun t => t.clr (Fd.SCR_PSTAT_OVF p)))
      |> when_ (bit v 2) (fun t => t.clr (Fd.SCR_PSTAT_DIV0 p)))
  | 0x07 => some (s.updPair p (fun x => { x with sdhi := BitVec.ofNat 32 (v % 256) }))
  | 0x08 => some (s.updPair p (fun x => { x with waitTmo := BitVec.ofNat 32 v }))
  | 0x0A => some (s.updPair p (fun x => { x with tvec := BitVec.ofNat 32 (v - v % 4) }))
  | 0x0B => some (s.wr (Fd.SCR_TRAP_PC_VALUE p) v)
  | _ => none

/-- RDS. -/
def scrRds (p rd sel word : Nat) (s : State) : State :=
  match specialGet s p sel with
  | none => scrIllegal p word s
  | some v => scrSet p rd v (specialTouch p sel s)

/-- WRS. -/
def scrWrs (p ra sel word : Nat) (s : State) : State :=
  match specialPut p sel (gRead s p ra) s with
  | none => scrIllegal p word s
  | some t => scrRetire p t

/-! ### Queues (R163, R164) -/

/-- The event in the template registers from t on. -/
def gEvent (s : State) (p t : Nat) : Ev :=
  evOf (BitVec.ofNat 32 (gRead s p t)) (BitVec.ofNat 32 (gRead s p (t + 1))) (BitVec.ofNat 32 (gRead s p (t + 2)))
    (BitVec.ofNat 32 (gRead s p (t + 3)))

/-- PUSH, PUSH_COMMIT, COMMIT and ABORT of a scribe (R163). -/
def scrPush (op p rd ra rb word : Nat) (s : State) : State :=
  if op ≤ 1 ∧ (rb = 0 ∨ rb % 4 ≠ 0) then scrIllegal p word s
  else
    let r := portOp op p (gRead s p ra % 65536) (gEvent s p rb) s
    scrSet p rd r.1 r.2

/-- The template of XPUSH for bit b: word 1 [13:0] moves by b modulo 2^14 (R164). -/
def xTemplate (e : Ev) (b : Nat) : Ev :=
  { e with w1 := BitVec.ofNat 32 (setBits e.w1.toNat 13 0 (bits e.w1.toNat 13 0 + b)) }

/-- The lowest set bit of a mask. -/
def lowBit (m : Nat) : Nat := ctzAux 32 m

/-- XPUSH up to its next boundary (R154, R164): one push, or its end. Until it ends, rb holds the bits still to push and the PC names the
XPUSH. -/
def xpushStep (p rd ra rb t : Nat) (c : Bool) (s : State) : State :=
  let q := gRead s p ra % 65536
  let m := gRead s p rb
  if m = 0 then
    let r := if c then portOp 2 p q (gEvent s p t) s else (St.ok, s)
    scrSet p rd r.1 r.2
  else
    let b := lowBit m
    let r := portOp 0 p q (xTemplate (gEvent s p t) b) s
    if r.1 = St.ok then
      let s1 := gWrite p rb (m - 2 ^ b) r.2
      if m = 2 ^ b ∧ !c then scrSet p rd St.ok s1 else s1
    else scrSet p rd r.1 r.2

/-- The constraints on the registers of XPUSH (R164). -/
def xpushOk (rd ra rb t : Nat) : Bool :=
  t != 0 && t % 4 == 0 && !(rd / 4 == t / 4) && !(ra / 4 == t / 4) && !(rb / 4 == t / 4)

/-- XPUSH, up to its next boundary. -/
def scrXpush (p rd ra rb t : Nat) (c : Bool) (word : Nat) (s : State) : State :=
  if xpushOk rd ra rb t then xpushStep p rd ra rb t c s else scrIllegal p word s

/-- QFREE (R163). -/
def scrQfree (p rd ra : Nat) (s : State) : State :=
  let q := gRead s p ra % 65536
  if qState s q = 0 then scrSet p rd 0xFFFFFFFF s
  else match readDesc q s with
    | (none, t) => scrSet p rd 0xFFFFFFFF (haltCause8 q t)
    | (some d, t) => scrSet p rd (if d.prod = p then 2 ^ d.log2 - 1 - ringDiff d d.sidx d.cidx else 0xFFFFFFFF) t

/-! ### Pattern fetch (R165) -/

/-- The tags a PFETCH may take. -/
def freeTags (s : State) (p : Nat) : List Nat := (List.range 4).filter (fun t => !tagBusy s p t)

/-- PFETCH of n bursts: a fifth fetch stalls; the tag is any free one (a free value). -/
def scrPfetch (p rd ra rb n : Nat) (s : State) : State :=
  let n' := if n = 0 then 256 else n
  let dst := gRead s p ra
  let src := (s.pairOf p).sdhi.toNat % 256 * 2 ^ 32 + gRead s p rb
  if dst % 64 ≠ 0 ∨ 0x10000 < dst + 64 * n' then scrTrapHere p 4 dst s
  else if src % 64 ≠ 0 then scrTrapHere p 4 (gRead s p rb) s
  else match freeTags s p with
    | [] => s
    | l =>
      let tag := nth 0 l ((Config.freeValue s.sys.free).toNat % l.length)
      let out := decide (xmcLines s * 64 < src + 64 * n')
      let x : FetchTag := ⟨src, dst, if out then 0 else n', if out then St.range else St.ok, !out⟩
      scrSet p rd tag (s.drawn.updPair p (fun y => { y with tags := mapPut y.tags tag x }))

/-- Write a burst to the data RAM: 8 words, a failing burst poisoned (R165, R220). -/
def burstWrite (p dst : Nat) (bad : Bool) (d : Nat) (s : State) : State :=
  forEach (List.range 8) s (fun k t =>
    let i := p * 8192 + dst / 8 + k
    let w := BitVec.ofNat 64 (d / 2 ^ (64 * k))
    if bad then (touchWord 12 i t).mput (mkey 12 i) (eccPoison w) else writeWord 12 i w t)

/-- The conditions of a WAIT that hold (R166), as its FN bits. -/
def waitBits (s : State) (p mask ref start : Nat) : Nat :=
  let d := diffS 32 (engWord s) ref
  let c0 := bit mask 0 && s.rd (Fd.SCR_DOORBELL_PENDING p) != 0
  let c1 := bit mask 1 && fetchesOf s p == 0
  let c2 := bit mask 2 && engValid s && (if bit mask 3 then decide (d ≤ 0) else decide (0 ≤ d))
  let c4 := bit mask 4 && decide ((s.pairOf p).waitTmo.toNat ≤ (s.now + 2 ^ 64 - start) % 2 ^ 64 / 2)
  b2n c0 + 2 * b2n c1 + 4 * b2n c2 + 16 * b2n c4

/-- The instruction a pair waits in ends with a result. -/
def waitEnd (p rd v : Nat) (s : State) : State :=
  scrSet p rd v (s.updPair p (fun x => { x with waiting := .none }))

/-- The status of a tag: the last fetch's, OK on a tag never used. -/
def tagStatus (s : State) (p t : Nat) : Nat :=
  match mapGet? (s.pairOf p).tags t with
  | some x => x.status
  | none => St.ok

/-- A WAIT or PWAIT of a running pair ends when its condition holds; `tmo`: what comes is the passing
of the WAIT timeout, which is nothing before WAIT_TMO cycles have passed (R165, R166). -/
def scrPoll (p : Nat) (tmo : Bool) (s : State) : State :=
  if pairState s p ≠ 1 ∨ !scrMode s then s
  else match (s.pairOf p).waiting with
    | .none => s
    | .wait rd mask ref start =>
      let b := waitBits s p mask ref start
      if b = 0 ∨ tmo ∧ !bit b 4 then s else waitEnd p rd b s
    | .pwait rd t => if tagBusy s p t then s else waitEnd p rd (tagStatus s p t) s

/-- A pattern-fetch burst of a tag arrives (R165). -/
def fetchBurst (p tag : Nat) (s : State) : State :=
  match mapGet? (s.pairOf p).tags tag with
  | none => s
  | some x =>
    if !x.busy ∨ !lineOk (x.src / 64) s then s
    else
      let r := lineRead (x.src / 64) (0x01 + p) s
      let bad := r.1.isNone || r.2.1.isNone
      let raw := fun c => cwOf r.2.2.1 c % 2 ^ 256
      let d := r.1.getD (raw 0) + (r.2.1.getD (raw 1)) * 2 ^ 256
      let s1 := burstWrite p x.dst bad d r.2.2.2
      let more := !bad && decide (1 < x.left)
      let y : FetchTag := ⟨x.src + 64, x.dst + 64, if more then x.left - 1 else 0, if bad then St.uncorrectable else St.ok, more⟩
      scrPoll p false (s1.updPair p (fun z => { z with tags := mapPut z.tags tag y }))

/-- PWAIT. -/
def scrPwait (p rd ra : Nat) (s : State) : State :=
  let t := gRead s p ra % 4
  if tagBusy s p t then s.updPair p (fun x => { x with waiting := .pwait rd t }) else scrSet p rd (tagStatus s p t) s

/-- WAIT. -/
def scrWait (p rd ra mask word : Nat) (s : State) : State :=
  if mask &&& 0x17 = 0 then scrIllegal p word s
  else
    let ref := gRead s p ra
    let b := waitBits s p mask ref s.now
    if b = 0 then s.updPair p (fun x => { x with waiting := .wait rd mask ref s.now }) else scrSet p rd b s

/-- SIGNAL: bits of SCR_SIGNAL, each an interrupt source (Table 13.1). -/
def scrSignal (p m : Nat) (s : State) : State :=
  scrRetire p (forEach ((List.range 4).filter (fun j => bit m j)) (s.orF (Fd.SCR_SIGNAL_SIG p) (m % 16))
    (fun j t => irqEvent (200 + 4 * p + j) t))

/-- TRAP: the saved PC is the next instruction (Table 7.6). -/
def scrSoft (p imm : Nat) (s : State) : State :=
  scrTrap p 6 (imm % 256) (s.rd (Fd.SCR_PC_PC p) + 4) (s.incWrap (Fd.SCR_RETIRED_COUNT p))

/-- RETT. -/
def scrRett (p : Nat) (s : State) : State :=
  scrJump p (s.rd (Fd.SCR_TRAP_PC_VALUE p)) (s.clr (Fd.SCR_PSTAT_IN_TRAP p))

/-- HALT: the PC names the instruction to execute next. -/
def scrHalt (p : Nat) (s : State) : State := scrStop p (scrRetire p s)

/-! ### Encodings (Table 7.2, Table 7.3) -/

def encR (op rd ra rb fn : Nat) : Nat :=
  op * 2 ^ 26 + rd % 32 * 2 ^ 21 + ra % 32 * 2 ^ 16 + rb % 32 * 2 ^ 11 + fn % 2048

def encI (op rd ra imm : Nat) : Nat := op * 2 ^ 26 + rd % 32 * 2 ^ 21 + ra % 32 * 2 ^ 16 + imm % 65536

/-- The fields of a word. -/
structure ScrFields where
  op : Nat
  rd : Nat
  ra : Nat
  rb : Nat
  fn : Nat
  imm : Nat
deriving DecidableEq, Repr

def scrFields (w : Nat) : ScrFields := ⟨bits w 31 26, bits w 25 21, bits w 20 16, bits w 15 11, bits w 10 0, bits w 15 0⟩

/-- An instruction word in the form opcode, rd, ra, immediate (Table 7.2). -/
def wordI (op rd ra imm : Nat) : Nat := op * 2 ^ 26 + rd * 2 ^ 21 + ra * 2 ^ 16 + imm

/-- An instruction word in the form opcode, rd, ra, rb, function field. -/
def wordR (op rd ra rb fn : Nat) : Nat := wordI op rd ra (rb * 2 ^ 11 + fn)

/-- An instruction word in the form opcode, rd, 21-bit offset. -/
def wordJ (op rd off : Nat) : Nat := op * 2 ^ 26 + rd * 2 ^ 21 + off

/-- An ALU instruction of opcode 0x00, none for a reserved function code or field. -/
def runAlu (p : Nat) (f : ScrFields) (s : State) : Option State :=
  let sat := bit f.fn 8
  let fn := f.fn % 64
  let rest := f.fn - fn
  if fn ≤ 3 then
    if rest = 0 ∨ rest = 256 then some (scrAddSub p f.rd f.ra f.rb (fn % 2 == 1) (decide (2 ≤ fn)) sat s) else none
  else if rest ≠ 0 then none
  else match fn with
    | 0x04 => some (scrOp2 (· &&& ·) p f.rd f.ra f.rb s)
    | 0x05 => some (scrOp2 (· ||| ·) p f.rd f.ra f.rb s)
    | 0x06 => some (scrOp2 (· ^^^ ·) p f.rd f.ra f.rb s)
    | 0x07 => some (scrOp2 andnW p f.rd f.ra f.rb s)
    | 0x08 => some (scrOp2 sllW p f.rd f.ra f.rb s)
    | 0x09 => some (scrOp2 srlW p f.rd f.ra f.rb s)
    | 0x0A => some (scrOp2 sraW p f.rd f.ra f.rb s)
    | 0x0B => some (scrOp2 rorW p f.rd f.ra f.rb s)
    | 0x0C => some (scrOp2 sltW p f.rd f.ra f.rb s)
    | 0x0D => some (scrOp2 sltuW p f.rd f.ra f.rb s)
    | 0x0E => some (scrOp2 minW p f.rd f.ra f.rb s)
    | 0x0F => some (scrOp2 maxW p f.rd f.ra f.rb s)
    | 0x10 => some (scrOp2 minuW p f.rd f.ra f.rb s)
    | 0x11 => some (scrOp2 maxuW p f.rd f.ra f.rb s)
    | 0x12 => some (scrOp2 mulW p f.rd f.ra f.rb s)
    | 0x13 => some (scrOp2 mulhW p f.rd f.ra f.rb s)
    | 0x14 => some (scrOp2 mulhuW p f.rd f.ra f.rb s)
    | 0x15 => if f.rb = 0 then some (scrOp1 clzW p f.rd f.ra s) else none
    | 0x16 => if f.rb = 0 then some (scrOp1 ctzW p f.rd f.ra s) else none
    | 0x17 => if f.rb = 0 then some (scrOp1 popW p f.rd f.ra s) else none
    | 0x18 => if f.rb = 0 then some (scrOp1 loclrW p f.rd f.ra s) else none
    | 0x19 => if f.rb = 0 then some (scrOp1 brevW p f.rd f.ra s) else none
    | 0x1A => some (scrOp2 awinW p f.rd f.ra f.rb s)
    | 0x1B => some (scrAddSubM p f.rd f.ra f.rb false s)
    | 0x1C => some (scrAddSubM p f.rd f.ra f.rb true s)
    | _ => none

/-- An instruction of Q format. -/
def runQ (p : Nat) (f : ScrFields) (s : State) : Option State :=
  let sh := bits f.fn 10 6
  let rm := bits f.fn 5 4
  let sat := bit f.fn 3
  let u := bit f.fn 2
  let sub := f.fn % 4
  match f.op with
  | 0x0B => if f.rb = 0 ∧ f.fn % 16 = 0 then some (scrShrr p f.rd f.ra sh rm s) else none
  | 0x0C => if sub = 0 then some (scrMulq p f.rd f.ra f.rb sh rm sat u s) else none
  | 0x0D =>
    if f.rd ≠ 0 ∨ sh ≠ 0 ∨ rm ≠ 0 ∨ u then none
    else match sub with
      | 0 => some (scrMac p f.ra f.rb (accOf s p) false sat s)
      | 1 => some (scrMac p f.ra f.rb (accOf s p) true sat s)
      | 2 => some (scrMac p f.ra f.rb 0 false sat s)
      | _ => none
  | 0x0E =>
    match sub with
    | 0 => if f.ra = 0 ∧ f.rb = 0 then some (scrAccr p f.rd sh rm sat u s) else none
    | 1 => if f.ra = 0 ∧ f.rb = 0 ∧ f.fn = 1 then some (scrSet p f.rd ((s.pairOf p).acc.toNat % 2 ^ 32) s) else none
    | 2 => if f.ra = 0 ∧ f.rb = 0 ∧ f.fn = 2 then some (scrSet p f.rd ((s.pairOf p).acc.toNat / 2 ^ 32) s) else none
    | _ => if f.rd = 0 ∧ f.rb = 0 ∧ f.fn = 3 then some (scrAccw p f.ra s) else none
  | _ => if sh = 0 ∧ sub = 0 then some (scrDiv p f.rd f.ra f.rb rm sat u s) else none

/-- Branch conditions of opcodes 0x18 to 0x1D. -/
def branchCond (op : Nat) (a b : W32) : Bool :=
  match op with
  | 0x18 => a == b
  | 0x19 => a != b
  | 0x1A => a.slt b
  | 0x1B => !a.slt b
  | 0x1C => a.ult b
  | _ => !a.ult b

/-- Execute a word, none where it is ILLEGAL by its encoding (R159). -/
def runWord (p w : Nat) (s : State) : Option State :=
  let f := scrFields w
  match f.op with
  | 0x00 => runAlu p f s
  | 0x01 => some (scrOpI (· + ·) p f.rd f.ra (immS f.imm) s)
  | 0x02 => some (scrOpI (· &&& ·) p f.rd f.ra (immZ f.imm) s)
  | 0x03 => some (scrOpI (· ||| ·) p f.rd f.ra (immZ f.imm) s)
  | 0x04 => some (scrOpI (· ^^^ ·) p f.rd f.ra (immZ f.imm) s)
  | 0x05 => if f.ra = 0 then some (scrSet p f.rd (f.imm * 65536) s) else none
  | 0x06 => some (scrOpI sltW p f.rd f.ra (immS f.imm) s)
  | 0x07 => some (scrOpI sltuW p f.rd f.ra (immS f.imm) s)
  | 0x08 => if f.imm < 32 then some (scrOpI sllW p f.rd f.ra (immZ f.imm) s) else none
  | 0x09 => if f.imm < 32 then some (scrOpI srlW p f.rd f.ra (immZ f.imm) s) else none
  | 0x0A => if f.imm < 32 then some (scrOpI sraW p f.rd f.ra (immZ f.imm) s) else none
  | 0x0B => runQ p f s
  | 0x0C => runQ p f s
  | 0x0D => runQ p f s
  | 0x0E => runQ p f s
  | 0x0F => runQ p f s
  | 0x10 => some (scrLoad p f.rd f.ra f.imm 4 false s)
  | 0x11 => some (scrLoad p f.rd f.ra f.imm 2 true s)
  | 0x12 => some (scrLoad p f.rd f.ra f.imm 2 false s)
  | 0x13 => some (scrLoad p f.rd f.ra f.imm 1 true s)
  | 0x14 => some (scrLoad p f.rd f.ra f.imm 1 false s)
  | 0x15 => some (scrStore p f.rd f.ra f.imm 4 s)
  | 0x16 => some (scrStore p f.rd f.ra f.imm 2 s)
  | 0x17 => some (scrStore p f.rd f.ra f.imm 1 s)
  | 0x18 => some (scrBranch (branchCond 0x18) p f.rd f.ra f.imm s)
  | 0x19 => some (scrBranch (branchCond 0x19) p f.rd f.ra f.imm s)
  | 0x1A => some (scrBranch (branchCond 0x1A) p f.rd f.ra f.imm s)
  | 0x1B => some (scrBranch (branchCond 0x1B) p f.rd f.ra f.imm s)
  | 0x1C => some (scrBranch (branchCond 0x1C) p f.rd f.ra f.imm s)
  | 0x1D => some (scrBranch (branchCond 0x1D) p f.rd f.ra f.imm s)
  | 0x1E => some (scrJal p f.rd (bits w 20 0) s)
  | 0x1F => some (scrJalr p f.rd f.ra f.imm s)
  | 0x20 => if f.ra = 0 then some (scrRds p f.rd f.imm w s) else none
  | 0x21 => if f.rd = 0 then some (scrWrs p f.ra f.imm w s) else none
  | 0x22 => if f.fn < 4 then some (scrPush f.fn p f.rd f.ra f.rb w s) else none
  | 0x23 => if f.fn - f.fn % 2 = bits f.fn 9 5 * 32 then some (scrXpush p f.rd f.ra f.rb (bits f.fn 9 5) (bit f.fn 0) w s) else none
  | 0x24 => if f.rb = 0 ∧ f.fn = 0 then some (scrQfree p f.rd f.ra s) else none
  | 0x25 => if f.fn < 256 then some (scrPfetch p f.rd f.ra f.rb f.fn s) else none
  | 0x26 => if f.rb = 0 ∧ f.fn = 0 then some (scrPwait p f.rd f.ra s) else none
  | 0x27 => if f.rb = 0 ∧ f.fn < 32 then some (scrWait p f.rd f.ra f.fn w s) else none
  | 0x28 => if f.rd = 0 ∧ f.ra = 0 ∧ f.imm < 16 then some (scrSignal p f.imm s) else none
  | 0x29 => if f.rd = 0 ∧ f.ra = 0 ∧ f.imm < 256 then some (scrSoft p f.imm s) else none
  | 0x2A => if w % 2 ^ 26 = 0 then some (scrRett p s) else none
  | 0x2B => if w % 2 ^ 26 = 0 then some (scrHalt p s) else none
  | _ => none

/-- Execute a word: what it says, or ILLEGAL. -/
def scrRun (p w : Nat) (s : State) : State :=
  match runWord p w s with
  | some t => t
  | none => scrIllegal p w s

/-- A pair issues an instruction (an instruction row): nothing happens unless it is about to execute one; a breakpoint at its PC comes
first; an instruction that cannot be fetched traps or stalls. The word at the PC is what executes (R159): the row's instruction `f` where
that word is the row's, `enc`; any other word as it decodes, ILLEGAL where it has no legal encoding. -/
def scrIssue (p enc : Nat) (f : State → State) (s : State) : State :=
  if !scrReady s p then s
  else match bpHit p s with
    | some i => bpStop p i s
    | none => scrDo p (fun w t => if w = enc ∧ (runWord p w t).isSome then f t else scrRun p w t) s

/-! ### Commands (Table 7.1) -/

/-- Report a status of SCR_CMD. -/
def scrStatus (p st : Nat) (s : State) : State := s.wr (Fd.SCR_PSTAT_STATUS p) st

/-- START: the comparator check passes or fails (R153). -/
def scrStart (p : Nat) (pass : Bool) (s : State) : State :=
  if pairState s p ≠ 0 then scrStatus p St.order s
  else if !scrMode s then scrStatus p St.refusedMode s
  else if !pass then scrStatus p St.ok (scrFail p 2 s)
  else scrPoll p false (scrStatus p St.ok (setPair p 1 (s.updPair p (fun x => { x with start := s.now }))))

/-- The comparator check of a START for which no row says how it comes out: a free value (R153). -/
def scrStartChecked (p : Nat) (s : State) : State :=
  scrStart p ((Config.freeValue s.sys.free).getLsbD 0) s.drawn

/-- An automatic start (Table 7.1): as START; a pair that fails its check has entered FAILED other than by SCR_CMD, and its stop source
shows it. -/
def scrAutoStart (p : Nat) (s : State) : State :=
  let t := scrStartChecked p s
  if pairState s p ≠ 4 ∧ pairState t p = 4 then irqEvent (192 + p) t else t

/-- The device enters STANDBY; at the first entry after a reset the pairs with AUTOSTART start (Table 7.1). -/
def enterStandby (s : State) : State :=
  let t := setMode Md.standby s
  if t.scr.autoDue then
    forEach ((List.range 8).filter (fun p => t.rdB (Fd.SCR_PC_INIT_AUTOSTART p)))
      { t with scr := { t.scr with autoDue := false } } scrAutoStart
  else t

/-- SCR_CMD STOP. -/
def scrStopCmd (p : Nat) (s : State) : State :=
  if pairState s p = 1 ∨ pairState s p = 3 then
    scrStatus p St.ok (setPair p 0 (s.updPair p (fun x => { x with stepDue := false })))
  else scrStatus p St.order s

/-- Every register of a pair is cleared and the PC takes its initial address (R154, R157). -/
def scrClear (p : Nat) (s : State) : State :=
  let s1 := { s with scr := { s.scr with pair := mapDel s.scr.pair p } }
  let s2 := (((s1.clr (Fd.SCR_PSTAT_SAT p)).clr (Fd.SCR_PSTAT_OVF p)).clr (Fd.SCR_PSTAT_DIV0 p)).clr (Fd.SCR_PSTAT_IN_TRAP p)
  let s3 := ((s2.clr (Fd.SCR_TRAP_CAUSE p)).clr (Fd.SCR_TRAP_PC_VALUE p)).clr (Fd.SCR_TRAP_INFO_VALUE p)
  (s3.clr (Fd.SCR_DOORBELL_PENDING p)).wr (Fd.SCR_PC_PC p) (s.rd (Fd.SCR_PC_INIT_ADDR p) * 4)

/-- SCR_CMD RESET. -/
def scrReset (p : Nat) (s : State) : State :=
  if pairState s p = 0 then scrStatus p St.ok (scrClear p s)
  else if pairState s p = 4 then
    if s.mode = Md.standby ∨ s.mode = Md.safe then
      scrStatus p St.ok ((setPair p 0 (scrClear p s)).clr (Fd.SCR_PSTAT_FAIL_CAUSE p))
    else scrStatus p St.refusedMode s
  else scrStatus p St.order s

/-- SCR_CMD FC_INVAL. -/
def scrInval (p : Nat) (s : State) : State := scrStatus p St.ok (s.updPair p (fun x => { x with cache := [] }))

/-- A write of SCR_CMD by its code. -/
def scrCmd (p op : Nat) (s : State) : State :=
  match op with
  | 1 => scrStartChecked p s
  | 2 => scrStopCmd p s
  | 3 => scrReset p s
  | 4 => scrInval p s
  | _ => scrStatus p St.range s

/-! ### Debug (R170) -/

def dbgStatus (st : Nat) (s : State) : State := s.wr Fd.SCR_DBG_STAT_STATUS st

/-- A debug write is served or refused with ACCESS. -/
def dbgServe (f : State → State) (s : State) : State := if hasRight 3 s then f s else dbgStatus St.access s

/-- HALT: at the next boundary the pair is in DEBUG. -/
def dbgHalt (s : State) : State :=
  let p := s.rd Fd.SCR_DBG_CTRL_PAIR
  if pairState s p = 1 then dbgStatus St.ok (setPair p 3 (s.updPair p (fun x => { x with stepDue := false }))) else dbgStatus St.order s

/-- Execute the instruction at the PC of a pair in DEBUG; where its line is not cached the step waits for the refill. -/
def dbgRun (p : Nat) (s : State) : State :=
  match scrFetch p s with
  | (.word w, t) => scrRun p w t
  | (.trap c, t) => scrTrapHere p c (s.rd (Fd.SCR_PC_PC p)) t
  | (.stall, t) => t.updPair p (fun x => { x with stepDue := true })

/-- A fetch-cache refill ends; a STEP that waited for it executes (R156, R170). -/
def refillDone (p addr : Nat) (drop : Bool) (s : State) : State :=
  let t := cacheRefill p addr drop s
  if pairState t p = 3 ∧ (t.pairOf p).stepDue ∧ scrMode t ∧ (cacheFind t p (t.rd (Fd.SCR_PC_PC p) / 64)).isSome then
    dbgRun p (t.updPair p (fun x => { x with stepDue := false }))
  else t

/-- STEP: one instruction, or one push of XPUSH, in DEBUG. -/
def dbgStep (s : State) : State :=
  let p := s.rd Fd.SCR_DBG_CTRL_PAIR
  if pairState s p ≠ 3 then dbgStatus St.order s
  else if !scrMode s then dbgStatus St.refusedMode s
  else
    let s1 := dbgStatus St.ok s
    match (s1.pairOf p).waiting with
    | .none => dbgRun p s1
    | .wait rd mask ref start =>
      let b := waitBits s1 p mask ref start
      if b = 0 then s1 else waitEnd p rd b s1
    | .pwait rd t => if tagBusy s1 p t then s1 else waitEnd p rd (tagStatus s1 p t) s1

/-- RESUME. -/
def dbgResume (s : State) : State :=
  let p := s.rd Fd.SCR_DBG_CTRL_PAIR
  if pairState s p ≠ 3 then dbgStatus St.order s
  else if !scrMode s then dbgStatus St.refusedMode s
  else scrPoll p false (dbgStatus St.ok (setPair p 1 (s.updPair p (fun x => { x with stepDue := false }))))

/-- A write of SCR_DBG_CTRL: the pair and the breakpoint enables, then HALT, STEP and RESUME. -/
def dbgCtrl (v : Nat) (s : State) : State :=
  dbgServe (fun t =>
    let t1 := ((t.wr Fd.SCR_DBG_CTRL_PAIR v).wrB Fd.SCR_DBG_CTRL_BP0_EN (bit v 16)).wrB Fd.SCR_DBG_CTRL_BP1_EN (bit v 17)
    dbgStatus St.ok t1 |> when_ (bit v 8) dbgHalt |> when_ (bit v 9) dbgStep |> when_ (bit v 10) dbgResume) s

/-- The value a selector of SCR_DBG_REG_SEL names. -/
def dbgGet (s : State) (p sel : Nat) : Option Nat :=
  if sel < 32 then some (gRead s p sel)
  else if 0x100 ≤ sel ∧ sel < 0x200 then specialGet s p (sel - 0x100)
  else if sel = 0x200 then some (s.rd (Fd.SCR_PC_PC p))
  else if sel = 0x201 then some ((s.pairOf p).acc.toNat % 2 ^ 32)
  else if sel = 0x202 then some ((s.pairOf p).acc.toNat / 2 ^ 32)
  else none

/-- A read of SCR_DBG_REG_DATA. -/
def dbgRegRead (s : State) : Nat × State :=
  let p := s.rd Fd.SCR_DBG_CTRL_PAIR
  let pc := s.rd (Fd.SCR_PC_PC p)
  if !hasRight 3 s then (0, dbgStatus St.access s)
  else if pairState s p ≠ 3 then (0, dbgStatus St.order s)
  else if 0x02000000 ≤ pc ∧ pc < 0x04000000 ∧ !hasRight 4 s then (0, dbgStatus St.access s)
  else match dbgGet s p (s.rd Fd.SCR_DBG_REG_SEL_SEL) with
    | some v => (v, dbgStatus St.ok s)
    | none => (0, dbgStatus St.range s)

/-- Write the register a selector names. -/
def dbgPut (p sel v : Nat) (s : State) : Option State :=
  if sel < 32 then some (gWrite p sel v s)
  else if 0x100 ≤ sel ∧ sel < 0x200 then specialPut p (sel - 0x100) v s
  else if sel = 0x200 then some ((s.wr (Fd.SCR_PC_PC p) v).updPair p (fun x => { x with waiting := .none, stepDue := false }))
  else if sel = 0x201 then some (s.updPair p (fun x => { x with acc := BitVec.ofNat 64 (x.acc.toNat / 2 ^ 32 * 2 ^ 32 + v % 2 ^ 32) }))
  else if sel = 0x202 then some (s.updPair p (fun x => { x with acc := BitVec.ofNat 64 (v * 2 ^ 32 + x.acc.toNat % 2 ^ 32) }))
  else none

/-- A write of SCR_DBG_REG_DATA. -/
def dbgRegWrite (v : Nat) (s : State) : State :=
  let p := s.rd Fd.SCR_DBG_CTRL_PAIR
  dbgServe (fun t =>
    if pairState t p ≠ 3 then dbgStatus St.order t
    else match dbgPut p (t.rd Fd.SCR_DBG_REG_SEL_SEL) v t with
      | some u => dbgStatus St.ok u
      | none => dbgStatus St.range t) s

/-! ### The memory window (R158) -/

/-- Memory and word the window shows at an offset below 0x8000. -/
def winMem (s : State) : Nat := if s.rdB Fd.SCR_WIN_SEL_MEM then 12 else 11
def winWord (s : State) (off : Nat) : Nat :=
  s.rd Fd.SCR_WIN_SEL_PAIR * 8192 + s.rd Fd.SCR_WIN_SEL_HALF * 4096 + off / 8

/-- Instruction RAM accepts writes only while the pair is STOPPED or FAILED. -/
def instrOpen (s : State) (p : Nat) : Bool := pairState s p == 0 || pairState s p == 4

end Sys2Proof.Machine
end

