-- ==== Sys2Proof/Machine/Pwr.lean ====
section
/-! DEFINITION. The power controller (R322 to R340): performance levels, sleep entry through its abort points, the idle
conditions, wake events and the end of a wake from S1 and S2, bank supplies and VIN. -/
namespace Sys2Proof.Machine

open Sys2Proof

/-- Set a bit of PWR_STAT or PWR_BANK_STAT.LOST that raises source 395. -/
def pwrFlag (f : Fld) (s : State) : State := irqEvent 395 (s.set1 f)

/-- Capture a refusal or abandonment in PWR_LAST. -/
def pwrLast (kind ap cond refuser : Nat) (s : State) : State :=
  ((((s.wr Fd.PWR_LAST_KIND kind).wr Fd.PWR_LAST_AP ap).wr Fd.PWR_LAST_COND cond).wr Fd.PWR_LAST_REFUSER refuser).wr
    Fd.PWR_LAST_TIME s.now

/-- A level request is refused or substituted (R323, R325). -/
def plRefuse (st refuser : Nat) (s : State) : State :=
  pwrLast 1 0 0 refuser (pwrFlag Fd.PWR_STAT_PL_REFUSED
    (((s.wr Fd.PWR_PL_STATUS st).wr Fd.PWR_PL_REFUSER refuser).incSat Fd.PWR_REFUSE_CNT_PL))

/-- The highest level a request may name: PL_LIMIT, and of a sector whose swap is locked the new plane's PL_LIMIT too (R215). -/
def plBound (s : State) : Nat :=
  s.cfg.shadow.foldl (fun m e => if swapLocked s e.1 then min m e.2.plLimit else m) (s.rd Fd.FAB_CLK_STAT_PL_LIMIT)

/-- A write of TARGET to PWR_PL (R323). -/
def plRequest (target : Nat) (s : State) : State :=
  let t := target % 4
  if !scrubMode s then plRefuse St.refusedMode Blk.sys s
  else if s.rdB Fd.PWR_PL_BUSY then plRefuse St.busy Blk.pwr s
  else if plBound s < t then plRefuse St.refusedMode Blk.fab s
  else
    let s1 := (s.wr Fd.PWR_PL_TARGET t).clr Fd.PWR_PL_REFUSER
    if t = s.rd Fd.PWR_PL_CURRENT then s1.wr Fd.PWR_PL_STATUS St.ok
    else { s1.set1 Fd.PWR_PL_BUSY with pwr := { s1.pwr with plTo := t } }

/-- A level change has passed its phases (R324). -/
def plDone (s : State) : State :=
  if s.rdB Fd.PWR_PL_BUSY then
    pwrFlag Fd.PWR_STAT_PL_DONE
      ((((s.wr Fd.PWR_PL_CURRENT s.pwr.plTo).clr Fd.PWR_PL_BUSY).wr Fd.PWR_PL_STATUS St.ok).clr Fd.PWR_PL_REFUSER)
  else s

/-- The level becomes `pl` in LOAD: a change completes with PL_DONE (R324). -/
def plTakes (pl : Nat) (s : State) : State :=
  if s.rd Fd.PWR_PL_CURRENT = pl then s else pwrFlag Fd.PWR_STAT_PL_DONE (s.wr Fd.PWR_PL_CURRENT pl)

/-- The level of defaults and release (R325): TARGET, or PL_LIMIT with a refusal counted. -/
def plAtRelease (s : State) : State :=
  let lim := s.rd Fd.FAB_CLK_STAT_PL_LIMIT
  if lim < s.rd Fd.PWR_PL_TARGET then plRefuse St.refusedMode Blk.fab (plTakes lim s)
  else plTakes (s.rd Fd.PWR_PL_TARGET) s

/-! ### Idle conditions (Table 14.5) -/

/-- The WAKE pin is enabled and at its active level; it reads deasserted without VCCIO6. -/
def wakePinActive (s : State) : Bool := !s.pwr.absent.contains 6 && s.rdB Fd.PWR_WAKE_CFG_PIN_EN && s.pwr.wakePin == s.rdB Fd.PWR_WAKE_CFG_PIN_POL

/-- The block with a command or long operation in progress, in the order of condition 3. -/
def busyBlock (s : State) : Option Nat :=
  if s.rdB Fd.CFG_CMD_STAT_BUSY then some Blk.cfg
  else if s.rdB Fd.UFL_CMD_STAT_BUSY then some Blk.ufl
  else if s.rdB Fd.XMC_STAT_BUSY then some Blk.xmc
  else if s.rdB Fd.QUE_CMD_STAT_BUSY then some Blk.que
  else if (List.range 8).any (fun p => s.rdB (Fd.SCR_PSTAT_BUSY p)) then some Blk.scr
  else if s.rdB Fd.LOG_EXPORT_STAT_BUSY then some Blk.log
  else if s.rdB Fd.NET_STORE_STAT_BUSY || s.net.rewrite then some Blk.net
  else none

/-- The first idle condition that holds, with its refuser (R327): condition code and block. -/
def idleCond (sel : Nat) (s : State) : Option (Nat × Nat) :=
  if s.pwr.wake ≠ 0 then some (1, s.rd Fd.PWR_WAKE_SRC_FIRST)
  else if wakePinActive s then some (1, Blk.pwr)
  else if s.net.spiBusy && s.rdB Fd.PWR_WAKE_CFG_HSP_EN then some (1, Blk.hsp)
  else if (List.range 32).any (fun n => s.rd (Fd.DMA_STAT_STATE n) == 1) then some (2, Blk.dma)
  else match busyBlock s with
    | some b => some (3, b)
    | none =>
      if (List.range 8).any (fun t => (s.rd Fd.PWR_SLEEP_CFG_TGT_MASK).testBit t && irqAsserted s t) then some (4, Blk.irq)
      else if (List.range 8).any (fun p => s.rd (Fd.SCR_PSTAT_STATE p) == 3) then some (5, Blk.scr)
      else if sel = 3 ∧ !s.que.halt.isEmpty ∧ !s.rdB Fd.PWR_SLEEP_CFG_DISCARD_QUEUES then some (6, Blk.que)
      else if s.rdB Fd.PWR_PL_BUSY then some (7, Blk.pwr)
      else none

/-! ### Sleep entry (R328, R329) -/

/-- A sleep request is judged at AP1; on a pass the mode is SLEEP, moderation is flushed and the quiesce phase runs. What becomes pending
from then on may be a wake event (R310). -/
def sleepRequest (sel : Nat) (s : State) : State :=
  match idleCond sel s with
  | some (c, b) =>
    pwrLast 0 1 c b ((s.wr Fd.SYS_MODE_REQ_STATUS St.refusedMode).incSat Fd.PWR_REFUSE_CNT_SLEEP)
  | none =>
    let s0 := s.set1 Fd.SYS_MODE_REQ_BUSY
    let s1 := { s0 with pwr := { s0.pwr with
      sleep := .entry 2, sel := sel, wake := 0, noDeepen := false, plSaved := s0.rd Fd.PWR_PL_CURRENT } }
    let s2 := slicesYield (logDrain 16 (retFlush (pairsHold (irqFlush (setMode Md.sleep s1)))))
    { s2 with fab := { s2.fab with connected := false } }

/-- Count an abandonment at an abort point and record it (R327). -/
def abandonNote (ap c b : Nat) (s : State) : State :=
  let f := if ap = 2 then Fd.PWR_ABORT_CNT_AP2 else if ap = 3 then Fd.PWR_ABORT_CNT_AP3 else Fd.PWR_ABORT_CNT_AP4
  logReq Blk.pwr 0x05 ap c b (pwrFlag Fd.PWR_STAT_ABANDONED (pwrLast 0 ap c b (s.incSat f)))

/-- The device is back in STANDBY from SLEEP: scribes, fabric ports, moderation, latched inputs. -/
def toStandbyFromSleep (s : State) : State :=
  let s1 := pairsRelease (enterStandby (sleepUndo s))
  let s2 := { s1 with pwr := { s1.pwr with wake := 0 } }
  retMessages (safWoken s2)

/-- An entry is abandoned at an abort point (R329). -/
def sleepAbandon (ap c b : Nat) (s : State) : State :=
  let s1 := (s.wr Fd.SYS_MODE_REQ_STATUS St.refusedMode).clr Fd.SYS_MODE_REQ_BUSY
  toStandbyFromSleep (abandonNote ap c b s1)

/-- The SDRAM goes into self-refresh (R244). -/
def sdramSelfRefresh (s : State) : State :=
  if xmcReady s then
    let s1 := xmcState 3 s
    { s1 with xmc := { s1.xmc with selfRefresh := true } }
  else s

/-- The entry record of the power context (R335): state, AON count, device time, level. It is written in the record phase (Table 14.6) and
again at AP4, whose count and time it is to hold (DEDUCED, log 45). -/
def entryRecord (s : State) : State :=
  pctxWrite 0x40 [BitVec.ofNat 64 s.pwr.sel, BitVec.ofNat 64 (s.rd Fd.LOG_AON_COUNT), BitVec.ofNat 64 s.now,
    BitVec.ofNat 64 (s.rd Fd.PWR_PL_CURRENT)] s

/-- AP4 has passed: beyond it the entry cannot be abandoned (R328). -/
def pastAp4 (s : State) : State :=
  let s1 := entryRecord s
  { s1 with pwr := { s1.pwr with sleep := .down, motion0 := afeTotal 0 s1, ap4Aon := s1.rd Fd.LOG_AON_COUNT } }

/-- A deepening is stopped at an abort point: the device stays in its state, and the deepen timer does not restart (R332). -/
def deepenStop (st ap c b : Nat) (s : State) : State :=
  let s1 := abandonNote ap c b s
  { s1 with pwr := { s1.pwr with sleep := .asleep st, sel := st, noDeepen := true } }

/-- The hold cells latch every user pin, INT_N[3:0] and the SDRAM bank's controls (R337). -/
def holdCells (s : State) : State :=
  { s with
    pwr := { s.pwr with hold := true, intHeld := intNMask s, intHeldUp := intNUp s }
    chn := { s.chn with pins := .held } }

/-- Sleep entry, or a deepening, reaches its next abort point (R328, R332). -/
def abortPoint (s : State) : State :=
  match s.pwr.sleep with
  | .deepening st =>
    match idleCond s.pwr.sel s with
    | some (c, b) => deepenStop st 4 c b s
    | none => pastAp4 s
  | .entry ap =>
    match idleCond s.pwr.sel s with
    | some (c, b) => sleepAbandon ap c b s
    | none =>
      if ap = 2 then
        let s1 := sdramSelfRefresh (entryRecord s)
        { s1 with pwr := { s1.pwr with sleep := .entry 3 } }
      else if ap = 3 then
        let s1 := holdCells s
        { s1 with pwr := { s1.pwr with sleep := .entry 4 } }
      else pastAp4 s
  | _ => s

/-! ### Wake (R330 to R332) -/

/-- A sleeping device with a wake event latched starts its wake order. From S3 the wake is a reset, which the wake commands
apply (Table 1.6). -/
def wakeStart (s : State) : State :=
  match s.pwr.sleep with
  | .asleep st => if s.pwr.wake = 0 then s else { s with pwr := { s.pwr with sleep := .waking st } }
  | _ => s

/-- A wake event k of Table 14.7 from block `blk`, where the state of the moment admits it. -/
def wakeEvent (k blk : Nat) (s : State) : State :=
  match s.pwr.sleep with
  | .awake => s
  | .waking _ => wakeLatch s k blk 0
  | _ => wakeStart (wakeLatch s k blk 0)

/-- The wake record of the power context (R335). -/
def wakeRecord (s : State) : State :=
  pctxWrite 0x80 [BitVec.ofNat 64 (s.rd Fd.PWR_WAKE_SRC_LATCHED + s.rd Fd.PWR_WAKE_SRC_FIRST * 2 ^ 8 +
    s.rd Fd.PWR_WAKE_SRC_IRQ_SRC * 2 ^ 16), BitVec.ofNat 64 s.now] s

/-- WOKE, the wake record and log code 0x02, on reaching STANDBY from state st (R331). -/
def wokeNote (st : Nat) (s : State) : State :=
  let src := s.rd Fd.PWR_WAKE_SRC_LATCHED + s.rd Fd.PWR_WAKE_SRC_FIRST * 2 ^ 8 + s.rd Fd.PWR_WAKE_SRC_IRQ_SRC * 2 ^ 16
  logReq Blk.pwr 0x02 src st (s.now + 2 ^ 64 - s.pwr.wakeTime)
    (pwrFlag Fd.PWR_STAT_WOKE (wakeRecord (s.wr Fd.SYS_MODE_SLEEP_STATE st)))

/-- A wake from S1 or S2 completes (R331). -/
def wakeDone (s : State) : State :=
  match s.pwr.sleep with
  | .waking st =>
    if st = 3 then s
    else toStandbyFromSleep (wokeNote st s)
  | _ => s

/-- The power-down phase completes: the device is in the chosen state (R328); a wake event latched after AP4 starts the wake. -/
def entryDone (s : State) : State :=
  match s.pwr.sleep with
  | .down =>
    let st := s.pwr.sel
    let cnt := if st = 1 then Fd.PWR_SLEEP_CNT_S1 else if st = 2 then Fd.PWR_SLEEP_CNT_S2 else Fd.PWR_SLEEP_CNT_S3
    let s1 := logReq Blk.pwr 0x01 st (s.pwr.ap4Aon % 2 ^ 32) (s.rd Fd.PWR_PL_CURRENT) (s.incWrap cnt)
    let s2 := logDrain 16 s1
    let s3 := if s2.rdB Fd.SYS_MODE_REQ_BUSY then (s2.wr Fd.SYS_MODE_REQ_STATUS St.ok).clr Fd.SYS_MODE_REQ_BUSY else s2
    let s4 := afeSleep st (if st = 3 then bridgeBegin s3 else s3)
    wakeStart { s4 with pwr := { s4.pwr with sleep := .asleep st, downAon := s4.rd Fd.LOG_AON_COUNT } }
  | _ => s

/-- AON counts in the sleep state. -/
def asleepFor (s : State) : Nat := (s.rd Fd.LOG_AON_COUNT + 2 ^ 48 - s.pwr.downAon) % 2 ^ 48

/-- The deepen timer expires in S1 or S2, DEEPEN_TIME seconds after the entry: AP3 is judged; on a pass AP4 comes next (R332). -/
def deepen (s : State) : State :=
  match s.pwr.sleep with
  | .asleep st =>
    let d := s.rd Fd.PWR_SLEEP_CFG_DEEPEN_SEL
    let dst := if d = 2 then 2 else 3
    if st < 3 ∧ st < dst ∧ s.rdB Fd.PWR_SLEEP_CFG_DEEPEN_EN ∧ !s.pwr.noDeepen ∧
        max 1 (s.rd Fd.PWR_SLEEP_CFG_DEEPEN_TIME) * 32768 ≤ asleepFor s then
      match idleCond dst s with
      | some (c, b) => deepenStop st 3 c b s
      | none => { s with pwr := { s.pwr with sleep := .deepening st, sel := dst } }
    else s
  | _ => s

/-- TIME milliseconds have passed on the AON clock since the idle timer restarted (R333). -/
def idleOver (s : State) : Bool :=
  decide (max 1 (s.rd Fd.PWR_IDLE_TMR_TIME) * 32768 ≤ (s.rd Fd.LOG_AON_COUNT + 2 ^ 48 - s.pwr.idleAon) % 2 ^ 48 * 1000)

/-- A check of the idle timer on the AON clock finds an idle condition: the timer restarts (R333). It is made at every AON edge of STANDBY
with the timer enabled (DEDUCED, log 77); `before` is the state before the tick. -/
def idleCheck (before s : State) : State :=
  if s.rd Fd.LOG_AON_COUNT ≠ before.rd Fd.LOG_AON_COUNT ∧ s.rdB Fd.PWR_IDLE_TMR_EN = true ∧ s.mode = Md.standby ∧
      (idleCond (max 1 (s.rd Fd.PWR_IDLE_TMR_SEL)) s).isSome = true then idleRestart s
  else s

/-- The idle timer reaches TIME in STANDBY (R333). A condition of Table 14.5 that holds restarts it instead, and so
does a SCRAP that keeps the device in its mode (R379). -/
def idleTimer (s : State) : State :=
  let sel := max 1 (s.rd Fd.PWR_IDLE_TMR_SEL)
  if s.rdB Fd.PWR_IDLE_TMR_EN && s.mode == Md.standby && idleOver s then
    if (idleCond sel s).isSome ∨ scrapping s = true then idleRestart s
    else if s.rdB Fd.SYS_MODE_REQ_BUSY then (idleRestart s).wr Fd.SYS_MODE_REQ_STATUS St.busy
    else sleepRequest sel (idleRestart s)
  else s

/-- The WAKE pin has been at a level for 1 µs. -/
def wakePinLevel (level : Bool) (s : State) : State :=
  let s1 := { s with pwr := { s.pwr with wakePin := level } }
  if wakePinActive s1 then wakeEvent 1 Blk.pwr s1 else s1

/-- HSP_CS_N low for 1 µs in sleep; the port does not answer without VCCIO6. -/
def hspWake (s : State) : State := if s.rdB Fd.PWR_WAKE_CFG_HSP_EN && !s.pwr.absent.contains 6 then wakeEvent 4 Blk.hsp s else s

/-- Channel 0 has moved COUNTS cells from its value at AP4: in S1, and in S2 where channel 0 is incremental. -/
def motionWake (s : State) : State :=
  let moved := decide (max 1 (s.rd Fd.PWR_MOTION_COUNTS) ≤ (afeTotal 0 s - s.pwr.motion0).natAbs)
  match s.pwr.sleep.resting with
  | some st =>
    if s.rdB Fd.PWR_WAKE_CFG_MOTION_EN && moved && (st == 1 || (st == 2 && s.rd (Fd.AFE_CH_CFG_TYPE 0) == 1)) then
      wakeEvent 5 Blk.afe s
    else s
  | none =>
    match s.pwr.sleep with
    | .down => if s.rdB Fd.PWR_WAKE_CFG_MOTION_EN && moved then wakeEvent 5 Blk.afe s else s
    | _ => s

/-- The wake timer expires, N AON counts after the entry completed. -/
def wakeTimer (s : State) : State :=
  if s.pwr.sleep.resting.isSome && s.rdB Fd.PWR_WAKE_CFG_TMR_EN && s.rd Fd.PWR_WAKE_TMR_N != 0 &&
      decide (s.rd Fd.PWR_WAKE_TMR_N ≤ asleepFor s) then wakeEvent 6 Blk.pwr s
  else s

/-- A CAN line's wake detector (R294): lines with a wake mode; MODE 3 acts as 0. -/
def netWake (l : Nat) (s : State) : State :=
  let m := s.rd (Fd.NET_WAKE_CFG_MODE l)
  if (m = 1 ∨ m = 2) ∧ s.mode = Md.sleep then
    wakeEvent (2 + l) Blk.net (s.set1 (if l = 0 then Fd.NET_WAKE_STAT_WOKE0 else Fd.NET_WAKE_STAT_WOKE1))
  else s

/-! ### Supplies (R339, R340) -/

/-- The SDRAM bank loses its supply: the contents of the SDRAM are lost (Tables 1.8 and 14.4). -/
def sdramUnsupplied (s : State) : State :=
  { s with xmc := { s.xmc with lines := [], gen := s.xmc.gen + 1, kept := false, unsupplied := true } }

/-- A bank supply has gone: its bit of PRESENT (R339). -/
def supplyGone (n : Nat) (s : State) : State :=
  let s1 := s.w1c Fd.PWR_BANK_STAT_PRESENT (2 ^ n)
  let s2 := { s1 with pwr := { s1.pwr with absent := setIns s1.pwr.absent n } }
  if n = 12 then sdramUnsupplied s2 else s2

/-- The device has its AON clock and its blocks are out of reset: not while reset is held, and not in FROZEN, whose readout alone goes
on (R378). -/
def clocked (s : State) : Bool := s.mode != Md.frozen && s.sys.phase != .noVin && s.sys.phase != .resetHeld

/-- A bank supply drops below its threshold (R339): while VIN is valid LOST is set; the entry, source 395 and, in RUN or LIMITED, the safety
input where the blocks are clocked. -/
def bankLost (n : Nat) (s : State) : State :=
  let s1 := supplyGone n s
  if s.sys.phase = .noVin then s1
  else
    let s2 := s1.orF Fd.PWR_BANK_STAT_LOST (2 ^ n)
    if !clocked s then s2
    else
      let s3 := logReq Blk.pwr 0x06 n s.mode 0 (irqEvent 395 s2)
      if driving s.mode then safRaise 35 { s3 with pwr := { s3.pwr with lostNow := setIns s3.pwr.lostNow n } } else s3

/-- A bank supply becomes present again: its pins take their owner's values (R339). -/
def bankBack (n : Nat) (s : State) : State :=
  let s1 := s.orF Fd.PWR_BANK_STAT_PRESENT (2 ^ n)
  { s1 with pwr := { s1.pwr with lostNow := setDel s1.pwr.lostNow n, absent := setDel s1.pwr.absent n } }

/-- VIN passes 2.75 V: falling sets VIN_LOW (R340). -/
def vinLevel (low : Bool) (s : State) : State :=
  let s1 := { s with pwr := { s.pwr with vinLow := low } }
  if low then logReq Blk.pwr 0x07 s.mode 0 0 (pwrFlag Fd.PWR_STAT_VIN_LOW s1) else s1

end Sys2Proof.Machine
end

