-- ==== Sys2Proof/Machine/Cfg.lean ====
section
/-! DEFINITION. Configuration flash, images and their authentication, the safe-state row, streams into planes, the
configuration commands, commit and configuration scrubbing (R193 to R217). -/
namespace Sys2Proof.Machine

open Sys2Proof

/-! ### Flash regions (Table 9.1) -/

/-- Words and pages of a 64 KiB block, and of an 8 KiB record block or row half. -/
def bankU : Nat := 8192
def bankP : Nat := 128
def smallU : Nat := 1024
def smallP : Nat := 16

def State.bank (s : State) (b : Nat) : Flash := if b = 0 then s.cfg.bank0 else s.cfg.bank1

def State.setBank (s : State) (b : Nat) (f : Flash) : State :=
  if b = 0 then { s with cfg := { s.cfg with bank0 := f } } else { s with cfg := { s.cfg with bank1 := f } }

/-- n bytes (a multiple of 8) of a bank from a byte offset. -/
def bankBytes (s : State) (b off n : Nat) : Option (List Byte) := (s.bank b).bytes bankU (n / 8) (off / 8)

/-- Bytes of a section of a slot: n bytes rounded up to whole words, cut to n. -/
def slotBytes (s : State) (b slot off n : Nat) : Option (List Byte) :=
  (bankBytes s b (slot * 0xC0000 + off) ((n + 7) / 8 * 8)).map (fun l => l.take n)

/-- Size of a sector image. -/
def imageLen : Nat := 720896

/-- SHA-256 of bytes as a digest. -/
def sha (l : List Byte) : Nat := (Config.sha256 l).toNat

/-! ### The manifest (Table 9.3) -/

/-- The manifest bytes of a bank. -/
def manifest (s : State) (b : Nat) : Option (List Byte) := slotBytes s b 0 0xB0000 4096

/-- A little-endian field of a manifest. -/
def mf (m : List Byte) (off n : Nat) : Nat := ofBytes ((m.drop off).take n)

def mfId (m : List Byte) : Nat := mf m 0x008 4
def mfVersion (m : List Byte) : Nat := mf m 0x00C 4
def mfPlLimit (m : List Byte) : Nat := mf m 0x018 1
def mfSigner (m : List Byte) : Nat := mf m 0x019 1
def mfScribe (m : List Byte) (p : Nat) : Bool := (mf m 0x01A 1).testBit p
def mfScribeEnc (m : List Byte) (p : Nat) : Bool := (mf m 0x01B 1).testBit p
def mfDefaultsLen (m : List Byte) : Nat := mf m 0x01C 4
def mfFpll (m : List Byte) (k : Nat) : Nat := mf m (0x020 + 4 * k) 4
def mfSlotHash (m : List Byte) (n : Nat) : Nat := mf m (0x180 + 40 * n) 32
def mfPlaneId (m : List Byte) (n : Nat) : Nat := mf m (0x180 + 40 * n + 32) 2
def mfFlag (m : List Byte) (n k : Nat) : Bool := (mf m (0x180 + 40 * n + 34) 2).testBit k
def mfTargets (m : List Byte) (n : Nat) : Nat := mf m (0x180 + 40 * n + 36) 4

/-- PRESENT, BOOT and ENC of a slot. -/
def mfPresent (m : List Byte) (n : Nat) : Bool := mfFlag m n 0
def mfBoot (m : List Byte) (n : Nat) : Bool := mfFlag m n 1
def mfEnc (m : List Byte) (n : Nat) : Bool := mfFlag m n 2

/-- Bytes of a range are zero. -/
def mfZero (m : List Byte) (off n : Nat) : Bool := ((m.drop off).take n).all (fun x => x == 0)

/-! ### The safe-state row (R198, R199) -/

/-- Pin records and header of a half, none where a word is uncorrectable. -/
def rowRecords (s : State) (h : Nat) : Option (List Byte) := s.cfg.row.bytes smallU 256 (h * 1024)
def rowHeader (s : State) (h : Nat) : Option (List Byte) := s.cfg.row.bytes smallU 64 (h * 1024 + 7 * 64)

/-- The copy in a half is valid (R198). -/
def rowValid (s : State) (h : Nat) : Bool :=
  match rowRecords s h, rowHeader s h with
  | some r, some d => mf d 0 4 == 0x5AFE0396 && mf d 8 4 == crc32 (r ++ d.take 8)
  | _, _ => false

/-- SEQ of the copy in a half. -/
def rowSeq (s : State) (h : Nat) : Nat :=
  match rowHeader s h with
  | some d => mf d 4 4
  | none => 0

/-- SHA-256 of the pin records of a half. -/
def rowHash (s : State) (h : Nat) : Nat :=
  match rowRecords s h with
  | some r => sha r
  | none => 0

/-- The halves with a valid copy, the newer first. -/
def rowOrder (s : State) : List Nat :=
  let v := (List.range 2).filter (rowValid s)
  match v with
  | [a, b] => if 0 < diffS 32 (rowSeq s b) (rowSeq s a) then [b, a] else [a, b]
  | l => l

/-- Every pin takes the values of a copy (R199). -/
def rowApply (h : Nat) (s : State) : State :=
  let r := (rowRecords s h).getD []
  let rec_ := fun p => mf r (4 * p) 4
  let s1 := { s with cfg := { s.cfg with
    rowVal := (List.range 512).map (fun p => (p, if rec_ p % 4 = 3 then 2 else rec_ p % 4))
    rowPin := (List.range 512).map (fun p => (p, rec_ p / 4 % 64)) } }
  s1.wr Fd.CFG_STAT_ROW_HALF h

/-- Pin settle: the newest valid copy; with none every pin stays high-impedance without pull (R199). -/
def rowSettle (s : State) : State :=
  match rowOrder s with
  | [] => { s with cfg := { s.cfg with rowVal := [], rowPin := [] } }
  | h :: _ => rowApply h s

/-- The matching copy of a manifest: the newer preferred (R199). -/
def rowMatch (s : State) (m : List Byte) : Option Nat := (rowOrder s).find? (fun h => rowHash s h == mf m 0x030 32)

/-! ### Authentication (R196) -/

/-- Items 1 and 5 and the flags of item 4. -/
def mfForm (m : List Byte) : Bool :=
  mf m 0 4 == 0x4D460396 && mf m 4 2 == 1 && mf m 6 2 == 0x0396 &&
  mfZero m 0x170 16 && mfZero m 0x680 2304 && mfZero m 0xFC0 64 &&
  (List.range 4).all (fun k => mfFpll m k == 0 || (decide (10000000 ≤ mfFpll m k) && decide (mfFpll m k ≤ 400000000))) &&
  decide (mfPlLimit m ≤ 3) &&
  (List.range 32).all (fun n => !mfBoot m n || (mfPresent m n && (mfTargets m n).testBit n))

/-- Some section of the image is encrypted. -/
def mfAnyEnc (m : List Byte) : Bool := (List.range 32).any (mfEnc m) || (List.range 8).any (mfScribeEnc m)

/-- A bank authenticates. -/
def authentic (s : State) (b : Nat) : Bool :=
  match manifest s b with
  | none => false
  | some m =>
    mfForm m && rootUsable s (mfSigner m) &&
    Config.ecdsaP256 (slotKey s (mfSigner m)) (m.take 0xF80) ((m.drop 0xF80).take 64) &&
    decide (otpFloorVal s ≤ mfVersion m) && (!mfAnyEnc m || slotUsable s 3) && (rowMatch s m).isSome

/-- Show the planes of every sector sourced from a bank. -/
def sectShowAll (s : State) : State := forEach (List.range 32) s sectShow

/-- Set AUTH of a bank with SIGNER and IMAGE_ID, or clear it (R205, R206). -/
def setAuth (b : Nat) (ok : Bool) (s : State) : State :=
  let m := (manifest s b).getD []
  sectShowAll (((s.wrB (Fd.CFG_BANK_STAT_AUTH b) ok).wr (Fd.CFG_BANK_STAT_SIGNER b) (if ok then mfSigner m else 0)).wr
    (Fd.CFG_BANK_STAT_IMAGE_ID b) (if ok then mfId m else 0))

/-! ### Decryption (R197) -/

/-- The counter block of a section and block index. -/
def ctrBlock (iv : List Byte) (section_ idx : Nat) : List Byte :=
  iv ++ [BitVec.ofNat 8 section_, 0, 0, 0] ++ (toBytes 4 idx).reverse

/-- The bytes of a section decrypted: AES-256 in CTR mode under the image encryption key. -/
def ctrDecrypt (key iv : List Byte) (section_ : Nat) : Nat → List Byte → List Byte
  | _, [] => []
  | idx, x :: r =>
    let ks := toBytes 16 (Config.aes256 key (ctrBlock iv section_ (idx / 16))).toNat
    (x ^^^ nth 0 ks (idx % 16)) :: ctrDecrypt key iv section_ (idx + 1) r

/-- A section in plain: decrypted when its flag says so. -/
def plain (s : State) (m : List Byte) (enc_ : Bool) (section_ : Nat) (l : List Byte) : List Byte :=
  if enc_ then ctrDecrypt (slotKey s 3) ((m.drop 0x010).take 8) section_ 0 l else l

/-! ### Commit records (R210) -/

/-- The 512 bytes of a page of the record area. -/
def recPage (s : State) (p : Nat) : Option (List Byte) := s.cfg.recs.bytes smallU 64 (p * 64)

/-- The record in pages p and p + 1: its SEQ and bank, when it is valid. Body page: magic, SEQ, BANK, IMAGE_ID (4 B each),
manifest SHA-256, CRC-32. -/
def recValid (s : State) (p : Nat) : Option (Nat × Nat) :=
  match recPage s p, recPage s (p + 1) with
  | some d, some e =>
    let b := mf d 8 4
    if mf d 0 4 = 0x5EC00396 ∧ mf d 48 4 = crc32 (d.take 48) ∧ e.all (fun x => x == 0xA5) ∧ b < 2 then
      match manifest s b with
      | some m => if mf d 16 32 = sha m then some (mf d 4 4, b) else none
      | none => none
    else none
  | _, _ => none

/-- SEQ of the record in pages p and p + 1 as it stands there: its pages read correctly, whatever the manifest of its bank holds now. -/
def recSeq (s : State) (p : Nat) : Option Nat :=
  match recPage s p, recPage s (p + 1) with
  | some d, some e =>
    if mf d 0 4 = 0x5EC00396 ∧ mf d 48 4 = crc32 (d.take 48) ∧ e.all (fun x => x == 0xA5) then some (mf d 4 4) else none
  | _, _ => none

/-- The last record written: its first page and SEQ. -/
def recLast (s : State) : Option (Nat × Nat) :=
  (List.range 16).foldl (fun best k => match recSeq s (2 * k), best with
    | some q, none => some (2 * k, q)
    | some q, some (p0, q0) => if 0 < diffS 32 q q0 then some (2 * k, q) else some (p0, q0)
    | none, x => x) none

/-- The newest valid record: its first page, SEQ and bank. -/
def recNewest (s : State) : Option (Nat × Nat × Nat) :=
  (List.range 16).foldl (fun best k => match recValid s (2 * k), best with
    | some (q, b), none => some (2 * k, q, b)
    | some (q, b), some (p0, q0, b0) => if 0 < diffS 32 q q0 then some (2 * k, q, b) else some (p0, q0, b0)
    | none, x => x) none

/-- The committed bank (R200). -/
def committedBank (s : State) : Nat :=
  match recNewest s with
  | some x => x.2.2
  | none => 0

/-- Show the committed bank. -/
def showCommitted (s : State) : State :=
  let b := committedBank s
  ((s.wr Fd.CFG_STAT_COMMITTED_BANK b).wrB (Fd.CFG_BANK_STAT_COMMITTED 0) (b == 0)).wrB (Fd.CFG_BANK_STAT_COMMITTED 1) (b == 1)

/-- The page the next record starts at, and the record block to erase first, if any (R210): records follow the last one written. The
block erased never holds the newest valid record: where later records have lost their validity and the other block holds it, the block
of those later records is erased instead (DESIGN CHOICE, log 76). -/
def recNext (s : State) : Nat × Option Nat :=
  let blk := match recLast s with | some x => x.1 / 16 | none => 0
  let pages := s.cfg.recs.flags.filter (fun k => k / 16 == blk)
  let top := pages.foldl max (blk * 16)
  let next := if pages.isEmpty then blk * 16 else (top / 2 + 1) * 2
  if next < (blk + 1) * 16 ∧ !s.cfg.recs.undone.contains blk then (next, none)
  else
    let o := if (recLast s).isNone then blk
      else match recNewest s with
        | some x => if x.1 / 16 = 1 - blk then blk else 1 - blk
        | none => 1 - blk
    (o * 16, some o)

/-- The record area as a record finds it: with the record block erased that it needs. -/
def recArea (s : State) : Flash :=
  match (recNext s).2 with
  | some o => s.cfg.recs.eraseEnd smallU smallP o
  | none => s.cfg.recs

/-- The record of a COMMIT does not read back as written: its body page holds free values, no done page follows, and no record
changes. -/
def recSpoil (s : State) : State :=
  let seed := s.sys.free
  let p := (recNext s).1
  { s with
    sys := { s.sys with free := seed + 128 }
    cfg := { s.cfg with recs := ((recArea s).flagPage p).scramble 64 p seed } }

/-- Write the commit record of a bank (Table 9.8, phase 3): SEQ follows that of the last record written. -/
def recWrite (b : Nat) (s : State) : State :=
  let nx := recNext s
  let f0 := recArea s
  let m := (manifest s b).getD []
  let seq := match recLast s with | some x => (x.2 + 1) % 2 ^ 32 | none => 0
  let head := toBytes 4 0x5EC00396 ++ toBytes 4 seq ++ toBytes 4 b ++ toBytes 4 (mfId m) ++ toBytes 32 (sha m)
  let body := head ++ toBytes 4 (crc32 head) ++ List.replicate 460 0
  let wordsOf := fun (l : List Byte) => (List.range 64).map (fun k => ofBytes ((l.drop (8 * k)).take 8))
  let f1 := (f0.flagPage nx.1).program (nx.1 * 64) (wordsOf body)
  let f2 := (f1.flagPage (nx.1 + 1)).program ((nx.1 + 1) * 64) (wordsOf (List.replicate 512 0xA5))
  showCommitted { s with cfg := { s.cfg with recs := f2 } }

/-! ### Commands (R205, R206) -/

/-- Report a status of CFG_CMD: source 384. -/
def cfgStatus (st : Nat) (s : State) : State := irqEvent 384 (s.wr Fd.CFG_CMD_STAT_STATUS st)

/-- Modes of the configuration commands. -/
def cfgCmdMode (s : State) : Bool := s.mode == Md.standby || s.mode == Md.run || s.mode == Md.limited || s.mode == Md.safe

/-- A write of CFG_CMD with an op by a master: one command at a time (R20), then the mode, then the port (R206; R205: a fabric port's write is
discarded and sets FAB_CMD). That it is discarded while BUSY too, where the spec orders nothing, is DEDUCED (log 77). -/
def cfgCmd (master op : Nat) (f : State → State) (s : State) : State :=
  if s.rdB Fd.CFG_CMD_STAT_BUSY then (if isFabric master then s.set1 Fd.CFG_STAT_FAB_CMD else cfgStatus St.busy s)
  else if !cfgCmdMode s then cfgStatus St.refusedMode (s.wr Fd.CFG_CMD_STAT_OP op)
  else if isFabric master then s.set1 Fd.CFG_STAT_FAB_CMD
  else f (s.wr Fd.CFG_CMD_STAT_OP op)

/-- A command is taken: BUSY, with its arguments. -/
def cfgTake (op bank addr sector slot : Nat) (s : State) : State :=
  { s.set1 Fd.CFG_CMD_STAT_BUSY with cfg := { s.cfg with cmd := some ⟨op, bank, addr, sector, slot, false, 0, 0⟩ } }

/-- Writing is paused by IMGPROG_PACE 3 (R206). -/
def paced (s : State) : Bool := s.rd Fd.SYS_ARB_CFG_IMGPROG_PACE == 3

/-- Ticks between two page programs under IMGPROG_PACE 1 and 2: 100 µs, 1 ms (SYS_ARB_CFG). -/
def paceTicks (s : State) : Nat :=
  match s.rd Fd.SYS_ARB_CFG_IMGPROG_PACE with
  | 1 => 25000
  | 2 => 250000
  | _ => 0

/-- The pace lets the program or erase of a command begin (R206): PROGRAM_PAGE keeps the interval of its pace. -/
def paceOpen (s : State) (op : Nat) : Bool :=
  !paced s && (op != 3 || s.cfg.pageAt.all (fun a => decide (paceTicks s ≤ (s.now + 2 ^ 64 - a) % 2 ^ 64)))

/-- The program or erase of a command begins, once the pace permits it: an erase marks its unit, a program flags its page (R194,
R206). -/
def cfgBegin (s : State) : State :=
  match s.cfg.cmd with
  | none => s
  | some c =>
    if c.started ∨ paceOpen s c.op = false then s
    else
      let s1 := { s with cfg := { s.cfg with cmd := some { c with started := true } } }
      match c.op with
      | 2 => s1.setBank c.bank ((s1.bank c.bank).eraseBegin (c.addr / 0x10000))
      | 3 => { s1.setBank c.bank ((s1.bank c.bank).flagPage (c.addr / 512)) with
          cfg := { (s1.setBank c.bank ((s1.bank c.bank).flagPage (c.addr / 512))).cfg with pageAt := some s.now } }
      | 10 => { s1 with cfg := { s1.cfg with row := s1.cfg.row.eraseBegin c.addr, rowErased := some c.addr } }
      | 11 => { s1 with cfg := { s1.cfg with row := s1.cfg.row.flagPage (c.addr / 512) } }
      | _ => s1

/-- Ticks the two margin reads of a page take at the pace in force (R209, Table 9.8: 40 µs each; SYS_ARB_CFG). -/
def marginTicks (s : State) : Nat :=
  match s.rd Fd.SYS_ARB_CFG_IMGPROG_PACE with
  | 0 => 20000
  | 1 => 25000
  | _ => 250000

/-- Pages completed in commit phase 2 (PROGRESS): none are read while the pace is 3. -/
def marginPages (s : State) : Nat :=
  match s.cfg.cmd with
  | none => 0
  | some c => min 49152 (c.pages + if paced s then 0 else (s.now + 2 ^ 64 - c.since) % 2 ^ 64 / marginTicks s)

/-- A write of SYS_ARB_CFG.IMGPROG_PACE: the pages counted so far stand, and what waited for the pace may begin. -/
def cfgPaced (w : State → Nat × State) (s : State) : Nat × State :=
  let s1 := match s.cfg.cmd with
    | some c => { s with cfg := { s.cfg with cmd := some { c with pages := marginPages s, since := s.now } } }
    | none => s
  let r := w s1
  (r.1, cfgBegin r.2)

/-- A command in progress ends with a status. -/
def cfgEnd (st : Nat) (s : State) : State :=
  let s1 := ((s.clr Fd.CFG_CMD_STAT_BUSY).clr Fd.CFG_CMD_STAT_PHASE).clr Fd.CFG_CMD_STAT_PROGRESS
  cfgStatus st { s1 with cfg := { s1.cfg with cmd := none } }

/-- A bank has been written: its AUTH clears, and no plane sourced from it is REPAIRABLE (R206, R217). -/
def bankWritten (b : Nat) (s : State) : State :=
  let mark := fun (e : Nat × Plane) => (e.1, if e.2.bank = b then { e.2 with repairable := false } else e.2)
  setAuth b false { s with cfg := { s.cfg with active := s.cfg.active.map mark, shadow := s.cfg.shadow.map mark } }

/-- The bank may be written: not the loaded one, and not in the INVALID state (R206, R366). -/
def bankOpen (s : State) (b : Nat) : Bool := !s.rdB (Fd.CFG_BANK_STAT_LOADED b) && lcsState s != 3

/-- AUTH_BANK. -/
def cfgAuthBank (master b : Nat) (s : State) : State := cfgCmd master 1 (cfgTake 1 b 0 0 0) s

/-- ERASE_BLOCK. -/
def cfgErase (master b : Nat) (s : State) : State :=
  cfgCmd master 2 (fun t =>
    let a := t.rd Fd.CFG_ADDR_OFFSET
    if !bankOpen t b then cfgStatus St.access t
    else if a % 0x10000 ≠ 0 ∨ 0x1800000 ≤ a then cfgStatus St.range t
    else
      let t1 := bankWritten b t
      cfgBegin (cfgTake 2 b a 0 0 t1)) s

/-- PROGRAM_PAGE. -/
def cfgProgram (master b : Nat) (s : State) : State :=
  cfgCmd master 3 (fun t =>
    let a := t.rd Fd.CFG_ADDR_OFFSET
    if !bankOpen t b then cfgStatus St.access t
    else if a % 512 ≠ 0 ∨ 0x1800000 ≤ a then cfgStatus St.range t
    else if !(t.bank b).noneAbove bankP (a / 512) then cfgStatus St.order t
    else if !(t.bank b).pageFree bankP (a / 512) then cfgStatus St.notErased t
    else
      let t1 := bankWritten b t
      cfgBegin (cfgTake 3 b a 0 0 t1)) s

/-- READ_PAGE. -/
def cfgReadPage (master b : Nat) (s : State) : State :=
  cfgCmd master 4 (fun t =>
    let a := t.rd Fd.CFG_ADDR_OFFSET
    if a % 512 ≠ 0 ∨ 0x1800000 ≤ a then cfgStatus St.range t else cfgTake 4 b a 0 0 t) s

/-- HASH_SLOT. -/
def cfgHashSlot (master b slot : Nat) (s : State) : State := cfgCmd master 5 (cfgTake 5 b 0 0 slot) s

/-- Armed swaps of a sector: CFG_SECT_STAT.RESERVED (R212). -/
def swapReserved (s : State) (k : Nat) : Nat :=
  (s.nib.nibs.filter (fun e => e.2.ev.action == 7 && e.2.ev.channel == k)).length

/-- The manifest of the loaded image. -/
def loadedManifest (s : State) : Option (List Byte) :=
  if s.rdB (Fd.CFG_BANK_STAT_LOADED 0) then manifest s 0
  else if s.rdB (Fd.CFG_BANK_STAT_LOADED 1) then manifest s 1
  else none

/-- The FPLL settings of two manifests are equal. -/
def sameFpll (a b : List Byte) : Bool := (List.range 4).all (fun k => mfFpll a k == mfFpll b k)

/-- Show an EMPTY shadow plane. -/
def shadowEmpty (k : Nat) (s : State) : State :=
  let s1 := { s with cfg := { s.cfg with shadow := mapDel s.cfg.shadow k, scrubPos := mapDel s.cfg.scrubPos (2 * k + 1) } }
  (((s1.clr (Fd.CFG_SECT_STAT_SHADOW_STATE k)).clr (Fd.CFG_SECT_STAT_SHD_REPAIRABLE k)).clr
    (Fd.CFG_SECT_STAT_SHD_SRC_BANK k)).clr (Fd.CFG_SECT_STAT_SHD_SRC_SLOT k) |>.clr (Fd.CFG_SECT_STAT_SHADOW_ID k)

/-- SHADOW_LOAD (R208): while it runs the plane is LOADING. -/
def cfgShadowLoad (master b slot sector : Nat) (s : State) : State :=
  cfgCmd master 6 (fun t =>
    match manifest t b with
    | none => cfgStatus St.order t
    | some m =>
      if !t.rdB (Fd.CFG_BANK_STAT_AUTH b) then cfgStatus St.order t
      else if !mfPresent m slot ∨ !(mfTargets m slot).testBit sector then cfgStatus St.range t
      else if !(match loadedManifest t with | some l => sameFpll m l | none => false) then cfgStatus St.range t
      else if swapReserved t sector ≠ 0 then cfgStatus St.order t
      else
        let t1 := bstYield 18 (shadowEmpty sector t)
        let p : Plane := ⟨1, b, slot, 0, mfPlLimit m, 0, false, [], 0, [], [], none, false⟩
        cfgTake 6 b 0 sector slot (sectShow sector { t1 with cfg := { t1.cfg with shadow := mapPut t1.cfg.shadow sector p } })) s

/-- A plane written from a section's plain bytes. -/
def planeOf (b slot : Nat) (m data : List Byte) : Plane :=
  ⟨2, b, slot, mfPlaneId m slot, mfPlLimit m, (Config.planeNets data).toNat, true,
   (List.range 90112).map (fun i => eccEncode (BitVec.ofNat 64 (ofBytes ((data.drop (8 * i)).take 8)))), crc32 data, [], [], none,
   false⟩

/-- A stream of a shadow load ends; `readback`: the written plane reads back equal (Table 9.6). -/
def shadowStreamEnd (readback : Bool) (s : State) : State :=
  match s.cfg.cmd with
  | none => s
  | some c =>
    if c.op ≠ 6 then s
    else
      let fail := fun (st : Nat) =>
        let p : Plane := ⟨3, c.bank, c.slot, 0, 0, 0, false, [], 0, [], [], none, false⟩
        cfgEnd st (sectShow c.sector { s with cfg := { s.cfg with shadow := mapPut s.cfg.shadow c.sector p } })
      match manifest s c.bank, slotBytes s c.bank c.slot 0 imageLen with
      | some m, some l =>
        if sha l = mfSlotHash m c.slot ∧ readback then
          let p := planeOf c.bank c.slot m (plain s m (mfEnc m c.slot) c.slot l)
          cfgEnd St.ok (sectShow c.sector { s with cfg := { s.cfg with shadow := mapPut s.cfg.shadow c.sector p } })
        else fail St.auth
      | _, _ => fail St.uncorrectable

/-- SHADOW_CLEAR. -/
def cfgShadowClear (master sector : Nat) (s : State) : State :=
  cfgCmd master 7 (fun t =>
    if swapReserved t sector ≠ 0 then cfgStatus St.order t
    else cfgStatus St.ok (shadowEmpty sector (bstYield 18 t))) s

/-- COMMIT: phase 1 begins (R209). -/
def cfgCommit (master b : Nat) (s : State) : State :=
  cfgCmd master 8 (fun t =>
    if !t.rdB (Fd.CFG_BANK_STAT_AUTH b) then cfgStatus St.order t
    else (cfgTake 8 b 0 0 0 t).wr Fd.CFG_CMD_STAT_PHASE 1) s

/-- Every PRESENT slot, scribe section and the defaults section of a bank matches its manifest (Table 9.8, phase 1). -/
def bankHashes (s : State) (b : Nat) : Bool :=
  match manifest s b with
  | none => false
  | some m =>
    let is := fun (l : Option (List Byte)) (h : Nat) => match l with | some x => sha x == h | none => false
    (List.range 32).all (fun n => !mfPresent m n || is (slotBytes s b n 0 imageLen) (mfSlotHash m n)) &&
    (List.range 8).all (fun p => !mfScribe m p || is (slotBytes s b (p + 1) 0xB0000 65536) (mf m (0x070 + 32 * p) 32)) &&
    (mfDefaultsLen m == 0 || is (slotBytes s b 0 0xB1000 (mfDefaultsLen m)) (mf m 0x050 32))

/-- A commit phase ends; `margin`: every page of the bank passed its margin read, or the record reads back as written (Table 9.8). A
record that does not ends the command with UNCORRECTABLE (DESIGN CHOICE, log 76). -/
def commitPhaseEnd (margin : Bool) (s : State) : State :=
  match s.cfg.cmd with
  | none => s
  | some c =>
    if c.op ≠ 8 then s
    else match s.rd Fd.CFG_CMD_STAT_PHASE with
      | 1 =>
        if bankHashes s c.bank then
          { s.wr Fd.CFG_CMD_STAT_PHASE 2 with cfg := { s.cfg with cmd := some { c with pages := 0, since := s.now } } }
        else cfgEnd St.auth s
      | 2 =>
        if paced s then s
        else if margin then cfgBegin ((s.wr Fd.CFG_CMD_STAT_PROGRESS 49152).wr Fd.CFG_CMD_STAT_PHASE 3)
        else cfgEnd St.uncorrectable s
      | _ =>
        if !c.started || paced s then s
        else if margin then cfgEnd St.ok (recWrite c.bank s)
        else cfgEnd St.uncorrectable (recSpoil s)

/-- The half of the safe-state row that does not hold the newest valid copy. -/
def rowTarget (s : State) : Nat :=
  match rowOrder s with
  | h :: _ => 1 - h
  | [] => 0

/-- ROW_ERASE. -/
def cfgRowErase (master : Nat) (s : State) : State :=
  cfgCmd master 10 (fun t =>
    if lcsState t = 3 then cfgStatus St.access t
    else cfgBegin (cfgTake 10 0 (rowTarget t) 0 0 t)) s

/-- ROW_PROGRAM. -/
def cfgRowProgram (master : Nat) (s : State) : State :=
  cfgCmd master 11 (fun t =>
    let h := rowTarget t
    let a := t.rd Fd.CFG_ADDR_OFFSET
    let page := h * 16 + a / 512
    if lcsState t = 3 then cfgStatus St.access t
    else if t.cfg.rowErased ≠ some h then cfgStatus St.order t
    else if a % 512 ≠ 0 ∨ 0x1000 ≤ a then cfgStatus St.range t
    else if !t.cfg.row.noneAbove smallP page then cfgStatus St.order t
    else if !t.cfg.row.pageFree smallP page then cfgStatus St.notErased t
    else cfgBegin (cfgTake 11 0 (h * 0x2000 + a) 0 0 t)) s

/-- 64-bit words of bytes. -/
def wordsOf (l : List Byte) (n : Nat) : List W64 := (List.range n).map (fun k => BitVec.ofNat 64 (ofBytes ((l.drop (8 * k)).take 8)))

/-- The page that CFG_PAGE_BUF holds, words 0 to 63 of memory 15, as programming takes it; an uncorrectable word is taken as stored
(DESIGN CHOICE, log 76). -/
def cfgPage (s : State) : List Nat × State :=
  (List.range 64).foldl (fun a k => match readWord 15 k 0 a.2 with
    | (some d, t) => (a.1 ++ [d.toNat], t)
    | (none, t) => (a.1 ++ [(a.2.mcur (mkey 15 k)).toNat % 2 ^ 64], t)) ([], s)

/-- CFG_HASH takes a digest. -/
def hashShow (d : Nat) (s : State) : State :=
  forEach (List.range 8) s (fun i t => t.wr (Fd.CFG_HASH_WORD i) (d / 2 ^ (32 * i)))

/-- A configuration operation that took time ends (Table 9.7). -/
def cfgCmdDone (s : State) : State :=
  match s.cfg.cmd with
  | none => s
  | some c =>
    match c.op with
    | 1 => let ok := authentic s c.bank
           cfgEnd (if ok then St.ok else St.auth) (setAuth c.bank ok s)
    | 2 => if !c.started then s
           else cfgEnd St.ok (s.setBank c.bank ((s.bank c.bank).eraseEnd bankU bankP (c.addr / 0x10000)))
    | 3 => if !c.started then s
           else let r := cfgPage s; cfgEnd St.ok { r.2.setBank c.bank ((r.2.bank c.bank).pulsed 64 (c.addr / 512) s.sys.free r.1) with
             sys := { r.2.sys with free := s.sys.free + 129 } }
    | 4 =>
      let f := s.bank c.bank
      let s1 := State.mwrites 15 (wordsOf (f.bytes0 bankU 64 (c.addr / 8)) 64) 0 s
      cfgEnd (if f.anyBad bankU 64 (c.addr / 8) then St.uncorrectable else St.ok) s1
    | 5 =>
      match slotBytes s c.bank c.slot 0 imageLen with
      | some l => cfgEnd St.ok (hashShow (sha l) s)
      | none => cfgEnd St.uncorrectable s
    | 10 => if !c.started then s
            else cfgEnd St.ok { s with cfg := { s.cfg with row := s.cfg.row.eraseEnd smallU smallP c.addr } }
    | 11 => if !c.started then s
            else let r := cfgPage s; cfgEnd St.ok { r.2 with
              cfg := { r.2.cfg with row := r.2.cfg.row.pulsed 64 (c.addr / 512) s.sys.free r.1 }
              sys := { r.2.sys with free := s.sys.free + 129 } }
    | _ => s

/-- What a reset leaves of the configuration command it interrupts: an erase not completed, a page flagged with undefined
contents, a record page likewise (R194, Table 9.9); the command's report for the ret fields. -/
def cfgInterrupted (s : State) : State :=
  match s.cfg.cmd with
  | none => s
  | some c =>
    let seed := s.sys.free
    let s0 := { s with sys := { s.sys with free := seed + 128 } }
    let s1 := match c.op with
      | 3 => if c.started then s0.setBank c.bank ((s0.bank c.bank).scramble 64 (c.addr / 512) seed) else s
      | 11 => if !c.started then s else { s0 with cfg := { s0.cfg with row := s0.cfg.row.scramble 64 (c.addr / 512) seed } }
      | 8 =>
        if s.rd Fd.CFG_CMD_STAT_PHASE = 3 ∧ c.started then
          let nx := recNext s0
          let f := match nx.2 with
            | some o => s0.cfg.recs.eraseBegin o
            | none => (s0.cfg.recs.flagPage nx.1).scramble 64 nx.1 seed
          { s0 with cfg := { s0.cfg with recs := f } }
        else s0
      | _ => s
    let s2 := if c.op = 8 then
        (s1.wr Fd.CFG_CMD_STAT_STATUS St.incomplete).set1 Fd.CFG_STAT_COMMIT_INCOMPLETE
      else s1
    { s2 with cfg := { s2.cfg with cmd := none } }

/-! ### Scrubbing (R216, R217) -/

/-- Capture in CFG_SCRUB_LAST. -/
def scrubCap (sector plane frame kind : Nat) (s : State) : State :=
  if s.rdB Fd.CFG_SCRUB_LAST_VALID then s
  else (((((s.wr Fd.CFG_SCRUB_LAST_SECTOR sector).wr Fd.CFG_SCRUB_LAST_PLANE plane).wr Fd.CFG_SCRUB_LAST_FRAME frame).wr
    Fd.CFG_SCRUB_LAST_KIND kind).wr Fd.CFG_SCRUB_LAST_TIME s.now).set1 Fd.CFG_SCRUB_LAST_VALID

/-- The plane a scrubber reads: the active plane of an active sector, or a VERIFIED shadow. -/
def scrubPlane (s : State) (sector plane : Nat) : Option Plane :=
  if plane = 0 then (if s.rdB (Fd.CFG_SECT_STAT_ACTIVE sector) then mapGet? s.cfg.active sector else none)
  else match mapGet? s.cfg.shadow sector with
    | some p => if p.st = 2 then some p else none
    | none => none

/-- Store a plane. -/
def putPlane (sector plane : Nat) (p : Plane) (s : State) : State :=
  if plane = 0 then { s with cfg := { s.cfg with active := mapPut s.cfg.active sector p } }
  else { s with cfg := { s.cfg with shadow := mapPut s.cfg.shadow sector p } }

/-- The scrub pass moves to its next frame. -/
def scrubNext (sector plane : Nat) (s : State) : State :=
  let k := 2 * sector + plane
  let f := mapGet 0 s.cfg.scrubPos k
  { s with cfg := { s.cfg with scrubPos := if f + 1 < 5632 then mapPut s.cfg.scrubPos k (f + 1) else mapDel s.cfg.scrubPos k } }

/-- An uncorrectable word or a signature mismatch of a plane (R217); `repairOk`: the repair reads back equal, and what it wrote reads good:
the frame, or after a signature mismatch the whole plane. While a swap of the sector
is locked its write is withheld and the repair stays in progress (R213). -/
def scrubFault (sector plane frame : Nat) (sig repairOk : Bool) (p : Plane) (s : State) : State :=
  if planeRepairable s p && swapLocked s sector then
    when_ (plane == 0) (safRaise 16) (putPlane sector plane { p with repair := some (frame, sig) } s)
  else if planeRepairable s p && repairOk then
    let q := { p with bad := if sig then [] else p.bad.filter (fun f => f != frame) }
    let s1 := scrubCap sector plane frame (if sig then 3 else 1) ((putPlane sector plane q s).incSat Fd.CFG_SCRUB_CNT_REPAIRS)
    when_ (plane == 0) (safRaise 16) s1
  else
    let s1 := scrubCap sector plane frame (if sig then 3 else 2) (s.incSat Fd.CFG_SCRUB_CNT_UNREPAIRED)
    let s2 := irqEvent 385 (s1.set1 Fd.CFG_STAT_SCRUB_UE)
    if plane = 0 then
      let s3 := putPlane sector 0 { p with bad := setIns p.bad frame } s2
      safRaise 17 { s3 with cfg := { s3.cfg with unrepaired := setIns s3.cfg.unrepaired sector } }
    else
      logReq Blk.cfg 0x01 sector frame 0 (sectShow sector (putPlane sector 1 { p with st := 3, bad := setIns p.bad frame } s2))

/-- A withheld repair is made once no swap of the sector is locked, on the plane that then holds the fault (R213, R217). -/
def scrubRepair (sector plane frame : Nat) (sig repairOk : Bool) (p : Plane) (s : State) : State :=
  let q := { p with repair := none }
  scrubFault sector plane frame sig repairOk q (putPlane sector plane q s)

/-- What the scrubber finds in a frame: a correction withheld before is found again. A pass that ends with every word readable also
compares the CRC-32 of the plane's data bits with its signature (R216). -/
def scrubFinds (p : Plane) (frame : Nat) (find : ScrubFind) : ScrubFind :=
  match find with
  | .clean =>
    if frame ∈ p.soft then .correctable
    else if frame = 5631 ∧ !p.passBad ∧ crc32 p.bytes ≠ p.sig then .signature
    else .clean
  | .signature => if frame = 5631 ∧ !p.passBad then .signature else .clean
  | x => x

/-- Note in a plane what its pass has met: an uncorrectable word until the pass ends, a frame whose correction is withheld. -/
def scrubNote (sector plane frame : Nat) (find : ScrubFind) (s : State) : State :=
  match scrubPlane s sector plane with
  | none => s
  | some p =>
    let soft := match find with
      | .correctable => if swapLocked s sector then setIns p.soft frame else p.soft.filter (fun f => f != frame)
      | _ => p.soft
    let bad := if frame = 5631 then false else p.passBad || find == .uncorrectable
    if soft = p.soft ∧ bad = p.passBad then s else putPlane sector plane { p with soft := soft, passBad := bad } s

/-- The scrubber of a sector reads the next frame of a plane; a repair in progress comes first. -/
def scrubFrame (sector plane : Nat) (find : ScrubFind) (repairOk : Bool) (s : State) : State :=
  if !scrubRuns s then s
  else match scrubPlane s sector plane with
    | none => s
    | some p =>
      match p.repair with
      | some r => if swapLocked s sector then s else scrubRepair sector plane r.1 r.2 repairOk p s
      | none =>
        let f := mapGet 0 s.cfg.scrubPos (2 * sector + plane)
        let found := scrubFinds p f find
        scrubNext sector plane (scrubNote sector plane f found (match found with
          | .clean => s
          | .correctable => (s.incSat Fd.CFG_SCRUB_CNT_CORRECTED).set1 Fd.CFG_STAT_SCRUB_CE
          | .uncorrectable => scrubFault sector plane f false repairOk p s
          | .signature => scrubFault sector plane f true repairOk p s))

/-! ### Loading (R200 to R203) -/

/-- The slot's stream engine has a section to read. -/
def slotNeeded (m : List Byte) (n : Nat) : Bool :=
  mfBoot m n || (n == 0 && mfDefaultsLen m != 0) || (decide (1 ≤ n ∧ n ≤ 8) && mfScribe m (n - 1))

/-- The sections of a slot match their hashes (R201, R202). -/
def slotMatches (s : State) (b : Nat) (m : List Byte) (n : Nat) : Bool :=
  let is := fun (l : Option (List Byte)) (h : Nat) => match l with | some x => sha x == h | none => false
  (!mfBoot m n || is (slotBytes s b n 0 imageLen) (mfSlotHash m n)) &&
  (!(n == 0 && mfDefaultsLen m != 0) || is (slotBytes s b 0 0xB1000 (mfDefaultsLen m)) (mf m 0x050 32)) &&
  (!(decide (1 ≤ n ∧ n ≤ 8) && mfScribe m (n - 1)) ||
    is (slotBytes s b n 0xB0000 65536) (mf m (0x070 + 32 * (n - 1)) 32))

/-- The sections of a slot reach their places: the active plane of the sector of the same number, the instruction RAM. -/
def slotDeliver (b : Nat) (m : List Byte) (n : Nat) (s : State) : State :=
  let s1 := if mfBoot m n then
      let data := plain s m (mfEnc m n) n ((slotBytes s b n 0 imageLen).getD [])
      { s with cfg := { s.cfg with active := mapPut s.cfg.active n (planeOf b n m data) } }
    else s
  let s2 := if decide (1 ≤ n ∧ n ≤ 8) && mfScribe m (n - 1) then
      let p := n - 1
      let data := plain s m (mfScribeEnc m p) (32 + p) ((slotBytes s b n 0xB0000 65536).getD [])
      State.mwrites 11 (wordsOf data 8192) (p * 8192) s1
    else s1
  { s2 with cfg := { s2.cfg with streamed := setIns s2.cfg.streamed n } }

/-- Every stream of the load is done. -/
def streamsDone (s : State) (m : List Byte) : Bool :=
  (List.range 32).all (fun n => !slotNeeded m n || s.cfg.streamed.contains n)

/-- The load ends in SAFE: no user logic (Table 1.6). -/
def loadFails (origin : Nat) (s : State) : State :=
  enterSafe origin 0xFF { s with cfg := { s.cfg with active := [], shadow := [] } }

/-- The end of authentication of the bank under trial (R196, R199, R200). -/
def manifestAuth (s : State) : State :=
  let b := s.cfg.loadBank
  if s.sys.phase ≠ .auth then s
  else if authentic s b then
    let m := (manifest s b).getD []
    let s1 := setAuth b true s
    let s2 := match rowMatch s m with
      | some h => if s.rd Fd.CFG_STAT_ROW_HALF = h then s1 else (rowApply h s1).set1 Fd.CFG_STAT_ROW_SWITCHED
      | none => s1
    let s3 := { s2 with cfg := { s2.cfg with retried := [], streamed := [] } }
    { s3 with sys := { s3.sys with phase := if streamsDone s3 m then .defaults else .stream } }
  else
    let s1 := setAuth b false s
    if b = s.rd Fd.CFG_STAT_COMMITTED_BANK then { s1 with cfg := { s1.cfg with loadBank := 1 - b } }
    else loadFails Blk.cfg s1

/-- A stream of the load ends; `disturbed`: the bytes hashed differed from the flash contents (R201). -/
def streamEnd (n : Nat) (disturbed : Bool) (s : State) : State :=
  let b := s.cfg.loadBank
  match manifest s b with
  | none => s
  | some m =>
    if s.sys.phase ≠ .stream ∨ !slotNeeded m n ∨ s.cfg.streamed.contains n then s
    else if slotMatches s b m n && !disturbed then
      let s1 := slotDeliver b m n s
      if streamsDone s1 m then { s1 with sys := { s1.sys with phase := .defaults } } else s1
    else if s.cfg.retried.contains n then loadFails Blk.cfg s
    else { s.set1 Fd.CFG_STAT_LOAD_RETRY with cfg := { s.cfg with retried := setIns s.cfg.retried n } }

/-- Inkwell contents of a released sector come from its image (R181). -/
def inkLoad (sector : Nat) (data : List Byte) (s : State) : State :=
  forEach (List.range 36) s (fun j t =>
    forEach (List.range 512) t (fun w u => u.mwrite 10 ((36 * sector + j) * 512 + w) (Config.inkInit data j w)))

/-- At release: the planes of the loaded image become active, with their records, networks, pins and inkwells (R203,
R204, R215, Table 9.5). -/
def planesRelease (s : State) : State :=
  let b := s.cfg.loadBank
  let m := (manifest s b).getD []
  let s1 := forEach s.cfg.active s (fun (e : Nat × Plane) t =>
    sectShow e.1 ((sectorInit e.1 e.2.bytes (inkLoad e.1 e.2.bytes t)).set1 (Fd.CFG_SECT_STAT_ACTIVE e.1)))
  let s2 := { s1 with
    fab := { s1.fab with connected := true, released := true, fpllOut := [], initDone := s.cfg.active.map (fun (e : Nat × Plane) => (e.1, true)) }
    cfg := { s1.cfg with unrepaired := [] } }
  let s3 := ((s2.wr Fd.CFG_STAT_LOADED_BANK b).set1 (Fd.CFG_BANK_STAT_LOADED b)).wr Fd.CFG_LOADED_ID_IMAGE_ID (mfId m)
  let lock := (List.range 4).foldl (fun a k => if mfFpll m k = 0 then a else a + 2 ^ k) 0
  let s4 := s3.wr Fd.FAB_CLK_STAT_FPLL_LOCK lock
  faultLinesAtRelease (fabOutRefresh (refreshPlLimit (s4.wr Fd.FAB_CLK_STAT_NET_RUN (netsRunning s4))))

end Sys2Proof.Machine
end

