-- ==== Sys2Proof/Machine/Ufl.lean ====
section
/-! DEFINITION. User flash (R251 to R268): the commands of UFL_CMD, execute-only regions, the calibration row and the
dictionary store's snapshots. -/
namespace Sys2Proof.Machine

open Sys2Proof

/-- The main array replaced. -/
def State.setUfl (s : State) (f : Flash) : State := { s with ufl := { s.ufl with main := f } }

/-- UFL_CMD reports a status (R257). -/
def uflStatus (st : Nat) (s : State) : State := irqEvent 386 (s.wr Fd.UFL_CMD_STAT_STATUS st)

/-- Modes in which UFL_CMD is taken (R256). -/
def uflMode (s : State) : Bool := s.mode == Md.standby || s.mode == Md.run || s.mode == Md.limited || s.mode == Md.safe

/-- A write of UFL_CMD up to its checks of mode and port, in this order: one command at a time (R20, R256), the mode, then the port (R257;
R256: a fabric port's write is discarded and sets FAB_CMD). That a fabric port's write is discarded while BUSY too, where R257 orders
nothing, is DEDUCED (log 77). -/
def uflCmd (master op : Nat) (f : State → State) (s : State) : State :=
  if s.rdB Fd.UFL_CMD_STAT_BUSY || s.rdB Fd.UFL_STAT_STORE_BUSY then
    (if isFabric master then s.set1 Fd.UFL_STAT_FAB_CMD else uflStatus St.busy s)
  else if !uflMode s then uflStatus St.refusedMode (s.wr Fd.UFL_CMD_STAT_OP op)
  else if isFabric master then s.set1 Fd.UFL_STAT_FAB_CMD
  else f (s.wr Fd.UFL_CMD_STAT_OP op)

/-- A port may read execute-only regions: the JTAG debug port, in OPEN, or in CLOSED under its right (R263). -/
def xoMayRead (master : Nat) (s : State) : Bool :=
  master == 3 && (lcsState s == 0 || (lcsState s == 1 && hasRight 4 s))

/-- The origin check of R257 for an operation on block b: `cmp` for COMPARE_PAGE. In INVALID no program or erase passes it (R366). -/
def uflOrigin (s : State) (b : Nat) (cmp may : Bool) : Bool :=
  (cmp || (decide (b < 126) && lcsState s != 3)) &&
  match xoRegion s b with
  | some i => !s.rdB (Fd.UFL_XO_LOCK i) || (cmp && may)
  | none => true

/-- A command is taken: BUSY, with its arguments. -/
def uflTake (op addr : Nat) (may : Bool) (s : State) : State :=
  { s.set1 Fd.UFL_CMD_STAT_BUSY with ufl := { s.ufl with cmd := some ⟨op, addr, may⟩ } }

/-- ERASE_BLOCK (R257, R259). -/
def uflErase (master : Nat) (s : State) : State :=
  uflCmd master 1 (fun t =>
    let a := t.rd Fd.UFL_ADDR_OFFSET
    if !uflOrigin t (a / 0x40000) false false then uflStatus St.access t
    else if a % 0x40000 ≠ 0 then uflStatus St.range t
    else uflTake 1 a false (t.setUfl (t.ufl.main.eraseBegin (a / 0x40000)))) s

/-- PROGRAM_PAGE (R253, R257). -/
def uflProgram (master : Nat) (s : State) : State :=
  uflCmd master 2 (fun t =>
    let a := t.rd Fd.UFL_ADDR_OFFSET
    if !uflOrigin t (a / 0x40000) false false then uflStatus St.access t
    else if a % 512 ≠ 0 then uflStatus St.range t
    else if !t.ufl.main.noneAbove uflP (a / 512) then uflStatus St.order t
    else if !t.ufl.main.pageFree uflP (a / 512) then uflStatus St.notErased t
    else uflTake 2 a false (t.setUfl (t.ufl.main.flagPage (a / 512)))) s

/-- COMPARE_PAGE (R257, R258). -/
def uflCompare (master : Nat) (s : State) : State :=
  uflCmd master 3 (fun t =>
    let a := t.rd Fd.UFL_ADDR_OFFSET
    let may := xoMayRead master t
    if !uflOrigin t (a / 0x40000) true may then uflStatus St.access t
    else if a % 512 ≠ 0 then uflStatus St.range t
    else uflTake 3 a may t) s

/-- BLANK_CHECK (R256). -/
def uflBlank (master : Nat) (s : State) : State :=
  uflCmd master 4 (fun t =>
    let a := t.rd Fd.UFL_ADDR_OFFSET
    if a % 0x40000 ≠ 0 then uflStatus St.range t else uflTake 4 a false t) s

/-- UFL_CMD with an OP that Table 11.2 does not list. -/
def uflOther (master op : Nat) (s : State) : State := uflCmd master op (uflStatus St.range) s

/-- One erase more of block b; past the endurance it sets WORN and is logged (R255). -/
def uflCount (b : Nat) (s : State) : State :=
  let n := mapGet 0 s.ufl.eraseCnt b + 1
  let s1 := { s with ufl := { s.ufl with eraseCnt := mapPut s.ufl.eraseCnt b n } }
  if 20000 < n then logReq Blk.ufl 0x01 b n 0 (s1.set1 Fd.UFL_STAT_WORN) else s1

/-- The erase of block b completes (R259, steps 2 to 4). -/
def uflErased (b : Nat) (s : State) : State := uflCount b (s.setUfl (s.ufl.main.eraseEnd uflU uflP b))

/-- The command in progress ends. -/
def uflEnd (st : Nat) (s : State) : State :=
  let s1 := s.clr Fd.UFL_CMD_STAT_BUSY
  uflStatus st { s1 with ufl := { s1.ufl with cmd := none } }

/-- The page at word i holds the page buffer; an uncorrectable word makes it unequal (R258). -/
def uflEqual (s : State) (i : Nat) : Bool :=
  match s.ufl.main.bytes uflU 64 i with
  | some l => l == (bufWords s.ufl.pageBuf 64).flatMap (toBytes 8)
  | none => false

/-- UFL_CMD_DONE: the operation in progress ends (R256 to R259). -/
def uflDone (s : State) : State :=
  match s.ufl.cmd with
  | none => s
  | some c =>
    let b := c.addr / 0x40000
    match c.op with
    | 1 => uflEnd St.ok (cacheDropBlock b (uflErased b s))
    | 2 => uflEnd St.ok (cacheDropBlock b { s.setUfl (s.ufl.main.pulsed 64 (c.addr / 512) s.sys.free (bufWords s.ufl.pageBuf 64)) with
        sys := { s.sys with free := s.sys.free + 129 } })
    | 3 => uflEnd St.ok (uflTally ((List.range 64).map (fun k => c.addr / 8 + k)) (s.wrB Fd.UFL_CMD_STAT_EQUAL (uflEqual s (c.addr / 8))))
    | _ => uflEnd St.ok (s.wrB Fd.UFL_CMD_STAT_EQUAL (s.ufl.main.blank uflU uflP b))

/-- Writes to the page buffer are discarded while a PROGRAM_PAGE or COMPARE_PAGE is BUSY (R257). -/
def uflBufOpen (s : State) : Bool :=
  match s.ufl.cmd with
  | some c => !(c.op == 2 || c.op == 3)
  | none => true

/-- A write to the read window is discarded with an error response (R252). -/
def uflWinWrite (s : State) : State := s.set1 Fd.UFL_STAT_WIN_WRITE

/-- A refused read of an execute-only region (R263). -/
def xoRefuse (s : State) : State := (s.set1 Fd.UFL_STAT_XO_READ).incSat Fd.UFL_XO_CNT_COUNT

/-- EIM_SCAN: the scan of the markers in LOAD (R261). -/
def eimScan (s : State) : State :=
  if s.ufl.scanned then s
  else
    let s1 := { s with ufl := { s.ufl with scanned := true } }
    match s.ufl.main.undone with
    | [] => s1
    | b :: r =>
      logReq Blk.ufl 0x02 b (r.length + 1) 0
        (((s1.set1 Fd.UFL_STAT_EIM_FOUND).wr Fd.UFL_EIM_BLOCK b).set1 Fd.UFL_EIM_VALID)

/-! ### Execute-only regions (R262) -/

/-- A region value with VALID 1 that R262 refuses: LAST below FIRST, a block of the dictionary store, an overlap. -/
def xoBad (i v : Nat) (s : State) : Bool :=
  bit v 31 && (decide (bits v 14 8 < bits v 6 0) || decide (126 ≤ bits v 14 8) ||
    (List.range 8).any (fun k => k != i && s.rdB (Fd.UFL_XO_VALID k) &&
      decide (s.rd (Fd.UFL_XO_FIRST k) ≤ bits v 14 8) && decide (bits v 6 0 ≤ s.rd (Fd.UFL_XO_LAST k))))

/-- XO_WRITE: the one write of UFL_XO[i] since the reset that loaded it (R262, Table 0.4). -/
def xoWrite (i v : Nat) (s : State) : State :=
  if s.ufl.xoUsed.contains i then s
  else if xoBad i v s then s.set1 Fd.UFL_STAT_XO_REFUSED
  else
    let s1 := { s with ufl := { s.ufl with xoUsed := setIns s.ufl.xoUsed i } }
    ((((s1.wr (Fd.UFL_XO_FIRST i) (bits v 6 0)).wr (Fd.UFL_XO_LAST i) (bits v 14 8)).wr (Fd.UFL_XO_PAIRS i)
      (bits v 23 16)).wr (Fd.UFL_XO_LOCK i) (bits v 24 24)).wr (Fd.UFL_XO_VALID i) (bits v 31 31)

/-! ### Calibration row (R264, R265) -/

/-- Copy c of the calibration row, none where a word is uncorrectable. -/
def calCopy (s : State) (c : Nat) : Option (List Byte) := s.ufl.cal.bytes 512 256 (256 * c)

/-- A copy's contents are valid: MAGIC, FORMAT, DEVICE_CODE and CRC. -/
def calGood (l : List Byte) : Bool :=
  mf l 0 4 == 0xCA1B0396 && mf l 4 2 == 1 && mf l 6 2 == 0x0396 && crc32 (l.take 0x7FC) == mf l 0x7FC 4

/-- The copy in force, with its number: copy 0 when it is valid, otherwise copy 1 when that is. -/
def calRow (s : State) : Option (Nat × List Byte) :=
  match (calCopy s 0).filter calGood, (calCopy s 1).filter calGood with
  | some l, _ => some (0, l)
  | none, some l => some (1, l)
  | none, none => none

/-- CALIBRATION_ROW_READ: the cal fields take the row in force, or their hardware values with CAL_INVALID latched, which raises safety input 3
(R68, R264). -/
def calRead (s : State) : State :=
  match calRow s with
  | some (c, l) =>
    let s1 := ((s.set1 Fd.UFL_STAT_CAL_VALID).wr Fd.UFL_STAT_CAL_COPY c).wr Fd.UFL_SERIAL_SERIAL (mf l 8 8)
    let s2 := forEach (List.range 4) s1 (fun j t =>
      (t.wr (Fd.AFE_ADC_TRIM_FOFF j) (mf l (0x20 + 4 * j) 2)).wr (Fd.AFE_ADC_TRIM_FGAIN j) (mf l (0x22 + 4 * j) 2))
    forEach (List.range 2) s2 (fun p t => t.wr (Fd.AFE_ADC_SKEW_SKEW p) (mf l (0x30 + p) 1))
  | none => safRaise 3 (logReq Blk.ufl 0x03 0 0 0 ((s.clr Fd.UFL_STAT_CAL_VALID).set1 Fd.AFE_FAULT_CAL_INVALID))

/-! ### The dictionary store (R266 to R268) -/

/-- A complete snapshot: its first page of the array, SEQ, IMAGE_ID and data pages. -/
structure Snap where
  page : Nat
  pages : Nat
  seq : Nat
  imageId : Nat
  body : List Byte

/-- The bytes of n pages from page p of the array. -/
def uflPages (s : State) (p n : Nat) : Option (List Byte) := s.ufl.main.bytes uflU (64 * n) (64 * p)

/-- The snapshot whose header page is page p, when it is complete (R266). -/
def snapAt (s : State) (p : Nat) : Option Snap :=
  match uflPages s p 1 with
  | none => none
  | some h =>
    let n := mf h 8 2
    if mf h 0 4 ≠ 0xD1C70396 ∨ n = 0 ∨ 254 < n ∨ 512 < p % 512 + n + 2 then none
    else
      match uflPages s (p + 1) n, uflPages s (p + 1 + n) 1 with
      | some b, some c =>
        if crc32 (h ++ b) == mf c 0 4 && (c.drop 4).all (fun x => x == 0xA5) then some ⟨p, n + 2, mf h 4 4, mf h 12 4, b⟩
        else none
      | _, _ => none

/-- SEQ x is newer than SEQ y: the signed difference modulo 2^32 is positive (R267). -/
def seqNewer (x y : Nat) : Bool := decide (0 < diffS 32 x y)

/-- The newer of two snapshots. -/
def snapNewer (a : Option Snap) (b : Option Snap) : Option Snap :=
  match a, b with
  | some x, some y => if seqNewer y.seq x.seq then some y else some x
  | none, y => y
  | x, none => x

/-- The newest complete snapshot of blocks 126 and 127 (R267). -/
def snapNewest (s : State) : Option Snap :=
  ((s.ufl.main.flags.filter (fun p => decide (126 * 512 ≤ p))).map (snapAt s)).foldl snapNewer none

/-- The search for the newest snapshot reads every programmed page of blocks 126 and 127 once (DESIGN CHOICE, log 77: the spec does not say
which words it reads); each word is counted (R252). -/
def snapTally (s : State) : State :=
  uflTally ((s.ufl.main.flags.filter (fun p => decide (126 * 512 ≤ p))).flatMap (fun p => (List.range 64).map (fun k => 64 * p + k))) s

/-- The last programmed page of block b, as the next page's number in the block. -/
def storeNextPage (s : State) (b : Nat) : Nat :=
  (s.ufl.main.flags.filter (fun p => p / 512 == b)).foldl (fun m p => max m (p % 512 + 1)) 0

/-- Where a snapshot of n pages goes (R267): its first page of the array, and whether its block is erased first. -/
def storePlace (s : State) (n : Nat) : Nat × Bool :=
  let fresh (b : Nat) : Nat × Bool := (b * 512, !s.ufl.main.blank uflU uflP b)
  match snapNewest s with
  | none => fresh ((s.ufl.storeNext).getD 126)
  | some x =>
    let b := x.page / 512
    let q := storeNextPage s b
    if q + n ≤ 512 ∧ (s.ufl.storeNext).getD b = b ∧ b ∉ s.ufl.main.undone then (b * 512 + q, false) else fresh (253 - b)

/-- Pad bytes to whole pages. -/
def padPage (l : List Byte) : List Byte := l ++ List.replicate ((512 - l.length % 512) % 512) 0

/-- The pages of a snapshot (R266): header, data, commit page. -/
def snapBytes (seq imageId : Nat) (body : List Byte) : List Byte :=
  let d := padPage body
  let h := padPage (toBytes 4 0xD1C70396 ++ toBytes 4 seq ++ toBytes 2 (d.length / 512) ++ toBytes 2 0 ++ toBytes 4 imageId)
  h ++ d ++ toBytes 4 (crc32 (h ++ d)) ++ List.replicate 508 0xA5

/-- The 64-bit words of bytes. -/
def words64 (l : List Byte) : List Nat := (wordsOf l (l.length / 8)).map (fun w => w.toNat)

/-- Program the pages of `l` from page p of the array, the first k of them; page k, when there is one, is left flagged
with undefined contents (R260). -/
def storePages (p k seed : Nat) (l : List Byte) (s : State) : State :=
  let f := (List.range (min k (l.length / 512))).foldl (fun (f : Flash) j =>
    (f.flagPage (p + j)).program (64 * (p + j)) (words64 ((l.drop (512 * j)).take 512))) s.ufl.main
  s.setUfl (if k < l.length / 512 then (f.flagPage (p + k)).scramble 64 (p + k) seed else f)

/-- The snapshot that the store in progress writes. -/
def storeBytes (s : State) (x : StoreSt) (imageId : Nat) : List Byte :=
  snapBytes (match snapNewest s with | some n => (n.seq + 1) % 2 ^ 32 | none => 1) imageId
    (if x.void then toBytes 2 0 ++ toBytes 1 0 ++ toBytes 1 2 ++ toBytes 2 1 ++ toBytes 2 0 ++ toBytes 8 0 else snapOwn s ++ x.fab)

/-- The store writes its snapshot and confirms its pages by reading them: `fail` is the page whose confirmation fails, if one does (R267).
Answers whether the commit page was confirmed. -/
def storeWrite (l : List Byte) (fail : Option Nat) (s : State) : Bool × State :=
  let n := l.length / 512
  let (p, er) := storePlace s n
  let s0 := snapTally s
  let s1 := if er then cacheDropBlock (p / 512) (uflErased (p / 512) s0) else s0
  let k := (fail.getD n)
  let s2 := uflTally ((List.range (64 * min n (k + 1))).map (fun i => 64 * p + i))
    (storePages p k s1.sys.free l { s1 with sys := { s1.sys with free := s1.sys.free + 128 } })
  if k < n then (false, { s2 with ufl := { s2.ufl with storeNext := some (253 - p / 512) } })
  else (true, { s2 with ufl := { s2.ufl with storeNext := none } })

/-- What a reset leaves of a store that it interrupts: an erase not completed, or some of the pages with the next one's
contents undefined (R259, R260, R267). How far it came is a free value. -/
def storeCut (l : List Byte) (s : State) : State :=
  let n := l.length / 512
  let (p, er) := storePlace s n
  let cut := (Config.freeValue s.sys.free).toNat % (n + 1)
  let s1 := { s with sys := { s.sys with free := s.sys.free + 129 } }
  if er && cut == n then s1.setUfl (s1.ufl.main.eraseBegin (p / 512))
  else storePages p (min cut (n - 1)) (s.sys.free + 1) l (if er then uflErased (p / 512) s1 else s1)

/-- What a reset leaves of the command it interrupts: an erase not completed, a page flagged with undefined contents; the
report that retained RAM holds (R259 to R261). -/
def uflInterrupted (s : State) : State :=
  match s.ufl.cmd with
  | none => s
  | some c =>
    let s1 := if c.op = 2 then
        { s.setUfl (s.ufl.main.scramble 64 (c.addr / 512) s.sys.free) with sys := { s.sys with free := s.sys.free + 128 } }
      else s
    let s2 := s1.wr Fd.UFL_CMD_STAT_STATUS St.incomplete
    { s2 with ufl := { s2.ufl with cmd := none } }

end Sys2Proof.Machine
end

