-- ==== Sys2Proof/Machine/LogX.lean ====
section
/-! DEFINITION. The trouble log's commands (R317 to R320): firmware entries, the read position, the export region and
exports into user flash. -/
namespace Sys2Proof.Machine

open Sys2Proof

/-- A write to LOG_USER: an entry with SOURCE 0x00, its CODE and DETAIL; from a fabric master port discarded (R318). -/
def logUser (v master : Nat) (s : State) : State :=
  if isFabric master then s.set1 Fd.LOG_STAT_CFG_REFUSED
  else
    let d := bits v 63 8
    logReq 0x00 (v % 256) (d % 2 ^ 32) (d / 2 ^ 32) 0 ((s.wr Fd.LOG_USER_CODE v).wr Fd.LOG_USER_DETAIL d)

/-- A write of LOG_RSEQ (R317): ignored where the unread count would exceed 4,096 or the value passes LOG_NSEQ. -/
def rseqWrite (v : Nat) (s : State) : State :=
  if (s.rd Fd.LOG_NSEQ_NSEQ + 2 ^ 32 - v % 2 ^ 32) % 2 ^ 32 ≤ 4096 then irqJudge 400 (s.wr Fd.LOG_RSEQ_RSEQ v)
  else s.set1 Fd.LOG_STAT_CFG_REFUSED

/-- Pages of the export region. -/
def exportPages (s : State) : Nat := 512 * s.rd Fd.LOG_EXPORT_CFG_COUNT

/-- Absolute page of the user flash of page p of the export region. -/
def exportPage (s : State) (p : Nat) : Nat := 512 * s.rd Fd.LOG_EXPORT_CFG_FIRST + p

/-- The highest SEQ among the entries of a programmed page, if its words can be read. -/
def pageSeq (s : State) (pg : Nat) : Option Nat :=
  if s.ufl.main.flags.contains pg then
    (List.range 16).foldl (fun (a : Option Nat) e =>
      match (s.ufl.main.read uflU (64 * pg + 4 * e + 1)).data? with
      | none => a
      | some w =>
        if s.ufl.main.raw (64 * pg + 4 * e + 1) = wordErased then a
        else match a with
          | some b => some (if decide (0 < diffS 32 (w % 2 ^ 32) b) then w % 2 ^ 32 else b)
          | none => some (w % 2 ^ 32)) none
  else none

/-- The export position: the first page after the programmed page that holds the highest SEQ in the region (R319). The words it reads are
counted (R252). -/
def exportScan (s : State) : State :=
  let n := exportPages s
  let best := (List.range n).foldl (fun (a : Option (Nat × Nat)) p =>
    match pageSeq s (exportPage s p), a with
    | some q, some b => if decide (0 < diffS 32 q b.1) then some (q, p) else a
    | some q, none => some (q, p)
    | none, _ => a) none
  let t := uflTally ((List.range n).flatMap (fun p => if s.ufl.main.flags.contains (exportPage s p) then
    (List.range 16).map (fun e => 64 * exportPage s p + 4 * e + 1) else [])) s
  let pos := match best with
    | some b => if n = 0 then 0 else (b.2 + 1) % n
    | none => 0
  { t with log := { t.log with expPos := pos } }

/-- The export position is looked for, once the array serves reads (R253). -/
def exportLook (s : State) : State :=
  let t := { s with log := { s.log with scan := uflBusy s } }
  if uflBusy s then t else exportScan t

/-- A search that waited for the array is made. -/
def exportResume (s : State) : State := if s.log.scan then exportLook s else s

/-- LOG_EXPORT_CFG names a region that R319 refuses: one that reaches block 126, has no permitted COUNT, or overlaps an
execute-only region in force; or an export is BUSY. -/
def exportCfgBad (v : Nat) (s : State) : Bool :=
  let first := bits v 6 0
  let count := bits v 12 8
  s.rdB Fd.LOG_EXPORT_STAT_BUSY || decide (126 < first + count) || (v.testBit 31 && (count == 0 || decide (16 < count))) ||
    (List.range count).any (fun k => (xoRegion s (first + k)).isSome)

/-- A write of LOG_EXPORT_CFG (R319). -/
def exportCfg (v : Nat) (s : State) : State :=
  if exportCfgBad v s then s.set1 Fd.LOG_STAT_CFG_REFUSED
  else exportLook (((s.wr Fd.LOG_EXPORT_CFG_FIRST v).wr Fd.LOG_EXPORT_CFG_COUNT (bits v 12 8)).wr Fd.LOG_EXPORT_CFG_EN (bits v 31 31))

/-- The status of a LOG_CMD. -/
def exportSays (st : Nat) (s : State) : State := s.wr Fd.LOG_EXPORT_STAT_STATUS st

/-- The end of an export: status and source 401 (R320, Table 13.1). -/
def exportStatus (st : Nat) (s : State) : State := irqEvent 401 (exportSays st s)

/-- An export starts: by command or by AUTO_EXPORT (R320). -/
def logExport (s : State) : State :=
  if s.rdB Fd.LOG_EXPORT_STAT_BUSY then exportSays St.busy s
  else if !uflMode s then exportSays St.refusedMode s
  else if !s.rdB Fd.LOG_EXPORT_CFG_EN then exportSays St.order s
  else
    let s1 := s.set1 Fd.LOG_EXPORT_STAT_BUSY
    { s1 with log := { s1.log with exp := some ⟨s.rd Fd.LOG_NSEQ_NSEQ, 0, false⟩ } }

/-- AUTO_EXPORT starts an export once 256 entries wait (R320): judged when an entry is written and when LOG_CFG or LOG_EXPORT_CFG is. -/
def autoExport (s : State) : State :=
  if s.rdB Fd.LOG_CFG_AUTO_EXPORT && s.log.exp.isNone && s.rdB Fd.LOG_EXPORT_CFG_EN && uflMode s &&
      decide (256 ≤ (s.rd Fd.LOG_NSEQ_NSEQ + 2 ^ 32 - s.rd Fd.LOG_EXPORT_STAT_ESEQ) % 2 ^ 32) then logExport s
  else s

/-- LOG_CMD EXPORT_ABORT: the export stops after the operation in progress. -/
def exportAbort (s : State) : State :=
  match s.log.exp with
  | some e => { s with log := { s.log with exp := some { e with abort := true } } }
  | none => s

/-- LOG_CMD with another OP. -/
def logCmdOther (s : State) : State := exportSays St.range s

/-- The 64-bit words of log entries from SEQ, as retained RAM holds them. -/
def logEntryWords (s : State) (seq n : Nat) : List Nat :=
  (List.range n).flatMap (fun k => (List.range 4).map (fun j => s.mdata 13 (logSlot ((seq + k) % 2 ^ 32) + j)))

/-- One page of an export at the export position: its block is erased first when the page is the block's first; answers the
status of the program (Table 1.4). -/
def exportPut (seq n : Nat) (s : State) : Nat × State :=
  let p := s.log.expPos
  let pg := exportPage s p
  let s1 := if p % 512 = 0 then cacheDropBlock (pg / 512) (uflErased (pg / 512) s) else s
  if lcsState s1 = 3 then (St.access, s1)
  else if !s1.ufl.main.pageFree uflP pg then (St.notErased, s1)
  else if !s1.ufl.main.noneAbove uflP pg then (St.order, s1)
  else (St.ok, s1.setUfl ((s1.ufl.main.flagPage pg).program (64 * pg) (logEntryWords s1 seq n)))

/-- The position moves to the next page, or to the next block of the region, cyclically. -/
def exportMove (toBlock : Bool) (s : State) : State :=
  let n := exportPages s
  let p := s.log.expPos
  let q := if toBlock then (p / 512 + 1) * 512 else p + 1
  { s with log := { s.log with expPos := if n = 0 then 0 else q % n } }

/-- The page at the export position failed its confirmation (R258): its contents are free values, and the read that confirms it is counted. -/
def exportFailed (s : State) : State :=
  let pg := exportPage s s.log.expPos
  uflTally ((List.range 64).map (fun k => 64 * pg + k))
    { s.setUfl (s.ufl.main.scramble 64 pg s.sys.free) with sys := { s.sys with free := s.sys.free + 128 } }

/-- Copy entries from SEQ up to `last` in pages of 16. `stop`: pages confirmed when the export stops, if it stops before its
end. Answers the status so far: none while every page was confirmed. -/
def exportLoop : Nat → Nat → Option Nat → State → Option Nat × State
  | 0, _, _, s => (none, s)
  | f + 1, last, stop, s =>
    let seq := s.rd Fd.LOG_EXPORT_STAT_ESEQ
    let left := (last + 2 ^ 32 - seq) % 2 ^ 32
    if left = 0 then (none, s)
    else
      let n := min 16 left
      match stop with
      | some 0 =>
        let abort := match s.log.exp with | some e => e.abort | none => true
        if abort then (some St.incomplete, s)
        else
          let x := exportPut seq n s
          if x.1 ≠ St.ok then (some x.1, x.2)
          else (some (1 + (Config.freeValue x.2.sys.free).toNat % 10), exportFailed x.2.drawn)
      | _ =>
        let x := exportPut seq n s
        if x.1 ≠ St.ok then (some x.1, x.2)
        else exportLoop f last (stop.map (· - 1)) (exportMove false (x.2.wr Fd.LOG_EXPORT_STAT_ESEQ (seq + n)))

/-- The pages confirmed when an export ends: under a pending EXPORT_ABORT the operation in progress is its last (R320). -/
def exportStop (e : ExportSt) (stop : Option Nat) : Option Nat := if e.abort then some (stop.getD 1) else stop

/-- EXPORT_DONE: the export ends (R320). It takes the array in its turn: it waits while a UFL_CMD or the dictionary store uses it (R253). -/
def exportDone (stop : Option Nat) (s : State) : State :=
  match s.log.exp with
  | none => s
  | some e =>
    if s.rdB Fd.UFL_CMD_STAT_BUSY || s.rdB Fd.UFL_STAT_STORE_BUSY then s else
    let nseq := s.rd Fd.LOG_NSEQ_NSEQ
    let waiting := (nseq + 2 ^ 32 - s.rd Fd.LOG_EXPORT_STAT_ESEQ) % 2 ^ 32
    let s1 := if 4096 < waiting then
        (s.addSat Fd.LOG_EXPORT_STAT_SKIPPED (waiting - 4096)).wr Fd.LOG_EXPORT_STAT_ESEQ (nseq + 2 ^ 32 - 4096)
      else s
    let x := exportLoop 257 e.last (exportStop e stop) s1
    let s2 := x.2.clr Fd.LOG_EXPORT_STAT_BUSY
    let s3 := { s2 with log := { s2.log with exp := none } }
    match x.1 with
    | none => exportStatus St.ok s3
    | some st =>
      let off := s3.log.expPos
      exportStatus st (if st = St.incomplete then s3 else logReq Blk.log 0x03 st off 0 (exportMove true s3))

/-- What a reset leaves of an export in progress: the page in progress is flagged with undefined contents and the next export
starts in the next block. -/
def exportInterrupted (s : State) : State :=
  match s.log.exp with
  | none => s
  | some _ =>
    let p := s.log.expPos
    let pg := exportPage s p
    let f := s.ufl.main.flagPage pg
    let s1 := if p % 512 = 0 then s.setUfl (s.ufl.main.eraseBegin (pg / 512))
      else { s.setUfl (f.scramble 64 pg s.sys.free) with sys := { s.sys with free := s.sys.free + 128 } }
    exportMove true { s1 with log := { s1.log with exp := none } }

end Sys2Proof.Machine
end

