-- ==== Sys2Proof/Machine/Rst.lean ====
section
/-! DEFINITION. The four reset kinds (R24, Table 1.8): what each reset cuts short, keeps and clears; and the commanded mode
transitions of Table 1.6 (R21 to R23), FREEZE_N (R378) among them. -/
namespace Sys2Proof.Machine

open Sys2Proof

/-! ### OTP words of life-cycle commands -/

/-- Program a list of OTP words. -/
def otpProgs (l : List (Nat × Nat)) (s : State) : State := forEach l s (fun (e : Nat × Nat) t => otpProg e.1 e.2 t)

/-- What a reset leaves of a life-cycle command in progress: the words before a free cut are programmed, the word at the cut
holds some bits of its code (R369, Table 16.5). -/
def lcsInterrupted (s : State) : State :=
  match s.lcs.cmd with
  | none => s
  | some c =>
    let l := c.words
    let cut := (Config.freeValue s.sys.free).toNat % (l.length + 1)
    let mask := (Config.freeValue (s.sys.free + 1)).toNat
    let s1 := otpProgs (l.take cut) { s with sys := { s.sys with free := s.sys.free + 2 } }
    let s2 := match l[cut]? with
      | some e => otpProg e.1 (e.2 &&& mask) s1
      | none => s1
    { s2 with lcs := { s2.lcs with cmd := none } }

/-! ### Resets -/

/-- The fields that a reset of a kind (0 power-on, 1 cold, 2 warm or wake from S3) does not reach. SYS_RESET_CAUSE keeps
earlier bits under its own rule; AUTH, SIGNER and IMAGE_ID of a bank stand while the bank is not written (R196); the VALID
bits of PWR_BANK_STAT show supplies. -/
def keptFlds (kind : Nat) : List Fld :=
  [Fd.CFG_BANK_STAT_AUTH 0, Fd.CFG_BANK_STAT_AUTH 1, Fd.CFG_BANK_STAT_SIGNER 0, Fd.CFG_BANK_STAT_SIGNER 1,
   Fd.CFG_BANK_STAT_IMAGE_ID 0, Fd.CFG_BANK_STAT_IMAGE_ID 1, Fd.PWR_BANK_STAT_PRESENT] ++
  (if kind = 0 then [] else
    [Fd.SYS_RESET_CAUSE_POWER_ON, Fd.SYS_RESET_CAUSE_BROWN_OUT, Fd.SYS_RESET_CAUSE_PIN, Fd.SYS_RESET_CAUSE_WARM_CMD,
     Fd.SYS_RESET_CAUSE_NMT_RESET, Fd.SYS_RESET_CAUSE_S3_WAKE, Fd.SYS_RESET_CAUSE_FROZEN_EXIT, Fd.SYS_RESET_CAUSE_LCS_CHANGE,
     Fd.LOG_TIME_TIME, Fd.LOG_TIME_QUAL_UNCERT, Fd.LOG_TIME_QUAL_QUAL, Fd.LOG_AON_COUNT, Fd.LOG_AON_SRC, Fd.LOG_AON_SRC_CHANGED,
     Fd.LOG_NSEQ_NSEQ, Fd.LOG_RSEQ_RSEQ,
     Fd.PWR_RCHK_CRC 0, Fd.PWR_RCHK_CRC 1, Fd.PWR_RCHK_CRC 2, Fd.PWR_RCHK_SEQ 0, Fd.PWR_RCHK_SEQ 1, Fd.PWR_RCHK_SEQ 2,
     Fd.PWR_WAKE_SRC_LATCHED, Fd.PWR_WAKE_SRC_FIRST, Fd.PWR_WAKE_SRC_IRQ_SRC, Fd.PWR_BANK_STAT_LOST,
     Fd.SAF_FAULT_LATCHED, Fd.SAF_FIRST_INPUT, Fd.SAF_FIRST_CLASS, Fd.SAF_FIRST_MODE, Fd.SAF_FIRST_VALID, Fd.SAF_FIRST_TIME,
     Fd.BST_SU_POS_FRAME]) ++
  (if kind = 2 then [Fd.XMC_CTRL_PATROL_EN] else [])

/-- The register file after a reset. -/
def regsAfter (kind : Nat) (l : SMap Nat) : SMap Nat := mapKeep (fun k => (keptFlds kind).any (fun f => f.key == k)) l

/-- The updates of retained RAM that wait are made before the reset begins; beyond 32 the region is left without a valid
header (R277). -/
def retStop (s : State) : State :=
  if s.sys.phase ≠ .over ∨ s.net.rewrite = true then s
  else
    let l := retDirty s
    if 32 < l.length then retRewrite s else forEach l s (fun c t => regionSeq (regionPut c.1 c.2 t))

/-- A store that has the array is cut short; one that still waits for a UFL_CMD has written nothing (R268). -/
def storeCuts (s : State) : State :=
  match s.ufl.store with
  | some x => if s.rdB Fd.UFL_STAT_STORE_BUSY then storeCut (storeBytes s x (s.rd Fd.CFG_LOADED_ID_IMAGE_ID)) s else s
  | none => s

/-- What a reset other than power-on finds in progress: commands and stores are cut short, borrowed words of retained RAM
return to it, waiting updates are made. -/
def resetCuts (s : State) : State :=
  let s1 := exportInterrupted (lcsInterrupted (uflInterrupted (cfgInterrupted s)))
  let s2 := storeCuts s1
  retStop (mergeFlush 13 (forEach s2.bst.slice s2 (fun (e : Nat × SliceSt) t => bstRestore e.2.saved t)))

/-- The blocks after a reset of a kind, registers apart. -/
def blocksAfter (kind : Nat) (s : State) : State :=
  let off := kind == 0
  { s with
    mem := if off then [] else mapKeep (fun k => k / 2 ^ 32 == 13) s.mem
    sys := { sysFresh with kind := kind, resetLow := s.sys.resetLow, free := s.sys.free, rdData := s.sys.rdData, rdErr := s.sys.rdErr }
    mst := mstFresh
    xmc := { xmcFresh with
      lines := if kind = 2 then s.xmc.lines else []
      gen := if kind = 2 then s.xmc.gen else s.xmc.gen + 1
      kept := kind == 2 && (s.rd Fd.XMC_STAT_STATE == 2 || s.rd Fd.XMC_STAT_STATE == 3 || s.xmc.kept) && !s.xmc.unsupplied
      selfRefresh := kind == 2 && (s.rd Fd.XMC_STAT_STATE == 2 || s.xmc.selfRefresh) }
    afe := afeFresh
    que := queFresh
    nib := nibFresh
    chn := { chnFresh with pins := if off ∨ s.chn.pins = .unsettled then .unsettled else .safe }
    scr := { pair := [], autoDue := true }
    fab := fabFresh
    cfg := { cfgFresh with
      bank0 := s.cfg.bank0, bank1 := s.cfg.bank1, recs := s.cfg.recs, row := s.cfg.row, rowErased := s.cfg.rowErased
      rowVal := if off then [] else s.cfg.rowVal
      rowPin := if off then [] else s.cfg.rowPin }
    ufl := { uflFresh with main := s.ufl.main, eraseCnt := s.ufl.eraseCnt, cal := s.ufl.cal }
    net := netFresh
    irq := irqFresh
    log := if off then { logFresh with queue := [] } else { s.log with timeHi := 0, exp := none, scan := false }
    pwr := { pwrFresh with wakePin := s.pwr.wakePin, vinLow := s.pwr.vinLow, wakeTime := s.pwr.wakeTime, absent := s.pwr.absent }
    saf := { safFresh with safeBits := if off then 0 else s.saf.safeBits, limBits := if off then 0 else s.saf.limBits }
    bst := bstFresh
    lcs := { s.lcs with keyBuf := [], cert := [], cmd := none }
    jtag := if off then jtagFresh else s.jtag }

/-- A reset of a kind with its bit of SYS_RESET_CAUSE: LOAD, the first start-up phase (R24, Table 1.6). The nibs it clears are
counted in CLEARED (R119); leaving FROZEN sets FROZEN_EXIT; a boundary-scan instruction ends with its right, for no state is decided until the
vote (R365, R374, R376). -/
def resetTo (kind : Nat) (cause : Fld) (s : State) : State :=
  let old := s.mode
  let n := s.nib.nibs.length
  let s0 := if kind = 0 then s else resetCuts s
  let s1 := { blocksAfter kind s0 with regs := regsAfter kind s0.regs }
  let s2 := ((s1.set1 cause).wr Fd.SYS_MODE_PREV_MODE old).wr (Fd.NIB_CNT_COUNT 14) n
  let s3 := bscanJudge (if old = Md.frozen then s2.set1 Fd.SYS_RESET_CAUSE_FROZEN_EXIT else s2)
  if kind = 0 then forEach (List.range 3) s3 (fun r t => t.wr (Fd.PWR_RCHK_CRC r) (retZeroCrc r)) else s3

/-- SYS_RESET_CAUSE as a word. -/
def resetCause (s : State) : Nat :=
  s.rd Fd.SYS_RESET_CAUSE_POWER_ON + 2 * s.rd Fd.SYS_RESET_CAUSE_BROWN_OUT + 4 * s.rd Fd.SYS_RESET_CAUSE_PIN +
  8 * s.rd Fd.SYS_RESET_CAUSE_WARM_CMD + 16 * s.rd Fd.SYS_RESET_CAUSE_NMT_RESET + 32 * s.rd Fd.SYS_RESET_CAUSE_S3_WAKE +
  64 * s.rd Fd.SYS_RESET_CAUSE_FROZEN_EXIT + 128 * s.rd Fd.SYS_RESET_CAUSE_LCS_CHANGE

/-- The start-up timeline begins; the reset's entry is requested (Tables 1.9 and 13.5). -/
def timeline (s : State) : State :=
  logReq Blk.sys 0x01 (resetCause s) (s.rd Fd.SYS_MODE_PREV_MODE) 0 { s with sys := { s.sys with phase := .regulators } }

/-- Hold reset in a phase outside the timeline. -/
def hold (p : Phase) (s : State) : State := { s with sys := { s.sys with phase := p } }

/-- RESET_N reads low: without VCCIO6 the pin reads deasserted (R382). -/
def resetNLow (s : State) : Bool := s.sys.resetLow && !s.pwr.absent.contains 6

/-- Begin the timeline, or hold reset while RESET_N is low. -/
def timelineOrHold (s : State) : State := if resetNLow s then hold .resetHeld s else timeline s

/-- VIN rises through 2.65 V: a power-on reset (R395). After a brown-out SYS_RESET_CAUSE shows BROWN_OUT and POWER_ON. -/
def powerOnReset (s : State) : State :=
  let brown := s.sys.phase = .noVin ∧ s.rdB Fd.SYS_RESET_CAUSE_BROWN_OUT
  let frozen := s.sys.phase = .noVin ∧ s.rdB Fd.SYS_RESET_CAUSE_FROZEN_EXIT
  let prev := if s.sys.phase = .noVin then s.rd Fd.SYS_MODE_PREV_MODE else s.mode
  let s1 := (resetTo 0 Fd.SYS_RESET_CAUSE_POWER_ON s).wr Fd.SYS_MODE_PREV_MODE prev
  let s2 := if brown then s1.set1 Fd.SYS_RESET_CAUSE_BROWN_OUT else s1
  timelineOrHold (if frozen then s2.set1 Fd.SYS_RESET_CAUSE_FROZEN_EXIT else s2)

/-- The hardwired safe path drives the pins to their safe-state row values while reset is held; pins that had not settled stay
high-impedance (Table 1.6, R25). -/
def pathDrives (s t : State) : State :=
  { t with
    chn := { t.chn with pins := if s.chn.pins = .unsettled then .unsettled else .safe }
    cfg := { t.cfg with rowVal := s.cfg.rowVal, rowPin := s.cfg.rowPin } }

/-- VIN falls below 2.55 V: LOAD, the pins on the hardwired safe path, and reset is held until VIN rises through 2.65 V (Table 1.6).
What it cuts short stays so. -/
def brownOut (s : State) : State :=
  if s.sys.phase = .noVin then s
  else pathDrives s <| hold .noVin (resetTo 0 Fd.SYS_RESET_CAUSE_BROWN_OUT (exportInterrupted (lcsInterrupted (uflInterrupted (cfgInterrupted (storeCuts s))))))

/-- RESET_N low: a cold reset, held until RESET_N returns high (Table 1.6); the pin reads deasserted without VCCIO6 (R382). -/
def coldReset (s : State) : State :=
  let s1 := { s with sys := { s.sys with resetLow := true } }
  if s.sys.phase = .noVin ∨ resetNLow s1 = false then s1
  else if s.sys.phase = .resetHeld then s1
  else hold .resetHeld (resetTo 1 Fd.SYS_RESET_CAUSE_PIN s1)

/-- RESET_N returns high: the timeline begins from this release. -/
def resetRelease (s : State) : State :=
  let s1 := { s with sys := { s.sys with resetLow := false } }
  if s.sys.phase = .resetHeld then timeline s1 else s1

/-- A bank supply is lost (R339); without VCCIO6 a RESET_N that is low reads deasserted, and the reset it held begins (R382). -/
def supplyLost (n : Nat) (s : State) : State :=
  let t := bankLost n s
  if t.sys.phase = .resetHeld ∧ resetNLow t = false then timeline t else t

/-- A bank supply returns (R339); with VCCIO6 a RESET_N that is low reads low again (R382). -/
def supplyBack (n : Nat) (s : State) : State :=
  let t := bankBack n s
  if n = 6 ∧ resetNLow t = true then coldReset t else t

/-- The modes from which a warm reset starts (Table 1.6). -/
def warmFrom (s : State) : Bool := s.mode == Md.standby || s.mode == Md.run || s.mode == Md.limited || s.mode == Md.safe

/-- A warm reset with its cause. -/
def warmReset (cause : Fld) (s : State) : State := timeline (resetTo 2 cause s)

/-- A write of SYS_RESET_CMD: the key 0x6B5D with WARM 1 starts a warm reset; any other write is ignored. -/
def resetCmd (v : Nat) (s : State) : State :=
  if v % 2 ^ 16 = 0x6B5D ∧ v.testBit 16 = true ∧ warmFrom s = true then warmReset Fd.SYS_RESET_CAUSE_WARM_CMD s else s

/-- The wake from S3 continues as a warm reset; what the sleep left to the wake is kept, and the hold
cells keep their levels (Table 1.6, R331, R337, R345). Once the reset has begun the mode is LOAD. -/
def s3Wake (s : State) : State :=
  match s.pwr.sleep with
  | .waking 3 =>
    if s.mode ≠ Md.sleep then s
    else
      let t := warmReset Fd.SYS_RESET_CAUSE_S3_WAKE s
      { t with
        pwr := { t.pwr with
          sleep := .waking 3, wake := s.pwr.wake, wakeAon := s.pwr.wakeAon, hold := s.pwr.hold, intHeld := s.pwr.intHeld
          intHeldUp := s.pwr.intHeldUp }
        chn := { t.chn with pins := s.chn.pins }
        saf := { t.saf with slept := s.saf.slept } }
  | _ => s

/-- FREEZE_N low for 1 µs: FROZEN (R378). Nibs, planes, commanded levels and latched images keep their contents for readout; outputs are
safe, trailing edges, shifts and frames end (R142), the fabric networks stop (R183), timers stop and no moderation is released (R309), the SDRAM is in self-refresh, device time is bridged, the hold cells keep the pins. A sleep or a wake under way is over: only a
reset or a VIN cycle leaves FROZEN. -/
def freeze (s : State) : State :=
  if s.mode = Md.frozen ∨ s.sys.phase = .noVin ∨ s.sys.phase = .resetHeld then s
  else
    let s1 := cancelRequest s
    let s2 := setMode Md.frozen { s1 with
      chn := { (outputsSafe s1).chn with pins := if s1.chn.pins = .unsettled then .unsettled else .safe }
      pwr := { s1.pwr with sleep := .awake, hold := true } }
    let s3 := irqStopTimers (sdramSelfRefresh (s2.clr Fd.FAB_CLK_STAT_NET_RUN))
    bridgeBegin { s3 with irq := { s3.irq with flushed := false } }

/-! ### Requested transitions (R21 to R23) -/

/-- A request ends with a status. -/
def reqEnd (st : Nat) (s : State) : State := (s.wr Fd.SYS_MODE_REQ_STATUS st).clr Fd.SYS_MODE_REQ_BUSY

/-- Both angle channels are plausible: each is VALID and no plausibility violation is latched (R63, Table 1.6). -/
def plausible (s : State) : Bool :=
  s.rdB (Fd.AFE_CH_STAT_VALID 0) && s.rdB (Fd.AFE_CH_STAT_VALID 1) && !s.rdB Fd.AFE_FAULT_PLAUS_ANG &&
  !s.rdB Fd.AFE_FAULT_PLAUS_VEL && !s.rdB Fd.AFE_FAULT_PLAUS_DIR

/-- Where the start trigger leads, if Table 1.6 admits it; `target`: it is TARGET 3, which alone returns LIMITED to RUN. -/
def startLeads (target : Bool) (s : State) : Option Nat :=
  if s.mode = Md.standby then
    if safeCause s then none
    else if limitedCause s then some Md.limited
    else if plausible s then some Md.run
    else none
  else if s.mode = Md.limited ∧ target = true ∧ safeCause s = false ∧ limitedCause s = false then some Md.run
  else none

/-- The start trigger acts. -/
def startTo (m : Nat) (s : State) : State :=
  if m = Md.limited then enterLimited 0 0xFF s else setMode Md.run s

/-- The STANDBY trigger is admitted (Table 1.6). -/
def standbyFrom (s : State) : Bool :=
  driving s.mode || (s.mode == Md.safe && !safeCause s && s.rd Fd.SAF_ACTIVE_ACTIVE &&& s.rd Fd.SAF_FAULT_LATCHED &&& s.saf.safeBits == 0)

/-- From RUN or LIMITED the queues stop and unlocked nibs are retracted; the transition completes with the outputs (Table
4.9, R144). From SAFE the mode changes. -/
def toStandby (s : State) : State :=
  if driving s.mode then
    let s1 := forEach (queuesIn s 1) s (fun q t => qSetState q 2 2 (retractQueue q t))
    { s1.set1 Fd.SYS_MODE_REQ_BUSY with sys := { s1.sys with toStandby := true } }
  else retMessages (enterStandby s)

/-- The last locked nib has fired on a move to STANDBY: outputs are safe and the mode is STANDBY (R144). -/
def standbyDone (s : State) : State :=
  if s.sys.toStandby = true ∧ s.nib.nibs.all (fun (e : Nat × Nib) => e.2.mode != .locked) = true then
    let s1 := reqEnd St.ok (enterStandby (standbyOutputs s))
    { s1 with sys := { s1.sys with toStandby := false } }
  else s

/-- The SAFE trigger is admitted: SELFTEST, STANDBY, RUN and LIMITED. -/
def safeReqFrom (s : State) : Bool :=
  s.mode == Md.selftest || s.mode == Md.standby || s.mode == Md.run || s.mode == Md.limited

/-- A commanded self-test begins: pairs are held, slices yield, and a pass of each masked target is to be marched (R361, Table 7.1). -/
def toSelftest (s : State) : State :=
  let s1 := setMode Md.selftest (slicesYield (pairsHold s))
  { s1 with
    sys := { s1.sys with selfTest := true }
    bst := { s1.bst with
      testBad := false
      testLeft := ((List.range 19).filter (fun t => (s1.rd Fd.BST_TEST_MASK_TARGETS).testBit t)).map (fun t => (t, bstRegions t)) } }

/-- A request of SYS_MODE_REQ. While a SCRAP is BUSY the device stays in its mode, but for a SAFE trigger (R379); in INVALID the self-test is
refused as Table 15.6 has it (R362, Table 16.3). -/
def modeReq (target sel : Nat) (s0 : State) : State :=
  let s := idleRestart s0
  if s.rdB Fd.SYS_MODE_REQ_BUSY then s.wr Fd.SYS_MODE_REQ_STATUS St.busy
  else if scrapping s = true ∧ target ≠ 5 then reqEnd St.refusedMode s
  else if target = 1 then
    if lcsState s = 3 then reqEnd St.access (bstRefuse s)
    else if s.mode = Md.standby ∧ (queuesIn s 1).isEmpty = true then toSelftest (reqEnd St.ok s) else reqEnd St.refusedMode s
  else if target = 2 then
    if standbyFrom s then toStandby (reqEnd St.ok s) else reqEnd St.refusedMode s
  else if target = 3 then
    match startLeads true s with
    | some m => startTo m (reqEnd St.ok s)
    | none => reqEnd St.refusedMode s
  else if target = 5 then
    if safeReqFrom s then reqEnd St.ok (enterSafe 0 0xFF s) else reqEnd St.refusedMode s
  else if target = 6 then
    if sel = 0 then reqEnd St.range s
    else if s.mode = Md.standby then sleepRequest sel s
    else reqEnd St.refusedMode s
  else reqEnd St.range s

/-- NMT commands reach the device: no frame is received in LOAD, SLEEP or FROZEN (R286). -/
def nmtServed (s : State) : Bool := !(s.mode == Md.load || s.mode == Md.sleep || s.mode == Md.frozen)

/-- An NMT command that Table 1.6 refuses. -/
def nmtRefuse (s : State) : State := s.set1 Fd.NET_STAT_NMT_REFUSED

/-- An NMT trigger: admitted and acting, or refused (R286). -/
def nmtCmd (admitted : Bool) (f : State → State) (s : State) : State :=
  if !nmtServed s then s
  else if admitted && !s.rdB Fd.SYS_MODE_REQ_BUSY && !scrapping s then f (idleRestart s)
  else nmtRefuse (idleRestart s)

/-- NMT Start Remote Node. -/
def nmtStart (s : State) : State :=
  match startLeads false s with
  | some m => nmtCmd true (startTo m) s
  | none => nmtCmd false id s

/-- NMT Enter Pre-operational. -/
def nmtPreOp (s : State) : State := nmtCmd (standbyFrom s) toStandby s

/-- NMT Stop Remote Node: a SAFE trigger, which prevails over a transition in progress (R22). -/
def nmtStop (s : State) : State :=
  if !nmtServed s then s else if safeReqFrom s then enterSafe 0 0xFF s else nmtRefuse (idleRestart s)

/-- NMT Reset Node: a warm reset. -/
def nmtResetNode (s : State) : State :=
  if !nmtServed s then s else if warmFrom s then warmReset Fd.SYS_RESET_CAUSE_NMT_RESET s else nmtRefuse (idleRestart s)

/-- The commanded self-test ends (Table 1.6, R361): with a failing phase at once (DESIGN CHOICE, log 59), else once every masked target has
been marched; the march has failed where a slice of it was not repaired. -/
def selfTestOver (failPhase chk : Nat) (s : State) : State :=
  if s.mode = Md.selftest ∧ s.sys.selfTest = true ∧ (failPhase ≠ 0 ∨ chk ≠ 0 ∨ bstMarched s = true) then
    let fp := if failPhase ≠ 0 then failPhase else if chk ≠ 0 then 1 else if s.bst.testBad then 4 else 0
    let s1 := selfTestEnd fp chk s
    let s2 := { s1 with sys := { s1.sys with selfTest := false } }
    if fp = 0 then retMessages (pairsRelease (enterStandby s2)) else enterSafe Blk.bst 0xFF s2
  else s

end Sys2Proof.Machine
end

