-- ==== Sys2Proof/Machine/Lcs.lean ====
section
/-! DEFINITION. Life cycle, keys and debug rights (R364 to R374, R379) and the JTAG instructions (R375, R376). -/
namespace Sys2Proof.Machine

open Sys2Proof

/-! ### OTP words of the commands -/

/-- The 32-bit words of a number. -/
def numWords : Nat → Nat → List Nat
  | 0, _ => []
  | n + 1, v => v % 2 ^ 32 :: numWords n (v / 2 ^ 32)

/-- A number's words as OTP words at indices f 0, f 1, … -/
def otpList (f : Nat → Nat) (n v : Nat) : List (Nat × Nat) := (numWords n v).zipIdx.map (fun (e : Nat × Nat) => (f e.2, e.1))

/-- The key bytes that LCS_KEY_BUF holds for a slot. -/
def keyBufBytes (s : State) (k : Nat) : List Byte :=
  (List.range (keyLen k / 4)).flatMap (fun i => toBytes 4 (mapGet 0 s.lcs.keyBuf i).toNat)

/-- The digest and key words of a slot for the key in LCS_KEY_BUF. -/
def provWords (s : State) (k : Nat) : List (Nat × Nat) :=
  let key := keyBufBytes s k
  otpList (otpDigest k) 8 (sha key) ++ otpList (otpKey k) (keyLen k / 4) (ofBytes key)

/-! ### LCS commands (R367 to R369, R371, R379) -/

/-- LCS_CMD_STAT reports a status: source 399. -/
def lcsStatus (st : Nat) (s : State) : State := irqEvent 399 (s.wr Fd.LCS_CMD_STAT_STATUS st)

/-- A write to LCS_CMD up to the checks common to all commands: origin, one at a time, key, mode and supply (R20, R367, R340).
`run`: the command is also taken in RUN and LIMITED. -/
def lcsCmd (master key want : Nat) (run : Bool) (f : State → State) (s : State) : State :=
  if isFabric master then s.set1 Fd.DBG_STAT_FAB_CMD
  else if s.rdB Fd.LCS_CMD_STAT_BUSY then lcsStatus St.busy s
  else if key ≠ want then lcsStatus St.range s
  else if !(s.mode == Md.standby || s.mode == Md.safe || (run && driving s.mode)) then lcsStatus St.refusedMode s
  else if s.pwr.vinLow then lcsStatus St.refusedMode s
  else f s

/-- A command is taken: BUSY, with the OTP words it programs. -/
def lcsTake (op slot : Nat) (words : List (Nat × Nat)) (s : State) : State :=
  let s1 := (s.set1 Fd.LCS_CMD_STAT_BUSY).wr Fd.LCS_CMD_STAT_OP op
  { s1 with lcs := { s1.lcs with cmd := some ⟨op, slot, words⟩ } }

/-- LCS_KEY_BUF is cleared after every PROVISION (R367). -/
def keyBufClear (s : State) : State := { s with lcs := { s.lcs with keyBuf := [] } }

/-- LCS_CMD PROVISION. -/
def lcsProvision (key slot master : Nat) (s : State) : State :=
  let k := slot % 4
  let s1 := lcsCmd master key 0x9A0C false (fun t =>
    let w := provWords t k
    if lcsState t ≠ 0 then lcsStatus St.access t
    else if slotProv t k || w.any (fun (e : Nat × Nat) => otp t e.1 &&& e.2 != otp t e.1) then lcsStatus St.order t
    else lcsTake 1 k (w ++ [(otpSlot k, codeSlot)]) t) s
  if isFabric master then s1 else keyBufClear s1

/-- CFG_BANK_STAT of the loaded bank shows SIGNER 1. -/
def loadedUserSigned (s : State) : Bool :=
  (List.range 2).any (fun b => s.rdB (Fd.CFG_BANK_STAT_LOADED b) && s.rdB (Fd.CFG_BANK_STAT_SIGNER b))

/-- LCS_CMD CLOSE. -/
def lcsClose (key master : Nat) (s : State) : State :=
  lcsCmd master key 0xC105 false (fun t =>
    if lcsState t ≠ 0 then lcsStatus St.access t
    else if !(slotUsable t 1 && loadedUserSigned t) then lcsStatus St.order t
    else lcsTake 2 0 ((otpCloseIntent, codeCloseIntent) :: (List.range 5).map (fun k => (otpCopy k, codeClosed))) t) s

/-- LCS_CMD SCRAP. -/
def lcsScrap (key master : Nat) (s : State) : State :=
  lcsCmd master key 0x5C4A false (fun t =>
    if lcsState t = 1 ∧ t.rd Fd.DBG_RIGHTS_RIGHTS ≠ 0x3F then lcsStatus St.access t
    else lcsTake 3 0 [(otpScrapIntent, codeScrapIntent)] t) s

/-- SEC_VERSION of the loaded manifest; 0 with no image loaded. -/
def loadedVersion (s : State) : Nat := match loadedManifest s with | some m => mfVersion m | none => 0

/-- LCS_CMD RAISE_FLOOR. -/
def lcsRaiseFloor (key master : Nat) (s : State) : State :=
  lcsCmd master key 0xF100 false (fun t =>
    let f := t.rd Fd.LCS_ARG_FLOOR
    if lcsState t = 3 then lcsStatus St.access t
    else if 256 < f ∨ loadedVersion t < f then lcsStatus St.range t
    else if f ≤ otpFloorVal t then lcsStatus St.ok (t.wr Fd.LCS_CMD_STAT_OP 4)
    else lcsTake 4 0 (otpList otpFloor 8 (2 ^ f - 1)) t) s

/-- LCS_CMD BUMP_DBG_CTR. -/
def lcsBump (key master : Nat) (s : State) : State :=
  lcsCmd master key 0xB0B0 true (fun t =>
    if lcsState t = 3 then lcsStatus St.access t
    else if 1024 ≤ otpCtrVal t then lcsStatus St.range t
    else lcsTake 5 0 (otpList otpCtr 32 (2 ^ (otpCtrVal t + 1) - 1)) t) s

/-- LCS_CMD with an OP that Table 16.4 does not give. -/
def lcsOther (master : Nat) (s : State) : State :=
  if isFabric master then s.set1 Fd.DBG_STAT_FAB_CMD
  else if s.rdB Fd.LCS_CMD_STAT_BUSY then lcsStatus St.busy s
  else lcsStatus St.range s

/-- OTP words to be programmed to all ones. -/
def allOnes (l : List Nat) : List (Nat × Nat) := l.map (fun i => (i, 2 ^ 32 - 1))

/-- The words step 2 of scrapping programs: every key slot, the floor and the counter (R379). -/
def scrapWords : List Nat :=
  (List.range 4).flatMap (fun k => (List.range 32).map (fun i => otpSlot k + i)) ++ (List.range 8).map otpFloor ++ (List.range 32).map otpCtr

/-- The part of step 3 of scrapping that a configuration array still needs: an array that is erased stays as it is. -/
def scrapBank (b : Nat) (s : State) : State :=
  if (if b = 0 then s.cfg.bank0 else s.cfg.bank1) = flashZero then s
  else bankWritten b { s with cfg := if b = 0 then { s.cfg with bank0 := flashZero } else { s.cfg with bank1 := flashZero } }

/-- Steps 2 to 5 of scrapping (R379) as far as they are undone (R365): key slots, floor and counter to all ones; every flash array that holds
something erased; retained RAM zero; every state copy to all ones. The copies are programmed last: where they read all ones nothing is
undone, and where one does only they are. -/
def scrapSteps (s : State) : State :=
  let last := fun t => otpProgs (allOnes ((List.range 5).map otpCopy)) t
  if (List.range 5).any (fun k => otp s (otpCopy k) == 2 ^ 32 - 1) then last s
  else
    let s1 := otpProgs (allOnes scrapWords) s
    let s2 := scrapBank 0 (scrapBank 1 { s1 with cfg := { s1.cfg with recs := flashZero, row := flashZero, rowErased := none } })
    let s3 := forEach ((List.range 128).filter (fun b => !s2.ufl.main.blank uflU uflP b)) s2 uflErased
    let s4 := { s3 with ufl := { s3.ufl with cal := flashZero } }
    last (forEach (List.range 3) (retClear 0 (retClear 1 (retClear 2 s4))) (fun r t =>
      (t.wr (Fd.PWR_RCHK_CRC r) (retZeroCrc r)).clr (Fd.PWR_RCHK_SEQ r)))

/-- Rights are revoked, on REVOKE and BUMP_DBG_CTR (R374): DBG_RIGHTS reads 0, in OPEN 0x3F; probes are disabled (R187). -/
def revokeRights (s : State) : State :=
  if lcsState s = 0 then s else irqEvent 399 (bscanJudge (loupeRevoke (s.clr Fd.DBG_RIGHTS_RIGHTS)))

/-- A life-cycle command ends (R367, R368, R379). -/
def lcsDone (s : State) : State :=
  match s.lcs.cmd with
  | none => s
  | some c =>
    let s1 := otpProgs c.words { s with lcs := { s.lcs with cmd := none } }
    let s2 := logReq Blk.lcs 0x02 c.op St.ok 0 (lcsStatus St.ok (s1.clr Fd.LCS_CMD_STAT_BUSY))
    match c.op with
    | 1 => s2.orF Fd.LCS_KEY_STAT_PROV (2 ^ c.slot)
    | 2 => warmReset Fd.SYS_RESET_CAUSE_LCS_CHANGE s2
    | 3 => warmReset Fd.SYS_RESET_CAUSE_LCS_CHANGE (scrapSteps s2)
    | 4 => s2.wr Fd.LCS_FLOOR_FLOOR (otpFloorVal s2)
    | _ => revokeRights (s2.wr Fd.LCS_DBG_CTR_COUNT (otpCtrVal s2))

/-! ### The vote (R365, R370) -/

/-- A copy holds OPEN, CLOSED or an intermediate value: every bit of OPEN set, no bit outside CLOSED. -/
def copyBetween (v : Nat) : Bool := v &&& codeOpen == codeOpen && v &&& codeClosed == v

/-- Copies that hold a code, as a mask. -/
def copiesWith (s : State) (code : Nat) : Nat :=
  (List.range 5).foldl (fun a k => if otp s (otpCopy k) = code then a + 2 ^ k else a) 0

/-- Number of copies that hold a code. -/
def copiesCount (s : State) (code : Nat) : Nat := ((List.range 5).filter (fun k => otp s (otpCopy k) == code)).length

/-- The state the vote decides, with COMPLETED; under rules 1 and 2 it finishes the programming first (R365). -/
def voteState (s : State) : Nat × Bool × State :=
  if otp s otpScrapIntent = codeScrapIntent then (3, false, scrapSteps s)
  else if otp s otpCloseIntent = codeCloseIntent ∧ (List.range 5).all (fun k => copyBetween (otp s (otpCopy k))) = true then
    (1, true, otpProgs ((List.range 5).map (fun k => (otpCopy k, codeClosed))) s)
  else if 3 ≤ copiesCount s codeOpen then (0, false, s)
  else if 3 ≤ copiesCount s codeClosed then (1, false, s)
  else (3, false, s)

/-- The check of a key slot (R370). -/
def keyCheck (k : Nat) (s : State) : State :=
  if slotProv s k then
    let s1 := s.orF Fd.LCS_KEY_STAT_PROV (2 ^ k)
    if sha (slotKey s k) = slotDigest s k then s1
    else logReq Blk.lcs 0x05 k 0 0 (s1.orF Fd.LCS_KEY_STAT_FAIL (2 ^ k))
  else s

/-- The calibration row of a device scrapped at this vote fails its check, and UFL_SERIAL reads 0 (R379). -/
def scrapCal (s : State) : State := if (calRow s).isNone ∧ s.rdB Fd.UFL_STAT_CAL_VALID then calRead (s.clr Fd.UFL_SERIAL_SERIAL) else s

/-- The vote phase: the state, the key slots, floor and counter as read, the rights of the state, log code 0x01. -/
def lcsVote (s : State) : State :=
  let v := voteState s
  let t := if v.1 = 3 then scrapCal v.2.2 else v.2.2
  let code := if v.1 = 0 then codeOpen else codeClosed
  let m := if v.1 = 3 then 0 else copiesWith t code
  let s1 := ((t.wr Fd.LCS_STATE_STATE v.1).wr Fd.LCS_STATE_MATCH m).wrB Fd.LCS_STATE_COMPLETED v.2.1
  let s2 := (s1.wrB Fd.LCS_STATE_CLOSE_INTENT (otp s1 otpCloseIntent == codeCloseIntent)).wrB Fd.LCS_STATE_SCRAP_INTENT
    (otp s1 otpScrapIntent == codeScrapIntent)
  let s3 := forEach (List.range 4) ((s2.clr Fd.LCS_KEY_STAT_PROV).clr Fd.LCS_KEY_STAT_FAIL) keyCheck
  let s4 := (s3.wr Fd.LCS_FLOOR_FLOOR (otpFloorVal s3)).wr Fd.LCS_DBG_CTR_COUNT (otpCtrVal s3)
  logReq Blk.lcs 0x01 v.1 m (b2n v.2.1) (s4.wr Fd.DBG_RIGHTS_RIGHTS (if v.1 = 0 then 0x3F else 0))

/-! ### Debug certificates (R373, R374) -/

/-- DBG_STAT reports a status: source 399. -/
def dbgCmdStatus (st : Nat) (s : State) : State := irqEvent 399 (s.wr Fd.DBG_STAT_STATUS st)

/-- A write to DBG_CMD up to its OP: a write from a fabric master port is discarded, a second command while BUSY refused. -/
def dbgCmd (master : Nat) (f : State → State) (s : State) : State :=
  if isFabric master then s.set1 Fd.DBG_STAT_FAB_CMD
  else if s.rdB Fd.DBG_STAT_BUSY then dbgCmdStatus St.busy s
  else f s

/-- DBG_CMD PRESENT: the check of the certificate begins. -/
def dbgPresent (master : Nat) (s : State) : State := dbgCmd master (fun t => t.set1 Fd.DBG_STAT_BUSY) s

/-- DBG_CMD REVOKE. -/
def dbgRevoke (master : Nat) (s : State) : State := dbgCmd master (fun t => dbgCmdStatus St.ok (revokeRights t)) s

/-- DBG_CMD with another OP. -/
def dbgOther (master : Nat) (s : State) : State := dbgCmd master (dbgCmdStatus St.range) s

/-- The certificate in DBG_CERT. -/
def certBytes (s : State) : List Byte := (List.range 24).flatMap (fun i => toBytes 4 (mapGet 0 s.lcs.cert i).toNat)

/-- The status of the certificate's check: the first failure in the order of R373. A counter that is being bumped no longer
matches. -/
def certStatus (s : State) : Nat :=
  let c := certBytes s
  let bumping := match s.lcs.cmd with | some x => x.op == 5 | none => false
  if s.mode = Md.load ∨ s.mode = Md.frozen then St.refusedMode
  else if lcsState s ≠ 1 then St.order
  else if s.rdB Fd.DBG_STAT_LOCKOUT then St.access
  else if !slotUsable s 2 then St.access
  else if mf c 0 4 ≠ 0xDBC00396 ∨ mf c 4 2 ≠ 1 ∨ 64 ≤ mf c 6 2 ∨ mfZero c 0x14 12 = false then St.range
  else if mf c 8 8 ≠ s.rd Fd.UFL_SERIAL_SERIAL ∨ mf c 0x10 4 ≠ s.rd Fd.LCS_DBG_CTR_COUNT ∨ bumping = true then St.auth
  else if Config.ecdsaP256 (slotKey s 2) (c.take 32) ((c.drop 32).take 64) then St.ok
  else St.auth

/-- A certificate check ends: its rights are granted, or a failure is counted toward LOCKOUT (R373). -/
def certDone (s : State) : State :=
  if !s.rdB Fd.DBG_STAT_BUSY then s
  else
    let st := certStatus s
    let s1 := s.clr Fd.DBG_STAT_BUSY
    if st = St.ok then
      let r := mf (certBytes s) 6 2
      let s2 := s1.wr Fd.DBG_RIGHTS_RIGHTS r
      let s3 := bscanJudge (if r.testBit 1 then s2 else loupeRevoke s2)
      dbgCmdStatus st (logReq Blk.lcs 0x03 r (s.rd Fd.LCS_DBG_CTR_COUNT) 0 s3)
    else
      let f := min 8 (s.rd Fd.DBG_STAT_FAILS + 1)
      let s2 := s1.wr Fd.DBG_STAT_FAILS f
      let s3 := if f = 8 then s2.set1 Fd.DBG_STAT_LOCKOUT else s2
      dbgCmdStatus st (logReq Blk.lcs 0x04 st f 0 s3)

/-! ### JTAG instructions (R375, R376) -/

/-- The JTAG identification: version, part number, manufacturer field, bit 0 set (R375). -/
def idcode : Nat := 0x10396B63

/-- The test port answers: the device has power, and VCCIO6 (R382). -/
def jtagAnswers (s : State) : Bool := s.sys.phase != .noVin && !s.pwr.absent.contains 6

/-- An instruction through the test port. -/
def jtagRun (f : State → State) (s : State) : State := if jtagAnswers s then f s else s

/-- The instruction a code stands for (Table 16.8): any other code acts as BYPASS. -/
def irOf (code : Nat) : JtagIr :=
  match code with
  | 0x00 => .extest
  | 0x01 => .samplePreload
  | 0x02 => .idcode
  | 0x03 => .clamp
  | 0x04 => .highz
  | 0x20 => .dbgAccess
  | 0x21 => .lcsStatus
  | 0x22 => .freezeRead
  | _ => .bypass

/-- What the instruction register captures, and a scan of it shifts out (R375). -/
def irCapture : Nat := 0b00000001

/-- An instruction is loaded: its code, with what its register shifts out. -/
def jtagSel (code v : Nat) (s : State) : State :=
  { s with jtag := { s.jtag with code := code, ir := irOf code, irOut := irCapture, shiftOut := v } }

/-- Test-Logic-Reset selects IDCODE without a scan (R375). -/
def jtagReset (s : State) : State := { s with jtag := { s.jtag with code := 0x02, ir := .idcode, shiftOut := idcode } }

/-- Cells of the boundary-scan register that the model shows the drive of: the user pins and INT_N. -/
def cellCount : Nat := 516

/-- A scan of the boundary-scan register: what it captures are pin levels from outside the device, and what is shifted into its update stage
is the host's; no row has either as an operand, so both are free values. -/
def cellScan (s : State) : State :=
  let n := s.sys.free
  { s with
    sys := { s.sys with free := n + 1 + cellCount }
    jtag := { s.jtag with
      shiftOut := (Config.freeValue n).toNat
      cells := (List.range cellCount).map (fun c => (c, (Config.freeValue (n + 1 + c)).toNat % 3)) } }

/-- The boundary-scan instructions act under the right, and EXTEST, CLAMP and HIGHZ outside RUN and LIMITED; otherwise the
instruction acts as BYPASS and sets BSCAN_REFUSED (R376). -/
def jtagScan (code : Nat) (s : State) : State :=
  if bscanActs (irOf code) s then
    let t := jtagSel code 0 s
    if irOf code = .extest ∨ irOf code = .samplePreload then cellScan t else t
  else
    let t := jtagSel code 0 (s.set1 Fd.DBG_STAT_BSCAN_REFUSED)
    { t with jtag := { t.jtag with ir := .bypass } }

/-- LCS_STATE as a word. -/
def lcsStateWord (s : State) : Nat :=
  s.rd Fd.LCS_STATE_STATE + s.rd Fd.LCS_STATE_MATCH * 4 + s.rd Fd.LCS_STATE_COMPLETED * 128 +
    s.rd Fd.LCS_STATE_CLOSE_INTENT * 256 + s.rd Fd.LCS_STATE_SCRAP_INTENT * 512

end Sys2Proof.Machine
end

