-- ==== Sys2Proof/Machine/Net0.lean ====
section
/-! DEFINITION. The dictionary's answers and request tags (R282, R283, R298), the dictionary port of the fabric (R192, R300),
value records (R275) and the start of a store or restore (R280, R281). -/
namespace Sys2Proof.Machine

open Sys2Proof

/-! ### Outcomes (Table 12.2) -/

/-- The end of a dictionary access: a status of Table 1.4 and the USDO abort code that goes with its cause (0 for none). -/
structure Out where
  st : Nat
  abort : Nat
deriving DecidableEq, Repr

namespace Out
/-! The causes of Table 12.2. -/
def done : Out := ⟨St.ok, 0⟩
def duplicate : Out := ⟨St.duplicate, 0⟩
def readOnly : Out := ⟨St.access, 0x06010002⟩
def writeOnly : Out := ⟨St.access, 0x06010001⟩
def right : Out := ⟨St.access, 0x06010000⟩
def noObject : Out := ⟨St.range, 0x06020000⟩
def noSub : Out := ⟨St.range, 0x06090011⟩
def length : Out := ⟨St.range, 0x06070010⟩
def value : Out := ⟨St.range, 0x06090030⟩
def state : Out := ⟨St.refusedMode, 0x08000022⟩
def memory : Out := ⟨St.uncorrectable, 0x06060000⟩
def alias_ : Out := ⟨St.range, 0x06070010⟩
def table : Out := ⟨St.busy, 0x05040005⟩
def storeBusy : Out := ⟨St.busy, 0x08000021⟩
def unanswered : Out := ⟨St.incomplete, 0x08000000⟩
def noMap : Out := ⟨St.range, 0x06040041⟩
def longMap : Out := ⟨St.range, 0x06040042⟩
/-- A store or restore that failed, with its status. -/
def store (st : Nat) : Out := if st = St.ok then done else ⟨st, 0x08000020⟩
end Out

/-- The outcome of a register write refused with a status (R271). -/
def outOf (st : Nat) : Out :=
  if st = St.ok then Out.done
  else if st = St.access then Out.right
  else if st = St.refusedMode then Out.state
  else if st = St.uncorrectable then Out.memory
  else if st = St.busy then Out.storeBusy
  else Out.value

/-! ### Request tags (R283) -/

/-- The client code of a host SPI request whose response has been abandoned (R298). -/
def spiGone : Nat := 129

/-- The client whose tags and event words a request uses: an abandoned SPI request stays client 0's. -/
def tagOwner (c : Nat) : Nat := if c = spiGone then 0 else c

/-- The tags remembered for a client, oldest first. -/
def tagsOf (s : State) (c : Nat) : List TagE := mapGet [] s.net.tags (tagOwner c)

/-- A client's remembered entry of a tag. -/
def tagFind (s : State) (c tag : Nat) : Option TagE := if tag = 0 then none else (tagsOf s c).find? (fun e => e.tag == tag)

/-- Remember a tag with its status; at most 16 of a client, each once. -/
def tagAdd (c tag st : Nat) (s : State) : State :=
  if tag = 0 ∨ 127 < tagOwner c then s
  else
    let l := (tagsOf s c).filter (fun e => e.tag != tag) ++ [⟨tag, st, false⟩]
    { s with net := { s.net with tags := mapPut s.net.tags (tagOwner c) (l.drop (l.length - 16)) } }

/-- A repeated tag: its entry sets DUP_SEEN. -/
def tagSeen (c tag : Nat) (s : State) : State :=
  { s with net := { s.net with tags := mapPut s.net.tags (tagOwner c) ((tagsOf s c).map (fun e => if e.tag = tag then { e with dup := true } else e)) } }

/-- The word of a tag entry: [15:0] TAG, [23:16] STATUS, [24] DUP_SEEN (Table 12.8). -/
def TagE.word (e : TagE) : Nat := e.tag % 2 ^ 16 + e.status % 256 * 2 ^ 16 + b2n e.dup * 2 ^ 24

/-- Entry j of a client, newest first. -/
def tagWord (s : State) (c j : Nat) : Nat :=
  match (tagsOf s c).reverse[j]? with
  | some e => e.word
  | none => 0

/-! ### Answers to requesters -/

/-- A response as it leaves the device (R296): 0xA5, STATUS, 0, TAG, LEN, the data and the CRC, high byte first. -/
def spiFrame (st tag : Nat) (data : List Byte) : List Byte :=
  let b := toBytes 1 st ++ toBytes 1 0 ++ toBytes 2 tag ++ toBytes 2 data.length ++ data
  let c := crc16 b
  toBytes 1 0xA5 ++ b ++ toBytes 1 (c / 256) ++ toBytes 1 c

/-- The SPI response and LAST_STATUS; the response of an abandoned request is not sent (R296, R298). -/
def spiDone (o : Out) (data : List Byte) (s : State) : State :=
  let t := s.wr Fd.HSP_STAT_LAST_STATUS o.st
  if s.net.spiBusy then
    { t with net := { t.net with spiBusy := false, spiResp := true, spiOut := spiFrame o.st s.net.spiTag data } }
  else t

/-- A USDO message of the device: an abort code, 0 for none, and data. No frame is sent in LOAD, SLEEP and FROZEN (R286). -/
def usdoSay (abort : Nat) (data : List Byte) (s : State) : State :=
  if nmtServed s then { s with net := { s.net with usdoAbort := abort, usdoData := data } } else s

/-- The USDO response (R272): an abort for a code other than OK and DUPLICATE. -/
def usdoDone (o : Out) (data : List Byte) (s : State) : State :=
  let good := o.st == St.ok || o.st == St.duplicate
  usdoSay (if good then 0 else o.abort) (if good then data else []) s

/-- The end of a request of client c: 0 the host SPI port, 1 to 127 a USDO client. `tag` holds up to two tags, the request's own in its
low 16 bits and that of a tagged write above; both are remembered with the status (R283). -/
def answer (c tag : Nat) (o : Out) (data : List Byte) (s : State) : State :=
  let t := tagAdd c (tag / 2 ^ 16) o.st (tagAdd c (tag % 2 ^ 16) o.st s)
  if c = 0 then spiDone o data t
  else if c = spiGone then t.wr Fd.HSP_STAT_LAST_STATUS o.st
  else if c ≤ 127 then usdoDone o data t
  else t

/-! ### Value records (R275) -/

/-- A record of values. -/
structure Rec where
  index : Nat
  sub : Nat
  kind : Nat
  data : List Byte
deriving DecidableEq, Repr

/-- The records of a container: they end at KIND 0, at a record out of order, or at one that runs past the container; a void
record may stand first and the container then holds none. -/
def recList : Nat → Nat → List Byte → List Rec
  | 0, _, _ => []
  | n + 1, least, l =>
    if l.length < 8 then []
    else
      let kind := mf l 3 1
      let len := mf l 4 2
      let pad := (len + 7) / 8 * 8
      let key := mf l 0 2 * 256 + mf l 2 1
      if kind = 0 ∨ key < least ∨ len = 0 ∨ 34816 < len ∨ l.length < 8 + pad then []
      else if kind = 2 ∧ least = 0 then []
      else ⟨mf l 0 2, mf l 2 1, kind, (l.drop 8).take len⟩ :: recList n (key + 1) (l.drop (8 + pad))

/-- The records of a container. -/
def records (l : List Byte) : List Rec := recList (l.length / 8 + 1) 0 l

/-- A record of one value as bytes. -/
def Rec.bytes (r : Rec) : List Byte :=
  toBytes 2 r.index ++ toBytes 1 r.sub ++ toBytes 1 r.kind ++ toBytes 2 r.data.length ++ toBytes 2 0 ++ r.data ++
    toBytes ((8 - r.data.length % 8) % 8) 0

/-- The manifest's defaults section of the loaded bank (Table 9.3). -/
def defaultsSection (s : State) : List Byte :=
  match loadedManifest s with
  | some m => (slotBytes s (s.rd Fd.CFG_STAT_LOADED_BANK) 0 0xB1000 ((mfDefaultsLen m + 7) / 8 * 8)).elim [] (fun l => l.take (mfDefaultsLen m))
  | none => []

/-- The records of the manifest. -/
def manifestRecs (s : State) : List Rec := records (defaultsSection s)

/-- The object lies in the fabric window. -/
def inFabric (index : Nat) : Bool := decide (0x6000 ≤ index) && decide (index ≤ 0x6FFF)

/-- Bytes of a fabric object: its manifest record's, and where a run gives it, those of the fabric design's object, which the spec leaves to
the design. -/
def fabSize (s : State) (index sub : Nat) : Nat :=
  match (manifestRecs s).find? (fun r => r.index == index && r.sub == sub && r.kind == 1) with
  | some r => r.data.length
  | none => Config.fabObjSize (s.rd Fd.CFG_LOADED_ID_IMAGE_ID) index sub

/-- The records of KIND 1 that a run over fabric objects stands for; none where they do not fit its data (R275). -/
def fabRun (size : Nat → Nat) (index : Nat) : Nat → Nat → List Byte → Option (List Rec)
  | 0, _, _ => none
  | n + 1, sub, l =>
    if l.isEmpty then some []
    else if size sub = 0 ∨ l.length < size sub then none
    else (fabRun size index n (sub + 1) (l.drop (size sub))).map (fun r => ⟨index, sub, 1, l.take (size sub)⟩ :: r)

/-- The values of fabric objects a record stands for; none where the record fails as a whole (R276). -/
def Rec.fabs (s : State) (r : Rec) : Option (List Rec) :=
  if r.kind = 1 then some [r] else if r.kind = 3 then fabRun (fabSize s r.index) r.index 257 r.sub r.data else none

/-- The fabric objects of a list of records. -/
def fabricOf (s : State) (l : List Rec) : List Rec := (l.filter (fun r => inFabric r.index)).flatMap (fun r => (r.fabs s).getD [])

/-- The records of fabric objects that fail as a whole. -/
def fabricBad (s : State) (l : List Rec) : List Rec := l.filter (fun r => inFabric r.index && (r.fabs s).isNone)

/-- The fabric objects of the manifest (R279). -/
def fabricRecs (s : State) : List Rec := fabricOf s (manifestRecs s)

/-- A failing record: counted, and the first captured (R276). -/
def defRefuse (index sub : Nat) (s : State) : State :=
  let t := if s.rd Fd.NET_DEF_STAT_REFUSED = 0 then (s.wr Fd.NET_DEF_STAT_FIRST_INDEX index).wr Fd.NET_DEF_STAT_FIRST_SUB sub else s
  t.incSat Fd.NET_DEF_STAT_REFUSED

/-- A record that fails once the load is over: EMCY 0xFF05 once per load (R276). -/
def defLate (index sub : Nat) (s : State) : State :=
  let t := (defRefuse index sub s).set1 Fd.NET_STAT_DEF_REFUSED
  if s.rd Fd.NET_DEF_STAT_REFUSED = 0 then emcy 0xFF05 Blk.net 9 t else t

/-! ### The dictionary port (R192, R300) -/

/-- Some sector is active. -/
def anySector (s : State) : Bool := (List.range 32).any (fun k => s.rdB (Fd.CFG_SECT_STAT_ACTIVE k))

/-- The outcome of a RESP (R300). -/
def respOut (r : Nat) : Out :=
  if r = 0 then Out.done else if r = 1 then Out.right else if r = 2 then Out.value else Out.noObject

/-- The next fabric object of a store in progress, as a request. -/
def storeAsk (s : State) : Option FabReq :=
  match s.ufl.store with
  | some x => match x.todo with
    | (i, b, n) :: _ => some ⟨i, b, 0, false, [], n, [], 254, 0⟩
    | [] => none
  | none => none

/-- The store takes the answer to its fabric object: a record, or the object left out (R280). -/
def storeTake (r : FabReq) (o : Out) (s : State) : State :=
  match s.ufl.store with
  | some x =>
    let y := if o.st = St.ok then { x with fab := x.fab ++ (Rec.mk r.index r.sub 1 r.got).bytes } else { x with part := true }
    { s with ufl := { s.ufl with store := some { y with todo := y.todo.drop 1 } } }
  | none => s

/-- The request that writes a default to a fabric object: `c` is 253 for the snapshot's value, 255 for the manifest's. -/
def fabDefault (c : Nat) (r : Rec) : FabReq := ⟨r.index, r.sub, 0, true, r.data, r.data.length, [], c, 0⟩

/-- The manifest's value is the next source of a fabric object (R276, R279): it is asked for before any other. -/
def fabNextSource (index sub : Nat) (s : State) : State :=
  match (fabricRecs s).find? (fun r => r.index == index && r.sub == sub) with
  | some r => { s with fab := { s.fab with wait := fabDefault 255 r :: s.fab.wait } }
  | none => s

/-- A default of a fabric object has been answered: its source has supplied it, or its record has failed (R276, R279). -/
def defaultTake (r : FabReq) (o : Out) (s : State) : State :=
  if o.st = St.ok then s.set1 (if r.client = 253 then Fd.NET_DEF_STAT_STORE_USED else Fd.NET_DEF_STAT_MANIFEST_USED)
  else
    let t := defLate r.index r.sub s
    if r.client = 253 then fabNextSource r.index r.sub t else t

/-- The request writes a default of a fabric object. -/
def FabReq.isDefault (r : FabReq) : Bool := r.client == 253 || r.client == 255

/-- The end of a request to its requester. -/
def fabEnd (r : FabReq) (o : Out) (s : State) : State :=
  if r.isDefault then defaultTake r o s
  else if r.client = 254 then storeTake r o s
  else answer r.client r.tag o r.got s

/-- The port carries a request to the fabric design. -/
def portTake (r : FabReq) (s : State) : State :=
  ({ s with fab := { s.fab with req := some r } }).incSat Fd.FAB_DICT_STAT_REQ_CNT

/-- A request for a fabric object: it ends at once while no sector is active. Only the device's own defaults find the port taken, for the
engine makes no other access while one waits for its answer (R273). -/
def fabAsk (r : FabReq) (s : State) : State :=
  if !anySector s then fabEnd r Out.noObject s
  else match s.fab.req with
    | none => portTake r s
    | some _ => { s with fab := { s.fab with wait := s.fab.wait ++ [r] } }

/-- The store's fabric objects are asked for when the port is free; while no sector is active they are left out. -/
def storeKick : Nat → State → State
  | 0, s => s
  | n + 1, s =>
    match storeAsk s with
    | none => s
    | some r =>
      if anySector s then (if s.fab.req = none then portTake r s else s) else storeKick n (storeTake r Out.noObject s)

/-- The fabric design answers the request over the dictionary port, whose clock network must run (R189): RESP and DATA. A request longer than 8 B goes on at the next OFFSET (R300). An answer to a request
already withdrawn is discarded (R192). -/
def fabAnswer (a : DictAns) (data : W64) (s : State) : State :=
  match s.fab.req with
  | none => s
  | some r =>
    if a.late || !portOn s 19 then s else
    let resp := a.resp
    let n := min 8 r.size
    let s0 := { s with fab := { s.fab with req := none } }
    let r1 := { r with offset := r.offset + n, size := r.size - n, data := r.data.drop n,
                       got := if r.write then [] else r.got ++ (toBytes 8 data.toNat).take n }
    if resp % 4 ≠ 0 then fabEnd { r with got := [] } (respOut (resp % 4)) s0
    else if r1.size = 0 then fabEnd r1 Out.done s0
    else portTake r1 s0

/-- No answer in time: the port withdraws the request (R192). -/
def fabTimeout (s : State) : State :=
  match s.fab.req with
  | none => s
  | some r =>
    let s0 := ({ s with fab := { s.fab with req := none } }).incSat Fd.FAB_DICT_STAT_TMO_CNT
    fabEnd { r with got := [] } Out.unanswered (s0.set1 Fd.FAB_STAT_DICT_TMO)

/-! ### Store and restore (R280, R281) -/

/-- The status of the last store or restore. -/
def storeStatus (st : Nat) (s : State) : State := irqEvent 392 ((s.wr Fd.NET_STORE_STAT_STATUS st).clr Fd.NET_STORE_STAT_BUSY)

/-- A store or restore is asked for by a client: its outcome when it is refused, none once it has begun. It takes the array when
no UFL_CMD command is BUSY (R268). -/
def storeStart (void : Bool) (client tag : Nat) (s : State) : Option Out × State :=
  if !uflMode s then (some Out.state, s)
  else if s.ufl.store.isSome then (some Out.storeBusy, s)
  else
    let todo := if void then [] else (fabricRecs s).map (fun r => (r.index, r.sub, r.data.length))
    let s1 := (s.set1 Fd.NET_STORE_STAT_BUSY).wrB Fd.NET_STORE_STAT_KIND void
    let s2 := { s1 with ufl := { s1.ufl with store := some ⟨[], todo, false, void, client, tag⟩ } }
    let s3 := if s2.rdB Fd.UFL_CMD_STAT_BUSY then s2 else s2.set1 Fd.UFL_STAT_STORE_BUSY
    (none, storeKick (todo.length + 1) s3)

/-- A write of a value to 0x1010 sub 0x01 or 0x1011 sub 0x01. -/
def storeWriteObj (void : Bool) (v client tag : Nat) (s : State) : Option Out × State :=
  if v ≠ (if void then 0x64616F6C else 0x65766173) then (some (Out.store St.range), s) else storeStart void client tag s

end Sys2Proof.Machine
end

