-- ==== Sys2Proof/Machine/RegTable.lean ====
section
/-! DEFINITION. The register table: for every register of spec/01 to spec/16 its address, width, index ranges and the
fields with their access codes (Table 0.4), reset source codes (Table 0.5) and hardware values. It drives the generic
register accesses (R7, R16, R402). -/
namespace Sys2Proof.Machine

/-- Registers of block SYS, part 0. -/
def regsSYS0 : List RegRow := [
  ⟨0x06120000, 32, [],
    [⟨0, 3, .ro, .hw, fun _ => 0⟩,
     ⟨4, 2, .ro, .hw, fun _ => 0⟩,
     ⟨6, 1, .ro, .hw, fun _ => 0⟩,
     ⟨7, 1, .ro, .hw, fun _ => 0⟩,
     ⟨8, 8, .ro, .hw, fun _ => 0⟩,
     ⟨16, 3, .ro, .hw, fun _ => 0⟩]⟩,
  ⟨0x06120004, 32, [],
    [⟨0, 3, .wo, .hw, fun _ => 0⟩,
     ⟨4, 2, .wo, .hw, fun _ => 0⟩,
     ⟨16, 8, .ro, .hw, fun _ => 0⟩,
     ⟨24, 1, .ro, .hw, fun _ => 0⟩]⟩,
  ⟨0x06120008, 32, [],
    [⟨0, 1, .w1c, .hw, fun _ => 0⟩,
     ⟨1, 1, .w1c, .hw, fun _ => 0⟩,
     ⟨2, 1, .w1c, .hw, fun _ => 0⟩,
     ⟨3, 1, .w1c, .hw, fun _ => 0⟩,
     ⟨4, 1, .w1c, .hw, fun _ => 0⟩,
     ⟨5, 1, .w1c, .hw, fun _ => 0⟩,
     ⟨6, 1, .w1c, .hw, fun _ => 0⟩,
     ⟨7, 1, .w1c, .hw, fun _ => 0⟩]⟩,
  ⟨0x0612000C, 32, [],
    [⟨0, 16, .wo, .hw, fun _ => 0⟩,
     ⟨16, 1, .wo, .hw, fun _ => 0⟩]⟩,
  ⟨0x06120010, 32, [],
    [⟨0, 16, .ro, .hw, fun _ => 918⟩,
     ⟨16, 8, .ro, .hw, fun _ => 1⟩]⟩,
  ⟨0x06120018, 32, [(0, 2, 4)],
    [⟨0, 8, .rw, .img, fun _ => 0⟩]⟩,
  ⟨0x06120020, 32, [],
    [⟨0, 3, .rw, .img, fun _ => 3⟩,
     ⟨8, 2, .rw, .img, fun _ => 0⟩]⟩,
  ⟨0x06120028, 32, [],
    [⟨0, 32, .ro, .hw, fun _ => 0⟩]⟩,
  ⟨0x0612002C, 32, [],
    [⟨0, 8, .ro, .hw, fun _ => 0⟩,
     ⟨8, 1, .ro, .hw, fun _ => 0⟩,
     ⟨9, 3, .ro, .hw, fun _ => 0⟩,
     ⟨31, 1, .w1c, .hw, fun _ => 0⟩]⟩]

/-- Registers of block AFE, part 0. -/
def regsAFE0 : List RegRow := [
  ⟨0x06000000, 32, [],
    [⟨0, 1, .ro, .hw, fun _ => 0⟩,
     ⟨1, 1, .rw, .img, fun _ => 0⟩]⟩,
  ⟨0x06000004, 32, [],
    [⟨0, 1, .w1c, .hw, fun _ => 0⟩,
     ⟨1, 1, .w1c, .hw, fun _ => 0⟩,
     ⟨2, 1, .w1c, .hw, fun _ => 0⟩,
     ⟨3, 1, .w1c, .hw, fun _ => 0⟩]⟩,
  ⟨0x06000008, 32, [],
    [⟨0, 8, .w1c, .hw, fun _ => 0⟩,
     ⟨8, 8, .w1c, .hw, fun _ => 0⟩,
     ⟨16, 1, .w1c, .hw, fun _ => 0⟩,
     ⟨17, 1, .w1c, .hw, fun _ => 0⟩,
     ⟨18, 1, .w1c, .hw, fun _ => 0⟩,
     ⟨19, 1, .w1c, .hw, fun _ => 0⟩]⟩,
  ⟨0x0600000C, 32, [],
    [⟨0, 14, .rw, .img, fun _ => 15624⟩]⟩,
  ⟨0x06000010, 32, [],
    [⟨0, 24, .rw, .img, fun _ => 16384⟩]⟩,
  ⟨0x06000014, 32, [],
    [⟨0, 24, .rw, .img, fun _ => 4096⟩]⟩,
  ⟨0x06000018, 32, [],
    [⟨0, 1, .ro, .hw, fun _ => 0⟩,
     ⟨1, 1, .ro, .hw, fun _ => 0⟩,
     ⟨2, 1, .ro, .hw, fun _ => 0⟩,
     ⟨16, 14, .ro, .hw, fun _ => 0⟩]⟩,
  ⟨0x0600001C, 32, [],
    [⟨0, 1, .wo, .hw, fun _ => 0⟩]⟩,
  ⟨0x06000020, 64, [],
    [⟨0, 40, .rw, .ret, fun _ => 0⟩]⟩,
  ⟨0x06000028, 64, [],
    [⟨0, 40, .ro, .hw, fun _ => 0⟩]⟩,
  ⟨0x06000030, 32, [],
    [⟨0, 1, .ro, .hw, fun _ => 0⟩,
     ⟨1, 1, .ro, .hw, fun _ => 0⟩,
     ⟨2, 1, .rw, .img, fun _ => 0⟩,
     ⟨3, 1, .rw, .img, fun _ => 0⟩,
     ⟨8, 1, .wo, .hw, fun _ => 0⟩,
     ⟨9, 1, .wo, .hw, fun _ => 0⟩,
     ⟨16, 1, .ro, .hw, fun _ => 0⟩,
     ⟨17, 1, .ro, .hw, fun _ => 0⟩]⟩,
  ⟨0x06000034, 32, [],
    [⟨0, 1, .wo, .hw, fun _ => 0⟩,
     ⟨1, 1, .rw, .hw, fun _ => 0⟩,
     ⟨2, 1, .rw, .hw, fun _ => 0⟩,
     ⟨8, 4, .rw, .hw, fun _ => 0⟩,
     ⟨16, 1, .ro, .hw, fun _ => 0⟩,
     ⟨17, 1, .w1c, .hw, fun _ => 0⟩,
     ⟨18, 1, .w1c, .hw, fun _ => 0⟩]⟩]

/-- Registers of block AFE, part 1. -/
def regsAFE1 : List RegRow := [
  ⟨0x06000038, 32, [],
    [⟨0, 1, .wo, .hw, fun _ => 0⟩,
     ⟨1, 1, .rw, .hw, fun _ => 0⟩,
     ⟨8, 5, .rw, .hw, fun _ => 18⟩,
     ⟨16, 1, .ro, .hw, fun _ => 0⟩,
     ⟨17, 1, .w1c, .hw, fun _ => 0⟩]⟩,
  ⟨0x06000040, 32, [(0, 4, 4)],
    [⟨0, 16, .ro, .cal, fun _ => 0⟩,
     ⟨16, 16, .ro, .cal, fun _ => 32768⟩]⟩,
  ⟨0x06000050, 32, [(0, 2, 4)],
    [⟨0, 8, .ro, .cal, fun _ => 0⟩]⟩,
  ⟨0x06000060, 64, [],
    [⟨0, 64, .ro, .hw, fun _ => 0⟩]⟩,
  ⟨0x06000068, 64, [],
    [⟨0, 64, .ro, .hw, fun _ => 0⟩]⟩,
  ⟨0x06000070, 64, [],
    [⟨0, 64, .ro, .hw, fun _ => 0⟩]⟩,
  ⟨0x06000078, 64, [],
    [⟨0, 64, .ro, .hw, fun _ => 0⟩]⟩,
  ⟨0x06000080, 64, [],
    [⟨0, 64, .ro, .hw, fun _ => 0⟩]⟩,
  ⟨0x06000100, 32, [(0, 2, 256)],
    [⟨0, 2, .rw, .img, fun _ => 0⟩,
     ⟨2, 2, .rw, .img, fun _ => 3⟩,
     ⟨4, 1, .rw, .img, fun _ => 0⟩,
     ⟨5, 1, .rw, .img, fun _ => 1⟩,
     ⟨6, 1, .rw, .img, fun _ => 0⟩,
     ⟨8, 2, .rw, .img, fun _ => 2⟩,
     ⟨10, 1, .rw, .img, fun _ => 0⟩,
     ⟨11, 2, .rw, .img, fun _ => 0⟩,
     ⟨16, 6, .rw, .img, fun _ => 2⟩]⟩,
  ⟨0x06000104, 32, [(0, 2, 256)],
    [⟨0, 21, .rw, .img, fun _ => 0⟩]⟩,
  ⟨0x06000108, 64, [(0, 2, 256)],
    [⟨0, 64, .ro, .hw, fun _ => 0⟩]⟩,
  ⟨0x06000110, 32, [(0, 2, 256)],
    [⟨0, 21, .rw, .img, fun _ => 0⟩,
     ⟨24, 4, .rw, .img, fun _ => 1⟩]⟩]

/-- Registers of block AFE, part 2. -/
def regsAFE2 : List RegRow := [
  ⟨0x06000114, 32, [(0, 2, 256)],
    [⟨0, 24, .rw, .img, fun _ => 32768⟩]⟩,
  ⟨0x06000118, 32, [(0, 2, 256)],
    [⟨0, 28, .rw, .img, fun _ => 250000⟩]⟩,
  ⟨0x0600011C, 32, [(0, 2, 256)],
    [⟨0, 24, .rw, .img, fun _ => 24414⟩]⟩,
  ⟨0x06000120, 32, [(0, 2, 256)],
    [⟨0, 16, .rw, .img, fun _ => 8192⟩,
     ⟨16, 16, .rw, .img, fun _ => 24576⟩]⟩,
  ⟨0x06000124, 32, [(0, 2, 256)],
    [⟨0, 16, .rw, .img, fun _ => 64⟩]⟩,
  ⟨0x06000128, 32, [(0, 2, 256)],
    [⟨0, 24, .rw, .img, fun _ => 4398047⟩]⟩,
  ⟨0x06000130, 32, [(0, 2, 256)],
    [⟨0, 22, .rw, .ret, fun _ => 0⟩]⟩,
  ⟨0x06000134, 32, [(0, 2, 256)],
    [⟨0, 22, .rw, .ret, fun _ => 0⟩]⟩,
  ⟨0x06000138, 32, [(0, 2, 256)],
    [⟨0, 16, .rw, .ret, fun _ => 32768⟩,
     ⟨16, 16, .rw, .ret, fun _ => 32768⟩]⟩,
  ⟨0x0600013C, 32, [(0, 2, 256)],
    [⟨0, 16, .rw, .ret, fun _ => 32768⟩,
     ⟨16, 16, .rw, .ret, fun _ => 0⟩]⟩,
  ⟨0x06000140, 32, [(0, 2, 256)],
    [⟨0, 1, .ro, .hw, fun _ => 0⟩,
     ⟨1, 1, .ro, .hw, fun _ => 0⟩,
     ⟨2, 1, .ro, .hw, fun _ => 0⟩,
     ⟨3, 1, .ro, .hw, fun _ => 0⟩,
     ⟨4, 1, .ro, .hw, fun _ => 0⟩,
     ⟨16, 16, .ro, .hw, fun _ => 0⟩]⟩,
  ⟨0x06000144, 32, [(0, 2, 256)],
    [⟨0, 16, .rc, .hw, fun _ => 0⟩,
     ⟨16, 16, .rc, .hw, fun _ => 0⟩]⟩]

/-- Registers of block AFE, part 3. -/
def regsAFE3 : List RegRow := [
  ⟨0x06000148, 64, [(0, 2, 256)],
    [⟨0, 40, .ro, .hw, fun _ => 0⟩]⟩,
  ⟨0x06000150, 32, [(0, 2, 256)],
    [⟨0, 25, .ro, .hw, fun _ => 0⟩]⟩,
  ⟨0x06000154, 32, [(0, 2, 256)],
    [⟨0, 25, .ro, .hw, fun _ => 0⟩]⟩,
  ⟨0x06000158, 64, [(0, 2, 256)],
    [⟨0, 41, .ro, .hw, fun _ => 0⟩]⟩,
  ⟨0x06000160, 64, [(0, 2, 256)],
    [⟨0, 64, .ro, .hw, fun _ => 0⟩]⟩,
  ⟨0x06000168, 32, [(0, 2, 256)],
    [⟨0, 21, .ro, .hw, fun _ => 0⟩]⟩]

/-- Registers of block QUE, part 0. -/
def regsQUE0 : List RegRow := [
  ⟨0x06010000, 32, [],
    [⟨0, 4, .wo, .hw, fun _ => 0⟩,
     ⟨8, 8, .wo, .hw, fun _ => 0⟩,
     ⟨16, 16, .wo, .hw, fun _ => 0⟩]⟩,
  ⟨0x06010004, 32, [],
    [⟨0, 8, .ro, .hw, fun _ => 0⟩,
     ⟨8, 1, .ro, .hw, fun _ => 0⟩,
     ⟨16, 16, .ro, .hw, fun _ => 0⟩]⟩,
  ⟨0x06010008, 32, [],
    [⟨0, 18, .rw, .hw, fun _ => 0⟩,
     ⟨24, 5, .rw, .hw, fun _ => 0⟩]⟩,
  ⟨0x0601000C, 32, [],
    [⟨2, 2, .rw, .hw, fun _ => 0⟩,
     ⟨4, 1, .rw, .hw, fun _ => 0⟩,
     ⟨8, 6, .rw, .hw, fun _ => 0⟩,
     ⟨14, 2, .rw, .hw, fun _ => 0⟩,
     ⟨16, 6, .rw, .hw, fun _ => 0⟩,
     ⟨24, 4, .rw, .hw, fun _ => 0⟩]⟩,
  ⟨0x06010010, 32, [(0, 4, 4)],
    [⟨0, 32, .rw, .hw, fun _ => 0⟩]⟩,
  ⟨0x06010020, 32, [],
    [⟨0, 1, .w1c, .hw, fun _ => 0⟩,
     ⟨1, 1, .w1c, .hw, fun _ => 0⟩,
     ⟨2, 1, .w1c, .hw, fun _ => 0⟩,
     ⟨3, 1, .w1c, .hw, fun _ => 0⟩,
     ⟨4, 1, .w1c, .hw, fun _ => 0⟩,
     ⟨5, 1, .w1c, .hw, fun _ => 0⟩,
     ⟨6, 1, .w1c, .hw, fun _ => 0⟩]⟩,
  ⟨0x06010028, 64, [],
    [⟨0, 16, .rc, .hw, fun _ => 0⟩,
     ⟨16, 4, .rc, .hw, fun _ => 0⟩,
     ⟨31, 1, .rc, .hw, fun _ => 0⟩,
     ⟨32, 16, .rc, .hw, fun _ => 0⟩]⟩,
  ⟨0x06010030, 64, [],
    [⟨0, 64, .rw, .hw, fun _ => 18446744073709551615⟩]⟩,
  ⟨0x06010040, 32, [(1, 10, 4)],
    [⟨0, 32, .rc, .hw, fun _ => 0⟩]⟩,
  ⟨0x06010100, 32, [(0, 3, 32), (0, 4, 4)],
    [⟨0, 32, .rw, .hw, fun _ => 0⟩]⟩,
  ⟨0x06010110, 32, [(0, 3, 32)],
    [⟨0, 16, .wo, .hw, fun _ => 0⟩,
     ⟨16, 2, .wo, .hw, fun _ => 0⟩]⟩,
  ⟨0x06010114, 32, [(0, 3, 32)],
    [⟨0, 8, .ro, .hw, fun _ => 0⟩,
     ⟨8, 1, .ro, .hw, fun _ => 0⟩,
     ⟨16, 16, .ro, .hw, fun _ => 0⟩]⟩]

/-- Registers of block QUE, part 1. -/
def regsQUE1 : List RegRow := [
  ⟨0x06011000, 32, [(0, 256, 4)],
    [⟨0, 16, .rw, .hw, fun _ => 0⟩,
     ⟨16, 16, .ro, .hw, fun _ => 0⟩]⟩,
  ⟨0x06012000, 32, [(0, 64, 16)],
    [⟨0, 18, .rw, .hw, fun _ => 0⟩,
     ⟨24, 5, .rw, .hw, fun _ => 0⟩,
     ⟨31, 1, .rw, .hw, fun _ => 0⟩]⟩,
  ⟨0x06012004, 32, [(0, 64, 16)],
    [⟨0, 16, .ro, .hw, fun _ => 0⟩]⟩,
  ⟨0x06012008, 32, [(0, 64, 16)],
    [⟨0, 16, .rw, .hw, fun _ => 0⟩,
     ⟨16, 16, .rw, .img, fun _ => 1⟩]⟩,
  ⟨0x0601200C, 32, [(0, 64, 16)],
    [⟨0, 16, .rc, .hw, fun _ => 0⟩]⟩,
  ⟨0x06013000, 32, [(0, 64, 16), (0, 4, 4)],
    [⟨0, 32, .ro, .hw, fun _ => 0⟩]⟩]

/-- Registers of block NIB, part 0. -/
def regsNIB0 : List RegRow := [
  ⟨0x06020000, 32, [],
    [⟨0, 1, .rw, .img, fun _ => 1⟩]⟩,
  ⟨0x06020004, 32, [],
    [⟨0, 1, .ro, .hw, fun _ => 0⟩,
     ⟨1, 1, .w1c, .hw, fun _ => 0⟩,
     ⟨2, 1, .ro, .hw, fun _ => 0⟩,
     ⟨16, 11, .ro, .hw, fun _ => 0⟩]⟩,
  ⟨0x06020008, 32, [],
    [⟨0, 20, .rw, .img, fun _ => 250000⟩]⟩,
  ⟨0x0602000C, 32, [],
    [⟨0, 16, .rw, .img, fun _ => 73⟩]⟩,
  ⟨0x06020010, 32, [],
    [⟨0, 24, .rw, .img, fun _ => 65536⟩]⟩,
  ⟨0x06020014, 32, [],
    [⟨0, 1, .w1c, .hw, fun _ => 0⟩,
     ⟨1, 1, .w1c, .hw, fun _ => 0⟩,
     ⟨2, 1, .w1c, .hw, fun _ => 0⟩]⟩,
  ⟨0x06020018, 32, [],
    [⟨0, 32, .ro, .hw, fun _ => 0⟩]⟩,
  ⟨0x06020100, 64, [(0, 16, 8)],
    [⟨0, 64, .ro, .hw, fun _ => 0⟩]⟩,
  ⟨0x06020180, 32, [],
    [⟨0, 24, .rc, .hw, fun _ => 0⟩]⟩,
  ⟨0x06020184, 32, [],
    [⟨0, 11, .rc, .hw, fun _ => 0⟩]⟩,
  ⟨0x06020188, 64, [],
    [⟨0, 64, .ro, .hw, fun _ => 0⟩]⟩,
  ⟨0x06021000, 32, [(0, 256, 16)],
    [⟨0, 24, .rw, .ret, fun _ => 0⟩]⟩]

/-- Registers of block NIB, part 1. -/
def regsNIB1 : List RegRow := [
  ⟨0x06021004, 32, [(0, 256, 16)],
    [⟨0, 32, .rw, .ret, fun _ => 0⟩]⟩,
  ⟨0x06021008, 32, [(0, 256, 16)],
    [⟨0, 1, .rw, .ret, fun _ => 0⟩,
     ⟨1, 1, .rw, .ret, fun _ => 0⟩,
     ⟨2, 1, .wo, .hw, fun _ => 0⟩,
     ⟨4, 4, .rw, .ret, fun _ => 4⟩,
     ⟨8, 24, .rw, .ret, fun _ => 16000⟩]⟩,
  ⟨0x0602100C, 32, [(0, 256, 16)],
    [⟨0, 1, .ro, .ret, fun _ => 0⟩,
     ⟨16, 16, .rc, .hw, fun _ => 0⟩]⟩]

/-- Registers of block CHN, part 0. -/
def regsCHN0 : List RegRow := [
  ⟨0x06020200, 32, [],
    [⟨0, 1, .w1c, .hw, fun _ => 0⟩,
     ⟨1, 1, .w1c, .hw, fun _ => 0⟩,
     ⟨2, 1, .w1c, .hw, fun _ => 0⟩,
     ⟨3, 1, .w1c, .hw, fun _ => 0⟩]⟩,
  ⟨0x06020204, 32, [],
    [⟨0, 32, .w1c, .hw, fun _ => 0⟩]⟩,
  ⟨0x06020210, 64, [(0, 6, 8)],
    [⟨0, 64, .ro, .hw, fun _ => 0⟩]⟩,
  ⟨0x0602A800, 32, [(0, 512, 4)],
    [⟨0, 9, .rw, .img, (fun a => (a - 0x0602A800) / 4)⟩,
     ⟨9, 1, .rw, .img, fun _ => 0⟩,
     ⟨12, 5, .rw, .img, fun _ => 0⟩,
     ⟨17, 1, .rw, .img, fun _ => 0⟩,
     ⟨24, 1, .ro, .hw, fun _ => 0⟩,
     ⟨25, 1, .ro, .hw, fun _ => 0⟩,
     ⟨26, 2, .ro, .hw, fun _ => 0⟩]⟩,
  ⟨0x0602B000, 32, [(0, 32, 16)],
    [⟨0, 9, .rw, .img, fun _ => 0⟩,
     ⟨16, 9, .rw, .img, fun _ => 0⟩]⟩,
  ⟨0x0602B004, 32, [(0, 32, 16)],
    [⟨0, 9, .rw, .img, fun _ => 0⟩,
     ⟨16, 9, .rw, .img, fun _ => 0⟩,
     ⟨31, 1, .rw, .img, fun _ => 0⟩]⟩,
  ⟨0x0602B008, 32, [(0, 32, 16)],
    [⟨0, 9, .rw, .img, fun _ => 0⟩,
     ⟨12, 2, .rw, .img, fun _ => 0⟩,
     ⟨16, 6, .rw, .img, fun _ => 0⟩,
     ⟨24, 8, .rw, .img, fun _ => 4⟩]⟩,
  ⟨0x0602B00C, 32, [(0, 32, 16)],
    [⟨0, 16, .rw, .img, fun _ => 1250⟩,
     ⟨16, 5, .rw, .img, fun _ => 0⟩,
     ⟨21, 1, .rw, .img, fun _ => 0⟩,
     ⟨22, 6, .rw, .img, fun _ => 4⟩,
     ⟨28, 1, .ro, .hw, fun _ => 0⟩]⟩,
  ⟨0x0602B200, 32, [(0, 32, 16)],
    [⟨0, 9, .rw, .img, fun _ => 0⟩,
     ⟨9, 1, .rw, .img, fun _ => 0⟩,
     ⟨10, 1, .rw, .img, fun _ => 0⟩,
     ⟨11, 1, .rw, .img, fun _ => 1⟩,
     ⟨12, 6, .rw, .img, fun _ => 2⟩]⟩,
  ⟨0x0602B204, 32, [(0, 32, 16)],
    [⟨0, 16, .rw, .img, fun _ => 0⟩,
     ⟨16, 16, .rw, .img, fun _ => 39063⟩]⟩,
  ⟨0x0602B208, 32, [(0, 32, 16)],
    [⟨0, 16, .rc, .hw, fun _ => 0⟩,
     ⟨16, 16, .rc, .hw, fun _ => 0⟩]⟩,
  ⟨0x0602B20C, 32, [(0, 32, 16)],
    [⟨0, 24, .ro, .hw, fun _ => 0⟩,
     ⟨31, 1, .ro, .hw, fun _ => 0⟩]⟩]

/-- Registers of block SCR, part 0. -/
def regsSCR0 : List RegRow := [
  ⟨0x06030000, 32, [],
    [⟨0, 1, .w1c, .hw, fun _ => 0⟩,
     ⟨8, 8, .ro, .hw, fun _ => 0⟩]⟩,
  ⟨0x06030004, 32, [],
    [⟨0, 3, .rw, .hw, fun _ => 0⟩,
     ⟨4, 1, .rw, .hw, fun _ => 0⟩,
     ⟨5, 1, .rw, .hw, fun _ => 0⟩]⟩,
  ⟨0x06030100, 32, [(0, 8, 64)],
    [⟨0, 4, .wo, .hw, fun _ => 0⟩]⟩,
  ⟨0x06030104, 32, [(0, 8, 64)],
    [⟨0, 3, .ro, .hw, fun _ => 0⟩,
     ⟨3, 1, .ro, .hw, fun _ => 0⟩,
     ⟨4, 1, .ro, .hw, fun _ => 0⟩,
     ⟨5, 1, .ro, .hw, fun _ => 0⟩,
     ⟨8, 8, .ro, .hw, fun _ => 0⟩,
     ⟨16, 1, .w1c, .hw, fun _ => 0⟩,
     ⟨17, 1, .w1c, .hw, fun _ => 0⟩,
     ⟨18, 1, .w1c, .hw, fun _ => 0⟩,
     ⟨20, 2, .ro, .hw, fun _ => 0⟩,
     ⟨24, 3, .ro, .hw, fun _ => 0⟩]⟩,
  ⟨0x06030108, 32, [(0, 8, 64)],
    [⟨0, 1, .rw, .img, fun _ => 0⟩,
     ⟨2, 30, .rw, .img, fun _ => 0⟩]⟩,
  ⟨0x0603010C, 32, [(0, 8, 64)],
    [⟨0, 32, .ro, .hw, fun _ => 0⟩]⟩,
  ⟨0x06030110, 32, [(0, 8, 64)],
    [⟨0, 3, .ro, .hw, fun _ => 0⟩,
     ⟨16, 16, .rc, .hw, fun _ => 0⟩]⟩,
  ⟨0x06030114, 32, [(0, 8, 64)],
    [⟨0, 32, .ro, .hw, fun _ => 0⟩]⟩,
  ⟨0x06030118, 32, [(0, 8, 64)],
    [⟨0, 32, .ro, .hw, fun _ => 0⟩]⟩,
  ⟨0x0603011C, 32, [(0, 8, 64)],
    [⟨0, 16, .wo, .hw, fun _ => 0⟩,
     ⟨16, 16, .ro, .hw, fun _ => 0⟩]⟩,
  ⟨0x06030120, 32, [(0, 8, 64)],
    [⟨0, 4, .w1c, .hw, fun _ => 0⟩]⟩,
  ⟨0x06030124, 32, [(0, 8, 64)],
    [⟨0, 16, .rc, .hw, fun _ => 0⟩,
     ⟨16, 16, .rc, .hw, fun _ => 0⟩]⟩]

/-- Registers of block SCR, part 1. -/
def regsSCR1 : List RegRow := [
  ⟨0x06030128, 64, [(0, 8, 64)],
    [⟨0, 64, .ro, .hw, fun _ => 0⟩]⟩,
  ⟨0x06030400, 32, [],
    [⟨0, 3, .rw, .hw, fun _ => 0⟩,
     ⟨8, 1, .wo, .hw, fun _ => 0⟩,
     ⟨9, 1, .wo, .hw, fun _ => 0⟩,
     ⟨10, 1, .wo, .hw, fun _ => 0⟩,
     ⟨16, 1, .rw, .hw, fun _ => 0⟩,
     ⟨17, 1, .rw, .hw, fun _ => 0⟩]⟩,
  ⟨0x06030404, 32, [],
    [⟨0, 8, .ro, .hw, fun _ => 0⟩,
     ⟨8, 1, .ro, .hw, fun _ => 0⟩,
     ⟨9, 1, .w1c, .hw, fun _ => 0⟩,
     ⟨10, 1, .w1c, .hw, fun _ => 0⟩]⟩,
  ⟨0x06030408, 32, [(0, 2, 4)],
    [⟨2, 30, .rw, .hw, fun _ => 0⟩]⟩,
  ⟨0x06030410, 32, [],
    [⟨0, 16, .rw, .hw, fun _ => 0⟩]⟩,
  ⟨0x06030414, 32, [],
    [⟨0, 32, .rw, .hw, fun _ => 0⟩]⟩]

/-- Registers of block FAB, part 0. -/
def regsFAB0 : List RegRow := [
  ⟨0x06040000, 32, [],
    [⟨0, 1, .w1c, .hw, fun _ => 0⟩,
     ⟨1, 1, .w1c, .hw, fun _ => 0⟩,
     ⟨2, 1, .w1c, .hw, fun _ => 0⟩,
     ⟨3, 1, .w1c, .hw, fun _ => 0⟩,
     ⟨4, 1, .w1c, .hw, fun _ => 0⟩,
     ⟨5, 1, .ro, .hw, fun _ => 0⟩,
     ⟨6, 1, .ro, .hw, fun _ => 0⟩]⟩,
  ⟨0x06040004, 32, [],
    [⟨0, 24, .ro, .hw, fun _ => 0⟩,
     ⟨24, 2, .ro, .img, fun _ => 3⟩,
     ⟨28, 4, .ro, .hw, fun _ => 0⟩]⟩,
  ⟨0x06040008, 64, [],
    [⟨0, 12, .ro, .hw, fun _ => 0⟩,
     ⟨12, 5, .ro, .hw, fun _ => 0⟩,
     ⟨17, 5, .ro, .hw, fun _ => 0⟩,
     ⟨31, 1, .w1c, .hw, fun _ => 0⟩,
     ⟨32, 32, .ro, .hw, fun _ => 0⟩]⟩,
  ⟨0x06040010, 32, [],
    [⟨0, 32, .rc, .hw, fun _ => 0⟩]⟩,
  ⟨0x06040014, 32, [],
    [⟨0, 16, .rc, .hw, fun _ => 0⟩,
     ⟨16, 16, .rc, .hw, fun _ => 0⟩]⟩,
  ⟨0x06040020, 32, [],
    [⟨0, 1, .rw, .hw, fun _ => 0⟩,
     ⟨4, 5, .rw, .hw, fun _ => 0⟩,
     ⟨16, 8, .ro, .hw, fun _ => 0⟩]⟩,
  ⟨0x06040100, 32, [(0, 48, 4)],
    [⟨0, 32, .w1c, .hw, fun _ => 0⟩]⟩,
  ⟨0x06040200, 32, [(0, 48, 4)],
    [⟨0, 32, .w1c, .hw, fun _ => 0⟩]⟩,
  ⟨0x06040400, 32, [(0, 64, 4)],
    [⟨0, 20, .rw, .hw, fun _ => 0⟩,
     ⟨20, 3, .rw, .hw, fun _ => 0⟩,
     ⟨23, 9, .rw, .hw, fun _ => 0⟩]⟩,
  ⟨0x06041000, 32, [(0, 512, 4)],
    [⟨0, 2, .rw, .img, fun _ => 0⟩,
     ⟨2, 2, .rw, .img, fun _ => 1⟩,
     ⟨4, 2, .rw, .img, fun _ => 0⟩,
     ⟨6, 1, .rw, .img, fun _ => 1⟩,
     ⟨7, 1, .rw, .img, fun _ => 1⟩,
     ⟨8, 1, .ro, .img, fun _ => 0⟩,
     ⟨9, 1, .ro, .hw, fun _ => 0⟩,
     ⟨10, 1, .ro, .hw, fun _ => 0⟩,
     ⟨12, 4, .ro, .hw, (fun a => pinBank ((a - 0x06041000) / 4))⟩,
     ⟨16, 2, .ro, .img, (fun _ => 2)⟩]⟩]

/-- Registers of block CFG, part 0. -/
def regsCFG0 : List RegRow := [
  ⟨0x06050000, 32, [],
    [⟨0, 4, .wo, .hw, fun _ => 0⟩,
     ⟨4, 1, .wo, .hw, fun _ => 0⟩,
     ⟨8, 5, .wo, .hw, fun _ => 0⟩,
     ⟨16, 5, .wo, .hw, fun _ => 0⟩]⟩,
  ⟨0x06050004, 32, [],
    [⟨0, 8, .ro, .ret, fun _ => 0⟩,
     ⟨8, 1, .ro, .hw, fun _ => 0⟩,
     ⟨9, 3, .ro, .hw, fun _ => 0⟩,
     ⟨12, 4, .ro, .ret, fun _ => 0⟩,
     ⟨16, 16, .ro, .hw, fun _ => 0⟩]⟩,
  ⟨0x06050008, 32, [],
    [⟨0, 25, .rw, .hw, fun _ => 0⟩]⟩,
  ⟨0x0605000C, 32, [],
    [⟨0, 1, .ro, .hw, fun _ => 0⟩,
     ⟨1, 1, .ro, .hw, fun _ => 0⟩,
     ⟨2, 1, .ro, .hw, fun _ => 0⟩,
     ⟨3, 1, .ro, .hw, fun _ => 0⟩,
     ⟨4, 1, .ro, .hw, fun _ => 0⟩,
     ⟨5, 1, .w1c, .ret, fun _ => 0⟩,
     ⟨6, 1, .w1c, .hw, fun _ => 0⟩,
     ⟨7, 1, .w1c, .hw, fun _ => 0⟩,
     ⟨8, 1, .w1c, .hw, fun _ => 0⟩]⟩,
  ⟨0x06050010, 32, [],
    [⟨0, 32, .ro, .hw, fun _ => 0⟩]⟩,
  ⟨0x06050020, 64, [(0, 2, 8)],
    [⟨0, 1, .ro, .hw, fun _ => 0⟩,
     ⟨1, 1, .ro, .hw, fun _ => 0⟩,
     ⟨2, 1, .ro, .hw, fun _ => 0⟩,
     ⟨3, 1, .ro, .hw, fun _ => 0⟩,
     ⟨32, 32, .ro, .hw, fun _ => 0⟩]⟩,
  ⟨0x06050030, 32, [],
    [⟨0, 4, .rw, .img, fun _ => 8⟩]⟩,
  ⟨0x06050040, 32, [(0, 8, 4)],
    [⟨0, 32, .ro, .hw, fun _ => 0⟩]⟩,
  ⟨0x06050060, 64, [],
    [⟨0, 32, .rc, .hw, fun _ => 0⟩,
     ⟨32, 16, .rc, .hw, fun _ => 0⟩,
     ⟨48, 16, .rc, .hw, fun _ => 0⟩]⟩,
  ⟨0x06050068, 64, [],
    [⟨0, 5, .ro, .hw, fun _ => 0⟩,
     ⟨5, 1, .ro, .hw, fun _ => 0⟩,
     ⟨6, 13, .ro, .hw, fun _ => 0⟩,
     ⟨19, 2, .ro, .hw, fun _ => 0⟩,
     ⟨31, 1, .w1c, .hw, fun _ => 0⟩,
     ⟨32, 32, .ro, .hw, fun _ => 0⟩]⟩,
  ⟨0x06050070, 32, [],
    [⟨0, 32, .ro, .hw, fun _ => 0⟩]⟩,
  ⟨0x06050100, 64, [(0, 32, 8)],
    [⟨0, 1, .ro, .hw, fun _ => 0⟩,
     ⟨1, 1, .ro, .hw, fun _ => 0⟩,
     ⟨2, 1, .ro, .hw, fun _ => 0⟩,
     ⟨3, 5, .ro, .hw, fun _ => 0⟩,
     ⟨8, 2, .ro, .hw, fun _ => 0⟩,
     ⟨10, 1, .ro, .hw, fun _ => 0⟩,
     ⟨11, 1, .ro, .hw, fun _ => 0⟩,
     ⟨12, 5, .ro, .hw, fun _ => 0⟩,
     ⟨17, 11, .ro, .hw, fun _ => 0⟩,
     ⟨32, 16, .ro, .hw, fun _ => 0⟩,
     ⟨48, 16, .ro, .hw, fun _ => 0⟩]⟩]

/-- Registers of block MEM, part 0. -/
def regsMEM0 : List RegRow := [
  ⟨0x06060000, 32, [],
    [⟨0, 1, .w1c, .hw, fun _ => 0⟩,
     ⟨1, 1, .w1c, .hw, fun _ => 0⟩,
     ⟨2, 1, .w1c, .hw, fun _ => 0⟩,
     ⟨3, 1, .w1c, .hw, fun _ => 0⟩,
     ⟨4, 1, .w1c, .hw, fun _ => 0⟩,
     ⟨5, 1, .w1c, .hw, fun _ => 0⟩,
     ⟨6, 1, .w1c, .hw, fun _ => 0⟩,
     ⟨7, 1, .w1c, .hw, fun _ => 0⟩,
     ⟨8, 1, .w1c, .hw, fun _ => 0⟩,
     ⟨9, 1, .w1c, .hw, fun _ => 0⟩]⟩,
  ⟨0x06060004, 32, [],
    [⟨0, 4, .rw, .img, fun _ => 3⟩,
     ⟨4, 1, .rw, .img, fun _ => 1⟩]⟩,
  ⟨0x06060008, 64, [],
    [⟨0, 32, .ro, .hw, fun _ => 0⟩,
     ⟨32, 4, .ro, .hw, fun _ => 0⟩,
     ⟨36, 3, .ro, .hw, fun _ => 0⟩,
     ⟨40, 8, .ro, .hw, fun _ => 0⟩,
     ⟨63, 1, .w1c, .hw, fun _ => 0⟩]⟩,
  ⟨0x06060010, 64, [],
    [⟨0, 64, .ro, .hw, fun _ => 0⟩]⟩,
  ⟨0x06060018, 64, [],
    [⟨0, 11, .ro, .hw, fun _ => 0⟩,
     ⟨11, 9, .ro, .hw, fun _ => 0⟩,
     ⟨31, 1, .w1c, .hw, fun _ => 0⟩,
     ⟨32, 32, .ro, .hw, fun _ => 0⟩]⟩,
  ⟨0x06060020, 32, [],
    [⟨0, 32, .rc, .hw, fun _ => 0⟩]⟩,
  ⟨0x06060024, 32, [],
    [⟨0, 16, .ro, .hw, fun _ => 0⟩,
     ⟨16, 1, .ro, .hw, fun _ => 0⟩,
     ⟨17, 1, .ro, .hw, fun _ => 0⟩]⟩,
  ⟨0x06060028, 32, [],
    [⟨0, 16, .w1c, .hw, fun _ => 0⟩]⟩,
  ⟨0x06060030, 64, [],
    [⟨0, 32, .rw, .hw, fun _ => 0⟩,
     ⟨32, 4, .rw, .hw, fun _ => 0⟩,
     ⟨40, 8, .rw, .hw, fun _ => 0⟩,
     ⟨62, 1, .wo, .hw, fun _ => 0⟩,
     ⟨63, 1, .rw, .hw, fun _ => 0⟩]⟩,
  ⟨0x06060100, 64, [(0, 16, 8)],
    [⟨0, 32, .rc, .hw, fun _ => 0⟩,
     ⟨32, 16, .rc, .hw, fun _ => 0⟩,
     ⟨48, 16, .rc, .hw, fun _ => 0⟩]⟩,
  ⟨0x06060200, 32, [(0, 8, 4)],
    [⟨0, 8, .rw, .img, fun _ => 1⟩,
     ⟨8, 1, .ro, .hw, fun _ => 0⟩]⟩,
  ⟨0x06060300, 32, [(0, 8, 16), (0, 4, 4)],
    [⟨0, 18, .rw, .ret, fun _ => 0⟩,
     ⟨30, 1, .ro, .hw, fun _ => 0⟩,
     ⟨31, 1, .rw, .ret, fun _ => 0⟩]⟩]

/-- Registers of block MEM, part 1. -/
def regsMEM1 : List RegRow := [
  ⟨0x06060400, 32, [(0, 4, 8), (0, 2, 4)],
    [⟨0, 16, .rw, .ret, fun _ => 0⟩,
     ⟨30, 1, .ro, .hw, fun _ => 0⟩,
     ⟨31, 1, .rw, .ret, fun _ => 0⟩]⟩]

/-- Registers of block XMC, part 0. -/
def regsXMC0 : List RegRow := [
  ⟨0x06070000, 32, [],
    [⟨0, 2, .rw, .img, fun _ => 0⟩,
     ⟨2, 1, .rw, .img, fun _ => 1⟩,
     ⟨4, 2, .rw, .img, fun _ => 3⟩]⟩,
  ⟨0x06070004, 32, [],
    [⟨0, 1, .wo, .hw, fun _ => 0⟩,
     ⟨1, 1, .rw, .hw, fun _ => 0⟩,
     ⟨2, 1, .rw, .img, fun _ => 0⟩,
     ⟨3, 1, .rw, .img, fun _ => 1⟩]⟩,
  ⟨0x06070008, 32, [],
    [⟨0, 3, .ro, .hw, fun _ => 0⟩,
     ⟨3, 1, .ro, .hw, fun _ => 0⟩,
     ⟨4, 1, .w1c, .hw, fun _ => 0⟩,
     ⟨8, 8, .ro, .hw, fun _ => 0⟩,
     ⟨16, 1, .ro, .hw, fun _ => 0⟩,
     ⟨24, 8, .ro, .hw, fun _ => 0⟩]⟩,
  ⟨0x0607000C, 32, [],
    [⟨0, 4, .wo, .hw, fun _ => 0⟩,
     ⟨8, 1, .wo, .hw, fun _ => 0⟩,
     ⟨16, 5, .wo, .hw, fun _ => 0⟩]⟩,
  ⟨0x06070010, 64, [],
    [⟨6, 34, .rw, .hw, fun _ => 0⟩]⟩,
  ⟨0x06070018, 32, [],
    [⟨0, 31, .rw, .hw, fun _ => 0⟩]⟩,
  ⟨0x06070020, 64, [],
    [⟨0, 64, .rw, .hw, fun _ => 0⟩]⟩,
  ⟨0x06070028, 32, [],
    [⟨0, 16, .rw, .img, fun _ => 256⟩]⟩,
  ⟨0x06070030, 32, [(0, 2, 4)],
    [⟨0, 5, .ro, .ret, fun _ => 0⟩,
     ⟨6, 1, .ro, .ret, fun _ => 0⟩,
     ⟨7, 1, .ro, .ret, fun _ => 0⟩]⟩,
  ⟨0x06070040, 64, [],
    [⟨0, 32, .rc, .hw, fun _ => 0⟩,
     ⟨32, 16, .rc, .hw, fun _ => 0⟩,
     ⟨48, 16, .rc, .hw, fun _ => 0⟩]⟩,
  ⟨0x06070048, 64, [],
    [⟨5, 35, .ro, .hw, fun _ => 0⟩,
     ⟨40, 5, .ro, .hw, fun _ => 0⟩,
     ⟨45, 3, .ro, .hw, fun _ => 0⟩,
     ⟨48, 8, .ro, .hw, fun _ => 0⟩,
     ⟨63, 1, .w1c, .hw, fun _ => 0⟩]⟩,
  ⟨0x06070050, 64, [],
    [⟨6, 34, .ro, .hw, fun _ => 0⟩,
     ⟨48, 16, .ro, .hw, fun _ => 0⟩]⟩]

/-- Registers of block XMC, part 1. -/
def regsXMC1 : List RegRow := [
  ⟨0x06070058, 32, [],
    [⟨0, 16, .rc, .hw, fun _ => 0⟩,
     ⟨16, 16, .rc, .hw, fun _ => 0⟩]⟩,
  ⟨0x06070060, 64, [],
    [⟨6, 34, .rw, .hw, fun _ => 0⟩,
     ⟨40, 5, .rw, .hw, fun _ => 0⟩,
     ⟨45, 5, .rw, .hw, fun _ => 0⟩,
     ⟨50, 1, .rw, .hw, fun _ => 0⟩,
     ⟨62, 1, .wo, .hw, fun _ => 0⟩,
     ⟨63, 1, .rw, .hw, fun _ => 0⟩]⟩,
  ⟨0x06070100, 32, [(0, 2, 128), (0, 18, 4)],
    [⟨0, 16, .rc, .hw, fun _ => 0⟩,
     ⟨16, 16, .ro, .hw, fun _ => 0⟩]⟩,
  ⟨0x06070200, 64, [(0, 16, 8)],
    [⟨6, 34, .rw, .ret, fun _ => 0⟩,
     ⟨62, 1, .ro, .hw, fun _ => 0⟩,
     ⟨63, 1, .rw, .ret, fun _ => 0⟩]⟩]

/-- Registers of block DMA, part 0. -/
def regsDMA0 : List RegRow := [
  ⟨0x060F0000, 32, [(0, 32, 64), (0, 8, 4)],
    [⟨0, 32, .rw, .hw, fun _ => 0⟩]⟩,
  ⟨0x060F0020, 32, [(0, 32, 64)],
    [⟨0, 2, .wo, .hw, fun _ => 0⟩]⟩,
  ⟨0x060F0024, 32, [(0, 32, 64)],
    [⟨0, 2, .ro, .hw, fun _ => 0⟩,
     ⟨2, 3, .ro, .hw, fun _ => 0⟩,
     ⟨8, 8, .ro, .hw, fun _ => 0⟩,
     ⟨16, 16, .ro, .hw, fun _ => 0⟩]⟩,
  ⟨0x060F0028, 32, [(0, 32, 64)],
    [⟨0, 28, .ro, .hw, fun _ => 0⟩]⟩,
  ⟨0x060F0030, 64, [(0, 32, 64)],
    [⟨0, 40, .ro, .hw, fun _ => 0⟩,
     ⟨40, 1, .ro, .hw, fun _ => 0⟩]⟩,
  ⟨0x060F0800, 32, [],
    [⟨0, 32, .ro, .hw, fun _ => 0⟩]⟩]

/-- Registers of block UFL, part 0. -/
def regsUFL0 : List RegRow := [
  ⟨0x06080000, 32, [],
    [⟨0, 4, .wo, .hw, fun _ => 0⟩]⟩,
  ⟨0x06080004, 32, [],
    [⟨0, 8, .ro, .ret, fun _ => 0⟩,
     ⟨8, 1, .ro, .hw, fun _ => 0⟩,
     ⟨9, 1, .ro, .hw, fun _ => 0⟩,
     ⟨12, 4, .ro, .ret, fun _ => 0⟩]⟩,
  ⟨0x06080008, 32, [],
    [⟨0, 25, .rw, .hw, fun _ => 0⟩]⟩,
  ⟨0x0608000C, 32, [],
    [⟨0, 1, .w1c, .hw, fun _ => 0⟩,
     ⟨1, 1, .w1c, .hw, fun _ => 0⟩,
     ⟨2, 1, .w1c, .hw, fun _ => 0⟩,
     ⟨3, 1, .w1c, .hw, fun _ => 0⟩,
     ⟨4, 1, .w1c, .hw, fun _ => 0⟩,
     ⟨5, 1, .w1c, .hw, fun _ => 0⟩,
     ⟨6, 1, .w1c, .hw, fun _ => 0⟩,
     ⟨7, 1, .ro, .hw, fun _ => 0⟩,
     ⟨8, 1, .ro, .hw, fun _ => 0⟩,
     ⟨9, 1, .ro, .hw, fun _ => 0⟩]⟩,
  ⟨0x06080010, 32, [],
    [⟨0, 7, .ro, .hw, fun _ => 0⟩,
     ⟨31, 1, .ro, .hw, fun _ => 0⟩]⟩,
  ⟨0x06080014, 32, [],
    [⟨0, 32, .rc, .hw, fun _ => 0⟩]⟩,
  ⟨0x06080018, 64, [],
    [⟨0, 32, .rc, .hw, fun _ => 0⟩,
     ⟨32, 16, .rc, .hw, fun _ => 0⟩]⟩,
  ⟨0x06080020, 64, [],
    [⟨0, 64, .ro, .cal, fun _ => 0⟩]⟩,
  ⟨0x06080100, 32, [(0, 8, 4)],
    [⟨0, 7, .rwOnce, .img, fun _ => 0⟩,
     ⟨8, 7, .rwOnce, .img, fun _ => 0⟩,
     ⟨16, 8, .rwOnce, .img, fun _ => 0⟩,
     ⟨24, 1, .rwOnce, .img, fun _ => 0⟩,
     ⟨31, 1, .rwOnce, .img, fun _ => 0⟩]⟩]

/-- Registers of block NET, part 0. -/
def regsNET0 : List RegRow := [
  ⟨0x06090000, 32, [],
    [⟨0, 7, .rw, .ret, fun _ => 127⟩,
     ⟨8, 3, .rw, .ret, fun _ => 3⟩,
     ⟨12, 3, .rw, .ret, fun _ => 4⟩,
     ⟨16, 1, .rw, .ret, fun _ => 0⟩]⟩,
  ⟨0x06090004, 32, [],
    [⟨0, 2, .ro, .hw, fun _ => 0⟩,
     ⟨2, 1, .ro, .hw, fun _ => 0⟩,
     ⟨3, 1, .ro, .hw, fun _ => 0⟩,
     ⟨4, 1, .ro, .hw, fun _ => 0⟩,
     ⟨5, 1, .ro, .hw, fun _ => 0⟩,
     ⟨6, 1, .w1c, .hw, fun _ => 0⟩,
     ⟨7, 1, .w1c, .hw, fun _ => 0⟩,
     ⟨8, 1, .w1c, .hw, fun _ => 0⟩,
     ⟨9, 1, .w1c, .hw, fun _ => 0⟩,
     ⟨10, 1, .w1c, .hw, fun _ => 0⟩,
     ⟨11, 1, .w1c, .hw, fun _ => 0⟩,
     ⟨12, 1, .w1c, .hw, fun _ => 0⟩]⟩,
  ⟨0x06090008, 32, [],
    [⟨0, 32, .wo, .hw, fun _ => 0⟩]⟩,
  ⟨0x0609000C, 32, [],
    [⟨0, 32, .wo, .hw, fun _ => 0⟩]⟩,
  ⟨0x06090010, 32, [],
    [⟨0, 8, .ro, .hw, fun _ => 0⟩,
     ⟨8, 1, .ro, .hw, fun _ => 0⟩,
     ⟨9, 1, .ro, .hw, fun _ => 0⟩]⟩,
  ⟨0x06090018, 64, [],
    [⟨0, 1, .ro, .hw, fun _ => 0⟩,
     ⟨1, 1, .ro, .hw, fun _ => 0⟩,
     ⟨2, 1, .ro, .hw, fun _ => 0⟩,
     ⟨3, 1, .ro, .hw, fun _ => 0⟩,
     ⟨4, 1, .ro, .hw, fun _ => 0⟩,
     ⟨5, 1, .ro, .hw, fun _ => 0⟩,
     ⟨16, 16, .ro, .hw, fun _ => 0⟩,
     ⟨32, 16, .ro, .hw, fun _ => 0⟩,
     ⟨48, 8, .ro, .hw, fun _ => 0⟩]⟩,
  ⟨0x06090020, 32, [],
    [⟨0, 8, .ro, .hw, fun _ => 0⟩]⟩,
  ⟨0x06090024, 32, [],
    [⟨0, 16, .rw, .ret, fun _ => 0⟩]⟩,
  ⟨0x06090028, 32, [],
    [⟨0, 8, .rw, .ret, fun _ => 0⟩]⟩,
  ⟨0x0609002C, 32, [],
    [⟨0, 11, .rw, .ret, fun _ => 255⟩,
     ⟨31, 1, .rw, .ret, fun _ => 0⟩]⟩,
  ⟨0x06090030, 32, [],
    [⟨0, 16, .rw, .ret, fun _ => 0⟩]⟩,
  ⟨0x06090034, 32, [],
    [⟨0, 11, .rw, .ret, fun _ => 128⟩,
     ⟨30, 1, .rw, .ret, fun _ => 0⟩]⟩]

/-- Registers of block NET, part 1. -/
def regsNET1 : List RegRow := [
  ⟨0x06090038, 32, [],
    [⟨0, 32, .rw, .ret, fun _ => 0⟩]⟩,
  ⟨0x0609003C, 32, [],
    [⟨0, 32, .rw, .ret, fun _ => 0⟩]⟩,
  ⟨0x06090040, 32, [],
    [⟨0, 8, .rw, .ret, fun _ => 0⟩]⟩,
  ⟨0x06090048, 64, [],
    [⟨0, 64, .ro, .hw, fun _ => 0⟩]⟩,
  ⟨0x06090050, 32, [(0, 8, 4)],
    [⟨0, 16, .rw, .ret, fun _ => 0⟩,
     ⟨16, 7, .rw, .ret, fun _ => 0⟩]⟩,
  ⟨0x06090070, 32, [],
    [⟨0, 5, .rw, .hw, fun _ => 0⟩]⟩,
  ⟨0x06090080, 32, [(0, 16, 4)],
    [⟨0, 16, .ro, .hw, fun _ => 0⟩,
     ⟨16, 8, .ro, .hw, fun _ => 0⟩,
     ⟨24, 8, .ro, .hw, fun _ => 0⟩]⟩,
  ⟨0x060900C0, 64, [(0, 2, 8)],
    [⟨0, 8, .ro, .hw, fun _ => 0⟩,
     ⟨8, 8, .ro, .hw, fun _ => 0⟩,
     ⟨16, 16, .rc, .hw, fun _ => 0⟩,
     ⟨32, 32, .rc, .hw, fun _ => 0⟩]⟩,
  ⟨0x060900D0, 32, [(0, 2, 4)],
    [⟨0, 2, .rw, .img, fun _ => 0⟩,
     ⟨8, 8, .rw, .img, fun _ => 5⟩,
     ⟨16, 4, .rw, .img, fun _ => 10⟩]⟩,
  ⟨0x060900D8, 32, [],
    [⟨0, 1, .w1c, .hw, fun _ => 0⟩,
     ⟨1, 1, .w1c, .hw, fun _ => 0⟩]⟩,
  ⟨0x060900E0, 32, [],
    [⟨0, 8, .rw, .ret, fun _ => 0⟩]⟩,
  ⟨0x060900E4, 32, [],
    [⟨0, 16, .rw, .ret, fun _ => 0⟩]⟩]

/-- Registers of block HSP, part 0. -/
def regsHSP0 : List RegRow := [
  ⟨0x06110000, 32, [],
    [⟨0, 1, .w1c, .hw, fun _ => 0⟩,
     ⟨1, 1, .w1c, .hw, fun _ => 0⟩,
     ⟨2, 1, .w1c, .hw, fun _ => 0⟩,
     ⟨3, 1, .w1c, .hw, fun _ => 0⟩,
     ⟨8, 8, .ro, .hw, fun _ => 0⟩]⟩,
  ⟨0x06110004, 32, [],
    [⟨0, 16, .rc, .hw, fun _ => 0⟩,
     ⟨16, 16, .rc, .hw, fun _ => 0⟩]⟩]

/-- Registers of block IRQ, part 0. -/
def regsIRQ0 : List RegRow := [
  ⟨0x060A0100, 32, [(0, 8, 32)],
    [⟨0, 4, .rw, .img, fun _ => 0⟩,
     ⟨4, 1, .rw, .img, (fun a => if (a - 0x060A0100) / 0x20 < 4 then 1 else 0)⟩,
     ⟨5, 1, .rw, .img, (fun a => if (a - 0x060A0100) / 0x20 < 4 then 1 else 0)⟩]⟩,
  ⟨0x060A0104, 32, [(0, 8, 32)],
    [⟨0, 8, .rw, .img, fun _ => 0⟩,
     ⟨8, 16, .rw, .img, fun _ => 0⟩,
     ⟨24, 1, .rw, .img, fun _ => 0⟩]⟩,
  ⟨0x060A0108, 32, [(0, 8, 32)],
    [⟨0, 10, .rc, .hw, fun _ => 0⟩]⟩,
  ⟨0x060A010C, 32, [(0, 8, 32)],
    [⟨0, 10, .wo, .hw, fun _ => 0⟩]⟩,
  ⟨0x060A0110, 32, [(0, 8, 32)],
    [⟨0, 1, .ro, .hw, fun _ => 0⟩,
     ⟨1, 1, .ro, .hw, fun _ => 0⟩,
     ⟨2, 1, .ro, .hw, fun _ => 0⟩,
     ⟨3, 1, .w1c, .hw, fun _ => 0⟩,
     ⟨16, 11, .ro, .hw, fun _ => 0⟩]⟩,
  ⟨0x060A0118, 64, [(0, 8, 32)],
    [⟨0, 24, .rc, .hw, fun _ => 0⟩,
     ⟨24, 16, .rc, .hw, fun _ => 0⟩,
     ⟨40, 12, .rc, .hw, fun _ => 0⟩,
     ⟨52, 8, .rc, .hw, fun _ => 0⟩,
     ⟨60, 4, .rc, .hw, fun _ => 0⟩]⟩,
  ⟨0x060A0800, 32, [(0, 32, 4)],
    [⟨0, 32, .w1c, .hw, fun _ => 0⟩]⟩,
  ⟨0x060A0880, 32, [(0, 32, 4)],
    [⟨0, 32, .wo, .hw, fun _ => 0⟩]⟩,
  ⟨0x060A0900, 32, [(0, 32, 4)],
    [⟨0, 32, .ro, .hw, fun _ => 0⟩]⟩,
  ⟨0x060A1000, 32, [(0, 1024, 4)],
    [⟨0, 4, .rw, .img, fun _ => 0⟩,
     ⟨4, 3, .rw, .img, fun _ => 0⟩,
     ⟨8, 1, .rw, .img, fun _ => 0⟩,
     ⟨9, 1, .rw, .img, fun _ => 0⟩,
     ⟨16, 1, .ro, .hw, (fun a => if irqIsLevel ((a - 0x060A1000) / 4) then 1 else 0)⟩,
     ⟨17, 1, .ro, .hw, fun _ => 0⟩,
     ⟨18, 2, .ro, .hw, fun _ => 0⟩,
     ⟨20, 3, .ro, .hw, fun _ => 0⟩]⟩]

/-- Registers of block LOG, part 0. -/
def regsLOG0 : List RegRow := [
  ⟨0x06100000, 64, [],
    [⟨0, 64, .ro, .hw, fun _ => 0⟩]⟩,
  ⟨0x06100008, 64, [],
    [⟨0, 48, .ro, .hw, fun _ => 0⟩,
     ⟨48, 2, .ro, .hw, fun _ => 0⟩]⟩,
  ⟨0x06100010, 32, [],
    [⟨0, 1, .wo, .hw, fun _ => 0⟩]⟩,
  ⟨0x06100018, 64, [],
    [⟨0, 48, .ro, .hw, fun _ => 0⟩,
     ⟨48, 1, .ro, .hw, fun _ => 0⟩,
     ⟨49, 1, .w1c, .hw, fun _ => 0⟩]⟩,
  ⟨0x06100020, 64, [],
    [⟨0, 48, .ro, .hw, fun _ => 0⟩,
     ⟨48, 2, .ro, .hw, fun _ => 0⟩,
     ⟨50, 1, .ro, .hw, fun _ => 0⟩]⟩,
  ⟨0x06100028, 32, [],
    [⟨0, 1, .rw, .img, fun _ => 0⟩,
     ⟨1, 1, .rw, .img, fun _ => 0⟩,
     ⟨16, 12, .rw, .img, fun _ => 3072⟩]⟩,
  ⟨0x0610002C, 32, [],
    [⟨0, 32, .rw, .ret, fun _ => 0⟩]⟩,
  ⟨0x06100030, 32, [],
    [⟨0, 32, .ro, .hw, fun _ => 0⟩]⟩,
  ⟨0x06100034, 32, [],
    [⟨0, 1, .w1c, .hw, fun _ => 0⟩,
     ⟨1, 1, .w1c, .hw, fun _ => 0⟩,
     ⟨2, 1, .w1c, .hw, fun _ => 0⟩,
     ⟨3, 1, .w1c, .hw, fun _ => 0⟩,
     ⟨16, 16, .rc, .hw, fun _ => 0⟩]⟩,
  ⟨0x06100038, 64, [],
    [⟨0, 8, .wo, .hw, fun _ => 0⟩,
     ⟨8, 56, .wo, .hw, fun _ => 0⟩]⟩,
  ⟨0x06100040, 32, [],
    [⟨0, 4, .wo, .hw, fun _ => 0⟩]⟩,
  ⟨0x06100044, 32, [],
    [⟨0, 7, .rw, .ret, fun _ => 0⟩,
     ⟨8, 5, .rw, .ret, fun _ => 0⟩,
     ⟨31, 1, .rw, .ret, fun _ => 0⟩]⟩]

/-- Registers of block LOG, part 1. -/
def regsLOG1 : List RegRow := [
  ⟨0x06100048, 64, [],
    [⟨0, 8, .ro, .hw, fun _ => 0⟩,
     ⟨8, 1, .ro, .hw, fun _ => 0⟩,
     ⟨16, 16, .rc, .hw, fun _ => 0⟩,
     ⟨32, 32, .ro, .ret, fun _ => 0⟩]⟩]

/-- Registers of block PWR, part 0. -/
def regsPWR0 : List RegRow := [
  ⟨0x060B0000, 32, [],
    [⟨0, 2, .rw, .ret, fun _ => 1⟩,
     ⟨4, 2, .ro, .hw, fun _ => 1⟩,
     ⟨6, 1, .ro, .hw, fun _ => 0⟩,
     ⟨8, 8, .ro, .hw, fun _ => 0⟩,
     ⟨16, 8, .ro, .hw, fun _ => 0⟩]⟩,
  ⟨0x060B0004, 32, [],
    [⟨0, 1, .w1c, .hw, fun _ => 0⟩,
     ⟨1, 1, .w1c, .hw, fun _ => 0⟩,
     ⟨2, 1, .w1c, .hw, fun _ => 0⟩,
     ⟨3, 1, .w1c, .hw, fun _ => 0⟩,
     ⟨4, 1, .w1c, .hw, fun _ => 0⟩,
     ⟨5, 3, .w1c, .hw, fun _ => 0⟩]⟩,
  ⟨0x060B0008, 32, [],
    [⟨0, 8, .rw, .ret, fun _ => 15⟩,
     ⟨8, 1, .rw, .ret, fun _ => 0⟩,
     ⟨9, 1, .rw, .ret, fun _ => 0⟩,
     ⟨10, 2, .rw, .ret, fun _ => 3⟩,
     ⟨16, 16, .rw, .ret, fun _ => 3600⟩]⟩,
  ⟨0x060B000C, 32, [],
    [⟨0, 16, .rw, .ret, fun _ => 60000⟩,
     ⟨16, 2, .rw, .ret, fun _ => 1⟩,
     ⟨18, 1, .rw, .ret, fun _ => 0⟩]⟩,
  ⟨0x060B0010, 32, [],
    [⟨0, 1, .rw, .ret, fun _ => 1⟩,
     ⟨1, 1, .rw, .ret, fun _ => 1⟩,
     ⟨2, 1, .rw, .ret, fun _ => 0⟩,
     ⟨3, 1, .rw, .ret, fun _ => 1⟩,
     ⟨4, 1, .rw, .ret, fun _ => 0⟩]⟩,
  ⟨0x060B0014, 32, [],
    [⟨0, 7, .w1c, .hw, fun _ => 0⟩,
     ⟨8, 8, .ro, .hw, fun _ => 0⟩,
     ⟨16, 10, .ro, .hw, fun _ => 0⟩]⟩,
  ⟨0x060B0018, 64, [],
    [⟨0, 48, .rw, .ret, fun _ => 0⟩]⟩,
  ⟨0x060B0020, 32, [],
    [⟨0, 16, .rw, .ret, fun _ => 16⟩]⟩,
  ⟨0x060B0024, 32, [],
    [⟨0, 14, .ro, .hw, fun _ => 0⟩,
     ⟨16, 14, .w1c, .hw, fun _ => 0⟩]⟩,
  ⟨0x060B0028, 64, [],
    [⟨0, 1, .ro, .hw, fun _ => 0⟩,
     ⟨1, 3, .ro, .hw, fun _ => 0⟩,
     ⟨4, 4, .ro, .hw, fun _ => 0⟩,
     ⟨8, 8, .ro, .hw, fun _ => 0⟩,
     ⟨32, 32, .ro, .hw, fun _ => 0⟩]⟩,
  ⟨0x060B0030, 32, [],
    [⟨0, 16, .rc, .hw, fun _ => 0⟩,
     ⟨16, 16, .rc, .hw, fun _ => 0⟩]⟩,
  ⟨0x060B0038, 64, [],
    [⟨0, 16, .rc, .hw, fun _ => 0⟩,
     ⟨16, 16, .rc, .hw, fun _ => 0⟩,
     ⟨32, 16, .rc, .hw, fun _ => 0⟩]⟩]

/-- Registers of block PWR, part 1. -/
def regsPWR1 : List RegRow := [
  ⟨0x060B0040, 64, [],
    [⟨0, 16, .ro, .hw, fun _ => 0⟩,
     ⟨16, 16, .ro, .hw, fun _ => 0⟩,
     ⟨32, 16, .ro, .hw, fun _ => 0⟩]⟩,
  ⟨0x060B0080, 64, [(0, 3, 8)],
    [⟨0, 32, .ro, .hw, fun _ => 0⟩,
     ⟨32, 32, .ro, .hw, fun _ => 0⟩]⟩]

/-- Registers of block SAF, part 0. -/
def regsSAF0 : List RegRow := [
  ⟨0x060C0000, 32, [],
    [⟨0, 1, .ro, .hw, fun _ => 1⟩,
     ⟨1, 1, .ro, .hw, fun _ => 1⟩,
     ⟨2, 1, .ro, .hw, fun _ => 1⟩,
     ⟨3, 1, .w1c, .hw, fun _ => 0⟩,
     ⟨4, 1, .ro, .hw, fun _ => 0⟩,
     ⟨5, 1, .w1c, .hw, fun _ => 0⟩,
     ⟨8, 6, .ro, .hw, fun _ => 0⟩]⟩,
  ⟨0x060C0008, 64, [],
    [⟨0, 64, .w1c, .hw, fun _ => 0⟩]⟩,
  ⟨0x060C0010, 64, [],
    [⟨0, 64, .ro, .hw, fun _ => 0⟩]⟩,
  ⟨0x060C0020, 32, [(0, 4, 4)],
    [⟨0, 32, .rw, .img, (fun a => safClassWord ((a - 0x060C0020) / 4))⟩]⟩,
  ⟨0x060C0030, 32, [],
    [⟨0, 1, .rwOnce, .img, fun _ => 0⟩]⟩,
  ⟨0x060C0040, 32, [],
    [⟨0, 1, .rw, .img, fun _ => 0⟩,
     ⟨1, 7, .rw, .img, fun _ => 0⟩,
     ⟨8, 7, .rw, .img, fun _ => 100⟩]⟩,
  ⟨0x060C0044, 32, [],
    [⟨0, 16, .wo, .hw, fun _ => 0⟩]⟩,
  ⟨0x060C0048, 32, [],
    [⟨0, 1, .ro, .hw, fun _ => 0⟩,
     ⟨1, 1, .ro, .hw, fun _ => 0⟩,
     ⟨2, 2, .ro, .hw, fun _ => 0⟩,
     ⟨16, 16, .ro, .hw, fun _ => 0⟩]⟩,
  ⟨0x060C0050, 64, [],
    [⟨0, 24, .rw, .img, fun _ => 29320⟩,
     ⟨32, 16, .rw, .img, fun _ => 2000⟩,
     ⟨48, 14, .rw, .img, fun _ => 1563⟩]⟩,
  ⟨0x060C0060, 32, [],
    [⟨0, 1, .rw, .hw, fun _ => 0⟩]⟩,
  ⟨0x060C0064, 32, [],
    [⟨0, 3, .ro, .hw, fun _ => 0⟩,
     ⟨3, 1, .ro, .hw, fun _ => 1⟩,
     ⟨4, 1, .ro, .hw, fun _ => 1⟩,
     ⟨5, 1, .ro, .hw, fun _ => 1⟩,
     ⟨8, 6, .ro, .hw, fun _ => 0⟩]⟩,
  ⟨0x060C0080, 64, [],
    [⟨0, 16, .rc, .hw, fun _ => 0⟩,
     ⟨16, 16, .rc, .hw, fun _ => 0⟩,
     ⟨32, 16, .rc, .hw, fun _ => 0⟩,
     ⟨48, 16, .rc, .hw, fun _ => 0⟩]⟩]

/-- Registers of block SAF, part 1. -/
def regsSAF1 : List RegRow := [
  ⟨0x060C0088, 64, [],
    [⟨0, 6, .ro, .hw, fun _ => 0⟩,
     ⟨6, 2, .ro, .hw, fun _ => 0⟩,
     ⟨8, 3, .ro, .hw, fun _ => 0⟩,
     ⟨31, 1, .w1c, .hw, fun _ => 0⟩,
     ⟨32, 32, .ro, .hw, fun _ => 0⟩]⟩]

/-- Registers of block BST, part 0. -/
def regsBST0 : List RegRow := [
  ⟨0x060D0000, 32, [],
    [⟨0, 1, .w1c, .hw, fun _ => 0⟩,
     ⟨1, 1, .ro, .hw, fun _ => 0⟩,
     ⟨2, 1, .w1c, .hw, fun _ => 0⟩,
     ⟨8, 8, .ro, .hw, fun _ => 0⟩]⟩,
  ⟨0x060D0004, 32, [],
    [⟨0, 2, .wo, .hw, fun _ => 0⟩,
     ⟨8, 5, .wo, .hw, fun _ => 0⟩]⟩,
  ⟨0x060D0008, 32, [],
    [⟨0, 19, .rw, .img, fun _ => 524287⟩]⟩,
  ⟨0x060D000C, 32, [],
    [⟨0, 19, .rw, .img, fun _ => 524287⟩]⟩,
  ⟨0x060D0010, 32, [],
    [⟨0, 19, .w1c, .hw, fun _ => 0⟩]⟩,
  ⟨0x060D0014, 32, [],
    [⟨0, 19, .w1c, .hw, fun _ => 0⟩]⟩,
  ⟨0x060D0018, 32, [],
    [⟨0, 5, .rw, .hw, fun _ => 0⟩,
     ⟨31, 1, .rw, .hw, fun _ => 0⟩]⟩,
  ⟨0x060D0020, 64, [],
    [⟨0, 5, .ro, .hw, fun _ => 0⟩,
     ⟨5, 3, .ro, .hw, fun _ => 0⟩,
     ⟨8, 24, .ro, .hw, fun _ => 0⟩,
     ⟨32, 8, .ro, .hw, fun _ => 0⟩,
     ⟨63, 1, .w1c, .hw, fun _ => 0⟩]⟩,
  ⟨0x060D0028, 32, [],
    [⟨0, 13, .ro, .hw, fun _ => 0⟩]⟩,
  ⟨0x060D0100, 64, [(0, 19, 16)],
    [⟨0, 24, .ro, .hw, fun _ => 0⟩,
     ⟨32, 16, .ro, .hw, fun _ => 0⟩,
     ⟨48, 16, .rc, .hw, fun _ => 0⟩]⟩,
  ⟨0x060D0108, 64, [(0, 19, 16)],
    [⟨0, 32, .ro, .hw, fun _ => 0⟩,
     ⟨32, 3, .ro, .hw, fun _ => 0⟩,
     ⟨35, 1, .ro, .hw, fun _ => 0⟩,
     ⟨36, 1, .ro, .hw, fun _ => 0⟩]⟩]

/-- Registers of block LCS, part 0. -/
def regsLCS0 : List RegRow := [
  ⟨0x060E0000, 32, [],
    [⟨0, 2, .ro, .hw, fun _ => 3⟩,
     ⟨2, 5, .ro, .hw, fun _ => 0⟩,
     ⟨7, 1, .ro, .hw, fun _ => 0⟩,
     ⟨8, 1, .ro, .hw, fun _ => 0⟩,
     ⟨9, 1, .ro, .hw, fun _ => 0⟩]⟩,
  ⟨0x060E0004, 32, [],
    [⟨0, 4, .ro, .hw, fun _ => 0⟩,
     ⟨8, 4, .ro, .hw, fun _ => 0⟩]⟩,
  ⟨0x060E0008, 32, [],
    [⟨0, 4, .wo, .hw, fun _ => 0⟩,
     ⟨4, 2, .wo, .hw, fun _ => 0⟩,
     ⟨16, 16, .wo, .hw, fun _ => 0⟩]⟩,
  ⟨0x060E000C, 32, [],
    [⟨0, 8, .ro, .hw, fun _ => 0⟩,
     ⟨8, 1, .ro, .hw, fun _ => 0⟩,
     ⟨12, 4, .ro, .hw, fun _ => 0⟩]⟩,
  ⟨0x060E0010, 32, [],
    [⟨0, 9, .rw, .hw, fun _ => 0⟩]⟩,
  ⟨0x060E0014, 32, [],
    [⟨0, 9, .ro, .hw, fun _ => 0⟩]⟩,
  ⟨0x060E0018, 32, [],
    [⟨0, 11, .ro, .hw, fun _ => 0⟩]⟩]

/-- Registers of block DBG, part 0. -/
def regsDBG0 : List RegRow := [
  ⟨0x060E0800, 32, [],
    [⟨0, 2, .wo, .hw, fun _ => 0⟩]⟩,
  ⟨0x060E0804, 32, [],
    [⟨0, 8, .ro, .hw, fun _ => 0⟩,
     ⟨8, 1, .ro, .hw, fun _ => 0⟩,
     ⟨9, 1, .ro, .hw, fun _ => 0⟩,
     ⟨10, 1, .w1c, .hw, fun _ => 0⟩,
     ⟨11, 1, .w1c, .hw, fun _ => 0⟩,
     ⟨16, 4, .ro, .hw, fun _ => 0⟩]⟩,
  ⟨0x060E0808, 32, [],
    [⟨0, 6, .ro, .hw, fun _ => 0⟩]⟩]

/-- Every register of the device. -/
def regTable : List RegRow :=
  regsSYS0 ++ regsAFE0 ++ regsAFE1 ++ regsAFE2 ++ regsAFE3 ++ regsQUE0 ++ regsQUE1 ++ regsNIB0 ++ regsNIB1 ++ regsCHN0 ++ regsSCR0 ++ regsSCR1 ++ regsFAB0 ++ regsCFG0 ++ regsMEM0 ++ regsMEM1 ++ regsXMC0 ++ regsXMC1 ++ regsDMA0 ++ regsUFL0 ++ regsNET0 ++ regsNET1 ++ regsHSP0 ++ regsIRQ0 ++ regsLOG0 ++ regsLOG1 ++ regsPWR0 ++ regsPWR1 ++ regsSAF0 ++ regsSAF1 ++ regsBST0 ++ regsLCS0 ++ regsDBG0

end Sys2Proof.Machine
end

