-- ==== Sys2Proof/Machine/Reg.lean ====
section
/-! DEFINITION. Registers by address: finding a register (R6), reading it (R7, R30), what its read returns where the value stands
outside the register file, and what a read does beside returning it (rc fields, claims, captures). -/
namespace Sys2Proof.Machine

open Sys2Proof

/-- A register found at an address: its row, the address of the instance and its indices. -/
structure Hit where
  row : RegRow
  addr : Nat
  idx : List Nat

/-- The indices of an offset in a register array, outermost first; the last offset must fall in the register. -/
def dimFind : List (Nat × Nat × Nat) → Nat → Nat → Option (List Nat)
  | [], width, off => if off * 8 < width ∧ off % 4 = 0 then some [] else none
  | (first, count, stride) :: r, width, off =>
    let i := off / stride
    if first ≤ i ∧ i < first + count then (dimFind r width (off % stride)).map (fun l => i :: l) else none

/-- The register that holds the 32-bit word at an address, if any. -/
def regFindIn : List RegRow → Nat → Option Hit
  | [], _ => none
  | r :: l, a =>
    if a < r.base then regFindIn l a
    else match dimFind r.dims r.width (a - r.base) with
      | some idx => some ⟨r, if r.width = 64 then a / 8 * 8 else a, idx⟩
      | none => regFindIn l a

/-- The register that holds the 32-bit word at an address, if any. -/
def regFind (a : Nat) : Option Hit := regFindIn regTable a

/-- A field of a register's row at an address. -/
def FieldRow.fld (f : FieldRow) (a : Nat) : Fld := ⟨a, f.lo, f.w, f.rst a⟩

/-- The mask of a field within its register. -/
def FieldRow.mask (f : FieldRow) : Nat := (2 ^ f.w - 1) * 2 ^ f.lo

/-- Index j of a hit. -/
def Hit.i (h : Hit) (j : Nat) : Nat := nth 0 h.idx j

/-- The fields of the register file as one word; a wo field reads as zero (R7). -/
def rawWord (h : Hit) (s : State) : Nat :=
  h.row.fields.foldl (fun a f => if f.acc = .wo then a else a + s.rd (f.fld h.addr) * 2 ^ f.lo) 0

/-- A signed value of n bits, sign-extended to the register's width (R30). -/
def signed (n width v : Nat) : Nat := enc width (sx n v)

/-- An integer as a two's complement word of n bits. -/
def signedI (n : Nat) (v : Int) : Nat := enc n v

/-- A word whose bit i is p i. -/
def maskOf (n : Nat) (p : Nat → Bool) : Nat := ((List.range n).filter p).foldl (fun a i => a + 2 ^ i) 0

/-- The word of an interrupt source's state: 0 IDLE, 1 PENDING, 2 ACTIVE, 3 ACTIVE_PENDING. -/
def irqStateOf (s : State) (i : Nat) : Nat × Nat :=
  match mapGet? s.irq.src i with
  | none => (0, 0)
  | some ⟨.pending, u⟩ => (1, u)
  | some ⟨.active, u⟩ => (2, u)
  | some ⟨.activePending, u⟩ => (3, u)

/-- Sources 32w to 32w + 31 whose state satisfies p. -/
def irqWord (s : State) (w : Nat) (p : Nat → Bool) : Nat := maskOf 32 (fun b => p (irqStateOf s (32 * w + b)).1)

/-- Words of AFE registers that hold a signed or captured value. -/
def viewAfe (o k v : Nat) (s : State) : Nat :=
  let c := s.ach k
  if o = 0x20 ∨ o = 0x28 then signed 40 64 v
  else if o = 0x130 ∨ o = 0x134 then signed 22 32 v
  else if o = 0x148 then c.pubP / 2 ^ 32 % 2 ^ 40
  else if o = 0x150 then signedI 32 (velWord c.snapV)
  else if o = 0x154 then signedI 32 (satI 25 (rne c.snapA 16))
  else if o = 0x158 then signedI 64 c.snapA
  else if o = 0x160 then c.snapTime
  else if o = 0x168 then c.snapCount
  else v

/-- Words of NIB and CHN registers that show typed state. -/
def viewNib (o i v : Nat) (s : State) : Nat :=
  let n := s.nib.nibs.length
  if o = 0x4 then setBits (setBits v 2 2 (b2n (n == 1024))) 26 16 n
  else if 0xA800 ≤ o ∧ o < 0xB000 then
    setBits (setBits (setBits v 24 24 (b2n (s.level i))) 25 25 (b2n (mapGet? s.chn.trail i).isSome)) 27 26
      (s.rowSafe (s.rd (Fd.CHN_DCFG_PIN i)))
  else if 0xB000 ≤ o ∧ o < 0xB200 ∧ o % 16 = 12 then setBits v 28 28 (b2n (s.strOf i).frame.isSome)
  else if 0xB200 ≤ o ∧ o % 16 = 12 then setBits v 31 31 (b2n (mapGet? s.chn.echo i).isSome)
  else v

/-- Words of SCR registers that show typed state. -/
def viewScr (o i v : Nat) (s : State) : Nat :=
  if o = 0 then setBits v 15 8 (maskOf 8 (fun p => pairState s p == 4))
  else if 0x100 ≤ o ∧ o < 0x400 ∧ o % 64 = 4 then setBits (setBits v 4 4 (b2n (pairWaiting s i))) 26 24 (fetchesOf s i)
  else if o = 0x404 then setBits v 8 8 (b2n (pairState s (s.rd Fd.SCR_DBG_CTRL_PAIR) == 3))
  else v

/-- Words of FAB registers that show typed state; FAB_LOUPE_SEL reads zero without the right (R187). -/
def viewFab (o i v : Nat) (s : State) : Nat :=
  if o = 0 then
    setBits (setBits v 5 5 (b2n ((List.range 48).any (fun w => s.rd (Fd.FAB_MATH_SAT_FLAG w) != 0)))) 6 6
      (b2n ((List.range 48).any (fun w => s.rd (Fd.FAB_MATH_OVF_FLAG w) != 0)))
  else if 0x400 ≤ o ∧ o < 0x500 then (if loupeRight s then v else 0)
  else if 0x1000 ≤ o then
    setBits (setBits (setBits v 9 9 (b2n (pinTaken s 512 32 i))) 10 10 (b2n (probeOn s i))) 17 16 (s.rowSafe i)
  else v

/-- Words of MEM registers that show typed state. -/
def viewMem (o i j v master : Nat) (s : State) : Nat :=
  if o = 0x10 then mapGet 0 s.mst.atomOld master
  else if 0x300 ≤ o ∧ o < 0x400 then setBits v 30 30 (b2n (remapPoisoned 0 i j s))
  else if 0x400 ≤ o then setBits v 30 30 (b2n (remapPoisoned 1 i j s))
  else v

/-- Words of XMC registers that show typed state. -/
def viewXmc (o i v : Nat) (s : State) : Nat :=
  if 0x200 ≤ o then setBits v 62 62 (b2n (sparePoisoned i s))
  else v

/-- Words of IRQ registers that show typed state. -/
def viewIrq (o i v : Nat) (s : State) : Nat :=
  if 0x1000 ≤ o then
    let st := irqStateOf s i
    setBits (setBits (setBits v 17 17 (b2n (irqIsLevel i && irqLevel s i))) 19 18 st.1) 22 20 (if 2 ≤ st.1 then st.2 else 0)
  else if 0x900 ≤ o then irqWord s i (fun st => decide (2 ≤ st))
  else if 0x800 ≤ o ∧ o < 0x880 then irqWord s i (fun st => st % 2 == 1)
  else if o % 32 = 0x10 then
    setBits (setBits (setBits v 0 0 (b2n (irqAsserted s i))) 1 1 (b2n (irqReleased s i))) 26 16 (irqM s s.irq.src i)
  else v

/-- What a read of a register returns: its fields, with those that show state held elsewhere put in. -/
def regValue (h : Hit) (master : Nat) (s : State) : Nat :=
  let v := rawWord h s
  let b := h.addr / 0x10000
  let o := h.addr % 0x10000
  if b = 0x600 then viewAfe (if h.idx = [] then o else o - 0x100 * h.i 0) (h.i 0) v s
  else if b = 0x601 then
    (if o = 0x28 then (haltLogRead s).1 else v)
  else if b = 0x602 then viewNib o (h.i 0) v s
  else if b = 0x603 then viewScr o (h.i 0) v s
  else if b = 0x604 then viewFab o (h.i 0) v s
  else if b = 0x605 then (if o = 0x4 ∧ s.rd Fd.CFG_CMD_STAT_PHASE = 2 then setBits v 31 16 (marginPages s) else if 0x100 ≤ o then setBits v 27 17 (swapReserved s (h.i 0)) else v)
  else if b = 0x606 then viewMem o (h.i 0) (h.i 1) v master s
  else if b = 0x607 then viewXmc o (h.i 0) v s
  else if b = 0x60F then (if o = 0x800 then maskOf 32 (fun n => dmaState s n == 1) else v)
  else if b = 0x60A then viewIrq o (h.i 0) v s
  else if b = 0x60C then (if o = 0 then setBits v 4 4 (s.rd Fd.SAF_LOCK_LOCK)
    else if o = 0x48 then setBits v 31 16 (wdgCount s) else v)
  else if b = 0x610 then (if o = 0 then s.now % 2 ^ 32 + s.log.timeHi * 2 ^ 32 else v)
  else v

/-- What an access to the low word of FINE or of LOG_TIME captures before it answers (R59). -/
def regCapture (h : Hit) (mask : Nat) (s : State) : State :=
  if mask % 2 ^ 32 = 0 then s
  else if h.addr = Fd.LOG_TIME_TIME.addr then logTimeRead s
  else if h.addr = (Fd.AFE_CH_FINE_FINE 0).addr then fineSnap 0 s
  else if h.addr = (Fd.AFE_CH_FINE_FINE 1).addr then fineSnap 1 s
  else s

/-- A read clears the rc fields it touches (R7); NIB_HWM then stands at the nibs in use, and a read of the low word of
QUE_HALT_LOG removes the entry shown. -/
def regClears (h : Hit) (mask : Nat) (s : State) : State :=
  if h.addr = Fd.QUE_HALT_LOG_QUEUE.addr then
    (if mask % 2 ^ 32 = 0 then s else irqJudge 160 (haltLogRead s).2)
  else if h.addr = Fd.NIB_HWM_IN_USE_MAX.addr then s.wr Fd.NIB_HWM_IN_USE_MAX s.nib.nibs.length
  else h.row.fields.foldl (fun t f => if f.acc = .rc ∧ f.mask &&& mask ≠ 0 then t.clr (f.fld h.addr) else t) s

/-- A read of a register by a master, of the bits of a mask: the register's word and the state after (R7). A claim read makes the
claim (R305); SCR_DBG_REG_DATA reads the selected scribe register (R170). -/
def regRead (h : Hit) (mask master : Nat) (s : State) : Nat × State :=
  let b := h.addr / 0x10000
  if b = 0x60A ∧ h.addr % 0x10000 < 0x800 ∧ h.addr % 32 = 8 then irqClaim (h.i 0) s
  else if h.addr = Fd.SCR_DBG_REG_DATA_DATA.addr then dbgRegRead s
  else
    let s1 := regCapture h mask s
    (regValue h master s1, regClears h mask s1)

end Sys2Proof.Machine
end

