-- ==== Sys2Proof/Machine/ObjTable.lean ====
section
/-! DEFINITION. The object table: the dictionary objects that stand for registers and for words of the NET windows, with their
index, subindexes, address, size and mapping flag (R269, R288, Table 12.8); the DOMAIN objects stand at the end. -/
namespace Sys2Proof.Machine

open Sys2Proof

/-- A family of scalar objects: index + i (i below n, address stride istep), subindex sub + j (j below m, address stride sstep), the
address of the first, size in bits, lowest bit within the register, and whether a PDO may map it. -/
structure ObjRow where
  index : Nat
  n : Nat
  istep : Nat
  sub : Nat
  m : Nat
  sstep : Nat
  addr : Nat
  size : Nat
  lo : Nat
  pdo : Bool

/-- Register objects, part 0. -/
def objRegs0 : List ObjRow := [
  ⟨0x1001, 1, 0, 0, 1, 0, 0x06090020, 32, 0, false⟩,
  ⟨0x1003, 1, 0, 0, 1, 0, 0x06090070, 32, 0, false⟩,
  ⟨0x1003, 1, 0, 1, 16, 4, 0x06090080, 32, 0, false⟩,
  ⟨0x1005, 1, 0, 0, 1, 0, 0x06090034, 32, 0, false⟩,
  ⟨0x1006, 1, 0, 0, 1, 0, 0x06090038, 32, 0, false⟩,
  ⟨0x1007, 1, 0, 0, 1, 0, 0x0609003C, 32, 0, false⟩,
  ⟨0x1010, 1, 0, 1, 1, 0, 0x06090008, 32, 0, false⟩,
  ⟨0x1011, 1, 0, 1, 1, 0, 0x0609000C, 32, 0, false⟩,
  ⟨0x1014, 1, 0, 0, 1, 0, 0x0609002C, 32, 0, false⟩,
  ⟨0x1015, 1, 0, 0, 1, 0, 0x06090030, 32, 0, false⟩,
  ⟨0x1016, 1, 0, 1, 8, 4, 0x06090050, 32, 0, false⟩,
  ⟨0x1017, 1, 0, 0, 1, 0, 0x06090024, 32, 0, false⟩,
  ⟨0x1018, 1, 0, 2, 1, 0, 0x06120010, 16, 0, false⟩,
  ⟨0x1018, 1, 0, 3, 1, 0, 0x06120010, 8, 16, false⟩,
  ⟨0x1018, 1, 0, 4, 1, 0, 0x06080020, 32, 0, false⟩,
  ⟨0x1019, 1, 0, 0, 1, 0, 0x06090040, 32, 0, false⟩,
  ⟨0x1029, 1, 0, 1, 1, 0, 0x06090028, 32, 0, false⟩,
  ⟨0x13FE, 1, 0, 0, 1, 0, 0x060900E0, 32, 0, false⟩,
  ⟨0x13FF, 1, 0, 0, 1, 0, 0x060900E4, 32, 0, false⟩,
  ⟨0x2000, 1, 0, 1, 1, 0, 0x06120000, 32, 0, true⟩,
  ⟨0x2000, 1, 0, 2, 1, 0, 0x06120004, 32, 0, true⟩,
  ⟨0x2001, 1, 0, 0, 1, 0, 0x06120008, 32, 0, true⟩,
  ⟨0x2002, 1, 0, 1, 1, 0, 0x06120020, 8, 0, false⟩,
  ⟨0x2002, 1, 0, 2, 1, 0, 0x06120020, 8, 8, false⟩,
  ⟨0x2010, 1, 0, 1, 1, 0, 0x06090000, 32, 0, false⟩,
  ⟨0x2011, 1, 0, 1, 2, 4, 0x060900D0, 32, 0, false⟩,
  ⟨0x2100, 1, 0, 1, 1, 0, 0x06040000, 32, 0, true⟩,
  ⟨0x2100, 1, 0, 2, 1, 0, 0x06040004, 32, 0, false⟩,
  ⟨0x2200, 4, 512, 1, 128, 4, 0x06041000, 32, 0, false⟩,
  ⟨0x2300, 1, 0, 1, 1, 0, 0x06050000, 32, 0, true⟩,
  ⟨0x2300, 1, 0, 2, 1, 0, 0x06050004, 32, 0, false⟩,
  ⟨0x2300, 1, 0, 3, 1, 0, 0x06050008, 32, 0, true⟩,
  ⟨0x2300, 1, 0, 4, 1, 0, 0x0605000C, 32, 0, false⟩,
  ⟨0x2300, 1, 0, 5, 1, 0, 0x06050010, 32, 0, true⟩,
  ⟨0x2300, 1, 0, 6, 2, 8, 0x06050020, 64, 0, true⟩,
  ⟨0x2300, 1, 0, 8, 1, 0, 0x06050030, 32, 0, false⟩,
  ⟨0x2300, 1, 0, 9, 8, 4, 0x06050040, 32, 0, true⟩,
  ⟨0x2310, 1, 0, 1, 32, 8, 0x06050100, 64, 0, true⟩,
  ⟨0x2400, 1, 0, 1, 1, 0, 0x06060004, 32, 0, false⟩,
  ⟨0x2400, 1, 0, 2, 8, 4, 0x06060200, 32, 0, false⟩,
  ⟨0x2401, 1, 0, 1, 32, 4, 0x06060300, 32, 0, false⟩,
  ⟨0x2402, 1, 0, 1, 8, 4, 0x06060400, 32, 0, false⟩,
  ⟨0x2500, 1, 0, 1, 1, 0, 0x06070000, 32, 0, false⟩,
  ⟨0x2500, 1, 0, 2, 1, 0, 0x06070004, 32, 0, false⟩,
  ⟨0x2500, 1, 0, 3, 1, 0, 0x06070028, 32, 0, false⟩]

/-- Register objects, part 1. -/
def objRegs1 : List ObjRow := [
  ⟨0x2500, 1, 0, 4, 2, 4, 0x06070030, 32, 0, false⟩,
  ⟨0x2501, 1, 0, 1, 16, 8, 0x06070200, 64, 0, false⟩,
  ⟨0x2600, 1, 0, 1, 1, 0, 0x06080000, 32, 0, true⟩,
  ⟨0x2600, 1, 0, 2, 1, 0, 0x06080004, 32, 0, false⟩,
  ⟨0x2600, 1, 0, 3, 1, 0, 0x06080008, 32, 0, true⟩,
  ⟨0x2601, 1, 0, 1, 8, 4, 0x06080100, 32, 0, false⟩,
  ⟨0x2700, 1, 0, 1, 1, 0, 0x060B0000, 32, 0, false⟩,
  ⟨0x2700, 1, 0, 2, 1, 0, 0x060B0008, 32, 0, false⟩,
  ⟨0x2700, 1, 0, 3, 1, 0, 0x060B000C, 32, 0, false⟩,
  ⟨0x2700, 1, 0, 4, 1, 0, 0x060B0010, 32, 0, false⟩,
  ⟨0x2700, 1, 0, 5, 1, 0, 0x060B0018, 64, 0, false⟩,
  ⟨0x2700, 1, 0, 6, 1, 0, 0x060B0020, 32, 0, false⟩,
  ⟨0x2800, 8, 512, 1, 128, 4, 0x060A1000, 32, 0, false⟩,
  ⟨0x2810, 8, 32, 1, 1, 0, 0x060A0100, 32, 0, false⟩,
  ⟨0x2810, 8, 32, 2, 1, 0, 0x060A0104, 32, 0, false⟩,
  ⟨0x2900, 1, 0, 1, 1, 0, 0x060C0000, 32, 0, true⟩,
  ⟨0x2900, 1, 0, 2, 1, 0, 0x060C0008, 64, 0, true⟩,
  ⟨0x2900, 1, 0, 3, 1, 0, 0x060C0010, 64, 0, true⟩,
  ⟨0x2900, 1, 0, 4, 4, 4, 0x060C0020, 32, 0, false⟩,
  ⟨0x2900, 1, 0, 8, 1, 0, 0x060C0030, 32, 0, false⟩,
  ⟨0x2900, 1, 0, 9, 1, 0, 0x060C0040, 32, 0, false⟩,
  ⟨0x2900, 1, 0, 10, 1, 0, 0x060C0044, 32, 0, true⟩,
  ⟨0x2900, 1, 0, 11, 1, 0, 0x060C0048, 32, 0, true⟩,
  ⟨0x2900, 1, 0, 12, 1, 0, 0x060C0050, 64, 0, false⟩,
  ⟨0x2901, 1, 0, 1, 1, 0, 0x060C0060, 32, 0, true⟩,
  ⟨0x2901, 1, 0, 2, 1, 0, 0x060C0064, 32, 0, true⟩,
  ⟨0x2A00, 1, 0, 1, 1, 0, 0x060D0004, 32, 0, true⟩,
  ⟨0x2A00, 1, 0, 2, 1, 0, 0x060D0008, 32, 0, false⟩,
  ⟨0x2A00, 1, 0, 3, 1, 0, 0x060D000C, 32, 0, false⟩,
  ⟨0x2B00, 1, 0, 1, 1, 0, 0x060E0000, 32, 0, true⟩,
  ⟨0x2B00, 1, 0, 2, 1, 0, 0x060E0004, 32, 0, true⟩,
  ⟨0x2B00, 1, 0, 3, 1, 0, 0x060E0008, 32, 0, true⟩,
  ⟨0x2B00, 1, 0, 4, 1, 0, 0x060E000C, 32, 0, true⟩,
  ⟨0x2B00, 1, 0, 5, 1, 0, 0x060E0010, 32, 0, true⟩,
  ⟨0x2B00, 1, 0, 6, 1, 0, 0x060E0014, 32, 0, true⟩,
  ⟨0x2B00, 1, 0, 7, 1, 0, 0x060E0018, 32, 0, true⟩,
  ⟨0x2B10, 1, 0, 1, 1, 0, 0x060E0800, 32, 0, true⟩,
  ⟨0x2B10, 1, 0, 2, 1, 0, 0x060E0804, 32, 0, true⟩,
  ⟨0x2B10, 1, 0, 3, 1, 0, 0x060E0808, 32, 0, true⟩,
  ⟨0x3000, 1, 0, 1, 1, 0, 0x06000000, 32, 0, false⟩,
  ⟨0x3000, 1, 0, 2, 1, 0, 0x06000004, 32, 0, true⟩,
  ⟨0x3000, 1, 0, 3, 1, 0, 0x06000008, 32, 0, true⟩,
  ⟨0x3001, 1, 0, 1, 1, 0, 0x0600000C, 32, 0, false⟩,
  ⟨0x3001, 1, 0, 2, 1, 0, 0x06000010, 32, 0, false⟩,
  ⟨0x3001, 1, 0, 3, 1, 0, 0x06000014, 32, 0, false⟩]

/-- Register objects, part 2. -/
def objRegs2 : List ObjRow := [
  ⟨0x3001, 1, 0, 4, 1, 0, 0x06000018, 32, 0, true⟩,
  ⟨0x3001, 1, 0, 5, 1, 0, 0x0600001C, 32, 0, true⟩,
  ⟨0x3001, 1, 0, 6, 1, 0, 0x06000020, 64, 0, false⟩,
  ⟨0x3001, 1, 0, 7, 1, 0, 0x06000028, 64, 0, true⟩,
  ⟨0x3002, 1, 0, 1, 1, 0, 0x06000030, 32, 0, false⟩,
  ⟨0x3002, 1, 0, 2, 1, 0, 0x06000034, 32, 0, true⟩,
  ⟨0x3002, 1, 0, 3, 1, 0, 0x06000038, 32, 0, true⟩,
  ⟨0x3003, 1, 0, 1, 1, 0, 0x06000060, 64, 0, true⟩,
  ⟨0x3003, 1, 0, 2, 1, 0, 0x06000068, 64, 0, true⟩,
  ⟨0x3003, 1, 0, 3, 1, 0, 0x06000070, 64, 0, true⟩,
  ⟨0x3003, 1, 0, 4, 1, 0, 0x06000078, 64, 0, true⟩,
  ⟨0x3003, 1, 0, 5, 1, 0, 0x06000080, 64, 0, true⟩,
  ⟨0x3004, 1, 0, 1, 4, 4, 0x06000040, 32, 0, true⟩,
  ⟨0x3004, 1, 0, 5, 2, 4, 0x06000050, 32, 0, true⟩,
  ⟨0x3010, 2, 256, 1, 1, 0, 0x06000100, 32, 0, false⟩,
  ⟨0x3010, 2, 256, 2, 1, 0, 0x06000104, 32, 0, false⟩,
  ⟨0x3010, 2, 256, 3, 1, 0, 0x06000108, 64, 0, true⟩,
  ⟨0x3010, 2, 256, 4, 1, 0, 0x06000110, 32, 0, false⟩,
  ⟨0x3010, 2, 256, 5, 1, 0, 0x06000114, 32, 0, false⟩,
  ⟨0x3010, 2, 256, 6, 1, 0, 0x06000118, 32, 0, false⟩,
  ⟨0x3010, 2, 256, 7, 1, 0, 0x0600011C, 32, 0, false⟩,
  ⟨0x3010, 2, 256, 8, 1, 0, 0x06000120, 32, 0, false⟩,
  ⟨0x3010, 2, 256, 9, 1, 0, 0x06000124, 32, 0, false⟩,
  ⟨0x3010, 2, 256, 10, 1, 0, 0x06000128, 32, 0, false⟩,
  ⟨0x3010, 2, 256, 11, 1, 0, 0x06000130, 32, 0, false⟩,
  ⟨0x3010, 2, 256, 12, 1, 0, 0x06000134, 32, 0, false⟩,
  ⟨0x3010, 2, 256, 13, 1, 0, 0x06000138, 32, 0, false⟩,
  ⟨0x3010, 2, 256, 14, 1, 0, 0x0600013C, 32, 0, false⟩,
  ⟨0x3020, 2, 256, 1, 1, 0, 0x06000140, 32, 0, true⟩,
  ⟨0x3020, 2, 256, 2, 1, 0, 0x06000144, 32, 0, true⟩,
  ⟨0x3020, 2, 256, 3, 1, 0, 0x06000148, 64, 0, true⟩,
  ⟨0x3020, 2, 256, 4, 1, 0, 0x06000150, 32, 0, true⟩,
  ⟨0x3020, 2, 256, 5, 1, 0, 0x06000154, 32, 0, true⟩,
  ⟨0x3020, 2, 256, 6, 1, 0, 0x06000158, 64, 0, true⟩,
  ⟨0x3020, 2, 256, 7, 1, 0, 0x06000160, 64, 0, true⟩,
  ⟨0x3020, 2, 256, 8, 1, 0, 0x06000168, 32, 0, true⟩,
  ⟨0x3100, 1, 0, 1, 1, 0, 0x06010000, 32, 0, true⟩,
  ⟨0x3100, 1, 0, 2, 1, 0, 0x06010004, 32, 0, true⟩,
  ⟨0x3100, 1, 0, 3, 1, 0, 0x06010008, 32, 0, true⟩,
  ⟨0x3100, 1, 0, 4, 1, 0, 0x0601000C, 32, 0, true⟩,
  ⟨0x3100, 1, 0, 5, 4, 4, 0x06010010, 32, 0, true⟩,
  ⟨0x3100, 1, 0, 9, 1, 0, 0x06010020, 32, 0, true⟩,
  ⟨0x3100, 1, 0, 10, 1, 0, 0x06010030, 64, 0, true⟩,
  ⟨0x3101, 1, 0, 1, 4, 4, 0x06010120, 32, 0, true⟩,
  ⟨0x3101, 1, 0, 5, 1, 0, 0x06010130, 32, 0, true⟩]

/-- Register objects, part 3. -/
def objRegs3 : List ObjRow := [
  ⟨0x3101, 1, 0, 6, 1, 0, 0x06010134, 32, 0, true⟩,
  ⟨0x3102, 2, 512, 1, 128, 4, 0x06011000, 32, 0, true⟩,
  ⟨0x3110, 64, 16, 1, 1, 0, 0x06012000, 32, 0, true⟩,
  ⟨0x3110, 64, 16, 2, 1, 0, 0x06012004, 32, 0, true⟩,
  ⟨0x3110, 64, 16, 3, 1, 0, 0x06012008, 32, 0, false⟩,
  ⟨0x3110, 64, 16, 4, 1, 0, 0x0601200C, 32, 0, true⟩,
  ⟨0x3200, 1, 0, 1, 1, 0, 0x06020000, 32, 0, false⟩,
  ⟨0x3200, 1, 0, 2, 1, 0, 0x06020004, 32, 0, true⟩,
  ⟨0x3200, 1, 0, 3, 1, 0, 0x06020008, 32, 0, false⟩,
  ⟨0x3200, 1, 0, 4, 1, 0, 0x0602000C, 32, 0, false⟩,
  ⟨0x3200, 1, 0, 5, 1, 0, 0x06020010, 32, 0, false⟩,
  ⟨0x3200, 1, 0, 6, 1, 0, 0x06020014, 32, 0, true⟩,
  ⟨0x3200, 1, 0, 7, 1, 0, 0x06020018, 32, 0, true⟩,
  ⟨0x4000, 512, 4, 1, 1, 0, 0x0602A800, 32, 0, false⟩,
  ⟨0x4200, 32, 16, 1, 1, 0, 0x0602B000, 32, 0, false⟩,
  ⟨0x4200, 32, 16, 2, 1, 0, 0x0602B004, 32, 0, false⟩,
  ⟨0x4200, 32, 16, 3, 1, 0, 0x0602B008, 32, 0, false⟩,
  ⟨0x4200, 32, 16, 4, 1, 0, 0x0602B00C, 32, 0, false⟩,
  ⟨0x4300, 32, 16, 1, 1, 0, 0x0602B200, 32, 0, false⟩,
  ⟨0x4300, 32, 16, 2, 1, 0, 0x0602B204, 32, 0, false⟩,
  ⟨0x4300, 32, 16, 3, 1, 0, 0x0602B208, 32, 0, true⟩,
  ⟨0x4300, 32, 16, 4, 1, 0, 0x0602B20C, 32, 0, true⟩,
  ⟨0x4400, 256, 16, 1, 1, 0, 0x06021000, 32, 0, false⟩,
  ⟨0x4400, 256, 16, 2, 1, 0, 0x06021004, 32, 0, false⟩,
  ⟨0x4400, 256, 16, 3, 1, 0, 0x06021008, 32, 0, false⟩,
  ⟨0x4400, 256, 16, 4, 1, 0, 0x0602100C, 32, 0, false⟩,
  ⟨0x4700, 1, 0, 1, 1, 0, 0x06020200, 32, 0, true⟩,
  ⟨0x4700, 1, 0, 2, 1, 0, 0x06020204, 32, 0, true⟩,
  ⟨0x4800, 8, 64, 1, 1, 0, 0x06030100, 32, 0, true⟩,
  ⟨0x4800, 8, 64, 2, 1, 0, 0x06030104, 32, 0, true⟩,
  ⟨0x4800, 8, 64, 3, 1, 0, 0x06030108, 32, 0, false⟩,
  ⟨0x4800, 8, 64, 4, 1, 0, 0x0603010C, 32, 0, true⟩,
  ⟨0x4800, 8, 64, 5, 1, 0, 0x06030110, 32, 0, true⟩,
  ⟨0x4800, 8, 64, 6, 1, 0, 0x06030114, 32, 0, true⟩,
  ⟨0x4800, 8, 64, 7, 1, 0, 0x06030118, 32, 0, true⟩,
  ⟨0x4800, 8, 64, 8, 1, 0, 0x0603011C, 32, 0, true⟩,
  ⟨0x4800, 8, 64, 9, 1, 0, 0x06030120, 32, 0, true⟩,
  ⟨0x4820, 1, 0, 1, 1, 0, 0x06030000, 32, 0, true⟩,
  ⟨0x5001, 1, 0, 1, 1, 0, 0x06120028, 32, 0, true⟩,
  ⟨0x5001, 1, 0, 2, 1, 0, 0x0612002C, 32, 0, true⟩,
  ⟨0x5020, 1, 0, 1, 1, 0, 0x060C0080, 64, 0, true⟩,
  ⟨0x5020, 1, 0, 2, 1, 0, 0x060C0088, 64, 0, true⟩,
  ⟨0x5030, 1, 0, 1, 1, 0, 0x060D0000, 32, 0, true⟩,
  ⟨0x5030, 1, 0, 2, 1, 0, 0x060D0010, 32, 0, true⟩,
  ⟨0x5030, 1, 0, 3, 1, 0, 0x060D0014, 32, 0, true⟩]

/-- Register objects, part 4. -/
def objRegs4 : List ObjRow := [
  ⟨0x5030, 1, 0, 4, 1, 0, 0x060D0020, 64, 0, true⟩,
  ⟨0x5031, 1, 0, 1, 19, 16, 0x060D0100, 64, 0, true⟩,
  ⟨0x5032, 1, 0, 1, 19, 16, 0x060D0108, 64, 0, true⟩,
  ⟨0x5100, 1, 0, 1, 1, 0, 0x06010028, 64, 0, true⟩,
  ⟨0x5100, 1, 0, 2, 10, 4, 0x06010044, 32, 0, true⟩,
  ⟨0x5110, 64, 16, 1, 4, 4, 0x06013000, 32, 0, true⟩,
  ⟨0x5200, 1, 0, 1, 16, 8, 0x06020100, 64, 0, true⟩,
  ⟨0x5200, 1, 0, 17, 1, 0, 0x06020180, 32, 0, true⟩,
  ⟨0x5200, 1, 0, 18, 1, 0, 0x06020184, 32, 0, true⟩,
  ⟨0x5200, 1, 0, 19, 1, 0, 0x06020188, 64, 0, true⟩,
  ⟨0x5300, 1, 0, 1, 6, 8, 0x06020210, 64, 0, true⟩,
  ⟨0x5400, 8, 64, 1, 1, 0, 0x06030124, 32, 0, true⟩,
  ⟨0x5400, 8, 64, 2, 1, 0, 0x06030128, 64, 0, true⟩,
  ⟨0x5500, 1, 0, 1, 1, 0, 0x06040008, 64, 0, true⟩,
  ⟨0x5500, 1, 0, 2, 1, 0, 0x06040010, 32, 0, true⟩,
  ⟨0x5500, 1, 0, 3, 1, 0, 0x06040014, 32, 0, true⟩,
  ⟨0x5501, 1, 0, 1, 48, 4, 0x06040100, 32, 0, true⟩,
  ⟨0x5502, 1, 0, 1, 48, 4, 0x06040200, 32, 0, true⟩,
  ⟨0x5600, 1, 0, 1, 1, 0, 0x06050060, 64, 0, true⟩,
  ⟨0x5600, 1, 0, 2, 1, 0, 0x06050068, 64, 0, true⟩,
  ⟨0x5600, 1, 0, 3, 1, 0, 0x06050070, 32, 0, true⟩,
  ⟨0x5700, 1, 0, 1, 1, 0, 0x06060000, 32, 0, true⟩,
  ⟨0x5700, 1, 0, 2, 1, 0, 0x06060008, 64, 0, true⟩,
  ⟨0x5700, 1, 0, 3, 1, 0, 0x06060018, 64, 0, true⟩,
  ⟨0x5700, 1, 0, 4, 1, 0, 0x06060020, 32, 0, true⟩,
  ⟨0x5700, 1, 0, 5, 1, 0, 0x06060024, 32, 0, true⟩,
  ⟨0x5700, 1, 0, 6, 1, 0, 0x06060028, 32, 0, true⟩,
  ⟨0x5701, 1, 0, 1, 16, 8, 0x06060100, 64, 0, true⟩,
  ⟨0x5800, 1, 0, 1, 1, 0, 0x06070008, 32, 0, true⟩,
  ⟨0x5800, 1, 0, 2, 1, 0, 0x06070040, 64, 0, true⟩,
  ⟨0x5800, 1, 0, 3, 1, 0, 0x06070048, 64, 0, true⟩,
  ⟨0x5800, 1, 0, 4, 1, 0, 0x06070050, 64, 0, true⟩,
  ⟨0x5800, 1, 0, 5, 1, 0, 0x06070058, 32, 0, true⟩,
  ⟨0x5801, 1, 0, 1, 18, 4, 0x06070100, 32, 0, true⟩,
  ⟨0x5801, 1, 0, 19, 18, 4, 0x06070180, 32, 0, true⟩,
  ⟨0x5900, 1, 0, 1, 32, 64, 0x060F0024, 32, 0, true⟩,
  ⟨0x5900, 1, 0, 33, 1, 0, 0x060F0800, 32, 0, true⟩,
  ⟨0x5A00, 1, 0, 1, 1, 0, 0x0608000C, 32, 0, true⟩,
  ⟨0x5A00, 1, 0, 2, 1, 0, 0x06080010, 32, 0, true⟩,
  ⟨0x5A00, 1, 0, 3, 1, 0, 0x06080014, 32, 0, true⟩,
  ⟨0x5A00, 1, 0, 4, 1, 0, 0x06080018, 64, 0, true⟩,
  ⟨0x5A00, 1, 0, 5, 1, 0, 0x06080020, 64, 0, true⟩,
  ⟨0x5B00, 1, 0, 1, 1, 0, 0x06090004, 32, 0, true⟩,
  ⟨0x5B00, 1, 0, 2, 1, 0, 0x06090010, 32, 0, true⟩,
  ⟨0x5B00, 1, 0, 3, 1, 0, 0x06090018, 64, 0, true⟩]

/-- Register objects, part 5. -/
def objRegs5 : List ObjRow := [
  ⟨0x5B00, 1, 0, 4, 1, 0, 0x06090048, 64, 0, true⟩,
  ⟨0x5B00, 1, 0, 5, 1, 0, 0x060900D8, 32, 0, true⟩,
  ⟨0x5B01, 1, 0, 1, 2, 8, 0x060900C0, 64, 0, true⟩,
  ⟨0x5C00, 1, 0, 1, 1, 0, 0x06110000, 32, 0, true⟩,
  ⟨0x5C00, 1, 0, 2, 1, 0, 0x06110004, 32, 0, true⟩,
  ⟨0x5D00, 8, 32, 1, 1, 0, 0x060A0108, 32, 0, true⟩,
  ⟨0x5D00, 8, 32, 2, 1, 0, 0x060A010C, 32, 0, true⟩,
  ⟨0x5D00, 8, 32, 3, 1, 0, 0x060A0110, 32, 0, true⟩,
  ⟨0x5D00, 8, 32, 4, 1, 0, 0x060A0118, 64, 0, true⟩,
  ⟨0x5D08, 1, 0, 1, 32, 4, 0x060A0800, 32, 0, true⟩,
  ⟨0x5D09, 1, 0, 1, 32, 4, 0x060A0880, 32, 0, true⟩,
  ⟨0x5D0A, 1, 0, 1, 32, 4, 0x060A0900, 32, 0, true⟩,
  ⟨0x5E00, 1, 0, 1, 1, 0, 0x06100000, 64, 0, true⟩,
  ⟨0x5E00, 1, 0, 2, 1, 0, 0x06100008, 64, 0, true⟩,
  ⟨0x5E00, 1, 0, 3, 1, 0, 0x06100010, 32, 0, true⟩,
  ⟨0x5E00, 1, 0, 4, 1, 0, 0x06100018, 64, 0, true⟩,
  ⟨0x5E00, 1, 0, 5, 1, 0, 0x06100020, 64, 0, true⟩,
  ⟨0x5E00, 1, 0, 6, 1, 0, 0x06100028, 32, 0, false⟩,
  ⟨0x5E00, 1, 0, 7, 1, 0, 0x0610002C, 32, 0, false⟩,
  ⟨0x5E00, 1, 0, 8, 1, 0, 0x06100030, 32, 0, true⟩,
  ⟨0x5E00, 1, 0, 9, 1, 0, 0x06100034, 32, 0, true⟩,
  ⟨0x5E00, 1, 0, 10, 1, 0, 0x06100038, 64, 0, true⟩,
  ⟨0x5E00, 1, 0, 11, 1, 0, 0x06100040, 32, 0, true⟩,
  ⟨0x5E00, 1, 0, 12, 1, 0, 0x06100044, 32, 0, false⟩,
  ⟨0x5E00, 1, 0, 13, 1, 0, 0x06100048, 64, 0, false⟩,
  ⟨0x5F00, 1, 0, 1, 1, 0, 0x060B0004, 32, 0, true⟩,
  ⟨0x5F00, 1, 0, 2, 1, 0, 0x060B0014, 32, 0, true⟩,
  ⟨0x5F00, 1, 0, 3, 1, 0, 0x060B0024, 32, 0, true⟩,
  ⟨0x5F00, 1, 0, 4, 1, 0, 0x060B0028, 64, 0, true⟩,
  ⟨0x5F00, 1, 0, 5, 1, 0, 0x060B0030, 32, 0, true⟩,
  ⟨0x5F00, 1, 0, 6, 1, 0, 0x060B0038, 64, 0, true⟩,
  ⟨0x5F00, 1, 0, 7, 1, 0, 0x060B0040, 64, 0, true⟩]

/-- The register objects. -/
def objRegs : List ObjRow :=
  objRegs0 ++ objRegs1 ++ objRegs2 ++ objRegs3 ++ objRegs4 ++ objRegs5

/-- The objects of 32-bit words of the NET windows (Table 12.8). -/
def objWins : List ObjRow := [
  ⟨0x1301, 8, 32, 1, 6, 4, 0x0609A000, 32, 0, false⟩,
  ⟨0x1381, 8, 128, 0, 17, 4, 0x0609A100, 32, 0, false⟩,
  ⟨0x1400, 64, 32, 1, 3, 4, 0x06091000, 32, 0, false⟩,
  ⟨0x1400, 64, 32, 5, 1, 0, 0x06091010, 32, 0, false⟩,
  ⟨0x1600, 64, 4, 0, 1, 0, 0x06090E00, 32, 0, false⟩,
  ⟨0x1600, 64, 256, 1, 64, 4, 0x06092000, 32, 0, false⟩,
  ⟨0x1800, 64, 32, 1, 3, 4, 0x06091800, 32, 0, false⟩,
  ⟨0x1800, 64, 32, 5, 1, 0, 0x06091810, 32, 0, false⟩,
  ⟨0x1A00, 64, 4, 0, 1, 0, 0x06090F00, 32, 0, false⟩,
  ⟨0x1A00, 64, 256, 1, 64, 4, 0x06096000, 32, 0, false⟩]

/-- A scalar object found: address, size in bits, lowest bit, mapping flag, and whether it is a word of a NET window. -/
structure Obj where
  addr : Nat
  size : Nat
  lo : Nat
  pdo : Bool
  win : Bool

/-- The row of a list that holds an object. -/
def objFindIn (win : Bool) : List ObjRow → Nat → Nat → Option Obj
  | [], _, _ => none
  | r :: l, index, sub =>
    if r.index ≤ index ∧ index < r.index + r.n ∧ r.sub ≤ sub ∧ sub < r.sub + r.m then
      some ⟨r.addr + r.istep * (index - r.index) + r.sstep * (sub - r.sub), r.size, r.lo, r.pdo, win⟩
    else objFindIn win l index sub

/-- The scalar object of an index and subindex. -/
def objFind (index sub : Nat) : Option Obj :=
  match objFindIn false objRegs index sub with
  | some o => some o
  | none => objFindIn true objWins index sub

/-- The DOMAIN objects. -/
inductive Dom where
  /-- A memory window: address of its first word. -/
  | window (addr : Nat)
  /-- Instruction RAM (false) or data RAM (true) of a scribe pair. -/
  | scribe (data : Bool) (p : Nat)
  /-- 0x2F00, tagged writes. -/
  | tagged
deriving DecidableEq, Repr

/-- A DOMAIN object: its kind, its size in bytes, and whether it is readable and writable. -/
structure DomObj where
  kind : Dom
  size : Nat
  r : Bool
  w : Bool

/-- The DOMAIN object of an index (R270). -/
def domFind (index : Nat) : Option DomObj :=
  if index = 0x2301 then some ⟨.window 0x06051000, 512, true, true⟩
  else if index = 0x2602 then some ⟨.window 0x06081000, 512, true, true⟩
  else if index = 0x2B01 then some ⟨.window 0x060E0100, 64, false, true⟩
  else if index = 0x2B11 then some ⟨.window 0x060E0900, 96, true, true⟩
  else if index = 0x2F00 then some ⟨.tagged, 16, false, true⟩
  else if index = 0x3030 ∨ index = 0x3031 then some ⟨.window (0x06008000 + 0x1000 * (index - 0x3030)), 4096, true, true⟩
  else if index = 0x3032 then some ⟨.window 0x0600C000, 8192, true, false⟩
  else if index = 0x4600 then some ⟨.window 0x06022000, 34816, true, true⟩
  else if index = 0x4601 then some ⟨.window 0x0602B400, 1024, true, true⟩
  else if 0x4810 ≤ index ∧ index < 0x4818 then some ⟨.scribe false (index - 0x4810), 65536, true, true⟩
  else if 0x4818 ≤ index ∧ index < 0x4820 then some ⟨.scribe true (index - 0x4818), 65536, true, true⟩
  else if index = 0x5201 then some ⟨.window 0x0602C000, 16384, true, false⟩
  else if index = 0x5301 then some ⟨.window 0x0602BC00, 1024, true, false⟩
  else if index = 0x5302 then some ⟨.window 0x0602B800, 1024, true, false⟩
  else if index = 0x5A01 then some ⟨.window 0x06082000, 512, true, false⟩
  else if index = 0x5A02 then some ⟨.window 0x0608C000, 4096, true, false⟩
  else none

/-- A PDO may map an object (R288). -/
def pdoMappable (index sub : Nat) : Bool :=
  match objFind index sub with
  | some o => o.pdo
  | none => false

/-- An SRDO may map an object in a direction (R354): `rx` for a receive SRDO. -/
def srdoMappable (rx : Bool) (index sub : Nat) : Bool :=
  (index == 0x2000 && sub == 1 && !rx) || (index == 0x3020 && sub == 4 && !rx) || (index == 0x2901 && sub == 1 && rx) ||
  (index == 0x2901 && sub == 2 && !rx)

end Sys2Proof.Machine
end

