-- ==== Sys2Proof/Machine/RegW.lean ====
section
/-! DEFINITION. Writing a register by address: the plain effect of the access codes (R7, R402), and for each register with a write
condition or an action of its own that condition and action. A handler answers the status the dictionary would refuse the write
with (R271), and the state after a system-bus write. -/
namespace Sys2Proof.Machine

open Sys2Proof

/-- The writer code of the device's own defaults (R274): not a bus master. -/
def byDefault : Nat := 0x100

/-- What a write of `v` under a bit mask offers the register: rw fields keep the bits not written, actions and one-to-clear bits
not written are 0. -/
def merged (h : Hit) (v mask : Nat) (s : State) : Nat :=
  h.row.fields.foldl (fun a f =>
    let m := mask / 2 ^ f.lo % 2 ^ f.w
    let n := v / 2 ^ f.lo % 2 ^ f.w &&& m
    let cur := s.rd (f.fld h.addr)
    a + 2 ^ f.lo * (match f.acc with
      | .rw => n ||| (cur ^^^ (cur &&& m))
      | .rwOnce => n ||| (cur ^^^ (cur &&& m))
      | .w1c => n
      | .wo => n
      | .ro => 0
      | .rc => 0)) 0

/-- The plain effect of a write: rw fields are set, w1c bits cleared (R7). -/
def fieldsWrite (h : Hit) (v : Nat) (s : State) : State :=
  h.row.fields.foldl (fun t f => match f.acc with
    | .rw => t.wr (f.fld h.addr) (v / 2 ^ f.lo)
    | .w1c => t.w1c (f.fld h.addr) (v / 2 ^ f.lo % 2 ^ f.w)
    | .rwOnce => t
    | .wo => t
    | .ro => t
    | .rc => t) s

/-- A plain write. -/
def plainW (h : Hit) (v : Nat) (s : State) : Nat × State := (St.ok, fieldsWrite h v s)

/-- A handler that sets a refused flag when it ignores the write: its status is then `st`. -/
def flagged (f : Fld) (st : Nat) (w : State → State) (s : State) : Nat × State :=
  let t := w (s.clr f)
  (if t.rdB f then st else St.ok, if s.rdB f then t.set1 f else t)

/-- A write that only acts: the command has been delivered (Table 12.2). -/
def acts (w : State → State) (s : State) : Nat × State := (St.ok, w s)

/-- A write with an ignored field value: the other fields are written, the field keeps its value (R402). -/
def ignoring (bad : Bool) (f : Fld) (w : State → Nat × State) (s : State) : Nat × State :=
  if bad then
    let r := w s
    (St.range, r.2.wr f (s.rd f))
  else w s

/-- SYS. -/
def writeSys (h : Hit) (v : Nat) (s : State) : Nat × State :=
  let o := h.addr % 0x10000
  if o = 0x4 then acts (modeReq (bits v 2 0) (bits v 5 4)) s
  else if o = 0xC then acts (resetCmd v) s
  else if o = 0x20 then
    let n := bits v 2 0
    ignoring (n == 0 || decide (6 ≤ n)) Fd.SYS_ARB_CFG_SDRAM_LOW_SHARE (cfgPaced (plainW h v)) s
  else plainW h v s

/-- A write of AFE settings that take effect at the next update tick (R65): the values they replace stay in force until then. -/
def afeLater (h : Hit) (w : State → Nat × State) (s : State) : Nat × State :=
  w (forEach (h.row.fields.filter (fun f => f.acc == .rw)) s (fun f t => afeHold (f.fld h.addr) t))

/-- AFE channel k. -/
def writeAfeCh (h : Hit) (o k v : Nat) (s : State) : Nat × State :=
  if o = 0x100 then
    let r := chCfgWrite k v s
    (if r.1 = St.ok ∧ (v % 4 = 3 ∨ bits v 3 2 = 0) then St.range else r.1, r.2)
  else if o = 0x104 then cprWrite k (bits v 20 0) s
  else if o = 0x110 ∨ o = 0x128 then afeGated (fieldsWrite h v) s
  else if o = 0x118 then tauWrite k (bits v 27 0) s
  else afeLater h (plainW h v) s

/-- AFE. -/
def writeAfe (h : Hit) (v : Nat) (s : State) : Nat × State :=
  let o := h.addr % 0x10000
  if 0x100 ≤ o then writeAfeCh h (o - 0x100 * h.i 0) (h.i 0) v s
  else if o = 0 ∨ o = 0x10 ∨ o = 0x14 then afeGated (fieldsWrite h v) s
  else if o = 0xC then plausNWrite (bits v 13 0) s
  else if o = 0x1C then (if bit v 0 then alignCmd s else (St.ok, s))
  else if o = 0x30 then
    acts (fun t => when_ (bit v 9) (swapReq 1) (when_ (bit v 8) (swapReq 0) (afeLater h (plainW h v) t).2)) s
  else if o = 0x34 then
    (if bit v 0 then learnStart (bits v 1 1) (bits v 2 2) (bits v 11 8)
      ((s.w1c Fd.AFE_LEARN_CTRL_DONE (bits v 17 17)).w1c Fd.AFE_LEARN_CTRL_ABORTED (bits v 18 18))
    else afeLater h (plainW h v) s)
  else if o = 0x38 then
    (if bit v 0 then statStart (bits v 1 1) (bits v 12 8) (s.w1c Fd.AFE_STAT_CTRL_DONE (bits v 17 17)) else afeLater h (plainW h v) s)
  else afeLater h (plainW h v) s

/-- BAR_OPEN of Table 4.7. -/
def queBarOpen (b : Nat) (s : State) : State := barOpen b s

/-- A write to QUE_CMD (Table 4.7). -/
def queCmdWrite (v : Nat) (s : State) : State :=
  let q := bits v 31 16
  let arg := bits v 15 8
  match v % 16 with
  | 0 => queCmd q (queInit q) s
  | 1 => queCmd q (queResume q) s
  | 2 => queCmd q (quePause q) s
  | 3 => queCmd q (queSkip q) s
  | 4 => queCmd q (queDisable q) s
  | 5 => queCmd q (queRepair q) s
  | 6 => queCmd q (queSetLate q (arg % 4)) s
  | 7 => queCmd q (queBarOpen arg) s
  | _ => queCmd q (queStatus q St.range) s

/-- The master of push port m (Table 4.4). -/
def pushMaster (m : Nat) : Nat := m + 1

/-- A write to a completion ring's configuration (R101): BASE and LOG2LEN are ignored while EN is 1. -/
def cringCfgWrite (g v : Nat) (s : State) : Nat × State :=
  let base := bits v 17 0
  let log2 := bits v 28 24
  if s.rdB (Fd.QUE_CRING_CFG_EN g) then
    let same := base == s.rd (Fd.QUE_CRING_CFG_BASE g) && log2 == s.rd (Fd.QUE_CRING_CFG_LOG2LEN g)
    (if same then St.ok else St.refusedMode, if bit v 31 then s else irqJudge (32 + g) (cringDisable g s))
  else if bit v 31 then flagged Fd.QUE_STAT_CRING_REFUSED St.range (cringEnable g base log2) s
  else (St.ok, (s.wr (Fd.QUE_CRING_CFG_BASE g) base).wr (Fd.QUE_CRING_CFG_LOG2LEN g) log2)

/-- A write of CIDX that would pass PIDX is ignored. -/
def cringCidxWrite (g v : Nat) (s : State) : Nat × State :=
  let len := cringLen s g
  let step := (v % 2 ^ 16 + len - s.rd (Fd.QUE_CRING_CIDX_CIDX g) % len) % len
  let bad := decide (len ≤ v % 2 ^ 16) || decide (cringCount s g < step)
  let s1 := s.wr (Fd.QUE_CRING_CIDX_THRESH g) (bits v 31 16)
  (if bad then St.range else St.ok, irqJudge (32 + g) (if bad then s1 else s1.wr (Fd.QUE_CRING_CIDX_CIDX g) (v % 2 ^ 16)))

/-- A write of NEED is ignored while arrivals wait (R93). -/
def needWrite (b v : Nat) (s : State) : Nat × State :=
  if s.rd (Fd.QUE_BAR_ARRIVED b) ≠ 0 then (St.refusedMode, s.set1 Fd.QUE_STAT_BAR_REFUSED)
  else (St.ok, s.wr (Fd.QUE_BAR_NEED b) (bits v 15 0))

/-- QUE. -/
def writeQue (h : Hit) (v master : Nat) (s : State) : Nat × State :=
  let o := h.addr % 0x10000
  let i := h.i 0
  if o = 0 then acts (queCmdWrite v) s
  else if o = 0x30 then acts (groupEnable v) s
  else if 0x100 ≤ o ∧ o < 0x160 then
    if master ≠ pushMaster i then (St.access, s.set1 Fd.QUE_STAT_PORT_MISUSE)
    else if o % 32 = 0x10 then acts (hostPush i (bits v 15 0) (bits v 17 16)) s
    else plainW h v s
  else if 0x1000 ≤ o ∧ o < 0x2000 then needWrite i v s
  else if 0x2000 ≤ o ∧ o < 0x3000 ∧ o % 16 = 0 then cringCfgWrite i v s
  else if 0x2000 ≤ o ∧ o < 0x3000 ∧ o % 16 = 8 then cringCidxWrite i v s
  else plainW h v s

/-- NIB. -/
def writeNib (h : Hit) (v master : Nat) (s : State) : Nat × State :=
  let o := h.addr % 0x10000
  let c := h.i 0
  if o = 0x8 then
    let n := bits v 19 0
    if n < 4000 ∨ 1000000 < n then (St.range, s.set1 Fd.NIB_ARITH_STAT_CFG_REFUSED) else plainW h v s
  else if 0x1000 ≤ o ∧ o < 0x2000 ∧ o % 16 = 0 then
    acts (fun t => when_ (master != byDefault) (fun u => u.set1 (Fd.NIB_LC_STAT_SEEDED c)) (fieldsWrite h v t)) s
  else if 0x1000 ≤ o ∧ o < 0x2000 ∧ o % 16 = 8 then
    acts (fun t => when_ (bit v 2) (reseed c) (fieldsWrite h v t)) s
  else plainW h v s

/-- The refusals of a channel binding (R132, R133). -/
def bindStatus (w : State → State) (s : State) : Nat × State :=
  if !cfgMode s then (St.refusedMode, s.set1 Fd.CHN_STAT_CFG_REFUSED)
  else
    let r := flagged Fd.CHN_STAT_BIND_REFUSED St.refusedMode (fun t => (flagged Fd.CHN_STAT_CFG_REFUSED St.range w t).2) s
    let q := flagged Fd.CHN_STAT_CFG_REFUSED St.range w s
    (if r.1 ≠ St.ok then r.1 else q.1, r.2)

/-- CHN (in the NIB block's window). -/
def writeChn (h : Hit) (v : Nat) (s : State) : Nat × State :=
  let o := h.addr % 0x10000
  let i := h.i 0
  if o = 0x204 then acts (fun t => irqJudge 178 (fieldsWrite h v t)) s
  else if 0xA800 ≤ o ∧ o < 0xB000 then bindStatus (bindDirect i v) s
  else if 0xB000 ≤ o ∧ o < 0xB200 then bindStatus (bindString i (o % 16 / 4) v) s
  else if 0xB200 ≤ o ∧ o % 16 < 8 then
    (if cfgMode s then plainW h v s else (St.refusedMode, s.set1 Fd.CHN_STAT_CFG_REFUSED))
  else plainW h v s

/-- A doorbell write sets bits of PENDING. -/
def ringBell (p v : Nat) (s : State) : State := s.orF (Fd.SCR_DOORBELL_PENDING p) (bits v 15 0)

/-- The status a debug register write was refused with, if it was (R170). -/
def dbgWrite (w : State → State) (s : State) : Nat × State :=
  let t := w s
  (if hasRight 3 s then St.ok else St.access, t)

/-- SCR. -/
def writeScr (h : Hit) (v : Nat) (s : State) : Nat × State :=
  let o := h.addr % 0x10000
  let p := h.i 0
  if 0x100 ≤ o ∧ o < 0x400 then
    if o % 64 = 0 then acts (scrCmd p (bits v 3 0)) s
    else if o % 64 = 0x1C then acts (ringBell p v) s
    else if o % 64 = 0x20 then
      acts (fun t => forEach (List.range 4) (fieldsWrite h v t) (fun j u => irqJudge (200 + 4 * p + j) u)) s
    else plainW h v s
  else if o = 0x400 then dbgWrite (dbgCtrl v) s
  else if o = 0x414 then dbgWrite (dbgRegWrite v) s
  else if 0x400 ≤ o then dbgWrite (dbgServe (fun t => dbgStatus St.ok (fieldsWrite h v t))) s
  else plainW h v s

/-- FAB. -/
def writeFab (h : Hit) (v : Nat) (s : State) : Nat × State :=
  let o := h.addr % 0x10000
  if o = 0x20 then
    let t := loupeWrite none v s
    (t.rd Fd.FAB_LOUPE_CTRL_STATUS, t)
  else if 0x400 ≤ o ∧ o < 0x500 then
    let t := loupeWrite (some (h.i 0)) v s
    (t.rd Fd.FAB_LOUPE_CTRL_STATUS, t)
  else if 0x1000 ≤ o then
    (if !cfgMode s then St.refusedMode else if bits v 5 4 = 3 then St.range else St.ok, iocfgWrite (h.i 0) v s)
  else plainW h v s

/-- RESTART (Table 9.7): a warm reset, in STANDBY and SAFE. -/
def cfgRestart (master : Nat) (s : State) : State :=
  cfgCmd master 9 (fun t =>
    if t.mode = Md.standby ∨ t.mode = Md.safe then warmReset Fd.SYS_RESET_CAUSE_WARM_CMD (t.wr Fd.CFG_CMD_STAT_STATUS St.ok)
    else cfgStatus St.refusedMode t) s

/-- A write to CFG_CMD (Table 9.7). -/
def cfgCmdWrite (v master : Nat) (s : State) : State :=
  let b := bits v 4 4
  let sector := bits v 12 8
  let slot := bits v 20 16
  match v % 16 with
  | 1 => cfgAuthBank master b s
  | 2 => cfgErase master b s
  | 3 => cfgProgram master b s
  | 4 => cfgReadPage master b s
  | 5 => cfgHashSlot master b slot s
  | 6 => cfgShadowLoad master b slot sector s
  | 7 => cfgShadowClear master sector s
  | 8 => cfgCommit master b s
  | 9 => cfgRestart master s
  | 10 => cfgRowErase master s
  | 11 => cfgRowProgram master s
  | op => cfgCmd master op (cfgStatus St.range) s

/-- CFG. -/
def writeCfg (h : Hit) (v master : Nat) (s : State) : Nat × State :=
  let o := h.addr % 0x10000
  if o = 0 then acts (cfgCmdWrite v master) s
  else if o = 0x30 then
    let n := bits v 3 0
    ignoring (n == 0 || decide (10 < n)) Fd.CFG_SCRUB_CFG_PERIOD (plainW h v) s
  else plainW h v s

/-- A write to an error-injection register: ARMED arms, DISARM cancels and wins (R231). -/
def injWrite (h : Hit) (v : Nat) (armed : Fld) (arm : State → State) (s : State) : Nat × State :=
  if !injAllowed s then (St.access, injRefuse s)
  else if bit v 62 then (St.ok, (fieldsWrite h v s).clr armed)
  else if bit v 63 then (St.ok, arm s)
  else plainW h v s

/-- A write to a remap entry (R226): the name is ignored while VALID is 1; setting VALID promotes, clearing it releases. -/
def remapWrite (tbl bank i v : Nat) (s : State) : Nat × State :=
  let name := remapName tbl bank i
  let word := v % 2 ^ name.w
  if s.rdB (remapValid tbl bank i) then
    (if word = s.rd name then St.ok else St.refusedMode, if bit v 31 then s else remapRelease tbl bank i s)
  else (St.ok, if bit v 31 then remapPromote tbl bank i word s else s.wr name word)

/-- MEM. -/
def writeMem (h : Hit) (v master : Nat) (s : State) : Nat × State :=
  let o := h.addr % 0x10000
  let i := h.i 0
  if o = 0x30 then injWrite h v Fd.MEM_INJ_ARMED (memInjArm (bits v 31 0) (bits v 35 32) (bits v 47 40)) s
  else if 0x200 ≤ o ∧ o < 0x220 then
    if master = byDefault then plainW h v s
    else flagged Fd.MEM_STAT_OWN_REFUSED St.access (ownerChange i (bits v 7 0) master) s
  else if 0x300 ≤ o ∧ o < 0x400 then remapWrite 0 i (h.i 1) v s
  else if 0x400 ≤ o ∧ o < 0x500 then remapWrite 1 i (h.i 1) v s
  else plainW h v s

/-- A write to a spare line's entry (R243). A default fills the entry alone; the line is loaded when training ends. -/
def xmcRemapWrite (h : Hit) (i v master : Nat) (s : State) : Nat × State :=
  let line := bits v 39 6
  if master = byDefault then plainW h v s
  else if s.rdB (Fd.XMC_REMAP_VALID i) then
    (if line = s.rd (Fd.XMC_REMAP_LINE i) then St.ok else St.refusedMode, if bit v 63 then s else spareFree i s)
  else (St.ok, if bit v 63 then spareTake i line s else s.wr (Fd.XMC_REMAP_LINE i) line)

/-- A write to XMC_CMD. -/
def xmcCmdWrite (v : Nat) (s : State) : State :=
  let rank := bits v 8 8
  let dev := bits v 20 16
  match v % 16 with
  | 1 => xmcFill (s.rd Fd.XMC_CMD_ADDR_LINE) (s.rd Fd.XMC_CMD_LEN_LINES) (s.rd Fd.XMC_FILL_PAT_PAT) s
  | 2 => xmcMark rank dev s
  | 3 => xmcUnmark rank dev s
  | 4 => xmcPatrolRestart s
  | _ => xmcCmd (xmcStatus St.range) s

/-- XMC. -/
def writeXmc (h : Hit) (v master : Nat) (s : State) : Nat × State :=
  let o := h.addr % 0x10000
  if o = 0 then
    let st := s.rd Fd.XMC_STAT_STATE
    if st = 0 ∨ st = 4 then ignoring (bits v 1 0 == 3) Fd.XMC_CFG_RANKS (plainW h v) s else (St.refusedMode, s)
  else if o = 0x4 then acts (fun t => when_ (bit v 0) xmcInit (fieldsWrite h v t)) s
  else if o = 0xC then acts (xmcCmdWrite v) s
  else if o = 0x60 then
    injWrite h v Fd.XMC_INJ_ARMED (xmcInjArm (bits v 39 6) (bits v 44 40) (bits v 49 45) (bits v 50 50)) s
  else if 0x200 ≤ o then xmcRemapWrite h (h.i 0) v master s
  else plainW h v s

/-- DMA: writes to a descriptor are ignored while its channel is RUNNING. -/
def writeDma (h : Hit) (v : Nat) (s : State) : Nat × State :=
  let o := h.addr % 0x10000
  let n := h.i 0
  if o % 64 = 0x20 ∧ o < 0x800 then acts (dmaCmd n (bits v 1 0)) s
  else if o < 0x800 ∧ o % 64 < 0x20 ∧ dmaState s n = 1 then (St.refusedMode, s)
  else plainW h v s

/-- A write to UFL_CMD (Table 11.2). -/
def uflCmdWrite (v master : Nat) (s : State) : State :=
  match v % 16 with
  | 1 => uflErase master s
  | 2 => uflProgram master s
  | 3 => uflCompare master s
  | 4 => uflBlank master s
  | op => uflOther master op s

/-- UFL. -/
def writeUfl (h : Hit) (v master : Nat) (s : State) : Nat × State :=
  let o := h.addr % 0x10000
  if o = 0 then acts (uflCmdWrite v master) s
  else if 0x100 ≤ o then
    if s.ufl.xoUsed.contains (h.i 0) then (St.access, s)
    else flagged Fd.UFL_STAT_XO_REFUSED St.range (xoWrite (h.i 0) v) s
  else plainW h v s

/-- The end of a store or restore write that was refused at once, on the bus: the status register alone tells it. -/
def storeBus (void : Bool) (v client tag : Nat) (s : State) : Nat × State :=
  match storeWriteObj void v client tag s with
  | (some o, t) => (o.st, t.wr Fd.NET_STORE_STAT_STATUS o.st)
  | (none, t) => (St.ok, t)

/-- Clear the error history (0x1003). -/
def histClear (s : State) : State :=
  forEach (List.range 16) (s.clr Fd.NET_ERR_HIST_CNT_COUNT) (fun i t =>
    ((t.clr (Fd.NET_ERR_HIST_CODE i)).clr (Fd.NET_ERR_HIST_ORIGIN i)).clr (Fd.NET_ERR_HIST_DETAIL i))

/-- NET; a store begun by a system-bus write has no client to answer. -/
def writeNet (h : Hit) (v : Nat) (s : State) : Nat × State :=
  let o := h.addr % 0x10000
  if o = 0 then
    ignoring (bits v 6 0 == 0) Fd.NET_CFG_NODE_ID (ignoring (decide (4 ≤ bits v 10 8)) Fd.NET_CFG_ARB_RATE
      (ignoring (decide (5 ≤ bits v 14 12)) Fd.NET_CFG_DATA_RATE (plainW h v))) s
  else if o = 0x8 then storeBus false v 255 0 s
  else if o = 0xC then storeBus true v 255 0 s
  else if o = 0x28 then (if 2 < bits v 7 0 then (St.range, s) else plainW h v s)
  else if o = 0x40 then (if bits v 7 0 = 1 ∨ 240 < bits v 7 0 then (St.range, s) else plainW h v s)
  else if o = 0x70 then (if bits v 4 0 = 0 then (St.ok, histClear s) else (St.range, s))
  else plainW h v s

/-- IRQ: a change that moves M starts or stops moderation (R307). -/
def writeIrq (h : Hit) (v : Nat) (s : State) : Nat × State :=
  let o := h.addr % 0x10000
  let i := h.i 0
  if 0x1000 ≤ o then (if irqExists i then acts (fun t => irqJudge i (irqReroute t (fieldsWrite h v t))) s else (St.range, s))
  else if 0x880 ≤ o ∧ o < 0x900 then
    acts (fun t => forEach (List.range 32) t (fun b u => if bit v b then irqPendSet (32 * i + b) u else u)) s
  else if 0x800 ≤ o ∧ o < 0x880 then
    acts (fun t => forEach (List.range 32) t (fun b u => if bit v b then irqPendClear (32 * i + b) u else u)) s
  else if o < 0x200 ∧ o % 32 = 0xC then acts (irqComplete i (bits v 9 0)) s
  else if o < 0x200 ∧ o % 32 = 0 ∧ 4 ≤ i then (St.ok, s.wr (Fd.IRQ_TGT_CFG_THRESH i) (bits v 3 0))
  else acts (fun t => irqReroute t (fieldsWrite h v t)) s

/-- A write to LOG_CMD. -/
def logCmdWrite (v : Nat) (s : State) : State :=
  match v % 16 with
  | 1 => logExport s
  | 2 => exportAbort s
  | _ => logCmdOther s

/-- LOG. -/
def writeLog (h : Hit) (v master : Nat) (s : State) : Nat × State :=
  let o := h.addr % 0x10000
  if o = 0x10 then (St.ok, if bit v 0 then qualAck s else s)
  else if o = 0x28 then acts (fun t => autoExport (irqJudge 400 (fieldsWrite h v t))) s
  else if o = 0x2C then flagged Fd.LOG_STAT_CFG_REFUSED St.range (rseqWrite v) s
  else if o = 0x38 then flagged Fd.LOG_STAT_CFG_REFUSED St.access (logUser v master) s
  else if o = 0x40 then acts (logCmdWrite v) s
  else if o = 0x44 then
    if master = byDefault then (if exportCfgBad v s then (St.range, s) else plainW h v s)
    else flagged Fd.LOG_STAT_CFG_REFUSED (if s.rdB Fd.LOG_EXPORT_STAT_BUSY then St.refusedMode else St.range)
      (fun t => autoExport (exportCfg v t)) s
  else plainW h v s

/-- PWR. The idle timer begins to count when EN becomes 1 (R333). -/
def writePwr (h : Hit) (v master : Nat) (s : State) : Nat × State :=
  if h.addr % 0x10000 = 0 ∧ master ≠ byDefault then acts (plRequest (bits v 1 0)) s
  else if h.addr % 0x10000 = 0xC ∧ bit v 18 ∧ !s.rdB Fd.PWR_IDLE_TMR_EN then plainW h v (idleRestart s)
  else plainW h v s

/-- The status a configuration write to SAF is refused with (R347): mode and lock first, then the value. -/
def safStatus (w : State → State) (s : State) : Nat × State :=
  flagged Fd.SAF_STAT_CFG_REFUSED
    (if s.rdB Fd.SAF_LOCK_LOCK then St.access else if safCfgOk s then St.range else St.refusedMode) w s

/-- SAF. -/
def writeSaf (h : Hit) (v master : Nat) (s : State) : Nat × State :=
  let o := h.addr % 0x10000
  if o = 0x8 then acts (faultAck v) s
  else if 0x20 ≤ o ∧ o < 0x30 then safStatus (classWrite (h.i 0) v) s
  else if o = 0x30 then (if s.saf.lockUsed || s.rdB Fd.SAF_LOCK_LOCK then (St.access, s) else (St.ok, safLock v s))
  else if o = 0x40 then safStatus (wdgCfgWrite v) s
  else if o = 0x44 then acts (wdgKick (bits v 15 0) master) s
  else if o = 0x50 then safStatus (limCfgWrite v) s
  else plainW h v s

/-- A write to BST_CMD. -/
def bstCmdWrite (v : Nat) (s : State) : State :=
  let t := bits v 12 8
  match v % 4 with
  | 1 => bstStop t s
  | 2 => bstResume t s
  | 3 => bstRestart t s
  | _ => s.wr Fd.BST_STAT_STATUS St.range

/-- BST. -/
def writeBst (h : Hit) (v : Nat) (s : State) : Nat × State :=
  let o := h.addr % 0x10000
  if o = 0x4 then acts (bstCmdWrite v) s
  else if o = 0x8 then flagged Fd.BST_STAT_CFG_REFUSED St.access (bstEnWrite (bits v 18 0)) s
  else if o = 0xC then (if bstOpen s then St.ok else St.access, bstMaskWrite v s)
  else if o = 0x18 then
    (if bit v 31 then flagged Fd.BST_STAT_CFG_REFUSED St.access (bstInj (bits v 4 0)) s
     else if bstRight s then plainW h v s
     else (St.access, bstRefuse s))
  else plainW h v s

/-- A write to LCS_CMD (Table 16.4). -/
def lcsCmdWrite (v master : Nat) (s : State) : State :=
  let key := bits v 31 16
  match v % 16 with
  | 1 => lcsProvision key (bits v 5 4) master s
  | 2 => lcsClose key master s
  | 3 => lcsScrap key master s
  | 4 => lcsRaiseFloor key master s
  | 5 => lcsBump key master s
  | _ => lcsOther master s

/-- LCS and DBG. -/
def writeLcs (h : Hit) (v master : Nat) (s : State) : Nat × State :=
  let o := h.addr % 0x10000
  if o = 0x8 then acts (lcsCmdWrite v master) s
  else if o = 0x800 then
    acts (if v % 4 = 1 then dbgPresent master else if v % 4 = 2 then dbgRevoke master else dbgOther master) s
  else plainW h v s

/-- A write of `v` to the bits of a mask of a register. -/
def regWrite (h : Hit) (v0 mask master : Nat) (s : State) : Nat × State :=
  let v := merged h v0 mask s
  let b := h.addr / 0x10000
  let o := h.addr % 0x10000
  if b = 0x600 then writeAfe h v s
  else if b = 0x601 then writeQue h v master s
  else if b = 0x602 then
    (if (0x200 ≤ o ∧ o < 0x300 ∧ o ≠ 0x188) ∨ 0xA800 ≤ o then writeChn h v s else writeNib h v master s)
  else if b = 0x603 then writeScr h v s
  else if b = 0x604 then writeFab h v s
  else if b = 0x605 then writeCfg h v master s
  else if b = 0x606 then writeMem h v master s
  else if b = 0x607 then writeXmc h v master s
  else if b = 0x608 then writeUfl h v master s
  else if b = 0x609 then writeNet h v s
  else if b = 0x60A then writeIrq h v s
  else if b = 0x60B then writePwr h v master s
  else if b = 0x60C then writeSaf h v master s
  else if b = 0x60D then writeBst h v s
  else if b = 0x60E then writeLcs h v master s
  else if b = 0x60F then writeDma h v s
  else if b = 0x610 then writeLog h v master s
  else if b = 0x612 then writeSys h v s
  else plainW h v s

/-- A default is applied exempt from mode conditions (R274) and before the lock of the safety configuration closes. A value of
UFL_XO counts as the register's one write (R262). -/
def asDefault (w : State → Nat × State) (s : State) : Nat × State :=
  let r := w ((s.wr Fd.SYS_MODE_MODE Md.standby).clr Fd.SAF_LOCK_LOCK)
  let t := r.2.wr Fd.SYS_MODE_MODE s.mode
  let u := if s.rdB Fd.SAF_LOCK_LOCK then t.set1 Fd.SAF_LOCK_LOCK else t
  (r.1, { u with saf := { u.saf with wdgRun := s.saf.wdgRun, wdgAt := s.saf.wdgAt, lockUsed := s.saf.lockUsed } })

end Sys2Proof.Machine
end

