-- ==== Sys2Proof/Machine/Win.lean ====
section
/-! DEFINITION. The memory windows within the block windows (Tables 3.5, 5.5, 6.2, 9.10, 11.5, 12.8, 16.11 and R158), read and
written as 32-bit words, and the rules of the PDO and SRDO parameters (R288, R293). -/
namespace Sys2Proof.Machine

open Sys2Proof

/-- The SDRAM window class of a master (R17). -/
def winClass (master : Nat) : Nat := if isFabric master then 1 else 0

/-- The end of a bus access: the data of a read, a bus error with its CAUSE (R16), an error response for an uncorrectable word, for
a user-flash word, for a protection, for an alias width, or an access that waits. -/
inductive Bus where
  | ok (d : Nat)
  | err (cause : Nat)
  | ue
  | flashUe
  | prot
  | alias_
  | hold
deriving DecidableEq, Repr

/-! ### NET windows -/

/-- A PDO's windows: base of its count, its parameters and its mapping. -/
structure PdoWin where
  count : Nat
  par : Nat
  map : Nat

/-- The windows of RPDO n (tx false) or TPDO n. -/
def pdoWin (tx : Bool) (n : Nat) : PdoWin :=
  if tx then ⟨0x0F00 + 4 * n, 0x1800 + 0x20 * n, 0x6000 + 0x100 * n⟩ else ⟨0x0E00 + 4 * n, 0x1000 + 0x20 * n, 0x2000 + 0x100 * n⟩

/-- The mapped entries of a PDO: index, subindex and length in bits. -/
def pdoMap (s : State) (tx : Bool) (n : Nat) : List (Nat × Nat × Nat) :=
  (List.range (min 64 (winVal s (pdoWin tx n).count))).map (fun i =>
    let e := winVal s ((pdoWin tx n).map + 4 * i)
    (e / 2 ^ 16, e / 2 ^ 8 % 256, e % 256))

/-- The COB-ID of a PDO marks it invalid. -/
def pdoOff (s : State) (tx : Bool) (n : Nat) : Bool := (winVal s (pdoWin tx n).par).testBit 31

/-- A mapping entry names a PDO-mappable object of its size; an empty entry is admitted. -/
def mapEntryOk (v : Nat) : Bool :=
  v == 0 || match objFind (v / 2 ^ 16) (v / 2 ^ 8 % 256) with
    | some o => o.pdo && o.size == v % 256
    | none => false

/-- Store a word of a NET window. -/
def winStore (off v : Nat) (s : State) : State :=
  { s with net := { s.net with win := mapPut s.net.win off (BitVec.ofNat 32 v) } }

/-- The write conditions of a PDO's parameters: the mode, and the PDO out of use (R288). -/
def pdoOpen (s : State) (tx : Bool) (n : Nat) : Bool := winVal s (pdoWin tx n).count == 0 || pdoOff s tx n

/-- The modes in which PDO parameters are written (R288). -/
def pdoMode (s : State) : Bool := s.mode == Md.standby || s.mode == Md.safe

/-- Bits of a list of mapped entries. -/
def mapBits (l : List (Nat × Nat × Nat)) : Nat := (l.map (fun e => e.2.2)).sum

/-- A PDO's mapping is longer than 64 B (R288). -/
def pdoLong (s : State) (tx : Bool) (n : Nat) : Bool := decide (512 < mapBits (pdoMap s tx n))

/-- Every entry of a PDO's mapping names a mappable object. -/
def pdoMapped (s : State) (tx : Bool) (n : Nat) : Bool :=
  (pdoMap s tx n).all (fun e => e.2.2 != 0 && mapEntryOk (e.1 * 2 ^ 16 + e.2.1 * 2 ^ 8 + e.2.2))

/-- A write of a mapping count: the mapping it makes is checked. A default comes before its entries, which are checked as they come. -/
def pdoCountWrite (dflt tx : Bool) (n v : Nat) (s : State) : Out × State :=
  let t := winStore (pdoWin tx n).count v s
  if !pdoMode s then (Out.state, s)
  else if 64 < v then (Out.value, s)
  else if v == 0 then (Out.done, t)
  else if !dflt && !pdoOpen s tx n then (Out.state, s)
  else if !dflt && !pdoMapped t tx n then (Out.noMap, s)
  else if pdoLong t tx n then (Out.longMap, s)
  else (Out.done, t)

/-- A write of a communication parameter at offset r of its block: 0 COB-ID, 4 type, 8 inhibit time, 0x10 event timer. -/
def pdoParWrite (dflt tx : Bool) (n r v : Nat) (s : State) : Out × State :=
  if !pdoMode s then (Out.state, s)
  else if !dflt && !pdoOpen s tx n && !(r == 0 && v.testBit 31) then (Out.state, s)
  else if r = 4 ∧ (255 < v ∨ (240 < v ∧ v < 254)) then (Out.value, s)
  else if r = 0 ∧ !dflt ∧ !v.testBit 31 ∧ !pdoMapped s tx n then (Out.noMap, s)
  else if r = 0 ∧ !v.testBit 31 ∧ pdoLong s tx n then (Out.longMap, s)
  else (Out.done, winStore ((pdoWin tx n).par + r) v s)

/-- A write of a mapping entry: one the count covers is checked as the count's write would be. -/
def pdoMapWrite (dflt tx : Bool) (n i v : Nat) (s : State) : Out × State :=
  let t := winStore ((pdoWin tx n).map + 4 * i) v s
  if !pdoMode s then (Out.state, s)
  else if !dflt && !pdoOpen s tx n then (Out.state, s)
  else if !mapEntryOk v || (v == 0 && decide (i < winVal s (pdoWin tx n).count)) then (Out.noMap, s)
  else if pdoLong t tx n then (Out.longMap, s)
  else (Out.done, t)

/-- A write of an SRDO parameter sets 0x13FE to 0 (R293), unless it is a default. -/
def srdoStore (dflt : Bool) (off v : Nat) (s : State) : State :=
  when_ (!dflt) (fun t => t.clr Fd.NET_SRDO_VALID_VALID) (winStore off v s)

/-- The mapped entries of SRDO n. -/
def srdoMap (s : State) (n : Nat) : List (Nat × Nat × Nat) :=
  (List.range (min 16 (netWin0 s (0xA100 + 0x80 * n)))).map (fun i =>
    let e := netWin0 s (0xA100 + 0x80 * n + 4 * (i + 1))
    (e / 2 ^ 16, e / 2 ^ 8 % 256, e % 256))

/-- SRDO n may map an object with a length: an object of that size, mappable in the SRDO's direction; while it has none, in either (R354). -/
def srdoEntryOk (s : State) (n index sub len : Nat) : Bool :=
  ((srdoMappable true index sub && !srdoIs s 1 n) || (srdoMappable false index sub && !srdoIs s 2 n)) &&
    match objFind index sub with
    | some o => o.size == len
    | none => false

/-- A mapping SRDO n may have: its frames carry at most 8 B (R293). -/
def srdoMapOk (s : State) (n : Nat) : Option Out :=
  if (srdoMap s n).any (fun e => e.2.2 != 0 && !srdoEntryOk s n e.1 e.2.1 e.2.2) then some Out.noMap
  else if 64 < mapBits (srdoMap s n) then some Out.longMap
  else none

/-- A write of an SRDO's parameter or mapping word (R293): it makes no mapping the SRDO may not have. -/
def srdoWrite (dflt : Bool) (off v : Nat) (s : State) : Out × State :=
  let map := decide (0xA100 ≤ off)
  let n := if map then (off - 0xA100) / 0x80 else (off - 0xA000) / 0x20
  let t := srdoStore dflt off v s
  if map ∧ off % 0x80 ≠ 0 ∧ v ≠ 0 ∧ !srdoEntryOk s n (v / 2 ^ 16) (v / 2 ^ 8 % 256) (v % 256) then (Out.noMap, s)
  else if map ∧ off % 0x80 = 0 ∧ 16 < v then (Out.value, s)
  else match srdoMapOk t n with
    | some o => (o, s)
    | none => (Out.done, t)

/-- A write of a word of a NET window (Table 12.8). -/
def netWinWrite (dflt : Bool) (off v : Nat) (s : State) : Out × State :=
  if 0x0E00 ≤ off ∧ off < 0x1000 then pdoCountWrite dflt (0x0F00 ≤ off) (off % 0x100 / 4) v s
  else if 0x1000 ≤ off ∧ off < 0x2000 then pdoParWrite dflt (0x1800 ≤ off) (off % 0x800 / 0x20) (off % 0x20) v s
  else if 0x2000 ≤ off ∧ off < 0xA000 then
    (let tx := decide (0x6000 ≤ off)
     let r := if tx then off - 0x6000 else off - 0x2000
     pdoMapWrite dflt tx (r / 0x100) (r % 0x100 / 4) v s)
  else if 0xA000 ≤ off ∧ off < 0xA500 then srdoWrite dflt off v s
  else (Out.readOnly, s)

/-- The offset names a word of a NET window. -/
def netWinHas (off : Nat) : Bool :=
  (decide (0x0E00 ≤ off) && decide (off < 0x1000)) ||
  (decide (0x1000 ≤ off) && decide (off < 0x2000) && decide (off % 0x20 ∈ [0, 4, 8, 0x10])) ||
  (decide (0x2000 ≤ off) && decide (off < 0xA000)) ||
  (decide (0xA000 ≤ off) && decide (off < 0xA100) && decide (off % 0x20 < 0x18)) ||
  (decide (0xA100 ≤ off) && decide (off < 0xA500) && decide (off % 0x80 ≤ 0x40)) ||
  (decide (0xC000 ≤ off) && decide (off < 0xE000)) || (decide (0xE000 ≤ off) && decide (off < 0xE040)) ||
  (decide (0xE100 ≤ off) && decide (off < 0xE140))

/-- The constants of 0x1000, 0x1018 sub 0x01, 0x1010, 0x1011 and 0x1008, in that order. -/
def netConst (k : Nat) : Nat :=
  nth 0 [0, 0x00000B77, 1, 1, 0x39334C4B, 0x00000036] k

/-- A read of a word of a NET window. -/
def netWinRead (off : Nat) (s : State) : Nat :=
  if 0xE100 ≤ off then netConst ((off - 0xE100) / 4)
  else if 0xE000 ≤ off then ofBytes (((mapGet [] s.net.lastTag ((off - 0xE000) / 16)).drop (off % 16 / 4 * 4)).take 4)
  else if 0xC000 ≤ off then tagWord s ((off - 0xC000) / 64) (off % 64 / 4)
  else winVal s off

/-! ### All windows -/

/-- The width a window of a block admits at an offset: 4 or 8 bytes, 0 where no window lies. -/
def winWidth (b o : Nat) : Nat :=
  if b = 0x600 then (if 0x8000 ≤ o ∧ o < 0xC000 then 4 else if 0xC000 ≤ o ∧ o < 0xE000 then 8 else 0)
  else if b = 0x602 then
    (if (0x2000 ≤ o ∧ o < 0xA800) ∨ (0xB400 ≤ o ∧ o < 0xC000) ∨ 0xC000 ≤ o then 4 else 0)
  else if b = 0x603 then (if 0x8000 ≤ o then 4 else 0)
  else if b = 0x605 then (if 0x1000 ≤ o ∧ o < 0x1200 then 4 else 0)
  else if b = 0x608 then
    (if (0x1000 ≤ o ∧ o < 0x1200) ∨ (0x2000 ≤ o ∧ o < 0x2200) ∨ (0xC000 ≤ o ∧ o < 0xD000) then 4 else 0)
  else if b = 0x609 then (if netWinHas (o / 4 * 4) then 4 else 0)
  else if b = 0x60E then (if (0x100 ≤ o ∧ o < 0x140) ∨ (0x900 ≤ o ∧ o < 0x960) then 4 else 0)
  else 0

/-- A word of memory 14, or an error response. -/
def slotBus (j master : Nat) (s : State) : Bus × State :=
  match slotReadBy j master s with
  | (some v, t) => (.ok v, t)
  | (none, t) => (.ue, t)

/-- A 32-bit word of a nib record: word 0 is read and words 1 to 3 are captured with it; a read of those gives the captured word. -/
def nibWinRead (n w master : Nat) (s : State) : Bus × State :=
  if w = 0 then
    (match nibRecRead n master s with
    | (some v, t) => (.ok v, t)
    | (none, t) => (.ue, t))
  else if s.nib.recNib = n ∧ w ≤ s.nib.recHold.length then (.ok (nth 0 s.nib.recHold (w - 1)).toNat, s)
  else slotBus (slotNib n w) master s

/-- A learning bin: [47:0] SUM, [63:48] COUNT. -/
def binWord (s : State) (b : Nat) : Nat :=
  let x := mapGet (0, 0) s.afe.bins b
  enc 48 x.1 + x.2 * 2 ^ 48

/-- A 32-bit half of a memory word. -/
def memHalf (m i half master : Nat) (s : State) : Bus × State :=
  match memRead m i master s with
  | (some d, t) => (.ok (d.toNat / 2 ^ (32 * half) % 2 ^ 32), t)
  | (none, t) => (.ue, t)

/-- A read of a 32-bit word of a window. -/
def winRead (b o master : Nat) (s : State) : Bus × State :=
  if b = 0x600 then
    (if 0xC000 ≤ o then (.ok (binWord s ((o - 0xC000) / 8) / 2 ^ (32 * (o / 4 % 2)) % 2 ^ 32), s)
     else
       let k := o / 0x1000 % 2
       let bank := if o < 0xA000 then tblIdle s k else 1 - tblIdle s k
       slotBus (slotTbl k bank (o % 0x1000 / 4)) master s)
  else if b = 0x602 then
    (if o < 0xA800 then slotBus (slotDelay ((o - 0x2000) / 4)) master s
     else if 0xC000 ≤ o then nibWinRead ((o - 0xC000) / 16) (o % 16 / 4) master s
     else if o < 0xB800 then slotBus (slotSafe ((o - 0xB400) / 32) (o % 32 / 4)) master s
     else
       let st := o % 0x400 / 32
       let img := if o < 0xBC00 then (s.strOf st).latched else (s.strOf st).status
       (.ok (img.toNat / 2 ^ (32 * (o % 32 / 4)) % 2 ^ 32), s))
  else if b = 0x603 then memHalf (winMem s) (winWord s (o - 0x8000)) (o / 4 % 2) master s
  else if b = 0x605 then memHalf 15 ((o - 0x1000) / 8) (o / 4 % 2) master s
  else if b = 0x608 then
    (if o < 0x1200 then (.ok (mapGet 0 s.ufl.pageBuf ((o - 0x1000) / 4)).toNat, s)
     else if o < 0x2200 then (.ok (mapGet 0 s.ufl.eraseCnt ((o - 0x2000) / 4)), s)
     else match (s.ufl.cal.read 512 ((o - 0xC000) / 8)).data? with
       | some d => (.ok (d / 2 ^ (32 * (o / 4 % 2)) % 2 ^ 32), s)
       | none => (.flashUe, s))
  else if b = 0x609 then (.ok (netWinRead o s), s)
  else if b = 0x60E then (.ok (if 0x900 ≤ o then (mapGet 0 s.lcs.cert ((o - 0x900) / 4)).toNat else 0), s)
  else (.ok 0, s)

/-- A PROGRAM or ROW_PROGRAM command is in progress. -/
def cfgBufBusy (s : State) : Bool := match s.cfg.cmd with | some c => c.op == 3 || c.op == 11 | none => false

/-- A bus write of a slot of the engine tables: refused when its word is uncorrectable (R223). -/
def slotBusWrite (j v master : Nat) (s : State) : Out × State :=
  match slotWriteBy j v master s with
  | (true, t) => (Out.done, t)
  | (false, t) => (Out.memory, errResp master t)

/-- A bus write of a 32-bit half of a memory word. -/
def halfWrite (m i half v master : Nat) (s : State) : Out × State :=
  match memWrite m i (BitVec.ofNat 64 (v % 2 ^ 32 * 2 ^ (32 * half))) (15 * 16 ^ half) master s with
  | (true, t) => (Out.done, t)
  | (false, t) => (Out.memory, t)

/-- A write of a 32-bit word of a window: why the dictionary refuses it, and the state after a bus write. -/
def winWrite (b o v master : Nat) (s : State) : Out × State :=
  let d := BitVec.ofNat 32 v
  if b = 0x600 then
    (if 0xA000 ≤ o then (Out.readOnly, s)
     else
       let k := o / 0x1000 % 2
       if s.rdB (if k = 0 then Fd.AFE_TBL_CTRL_PENDING0 else Fd.AFE_TBL_CTRL_PENDING1) then (Out.state, s)
       else slotBusWrite (slotTbl k (tblIdle s k) (o % 0x1000 / 4)) (v % 2 ^ 24) master s)
  else if b = 0x602 then
    (if o < 0xA800 then
       slotBusWrite (slotDelay ((o - 0x2000) / 4)) (v % 2 ^ 24 + (if master = byDefault then bits v 31 31 else 1) * 2 ^ 31) master s
     else if 0xB400 ≤ o ∧ o < 0xB800 then slotBusWrite (slotSafe ((o - 0xB400) / 32) (o % 32 / 4)) v master s
     else (Out.readOnly, s))
  else if b = 0x603 then
    (if !s.rdB Fd.SCR_WIN_SEL_MEM && !instrOpen s (s.rd Fd.SCR_WIN_SEL_PAIR) then (Out.state, s.set1 Fd.SCR_STAT_WIN_REFUSED)
     else halfWrite (winMem s) (winWord s (o - 0x8000)) (o / 4 % 2) v master s)
  else if b = 0x605 then
    (if cfgBufBusy s then (Out.state, s)
     else halfWrite 15 ((o - 0x1000) / 8) (o / 4 % 2) v master s)
  else if b = 0x608 then
    (if 0x1200 ≤ o then (Out.readOnly, s)
     else if uflBufOpen s then (Out.done, { s with ufl := { s.ufl with pageBuf := mapSet 0 s.ufl.pageBuf ((o - 0x1000) / 4) d } })
     else (Out.state, s))
  else if b = 0x609 then netWinWrite (master == byDefault) o v s
  else if b = 0x60E then
    (if o < 0x140 then (Out.done, { s with lcs := { s.lcs with keyBuf := mapSet 0 s.lcs.keyBuf ((o - 0x100) / 4) d } })
     else if s.rdB Fd.DBG_STAT_BUSY then (Out.state, s)
     else (Out.done, { s with lcs := { s.lcs with cert := mapSet 0 s.lcs.cert ((o - 0x900) / 4) d } }))
  else (Out.readOnly, s)

end Sys2Proof.Machine
end

