-- ==== Sys2Proof/Machine/Bus.lean ====
section
/-! DEFINITION. The system bus: the address map (Table 1.3), bus errors and their capture (R15, R16), the SDRAM window (R17), the
large-bank ports (R234, R235), user flash (R252, R263), retained RAM (R277, R314, R335) and the fabric window. -/
namespace Sys2Proof.Machine

open Sys2Proof

/-- A bus error: captured while VALID is 0, and the SYS source raised (R16). -/
def busError (cause a : Nat) (write : Bool) (master : Nat) (s : State) : State :=
  let s1 := if s.rdB Fd.SYS_BUSERR_INFO_VALID then s
    else
      ((((s.wr Fd.SYS_BUSERR_ADDR_ADDR a).wr Fd.SYS_BUSERR_INFO_MASTER master).wrB Fd.SYS_BUSERR_INFO_WRITE write).wr
        Fd.SYS_BUSERR_INFO_CAUSE cause).set1 Fd.SYS_BUSERR_INFO_VALID
  irqEvent 1 (s1.retErr 1)

/-- A bus error as the end of an access. -/
def busFail (cause a : Nat) (write : Bool) (master : Nat) (s : State) : Bus × State :=
  (.err cause, busError cause a write master s)

/-- The regions of the address map (Table 1.3). -/
inductive Region where
  | large (op : Option LbOp) (off : Nat)
  | uflash (off : Nat)
  | events (off : Nat)
  | descs (off : Nat)
  | retained (off : Nat)
  | regs
  | fabric
  | sdram (off : Nat)
  | reserved
deriving DecidableEq, Repr

/-- Table 1.3. -/
def regionOf (a : Nat) : Region :=
  if a < 0x01000000 then .large none a
  else if a < 0x02000000 then .reserved
  else if a < 0x04000000 then .uflash (a - 0x02000000)
  else if a < 0x04400000 then .events (a - 0x04000000)
  else if a < 0x04500000 then .descs (a - 0x04400000)
  else if a < 0x05000000 then .reserved
  else if a < 0x05040000 then .retained (a - 0x05000000)
  else if a < 0x06000000 then .reserved
  else if a < 0x06130000 then .regs
  else if a < 0x08000000 then .reserved
  else if a < 0x09000000 then .large (some .bitSet) (a - 0x08000000)
  else if a < 0x0A000000 then .reserved
  else if a < 0x0B000000 then .large (some .bitClear) (a - 0x0A000000)
  else if a < 0x0C000000 then .reserved
  else if a < 0x0D000000 then .large (some .add) (a - 0x0C000000)
  else if a < 0x0E000000 then .reserved
  else if a < 0x0F000000 then .large (some .swap) (a - 0x0E000000)
  else if a < 0x10000000 then .reserved
  else if a < 0x20000000 then .fabric
  else if a < 0x40000000 then .reserved
  else if a < 0x100000000 then .sdram (a - 0x40000000)
  else .reserved

/-- The rails are off in S3, and from the power-down phase of an entry to S3 (Table 14.4). -/
def railsOff (s : State) : Bool :=
  match s.pwr.sleep with
  | .asleep st => st == 3
  | .down => s.pwr.sel == 3
  | _ => false

/-- The rail of a block is off: every block but those on VAON (Table 1.1). -/
def railOff (b : Nat) (s : State) : Bool := railsOff s && b != 0x60B && b != 0x60E

/-- The byte mask of `size` bytes at address `a` within its 64-bit word. -/
def laneMask (a size : Nat) : Nat := (2 ^ size - 1) * 2 ^ (a % 8)

/-- The bytes of an access within a 64-bit word. -/
def laneGet (d a size : Nat) : Nat := d / 2 ^ (8 * (a % 8)) % 2 ^ (8 * size)

/-- The data of an access placed within its 64-bit word. -/
def lanePut (d a size : Nat) : W64 := BitVec.ofNat 64 (d % 2 ^ (8 * size) * 2 ^ (8 * (a % 8)))

/-- A read of an ECC-protected memory. -/
def memBusRead (m off a size master : Nat) (s : State) : Bus × State :=
  match memRead m (off / 8) master s with
  | (some d, t) => (.ok (laneGet d.toNat a size), t.ret (laneGet d.toNat a size))
  | (none, t) => (if memOwned m master s then .ue else .prot, t)

/-- A write of an ECC-protected memory. -/
def memBusWrite (m off a size d master : Nat) (s : State) : Bus × State :=
  match memWrite m (off / 8) (lanePut d a size) (laneMask a size) master s with
  | (true, t) => (.ok 0, t)
  | (false, t) => (if memOwned m master s then .ue else .prot, t)

/-- A read of the user-flash window: an execute-only region in force is refused (R263); a read during a program or erase waits (R253). -/
def uflBusRead (off a size master : Nat) (s : State) : Bus × State :=
  if (xoRegion s (off / 0x40000)).isSome && !xoMayRead master s then (.prot, errResp master (xoRefuse s))
  else if uflBusy s then (.hold, s)
  else match uflRead (off / 8) s with
    | (some d, t) => (.ok (laneGet d a size), t.ret (laneGet d a size))
    | (none, t) => (.flashUe, errResp master t)

/-- A register hit at an address, and the bits an access of a size covers. -/
def hitMask (h : Hit) (a size : Nat) : Nat :=
  if size = 8 then 2 ^ 64 - 1 else if h.row.width = 64 ∧ a % 8 = 4 then (2 ^ 32 - 1) * 2 ^ 32 else 2 ^ 32 - 1

/-- The CAUSE of a bus error of an access to the register range, 0 for none (R16). -/
def regFault (a size : Nat) (s : State) : Nat :=
  let b := a / 0x10000
  let w := winWidth b (a % 0x10000)
  let width := match regFind (a / 4 * 4) with
    | some h => h.row.width / 8
    | none => w
  if width = 0 then 1
  else if a % size ≠ 0 then 2
  else if size ≠ 4 ∧ !(size = 8 ∧ width = 8) then 6
  else if railOff b s then 3
  else 0

/-- A register access of the JTAG debug port that is refused for the right it needs (R170, R187, R362, R377): a write reports ACCESS, a read
of the scribe debug or probe selection registers finds the right missing. Other masters see the refusal in the block's own status. -/
def regDenied (write : Bool) (a st master : Nat) (s : State) : Bool :=
  master == 0x03 && (if write then st == St.access
    else (decide (0x06030400 ≤ a) && decide (a < 0x06030418) && !hasRight 3 s) ||
      (decide (0x06040400 ≤ a) && decide (a < 0x06040500) && !hasRight 1 s))

/-- A read of the register range. -/
def regBusRead (a size master : Nat) (s : State) : Bus × State :=
  let c := regFault a size s
  if c ≠ 0 then busFail c a false master s
  else match regFind (a / 4 * 4) with
    | some h =>
      let m := hitMask h a size
      let r := regRead h m master s
      let v := if h.row.width = 64 ∧ a % 8 = 4 then r.1 / 2 ^ 32 else if size = 4 then r.1 % 2 ^ 32 else r.1
      if regDenied false a 0 master s then (.prot, r.2.ret 0) else (.ok v, r.2.ret v)
    | none =>
      let b := a / 0x10000
      let r := winRead b (a % 0x10000) master s
      match r.1 with
      | .ok v =>
        if size = 8 then
          match winRead b (a % 0x10000 + 4) master r.2 with
          | (.ok u, t) => (.ok (v + u * 2 ^ 32), t.ret (v + u * 2 ^ 32))
          | (e, t) => (e, t.retErr 2)
        else (.ok v, r.2.ret v)
      | e => (e, errResp master r.2)

/-- A write of the register range. -/
def regBusWrite (a size d master : Nat) (s : State) : Bus × State :=
  let c := regFault a size s
  if c ≠ 0 then busFail c a true master s
  else match regFind (a / 4 * 4) with
    | some h =>
      let v := if h.row.width = 64 ∧ a % 8 = 4 then d * 2 ^ 32 else d
      let r := regWrite h v (hitMask h a size) master (s.ret 0)
      (if regDenied true a r.1 master s then .prot else .ok 0, r.2)
    | none =>
      match winWrite (a / 0x10000) (a % 0x10000) (d % 2 ^ 32) master s with
      | (o, t) => if o = Out.memory then (.ue, t) else (if regDenied true a o.st master s then .prot else .ok 0, t.ret 0)

/-- The physical SDRAM address of a window offset (R17). -/
def sdramPhys (s : State) (off master : Nat) : Nat := s.rd (Fd.SYS_SDRAM_WIN_BASE (winClass master)) * 2 ^ 28 + off

/-- A read of SDRAM at a physical address. -/
def sdramRead (pa size src : Nat) (s : State) : Bus × State :=
  let r := lineRead (pa / 64) src s
  match if pa % 64 < 32 then r.1 else r.2.1 with
  | some d =>
    let v := d / 2 ^ (8 * (pa % 32)) % 2 ^ (8 * size)
    (.ok v, r.2.2.2.ret v)
  | none => (.ue, r.2.2.2.retErr 2)

/-- A write of SDRAM at a physical address. -/
def sdramWrite (pa size d src : Nat) (s : State) : Bus × State :=
  match lineWrite (pa / 64) (d % 2 ^ (8 * size) * 2 ^ (8 * (pa % 64))) ((2 ^ size - 1) * 2 ^ (pa % 64)) src s with
  | (true, t) => (.ok 0, t.ret 0)
  | (false, t) => (.ue, t.retErr 2)

/-- An SDRAM access on the system bus that was uncorrectable ends with an error response (R221). -/
def sysResp (master : Nat) (r : Bus × State) : Bus × State :=
  match r.1 with
  | .ue => (.ue, errResp master r.2)
  | _ => r

/-- An access waits for its line to be served, at the physical address it was issued with (R17); the host's SPI access waits in its own
operation. -/
def lineWait (x : LineWait) (s : State) : Bus × State :=
  (.hold, if x.master = 0x01 then s else { s with xmc := { s.xmc with waits := s.xmc.waits ++ [x] } })

/-- A window read of SDRAM, or the wait for the line to be served (R17, R244). -/
def sdramBusRead (pa size master : Nat) (s : State) : Bus × State :=
  if lineOk (pa / 64) s then sysResp master (sdramRead pa size (0x20 + winClass master) s) else lineWait ⟨pa, size, false, 0, master⟩ s

/-- A window write of SDRAM, or the wait for the line to be served. -/
def sdramBusWrite (pa size d master : Nat) (s : State) : Bus × State :=
  if lineOk (pa / 64) s then sysResp master (sdramWrite pa size d (0x20 + winClass master) s)
  else lineWait ⟨pa, size, true, BitVec.ofNat 64 d, master⟩ s

/-- Place of a master in the order in which a target turns to the masters that wait, after it has served `last` (R18): round robin by ID, the
JTAG debug port behind all others. -/
def turnOf (last m : Nat) : Nat := if m = 0x03 then 256 else (m + 255 - last) % 256

/-- What waits at a target after it has served master `last`, the access it turns to next first (R18). -/
def turnFront {α : Type} (masterOf : α → Nat) (last : Nat) (l : List α) : List α :=
  match l with
  | [] => []
  | x :: r =>
    let least := r.foldl (fun m y => min m (turnOf last (masterOf y))) (turnOf last (masterOf x))
    let first := l.takeWhile (fun y => turnOf last (masterOf y) != least)
    match l.drop first.length with
    | y :: rest => y :: (first ++ rest)
    | [] => l

/-- An access to the fabric window waits for the fabric design's acknowledgement (R16, R189). -/
def fabricAccess (a : Nat) (write : Bool) (d master : Nat) (s : State) : Bus × State :=
  (.hold, { s with fab := { s.fab with acc := s.fab.acc ++ [⟨a, write, BitVec.ofNat 64 d, master⟩] } })

/-- A write to retained RAM: below 0x0503_1000 the regions take no writes, and the fabric masters may not write the firmware context
(R277, R314, R335). -/
def retainedOpen (off master : Nat) : Bool := decide (0x31000 ≤ off) && !isFabric master

/-- An access that is reserved, misaligned or beyond SDRAM capacity: the CAUSE, 0 for none (R16). -/
def mapFault (a size master : Nat) (s : State) : Nat :=
  match regionOf a with
  | .reserved => 1
  | .sdram off => if a % size ≠ 0 then 2 else if s.rd Fd.XMC_STAT_CAP_GIB * 2 ^ 30 ≤ sdramPhys s off master then 4 else 0
  | .regs => 0
  | _ => if a % size ≠ 0 then 2 else 0

/-- A read on the system bus of 1, 2, 4 or 8 bytes. -/
def busRead (a size master : Nat) (s : State) : Bus × State :=
  let c := mapFault a size master s
  if c ≠ 0 then busFail c a false master s
  else match regionOf a with
    | .large _ off => memBusRead (2 + off / 0x200000) (off % 0x200000) a size master s
    | .uflash off => uflBusRead off a size master s
    | .events off => memBusRead 0 off a size master s
    | .descs off => memBusRead 1 off a size master s
    | .retained off => memBusRead 13 off a size master s
    | .regs => regBusRead a size master s
    | .fabric => fabricAccess a false 0 master s
    | .sdram off =>
      let pa := sdramPhys s off master
      sdramBusRead pa size master s
    | .reserved => (.ok 0, s)

/-- An alias or atomic write (R235). -/
def lbBusWrite (op : LbOp) (off size d master : Nat) (s : State) : Bus × State :=
  let m := 2 + off / 0x200000
  let t := lbWrite op (off / 0x200000) (off % 0x200000) size d master s
  (if !memOwned m master s then .prot
   else if size ≠ 4 ∧ size ≠ 8 then .alias_
   else if t.sys.rdErr ≠ 0 then .ue
   else .ok 0, t)

/-- A write on the system bus of 1, 2, 4 or 8 bytes. -/
def busWrite (a size d master : Nat) (s : State) : Bus × State :=
  let c := mapFault a size master s
  if c ≠ 0 then busFail c a true master s
  else match regionOf a with
    | .large none off => memBusWrite (2 + off / 0x200000) (off % 0x200000) a size d master s
    | .large (some op) off => lbBusWrite op off size d master s
    | .uflash _ => (.prot, errResp master (uflWinWrite s))
    | .events _ => (.ok 0, (s.set1 Fd.QUE_STAT_WIN_WRITE).ret 0)
    | .descs _ => (.ok 0, (s.set1 Fd.QUE_STAT_WIN_WRITE).ret 0)
    | .retained off => if retainedOpen off master then memBusWrite 13 off a size d master s else (.prot, errResp master s)
    | .regs => regBusWrite a size d master s
    | .fabric => fabricAccess a true d master s
    | .sdram off =>
      let pa := sdramPhys s off master
      sdramBusWrite pa size d master s
    | .reserved => (.ok 0, s)

/-- The outcome a dictionary access takes from a bus access (Table 12.2). -/
def Bus.out : Bus → Out
  | .ok _ => Out.done
  | .err 3 => Out.state
  | .err _ => Out.noObject
  | .ue => Out.memory
  | .flashUe => Out.memory
  | .prot => Out.right
  | .alias_ => Out.alias_
  | .hold => Out.unanswered

/-- The status a host SPI bus operation reports (R297). -/
def Bus.spi : Bus → Nat
  | .ok _ => St.ok
  | .err _ => St.range
  | b => b.out.st

/-- The fabric design acknowledges the access to its window that it was given, with the data of a read; the next in turn follows (R18). -/
def fabricAck (d : W64) (s : State) : State :=
  match s.fab.acc with
  | [] => s
  | x :: l => { s with fab := { s.fab with acc := turnFront FabAcc.master x.master l } }.ret (if x.write then 0 else d.toNat)

/-- The access the fabric design was given is not acknowledged in time: a bus error (R16). -/
def fabricLate (s : State) : State :=
  match s.fab.acc with
  | [] => s
  | x :: l => busError 5 x.addr x.write x.master { s with fab := { s.fab with acc := turnFront FabAcc.master x.master l } }

end Sys2Proof.Machine
end

