-- ==== Sys2Proof/Machine/Dict.lean ====
section
/-! DEFINITION. Dictionary accesses (R269 to R273, R282, R283, R289, R300): reading and writing scalar objects, DOMAIN objects and the
constants, the requesters' push words, tagged writes, and the fabric window. -/
namespace Sys2Proof.Machine

open Sys2Proof

/-- The dictionary engine's master ID. -/
def dictMaster : Nat := 0x02

/-- The requester code of the RPDO set (R289). -/
def rpdoClient : Nat := 128

/-! ### Scalar objects -/

/-- The mask of an object's bits within its register. -/
def Obj.mask (o : Obj) : Nat := (2 ^ o.size - 1) * 2 ^ o.lo

/-- A field lies within an object. -/
def Obj.covers (o : Obj) (f : FieldRow) : Bool := decide (o.lo ≤ f.lo) && decide (f.lo < o.lo + o.size)

/-- Every field of an object is refused on a write: ro and rc (Table 12.1). -/
def Obj.fixed (o : Obj) (h : Hit) : Bool :=
  (h.row.fields.filter o.covers).all (fun f => match f.acc with
    | .ro => true
    | .rc => true
    | _ => false)

/-- Every field of an object is refused on a read: wo (Table 12.1). -/
def Obj.hidden (o : Obj) (h : Hit) : Bool :=
  (h.row.fields.filter o.covers).all (fun f => match f.acc with
    | .wo => true
    | _ => false)

/-- Read a scalar object: its outcome and its value. -/
def objRead (o : Obj) (master : Nat) (s : State) : Out × Nat × State :=
  if railOff (o.addr / 0x10000) s then (Out.state, 0, s)
  else if o.win then
    match winRead (o.addr / 0x10000) (o.addr % 0x10000) master s with
    | (.ok v, t) => (Out.done, v, t)
    | (e, t) => (e.out, 0, t)
  else match regFind o.addr with
    | none => (Out.noObject, 0, s)
    | some h =>
      if o.hidden h then (Out.writeOnly, 0, s)
      else
        let r := regRead h o.mask master s
        (Out.done, r.1 / 2 ^ o.lo % 2 ^ o.size, r.2)

/-- Write a scalar object under the conditions of R271: a write that fails one does not reach the register. -/
def objWrite (o : Obj) (v master : Nat) (s : State) : Out × State :=
  if railOff (o.addr / 0x10000) s then (Out.state, s)
  else if o.win then
    match winWrite (o.addr / 0x10000) (o.addr % 0x10000) v master s with
    | (r, t) => if r.st = St.ok then (r, t) else (r, s)
  else match regFind o.addr with
    | none => (Out.noObject, s)
    | some h =>
      if o.fixed h then (Out.readOnly, s)
      else match regWrite h (v * 2 ^ o.lo) o.mask master s with
        | (st, t) => if st = St.ok then (Out.done, t) else (outOf st, s)

/-! ### DOMAIN objects -/

/-- The word of a DOMAIN object at a word offset. -/
def domWordRead (d : Dom) (w master : Nat) (s : State) : Bus × State :=
  match d with
  | .window a => winRead ((a + 4 * w) / 0x10000) ((a + 4 * w) % 0x10000) master s
  | .scribe data p => memHalf (if data then 12 else 11) (p * 8192 + w / 2) (w % 2) master s
  | .tagged => (.ok 0, s)

/-- Write a word of a DOMAIN object. -/
def domWordWrite (d : Dom) (w v master : Nat) (s : State) : Out × State :=
  match d with
  | .window a =>
    match winWrite ((a + 4 * w) / 0x10000) ((a + 4 * w) % 0x10000) v master s with
    | (r, t) => if r.st = St.refusedMode then (r, s) else (r, t)
  | .scribe data p =>
    if !data && !instrOpen s p then (Out.state, s)
    else match memWrite (if data then 12 else 11) (p * 8192 + w / 2) (BitVec.ofNat 64 (v % 2 ^ 32 * 2 ^ (32 * (w % 2))))
        (15 * 16 ^ (w % 2)) master s with
      | (true, t) => (Out.done, t)
      | (false, t) => (Out.memory, t)
  | .tagged => (Out.length, s)

/-- Read words w to w + n − 1 of a DOMAIN object; the first that fails ends the access. -/
def domRead (d : Dom) (master : Nat) : Nat → Nat → List Byte → State → Out × List Byte × State
  | 0, _, acc, s => (Out.done, acc, s)
  | n + 1, w, acc, s =>
    match domWordRead d w master s with
    | (.ok v, t) => domRead d master n (w + 1) (acc ++ toBytes 4 v) t
    | (e, t) => (e.out, [], t)

/-- Write bytes from word w of a DOMAIN object on; the bytes that a last word does not carry keep their value. -/
def domWrite (d : Dom) (master : Nat) : Nat → Nat → List Byte → State → Out × State
  | 0, _, _, s => (Out.done, s)
  | n + 1, w, l, s =>
    if l.isEmpty then (Out.done, s)
    else
      let b := l.take 4
      let r := if b.length = 4 then (Bus.ok 0, s) else domWordRead d w master s
      match r.1 with
      | .ok old =>
        match domWordWrite d w (ofBytes (b ++ (toBytes 4 old).drop b.length)) master r.2 with
        | (o, t) => if o.st = St.ok then domWrite d master n (w + 1) (l.drop 4) t else (o, t)
      | e => (e.out, r.2)

/-! ### The requesters' push words (R289) -/

/-- A requester's copy of word i of the event. -/
def pushWord (s : State) (c i : Nat) : Nat := (mapGet 0 s.net.push (8 * tagOwner c + i)).toNat

/-- A requester's copies are loaded into QUE_PUSH_W[1] in the access that writes its push command. -/
def pushLoad (c : Nat) (s : State) : State :=
  forEach (List.range 4) s (fun i t => t.wr (Fd.QUE_PUSH_W_WORD 1 i) (pushWord t c i))

/-- The object is one of the event words 0x3101 sub 0x01 to 0x04. -/
def isPushWord (index sub : Nat) : Bool := index == 0x3101 && decide (1 ≤ sub) && decide (sub ≤ 4)

/-! ### Accesses -/

/-- An answer at once, or later through the requester's answer. -/
inductive DictEnd where
  | now (o : Out) (data : List Byte)
  | later
deriving DecidableEq, Repr

/-- The bytes of a constant object (Table 12.8), and of the requesting client's tag entries. -/
def constBytes (s : State) (c index sub : Nat) : Option (List Byte) :=
  if index = 0x1000 ∧ sub = 0 then some (toBytes 4 0)
  else if index = 0x1008 ∧ sub = 0 then some (toBytes 5 0x363933_4C4B)
  else if index = 0x1018 ∧ sub = 1 then some (toBytes 4 0x00000B77)
  else if (index = 0x1010 ∨ index = 0x1011) ∧ sub = 1 then some (toBytes 4 1)
  else if index = 0x2F01 ∧ 1 ≤ sub ∧ sub ≤ 16 then some (toBytes 4 (tagWord s c (sub - 1)))
  else if isPushWord index sub then some (toBytes 4 (pushWord s c (sub - 1)))
  else none

/-- The index names an object with some subindex. -/
def indexExists (index : Nat) : Bool :=
  (List.range 256).any (fun b => (objFind index b).isSome) || (domFind index).isSome || index ∈ [0x1000, 0x1008, 0x1018, 0x2F01]

/-- The outcome for an object that does not exist. -/
def missing (index : Nat) : Out := if indexExists index then Out.noSub else Out.noObject

/-- At most `len` bytes of a value from an offset. -/
def slice (l : List Byte) (off len : Nat) : DictEnd :=
  if off ≠ 0 ∧ l.length ≤ off then .now Out.length [] else .now Out.done ((l.drop off).take len)

/-- A read of an object by client c: at most `len` bytes from an offset. -/
def dictRead (c tag index sub off len : Nat) (s : State) : DictEnd × State :=
  if inFabric index then (.later, fabAsk ⟨index, sub, off, false, [], len, [], c, tag⟩ s)
  else match constBytes s c index sub with
    | some l => (slice l off len, s)
    | none => match domFind index with
      | some d =>
        if sub ≠ 0 then (.now Out.noSub [], s)
        else if !d.r then (.now Out.writeOnly [], s)
        else if d.size ≤ off then (.now Out.length [], s)
        else
          let n := min len (d.size - off)
          match domRead d.kind dictMaster ((off % 4 + n + 3) / 4) (off / 4) [] s with
          | (o, l, t) => (.now o ((l.drop (off % 4)).take n), t)
      | none => match objFind index sub with
        | some o =>
          match objRead o dictMaster s with
          | (r, v, t) => (if r.st = St.ok then slice (toBytes (o.size / 8) v) off len else .now r [], t)
        | none => (.now (missing index) [], s)

/-- A write of a scalar or DOMAIN object by client c. -/
def dictWrite1 (c tag index sub off : Nat) (l : List Byte) (s : State) : DictEnd × State :=
  if inFabric index then (.later, fabAsk ⟨index, sub, off, true, l, l.length, [], c, tag⟩ s)
  else match domFind index with
    | some d =>
      if sub ≠ 0 then (.now Out.noSub [], s)
      else if !d.w then (.now Out.readOnly [], s)
      else if l.length = 0 ∨ off % 4 ≠ 0 ∨ d.size < off + l.length then (.now Out.length [], s)
      else match domWrite d.kind dictMaster ((l.length + 3) / 4) (off / 4) l s with
        | (o, t) => (.now o [], t)
    | none => match objFind index sub with
      | none => (.now (if (constBytes s c index sub).isSome then Out.readOnly else missing index) [], s)
      | some o =>
        let v := ofBytes l
        if off ≠ 0 ∨ 8 * l.length ≠ o.size then (.now Out.length [], s)
        else if isPushWord index sub then
          (.now Out.done [], { s with net := { s.net with push := mapSet 0 s.net.push (8 * tagOwner c + (sub - 1)) (BitVec.ofNat 32 v) } })
        else if (index = 0x1010 ∨ index = 0x1011) ∧ sub = 1 then
          match storeWriteObj (index == 0x1011) v c tag s with
          | (some r, t) => (.now r [], t)
          | (none, t) => (.later, t)
        else
          match objWrite o v dictMaster (if index = 0x3101 ∧ sub = 5 then pushLoad c s else s) with
          | (r, t) => (.now r [], t)

/-- A tagged write (R282, R283): the inner write with its status, or DUPLICATE. -/
def taggedWrite (c tag : Nat) (l : List Byte) (s : State) : DictEnd × State :=
  let it := ofBytes (l.take 2)
  let n := ofBytes ((l.drop 5).take 1)
  if l.length < 9 ∨ 16 < l.length ∨ n = 0 ∨ 8 < n ∨ l.length ≠ 8 + n then (.now Out.length [], s)
  else match tagFind s c it with
    | some _ => (.now Out.duplicate [], tagSeen c it s)
    | none =>
      match dictWrite1 c (tag + it * 2 ^ 16) (ofBytes ((l.drop 2).take 2)) (ofBytes ((l.drop 4).take 1)) 0 (l.drop 8) s with
      | (.now o d, t) => (.now o d, tagAdd c it o.st t)
      | (.later, t) => (.later, t)

/-- A write of an object by client c with a request tag of its own, which is checked and remembered where it is not 0. -/
def dictWrite (c tag index sub off : Nat) (l : List Byte) (s : State) : DictEnd × State :=
  match tagFind s c tag with
  | some _ => (.now Out.duplicate [], tagSeen c tag s)
  | none =>
    let r := if index = 0x2F00 then
        (if sub ≠ 0 then (DictEnd.now Out.noSub [], s) else if off ≠ 0 then (.now Out.length [], s) else taggedWrite c tag l s)
      else dictWrite1 c tag index sub off l s
    match r with
    | (.now o d, t) => (.now o d, tagAdd c tag o.st t)
    | (.later, t) => (.later, t)

/-- Deliver an answer that came at once; its tags are remembered already. -/
def DictEnd.give (e : DictEnd) (c : Nat) (s : State) : State :=
  match e with
  | .now o d => answer c 0 o d s
  | .later => s

end Sys2Proof.Machine
end

