-- ==== Sys2Proof/Machine/Net.lean ====
section
/-! DEFINITION. CANopen FD (R284 to R294): USDO transfers, PDOs, SYNC, heartbeat, emergency messages, SRDOs and line events. -/
namespace Sys2Proof.Machine

open Sys2Proof

/-! ### Frames -/

/-- Frames leave on a line in one command. -/
def netSend (l : List TxFrame) (s : State) : State := { s with net := { s.net with tx := l } }

/-- Frames leave after those the command has sent. -/
def netSendMore (l : List TxFrame) (s : State) : State := netSend (s.net.tx ++ l) s

/-- The NMT state as the heartbeat reports it (R286). -/
def nmtByte (s : State) : Nat := if s.net.nmt = 127 then 0x7F else s.net.nmt

/-- An FD frame of line 0 (R285): it switches to the data rate where that exceeds the arbitration rate. -/
def fdFrame (s : State) (id : Nat) (data : List Byte) : TxFrame := ⟨0, id, data, true, decide (s.net.arbRate < s.net.dataRate)⟩

/-- A classical frame of an SRDO, on the line that carries them (R285, R293). -/
def srdoTx (s : State) (id : Nat) (data : List Byte) : TxFrame := ⟨b2n s.net.line1, id, data, false, false⟩

/-- The boot-up message (R286). -/
def bootUp (s : State) : State := netSendMore [fdFrame s (0x700 + s.net.node) (toBytes 1 0)] s

/-- Every service runs only while the NMT state is Operational (R286). -/
def netRuns (s : State) : Bool := driving s.mode

/-! ### What a PDO or SRDO access does (R288, R289, R293) -/

/-- A PDO is in use: its COB-ID is valid and its mapping is not empty. -/
def pdoOn (s : State) (tx : Bool) (n : Nat) : Bool := !pdoOff s tx n && winVal s (pdoWin tx n).count != 0

/-- Transmission type of a PDO. -/
def pdoType (s : State) (tx : Bool) (n : Nat) : Nat := winVal s ((pdoWin tx n).par + 4) % 256

/-- Bytes of a PDO's mapping. -/
def pdoLen (s : State) (tx : Bool) (n : Nat) : Nat := ((pdoMap s tx n).map (fun e => e.2.2 / 8)).sum

/-- Write the mapped entries of an RPDO in order; an entry that is refused leaves the later ones (R289). -/
def rpdoWrite : List (Nat × Nat × Nat) → List Byte → State → State
  | [], _, s => s
  | e :: l, d, s =>
    rpdoWrite l (d.drop (e.2.2 / 8)) (dictWrite1 rpdoClient 0 e.1 e.2.1 0 (d.take (e.2.2 / 8)) s).2

/-- An RPDO is processed as one access. -/
def rpdoApply (n : Nat) (d : List Byte) (s : State) : State := rpdoWrite (pdoMap s false n) d s

/-- Sample mapped entries in order: their bytes, and what the reads leave behind. -/
def sampleMap : List (Nat × Nat × Nat) → State → List Byte × State
  | [], s => ([], s)
  | e :: l, s =>
    let r : Nat × State := match objFind e.1 e.2.1 with
      | some o => (match objRead o dictMaster s with | (_, v, t) => (v, t))
      | none => (0, s)
    let q := sampleMap l r.2
    (toBytes (e.2.2 / 8) r.1 ++ q.1, q.2)

/-- TPDO n is sampled and sent. -/
def tpdoSend (n : Nat) (s : State) : State :=
  let r := sampleMap (pdoMap s true n) s
  netSendMore [fdFrame s (winVal s (pdoWin true n).par % 2 ^ 11) r.1]
    { r.2 with net := { r.2.net with sample := mapPut r.2.net.sample n r.1, tpdoAt := mapPut r.2.net.tpdoAt n s.now } }

/-- SRDO n acts in direction d. -/
def srdoOn (s : State) (d n : Nat) : Bool := netRuns s && srdoIs s d n && s.rd Fd.NET_SRDO_VALID_VALID == 0xA5

/-- Write the mapped entries of a valid SRDO. -/
def srdoWriteMap : List (Nat × Nat × Nat) → List Byte → State → State
  | [], _, s => s
  | e :: l, d, s =>
    let v := ofBytes (d.take (e.2.2 / 8))
    srdoWriteMap l (d.drop (e.2.2 / 8))
      (if e.1 = 0x2901 ∧ e.2.1 = 1 then s.wr Fd.SAF_SRDO_IN_RUN_ENABLE v else s)

/-- A valid SRDO has written RUN_ENABLE: 1 ends the run-enable wait, 0 raises input 34 (R354). -/
def runEnable (s : State) : State :=
  if s.rdB Fd.SAF_SRDO_IN_RUN_ENABLE then safRefresh { s with saf := { s.saf with runWait := false } }
  else safRaise 34 s

/-- SCT and SRVT of SRDO n in ticks: its parameters sub 0x02 and 0x03, in ms. -/
def srdoSct (s : State) (n : Nat) : Nat := netWin0 s (0xA004 + 0x20 * n) % 2 ^ 16 * 250000
def srdoSrvt (s : State) (n : Nat) : Nat := netWin0 s (0xA008 + 0x20 * n) % 2 ^ 8 * 250000

/-- SRDO n's last normal frame, or where none has come the entry to Operational (R293, R354). -/
def srdoLast (s : State) (n : Nat) : Nat := mapGet s.net.opAt s.net.srdoAt n

/-- A normal frame of SRDO n came or was sent; `half`: no inverse has followed it. -/
def srdoFrame (n : Nat) (half : Bool) (s : State) : State :=
  { s with net := { s.net with srdoAt := mapPut s.net.srdoAt n s.now, srdoHalf := if half then mapPut s.net.srdoHalf n s.now else mapDel s.net.srdoHalf n } }

/-- A valid SRDO's data are written as one access; RUN_ENABLE among them acts (R354). -/
def srdoTaken (n : Nat) (d : List Byte) (s : State) : State :=
  let t := srdoWriteMap (srdoMap s n) d s
  if srdoMapsIn s n then runEnable t else t

/-- A transmit SRDO is sampled and sent: the normal and the inverse frame, on line 1 while LINE1_EN is 1 (R285). -/
def srdoSend (n : Nat) (s : State) : State :=
  let r := sampleMap (srdoMap s n) s
  netSendMore [srdoTx s (netWin0 s (0xA000 + 0x20 * n + 0x10) % 2 ^ 11) r.1,
    srdoTx s (netWin0 s (0xA000 + 0x20 * n + 0x14) % 2 ^ 11) (r.1.map (fun b => ~~~b))] (srdoFrame n false r.2)

/-! ### One access at a time (R273) -/

/-- The client of a waiting access. -/
def DictWork.client (w : DictWork) : Option Nat :=
  match w with
  | .read c _ _ _ _ _ => some c
  | .write c _ _ _ _ _ => some c
  | _ => none

/-- The access is the host SPI port's. -/
def DictWork.spi (w : DictWork) : Bool := w.client == some 0 || w.client == some spiGone

/-- The access goes to the fabric window. -/
def DictWork.fabric (w : DictWork) : Bool :=
  match w with
  | .read _ i _ _ _ _ => inFabric i
  | .write _ _ i _ _ l => inFabric i || (i == 0x2F00 && inFabric (mf l 2 2))
  | _ => false

/-- The class of an access in the order of R273: SRDOs, RPDOs, TPDOs, the host SPI port, USDO clients. -/
def DictWork.cls (w : DictWork) : Nat :=
  match w with
  | .srdoIn _ _ => 0
  | .srdoOut _ => 0
  | .rpdo _ _ => 1
  | .tpdo _ => 2
  | _ => if w.spi then 3 else 4

/-- The lowest session with no segmented transfer. -/
def usdoFree (s : State) : Nat := ((List.range 4).filter (fun j => (mapGet? s.net.usdo j).isNone)).headD 0

/-- A session's transfer changes or ends. -/
def usdoPut (j : Nat) (x : UsdoSt) (s : State) : State := { s with net := { s.net with usdo := mapPut s.net.usdo j x } }
def usdoDel (j : Nat) (s : State) : State := { s with net := { s.net with usdo := mapDel s.net.usdo j } }

/-- A segmented upload begins: its first answer is the length. -/
def usdoBegin (c i b off n : Nat) (s : State) : State :=
  match dictRead c 0 i b off n s with
  | (.now o l, u) =>
    if o.st = St.ok then usdoDone Out.done (toBytes 4 l.length) (usdoPut (usdoFree u) ⟨c, i, b, off, false, l, l.length⟩ u)
    else usdoDone o [] u
  | (.later, u) => u

/-- Deliver the end of an access to client c. -/
def dictGive (c : Nat) (r : DictEnd × State) : State := r.1.give c r.2

/-- The engine makes an access; PDOs and SRDOs act only while the NMT state is Operational. -/
def DictWork.run (w : DictWork) (s : State) : State :=
  match w with
  | .read c i b off n seg => if seg then usdoBegin c i b off n s else dictGive c (dictRead c 0 i b off n s)
  | .write c tag i b off l => dictGive c (dictWrite c tag i b off l s)
  | .rpdo n d => if netRuns s && pdoOn s false n then rpdoApply n d s else s
  | .tpdo n => if netRuns s && pdoOn s true n then tpdoSend n s else s
  | .srdoIn n d => if srdoOn s 2 n then srdoTaken n d s else s
  | .srdoOut n => if srdoOn s 1 n then srdoSend n s else s

/-- An access is asked of the engine: it waits while one is in progress (R273); a PDO or SRDO to be sent waits once. -/
def dictAsk (w : DictWork) (s : State) : State :=
  if s.fab.req.isSome then
    (if w.client.isNone && s.net.work.contains w then s else { s with net := { s.net with work := s.net.work ++ [w] } })
  else w.run s

/-- The waiting access that comes first: of the first class, the oldest (R273). -/
def workFirst (s : State) : Option DictWork := (List.range 5).findSome? (fun k => s.net.work.find? (fun w => w.cls == k))

/-- The engine goes on once it is free: the accesses that wait, in their order; before the first of them that goes to the fabric, and after
all others, the fabric defaults (R279); last the store's fabric objects. -/
def dictNext : Nat → State → State
  | 0, s => s
  | n + 1, s =>
    if s.fab.req.isSome then s
    else
      let w := workFirst s
      match w, s.fab.wait with
      | some x, [] => dictNext n (x.run { s with net := { s.net with work := s.net.work.erase x } })
      | none, [] => match storeAsk s with
        | some r => if anySector s then portTake r s else dictNext n (storeTake r Out.noObject s)
        | none => s
      | _, r :: l =>
        if w.any (fun x => !x.fabric) then
          dictNext n ((w.elim id DictWork.run) { s with net := { s.net with work := w.elim s.net.work s.net.work.erase } })
        else
          let t := { s with fab := { s.fab with wait := l } }
          if anySector t then portTake r t else dictNext n (fabEnd r Out.noObject t)

/-- The engine goes on as far as it can. -/
def dictGo (s : State) : State :=
  dictNext (s.net.work.length + 2 * s.fab.wait.length + (match s.ufl.store with | some x => x.todo.length | none => 0) + 2)
    (when_ (s.fab.req.isNone && s.net.work.any (fun w => w.client.isNone)) (netSend []) s)

/-! ### USDO -/

/-- Sessions in use (R284): segmented transfers, and accesses whose answer is still to come. -/
def usdoOpen (s : State) : Nat :=
  let fab := (s.fab.wait ++ s.fab.req.toList).filter (fun r => decide (1 ≤ r.client) && decide (r.client ≤ 127))
  let store := match s.ufl.store with | some x => if 1 ≤ x.client ∧ x.client ≤ 127 then 1 else 0 | none => 0
  let wait := s.net.work.filter (fun w => w.client.any (fun c => decide (1 ≤ c) && decide (c ≤ 127)))
  s.net.usdo.length + fab.length + wait.length + store

/-- A tagged write is kept as written for its session (Table 12.8). -/
def keepTag (j index : Nat) (l : List Byte) (s : State) : State :=
  if index = 0x2F00 then { s with net := { s.net with lastTag := mapPut s.net.lastTag j (l.take 16) } } else s

/-- The transfer of client c in session j. -/
def usdoOf (s : State) (c j : Nat) : Option UsdoSt :=
  match mapGet? s.net.usdo j with
  | some x => if x.client = c then some x else none
  | none => none

/-- A USDO message of client c (R284, R287). -/
def usdoRequest (c : Nat) (op : UsdoOp) (s : State) : State :=
  if !nmtServed s then s
  else
    let s := idleRestart s
    let new := fun (f : State → State) => if 4 ≤ usdoOpen s then usdoDone Out.table [] s else f s
    match op with
    | .read i b off n => new (dictAsk (.read c i b off n false))
    | .write i b off l => new (fun t => dictAsk (.write c 0 i b off l) (keepTag (usdoFree t) i l t))
    | .readBegin i b off n => new (dictAsk (.read c i b off n true))
    | .writeBegin i b off n => new (fun t => usdoDone Out.done [] (usdoPut (usdoFree t) ⟨c, i, b, off, true, [], n⟩ t))
    | .readSegment j n =>
      match usdoOf s c j with
      | some x =>
        if x.write then s
        else
          let rest := x.data.drop n
          usdoDone Out.done (x.data.take n) (if rest.isEmpty then usdoDel j s else usdoPut j { x with data := rest } s)
      | none => s
    | .writeSegment j l =>
      match usdoOf s c j with
      | some x =>
        if !x.write then s
        else
          let d := x.data ++ l
          if x.len < d.length then usdoDone Out.length [] (usdoDel j s)
          else if d.length < x.len then usdoDone Out.done [] (usdoPut j { x with data := d } s)
          else dictAsk (.write c 0 x.index x.sub x.off d) (keepTag j x.index d (usdoDel j s))
      | none => s
    | .abort j => if (usdoOf s c j).isSome then usdoDel j s else s

/-- No segment has come in session j for 100 ms: the transfer is aborted (R284). -/
def usdoTimeout (j : Nat) (s : State) : State :=
  if (mapGet? s.net.usdo j).isSome then usdoSay 0x05040000 [] (usdoDel j s) else s

/-! ### PDOs (R288, R289) -/

/-- RPDO n is received. -/
def rpdo (n : Nat) (d : List Byte) (s : State) : State :=
  if !netRuns s || !pdoOn s false n then s
  else if d.length < pdoLen s false n then emcy 0x8210 Blk.net 11 (s.set1 Fd.NET_STAT_PDO_LEN)
  else if pdoType s false n ≤ 240 then { s with net := { s.net with rpdo := mapPut s.net.rpdo n d } }
  else dictAsk (.rpdo n d) s

/-- Ticks in a unit of an inhibit time, 100 µs; the unit of a PDO's is CiA 1301's (PRESUMED, log 77). -/
def inhibitUnit : Nat := 25000

/-- TPDO n is within its inhibit time: its parameter at + 0x8 (R288, Table 12.8). -/
def tpdoInhibited (s : State) (n : Nat) : Bool :=
  match mapGet? s.net.tpdoAt n with
  | some a => decide (s.now - a < winVal s ((pdoWin true n).par + 8) % 2 ^ 16 * inhibitUnit)
  | none => false

/-- The event-driven TPDOs whose inhibit time has ended are sent (R288). -/
def netTick (s : State) : State :=
  if !netRuns s then s
  else match s.net.tpdoHeld.filter (fun n => !tpdoInhibited s n) with
    | [] => s
    | l => forEach l (netSend [] s) (fun n t =>
        let u := { t with net := { t.net with tpdoHeld := setDel t.net.tpdoHeld n } }
        if pdoOn u true n && decide (254 ≤ pdoType u true n) then dictAsk (.tpdo n) u else u)

/-- A period of t ticks has passed since a time, or nothing has begun it. -/
def periodOver (s : State) (a : Option Nat) (t : Nat) : Bool := a.all (fun b => decide (t ≤ s.now - b))

/-- TPDO n's event timer, its parameter at + 0x10 in ms, runs and has expired since the PDO was last sent (R288). -/
def tpdoTimeUp (s : State) (n : Nat) : Bool :=
  let t := winVal s ((pdoWin true n).par + 0x10) % 2 ^ 16
  t != 0 && periodOver s (mapGet? s.net.tpdoAt n) (t * 250000)

/-- The event timer of TPDO n expires (`timer`), or a mapped value has changed: types 254 and 255 send, held back by the inhibit
time, type 0 waits for a SYNC. -/
def tpdo (n : Nat) (timer : Bool) (s0 : State) : State :=
  let s := netSend [] s0
  if !netRuns s || !pdoOn s true n then s0
  else if timer && !tpdoTimeUp s n then s0
  else if !timer && mapGet? s.net.sample n == some (sampleMap (pdoMap s true n) s).1 then s0
  else if 254 ≤ pdoType s true n then
    if tpdoInhibited s n then { s0 with net := { s0.net with tpdoHeld := setIns s0.net.tpdoHeld n } } else dictAsk (.tpdo n) s
  else if pdoType s true n = 0 then { s0 with net := { s0.net with tpdoDue := setIns s0.net.tpdoDue n } }
  else s0

/-! ### SYNC (R290) -/

/-- A PDO of a synchronous type is due at the SYNC counted. -/
def syncDue (s : State) (tx : Bool) (n : Nat) : Bool :=
  let t := pdoType s tx n
  pdoOn s tx n && (if t = 0 then !tx || s.net.tpdoDue.contains n else decide (t ≤ 240) && s.net.syncCnt % t == 0)

/-- What a SYNC sent or received does: its time, received PDOs are applied, transmit PDOs sampled; those of `late` could not be sent
within the window and are discarded. -/
def syncActs (late : List Nat) (s : State) : State :=
  let t := irqEvent 393 (s.wr Fd.NET_SYNC_TIME_TIME s.now)
  let u := { t with net := { t.net with syncCnt := t.net.syncCnt + 1 } }
  let due := (u.net.rpdo.map Prod.fst).filter (syncDue u false)
  let v := forEach due u (fun n w => match mapGet? w.net.rpdo n with
    | some d => dictAsk (.rpdo n d) { w with net := { w.net with rpdo := mapDel w.net.rpdo n } }
    | none => w)
  forEach ((List.range 64).filter (syncDue v true)) v (fun n w =>
    let x := { w with net := { w.net with tpdoDue := setDel w.net.tpdoDue n } }
    if late.contains n && x.rd Fd.NET_SYNC_WIN_WINDOW != 0 then x else dictAsk (.tpdo n) x)

/-- A SYNC is received. -/
def syncReceive (late : List Nat) (s : State) : State := if netRuns s then syncActs late (netSend [] s) else s

/-- A SYNC is due: production is on, and PERIOD µs have passed since the last one. -/
def syncIsDue (s : State) : Bool :=
  netRuns s && s.rdB Fd.NET_SYNC_COBID_GEN && s.rd Fd.NET_SYNC_PERIOD_PERIOD != 0 &&
    periodOver s s.net.syncAt (s.rd Fd.NET_SYNC_PERIOD_PERIOD * 250)

/-- The SYNC period expires. -/
def syncProduce (late : List Nat) (s0 : State) : State :=
  if syncIsDue s0 then
    let s := { s0 with net := { s0.net with syncAt := some s0.now } }
    let ovf := s.rd Fd.NET_SYNC_OVF_OVF
    syncActs late (netSend [fdFrame s (s.rd Fd.NET_SYNC_COBID_ID) (if ovf = 0 then [] else toBytes 1 (s.net.syncCnt % ovf + 1))] s)
  else s0

/-! ### Heartbeat and line events (R291, R292) -/

/-- A heartbeat is due: its producer time is set and has passed since the last one. -/
def hbIsDue (s : State) : Bool :=
  nmtServed s && s.rd Fd.NET_HB_PROD_TIME != 0 && periodOver s s.net.hbAt (s.rd Fd.NET_HB_PROD_TIME * 250000)

/-- The producer time expires: a heartbeat is sent; production pauses in SLEEP. -/
def hbProduce (s : State) : State :=
  if hbIsDue s then
    netSend [fdFrame s (0x700 + s.net.node) (toBytes 1 (nmtByte s))] { s with net := { s.net with hbAt := some s.now } }
  else s

/-- The consumer entries that watch a node. -/
def hbWatch (s : State) (node : Nat) : List Nat :=
  (List.range 8).filter (fun i => s.rd (Fd.NET_HB_CONS_TIME i) != 0 && s.rd (Fd.NET_HB_CONS_NODE i) == node)

/-- A heartbeat is received: the consumer times of its node restart. -/
def hbReceive (node : Nat) (s : State) : State :=
  if nmtServed s then
    forEach (hbWatch s node) s (fun i t => { t with net := { t.net with hbAlive := mapPut t.net.hbAlive i t.now } })
  else s

/-- The reaction to a communication error (R291, 0x1029). -/
def commError (s : State) : State :=
  let c := s.rd Fd.NET_ERR_BEH_COMM
  if c = 0 then (if driving s.mode && !s.rdB Fd.SYS_MODE_REQ_BUSY then toStandby s else s)
  else if c = 2 then (if safeReqFrom s then enterSafe 0 0xFF s else s)
  else s

/-- The consumer time of entry i has run since its node's last heartbeat. -/
def hbLate (s : State) (i : Nat) : Bool :=
  match mapGet? s.net.hbAlive i with
  | some a => decide (s.rd (Fd.NET_HB_CONS_TIME i) * 250000 ≤ s.now - a)
  | none => true

/-- Consumer entry i times out. -/
def hbTimeout (i : Nat) (s : State) : State :=
  if nmtServed s && s.rd (Fd.NET_HB_CONS_TIME i) != 0 && hbLate s i then
    commError (emcy 0x8130 Blk.net 6 (irqEvent 394 (s.set1 Fd.NET_STAT_HB_TMO)))
  else s

/-- A line enters bus-off. -/
def busOff (l : Nat) (s : State) : State :=
  if nmtServed s then (s.set1 (if l = 0 then Fd.NET_STAT_BUS_OFF0 else Fd.NET_STAT_BUS_OFF1)).incSat (Fd.NET_CAN_CNT_BUS_OFFS l) else s

/-- A line recovers from bus-off; on line 0 it is a communication error. -/
def busBack (l : Nat) (s : State) : State :=
  let f := if l = 0 then Fd.NET_STAT_BUS_OFF0 else Fd.NET_STAT_BUS_OFF1
  if s.rdB f then
    let t := s.clr f
    if l = 0 then commError (emcy 0x8140 Blk.net 2 t) else t
  else s

/-- A line becomes error passive, or leaves that state. -/
def errPassive (l : Nat) (on : Bool) (s : State) : State :=
  let f := if l = 0 then Fd.NET_STAT_PASSIVE0 else Fd.NET_STAT_PASSIVE1
  if !nmtServed s then s
  else if on then (if s.rdB f then s else emcy 0x8120 Blk.net (4 + l) (s.set1 f))
  else s.clr f

/-- A received frame is lost to overrun on a line. -/
def rxOverrun (l : Nat) (s : State) : State :=
  if nmtServed s then emcy 0x8110 Blk.net 10 ((s.set1 Fd.NET_STAT_RX_OVR).incSat (Fd.NET_CAN_CNT_RX_LOST l)) else s

/-- An error code enters the history, newest first (R292, 0x1003). -/
def histAdd (e : Emcy) (s : State) : State :=
  let t := forEach ((List.range 15).reverse) s (fun i u =>
    ((u.wr (Fd.NET_ERR_HIST_CODE (i + 1)) (u.rd (Fd.NET_ERR_HIST_CODE i))).wr (Fd.NET_ERR_HIST_ORIGIN (i + 1))
      (u.rd (Fd.NET_ERR_HIST_ORIGIN i))).wr (Fd.NET_ERR_HIST_DETAIL (i + 1)) (u.rd (Fd.NET_ERR_HIST_DETAIL i)))
  let v := ((t.wr (Fd.NET_ERR_HIST_CODE 0) e.code).wr (Fd.NET_ERR_HIST_ORIGIN 0) e.origin).wr (Fd.NET_ERR_HIST_DETAIL 0) e.detail
  v.wr Fd.NET_ERR_HIST_CNT_COUNT (min 16 (s.rd Fd.NET_ERR_HIST_CNT_COUNT + 1))

/-- The data of an emergency frame (R292): the error register is that of the message's cause. -/
def emcyBytes (e : Emcy) : List Byte :=
  toBytes 2 e.code ++ toBytes 1 e.er ++ toBytes 1 e.origin ++ toBytes 1 e.detail ++ toBytes 3 (bits e.time 41 18)

/-- Emergency frames are within their inhibit time (R292). -/
def emcyInhibited (s : State) : Bool :=
  match s.net.emcyAt with
  | some a => decide (s.now - a < s.rd Fd.NET_EMCY_INH_TIME * inhibitUnit)
  | none => false

/-- The oldest queued emergency message is sent once the inhibit time has passed, unless EMCY is suppressed. -/
def emcySend (s : State) : State :=
  match s.net.emcy with
  | [] => s
  | e :: l =>
    if !nmtServed s || emcyInhibited s then s
    else
      let t := { s with net := { s.net with emcy := l } }
      let u := if e.code = 0 then t else histAdd e t
      if s.rdB Fd.NET_EMCY_COBID_INVALID then u
      else netSend [fdFrame s (s.rd Fd.NET_EMCY_COBID_ID) (emcyBytes e)] { u with net := { u.net with emcyAt := some s.now } }

/-! ### SRDOs (R293, R354) -/

/-- An SRDO is received over the line that carries SRDOs: line 1 while LINE1_EN is 1, else line 0; frames of the other line are none
(R285). Its normal data and its inverse data; a normal frame alone, with no inverse yet, waits for it (log 79). -/
def srdoReceive (n : Nat) (d inv : List Byte) (s : State) : State :=
  if !srdoOn s 2 n then s
  else if inv = [] ∧ d ≠ [] then srdoFrame n true s
  else
    let s1 := srdoFrame n false s
    if d.length ≠ inv.length ∨ inv.map (fun b => ~~~b) ≠ d ∨ d.length < ((srdoMap s n).map (fun e => e.2.2 / 8)).sum then srdoFail n s1
    else
      dictAsk (.srdoIn n d) { s1 with net := { s1.net with srdoFault := setDel s1.net.srdoFault n } }

/-- A transmit SRDO is due: SCT has passed since it was last sent. -/
def srdoIsDue (s : State) (n : Nat) : Bool := periodOver s (mapGet? s.net.srdoAt n) (srdoSct s n)

/-- SCT of a transmit SRDO expires: the normal and the inverse frame are sent, on line 1 while LINE1_EN is 1 (R285). -/
def srdoTransmit (n : Nat) (s : State) : State :=
  if !srdoOn s 1 n || !srdoIsDue s n then s else dictAsk (.srdoOut n) (netSend [] s)

/-- SRVT has passed since a normal frame that no inverse has followed, or SCT since the last normal frame (R293). -/
def srdoLate (s : State) (n : Nat) : Bool :=
  (match mapGet? s.net.srdoHalf n with
   | some a => decide (srdoSrvt s n ≤ s.now - a)
   | none => false) || decide (srdoSct s n ≤ s.now - srdoLast s n)

/-- SRVT or SCT of a receive SRDO expires. -/
def srdoTimeout (n : Nat) (s : State) : State := if srdoOn s 2 n && srdoLate s n then srdoFail n s else s

end Sys2Proof.Machine
end

