-- ==== Sys2Proof/Machine/Dflt.lean ====
section
/-! DEFINITION. Default values (R274 to R279): the sources, their records and checks, the chain of Table 12.3, and the defaults of
fabric objects. -/
namespace Sys2Proof.Machine

open Sys2Proof

/-- A value of a source for one subindex of an object. -/
structure Val where
  index : Nat
  sub : Nat
  data : List Byte
deriving DecidableEq, Repr

/-- The key of an object in the order of R275. -/
def Val.key (v : Val) : Nat := v.index * 256 + v.sub

/-- The values of a run: consecutive subindexes, each at its size, up to the end of the data; none where they do not fit. -/
def runSplit : Nat → Nat → Nat → List Byte → Option (List Val)
  | 0, _, _, _ => none
  | n + 1, index, sub, l =>
    if l.isEmpty then some []
    else match objFind index sub with
      | none => none
      | some o =>
        if l.length < o.size / 8 then none
        else (runSplit n index (sub + 1) (l.drop (o.size / 8))).map (fun r => ⟨index, sub, l.take (o.size / 8)⟩ :: r)

/-- The values a record stands for; none where the record fails as a whole (R276). -/
def Rec.vals (r : Rec) : Option (List Val) :=
  if r.kind = 1 then some [⟨r.index, r.sub, r.data⟩]
  else if r.kind = 3 then runSplit 257 r.index r.sub r.data
  else none

/-- The values of a list of records; records that fail as a whole are counted. -/
def recVals : List Rec → State → List Val × State
  | [], s => ([], s)
  | r :: l, s =>
    match r.vals with
    | some v => let q := recVals l s; (v ++ q.1, q.2)
    | none => recVals l (defRefuse r.index r.sub s)

/-- A field takes its value from a reset source: ret or img. -/
def FieldRow.sourced (f : FieldRow) (img : Bool) : Bool := f.src == .ret || (img && f.src == .img)

/-- A field that a default writes. -/
def FieldRow.setting (f : FieldRow) : Bool := match f.acc with
  | .rw => true
  | .rwOnce => true
  | _ => false

/-- The bits of an object's register that a source supplies by a write; `img`: the source serves img fields too. -/
def dfltMask (o : Obj) (h : Hit) (img : Bool) : Nat :=
  ((h.row.fields.filter (fun f => o.covers f && f.sourced img && f.setting)).map FieldRow.mask).sum

/-- The ret fields of an object's register that only record: ro and w1c. -/
def dfltRecord (o : Obj) (h : Hit) : List FieldRow := h.row.fields.filter (fun f => o.covers f && f.src == .ret && !f.setting)

/-- Apply a value to a scalar object under the conditions of R271 other than mode. -/
def dfltScalar (img : Bool) (o : Obj) (v : Nat) (s : State) : Nat × State :=
  if o.win then asDefault (fun t => match objWrite o v byDefault t with | (r, u) => (r.st, u)) s
  else match regFind o.addr with
    | none => (St.range, s)
    | some h =>
      if dfltMask o h img = 0 then (St.access, s)
      else
        let r := asDefault (regWrite h (v * 2 ^ o.lo) (dfltMask o h img) byDefault) s
        (r.1, if r.1 = St.ok then r.2 else s)

/-- Apply bytes to a DOMAIN object: the correction tables into both banks, the delay table, the safe images. -/
def dfltDomain (img : Bool) (index : Nat) (l : List Byte) (s : State) : Nat × State :=
  match domFind index with
  | none => (St.range, s)
  | some d =>
    if !(index ∈ [0x3030, 0x3031, 0x4600] || (img && index == 0x4601)) then (St.access, s)
    else if l.length = 0 ∨ d.size < l.length then (St.range, s)
    else
      let one := asDefault (fun t => match domWrite d.kind byDefault ((l.length + 3) / 4) 0 l t with | (o, u) => (o.st, u))
      if index = 0x4600 ∨ index = 0x4601 then one s
      else
        let f := if index = 0x3030 then Fd.AFE_TBL_CTRL_ACTIVE0 else Fd.AFE_TBL_CTRL_ACTIVE1
        let a := s.rd f
        let r := one s
        let q := one (r.2.wr f (1 - a))
        (r.1, q.2.wr f a)

/-- Apply a value of a source: its status. -/
def dfltApply (img : Bool) (v : Val) (s : State) : Nat × State :=
  match objFind v.index v.sub with
  | some o => if 8 * v.data.length ≠ o.size then (St.range, s) else dfltScalar img o (ofBytes v.data) s
  | none => if v.sub = 0 then dfltDomain img v.index v.data s else (St.range, s)

/-- The recording fields of a value of retained RAM return as they stood (Table 12.3). -/
def dfltRecords (v : Val) (s : State) : State :=
  match objFind v.index v.sub with
  | some o => if o.win then s else match regFind o.addr with
    | some h => forEach (dfltRecord o h) s (fun f t => t.wr (f.fld h.addr) (ofBytes v.data / 2 ^ (f.lo - o.lo)))
    | none => s
  | none => s

/-! ### The sources -/

/-- A source: its flag in NET_DEF_STAT, whether it serves img fields, and its values. -/
structure Source where
  flag : Fld
  img : Bool
  vals : List Val

/-- The records of the dictionary region (R277). -/
def regionRecs (s : State) : List Rec :=
  if regionGood s then records (regionBytes s 16 (s.mdata 13 1 % 2 ^ 32)) else []

/-- The records of the dictionary store's newest snapshot. -/
def storeRecs (s : State) : List Rec :=
  match snapNewest s with
  | some x => records x.body
  | none => []

/-- LOG_RSEQ follows R317 in place of Table 12.3. -/
def Val.notRseq (v : Val) : Bool := v.key != 0x5E0007

/-- Try the sources of one object in order; the first value that passes is taken, each that fails is counted. -/
def tryKey (key : Nat) : List Source → State → State
  | [], s => s
  | x :: l, s =>
    match x.vals.find? (fun v => v.key == key) with
    | none => tryKey key l s
    | some v =>
      match dfltApply x.img v s with
      | (st, t) => if st = St.ok then t.set1 x.flag else tryKey key l (defRefuse v.index v.sub s)

/-- The keys of the sources in ascending order. -/
def sourceKeys (l : List Source) : List Nat := l.foldl (fun a x => x.vals.foldl (fun b v => setIns b v.key) a) []

/-- The records of a source for objects of an index range; fabric objects have their own defaults (R279). -/
def recsIn (first last : Nat) (l : List Rec) : List Rec :=
  l.filter (fun r => decide (first ≤ r.index) && decide (r.index ≤ last) && !inFabric r.index)

/-- The chain for the objects of an index range, by reset kind; `man`: a manifest is loaded (Table 12.3). -/
def chain (kind : Nat) (man : Bool) (first last : Nat) (s : State) : State :=
  let own := fun (l : List Val) => l.filter Val.notRseq
  let m := if man then recVals (recsIn first last (manifestRecs s)) s else ([], s)
  let d := recVals (recsIn first last (storeRecs s)) m.2
  let r := if kind = 0 then ([], d.2) else recVals (recsIn first last (regionRecs s)) d.2
  let rv := own r.1
  let base : List Source := [⟨Fd.NET_DEF_STAT_STORE_USED, false, own d.1⟩, ⟨Fd.NET_DEF_STAT_MANIFEST_USED, true, own m.1⟩]
  let l := if kind = 2 then ⟨Fd.NET_DEF_STAT_RET_USED, false, rv⟩ :: base else base
  let t := forEach rv r.2 dfltRecords
  let u := if rv.isEmpty then t else t.set1 Fd.NET_DEF_STAT_RET_USED
  forEach (sourceKeys l) u (fun k w => tryKey k l w)

/-- The rates of NET_CFG in kbit/s: arbitration, and data, which is never below it (R285). -/
def netRates (s : State) : Nat × Nat :=
  let arb := 125 * 2 ^ s.rd Fd.NET_CFG_ARB_RATE
  let data := match s.rd Fd.NET_CFG_DATA_RATE with
    | 0 => 1000
    | 1 => 2000
    | 2 => 4000
    | 3 => 5000
    | _ => 8000
  (arb, max arb data)

/-- The node-ID, the bit rates and LINE1_EN are taken, and with the node-ID the hardware value of the EMCY COB-ID where no source gave one. -/
def nodeTake (s : State) : State :=
  let n := s.rd Fd.NET_CFG_NODE_ID
  let t := { s with net := { s.net with node := n, line1 := s.rdB Fd.NET_CFG_LINE1_EN, arbRate := (netRates s).1, dataRate := (netRates s).2 } }
  if (mapGet? s.regs Fd.NET_EMCY_COBID_ID.key).isSome then t else t.wr Fd.NET_EMCY_COBID_ID (0x80 + n)

/-- A load with failing records sets DEF_REFUSED and sends EMCY 0xFF05 once (R276). -/
def defNote (s : State) : State :=
  if s.rd Fd.NET_DEF_STAT_REFUSED = 0 then s else emcy 0xFF05 Blk.net 9 (s.set1 Fd.NET_STAT_DEF_REFUSED)

/-- DEFAULTS: every object of the device takes its value from the first source that holds one (R274). -/
def applyDefaults (man : Bool) (s : State) : State := defNote (nodeTake (chain s.sys.kind man 0 0xFFFF s))

/-! ### Fabric objects (R279) -/

/-- The snapshot's records, where its IMAGE_ID is that of the loaded manifest. -/
def fabricSnap (s : State) : List Rec :=
  match snapNewest s with
  | some x => if x.imageId = s.rd Fd.CFG_LOADED_ID_IMAGE_ID then records x.body else []
  | none => []

/-- The snapshot holds fabric records of another image. -/
def fabricStale (s : State) : Bool :=
  match snapNewest s with
  | some x => x.imageId != s.rd Fd.CFG_LOADED_ID_IMAGE_ID && (records x.body).any (fun r => inFabric r.index)
  | none => false

/-- A fabric object's default is asked for: the snapshot's value, which must have the object's size, else the manifest's (R276, R279). -/
def fabricAsk (snap : List Rec) (r : Rec) (s : State) : State :=
  match snap.find? (fun q => q.index == r.index && q.sub == r.sub) with
  | none => fabAsk (fabDefault 255 r) s
  | some q =>
    if q.data.length = r.data.length then fabAsk (fabDefault 253 q) s else fabAsk (fabDefault 255 r) (defLate q.index q.sub s)

/-- The fabric defaults are asked for through the dictionary port, before any other request (R279). -/
def fabricDefaults (s : State) : State :=
  let snap := fabricSnap s
  let t := when_ (fabricStale s) (fun u => u.set1 Fd.NET_DEF_STAT_FABRIC_STALE) s
  let u := forEach (fabricBad s (manifestRecs s) ++ fabricBad s snap) t (fun r v => defLate r.index r.sub v)
  dictGo (forEach (fabricRecs s) u (fabricAsk (fabricOf s snap)))

/-- A fabric default is still to be written. -/
def fabricDue (s : State) : Bool := (s.fab.req.toList ++ s.fab.wait).any FabReq.isDefault

/-- The fabric defaults have been written: FABRIC_DONE, and the boot-up message (R279, R286). -/
def fabricDone (s : State) : State :=
  if s.sys.phase = .over ∧ s.fab.released = true ∧ !fabricDue s ∧ !s.rdB Fd.NET_DEF_STAT_FABRIC_DONE then
    bootUp (netSend [] (s.set1 Fd.NET_DEF_STAT_FABRIC_DONE))
  else s

end Sys2Proof.Machine
end

