-- ==== Sys2Proof/Machine/Dma.lean ====
section
/-! DEFINITION. DMA bursts and the end of a descriptor (R246 to R250, Table 10.7). -/
namespace Sys2Proof.Machine

open Sys2Proof

/-- Bytes of the descriptor already moved. -/
def dmaMoved (s : State) (n : Nat) : Nat := dmaLen s n - s.rd (Fd.DMA_REMAIN_BYTES n)

/-- Bytes to the next 64 B boundary. -/
def toLine (a : Nat) : Nat := 64 - a % 64

/-- Length of the next burst: up to 64 B, crossing no 64 B boundary of its source or of its destination in memory. -/
def dmaBurstLen (s : State) (n : Nat) : Nat :=
  let m := dmaMoved s n
  let l := min (toLine (dmaSrc s n + m)) (s.rd (Fd.DMA_REMAIN_BYTES n))
  if dmaToQueue s n then l else min l (toLine (dmaDst s n + m))

/-- How an access of a channel ends: done with what was read, waiting, or with a halt cause and the address it stopped at. -/
inductive DmaOut where
  | ok (d : List Nat)
  | hold
  | halt (cause : Nat) (a : Nat)
deriving DecidableEq, Repr

/-- The halt cause of an access that failed (Table 10.7, R252). -/
def Bus.dmaCause : Bus → Nat
  | .ue => 1
  | _ => 2

/-- One 64-bit access of a channel on the system bus; `ans` is what the fabric design answers for accesses to its window, in order, an
access with no answer left being one that is not acknowledged in time (R16). A channel does not use the SDRAM window (R17): a LINK in it is
a bus error there, as of a reserved address (DESIGN CHOICE, log 76). -/
def dmaAccess (a : Nat) (w : Option Nat) (ans : List Nat) (s : State) : Bus × List Nat × State :=
  if 0x40000000 ≤ a ∧ a < 2 ^ 32 then let e := busFail 1 a w.isSome 0x04 s; (e.1, ans, e.2)
  else if regionOf a = .fabric then
    match ans with
    | d :: r => (.ok (d % 2 ^ 64), r, s)
    | [] => let e := busFail 5 a w.isSome 0x04 s; (e.1, [], e.2)
  else
    let e := match w with
      | none => busRead a 8 0x04 s
      | some d => busWrite a 8 d 0x04 s
    (e.1, ans, e.2)

/-- Read k 64-bit words from a system address. -/
def dmaReadSys : Nat → Nat → List Nat → State → DmaOut × List Nat × State
  | 0, _, ans, s => (.ok [], ans, s)
  | k + 1, a, ans, s =>
    match dmaAccess a none ans s with
    | (.ok d, r, t) =>
      match dmaReadSys k (a + 8) r t with
      | (.ok l, r2, u) => (.ok (d :: l), r2, u)
      | e => e
    | (.hold, r, t) => (.hold, r, t)
    | (e, r, t) => (.halt e.dmaCause a, r, t)

/-- Write 64-bit words at a system address. -/
def dmaWriteSys : List Nat → Nat → List Nat → State → DmaOut × List Nat × State
  | [], _, ans, s => (.ok [], ans, s)
  | d :: l, a, ans, s =>
    match dmaAccess a (some d) ans s with
    | (.ok _, r, t) => dmaWriteSys l (a + 8) r t
    | (.hold, r, t) => (.hold, r, t)
    | (e, r, t) => (.halt e.dmaCause a, r, t)

/-- The k 64-bit words of a line's data from byte `off`. -/
def lineWords (d off k : Nat) : List Nat := (List.range k).map (fun i => d / 2 ^ (8 * (off + 8 * i)) % 2 ^ 64)

/-- Read k words of one SDRAM line (SPACE 1). -/
def dmaReadX (k a : Nat) (s : State) : DmaOut × State :=
  if xmcLines s ≤ a / 64 then (.halt 2 a, s)
  else if !lineOk (a / 64) s then (.hold, s)
  else
    let r := lineRead (a / 64) 0x10 s
    let t := r.2.2.2
    let off := a % 64
    if off < 32 ∧ r.1.isNone then (.halt 1 a, t)
    else if 32 < off + 8 * k ∧ r.2.1.isNone then (.halt 1 (max a (a / 64 * 64 + 32)), t)
    else (.ok (lineWords (r.1.getD 0 + r.2.1.getD 0 * 2 ^ 256) off k), t)

/-- The number a list of 64-bit words spells, first word lowest. -/
def ofWords : List Nat → Nat
  | [] => 0
  | d :: l => d + 2 ^ 64 * ofWords l

/-- Write words into one SDRAM line (SPACE 1). -/
def dmaWriteX (l : List Nat) (a : Nat) (s : State) : DmaOut × State :=
  if xmcLines s ≤ a / 64 then (.halt 2 a, s)
  else if !lineOk (a / 64) s then (.hold, s)
  else match lineWrite (a / 64) (ofWords l * 2 ^ (8 * (a % 64))) ((2 ^ (8 * l.length) - 1) * 2 ^ (a % 64)) 0x10 s with
    | (true, t) => (.ok [], t)
    | (false, t) => (.halt 1 a, t)

/-- Push the events of a burst: how many were taken, and the status of the first that was not (R248). -/
def dmaPush (n q : Nat) : Nat → List Nat → State → Nat × Option Nat × State
  | 0, _, s => (0, none, s)
  | k + 1, l, s =>
    let w := fun i => BitVec.ofNat 32 (nth 0 l (i / 2) / 2 ^ (32 * (i % 2)))
    match portOp 0 (32 + n) q (evOf (w 0) (w 1) (w 2) (w 3)) s with
    | (st, t) =>
      if st = St.ok then
        let r := dmaPush n q k (l.drop 2) t
        (r.1 + 1, r.2.1, r.2.2)
      else (0, some st, t)

/-- A halt on an access: HALT_ADDR of an uncorrectable read, and the status (R250); a bus error or an error response has no status of its
own in the spec. -/
def dmaStop2 (n cause a : Nat) (sdram : Bool) (s : State) : State :=
  if cause = 1 then
    dmaHalt n 1 St.uncorrectable ((s.wr (Fd.DMA_HALT_ADDR_ADDR n) a).wrB (Fd.DMA_HALT_ADDR_SPACE n) sdram)
  else dmaHalt n cause ((Config.freeValue s.sys.free).toNat % 11) s.drawn

/-- A channel moves: RUNNING, in a mode in which DMA runs. -/
def dmaMoves (s : State) (n : Nat) : Bool := dmaState s n == 1 && dmaMode s

/-- Bytes moved. -/
def dmaDown (n k : Nat) (s : State) : State := s.wr (Fd.DMA_REMAIN_BYTES n) (s.rd (Fd.DMA_REMAIN_BYTES n) - k)

/-- One burst of channel n: read completely, then written (R247, R248, R250). -/
def dmaBurst (n : Nat) (ans : List Nat) (s : State) : State :=
  let b := dmaBurstLen s n
  if !dmaMoves s n || b == 0 then s
  else
    let src := dmaSrc s n + dmaMoved s n
    let dst := dmaDst s n + dmaMoved s n
    let r := if dmaSrcX s n then (match dmaReadX (b / 8) src s with | (o, t) => (o, ans, t)) else dmaReadSys (b / 8) src ans s
    match r with
    | (.hold, _, _) => s
    | (.halt c a, _, t) => dmaStop2 n c a (dmaSrcX s n) t
    | (.ok l, ans2, t) =>
      if dmaToQueue s n then
        match dmaPush n (dmaQueue s n) (b / 16) l t with
        | (k, none, u) => dmaDown n (16 * k) u
        | (k, some st, u) => dmaHalt n 3 st (dmaDown n (16 * k) u)
      else
        let w := if dmaDstX s n then dmaWriteX l dst t else (match dmaWriteSys l dst ans2 t with | (o, _, u) => (o, u))
        match w with
        | (.hold, _) => s
        | (.halt c a, u) => dmaStop2 n c a (dmaDstX s n) u
        | (.ok _, u) => dmaDown n b u

/-- The next descriptor is taken: its words, and its checks (Table 10.7). -/
def dmaTake (n : Nat) (l : List Nat) (s : State) : State :=
  let t := forEach (List.range 8) s (fun w u => u.wr (Fd.DMA_DESC_WORD n w) (nth 0 l (w / 2) / 2 ^ (32 * (w % 2))))
  let v := t.wr (Fd.DMA_REMAIN_BYTES n) (dmaLen t n)
  if dmaOk v n then v else dmaHalt n 5 St.range v

/-- A descriptor is complete: IRQ and DESC_CNT. -/
def dmaCounted (n : Nat) (s : State) : State :=
  (when_ ((dmaWord s n 5).testBit 1) (irqEvent (256 + n)) s).incSat (Fd.DMA_STAT_DESC_CNT n)

/-- The chain has ended: DONE. -/
def dmaDone (n : Nat) (s : State) : State := irqEvent (256 + n) (dmaStatus n St.ok (s.wr (Fd.DMA_STAT_STATE n) 2))

/-- The end of a descriptor: its commit, its interrupt and its link (R246, R248, Table 10.7). -/
def dmaDescEnd (n : Nat) (ans : List Nat) (s : State) : State :=
  let link := dmaWord s n 6
  if !dmaMoves s n || s.rd (Fd.DMA_REMAIN_BYTES n) != 0 then s
  else
    let c := if dmaToQueue s n && (dmaWord s n 5).testBit 0 then portOp 2 (32 + n) (dmaQueue s n) (evOf 0 0 0 0) s else (St.ok, s)
    if c.1 ≠ St.ok then dmaHalt n 3 c.1 c.2
    else if link = 0 then dmaDone n (dmaCounted n c.2)
    else match dmaReadSys 4 link ans (dmaCounted n c.2) with
      | (.hold, _, _) => s
      | (.ok l, _, t) => dmaTake n l t
      | (.halt k _, _, t) => if k = 1 then dmaHalt n 4 St.uncorrectable t else dmaStop2 n k link false t

end Sys2Proof.Machine
end

