-- ==== Sys2Proof/Machine/Hsp.lean ====
section
/-! DEFINITION. The host SPI port (R295 to R299): requests, bus operations, rejected frames and abandoned responses. -/
namespace Sys2Proof.Machine

open Sys2Proof

/-- The port answers: not in LOAD before the life-cycle vote, in SLEEP or in FROZEN (R295), nor without VCCIO6 (R382). -/
def spiAnswers (s : State) : Bool :=
  s.mode != Md.sleep && s.mode != Md.frozen && !s.pwr.absent.contains 6 && match s.sys.phase with
    | .noVin => false
    | .resetHeld => false
    | .regulators => false
    | .pinSettle => false
    | .vote => false
    | _ => true

/-- The dictionary is served over SPI (Table 1.7). -/
def spiDictMode (s : State) : Bool :=
  s.mode == Md.selftest || s.mode == Md.standby || s.mode == Md.run || s.mode == Md.limited || s.mode == Md.safe

/-- A frame is taken: the port answers and no earlier request stands in its way. -/
def spiFree (s : State) : Bool := spiAnswers s && !s.net.spiBusy && s.net.spiOp.isNone

/-- A frame that is not carried out (R299): 1 CRC, 2 length, 3 OP, 4 cut short. -/
def spiReject (reason : Nat) (s : State) : State :=
  let f := if reason = 1 then Fd.HSP_STAT_CRC_ERR else if reason = 3 then Fd.HSP_STAT_OP_ERR else Fd.HSP_STAT_LEN_ERR
  let t := irqEvent 402 ((s.set1 f).incSat Fd.HSP_ERR_CNT_REJECTED)
  { t with net := { t.net with spiResp := false, spiOut := toBytes 1 0x5A ++ toBytes 1 reason } }

/-- Bytes of data after the header of a request with an OP and a LEN. -/
def spiDataLen (op len : Nat) : Nat := if op = 2 ∨ op = 4 then len else 0

/-- LEN is within the range of its operation (Table 12.7). -/
def spiLenOk (op len : Nat) : Bool :=
  if op = 1 ∨ op = 2 then decide (4 ≤ len) && decide (len ≤ 256) && len % 4 == 0
  else if op = 3 ∨ op = 4 then decide (1 ≤ len) && decide (len ≤ 4096)
  else true

/-- Why a frame is not carried out, 0 where it is (R296, R299). -/
def spiReason (f : List Byte) : Nat :=
  let op := ofBytes (f.take 1)
  let len := ofBytes ((f.drop 12).take 2)
  let n := f.length
  let known := decide (1 ≤ op) && decide (op ≤ 6)
  let crc := ofBytes [nth 0 f (n - 1), nth 0 f (n - 2)]
  if n < 16 ∨ (known = true ∧ n < 16 + spiDataLen op len) then 4
  else if crc16 (f.take (n - 2)) ≠ crc then 1
  else if !known then 3
  else if !spiLenOk op len || n != 16 + spiDataLen op len then 2
  else 0

/-- A request is taken; one whose LEN is out of range is rejected. -/
def spiRequest (op tag len : Nat) (f : State → State) (s : State) : State :=
  if !spiFree s then s
  else if !spiLenOk op len then spiReject 2 (idleRestart s)
  else
    let s := idleRestart s
    f { s with net := { s.net with spiBusy := true, spiResp := false, spiTag := tag % 2 ^ 16 } }

/-! ### Bus operations -/

/-- A bus operation ends with a status. -/
def spiBusEnd (st : Nat) (data : List Byte) (s : State) : State :=
  spiDone ⟨st, 0⟩ data { s with net := { s.net with spiOp := none } }

/-- The operation after one access gave a word. -/
def SpiOp.next (o : SpiOp) (d : Nat) : SpiOp :=
  { o with phys := none, addr := o.addr + 4, left := o.left - 4, data := if o.write then o.data.drop 4 else o.data ++ toBytes 4 d }

/-- The SDRAM address an access of the host's names, by the window base now in force (R17). -/
def spiPhys (s : State) (a : Nat) : Option Nat :=
  match regionOf a with
  | .sdram off => some (sdramPhys s off 0x01)
  | _ => none

/-- One access of the operation: an SDRAM access that waited goes on at the address it was issued with (R17). -/
def spiAccess (o : SpiOp) (s : State) : Bus × State :=
  match o.phys with
  | some pa => if o.write then sdramBusWrite pa 4 (ofBytes (o.data.take 4)) 0x01 s else sdramBusRead pa 4 0x01 s
  | none => if o.write then busWrite o.addr 4 (ofBytes (o.data.take 4)) 0x01 s else busRead o.addr 4 0x01 s

/-- The 32-bit accesses of the operation in ascending order, as far as they go: an access that must wait holds the rest. -/
def spiRun : Nat → State → State
  | 0, s => s
  | n + 1, s =>
    match s.net.spiOp with
    | none => s
    | some o =>
      if o.left = 0 then spiBusEnd St.ok (if o.write then [] else o.data) s
      else
        let r := spiAccess o s
        match r.1 with
        | .ok d => spiRun n { r.2 with net := { r.2.net with spiOp := some (o.next d) } }
        | .hold => { r.2 with net := { r.2.net with spiOp := some { o with phys := o.phys.orElse (fun _ => spiPhys s o.addr) } } }
        | e => spiBusEnd e.spi [] r.2

/-- A bus operation begins. -/
def spiBus (o : SpiOp) (s : State) : State := spiRun 66 { s with net := { s.net with spiOp := some o } }

/-- BUS_READ and BUS_WRITE (Table 12.7). -/
def spiBusRead (tag a len : Nat) (s : State) : State := spiRequest 1 tag len (spiBus ⟨false, a, len, [], none⟩) s
def spiBusWrite (tag a : Nat) (d : List Byte) (s : State) : State := spiRequest 2 tag d.length (spiBus ⟨true, a, d.length, d, none⟩) s

/-- The operation waits for the fabric design's acknowledgement. -/
def spiInFabric (s : State) : Bool := s.fab.acc.any (fun x => x.master == 0x01)

/-- An operation that waited for the SDRAM goes on. -/
def spiResume (s : State) : State := if s.net.spiOp.isSome && !spiInFabric s && spiAnswers s then spiRun 66 s else s

/-- The fabric design acknowledges the oldest access to its window (R16, R189). -/
def fabricAckSpi (d : W64) (s : State) : State :=
  match s.fab.acc, s.net.spiOp with
  | x :: _, some o =>
    let t := fabricAck d s
    if x.master = 0x01 then spiRun 66 { t with net := { t.net with spiOp := some (o.next (d.toNat % 2 ^ 32)) } } else t
  | _, _ => fabricAck d s

/-- The oldest access to the fabric window is not acknowledged in time. -/
def fabricLateSpi (s : State) : State :=
  match s.fab.acc, s.net.spiOp with
  | x :: _, some _ => if x.master = 0x01 then spiBusEnd St.range [] (fabricLate s) else fabricLate s
  | _, _ => fabricLate s

/-! ### Dictionary and status operations -/

/-- A dictionary operation: REFUSED_MODE in a mode that does not serve it. -/
def spiDict (w : DictWork) (s : State) : State := if spiDictMode s then dictAsk w s else spiDone Out.state [] s

/-- DICT_READ and DICT_WRITE (Table 12.7). -/
def spiDictRead (tag index sub off len : Nat) (s : State) : State :=
  spiRequest 3 tag len (spiDict (.read 0 index sub off len false)) s
def spiDictWrite (tag index sub off : Nat) (d : List Byte) (s : State) : State :=
  spiRequest 4 tag d.length (spiDict (.write 0 (tag % 2 ^ 16) index sub off d)) s

/-- HSP_STAT as a word. -/
def hspStat (s : State) : Nat :=
  s.rd Fd.HSP_STAT_CRC_ERR + 2 * s.rd Fd.HSP_STAT_LEN_ERR + 4 * s.rd Fd.HSP_STAT_OP_ERR + 8 * s.rd Fd.HSP_STAT_ABANDONED +
    2 ^ 8 * s.rd Fd.HSP_STAT_LAST_STATUS

/-- STATUS. -/
def spiStatusOp (tag : Nat) (s : State) : State := spiRequest 5 tag 0 (fun t => spiDone Out.done (toBytes 4 (hspStat t)) t) s

/-- RESULT: client 0's entry of a tag. -/
def spiResult (tag : Nat) (s : State) : State :=
  spiRequest 6 tag 0 (fun t => match tagFind t 0 (tag % 2 ^ 16) with
    | some e => spiDone Out.done (toBytes 4 e.word) t
    | none => spiDone Out.noObject [] t) s

/-! ### Frames -/

/-- The request a frame without a fault spells (R296): TAG in bytes 2 and 3, ADDR in bytes 4 to 7, or INDEX in bytes 4 and 5 and SUB in
byte 6, OFFSET in bytes 8 to 11, LEN in bytes 12 and 13, then the data. -/
def spiTake (f : List Byte) (s : State) : State :=
  let tag := mf f 2 2
  let len := mf f 12 2
  let d := (f.drop 14).take len
  match mf f 0 1 with
  | 1 => spiBusRead tag (mf f 4 4) len s
  | 2 => spiBusWrite tag (mf f 4 4) d s
  | 3 => spiDictRead tag (mf f 4 2) (mf f 6 1) (mf f 8 4) len s
  | 4 => spiDictWrite tag (mf f 4 2) (mf f 6 1) (mf f 8 4) d s
  | 5 => spiStatusOp tag s
  | _ => spiResult tag s

/-- A frame arrives: one with a fault is rejected (R299), any other is the request it spells. -/
def spiRejected (f : List Byte) (s : State) : State :=
  if !spiFree s then s
  else if spiReason f = 0 then spiTake f s
  else spiReject (spiReason f) (idleRestart s)

/-- A request that waits for its answer goes on without a host to answer. -/
def FabReq.gone (r : FabReq) : FabReq := if r.client = 0 then { r with client := spiGone } else r
def DictWork.gone (w : DictWork) : DictWork :=
  match w with
  | .read 0 i b off n seg => .read spiGone i b off n seg
  | .write 0 tag i b off l => .write spiGone tag i b off l
  | x => x

/-- HSP_CS_N rises before 0xA5 has been sent (R298): the response is abandoned, not the request. -/
def spiAbandon (s : State) : State :=
  if s.net.spiBusy || s.net.spiResp then
    let t := (s.set1 Fd.HSP_STAT_ABANDONED).incSat Fd.HSP_ERR_CNT_ABANDONS
    { t with
      net := { t.net with spiBusy := false, spiResp := false, spiOut := [], work := t.net.work.map DictWork.gone }
      fab := { t.fab with req := t.fab.req.map FabReq.gone, wait := t.fab.wait.map FabReq.gone }
      ufl := { t.ufl with store := t.ufl.store.map (fun x => if x.client = 0 then { x with client := spiGone } else x) } }
  else s

end Sys2Proof.Machine
end

