-- ==== Sys2Proof/Machine/Boot.lean ====
section
/-! DEFINITION. Start-up (Table 1.9): PLL lock, pin settle, the vote, the start-up tests, the load and its release; Reset Communication
(R286); and what every command ends with. -/
namespace Sys2Proof.Machine

open Sys2Proof

/-- Enter a phase of the timeline. -/
def toPhase (p : Phase) (s : State) : State := { s with sys := { s.sys with phase := p } }

/-- The AFE starts watching for edges: a channel's quiet time counts from now. -/
def afeAwake (s : State) : State :=
  { s with afe := { s.afe with
      ch0 := { s.afe.ch0 with lastEdge := s.now }
      ch1 := { s.afe.ch1 with lastEdge := s.now } } }

/-- The regulators are in regulation and both PLLs are locked (Table 1.9): counting resumes, and the time bridge ends at the next AON edge (R312); the calibration row is read
(R264). -/
def pllLock (s : State) : State :=
  if s.sys.phase = .regulators ∧ s.mode = Md.load then afeAwake (calRead (bridgeResume (toPhase .pinSettle s))) else s

/-- A PLL has not locked in time (R26): pins at their safe-state row values, an entry with SAF as its origin, another try. -/
def pllRetry (which : Nat) (s : State) : State :=
  if s.sys.phase = .regulators ∧ s.mode = Md.load then
    let n := s.sys.pllRetries + 1
    let t := rowSettle (logReq Blk.saf 0x01 which n 0 s)
    { t with
      sys := { t.sys with pllRetries := n }
      chn := { t.chn with pins := .safe } }
  else s

/-- Every user pin holds its safe-state row value (R25, R199); the hold cells that kept the pins over a wake from S3 release them (DEDUCED,
log 46). -/
def pinSettle (s : State) : State :=
  if s.sys.phase = .pinSettle ∧ s.mode = Md.load then
    let t := rowSettle (toPhase .vote s)
    { t with
      chn := { t.chn with pins := .safe }
      pwr := { t.pwr with hold := false } }
  else s

/-- The life-cycle vote and the key check are complete (R365). -/
def voteDone (s : State) : State :=
  if s.sys.phase = .vote ∧ s.mode = Md.load then setMode Md.selftest (toPhase .startTest (showCommitted (lcsVote s))) else s

/-- The start-up tests end (Table 1.6, R230, R360): the decoders found failing, and whether a frame of the march failed. -/
def startTestEnd (chk : Nat) (march : Bool) (s : State) : State :=
  if s.sys.phase = .startTest ∧ s.mode = Md.selftest then
    let s1 := ((s.wr Fd.MEM_CHK_STAT_FAIL (chk % 65536)).wr Fd.MEM_CHK_STAT_XMC_FAIL (chk / 65536)).set1 Fd.MEM_CHK_STAT_DONE
    let s2 := s1.wr Fd.BST_SU_POS_FRAME ((s.rd Fd.BST_SU_POS_FRAME + 4) % 5632)
    if chk ≠ 0 then enterSafe Blk.mem 0xFF (logReq Blk.sys 0x02 Blk.mem 0 0 (memStat Fd.MEM_STAT_CHK_FAIL s2))
    else if march then enterSafe Blk.bst 0xFF (logReq Blk.sys 0x02 Blk.bst 0 0 s2)
    else
      let t := setMode Md.load (toPhase .auth (s2.set1 Fd.SYS_MODE_STARTUP_DONE))
      { t with cfg := { t.cfg with loadBank := t.rd Fd.CFG_STAT_COMMITTED_BANK } }
  else s

/-! ### Retained RAM and defaults -/

/-- The retention check of a start-up (R334): on every reset kind but power-on, once. -/
def checkOnce (s : State) : State :=
  if s.sys.checked ∨ s.sys.kind = 0 then s
  else
    let t := retCheck s
    { t with sys := { t.sys with checked := true } }

/-- RETENTION_CHECK: in LOAD before defaults and release, and on a wake from S2 (R334). -/
def retentionCheck (s : State) : State :=
  match s.pwr.sleep with
  | .waking 2 => retCheck s
  | _ => if s.mode = Md.load ∧ s.sys.phase ≠ .over ∧ s.sys.phase ≠ .noVin ∧ s.sys.phase ≠ .resetHeld then checkOnce s else s

/-- LOG_RSEQ comes from its record in retained RAM; where that is lost, it is the SEQ of the oldest entry held (R317). -/
def rseqTake (s : State) : State :=
  if s.sys.kind = 0 then s
  else
    let n := s.rd Fd.LOG_NSEQ_NSEQ
    let v := match (regionRecs s).find? (fun r => r.index == 0x5E00 && r.sub == 7) with
      | some r => ofBytes (r.data.take 4)
      | none => if 4096 ≤ n then n - 4096 else 0
    irqJudge 400 (s.wr Fd.LOG_RSEQ_RSEQ v)

/-- What a load does whether it ends in STANDBY or in SAFE: retention check, defaults, LOG_RSEQ, the scans of user flash; the SDRAM's
training starts once XMC_CFG has its default (R244). -/
def loadCommon (man : Bool) (s : State) : State :=
  let t := eimScan (rseqTake (applyDefaults man (snapTally (checkOnce s))))
  let u := if s.sys.kind = 0 then exportScan t else t
  xmcTrain u

/-- A region without a valid header is written whole (R277). -/
def regionBegin (s : State) : State := if regionGood s || s.net.rewrite then s else retRewrite s

/-- A start-up that has ended in SAFE: defaults without a manifest, and from LOAD the boot-up message (R286). -/
def bootSafe (s : State) : State :=
  if s.mode = Md.safe ∧ s.sys.phase ≠ .over then
    let t := regionBegin (toPhase .over (loadCommon false s))
    when_ (s.sys.phase != .startTest) bootUp (retMessages { t with pwr := { t.pwr with sleep := .awake, wake := 0 } })
  else s

/-- The bank that is loaded shows it. -/
def bankLoaded (s : State) : State :=
  let b := s.cfg.loadBank
  ((s.wr Fd.CFG_STAT_LOADED_BANK b).set1 (Fd.CFG_BANK_STAT_LOADED b)).wr Fd.CFG_LOADED_ID_IMAGE_ID (mfId ((manifest s b).getD []))

/-- The other bank than the committed one was loaded (R200, Table 1.6). -/
def fallbackNote (s : State) : State :=
  let b := s.cfg.loadBank
  if b = s.rd Fd.CFG_STAT_COMMITTED_BANK then s
  else emcy 0xFF04 Blk.cfg b (logReq Blk.cfg 0x02 b (s.rd Fd.CFG_LOADED_ID_IMAGE_ID) 0 (s.set1 Fd.SYS_MODE_FALLBACK_BANK))

/-- A manifest's authentication ends in LOAD (R196). -/
def authEnd (s : State) : State := if s.mode = Md.load then manifestAuth s else s

/-- A stream of the load ends (R201). -/
def loadStreamEnd (n : Nat) (disturbed : Bool) (s : State) : State := if s.mode = Md.load then streamEnd n disturbed s else s

/-- Every scribe's PC takes its initial address (R154, R157). -/
def scrPcInit (s : State) : State :=
  forEach (List.range 8) s (fun p t => t.wr (Fd.SCR_PC_PC p) (t.rd (Fd.SCR_PC_INIT_ADDR p) * 4))

/-- A wake from S3 reaches STANDBY (R331). -/
def s3Done (s : State) : State :=
  match s.pwr.sleep with
  | .waking 3 => let t := wokeNote 3 s; { t with pwr := { t.pwr with sleep := .awake, wake := 0 } }
  | _ => s

/-- Defaults and release (Table 1.9, R274): defaults, INIT values, the level, user logic, STANDBY. -/
def loadRelease (s : State) : State :=
  if s.sys.phase = .defaults ∧ s.mode = Md.load then
    let s1 := loadCommon true (bankLoaded s)
    let s2 := scrPcInit (plAtRelease (planesRelease s1))
    let s3 := regionBegin (toPhase .over (enterStandby (fallbackNote s2)))
    safWoken (s3Done (fabricDefaults (retMessages s3)))
  else s

/-! ### Reset Communication (R286) -/

/-- The communication registers take their values after reset. -/
def commClear (s : State) : State :=
  let fs := commRecs.flatMap (fun r => match r.body with
    | .regs c => c.flatMap Prod.snd
    | _ => [])
  let t := { s with regs := fs.foldl (fun (l : SMap Nat) (f : Fld) => mapDel l f.key) s.regs }
  { t with net := { t.net with win := [], rpdo := [], tpdoDue := [], tpdoAt := [], tpdoHeld := [], emcyAt := none, hbAt := none, syncAt := none, srdoAt := [], srdoHalf := [], syncCnt := 0, hbAlive := [], usdo := [], resetComm := false, work := t.net.work.filter DictWork.spi } }

/-- Failing records are counted and captured from the start (R276): the chain is applied once more. -/
def defCountClear (s : State) : State :=
  ((s.clr Fd.NET_DEF_STAT_REFUSED).clr Fd.NET_DEF_STAT_FIRST_INDEX).clr Fd.NET_DEF_STAT_FIRST_SUB

/-- 0x1000 to 0x1FFF are reapplied, NET_CFG is taken, the boot-up message is sent. -/
def commReset (s : State) : State :=
  bootUp (defNote (nodeTake (chain 0 s.fab.released 0x1000 0x1FFF (snapTally (defCountClear (nodeTake (commClear s)))))))

/-- NMT Reset Communication: first Enter Pre-operational from RUN or LIMITED. -/
def nmtResetComm (s0 : State) : State :=
  let s := idleRestart s0
  if !nmtServed s then s0
  else if driving s.mode then
    if s.rdB Fd.SYS_MODE_REQ_BUSY then nmtRefuse s
    else
      let t := toStandby s
      { t with net := { t.net with resetComm := true } }
  else commReset (netSend [] s)

/-- A Reset Communication that waited for STANDBY. -/
def commResume (s : State) : State :=
  if s.net.resetComm && !driving s.mode && nmtServed s then commReset s else s

/-! ### The end of every command -/

/-- What a command raised is settled, a wake event it latched in a sleep state starts the wake, and a start-up that ended in SAFE or a
Reset Communication that waited is completed, before the command ends. In FROZEN nothing more happens: its clocks have stopped (R378). -/
def finish (s : State) : State :=
  if s.mode = Md.frozen then s else settle (commResume (bootSafe (s3Wake (wakeStart (settle (srdoJudge s))))))

/-- A command's effect ends in a next state. -/
def nx (s : State) : Host.Outcome State Fault Refusal := .next (finish s)

/-- The engine clock runs (R13): not with VENG off in S3, not before its PLL has locked, not in FROZEN. -/
def engOn (s : State) : Bool := clocked s && s.sys.phase != .regulators && s.pwr.sleep.resting != some 3

/-- The sys clock runs: as the engine clock, but gated in S1 and with its PLL off in S2 (Table 14.6). -/
def sysOn (s : State) : Bool := engOn s && s.pwr.sleep.resting != some 1 && s.pwr.sleep.resting != some 2

/-- The meaning of a command that a clocked block carries out: without its clock nothing changes. -/
def gated (on : State → Bool) (f : State → State) (s : State) : Host.Outcome State Fault Refusal := if on s then nx (f s) else .next s

/-- The meaning of a command of the power controller, the monitors or the start-up sequencer. -/
def clockedRun (f : State → State) (s : State) : Host.Outcome State Fault Refusal := gated clocked f s

/-- The meaning of a command of a block on the engine clock (Table 1.1). -/
def engRun (f : State → State) (s : State) : Host.Outcome State Fault Refusal := gated engOn f s

/-- The meaning of a command of a block on the sys clock, or of one that comes over the system bus (Table 1.1). -/
def sysRun (f : State → State) (s : State) : Host.Outcome State Fault Refusal := gated sysOn f s

/-- The meaning of a command that a master sends over the system bus: a fabric master port without its clock sends nothing (R189). -/
def busRun (master : Nat) (f : State → State) (s : State) : Host.Outcome State Fault Refusal :=
  sysRun (fun t => if masterServed t master then f t else t) s

end Sys2Proof.Machine
end

