-- ==== Sys2Proof/Machine/ExecAfe.lean ====
section
/-! DEFINITION. The meanings of the commands of family Afe, one definition for each command. -/
namespace Sys2Proof.Machine

open Sys2Proof

/-- ENCODER_EDGE (R48): An accepted A or B level moves the count, is stamped and becomes a boundary-angle measurement, or raises ILLEGAL. -/
def execEncoderEdge (k : Nat) (a : Bool) (b : Bool) (s : State) : Host.Outcome State Fault Refusal :=
  engRun (encoderEdge k a b) s

/-- Z_INDEX (R49): An accepted Z references the channel or checks it against ZOFS, and may raise ZMISMATCH. -/
def execZIndex (k : Nat) (s : State) : Host.Outcome State Fault Refusal :=
  engRun (zIndex k) s

/-- LOSS_OF_SIGNAL (R46): A differential input stays below 100 mV for 1 µs and latches the LOS fault. -/
def execLossOfSignal (k : EncIn) (lost : Bool) (s : State) : Host.Outcome State Fault Refusal :=
  engRun (lossOfSignal k lost) s

/-- ADC_SAMPLE (R50): An ADC pair samples at its 125-tick strobe, and a raw code at full scale raises ADC_CLIP. -/
def execAdcSample (k : Nat) (sn : Nat) (cs : Nat) (s : State) : Host.Outcome State Fault Refusal :=
  engRun (adcSample k sn cs) s

/-- ADC_CONVERSION_DONE (R52): The trims and CORDIC complete a sin/cos sample into a measured angle, with AMP and TRACK checks. -/
def execAdcConversionDone (k : Nat) (s : State) : Host.Outcome State Fault Refusal :=
  engRun (adcDone k) s

/-- ESTIMATE_UPDATE (R56): At each 16-tick update the estimator propagates and corrects P, V and A, applies the silence bound and publishes the estimate. -/
def execEstimateUpdate (s : State) : Host.Outcome State Fault Refusal :=
  engRun estimateUpdate s

/-- STOP_TIMEOUT (R57): STOP × 1,024 ticks pass without motion; V and A are set to 0 and STOPPED becomes 1. -/
def execStopTimeout (k : Nat) (s : State) : Host.Outcome State Fault Refusal :=
  engRun (stopTimeout k) s

/-- TBL_SWAP (R54): A write of SWAPk sets PENDINGk, and the correction-table banks exchange at the next update. -/
def execTblSwap (k : Nat) (s : State) : Host.Outcome State Fault Refusal :=
  sysRun (swapReq k) s

/-- LEARN_START (R70): A write of START to AFE_LEARN_CTRL starts correction-table learning on a REFERENCED channel. -/
def execLearnStart (ch : Nat) (ref : Nat) (revs : Nat) (s : State) : Host.Outcome State Fault Refusal :=
  sysRun (fun s => (learnStart ch ref revs s).2) s

/-- LEARN_DONE (R70): The learning run reaches 2^REVS revolutions and sets DONE; ABORTED is set instead on a fault or speed variation. -/
def execLearnDone (s : State) : Host.Outcome State Fault Refusal :=
  engRun learnDone s

/-- STAT_START (R69): A write of START to AFE_STAT_CTRL starts the sin/cos statistics accumulation. -/
def execStatStart (ch : Nat) (log2n : Nat) (s : State) : Host.Outcome State Fault Refusal :=
  sysRun (fun s => (statStart ch log2n s).2) s

/-- STAT_DONE (R69): N samples have been accumulated; the sums freeze and DONE is set. -/
def execStatDone (s : State) : Host.Outcome State Fault Refusal :=
  engRun statDone s

/-- ALIGN (R71): A write of ALIGN to AFE_PLAUS_CMD captures CHK_OFFSET in STANDBY with both channels VALID. -/
def execAlignChk (s : State) : Host.Outcome State Fault Refusal :=
  sysRun (fun s => (alignCmd s).2) s

/-- CPR_WRITE (R66): A write of AFE_CH_CPR is judged against the TYPE range; on acceptance S is computed and the estimator restarts. -/
def execCprWrite (k : Nat) (cpr : Nat) (s : State) : Host.Outcome State Fault Refusal :=
  sysRun (fun s => (cprWrite k cpr s).2) s

/-- AFE_CFG_WRITE (R65): A write to AFE configuration such as TYPE is accepted only in STANDBY or SAFE, and otherwise sets CFG_REFUSED. -/
def execAfeCfgWrite (off : Nat) (value : Nat) (master : Nat) (s : State) : Host.Outcome State Fault Refusal :=
  busRun master (fun s => (busWrite (0x06000000 + off) 4 value master s).2) s

/-- FINE_SNAPSHOT (R59): A read of the low word of AFE_CH_FINE captures the matching VEL, ACC, XACC, TIME and COUNT. -/
def execFineSnapshot (k : Nat) (master : Nat) (s : State) : Host.Outcome State Fault Refusal :=
  busRun master (fun s => (busRead (Fd.AFE_CH_FINE_FINE k).addr 4 master s).2) s

end Sys2Proof.Machine
end

