-- ==== Sys2Proof/Machine/ExecAlu.lean ====
section
/-! DEFINITION. The meanings of the commands of family Alu, one definition for each command. -/
namespace Sys2Proof.Machine

open Sys2Proof

/-- ADD (R161): The scribe instruction ADD adds signed with saturation or wrap. -/
def execSAdd (p : Nat) (rd : Nat) (ra : Nat) (rb : Nat) (sat : Bool) (s : State) : Host.Outcome State Fault Refusal :=
  engRun (scrIssue p (wordR 0x00 rd ra rb (256 * b2n sat)) (scrAddSub p rd ra rb false false sat)) s

/-- SUB (R161): The scribe instruction SUB subtracts signed with saturation or wrap. -/
def execSSub (p : Nat) (rd : Nat) (ra : Nat) (rb : Nat) (sat : Bool) (s : State) : Host.Outcome State Fault Refusal :=
  engRun (scrIssue p (wordR 0x00 rd ra rb (1 + 256 * b2n sat)) (scrAddSub p rd ra rb true false sat)) s

/-- ADDU (R161): The scribe instruction ADDU adds unsigned. -/
def execSAddu (p : Nat) (rd : Nat) (ra : Nat) (rb : Nat) (sat : Bool) (s : State) : Host.Outcome State Fault Refusal :=
  engRun (scrIssue p (wordR 0x00 rd ra rb (2 + 256 * b2n sat)) (scrAddSub p rd ra rb false true sat)) s

/-- SUBU (R161): The scribe instruction SUBU subtracts unsigned. -/
def execSSubu (p : Nat) (rd : Nat) (ra : Nat) (rb : Nat) (sat : Bool) (s : State) : Host.Outcome State Fault Refusal :=
  engRun (scrIssue p (wordR 0x00 rd ra rb (3 + 256 * b2n sat)) (scrAddSub p rd ra rb true true sat)) s

/-- AND (R161): The scribe instruction AND gives the bitwise AND. -/
def execSAnd (p : Nat) (rd : Nat) (ra : Nat) (rb : Nat) (s : State) : Host.Outcome State Fault Refusal :=
  engRun (scrIssue p (wordR 0x00 rd ra rb 0x04) (scrOp2 (· &&& ·) p rd ra rb)) s

/-- OR (R161): The scribe instruction OR gives the bitwise OR. -/
def execSOr (p : Nat) (rd : Nat) (ra : Nat) (rb : Nat) (s : State) : Host.Outcome State Fault Refusal :=
  engRun (scrIssue p (wordR 0x00 rd ra rb 0x05) (scrOp2 (· ||| ·) p rd ra rb)) s

/-- XOR (R161): The scribe instruction XOR gives the bitwise XOR. -/
def execSXor (p : Nat) (rd : Nat) (ra : Nat) (rb : Nat) (s : State) : Host.Outcome State Fault Refusal :=
  engRun (scrIssue p (wordR 0x00 rd ra rb 0x06) (scrOp2 (· ^^^ ·) p rd ra rb)) s

/-- ANDN (R161): The scribe instruction ANDN gives ra AND NOT rb. -/
def execSAndn (p : Nat) (rd : Nat) (ra : Nat) (rb : Nat) (s : State) : Host.Outcome State Fault Refusal :=
  engRun (scrIssue p (wordR 0x00 rd ra rb 0x07) (scrOp2 andnW p rd ra rb)) s

/-- SLL (R161): The scribe instruction SLL shifts left by rb. -/
def execSSll (p : Nat) (rd : Nat) (ra : Nat) (rb : Nat) (s : State) : Host.Outcome State Fault Refusal :=
  engRun (scrIssue p (wordR 0x00 rd ra rb 0x08) (scrOp2 sllW p rd ra rb)) s

/-- SRL (R161): The scribe instruction SRL shifts right logically by rb. -/
def execSSrl (p : Nat) (rd : Nat) (ra : Nat) (rb : Nat) (s : State) : Host.Outcome State Fault Refusal :=
  engRun (scrIssue p (wordR 0x00 rd ra rb 0x09) (scrOp2 srlW p rd ra rb)) s

/-- SRA (R161): The scribe instruction SRA shifts right arithmetically by rb. -/
def execSSra (p : Nat) (rd : Nat) (ra : Nat) (rb : Nat) (s : State) : Host.Outcome State Fault Refusal :=
  engRun (scrIssue p (wordR 0x00 rd ra rb 0x0A) (scrOp2 sraW p rd ra rb)) s

/-- ROR (R161): The scribe instruction ROR rotates right by rb. -/
def execSRor (p : Nat) (rd : Nat) (ra : Nat) (rb : Nat) (s : State) : Host.Outcome State Fault Refusal :=
  engRun (scrIssue p (wordR 0x00 rd ra rb 0x0B) (scrOp2 rorW p rd ra rb)) s

/-- SLT (R161): The scribe instruction SLT sets rd by a signed comparison. -/
def execSSlt (p : Nat) (rd : Nat) (ra : Nat) (rb : Nat) (s : State) : Host.Outcome State Fault Refusal :=
  engRun (scrIssue p (wordR 0x00 rd ra rb 0x0C) (scrOp2 sltW p rd ra rb)) s

/-- SLTU (R161): The scribe instruction SLTU sets rd by an unsigned comparison. -/
def execSSltu (p : Nat) (rd : Nat) (ra : Nat) (rb : Nat) (s : State) : Host.Outcome State Fault Refusal :=
  engRun (scrIssue p (wordR 0x00 rd ra rb 0x0D) (scrOp2 sltuW p rd ra rb)) s

/-- MIN (R161): The scribe instruction MIN gives the signed minimum. -/
def execSMin (p : Nat) (rd : Nat) (ra : Nat) (rb : Nat) (s : State) : Host.Outcome State Fault Refusal :=
  engRun (scrIssue p (wordR 0x00 rd ra rb 0x0E) (scrOp2 minW p rd ra rb)) s

/-- MAX (R161): The scribe instruction MAX gives the signed maximum. -/
def execSMax (p : Nat) (rd : Nat) (ra : Nat) (rb : Nat) (s : State) : Host.Outcome State Fault Refusal :=
  engRun (scrIssue p (wordR 0x00 rd ra rb 0x0F) (scrOp2 maxW p rd ra rb)) s

/-- MINU (R161): The scribe instruction MINU gives the unsigned minimum. -/
def execSMinu (p : Nat) (rd : Nat) (ra : Nat) (rb : Nat) (s : State) : Host.Outcome State Fault Refusal :=
  engRun (scrIssue p (wordR 0x00 rd ra rb 0x10) (scrOp2 minuW p rd ra rb)) s

/-- MAXU (R161): The scribe instruction MAXU gives the unsigned maximum. -/
def execSMaxu (p : Nat) (rd : Nat) (ra : Nat) (rb : Nat) (s : State) : Host.Outcome State Fault Refusal :=
  engRun (scrIssue p (wordR 0x00 rd ra rb 0x11) (scrOp2 maxuW p rd ra rb)) s

/-- MUL (R161): The scribe instruction MUL gives the low 32 bits of the product. -/
def execSMul (p : Nat) (rd : Nat) (ra : Nat) (rb : Nat) (s : State) : Host.Outcome State Fault Refusal :=
  engRun (scrIssue p (wordR 0x00 rd ra rb 0x12) (scrOp2 mulW p rd ra rb)) s

/-- MULH (R161): The scribe instruction MULH gives the high 32 bits of the signed product. -/
def execSMulh (p : Nat) (rd : Nat) (ra : Nat) (rb : Nat) (s : State) : Host.Outcome State Fault Refusal :=
  engRun (scrIssue p (wordR 0x00 rd ra rb 0x13) (scrOp2 mulhW p rd ra rb)) s

/-- MULHU (R161): The scribe instruction MULHU gives the high 32 bits of the unsigned product. -/
def execSMulhu (p : Nat) (rd : Nat) (ra : Nat) (rb : Nat) (s : State) : Host.Outcome State Fault Refusal :=
  engRun (scrIssue p (wordR 0x00 rd ra rb 0x14) (scrOp2 mulhuW p rd ra rb)) s

/-- CLZ (R161): The scribe instruction CLZ counts leading zeros. -/
def execSClz (p : Nat) (rd : Nat) (ra : Nat) (s : State) : Host.Outcome State Fault Refusal :=
  engRun (scrIssue p (wordR 0x00 rd ra 0 0x15) (scrOp1 clzW p rd ra)) s

/-- CTZ (R161): The scribe instruction CTZ counts trailing zeros. -/
def execSCtz (p : Nat) (rd : Nat) (ra : Nat) (s : State) : Host.Outcome State Fault Refusal :=
  engRun (scrIssue p (wordR 0x00 rd ra 0 0x16) (scrOp1 ctzW p rd ra)) s

/-- POPC (R161): The scribe instruction POPC counts set bits. -/
def execSPopc (p : Nat) (rd : Nat) (ra : Nat) (s : State) : Host.Outcome State Fault Refusal :=
  engRun (scrIssue p (wordR 0x00 rd ra 0 0x17) (scrOp1 popW p rd ra)) s

/-- LOCLR (R161): The scribe instruction LOCLR clears the lowest set bit. -/
def execSLoclr (p : Nat) (rd : Nat) (ra : Nat) (s : State) : Host.Outcome State Fault Refusal :=
  engRun (scrIssue p (wordR 0x00 rd ra 0 0x18) (scrOp1 loclrW p rd ra)) s

/-- BREV (R161): The scribe instruction BREV reverses the bit order. -/
def execSBrev (p : Nat) (rd : Nat) (ra : Nat) (s : State) : Host.Outcome State Fault Refusal :=
  engRun (scrIssue p (wordR 0x00 rd ra 0 0x19) (scrOp1 brevW p rd ra)) s

/-- AWIN (R161): The scribe instruction AWIN judges the push angle window of R33. -/
def execSAwin (p : Nat) (rd : Nat) (ra : Nat) (rb : Nat) (s : State) : Host.Outcome State Fault Refusal :=
  engRun (scrIssue p (wordR 0x00 rd ra rb 0x1A) (scrOp2 awinW p rd ra rb)) s

/-- ADDM (R161): The scribe instruction ADDM adds modulo 2^32 with no flags. -/
def execSAddm (p : Nat) (rd : Nat) (ra : Nat) (rb : Nat) (s : State) : Host.Outcome State Fault Refusal :=
  engRun (scrIssue p (wordR 0x00 rd ra rb 0x1B) (scrAddSubM p rd ra rb false)) s

/-- SUBM (R161): The scribe instruction SUBM subtracts modulo 2^32 with no flags. -/
def execSSubm (p : Nat) (rd : Nat) (ra : Nat) (rb : Nat) (s : State) : Host.Outcome State Fault Refusal :=
  engRun (scrIssue p (wordR 0x00 rd ra rb 0x1C) (scrAddSubM p rd ra rb true)) s

/-- ADDI (R161): The scribe instruction ADDI adds an immediate modulo 2^32. -/
def execSAddi (p : Nat) (rd : Nat) (ra : Nat) (imm : Nat) (s : State) : Host.Outcome State Fault Refusal :=
  engRun (scrIssue p (wordI 0x01 rd ra imm) (scrOpI (· + ·) p rd ra (immS imm))) s

/-- ANDI (R161): The scribe instruction ANDI gives the bitwise AND with a zero-extended immediate. -/
def execSAndi (p : Nat) (rd : Nat) (ra : Nat) (imm : Nat) (s : State) : Host.Outcome State Fault Refusal :=
  engRun (scrIssue p (wordI 0x02 rd ra imm) (scrOpI (· &&& ·) p rd ra (immZ imm))) s

/-- ORI (R161): The scribe instruction ORI gives the bitwise OR with an immediate. -/
def execSOri (p : Nat) (rd : Nat) (ra : Nat) (imm : Nat) (s : State) : Host.Outcome State Fault Refusal :=
  engRun (scrIssue p (wordI 0x03 rd ra imm) (scrOpI (· ||| ·) p rd ra (immZ imm))) s

/-- XORI (R161): The scribe instruction XORI gives the bitwise XOR with an immediate. -/
def execSXori (p : Nat) (rd : Nat) (ra : Nat) (imm : Nat) (s : State) : Host.Outcome State Fault Refusal :=
  engRun (scrIssue p (wordI 0x04 rd ra imm) (scrOpI (· ^^^ ·) p rd ra (immZ imm))) s

/-- LUI (R161): The scribe instruction LUI loads an immediate into the upper half of rd. -/
def execSLui (p : Nat) (rd : Nat) (imm : Nat) (s : State) : Host.Outcome State Fault Refusal :=
  engRun (scrIssue p (wordI 0x05 rd 0 imm) (scrSet p rd (imm * 65536))) s

/-- SLTI (R161): The scribe instruction SLTI compares ra with an immediate, signed. -/
def execSSlti (p : Nat) (rd : Nat) (ra : Nat) (imm : Nat) (s : State) : Host.Outcome State Fault Refusal :=
  engRun (scrIssue p (wordI 0x06 rd ra imm) (scrOpI sltW p rd ra (immS imm))) s

/-- SLTIU (R161): The scribe instruction SLTIU compares ra with an immediate, unsigned. -/
def execSSltiu (p : Nat) (rd : Nat) (ra : Nat) (imm : Nat) (s : State) : Host.Outcome State Fault Refusal :=
  engRun (scrIssue p (wordI 0x07 rd ra imm) (scrOpI sltuW p rd ra (immS imm))) s

/-- SLLI (R161): The scribe instruction SLLI shifts left by an immediate. -/
def execSSlli (p : Nat) (rd : Nat) (ra : Nat) (sh : Nat) (s : State) : Host.Outcome State Fault Refusal :=
  engRun (scrIssue p (wordI 0x08 rd ra sh) (scrOpI sllW p rd ra (immZ sh))) s

/-- SRLI (R161): The scribe instruction SRLI shifts right logically by an immediate. -/
def execSSrli (p : Nat) (rd : Nat) (ra : Nat) (sh : Nat) (s : State) : Host.Outcome State Fault Refusal :=
  engRun (scrIssue p (wordI 0x09 rd ra sh) (scrOpI srlW p rd ra (immZ sh))) s

/-- SRAI (R161): The scribe instruction SRAI shifts right arithmetically by an immediate. -/
def execSSrai (p : Nat) (rd : Nat) (ra : Nat) (sh : Nat) (s : State) : Host.Outcome State Fault Refusal :=
  engRun (scrIssue p (wordI 0x0A rd ra sh) (scrOpI sraW p rd ra (immZ sh))) s

/-- SHRR (R161): The scribe instruction SHRR shifts right with rounding mode RM. -/
def execSShrr (p : Nat) (rd : Nat) (ra : Nat) (sh : Nat) (rm : Nat) (s : State) : Host.Outcome State Fault Refusal :=
  engRun (scrIssue p (wordR 0x0B rd ra 0 (sh * 64 + rm * 16)) (scrShrr p rd ra sh rm)) s

/-- MULQ (R160): The scribe instruction MULQ gives a fixed-point product, rounded and then fitted. -/
def execSMulq (p : Nat) (rd : Nat) (ra : Nat) (rb : Nat) (sh : Nat) (rm : Nat) (sat : Bool) (u : Bool) (s : State) : Host.Outcome State Fault Refusal :=
  engRun (scrIssue p (wordR 0x0C rd ra rb (sh * 64 + rm * 16 + 8 * b2n sat + 4 * b2n u)) (scrMulq p rd ra rb sh rm sat u)) s

/-- MAC (R161): The scribe instruction MAC adds a product to the accumulator. -/
def execSMac (p : Nat) (ra : Nat) (rb : Nat) (sat : Bool) (s : State) : Host.Outcome State Fault Refusal :=
  engRun (scrIssue p (wordR 0x0D 0 ra rb (8 * b2n sat)) (fun t => scrMac p ra rb (accOf t p) false sat t)) s

/-- MSU (R161): The scribe instruction MSU subtracts a product from the accumulator. -/
def execSMsu (p : Nat) (ra : Nat) (rb : Nat) (sat : Bool) (s : State) : Host.Outcome State Fault Refusal :=
  engRun (scrIssue p (wordR 0x0D 0 ra rb (8 * b2n sat + 1)) (fun t => scrMac p ra rb (accOf t p) true sat t)) s

/-- MULA (R161): The scribe instruction MULA loads a product into the accumulator. -/
def execSMula (p : Nat) (ra : Nat) (rb : Nat) (sat : Bool) (s : State) : Host.Outcome State Fault Refusal :=
  engRun (scrIssue p (wordR 0x0D 0 ra rb (8 * b2n sat + 2)) (scrMac p ra rb 0 false sat)) s

/-- ACCR (R161): The scribe instruction ACCR reads the accumulator rounded and fitted. -/
def execSAccr (p : Nat) (rd : Nat) (sh : Nat) (rm : Nat) (sat : Bool) (u : Bool) (s : State) : Host.Outcome State Fault Refusal :=
  engRun (scrIssue p (wordR 0x0E rd 0 0 (sh * 64 + rm * 16 + 8 * b2n sat + 4 * b2n u)) (scrAccr p rd sh rm sat u)) s

/-- ACCL (R161): The scribe instruction ACCL reads the low half of the accumulator. -/
def execSAccl (p : Nat) (rd : Nat) (s : State) : Host.Outcome State Fault Refusal :=
  engRun (scrIssue p (wordR 0x0E rd 0 0 1) (fun t => scrSet p rd ((t.pairOf p).acc.toNat % 2 ^ 32) t)) s

/-- ACCH (R161): The scribe instruction ACCH reads the high half of the accumulator. -/
def execSAcch (p : Nat) (rd : Nat) (s : State) : Host.Outcome State Fault Refusal :=
  engRun (scrIssue p (wordR 0x0E rd 0 0 2) (fun t => scrSet p rd ((t.pairOf p).acc.toNat / 2 ^ 32) t)) s

/-- ACCW (R161): The scribe instruction ACCW writes the sign-extended ra into the accumulator. -/
def execSAccw (p : Nat) (ra : Nat) (s : State) : Host.Outcome State Fault Refusal :=
  engRun (scrIssue p (wordR 0x0E 0 ra 0 3) (scrAccw p ra)) s

/-- DIV (R161): The scribe instruction DIV divides with rounding and fit, and sets DIV0 on a divisor of zero. -/
def execSDiv (p : Nat) (rd : Nat) (ra : Nat) (rb : Nat) (rm : Nat) (sat : Bool) (u : Bool) (s : State) : Host.Outcome State Fault Refusal :=
  engRun (scrIssue p (wordR 0x0F rd ra rb (rm * 16 + 8 * b2n sat + 4 * b2n u)) (scrDiv p rd ra rb rm sat u)) s

end Sys2Proof.Machine
end

