-- ==== Sys2Proof/Machine/ExecBst.lean ====
section
/-! DEFINITION. The meanings of the commands of family Bst, one definition for each command. -/
namespace Sys2Proof.Machine

open Sys2Proof

/-- BIST_SLICE (R356): A background BIST slice saves, borrows and marches a region in the BIST slots. -/
def execBistSlice (t : Nat) (s : State) : Host.Outcome State Fault Refusal :=
  sysRun (bstSlice t) s

/-- BIST_SLICE_END (R359): A slice restores, verifies and releases its region; a mismatch is repaired or raised as a failure. -/
def execBistSliceEnd (t : Nat) (elements : Nat) (stuck : List Stuck) (s : State) : Host.Outcome State Fault Refusal :=
  sysRun (bstSliceEnd t elements stuck) s

/-- BIST_PASS_LATE (R355): A target's pass overruns its coverage period and sets its BST_LATE bit. -/
def execBistPassLate (t : Nat) (s : State) : Host.Outcome State Fault Refusal :=
  sysRun (bstLate t) s

/-- BST_STOP (R362): BST_CMD STOP makes the target's slice yield and then pauses the target. -/
def execBstStop (t : Nat) (s : State) : Host.Outcome State Fault Refusal :=
  sysRun (bstStop t) s

/-- BST_RESUME (R362): BST_CMD RESUME resumes a stopped target. -/
def execBstResume (t : Nat) (s : State) : Host.Outcome State Fault Refusal :=
  sysRun (bstResume t) s

/-- RESTART_PASS (R362): BST_CMD RESTART_PASS restarts the target's pass. -/
def execRestartPass (t : Nat) (s : State) : Host.Outcome State Fault Refusal :=
  sysRun (bstRestart t) s

/-- BST_TGT_EN_WRITE (R362): A write of BST_TGT_EN enables or disables targets under the life-cycle right. -/
def execBstTgtEnWrite (v : Nat) (s : State) : Host.Outcome State Fault Refusal :=
  sysRun (bstEnWrite v) s

/-- BST_INJ_ARM (R362): A write of ARMED to BST_INJ makes the target's next slice fail its match. -/
def execBstInjArm (t : Nat) (s : State) : Host.Outcome State Fault Refusal :=
  sysRun (bstInj t) s

end Sys2Proof.Machine
end

