-- ==== Sys2Proof/Machine/ExecCfg.lean ====
section
/-! DEFINITION. The meanings of the commands of family Cfg, one definition for each command. -/
namespace Sys2Proof.Machine

open Sys2Proof

/-- AUTH_BANK (R196): CFG_CMD AUTH_BANK authenticates a bank and sets or clears its AUTH. -/
def execAuthBank (master : Nat) (b : Nat) (s : State) : Host.Outcome State Fault Refusal :=
  busRun master (cfgAuthBank master b) s

/-- CFG_ERASE_BLOCK (R206): CFG_CMD ERASE_BLOCK erases one 64 KiB configuration block after its checks. -/
def execCfgEraseBlock (master : Nat) (b : Nat) (s : State) : Host.Outcome State Fault Refusal :=
  busRun master (cfgErase master b) s

/-- CFG_PROGRAM_PAGE (R206): CFG_CMD PROGRAM_PAGE programs a page from CFG_PAGE_BUF after order and erase checks. -/
def execCfgProgramPage (master : Nat) (b : Nat) (s : State) : Host.Outcome State Fault Refusal :=
  busRun master (cfgProgram master b) s

/-- READ_PAGE (R205): CFG_CMD READ_PAGE copies a page into CFG_PAGE_BUF. -/
def execReadPage (master : Nat) (b : Nat) (s : State) : Host.Outcome State Fault Refusal :=
  busRun master (cfgReadPage master b) s

/-- HASH_SLOT (R205): CFG_CMD HASH_SLOT computes the SHA-256 of a stored sector image into CFG_HASH. -/
def execHashSlot (master : Nat) (b : Nat) (slot : Nat) (s : State) : Host.Outcome State Fault Refusal :=
  busRun master (cfgHashSlot master b slot) s

/-- SHADOW_LOAD (R208): CFG_CMD SHADOW_LOAD checks its arguments and streams a slot into a sector's shadow plane. -/
def execShadowLoad (master : Nat) (b : Nat) (slot : Nat) (sector : Nat) (s : State) : Host.Outcome State Fault Refusal :=
  busRun master (cfgShadowLoad master b slot sector) s

/-- SHADOW_STREAM_END (R208): A shadow load ends and the plane becomes VERIFIED or FAILED. -/
def execShadowStreamEnd (readback : Bool) (s : State) : Host.Outcome State Fault Refusal :=
  sysRun (shadowStreamEnd readback) s

/-- SHADOW_CLEAR (R212): CFG_CMD SHADOW_CLEAR empties the shadow plane when no swap is reserved. -/
def execShadowClear (master : Nat) (sector : Nat) (s : State) : Host.Outcome State Fault Refusal :=
  busRun master (cfgShadowClear master sector) s

/-- CFG_COMMIT (R209): CFG_CMD COMMIT starts committing an authenticated bank through its hash, margin and record phases. -/
def execCfgCommit (master : Nat) (b : Nat) (s : State) : Host.Outcome State Fault Refusal :=
  busRun master (cfgCommit master b) s

/-- COMMIT_PHASE_END (R209): A commit phase ends, either moving to the next phase or ending the command with its status. -/
def execCommitPhaseEnd (margin : Bool) (s : State) : Host.Outcome State Fault Refusal :=
  sysRun (commitPhaseEnd margin) s

/-- RESTART (R205): CFG_CMD RESTART starts a warm reset that loads the committed bank. -/
def execRestart (master : Nat) (s : State) : Host.Outcome State Fault Refusal :=
  busRun master (cfgRestart master) s

/-- ROW_ERASE (R206): CFG_CMD ROW_ERASE erases the safe-state row half that does not hold the newest copy. -/
def execRowErase (master : Nat) (s : State) : Host.Outcome State Fault Refusal :=
  busRun master (cfgRowErase master) s

/-- ROW_PROGRAM (R206): CFG_CMD ROW_PROGRAM programs a page of the erased row half. -/
def execRowProgram (master : Nat) (s : State) : Host.Outcome State Fault Refusal :=
  busRun master (cfgRowProgram master) s

/-- CFG_CMD_DONE (R205): A configuration flash operation that took time ends and reports its status. -/
def execCfgCmdDone (s : State) : Host.Outcome State Fault Refusal :=
  sysRun cfgCmdDone s

/-- CONFIG_SCRUB_FRAME (R216): The configuration scrubber reads a frame, corrects it, and checks the plane signature at the end of a pass. -/
def execConfigScrubFrame (sector : Nat) (plane : Nat) (find : ScrubFind) (repairOk : Bool) (s : State) : Host.Outcome State Fault Refusal :=
  sysRun (scrubFrame sector plane find repairOk) s

end Sys2Proof.Machine
end

