-- ==== Sys2Proof/Machine/ExecChn.lean ====
section
/-! DEFINITION. The meanings of the commands of family Chn, one definition for each command. -/
namespace Sys2Proof.Machine

open Sys2Proof

/-- A channel binding write (R132): DCFG of direct channel n, or word w of SCFG of string n. -/
def bindWrite (word : Option Nat) (n v : Nat) (s : State) : State :=
  match word with
  | none => bindDirect n v s
  | some w => bindString n w v s

/-- TRAILING_EDGE (R135): A pending pulse trailing edge falls at t_f + W and restores the opposite level. -/
def execTrailingEdge (s : State) : Host.Outcome State Fault Refusal :=
  engRun trailingEdges s

/-- FRAME_CUT (R138): At t_L − T_shift − 8 a string composes its frame image and starts the shift. -/
def execFrameCut (st : Nat) (s : State) : Host.Outcome State Fault Refusal :=
  engRun (frameCut st) s

/-- STRING_SHIFT_END (R141): A string shift ends, and its captured SDI bits are checked under RET_MODE. -/
def execStringShiftEnd (st : Nat) (sdi : BitVec 256) (s : State) : Host.Outcome State Fault Refusal :=
  engRun (shiftEnd st sdi) s

/-- STRING_LATCH (R140): At t_L the latch pulse transfers the image to the drivers, and every frame member fires. -/
def execStringLatch (st : Nat) (s : State) : Host.Outcome State Fault Refusal :=
  engRun (stringLatch st) s

/-- SAFE_IMAGE_LATCH (R143): A string shifts its safe image and latches it after a reaction or on entry to STANDBY. -/
def execSafeImageLatch (st : Nat) (sdi : BitVec 256) (s : State) : Host.Outcome State Fault Refusal :=
  engRun (safeLatch st sdi) s

/-- ECHO_EDGE (R148): An accepted echo edge after blanking gives the measurement m for delay learning. -/
def execEchoEdge (u : Nat) (samples : Nat) (rising : Bool) (s : State) : Host.Outcome State Fault Refusal :=
  engRun (echoEdge u samples rising) s

/-- ECHO_TIMEOUT (R148): No expected echo edge arrives within ETMO × 256 ticks, and TIMEOUTS increments. -/
def execEchoTimeout (u : Nat) (s : State) : Host.Outcome State Fault Refusal :=
  engRun (echoTimeout u) s

/-- CHN_BIND_WRITE (R132): A channel binding write is refused if its pin already has a channel output use. -/
def execChnBindWrite (word : Option Nat) (n : Nat) (v : Nat) (s : State) : Host.Outcome State Fault Refusal :=
  sysRun (bindWrite word n v) s

end Sys2Proof.Machine
end

