-- ==== Sys2Proof/Machine/ExecCtl.lean ====
section
/-! DEFINITION. The meanings of the commands of family Ctl, one definition for each command. -/
namespace Sys2Proof.Machine

open Sys2Proof

/-- LDW (R161): The scribe instruction LDW loads a word from data RAM. -/
def execSLdw (p : Nat) (rd : Nat) (ra : Nat) (imm : Nat) (s : State) : Host.Outcome State Fault Refusal :=
  engRun (scrIssue p (wordI 0x10 rd ra imm) (scrLoad p rd ra imm 4 false)) s

/-- LDH (R161): The scribe instruction LDH loads a sign-extended halfword. -/
def execSLdh (p : Nat) (rd : Nat) (ra : Nat) (imm : Nat) (s : State) : Host.Outcome State Fault Refusal :=
  engRun (scrIssue p (wordI 0x11 rd ra imm) (scrLoad p rd ra imm 2 true)) s

/-- LDHU (R161): The scribe instruction LDHU loads a zero-extended halfword. -/
def execSLdhu (p : Nat) (rd : Nat) (ra : Nat) (imm : Nat) (s : State) : Host.Outcome State Fault Refusal :=
  engRun (scrIssue p (wordI 0x12 rd ra imm) (scrLoad p rd ra imm 2 false)) s

/-- LDB (R161): The scribe instruction LDB loads a sign-extended byte. -/
def execSLdb (p : Nat) (rd : Nat) (ra : Nat) (imm : Nat) (s : State) : Host.Outcome State Fault Refusal :=
  engRun (scrIssue p (wordI 0x13 rd ra imm) (scrLoad p rd ra imm 1 true)) s

/-- LDBU (R161): The scribe instruction LDBU loads a zero-extended byte. -/
def execSLdbu (p : Nat) (rd : Nat) (ra : Nat) (imm : Nat) (s : State) : Host.Outcome State Fault Refusal :=
  engRun (scrIssue p (wordI 0x14 rd ra imm) (scrLoad p rd ra imm 1 false)) s

/-- STW (R161): The scribe instruction STW stores a word to data RAM. -/
def execSStw (p : Nat) (rs : Nat) (ra : Nat) (imm : Nat) (s : State) : Host.Outcome State Fault Refusal :=
  engRun (scrIssue p (wordI 0x15 rs ra imm) (scrStore p rs ra imm 4)) s

/-- STH (R161): The scribe instruction STH stores a halfword. -/
def execSSth (p : Nat) (rs : Nat) (ra : Nat) (imm : Nat) (s : State) : Host.Outcome State Fault Refusal :=
  engRun (scrIssue p (wordI 0x16 rs ra imm) (scrStore p rs ra imm 2)) s

/-- STB (R161): The scribe instruction STB stores a byte. -/
def execSStb (p : Nat) (rs : Nat) (ra : Nat) (imm : Nat) (s : State) : Host.Outcome State Fault Refusal :=
  engRun (scrIssue p (wordI 0x17 rs ra imm) (scrStore p rs ra imm 1)) s

/-- BEQ (R161): The scribe instruction BEQ branches on equal. -/
def execSBeq (p : Nat) (ra : Nat) (rb : Nat) (off : Nat) (s : State) : Host.Outcome State Fault Refusal :=
  engRun (scrIssue p (wordI 0x18 ra rb off) (scrBranch (branchCond 0x18) p ra rb off)) s

/-- BNE (R161): The scribe instruction BNE branches on not equal. -/
def execSBne (p : Nat) (ra : Nat) (rb : Nat) (off : Nat) (s : State) : Host.Outcome State Fault Refusal :=
  engRun (scrIssue p (wordI 0x19 ra rb off) (scrBranch (branchCond 0x19) p ra rb off)) s

/-- BLT (R161): The scribe instruction BLT branches on signed less than. -/
def execSBlt (p : Nat) (ra : Nat) (rb : Nat) (off : Nat) (s : State) : Host.Outcome State Fault Refusal :=
  engRun (scrIssue p (wordI 0x1A ra rb off) (scrBranch (branchCond 0x1A) p ra rb off)) s

/-- BGE (R161): The scribe instruction BGE branches on signed greater or equal. -/
def execSBge (p : Nat) (ra : Nat) (rb : Nat) (off : Nat) (s : State) : Host.Outcome State Fault Refusal :=
  engRun (scrIssue p (wordI 0x1B ra rb off) (scrBranch (branchCond 0x1B) p ra rb off)) s

/-- BLTU (R161): The scribe instruction BLTU branches on unsigned less than. -/
def execSBltu (p : Nat) (ra : Nat) (rb : Nat) (off : Nat) (s : State) : Host.Outcome State Fault Refusal :=
  engRun (scrIssue p (wordI 0x1C ra rb off) (scrBranch (branchCond 0x1C) p ra rb off)) s

/-- BGEU (R161): The scribe instruction BGEU branches on unsigned greater or equal. -/
def execSBgeu (p : Nat) (ra : Nat) (rb : Nat) (off : Nat) (s : State) : Host.Outcome State Fault Refusal :=
  engRun (scrIssue p (wordI 0x1D ra rb off) (scrBranch (branchCond 0x1D) p ra rb off)) s

/-- JAL (R161): The scribe instruction JAL jumps and links. -/
def execSJal (p : Nat) (rd : Nat) (off : Nat) (s : State) : Host.Outcome State Fault Refusal :=
  engRun (scrIssue p (wordJ 0x1E rd off) (scrJal p rd off)) s

/-- JALR (R161): The scribe instruction JALR jumps to a register address and links. -/
def execSJalr (p : Nat) (rd : Nat) (ra : Nat) (imm : Nat) (s : State) : Host.Outcome State Fault Refusal :=
  engRun (scrIssue p (wordI 0x1F rd ra imm) (scrJalr p rd ra imm)) s

/-- RDS (R162): The scribe instruction RDS reads a special register with its side effects. -/
def execSRds (p : Nat) (rd : Nat) (sel : Nat) (s : State) : Host.Outcome State Fault Refusal :=
  engRun (scrIssue p (wordI 0x20 rd 0 sel) (scrRds p rd sel (wordI 0x20 rd 0 sel))) s

/-- WRS (R162): The scribe instruction WRS writes a special register. -/
def execSWrs (p : Nat) (ra : Nat) (sel : Nat) (s : State) : Host.Outcome State Fault Refusal :=
  engRun (scrIssue p (wordI 0x21 0 ra sel) (scrWrs p ra sel (wordI 0x21 0 ra sel))) s

/-- XPUSH (R164): The scribe instruction XPUSH expands a mask into pushes, with an optional commit. -/
def execSXpush (p : Nat) (rd : Nat) (ra : Nat) (rb : Nat) (t : Nat) (c : Bool) (s : State) : Host.Outcome State Fault Refusal :=
  engRun (scrIssue p (wordR 0x23 rd ra rb (t * 32 + b2n c)) (scrXpush p rd ra rb t c (wordR 0x23 rd ra rb (t * 32 + b2n c)))) s

/-- QFREE (R163): The scribe instruction QFREE returns the free entries of a queue. -/
def execSQfree (p : Nat) (rd : Nat) (ra : Nat) (s : State) : Host.Outcome State Fault Refusal :=
  engRun (scrIssue p (wordR 0x24 rd ra 0 0) (scrQfree p rd ra)) s

/-- PFETCH (R165): The scribe instruction PFETCH starts a pattern fetch of n bursts from SDRAM into data RAM. -/
def execSPfetch (p : Nat) (rd : Nat) (ra : Nat) (rb : Nat) (n : Nat) (s : State) : Host.Outcome State Fault Refusal :=
  engRun (scrIssue p (wordR 0x25 rd ra rb n) (scrPfetch p rd ra rb n)) s

/-- PWAIT (R165): The scribe instruction PWAIT waits for a fetch tag and returns its status. -/
def execSPwait (p : Nat) (rd : Nat) (ra : Nat) (s : State) : Host.Outcome State Fault Refusal :=
  engRun (scrIssue p (wordR 0x26 rd ra 0 0) (scrPwait p rd ra)) s

/-- WAIT (R166): The scribe instruction WAIT suspends execution until an enabled condition holds. -/
def execSWait (p : Nat) (rd : Nat) (ra : Nat) (mask : Nat) (s : State) : Host.Outcome State Fault Refusal :=
  engRun (scrIssue p (wordR 0x27 rd ra 0 mask) (scrWait p rd ra mask (wordR 0x27 rd ra 0 mask))) s

/-- SIGNAL (R161): The scribe instruction SIGNAL sets bits of SCR_SIGNAL. -/
def execSSignal (p : Nat) (m : Nat) (s : State) : Host.Outcome State Fault Refusal :=
  engRun (scrIssue p (wordI 0x28 0 0 m) (scrSignal p m)) s

/-- TRAP (R167): The scribe instruction TRAP raises a software trap. -/
def execSTrap (p : Nat) (n : Nat) (s : State) : Host.Outcome State Fault Refusal :=
  engRun (scrIssue p (wordI 0x29 0 0 n) (scrSoft p n)) s

/-- RETT (R167): The scribe instruction RETT returns from a trap to TRAP_PC. -/
def execSRett (p : Nat) (s : State) : Host.Outcome State Fault Refusal :=
  engRun (scrIssue p (wordI 0x2A 0 0 0) (scrRett p)) s

/-- HALT (R154): The scribe instruction HALT stops the pair. -/
def execSHalt (p : Nat) (s : State) : Host.Outcome State Fault Refusal :=
  engRun (scrIssue p (wordI 0x2B 0 0 0) (scrHalt p)) s

end Sys2Proof.Machine
end

