-- ==== Sys2Proof/Machine/ExecDma.lean ====
section
/-! DEFINITION. The meanings of the commands of family Dma, one definition for each command. -/
namespace Sys2Proof.Machine

open Sys2Proof

/-- DMA_START (R249): DMA_CMD START checks the descriptor and starts the channel, or halts it with cause 5. -/
def execDmaStart (n : Nat) (s : State) : Host.Outcome State Fault Refusal :=
  sysRun (dmaStart n) s

/-- DMA_STOP (R249): DMA_CMD STOP halts the channel at the next burst boundary with cause 6 and aborts its staged events. -/
def execDmaStop (n : Nat) (s : State) : Host.Outcome State Fault Refusal :=
  sysRun (dmaStop n) s

/-- DMA_CLEAR (R249): DMA_CMD CLEAR returns a DONE or HALTED channel to IDLE. -/
def execDmaClear (n : Nat) (s : State) : Host.Outcome State Fault Refusal :=
  sysRun (dmaClear n) s

/-- DMA_BURST (R247): A channel moves one burst of up to 64 B, or pushes events, in its round-robin turn, and halts on an error. -/
def execDmaBurst (n : Nat) (answers : List Nat) (s : State) : Host.Outcome State Fault Refusal :=
  sysRun (dmaBurst n answers) s

/-- DMA_DESCRIPTOR_END (R249): A descriptor ends; the channel commits if asked, then loads the next descriptor or enters DONE. -/
def execDmaDescriptorEnd (n : Nat) (answers : List Nat) (s : State) : Host.Outcome State Fault Refusal :=
  sysRun (dmaDescEnd n answers) s

end Sys2Proof.Machine
end

