-- ==== Sys2Proof/Machine/Jtag.lean ====
section
/-! DEFINITION. The JTAG instructions that reach into the device: DBG_ACCESS (R377) and FREEZE_READ (R378). -/
namespace Sys2Proof.Machine

open Sys2Proof

/-- DBG_ACCESS is served: OPEN, or CLOSED with a right held (R377); without its clock the system bus serves nothing. -/
def dbgServed (s : State) : Bool :=
  sysOn s && (lcsState s == 0 || (lcsState s == 1 && s.rd Fd.DBG_RIGHTS_RIGHTS != 0))

/-- The field of the 72-bit register: data, status above it. -/
def dbgShift (st d : Nat) (s : State) : State := jtagSel 0x20 (st * 2 ^ 64 + d) s

/-- One access of the JTAG debug port; while one of it still waits, another is not begun and shows BUSY (DESIGN CHOICE, log 61). -/
def dbgAccess (write : Bool) (a size d : Nat) (s : State) : State :=
  if dbgServed s && masterBusy s 0x03 then dbgShift St.busy 0 s
  else if dbgServed s then
    let r := if write then busWrite a size d 0x03 s else busRead a size 0x03 s
    match r.1 with
    | .ok v => dbgShift St.ok (if write then 0 else v) r.2
    | .hold => dbgShift St.busy 0 r.2
    | e => dbgShift e.spi 0 r.2
  else dbgShift St.access 0 s

/-- A window access that waited for SDRAM goes on once its line is served, at the address it was issued with (R17); the next in turn follows
(R18). -/
def sdramServe (s : State) : State :=
  match s.xmc.waits with
  | [] => s
  | x :: l =>
    if lineOk (x.phys / 64) s && sysOn s then
      let t := { s with xmc := { s.xmc with waits := turnFront LineWait.master x.master l } }
      let r := if x.write then sdramBusWrite x.phys x.size x.data.toNat x.master t else sdramBusRead x.phys x.size x.master t
      if x.master = 0x03 then
        match r.1 with
        | .ok v => dbgShift St.ok (if x.write then 0 else v) r.2
        | e => dbgShift e.spi 0 r.2
      else r.2
    else s

/-- What waited goes on after a tick, each under its own clock: a program or erase its pace held back (R206), frames an inhibit time held
back (R288), SDRAM accesses and host SPI operations (R17). -/
def goOn (s : State) : State := spiResume (sdramServe (netTick (when_ (sysOn s) cfgBegin s)))

/-- The fabric design acknowledges an access to its window: the requester that waits takes it (R16, R189). The target port needs its
clock. -/
def windowAck (d : W64) (s : State) : State :=
  if !portOn s 18 then s
  else match s.fab.acc with
  | x :: _ =>
    if x.master = 0x03 then dbgShift St.ok (if x.write then 0 else d.toNat) (fabricAckSpi d s) else fabricAckSpi d s
  | [] => s

/-- The access is not acknowledged in time. -/
def windowLate (s : State) : State :=
  match s.fab.acc with
  | x :: _ => if x.master = 0x03 then dbgShift (Bus.err 5).spi 0 (fabricLateSpi s) else fabricLateSpi s
  | [] => s

/-- What a readout gives: data, DENIED, UE, CORRECTED. -/
structure Readout where
  data : Nat
  denied : Bool
  ue : Bool
  fixed : Bool
deriving DecidableEq, Repr

/-- A readout that is DENIED. -/
def readDenied : Readout := ⟨0, true, false, false⟩

/-- A 32-bit word of a stored word. -/
def readoutOf (e : EccOut) (half : Nat) : Readout :=
  match e with
  | .clean d => ⟨d.toNat / 2 ^ (32 * half) % 2 ^ 32, false, false, false⟩
  | .fixed d => ⟨d.toNat / 2 ^ (32 * half) % 2 ^ 32, false, false, true⟩
  | .bad => ⟨0, false, true, false⟩

/-- The registers and their windows: what a read would give, without its side effects. -/
def readoutReg (a : Nat) (s : State) : Readout :=
  let t := (regBusRead a 4 0 ((s.clr Fd.MEM_STAT_CE).clr Fd.UFL_ECNT_CORRECTED)).2
  let fixed := t.rdB Fd.MEM_STAT_CE || t.rd Fd.UFL_ECNT_CORRECTED != 0
  match (regBusRead a 4 0 s).1 with
  | .ok v => ⟨v, false, false, fixed && (regFind a).isNone⟩
  | .err 1 => readDenied
  | .err _ => ⟨0, false, false, false⟩
  | _ => ⟨0, false, true, false⟩

/-- Space 0 of Table 16.9: a system address. -/
def readoutSys (a : Nat) (s : State) : Readout :=
  let word (m off : Nat) : Readout := readoutOf (eccDecode (s.mcur (mkey m (off / 8)))) (a / 4 % 2)
  match regionOf a with
  | .large none off => word (2 + off / 0x200000) (off % 0x200000)
  | .uflash off =>
    if (xoRegion s (off / 0x40000)).isSome && !xoMayRead 0x03 s then readDenied
    else readoutOf (s.ufl.main.read uflU (off / 8)) (a / 4 % 2)
  | .events off => word 0 off
  | .descs off => word 1 off
  | .retained off => word 13 off
  | .regs => readoutReg a s
  | _ => readDenied

/-- Space 3 of Table 16.9: a frame of a configuration plane. -/
def readoutFrame (a : Nat) (s : State) : Readout :=
  let p := mapGet? (if bit a 20 then s.cfg.shadow else s.cfg.active) (bits a 25 21)
  let f := bits a 19 7
  match p with
  | some x => if 5632 ≤ f then readDenied else match x.read (f * 16 + bits a 6 3) with
    | .clean d => ⟨halfOf d.toNat a, false, false, false⟩
    | .fixed d => ⟨halfOf d.toNat a, false, false, true⟩
    | .bad => ⟨0, false, true, false⟩
  | none => if 5632 ≤ f then readDenied else ⟨0, false, false, false⟩

/-- What a capture reads (R378): nothing outside FROZEN, in INVALID, or in CLOSED without the freeze readout right. -/
def readout (space a : Nat) (s : State) : Readout :=
  if s.mode ≠ Md.frozen ∨ lcsState s = 3 ∨ (lcsState s = 1 ∧ !hasRight 2 s) then readDenied
  else
    let w := a / 4 * 4
    match space with
    | 0 => readoutSys w s
    | 1 => if w < 0x80000 then readoutOf (eccDecode (s.mcur (mkey 11 (w / 8)))) (w / 4 % 2) else readDenied
    | 2 => if w < 0x80000 then readoutOf (eccDecode (s.mcur (mkey 12 (w / 8)))) (w / 4 % 2) else readDenied
    | _ => if w < 0x4000000 then readoutFrame w s else readDenied

/-- One scan of FREEZE_READ: Capture-DR reads the word at the address and adds 4, Update-DR sets the address with LOAD 1. -/
def freezeRead (addr space : Nat) (load : Bool) (s : State) : State :=
  let r := readout s.jtag.space s.jtag.addr s
  let out := r.data + b2n r.denied * 2 ^ 32 + b2n r.ue * 2 ^ 33 + b2n r.fixed * 2 ^ 34 + b2n (s.mode == Md.frozen) * 2 ^ 35
  let t := jtagSel 0x22 out s
  if load then { t with jtag := { t.jtag with addr := addr % 2 ^ 32, space := space % 4 } }
  else { t with jtag := { t.jtag with addr := (t.jtag.addr + 4) % 2 ^ 32 } }

end Sys2Proof.Machine
end

