-- ==== Sys2Proof/Machine/ExecFab.lean ====
section
/-! DEFINITION. The meanings of the commands of family Fab, one definition for each command. -/
namespace Sys2Proof.Machine

open Sys2Proof

/-- CHAIN_CONTENTION (R178): A chain monitor finds two or more taps enabled; it is counted and captured, and signalled under CMODE 2. -/
def execChainContention (chain : Nat) (enables : Nat) (s : State) : Host.Outcome State Fault Refusal :=
  sysRun (chainSample chain enables) s

/-- FPLL_LOSS (R182): A fabric PLL loses lock; its networks stop and the safety manager is signalled. -/
def execFpllLoss (m : Nat) (s : State) : Host.Outcome State Fault Refusal :=
  engRun (fpllLoss m) s

/-- FABRIC_FAULT_LINE (R189): A fabric fault line is asserted for 2 sys cycles and raises its SAF input. -/
def execFabricFaultLine (n : Nat) (level : Bool) (s : State) : Host.Outcome State Fault Refusal :=
  engRun (faultLine n level) s

/-- FABRIC_DICT_ANSWER (R192): The fabric design answers a dictionary-port request with RESP and DATA. -/
def execFabricDictAnswer (resp : DictAns) (data : W64) (s : State) : Host.Outcome State Fault Refusal :=
  sysRun (fun s => dictGo (fabAnswer resp data s)) s

/-- FABRIC_DICT_TIMEOUT (R192): No answer arrives within 65,536 sys cycles; the request is withdrawn and counted. -/
def execFabricDictTimeout (s : State) : Host.Outcome State Fault Refusal :=
  sysRun (fun s => dictGo (fabTimeout s)) s

/-- FABRIC_WINDOW_TIMEOUT (R16): A fabric-window access is not acknowledged within 256 sys cycles and ends as a bus error. -/
def execFabricWindowTimeout (s : State) : Host.Outcome State Fault Refusal :=
  sysRun windowLate s

/-- LOUPE_WRITE (R187): A loupe control or selection write is applied, or refused under the life-cycle right or pin checks. -/
def execLoupeWrite (probe : Option Nat) (v : Nat) (s : State) : Host.Outcome State Fault Refusal :=
  sysRun (loupeWrite probe v) s

/-- FABRIC_WINDOW_ACK (R189): The fabric design's target port acknowledges an access to the fabric-defined window, which then completes. -/
def execFabricWindowAck (data : W64) (s : State) : Host.Outcome State Fault Refusal :=
  sysRun (windowAck data) s

end Sys2Proof.Machine
end

