-- ==== Sys2Proof/Machine/ExecHsp.lean ====
section
/-! DEFINITION. The meanings of the commands of family Hsp, one definition for each command. -/
namespace Sys2Proof.Machine

open Sys2Proof

/-- BUS_READ (R297): The host SPI BUS_READ operation reads system addresses as master 0x01. -/
def execSpiBusRead (tag : Nat) (addr : Nat) (len : Nat) (s : State) : Host.Outcome State Fault Refusal :=
  sysRun (spiBusRead tag addr len) s

/-- BUS_WRITE (R297): The host SPI BUS_WRITE operation writes system addresses as master 0x01. -/
def execSpiBusWrite (tag : Nat) (addr : Nat) (data : List Byte) (s : State) : Host.Outcome State Fault Refusal :=
  sysRun (spiBusWrite tag addr data) s

/-- DICT_READ (R297): The host SPI DICT_READ operation reads a dictionary object as client 0. -/
def execSpiDictRead (tag : Nat) (index : Nat) (sub : Nat) (off : Nat) (len : Nat) (s : State) : Host.Outcome State Fault Refusal :=
  sysRun (spiDictRead tag index sub off len) s

/-- DICT_WRITE (R297): The host SPI DICT_WRITE operation writes a dictionary object as client 0, with its tag. -/
def execSpiDictWrite (tag : Nat) (index : Nat) (sub : Nat) (off : Nat) (data : List Byte) (s : State) : Host.Outcome State Fault Refusal :=
  sysRun (spiDictWrite tag index sub off data) s

/-- STATUS (R297): The host SPI STATUS operation returns HSP_STAT. -/
def execSpiStatus (tag : Nat) (s : State) : Host.Outcome State Fault Refusal :=
  sysRun (spiStatusOp tag) s

/-- RESULT (R297): The host SPI RESULT operation returns the remembered status of a tag. -/
def execSpiResult (tag : Nat) (s : State) : Host.Outcome State Fault Refusal :=
  sysRun (spiResult tag) s

/-- SPI_ABANDON (R298): HSP_CS_N rises before 0xA5 is sent; the response is abandoned and the request completes. -/
def execSpiAbandon (s : State) : Host.Outcome State Fault Refusal :=
  sysRun spiAbandon s

/-- SPI_REQUEST_REJECTED (R299): A host SPI frame with a wrong CRC, an undefined OP or a bad length, or one cut short, is answered 0x5A with a reason and counted. -/
def execSpiRequestRejected (frame : List Byte) (s : State) : Host.Outcome State Fault Refusal :=
  sysRun (spiRejected frame) s

end Sys2Proof.Machine
end

