-- ==== Sys2Proof/Machine/ExecIrq.lean ====
section
/-! DEFINITION. The meanings of the commands of family Irq, one definition for each command. -/
namespace Sys2Proof.Machine

open Sys2Proof

/-- An interrupt source fires, or the level of a source is judged; the fabric lines 320 to 383 take their level here (R303). -/
def irqSource (i : Nat) (level : Bool) (s : State) : State :=
  if 320 ≤ i ∧ i < 384 then
    let b := BitVec.ofNat 64 (2 ^ (i - 320))
    irqJudge i { s with fab := { s.fab with irq := if level then s.fab.irq ||| b else s.fab.irq &&& ~~~b } }
  else if irqIsLevel i then irqJudge i s
  else if level && irqExists i then irqEvent i s
  else s

/-- IRQ_SOURCE_EVENT (R303): An interrupt source fires or its level is asserted; it moves through its states and may wake the device. -/
def execIrqSourceEvent (i : Nat) (level : Bool) (s : State) : Host.Outcome State Fault Refusal :=
  clockedRun (irqSource i level) s

/-- CLAIM (R305): A read of IRQ_CLAIM takes the highest-priority deliverable source of the target, or returns 0. -/
def execClaim (t : Nat) (s : State) : Host.Outcome State Fault Refusal :=
  sysRun (fun s => (irqClaim t s).2.ret (irqClaim t s).1) s

/-- COMPLETE (R306): A write to IRQ_COMPLETE completes a source that this target claimed. -/
def execComplete (t : Nat) (i : Nat) (s : State) : Host.Outcome State Fault Refusal :=
  sysRun (irqComplete t i) s

/-- PEND_CLEAR (R303): A 1 written to an IRQ_PEND bit clears the source's pending state. -/
def execPendClear (i : Nat) (s : State) : Host.Outcome State Fault Refusal :=
  sysRun (irqPendClear i) s

/-- PEND_SET (R303): A 1 written to an IRQ_PEND_SET bit makes the source pending. -/
def execPendSet (i : Nat) (s : State) : Host.Outcome State Fault Refusal :=
  sysRun (irqPendSet i) s

/-- MODERATION_TIMER (R307): A target's moderation timer expires, and its moderation becomes RELEASED. -/
def execModerationTimer (t : Nat) (s : State) : Host.Outcome State Fault Refusal :=
  clockedRun (irqTimer t) s

end Sys2Proof.Machine
end

