-- ==== Sys2Proof/Machine/ExecLcs.lean ====
section
/-! DEFINITION. The meanings of the commands of family Lcs, one definition for each command. -/
namespace Sys2Proof.Machine

open Sys2Proof

/-- PROVISION (R367): LCS_CMD PROVISION programs a key slot's digest, key and flag from LCS_KEY_BUF in OPEN. -/
def execProvision (key : Nat) (slot : Nat) (master : Nat) (s : State) : Host.Outcome State Fault Refusal :=
  busRun master (lcsProvision key slot master) s

/-- CLOSE (R368): LCS_CMD CLOSE programs the close intent and the state copies, then starts a warm reset. -/
def execClose (key : Nat) (master : Nat) (s : State) : Host.Outcome State Fault Refusal :=
  busRun master (lcsClose key master) s

/-- SCRAP (R379): LCS_CMD SCRAP destroys the keys, flash and state, then starts a warm reset. -/
def execScrap (key : Nat) (master : Nat) (s : State) : Host.Outcome State Fault Refusal :=
  busRun master (lcsScrap key master) s

/-- RAISE_FLOOR (R371): LCS_CMD RAISE_FLOOR raises the security version floor. -/
def execRaiseFloor (key : Nat) (master : Nat) (s : State) : Host.Outcome State Fault Refusal :=
  busRun master (lcsRaiseFloor key master) s

/-- BUMP_DBG_CTR (R374): LCS_CMD BUMP_DBG_CTR increments the debug counter and revokes rights. -/
def execBumpDbgCtr (key : Nat) (master : Nat) (s : State) : Host.Outcome State Fault Refusal :=
  busRun master (lcsBump key master) s

/-- LCS_CMD_DONE (R367): A life-cycle command ends its OTP programming and reports its status. -/
def execLcsCmdDone (s : State) : Host.Outcome State Fault Refusal :=
  clockedRun lcsDone s

/-- PRESENT (R373): DBG_CMD PRESENT starts checking the certificate in DBG_CERT. -/
def execPresent (master : Nat) (s : State) : Host.Outcome State Fault Refusal :=
  busRun master (dbgPresent master) s

/-- CERT_CHECK_DONE (R373): A certificate check ends, granting its rights or counting a failure toward LOCKOUT. -/
def execCertCheckDone (s : State) : Host.Outcome State Fault Refusal :=
  clockedRun certDone s

/-- REVOKE (R374): DBG_CMD REVOKE revokes all debug rights. -/
def execRevoke (master : Nat) (s : State) : Host.Outcome State Fault Refusal :=
  busRun master (dbgRevoke master) s

/-- EXTEST (R376): The JTAG instruction EXTEST drives the boundary scan, when permitted. -/
def execJtagExtest (s : State) : Host.Outcome State Fault Refusal :=
  nx (jtagRun (jtagScan 0x00) s)

/-- SAMPLE_PRELOAD (R376): The JTAG instruction SAMPLE/PRELOAD samples the boundary scan, when permitted. -/
def execJtagSamplePreload (s : State) : Host.Outcome State Fault Refusal :=
  nx (jtagRun (jtagScan 0x01) s)

/-- IDCODE (R375): The JTAG instruction IDCODE selects the identification register. -/
def execJtagIdcode (s : State) : Host.Outcome State Fault Refusal :=
  nx (jtagRun (jtagSel 0x02 idcode) s)

/-- HIGHZ (R376): The JTAG instruction HIGHZ places the pins in high impedance, when permitted. -/
def execJtagHighz (s : State) : Host.Outcome State Fault Refusal :=
  nx (jtagRun (jtagScan 0x04) s)

/-- BYPASS (R375): The JTAG instruction BYPASS, or any undefined code, selects the bypass register. -/
def execJtagBypass (s : State) : Host.Outcome State Fault Refusal :=
  nx (jtagRun (jtagSel 0xFF 0) s)

/-- DBG_ACCESS (R377): The JTAG instruction DBG_ACCESS performs system-bus accesses as master 0x03 under the rights held. -/
def execDbgAccess (write : Bool) (addr : Nat) (size : Nat) (data : W64) (s : State) : Host.Outcome State Fault Refusal :=
  nx (jtagRun (dbgAccess write addr size data.toNat) s)

/-- LCS_STATUS (R375): The JTAG instruction LCS_STATUS shifts out LCS_STATE. -/
def execJtagLcsStatus (s : State) : Host.Outcome State Fault Refusal :=
  nx (jtagRun (jtagSel 0x21 (lcsStateWord s)) s)

/-- FREEZE_READ (R378): The JTAG instruction FREEZE_READ reads words of the frozen device, or returns DENIED. -/
def execFreezeRead (addr : Nat) (space : Nat) (load : Bool) (s : State) : Host.Outcome State Fault Refusal :=
  nx (jtagRun (freezeRead addr space load) s)

/-- JTAG_CLAMP (R376): The JTAG instruction CLAMP holds the pins from the boundary-scan register with bypass selected, when permitted. -/
def execJtagClamp (s : State) : Host.Outcome State Fault Refusal :=
  nx (jtagRun (jtagScan 0x03) s)

/-- TEST_LOGIC_RESET (R375): TRST_N or the Test-Logic-Reset state resets the TAP, selects IDCODE and ends EXTEST, CLAMP or HIGHZ. -/
def execTestLogicReset (s : State) : Host.Outcome State Fault Refusal :=
  nx (jtagRun jtagReset s)

end Sys2Proof.Machine
end

