-- ==== Sys2Proof/Machine/ExecLog.lean ====
section
/-! DEFINITION. The meanings of the commands of family Log, one definition for each command. -/
namespace Sys2Proof.Machine

open Sys2Proof

/-- LOG_WRITE (R315): A queued trouble-log request is written as the next entry, overwriting or refused when the log is full. -/
def execLogWrite (s : State) : Host.Outcome State Fault Refusal :=
  engRun (fun s => autoExport (logWrite1 s)) s

/-- LOG_USER (R318): A write to LOG_USER requests a firmware trouble-log entry. -/
def execLogUser (v : Nat) (master : Nat) (s : State) : Host.Outcome State Fault Refusal :=
  busRun master (logUser v master) s

/-- RSEQ_WRITE (R317): A write of LOG_RSEQ marks entries as read, or is refused. -/
def execRseqWrite (v : Nat) (s : State) : Host.Outcome State Fault Refusal :=
  sysRun (rseqWrite v) s

/-- QUAL_ACK (R313): A write of QUAL_ACK sets the time quality and uncertainty to 0. -/
def execQualAck (s : State) : Host.Outcome State Fault Refusal :=
  sysRun qualAck s

/-- LOG_TIME_READ (R311): A read of the low word of LOG_TIME captures the high word. -/
def execLogTimeRead (s : State) : Host.Outcome State Fault Refusal :=
  sysRun (fun s => (logTimeRead s).ret (s.now % 2 ^ 32)) s

/-- AON_SOURCE_SWITCH (R312): The AON counter switches to RC after 1 ms without crystal edges, or back after 2 s of clean crystal. -/
def execAonSourceSwitch (rc : Bool) (s : State) : Host.Outcome State Fault Refusal :=
  nx (aonSwitch (b2n rc) s)

/-- EXPORT (R320): LOG_CMD EXPORT, or the AUTO_EXPORT trigger, starts copying log entries into user flash. -/
def execLogExport (s : State) : Host.Outcome State Fault Refusal :=
  sysRun logExport s

/-- EXPORT_ABORT (R320): LOG_CMD EXPORT_ABORT stops the export after the operation in progress. -/
def execExportAbort (s : State) : Host.Outcome State Fault Refusal :=
  sysRun exportAbort s

/-- EXPORT_DONE (R320): An export ends with OK or a failure status, and ESEQ is updated. -/
def execExportDone (stop : Option Nat) (s : State) : Host.Outcome State Fault Refusal :=
  sysRun (exportDone stop) s

end Sys2Proof.Machine
end

