-- ==== Sys2Proof/Machine/ExecMem.lean ====
section
/-! DEFINITION. The meanings of the commands of family Mem, one definition for each command. -/
namespace Sys2Proof.Machine

open Sys2Proof

/-- A memory is reached: over the system bus with the sys clock, through its own port with the engine clock. -/
def memRun (overBus : Bool) (master : Nat) (f : State → State) (s : State) : Host.Outcome State Fault Refusal :=
  gated (if overBus then sysOn else engOn) (fun t => if overBus && !masterServed t master then t else f t) s

/-- The access comes over the system bus. -/
def atBus : MemAt → Bool
  | .bus _ _ => true
  | .word _ _ => false

/-- The narrow write comes over the system bus. -/
def narrowAtBus : NarrowAt → Bool
  | .bus _ _ => true
  | _ => false

/-- A read of a memory word (R15, R221): through the system bus, or by a port that is not on it. -/
def memoryRead (loc : MemAt) (master : Nat) (s : State) : State :=
  match loc with
  | .bus a n => (busRead a n master s).2
  | .word m i => if wordThere m i then (memRead m i master s).2 else s

/-- A write of a full memory word (R220). Event store entries and descriptors change through no port of their memory but the QUE's
(R77). -/
def memoryWrite (loc : MemAt) (d : W64) (master : Nat) (s : State) : State :=
  match loc with
  | .bus a n => (busWrite a n d.toNat master s).2
  | .word m i => if m < 2 ∨ !wordThere m i then s else (memWrite m i d 255 master s).2

/-- A write of part of a memory word (R222); two ports of an inkwell in one cycle, by masks of bits (R181). -/
def narrowAtWrite (loc : NarrowAt) (d : W64) (master : Nat) (s : State) : State :=
  match loc with
  | .bus a n => (busWrite a n d.toNat master s).2
  | .word m i mask => if m < 2 ∨ !wordThere m i then s else (memWrite m i d mask master s).2
  | .inkwell i ma mb other =>
    if wordThere 10 i then inkWrites i d (BitVec.ofNat 64 ma) other (BitVec.ofNat 64 mb) s else s

/-- An injection is cancelled, with the right its register needs (R231). -/
def injDisarm (f : Fld) (s : State) : State :=
  if injAllowed s then s.clr f else injRefuse s

/-- A remap entry is set by firmware (R226, R243): tables 0 large banks, 1 event store, 2 SDRAM lines. -/
def remapSet (tbl bank i name : Nat) (s : State) : State :=
  if tbl = 2 then spareTake i name s else remapPromote tbl bank i name s

/-- A remap entry is released by firmware. -/
def remapClear (tbl bank i : Nat) (s : State) : State :=
  if tbl = 2 then spareFree i s else remapRelease tbl bank i s

/-- SOURCE of a line access (XMC_ERR_CAP): DMA through its own port, another master's window class, none of them BIST. -/
def lineSource (master : Nat) : Nat := if master = 0x04 then 0x10 else if master = 0 then 0x40 else 0x20 + winClass master

/-- An SDRAM read (R17, R239): a window access, or a whole line, as both codewords deliver it; a line that cannot be served waits. -/
def sdramAtRead (loc : LineAt) (master : Nat) (s : State) : State :=
  match loc with
  | .window a n => (busRead a n master s).2
  | .line l =>
    if lineOk l s then
      match lineRead l (lineSource master) s with
      | (some c0, some c1, _, t) => t.ret (c0 + c1 * 2 ^ 256)
      | (_, _, _, t) => t.retErr 2
    else s

/-- An SDRAM write (R241): a window access, or the masked bytes of a line. -/
def sdramAtWrite (loc : LineAt) (d mask master : Nat) (s : State) : State :=
  match loc with
  | .window a n => (busWrite a n d master s).2
  | .line l =>
    if lineOk l s then
      match lineWrite l d mask (lineSource master) s with
      | (true, t) => t.ret 0
      | (false, t) => t.retErr 2
    else s

/-- MEMORY_READ (R221): A requester reads an ECC-protected internal memory word; the word is corrected or reported uncorrectable with its requester's outcome. -/
def execMemoryRead (loc : MemAt) (master : Nat) (s : State) : Host.Outcome State Fault Refusal :=
  memRun (atBus loc) master (memoryRead loc master) s

/-- MEMORY_WRITE (R220): A full 64-bit write stores fresh check bits, which cures a poisoned word and applies any armed injection. -/
def execMemoryWrite (loc : MemAt) (data : W64) (master : Nat) (s : State) : Host.Outcome State Fault Refusal :=
  memRun (atBus loc) master (memoryWrite loc data master) s

/-- NARROW_WRITE (R222): A write of fewer than 64 bits is merged in the port's merge buffer, or is refused and the word poisoned when the word is uncorrectable. -/
def execNarrowWrite (loc : NarrowAt) (data : W64) (master : Nat) (s : State) : Host.Outcome State Fault Refusal :=
  memRun (narrowAtBus loc) master (narrowAtWrite loc data master) s

/-- MERGE_FLUSH (R222): The merge-buffer entry is written to the array at a free slot, no later than 16 slots after its last merge. -/
def execMergeFlush (m : Nat) (s : State) : Host.Outcome State Fault Refusal :=
  engRun (mergeFlush m) s

/-- WRITE_BACK (R224): A queued corrected word is written back from the write-back buffer in a scrub slot. -/
def execWriteBack (m : Nat) (s : State) : Host.Outcome State Fault Refusal :=
  engRun (writeBack m) s

/-- SCRUB_READ (R227): A scrubber reads one word in its slot; a correctable word is queued for correction and an uncorrectable one is poisoned. -/
def execScrubRead (m : Nat) (s : State) : Host.Outcome State Fault Refusal :=
  engRun (scrubRead m) s

/-- SCRUB_CORRECT_WRITE (R227): The scrubber writes the corrected word in the next slot unless a requester write cancelled it. -/
def execScrubCorrectWrite (s : State) : Host.Outcome State Fault Refusal :=
  engRun scrubWrite s

/-- SCRUB_PASS_LATE (R227): A scrub pass overruns its period; a MEM_SCRUB_LATE bit is set and the safety manager is signalled. -/
def execScrubPassLate (m : Nat) (s : State) : Host.Outcome State Fault Refusal :=
  engRun (scrubLate m) s

/-- BIT_SET (R234): A write to the bit-set alias of a large bank ORs the data into the word in two indivisible slots. -/
def execBitSet (bank : Nat) (off : Nat) (size : Nat) (data : W64) (master : Nat) (s : State) : Host.Outcome State Fault Refusal :=
  busRun master (fun s => (busWrite (0x08000000 + 0x200000 * bank + off) size data.toNat master s).2) s

/-- BIT_CLEAR (R234): A write to the bit-clear alias of a large bank clears the written bits of the word. -/
def execBitClear (bank : Nat) (off : Nat) (size : Nat) (data : W64) (master : Nat) (s : State) : Host.Outcome State Fault Refusal :=
  busRun master (fun s => (busWrite (0x0A000000 + 0x200000 * bank + off) size data.toNat master s).2) s

/-- ATOMIC_ADD (R234): A write to the atomic-add port adds the data to the word and keeps the old value for MEM_ATOM_OLD. -/
def execAtomicAdd (bank : Nat) (off : Nat) (size : Nat) (data : W64) (master : Nat) (s : State) : Host.Outcome State Fault Refusal :=
  busRun master (fun s => (busWrite (0x0C000000 + 0x200000 * bank + off) size data.toNat master s).2) s

/-- ATOMIC_SWAP (R234): A write to the atomic-swap port replaces the word and keeps the old value for MEM_ATOM_OLD. -/
def execAtomicSwap (bank : Nat) (off : Nat) (size : Nat) (data : W64) (master : Nat) (s : State) : Host.Outcome State Fault Refusal :=
  busRun master (fun s => (busWrite (0x0E000000 + 0x200000 * bank + off) size data.toNat master s).2) s

/-- OWNER_CHANGE (R233): A write to MEM_LB_OWN requests a new large-bank owner and waits for the old owner's accesses to complete. -/
def execOwnerChange (bank : Nat) (owner : Nat) (master : Nat) (s : State) : Host.Outcome State Fault Refusal :=
  busRun master (ownerChange bank owner master) s

/-- OWNER_CHANGE_DONE (R233): The old owner's accepted accesses complete and the new owner takes effect. -/
def execOwnerChangeDone (bank : Nat) (s : State) : Host.Outcome State Fault Refusal :=
  engRun (ownerDone bank) s

/-- MEM_INJ_ARM (R231): A write of ARMED 1 to MEM_INJ arms a check-byte injection, subject to the life-cycle right. -/
def execMemInjArm (addr : Nat) (m : Nat) (mask : Nat) (s : State) : Host.Outcome State Fault Refusal :=
  sysRun (memInjArm addr m mask) s

/-- MEM_INJ_DISARM (R231): A write of DISARM 1 to MEM_INJ cancels an armed injection. -/
def execMemInjDisarm (s : State) : Host.Outcome State Fault Refusal :=
  sysRun (injDisarm Fd.MEM_INJ_ARMED) s

/-- REMAP_PROMOTE (R226): A firmware write that sets a remap entry's VALID to 1 promotes the named word into its spare. -/
def execRemapPromote (tbl : Nat) (bank : Nat) (i : Nat) (name : Nat) (s : State) : Host.Outcome State Fault Refusal :=
  sysRun (remapSet tbl bank i name) s

/-- REMAP_RELEASE (R226): A write that clears VALID copies the spare back into the array and releases the entry. -/
def execRemapRelease (tbl : Nat) (bank : Nat) (i : Nat) (s : State) : Host.Outcome State Fault Refusal :=
  sysRun (remapClear tbl bank i) s

/-- XMC_INIT (R244): XMC_CTRL INIT repeats SDRAM power-up and training from OFF or FAILED. -/
def execXmcInit (s : State) : Host.Outcome State Fault Refusal :=
  sysRun xmcInit s

/-- XMC_TRAINING_DONE (R244): SDRAM initialisation or training ends; XMC becomes READY and reloads its spares, or becomes FAILED. -/
def execXmcTrainingDone (ok : Bool) (s : State) : Host.Outcome State Fault Refusal :=
  sysRun (xmcTrained ok) s

/-- SDRAM_READ (R239): A line is read and both RS codewords are decoded, corrected or reported uncorrectable, and device corrections are counted. -/
def execSdramRead (loc : LineAt) (master : Nat) (s : State) : Host.Outcome State Fault Refusal :=
  busRun master (sdramAtRead loc master) s

/-- SDRAM_WRITE (R241): A write covers a whole line directly or is done as an indivisible read-modify-write, which may refuse the write and poison codewords. -/
def execSdramWrite (loc : LineAt) (data : Nat) (mask : Nat) (master : Nat) (s : State) : Host.Outcome State Fault Refusal :=
  busRun master (sdramAtWrite loc data mask master) s

/-- SDRAM_REFRESH (R236): An all-bank refresh is issued at every tREFI interval. -/
def execSdramRefresh (s : State) : Host.Outcome State Fault Refusal :=
  sysRun xmcRefresh s

/-- PATROL_LINE (R242): The patrol reads, corrects or poisons one line; at the end of a pass it increments PASSES and clears PASS_COUNT. -/
def execPatrolLine (s : State) : Host.Outcome State Fault Refusal :=
  sysRun patrolLine s

/-- PATROL_PASS_LATE (R242): A patrol pass lasts more than 1 h; PATROL_LATE is set and the safety manager is signalled. -/
def execPatrolPassLate (s : State) : Host.Outcome State Fault Refusal :=
  sysRun patrolLate s

/-- FILL (R245): XMC_CMD FILL starts writing the fill pattern into LINES lines from XMC_CMD_ADDR. -/
def execFill (line : Nat) (lines : Nat) (pat : W64) (s : State) : Host.Outcome State Fault Refusal :=
  sysRun (xmcFill line lines pat.toNat) s

/-- FILL_DONE (R245): A FILL ends and reports its status. -/
def execFillDone (s : State) : Host.Outcome State Fault Refusal :=
  sysRun xmcFillDone s

/-- MARK (R240): XMC_CMD MARK marks a device of a rank. -/
def execMark (rank : Nat) (dev : Nat) (s : State) : Host.Outcome State Fault Refusal :=
  sysRun (xmcMark rank dev) s

/-- UNMARK (R240): XMC_CMD UNMARK clears the mark of a rank. -/
def execUnmark (rank : Nat) (dev : Nat) (s : State) : Host.Outcome State Fault Refusal :=
  sysRun (xmcUnmark rank dev) s

/-- PATROL_RESTART (R242): XMC_CMD PATROL_RESTART restarts the patrol pass at line 0. -/
def execPatrolRestart (s : State) : Host.Outcome State Fault Refusal :=
  sysRun xmcPatrolRestart s

/-- XMC_INJ_ARM (R231): A write of ARMED 1 to XMC_INJ arms a device-symbol injection for the next full-line write. -/
def execXmcInjArm (line : Nat) (devA : Nat) (devB : Nat) (two : Bool) (s : State) : Host.Outcome State Fault Refusal :=
  sysRun (xmcInjArm line devA devB (b2n two)) s

/-- XMC_INJ_DISARM (R231): A write of DISARM 1 to XMC_INJ cancels an armed SDRAM injection. -/
def execXmcInjDisarm (s : State) : Host.Outcome State Fault Refusal :=
  sysRun (injDisarm Fd.XMC_INJ_ARMED) s

end Sys2Proof.Machine
end

