-- ==== Sys2Proof/Machine/Store.lean ====
section
/-! DEFINITION. The end of a user-flash operation, and of a dictionary store or restore (R266 to R268, R280, R281). -/
namespace Sys2Proof.Machine

open Sys2Proof

/-- A user-flash operation ends; a store that waited for it takes the array (R268), or a search of the export region (R253). -/
def uflCmdDone (s : State) : State :=
  let t := uflDone s
  exportResume (if t.ufl.store.isSome && !t.rdB Fd.UFL_CMD_STAT_BUSY then t.set1 Fd.UFL_STAT_STORE_BUSY else t)

/-- The records that fit beside `n` bytes within 254 data pages, in order (R280). -/
def storeKeep (n : Nat) (l : List Rec) : List Rec :=
  (l.foldl (fun (a : Nat × List Rec) (r : Rec) =>
    if 254 * 512 < a.1 + r.bytes.length then a else (a.1 + r.bytes.length, a.2 ++ [r])) (n, [])).2

/-- The status of a store whose page failed its confirmation: a code other than OK that the spec does not fix. -/
def storeFailed (s : State) : Nat := 1 + (Config.freeValue s.sys.free).toNat % 10

/-- A restore sets the region's SEQ to 0, up to the next reset (R281). -/
def regionVoid (s : State) : State :=
  let t := retHeader 0 magicDict 0 s
  { t with net := { t.net with seqZero := true } }

/-- A store or restore ends (R267, R280, R281): with every page confirmed, or at the page that failed, counted from the header page. It
waits while the array is taken or a fabric object has still to be read. -/
def storeDone (fail : Option Nat) (s : State) : State :=
  match s.ufl.store with
  | none => s
  | some x =>
    if !x.todo.isEmpty || s.rdB Fd.UFL_CMD_STAT_BUSY then s
    else
      let rs := records x.fab
      let keep := storeKeep (snapOwn s).length rs
      let y := { x with fab := keep.flatMap Rec.bytes, part := x.part || decide (keep.length < rs.length) }
      let l := storeBytes s y (s.rd Fd.CFG_LOADED_ID_IMAGE_ID)
      let r := storeWrite l (fail.map (fun k => min k (l.length / 512 - 1))) s
      let st := if r.1 then (if y.part then St.incomplete else St.ok) else storeFailed r.2
      let s1 := if r.1 then (if y.void then regionVoid r.2 else r.2) else r.2.drawn
      let s2 := s1.clr Fd.UFL_STAT_STORE_BUSY
      let s3 := storeStatus st (irqEvent 387 { s2 with ufl := { s2.ufl with store := none } })
      let s4 := if st = St.ok then s3 else emcy 0xFF06 Blk.net st s3
      exportResume (answer x.client x.tag (Out.store st) [] s4)

/-- A dictionary write by a client: 0 the host SPI port (R297), 1 to 127 a USDO client (R287), 255 a system-bus write to the store
registers, which only "save" and "load" have. -/
def dictCommand (c tag index sub : Nat) (l : List Byte) (s : State) : State :=
  if c = 0 then spiDictWrite tag index sub 0 l s
  else if c ≤ 127 then usdoRequest c (.write index sub 0 l) s
  else (busWrite (if index = 0x1010 then 0x06090008 else 0x0609000C) 4 (ofBytes l) 0x01 s).2

end Sys2Proof.Machine
end

