-- ==== Sys2Proof/Machine/ExecNet.lean ====
section
/-! DEFINITION. The meanings of the commands of family Net, one definition for each command. -/
namespace Sys2Proof.Machine

open Sys2Proof

/-- USDO_REQUEST (R287): A USDO read or write of an object is carried out with the outcomes of R269 to R272. -/
def execUsdoRequest (client : Nat) (op : UsdoOp) (s : State) : Host.Outcome State Fault Refusal :=
  sysRun (usdoRequest client op) s

/-- USDO_TIMEOUT (R284): A USDO segment is not received within 100 ms and the transfer is aborted. -/
def execUsdoTimeout (session : Nat) (s : State) : Host.Outcome State Fault Refusal :=
  sysRun (usdoTimeout session) s

/-- TAGGED_WRITE (R282): A write to 0x2F00 performs the inner write, or returns DUPLICATE for a remembered tag. -/
def execTaggedWrite (client : Nat) (tag : Nat) (content : List Byte) (s : State) : Host.Outcome State Fault Refusal :=
  sysRun (dictCommand client tag 0x2F00 0 content) s

/-- RPDO (R289): A received PDO writes its mapped entries in order as one access. -/
def execRpdo (n : Nat) (data : List Byte) (s : State) : Host.Outcome State Fault Refusal :=
  sysRun (rpdo n data) s

/-- TPDO (R288): A TPDO is sampled and sent on its SYNC, event timer or change of value. -/
def execTpdo (n : Nat) (timer : Bool) (s : State) : Host.Outcome State Fault Refusal :=
  sysRun (tpdo n timer) s

/-- SYNC (R290): A SYNC is received and its time is captured, driving synchronous PDOs. -/
def execSync (late : List Nat) (s : State) : Host.Outcome State Fault Refusal :=
  sysRun (syncReceive late) s

/-- SYNC_PRODUCE (R290): The SYNC period expires and the device produces a SYNC. -/
def execSyncProduce (late : List Nat) (s : State) : Host.Outcome State Fault Refusal :=
  sysRun (syncProduce late) s

/-- HEARTBEAT_PRODUCE (R286): The producer time expires and a heartbeat giving the NMT state is sent. -/
def execHeartbeatProduce (s : State) : Host.Outcome State Fault Refusal :=
  sysRun hbProduce s

/-- HEARTBEAT_RECEIVE (R291): A heartbeat from a watched node restarts its consumer timer. -/
def execHeartbeatReceive (node : Nat) (s : State) : Host.Outcome State Fault Refusal :=
  sysRun (hbReceive node) s

/-- HEARTBEAT_TIMEOUT (R291): A heartbeat consumer times out; HB_TMO and EMCY 0x8130 follow, with the reaction set by 0x1029. -/
def execHeartbeatTimeout (i : Nat) (s : State) : Host.Outcome State Fault Refusal :=
  sysRun (hbTimeout i) s

/-- BUS_OFF_RECOVERY (R291): Line 0 recovers from bus-off and EMCY 0x8140 is sent with the 0x1029 reaction. -/
def execBusOffRecovery (line : Nat) (s : State) : Host.Outcome State Fault Refusal :=
  sysRun (busBack line) s

/-- EMCY_TRANSMIT (R292): A queued EMCY is sent once its inhibit time allows, and the error history is updated. -/
def execEmcyTransmit (s : State) : Host.Outcome State Fault Refusal :=
  sysRun emcySend s

/-- SRDO_RECEIVE (R293): An SRDO frame pair is received, checked, and its valid data written, including RUN_ENABLE. -/
def execSrdoReceive (n : Nat) (data : List Byte) (inverse : List Byte) (s : State) : Host.Outcome State Fault Refusal :=
  sysRun (srdoReceive n data inverse) s

/-- SRDO_TRANSMIT (R293): The SCT period expires and a transmit SRDO pair is sent. -/
def execSrdoTransmit (n : Nat) (s : State) : Host.Outcome State Fault Refusal :=
  sysRun (srdoTransmit n) s

/-- SRDO_TIMEOUT (R293): An SRDO's SRVT or SCT expires; the SRDO is faulty and the safety manager is signalled. -/
def execSrdoTimeout (n : Nat) (s : State) : Host.Outcome State Fault Refusal :=
  sysRun (srdoTimeout n) s

/-- NET_WAKE (R294): A CAN line's wake detector sees activity or the wake-up pattern in SLEEP, which is a wake event. -/
def execNetWake (line : Nat) (s : State) : Host.Outcome State Fault Refusal :=
  clockedRun (netWake line) s

/-- BUS_OFF (R291): A CAN line enters bus-off; BUS_OFFn is set and BUS_OFFS counts it. -/
def execBusOff (line : Nat) (s : State) : Host.Outcome State Fault Refusal :=
  sysRun (busOff line) s

/-- ERROR_PASSIVE (R292): A CAN line becomes error passive; PASSIVEn is set and EMCY 0x8120 is queued. -/
def execErrorPassive (line : Nat) (on : Bool) (s : State) : Host.Outcome State Fault Refusal :=
  sysRun (errPassive line on) s

/-- RECEIVE_OVERRUN (R292): A received CAN frame is lost to overrun; RX_OVR is set, RX_LOST counts it and EMCY 0x8110 is queued. -/
def execReceiveOverrun (line : Nat) (s : State) : Host.Outcome State Fault Refusal :=
  sysRun (rxOverrun line) s

end Sys2Proof.Machine
end

