-- ==== Sys2Proof/Machine/ExecNib.lean ====
section
/-! DEFINITION. The meanings of the commands of family Nib, one definition for each command. -/
namespace Sys2Proof.Machine

open Sys2Proof

/-- A firmware write of a delay (R127): the class delay of a lead class, or a channel's entry of the delay table. -/
def delayWrite (chan : Bool) (n v : Nat) (s : State) : State :=
  if chan then slotWrite (slotDelay n) (v % 2 ^ 24 + 2 ^ 31) s
  else (s.wr (Fd.NIB_LC_DELAY_DELAY n) v).set1 (Fd.NIB_LC_STAT_SEEDED n)

/-- A read of word 0 of a nib record (R106). -/
def nibWord0 (k : Nat) (s : State) : State :=
  match nibRecRead k 0x01 s with
  | (some v, t) => t.ret v
  | (none, t) => memStat Fd.MEM_STAT_ERR_RESP (t.retErr 2)

/-- SELECT (R110): The select stage examines up to 4 candidates in a tick and predicts their fire times; each is judged late, armed or left waiting. -/
def execSelectTick (s : State) : Host.Outcome State Fault Refusal :=
  engRun selectTick s

/-- NIB_ARM (R106): The nib record of an armed event is written 2 ticks after its prediction, into the lowest free nib or a displaced one. -/
def execNibArm (s : State) : Host.Outcome State Fault Refusal :=
  engRun armOldest s

/-- RETIME (R114): A re-timing lane predicts an unlocked armed nib again from the new update. -/
def execRetime (k : Nat) (s : State) : Host.Outcome State Fault Refusal :=
  engRun (retimeNib k) s

/-- DESCRIPTOR_RESTORE (R121): The descriptor of a queue with retracted nibs is restored, one queue per tick. -/
def execDescriptorRestore (s : State) : Host.Outcome State Fault Refusal :=
  engRun restoreOldest s

/-- GUARD (R115): At t_f − 2 the guard locks each due nib that passes its checks under the same-tick rule, or retracts or passes it over. -/
def execGuardTick (s : State) : Host.Outcome State Fault Refusal :=
  engRun guardPass s

/-- FIRE (R118): At t_f each locked nib applies its action, frees its nib and advances CIDX. -/
def execFire (s : State) : Host.Outcome State Fault Refusal :=
  engRun fireTick s

/-- ECHO_APPLY (R126): An echo result is applied to delay learning at stamp + 66, seeding, rejecting or filtering the held delay. -/
def execEchoApply (s : State) : Host.Outcome State Fault Refusal :=
  engRun echoApplyDue s

/-- DELAY_WRITE (R127): A firmware write of a class or channel delay sets the held value and marks it seeded. -/
def execDelayWrite (chan : Bool) (n : Nat) (v : Nat) (s : State) : Host.Outcome State Fault Refusal :=
  sysRun (delayWrite chan n v) s

/-- RESEED (R127): A write of RESEED clears SEEDED for the class and the channel entries whose record names it. -/
def execReseed (c : Nat) (s : State) : Host.Outcome State Fault Refusal :=
  sysRun (reseed c) s

/-- NIB_RECORD_READ (R106): A read of word 0 of a nib record captures words 1 to 3 of the same record. -/
def execNibRecordRead (k : Nat) (s : State) : Host.Outcome State Fault Refusal :=
  sysRun (nibWord0 k) s

end Sys2Proof.Machine
end

