-- ==== Sys2Proof/Machine/ExecPwr.lean ====
section
/-! DEFINITION. The meanings of the commands of family Pwr, one definition for each command. -/
namespace Sys2Proof.Machine

open Sys2Proof

/-- A wake completes (R331): after S2 the retention check comes first (R334). -/
def wakeEnd (s : State) : State :=
  match s.pwr.sleep with
  | .waking 2 => wakeDone (retCheck s)
  | _ => wakeDone s

/-- PWR_PL_REQUEST (R323): A write of PWR_PL TARGET requests a performance level, which is judged and then changed or refused. -/
def execPlRequest (target : Nat) (s : State) : Host.Outcome State Fault Refusal :=
  sysRun (plRequest target) s

/-- PL_CHANGE_DONE (R324): A level change finishes its voltage and divider phases, and PL_DONE is set. -/
def execPlChangeDone (s : State) : Host.Outcome State Fault Refusal :=
  clockedRun plDone s

/-- WAKE_PIN (R330): The WAKE pin at its active level for 1 µs is a wake event. -/
def execWakePin (level : Bool) (s : State) : Host.Outcome State Fault Refusal :=
  nx (wakePinLevel level s)

/-- HSP_CS_WAKE (R330): HSP_CS_N low for 1 µs in sleep is a wake event. -/
def execHspCsWake (s : State) : Host.Outcome State Fault Refusal :=
  clockedRun hspWake s

/-- MOTION_WAKE (R330): Channel 0 moves COUNTS cells from its value at AP4, which is a wake event. -/
def execMotionWake (s : State) : Host.Outcome State Fault Refusal :=
  clockedRun motionWake s

/-- WAKE_TIMER (R330): The wake timer expires N AON counts after entry, which is a wake event. -/
def execWakeTimer (s : State) : Host.Outcome State Fault Refusal :=
  clockedRun wakeTimer s

/-- WAKE_DONE (R331): The wake order completes and the device reaches STANDBY, with WOKE set and the wake record written. -/
def execWakeDone (s : State) : Host.Outcome State Fault Refusal :=
  clockedRun wakeEnd s

/-- IDLE_TIMER (R333): The idle timer reaches TIME in STANDBY and makes a sleep request. -/
def execIdleTimer (s : State) : Host.Outcome State Fault Refusal :=
  clockedRun idleTimer s

/-- DEEPEN_TIMER (R332): After DEEPEN_TIME in S1 or S2 the PWR moves to the deeper state unless a condition stops it. -/
def execDeepenTimer (s : State) : Host.Outcome State Fault Refusal :=
  clockedRun deepen s

/-- BANK_SUPPLY_LOST (R339): A bank supply drops below its threshold; LOST is set and, in RUN or LIMITED, the safety manager is signalled. -/
def execBankSupplyLost (n : Nat) (s : State) : Host.Outcome State Fault Refusal :=
  nx (supplyLost n s)

/-- BANK_SUPPLY_RETURN (R339): A bank supply becomes present again and its pins take their owner's values within 10 µs. -/
def execBankSupplyReturn (n : Nat) (s : State) : Host.Outcome State Fault Refusal :=
  nx (supplyBack n s)

/-- VIN_LOW (R340): VIN falls through 2.75 V; VIN_LOW is set and a log entry is written. -/
def execVinLow (low : Bool) (s : State) : Host.Outcome State Fault Refusal :=
  clockedRun (vinLevel low) s

end Sys2Proof.Machine
end

