-- ==== Sys2Proof/Machine/ExecQue.lean ====
section
/-! DEFINITION. The meanings of the commands of family Que, one definition for each command. -/
namespace Sys2Proof.Machine

open Sys2Proof

/-- A host port stages its push words in its own registers (R80). -/
def hostWords (m : Nat) (w0 w1 w2 w3 : W32) (s : State) : State :=
  (((s.wr (Fd.QUE_PUSH_W_WORD m 0) w0.toNat).wr (Fd.QUE_PUSH_W_WORD m 1) w1.toNat).wr (Fd.QUE_PUSH_W_WORD m 2) w2.toNat).wr
    (Fd.QUE_PUSH_W_WORD m 3) w3.toNat

/-- An operation of push port n of the fabric (R190): taken at an edge of its clock while the port is connected and READY; READY stands at 0, and STATUS, STAGED and
STATUS_VALID are shown, until the port's clock has seen them. -/
def fabPush (op n q : Nat) (e : Ev) (s : State) : State :=
  let x := mapGet pushZero s.fab.push n
  if !portOn s n || x.busy then s
  else
    let r := portOp op (16 + n) q e s
    let t := r.2
    { t with fab := { t.fab with push := mapPut t.fab.push n ⟨true, true, r.1, stagedOf t q⟩ } }.ret r.1

/-- A port operation (R80): 0 PUSH, 1 PUSH_COMMIT, 2 COMMIT, 3 ABORT, by a port (8 to 10 report in QUE_PUSH_STAT), or by a scribe. -/
def pushBy (op : Nat) (src : PushSrc) (s : State) : State :=
  match src with
  | .port p q w0 w1 w2 w3 =>
    if 8 ≤ p ∧ p ≤ 10 then hostPush (p - 8) q op (hostWords (p - 8) w0 w1 w2 w3 s)
    else
      if 16 ≤ p ∧ p ≤ 23 then fabPush op (p - 16) q (evOf w0 w1 w2 w3) s
      else
        let r := portOp op p q (evOf w0 w1 w2 w3) s
        r.2.ret r.1
  | .scribe p rd ra rb => scrIssue p (wordR 0x22 rd ra rb op) (scrPush op p rd ra rb (wordR 0x22 rd ra rb op)) s

/-- PUSH (R80): A producer port, or a scribe PUSH instruction, checks one event against Table 4.5 and stages it at SIDX. -/
def execPush (src : PushSrc) (s : State) : Host.Outcome State Fault Refusal :=
  engRun (pushBy 0 src) s

/-- PUSH_COMMIT (R80): A PUSH followed by a COMMIT that takes place only if the push passed. -/
def execPushCommit (src : PushSrc) (s : State) : Host.Outcome State Fault Refusal :=
  engRun (pushBy 1 src) s

/-- COMMIT (R80): PIDX is set to SIDX, so the staged batch becomes visible. -/
def execCommit (src : PushSrc) (s : State) : Host.Outcome State Fault Refusal :=
  engRun (pushBy 2 src) s

/-- ABORT (R80): SIDX is set to PIDX, discarding the staged events. -/
def execAbort (src : PushSrc) (s : State) : Host.Outcome State Fault Refusal :=
  engRun (pushBy 3 src) s

/-- INIT (R97): QUE_CMD INIT creates a DISABLED queue as PAUSED from QUE_INIT_CFG0 and QUE_INIT_CFG1. -/
def execQueInit (q : Nat) (s : State) : Host.Outcome State Fault Refusal :=
  sysRun (queCmd q (queInit q)) s

/-- RESUME (R97): QUE_CMD RESUME makes a PAUSED queue RUNNING, or halts it on a stale or uncorrectable head; it also resumes cause-6 halts. -/
def execQueResume (q : Nat) (s : State) : Host.Outcome State Fault Refusal :=
  sysRun (queCmd q (queResume q)) s

/-- PAUSE (R97): QUE_CMD PAUSE pauses a RUNNING queue and retracts its unlocked nibs. -/
def execQuePause (q : Nat) (s : State) : Host.Outcome State Fault Refusal :=
  sysRun (queCmd q (quePause q)) s

/-- SKIP (R102): QUE_CMD SKIP retires the head of a queue HALTED with cause 4, 5 or 7 and pauses the queue. -/
def execQueSkip (q : Nat) (s : State) : Host.Outcome State Fault Refusal :=
  sysRun (queCmd q (queSkip q)) s

/-- DISABLE (R97): QUE_CMD DISABLE retracts the queue's nibs, waits for ARMED 0, frees the granules and discards events. -/
def execQueDisable (q : Nat) (s : State) : Host.Outcome State Fault Refusal :=
  sysRun (queCmd q (queDisable q)) s

/-- REPAIR (R102): QUE_CMD REPAIR rewrites the faulty head entry from QUE_REPAIR_W after order checks and pauses the queue. -/
def execQueRepair (q : Nat) (s : State) : Host.Outcome State Fault Refusal :=
  sysRun (queCmd q (queRepair q)) s

/-- SET_LATE (R97): QUE_CMD SET_LATE sets the queue's late policy. -/
def execQueSetLate (q : Nat) (late : Nat) (s : State) : Host.Outcome State Fault Refusal :=
  sysRun (queCmd q (queSetLate q late)) s

/-- BAR_OPEN (R93): QUE_CMD BAR_OPEN retires every arrived entry of a barrier and sets ARRIVED to 0. -/
def execQueBarOpen (q : Nat) (b : Nat) (s : State) : Host.Outcome State Fault Refusal :=
  sysRun (queCmd q (queBarOpen b)) s

/-- QUE_DRAIN_DONE (R98): ARMED of a pausing or disabling queue reaches 0 and the command completes with its status. -/
def execQueDrainDone (s : State) : Host.Outcome State Fault Refusal :=
  engRun drainDone s

/-- STALE_HEAD_SWEEP (R95): The select stage visits one queue every 16 ticks and halts it with cause 7 if its head fails the angle window. -/
def execStaleHeadSweep (s : State) : Host.Outcome State Fault Refusal :=
  engRun sweepStep s

/-- BARRIER_OPENING (R93): A barrier whose ARRIVED reaches NEED opens; arrived entries are retired and ARRIVED decreases by NEED. -/
def execBarrierOpening (b : Nat) (s : State) : Host.Outcome State Fault Refusal :=
  engRun (barrierOpening b) s

/-- GROUP_ENABLE_WRITE (R100): A write to QUE_GROUP_EN enables or disables groups; disabling retracts their armed events. -/
def execGroupEnableWrite (v : W64) (s : State) : Host.Outcome State Fault Refusal :=
  sysRun (groupEnable v.toNat) s

/-- CRING_ENABLE (R101): Setting EN in QUE_CRING_CFG allocates the completion ring and empties it, or sets CRING_REFUSED. -/
def execCringEnable (g : Nat) (base : Nat) (log2len : Nat) (s : State) : Host.Outcome State Fault Refusal :=
  sysRun (cringEnable g base log2len) s

/-- COMPLETION_RECORD (R101): A completion record is written into the group's ring within 64 ticks of its outcome, or discarded when the ring is full. -/
def execCompletionRecord (s : State) : Host.Outcome State Fault Refusal :=
  engRun completionRecord s

/-- HALT_LOG_READ (R102): A read of the low word of QUE_HALT_LOG returns and removes the entry shown. -/
def execHaltLogRead (s : State) : Host.Outcome State Fault Refusal :=
  sysRun (fun s => (haltLogRead s).2.ret (haltLogRead s).1) s

end Sys2Proof.Machine
end

