-- ==== Sys2Proof/Machine/ExecSaf.lean ====
section
/-! DEFINITION. The meanings of the commands of family Saf, one definition for each command. -/
namespace Sys2Proof.Machine

open Sys2Proof

/-- FAULT_INPUT (R344): A safety fault input is raised and latched, and acts by its class as a SAFE, LIMITED or REPORT cause. -/
def execFaultInput (i : Nat) (s : State) : Host.Outcome State Fault Refusal :=
  clockedRun (faultInput i) s

/-- FAULT_ACK (R346): A 1 written to a SAF_FAULT bit acknowledges and clears an inactive cause. -/
def execFaultAck (mask : Nat) (s : State) : Host.Outcome State Fault Refusal :=
  sysRun (faultAck mask) s

/-- SAF_LOCK_WRITE (R347): A write of LOCK 1 freezes the safety configuration until reset. -/
def execSafLockWrite (v : Nat) (s : State) : Host.Outcome State Fault Refusal :=
  sysRun (fun s => if s.saf.lockUsed || s.rdB Fd.SAF_LOCK_LOCK then s else safLock v s) s

/-- REGULATOR_MONITOR_TRIP (R348): A regulator monitor finds a rail outside its window and raises input 36. -/
def execRegulatorMonitorTrip (s : State) : Host.Outcome State Fault Refusal :=
  clockedRun (faultInput 36) s

/-- CLOCK_MONITOR_TRIP (R348): A clock monitor finds a missing or off-frequency clock and raises input 37. -/
def execClockMonitorTrip (s : State) : Host.Outcome State Fault Refusal :=
  clockedRun (faultInput 37) s

/-- PATH_MONITOR_TEST (R348): The reaction-path and monitor test runs every 100 ms, and a failure raises input 44. -/
def execPathMonitorTest (pass : Bool) (s : State) : Host.Outcome State Fault Refusal :=
  clockedRun (pathTest pass) s

/-- READBACK_MISMATCH (R350): A safe pin's level differs from its driven level for 1 µs, which raises input 39. -/
def execReadbackMismatch (path : Nat) (level : Bool) (s : State) : Host.Outcome State Fault Refusal :=
  clockedRun (readback path level) s

/-- GRACE_EXPIRY (R351): GRACE ms after LIMITED entry the speed check begins. -/
def execGraceExpiry (s : State) : Host.Outcome State Fault Refusal :=
  engRun graceOver s

/-- WDG_KICK (R352): A write to SAF_WDG_KICK services the watchdog, or is a watchdog fault if early or carrying a wrong key. -/
def execWdgKick (key : Nat) (master : Nat) (s : State) : Host.Outcome State Fault Refusal :=
  busRun master (wdgKick key master) s

/-- WDG_WINDOW_OPEN (R353): The watchdog count reaches OPEN and source 397 is raised. -/
def execWdgWindowOpen (s : State) : Host.Outcome State Fault Refusal :=
  engRun wdgOpen s

/-- WDG_EXPIRY (R352): The watchdog count reaches CLOSE, which is a watchdog fault. -/
def execWdgExpiry (s : State) : Host.Outcome State Fault Refusal :=
  engRun wdgExpire s

/-- RAIL_WITHIN_WINDOW (R343): Every rail is again within its monitor window, and input 36 stops being active so its cause can be acknowledged. -/
def execRailWithinWindow (s : State) : Host.Outcome State Fault Refusal :=
  clockedRun (safEnd 36) s

/-- CLOCK_WITHIN_WINDOW (R343): Every monitored clock is again within its window, and input 37 stops being active so its cause can be acknowledged. -/
def execClockWithinWindow (s : State) : Host.Outcome State Fault Refusal :=
  clockedRun (safEnd 37) s

end Sys2Proof.Machine
end

