-- ==== Sys2Proof/Machine/ExecScr.lean ====
section
/-! DEFINITION. The meanings of the commands of family Scr, one definition for each command. -/
namespace Sys2Proof.Machine

open Sys2Proof

/-- START (R154): SCR_CMD START checks the comparator and starts a STOPPED pair at SCR_PC. -/
def execScrStart (p : Nat) (pass : Bool) (s : State) : Host.Outcome State Fault Refusal :=
  sysRun (scrStart p pass) s

/-- STOP (R154): SCR_CMD STOP stops a running or debugged pair at the next boundary. -/
def execScrStop (p : Nat) (s : State) : Host.Outcome State Fault Refusal :=
  sysRun (scrStopCmd p) s

/-- RESET (R154): SCR_CMD RESET clears a stopped or failed pair's registers and sets SCR_PC to its initial address. -/
def execScrReset (p : Nat) (s : State) : Host.Outcome State Fault Refusal :=
  sysRun (scrReset p) s

/-- FC_INVAL (R156): SCR_CMD FC_INVAL invalidates the whole fetch cache of one pair. -/
def execFcInval (p : Nat) (s : State) : Host.Outcome State Fault Refusal :=
  sysRun (scrInval p) s

/-- LOCKSTEP_MISMATCH (R152): The comparator finds a mismatch; the pair stops and becomes FAILED, and its queues halt with cause 6. -/
def execLockstepMismatch (p : Nat) (s : State) : Host.Outcome State Fault Refusal :=
  engRun (scrMismatch p) s

/-- FETCH_CACHE_REFILL (R156): A fetch-cache miss refills one line from user flash when the array is free. -/
def execFetchCacheRefill (p : Nat) (addr : Nat) (drop : Bool) (s : State) : Host.Outcome State Fault Refusal :=
  engRun (refillDone p addr drop) s

/-- PFETCH_BURST (R165): A pattern-fetch burst arrives and is written into data RAM, poisoned if uncorrectable. -/
def execPfetchBurst (p : Nat) (tag : Nat) (s : State) : Host.Outcome State Fault Refusal :=
  engRun (fetchBurst p tag) s

/-- WAIT_CONDITION (R166): A doorbell, fetch or angle condition comes to hold and ends a WAIT. -/
def execWaitCondition (p : Nat) (s : State) : Host.Outcome State Fault Refusal :=
  engRun (scrPoll p false) s

/-- WAIT_TIMEOUT (R166): WAIT_TMO cycles pass and end a WAIT. -/
def execWaitTimeout (p : Nat) (s : State) : Host.Outcome State Fault Refusal :=
  engRun (scrPoll p true) s

/-- DEBUG_HALT (R170): SCR_DBG_CTRL HALT moves the pair to DEBUG at the next boundary. -/
def execDebugHalt (p : Nat) (bp0 : Bool) (bp1 : Bool) (s : State) : Host.Outcome State Fault Refusal :=
  sysRun (dbgCtrl (p + b2n bp0 * 2 ^ 16 + b2n bp1 * 2 ^ 17 + 2 ^ 8)) s

/-- DEBUG_STEP (R170): SCR_DBG_CTRL STEP executes one instruction, or one push of XPUSH, in DEBUG. -/
def execDebugStep (p : Nat) (bp0 : Bool) (bp1 : Bool) (s : State) : Host.Outcome State Fault Refusal :=
  sysRun (dbgCtrl (p + b2n bp0 * 2 ^ 16 + b2n bp1 * 2 ^ 17 + 2 ^ 9)) s

/-- DEBUG_RESUME (R170): SCR_DBG_CTRL RESUME returns the pair from DEBUG to RUNNING. -/
def execDebugResume (p : Nat) (bp0 : Bool) (bp1 : Bool) (s : State) : Host.Outcome State Fault Refusal :=
  sysRun (dbgCtrl (p + b2n bp0 * 2 ^ 16 + b2n bp1 * 2 ^ 17 + 2 ^ 10)) s

/-- BREAKPOINT (R170): An enabled breakpoint halts the pair into DEBUG before the instruction at its address executes. -/
def execBreakpoint (p : Nat) (s : State) : Host.Outcome State Fault Refusal :=
  engRun (scrBreakpoint p) s

/-- DEBUG_REG_WRITE (R170): A write of SCR_DBG_REG_DATA in DEBUG is applied to both scribes. -/
def execDebugRegWrite (v : Nat) (s : State) : Host.Outcome State Fault Refusal :=
  sysRun (dbgRegWrite v) s

end Sys2Proof.Machine
end

