-- ==== Sys2Proof/Machine/ExecSys.lean ====
section
/-! DEFINITION. The meanings of the commands of family Sys, one definition for each command. -/
namespace Sys2Proof.Machine

open Sys2Proof

/-- POWER_ON (R395): VIN rises through 2.65 V, starting a power-on reset and the start-up timeline. -/
def execPowerOn (s : State) : Host.Outcome State Fault Refusal :=
  nx (powerOnReset s)

/-- BROWN_OUT (R21): VIN falls below 2.55 V for 1 µs or longer; outputs go safe and the device enters LOAD and holds reset. -/
def execBrownOut (s : State) : Host.Outcome State Fault Refusal :=
  nx (brownOut s)

/-- RESET_N (R21): RESET_N is held low for at least 1 µs, giving a cold reset to LOAD; the timeline runs from its release.
Without VCCIO6 the pin reads deasserted (R382). -/
def execResetN (s : State) : Host.Outcome State Fault Refusal :=
  nx (coldReset s)

/-- FREEZE_N (R378): FREEZE_N is held low for at least 1 µs; the device enters FROZEN with safe pins and all clocks except AON stopped.
Without VCCIO6 the pin reads deasserted (R382). -/
def execFreezeN (s : State) : Host.Outcome State Fault Refusal :=
  nx (if 6 ∈ s.pwr.absent then s else freeze s)

/-- WARM_RESET (R21): A write to SYS_RESET_CMD with WARM 1 and key 0x6B5D starts a warm reset to LOAD. -/
def execWarmReset (v : Nat) (s : State) : Host.Outcome State Fault Refusal :=
  sysRun (resetCmd v) s

/-- PLL_LOCK (R322): The regulators reach regulation and the PLLs lock, ending the first start-up or wake phase. -/
def execPllLock (s : State) : Host.Outcome State Fault Refusal :=
  clockedRun pllLock s

/-- PLL_LOCK_RETRY (R26): A PLL that has not locked within 200 µs is retried every 1 ms while LOAD is held. -/
def execPllLockRetry (which : Nat) (s : State) : Host.Outcome State Fault Refusal :=
  clockedRun (pllRetry which) s

/-- PIN_SETTLE (R199): Every pin takes the values of the newest valid safe-state row copy. -/
def execPinSettle (s : State) : Host.Outcome State Fault Refusal :=
  clockedRun pinSettle s

/-- LCS_VOTE (R365): The life-cycle vote decides the state, completes a close or resumes scrapping, and checks the key slots; the device then enters SELFTEST. -/
def execLcsVote (s : State) : Host.Outcome State Fault Refusal :=
  clockedRun voteDone s

/-- STARTUP_TEST_END (R21): The start-up checker patterns and configuration-plane march end; image load begins on a pass and SAFE follows a fail. -/
def execStartupTestEnd (chk : Nat) (marchFail : Bool) (s : State) : Host.Outcome State Fault Refusal :=
  clockedRun (startTestEnd chk marchFail) s

/-- MANIFEST_AUTH (R196): Authentication of a bank's manifest completes; it selects the committed bank or the fallback bank, or ends the load in SAFE. -/
def execManifestAuth (s : State) : Host.Outcome State Fault Refusal :=
  clockedRun authEnd s

/-- SECTOR_STREAM_END (R201): A sector or tail stream ends and its hash is compared; a mismatch is retried once and a second failure ends the load in SAFE. -/
def execSectorStreamEnd (slot : Nat) (disturbed : Bool) (s : State) : Host.Outcome State Fault Refusal :=
  clockedRun (loadStreamEnd slot disturbed) s

/-- LOAD_RELEASE (R274): Defaults are applied from their source chain, INIT values are taken, the level is set, user logic is released and the mode becomes STANDBY. -/
def execLoadRelease (s : State) : Host.Outcome State Fault Refusal :=
  clockedRun loadRelease s

/-- RETENTION_CHECK (R334): The CRC and sequence number of each retained RAM region are checked, and any failed region is recovered. -/
def execRetentionCheck (s : State) : Host.Outcome State Fault Refusal :=
  clockedRun retentionCheck s

/-- FABRIC_DEFAULTS_DONE (R279): The fabric defaults have been written through the dictionary port; FABRIC_DONE is set and the boot-up message follows. -/
def execFabricDefaultsDone (s : State) : Host.Outcome State Fault Refusal :=
  sysRun fabricDone s

/-- MODE_REQ_SELFTEST (R21): SYS_MODE_REQ TARGET 1 requests a commanded self-test from STANDBY. -/
def execModeReqSelftest (s : State) : Host.Outcome State Fault Refusal :=
  sysRun (modeReq 1 0) s

/-- MODE_REQ_STANDBY (R21): SYS_MODE_REQ TARGET 2 moves RUN or LIMITED to STANDBY with retraction, or leaves SAFE once all causes are acknowledged. -/
def execModeReqStandby (s : State) : Host.Outcome State Fault Refusal :=
  sysRun (modeReq 2 0) s

/-- MODE_REQ_RUN (R21): SYS_MODE_REQ TARGET 3 starts RUN or LIMITED from STANDBY, or returns LIMITED to RUN. -/
def execModeReqRun (s : State) : Host.Outcome State Fault Refusal :=
  sysRun (modeReq 3 0) s

/-- MODE_REQ_SAFE (R21): SYS_MODE_REQ TARGET 5 enters SAFE. -/
def execModeReqSafe (s : State) : Host.Outcome State Fault Refusal :=
  sysRun (modeReq 5 0) s

/-- MODE_REQ_SLEEP (R327): SYS_MODE_REQ TARGET 6 with SLEEP_SEL requests a sleep state; it is judged at AP1, sets the mode to SLEEP and flushes moderation. -/
def execModeReqSleep (sel : Nat) (s : State) : Host.Outcome State Fault Refusal :=
  sysRun (modeReq 6 sel) s

/-- SLEEP_ABORT_POINT (R327): Sleep entry reaches AP2, AP3 or AP4 after the preceding phase, judges the idle conditions and either continues or is abandoned. -/
def execSleepAbortPoint (s : State) : Host.Outcome State Fault Refusal :=
  clockedRun abortPoint s

/-- SLEEP_ENTRY_DONE (R328): The power-down phase of the chosen sleep state completes. -/
def execSleepEntryDone (s : State) : Host.Outcome State Fault Refusal :=
  clockedRun entryDone s

/-- SELFTEST_END (R361): The commanded self-test ends; the device returns to STANDBY on a pass or enters SAFE on a fail. -/
def execSelftestEnd (failPhase : Nat) (chk : Nat) (s : State) : Host.Outcome State Fault Refusal :=
  sysRun (selfTestOver failPhase chk) s

/-- STANDBY_OUTPUTS_SAFE (R144): After the last locked nib has fired on a move to STANDBY, trailing edges are cancelled, pins go to safe values and frames are abandoned. -/
def execStandbyOutputsSafe (s : State) : Host.Outcome State Fault Refusal :=
  engRun standbyDone s

/-- NMT_START_REMOTE_NODE (R286): An NMT Start Remote Node request is handled as the start trigger of Table 1.6. -/
def execNmtStartRemoteNode (s : State) : Host.Outcome State Fault Refusal :=
  sysRun nmtStart s

/-- NMT_ENTER_PRE_OPERATIONAL (R286): An NMT Enter Pre-operational request is handled as the STANDBY trigger of Table 1.6. -/
def execNmtEnterPreOperational (s : State) : Host.Outcome State Fault Refusal :=
  sysRun nmtPreOp s

/-- NMT_STOP_REMOTE_NODE (R286): An NMT Stop Remote Node request enters SAFE. -/
def execNmtStopRemoteNode (s : State) : Host.Outcome State Fault Refusal :=
  sysRun nmtStop s

/-- NMT_RESET_NODE (R286): An NMT Reset Node request starts a warm reset. -/
def execNmtResetNode (s : State) : Host.Outcome State Fault Refusal :=
  sysRun nmtResetNode s

/-- NMT_RESET_COMMUNICATION (R286): An NMT Reset Communication request reapplies the communication objects and NET_CFG and sends the boot-up message. -/
def execNmtResetCommunication (s : State) : Host.Outcome State Fault Refusal :=
  sysRun nmtResetComm s

/-- REGISTER_WRITE (R7): A system-bus or dictionary write reaches a register that has no row of its own and takes effect under its access codes and write conditions. -/
def execRegisterWrite (addr : Nat) (size : Nat) (value : Nat) (master : Nat) (s : State) : Host.Outcome State Fault Refusal :=
  busRun master (fun s => (busWrite addr size value master s).2) s

/-- RESET_N_RELEASE (R21): RESET_N returns high after a cold reset, and the start-up timeline begins from that release. -/
def execResetNRelease (s : State) : Host.Outcome State Fault Refusal :=
  nx (resetRelease s)

/-- RC_FIELD_READ (R7): A read of an rc field returns its value and clears it in the same access. -/
def execRcFieldRead (addr : Nat) (size : Nat) (master : Nat) (s : State) : Host.Outcome State Fault Refusal :=
  busRun master (fun s => (busRead addr size master s).2) s

end Sys2Proof.Machine
end

