-- ==== Sys2Proof/Machine/ExecUfl.lean ====
section
/-! DEFINITION. The meanings of the commands of family Ufl, one definition for each command. -/
namespace Sys2Proof.Machine

open Sys2Proof

/-- UFL_ERASE_BLOCK (R259): UFL_CMD ERASE_BLOCK erases a user-flash block under the erase-incomplete marker. -/
def execUflEraseBlock (master : Nat) (s : State) : Host.Outcome State Fault Refusal :=
  busRun master (uflErase master) s

/-- UFL_PROGRAM_PAGE (R257): UFL_CMD PROGRAM_PAGE programs a page from UFL_PAGE_BUF after its checks. -/
def execUflProgramPage (master : Nat) (s : State) : Host.Outcome State Fault Refusal :=
  busRun master (uflProgram master) s

/-- COMPARE_PAGE (R258): UFL_CMD COMPARE_PAGE compares a page with UFL_PAGE_BUF and sets EQUAL. -/
def execComparePage (master : Nat) (s : State) : Host.Outcome State Fault Refusal :=
  busRun master (uflCompare master) s

/-- BLANK_CHECK (R256): UFL_CMD BLANK_CHECK sets EQUAL when the block is fully erased with no flag set. -/
def execBlankCheck (master : Nat) (s : State) : Host.Outcome State Fault Refusal :=
  busRun master (uflBlank master) s

/-- UFL_CMD_DONE (R257): A user-flash operation ends and reports its status after invalidating cache lines. -/
def execUflCmdDone (s : State) : Host.Outcome State Fault Refusal :=
  sysRun uflCmdDone s

/-- XO_WRITE (R262): A rw-once write of UFL_XO defines an execute-only region, or is refused. -/
def execXoWrite (i : Nat) (v : Nat) (s : State) : Host.Outcome State Fault Refusal :=
  sysRun (fun s => if s.ufl.xoUsed.contains i then s else xoWrite i v s) s

/-- STORE (R280): A write of "save" to 0x1010 sub 0x01 starts a dictionary store snapshot. -/
def execStoreAll (client : Nat) (tag : Nat) (s : State) : Host.Outcome State Fault Refusal :=
  sysRun (dictCommand client tag 0x1010 1 (toBytes 4 0x65766173)) s

/-- RESTORE (R281): A write of "load" to 0x1011 sub 0x01 writes a void snapshot and invalidates the retained region. -/
def execRestoreAll (client : Nat) (tag : Nat) (s : State) : Host.Outcome State Fault Refusal :=
  sysRun (dictCommand client tag 0x1011 1 (toBytes 4 0x64616F6C)) s

/-- STORE_DONE (R267): A store or restore finishes writing and confirming its snapshot, or fails, and reports its status. -/
def execStoreDone (fail : Option Nat) (s : State) : Host.Outcome State Fault Refusal :=
  sysRun (storeDone fail) s

/-- RETAINED_UPDATE (R277): A changed ret field is copied into its retained record with SEQ and CRC within 2 µs. -/
def execRetainedUpdate (s : State) : Host.Outcome State Fault Refusal :=
  sysRun retStep s

/-- REGION_REWRITE (R277): After more than 32 waiting updates, the whole dictionary region is rewritten within 10 ms. -/
def execRegionRewrite (s : State) : Host.Outcome State Fault Refusal :=
  sysRun regionRewrite s

end Sys2Proof.Machine
end

