-- ==== Sys2Proof/Machine/Dispatch.lean ====
section
/-! DEFINITION. The meaning of every command, one arm for each. -/
namespace Sys2Proof.Machine

open Sys2Proof

/-- The effect of a command on everything but the queue. -/
def exec (i : Instr) (s : State) : Host.Outcome State Fault Refusal :=
  match i with
  | .powerOn => Sys2Proof.Machine.execPowerOn s
  | .brownOut => Sys2Proof.Machine.execBrownOut s
  | .resetN => Sys2Proof.Machine.execResetN s
  | .freezeN => Sys2Proof.Machine.execFreezeN s
  | .warmReset v => Sys2Proof.Machine.execWarmReset v s
  | .pllLock => Sys2Proof.Machine.execPllLock s
  | .pllLockRetry which => Sys2Proof.Machine.execPllLockRetry which s
  | .pinSettle => Sys2Proof.Machine.execPinSettle s
  | .lcsVote => Sys2Proof.Machine.execLcsVote s
  | .startupTestEnd chk marchFail => Sys2Proof.Machine.execStartupTestEnd chk marchFail s
  | .manifestAuth => Sys2Proof.Machine.execManifestAuth s
  | .sectorStreamEnd slot disturbed => Sys2Proof.Machine.execSectorStreamEnd slot disturbed s
  | .loadRelease => Sys2Proof.Machine.execLoadRelease s
  | .retentionCheck => Sys2Proof.Machine.execRetentionCheck s
  | .fabricDefaultsDone => Sys2Proof.Machine.execFabricDefaultsDone s
  | .modeReqSelftest => Sys2Proof.Machine.execModeReqSelftest s
  | .modeReqStandby => Sys2Proof.Machine.execModeReqStandby s
  | .modeReqRun => Sys2Proof.Machine.execModeReqRun s
  | .modeReqSafe => Sys2Proof.Machine.execModeReqSafe s
  | .modeReqSleep sel => Sys2Proof.Machine.execModeReqSleep sel s
  | .sleepAbortPoint => Sys2Proof.Machine.execSleepAbortPoint s
  | .sleepEntryDone => Sys2Proof.Machine.execSleepEntryDone s
  | .selftestEnd failPhase chk => Sys2Proof.Machine.execSelftestEnd failPhase chk s
  | .standbyOutputsSafe => Sys2Proof.Machine.execStandbyOutputsSafe s
  | .nmtStartRemoteNode => Sys2Proof.Machine.execNmtStartRemoteNode s
  | .nmtEnterPreOperational => Sys2Proof.Machine.execNmtEnterPreOperational s
  | .nmtStopRemoteNode => Sys2Proof.Machine.execNmtStopRemoteNode s
  | .nmtResetNode => Sys2Proof.Machine.execNmtResetNode s
  | .nmtResetCommunication => Sys2Proof.Machine.execNmtResetCommunication s
  | .registerWrite addr size value master => Sys2Proof.Machine.execRegisterWrite addr size value master s
  | .memoryRead loc master => Sys2Proof.Machine.execMemoryRead loc master s
  | .memoryWrite loc data master => Sys2Proof.Machine.execMemoryWrite loc data master s
  | .narrowWrite loc data master => Sys2Proof.Machine.execNarrowWrite loc data master s
  | .mergeFlush m => Sys2Proof.Machine.execMergeFlush m s
  | .writeBack m => Sys2Proof.Machine.execWriteBack m s
  | .scrubRead m => Sys2Proof.Machine.execScrubRead m s
  | .scrubCorrectWrite => Sys2Proof.Machine.execScrubCorrectWrite s
  | .scrubPassLate m => Sys2Proof.Machine.execScrubPassLate m s
  | .bitSet bank off size data master => Sys2Proof.Machine.execBitSet bank off size data master s
  | .bitClear bank off size data master => Sys2Proof.Machine.execBitClear bank off size data master s
  | .atomicAdd bank off size data master => Sys2Proof.Machine.execAtomicAdd bank off size data master s
  | .atomicSwap bank off size data master => Sys2Proof.Machine.execAtomicSwap bank off size data master s
  | .ownerChange bank owner master => Sys2Proof.Machine.execOwnerChange bank owner master s
  | .ownerChangeDone bank => Sys2Proof.Machine.execOwnerChangeDone bank s
  | .memInjArm addr m mask => Sys2Proof.Machine.execMemInjArm addr m mask s
  | .memInjDisarm => Sys2Proof.Machine.execMemInjDisarm s
  | .remapPromote tbl bank k name => Sys2Proof.Machine.execRemapPromote tbl bank k name s
  | .remapRelease tbl bank k => Sys2Proof.Machine.execRemapRelease tbl bank k s
  | .xmcInit => Sys2Proof.Machine.execXmcInit s
  | .xmcTrainingDone ok => Sys2Proof.Machine.execXmcTrainingDone ok s
  | .sdramRead loc master => Sys2Proof.Machine.execSdramRead loc master s
  | .sdramWrite loc data mask master => Sys2Proof.Machine.execSdramWrite loc data mask master s
  | .sdramRefresh => Sys2Proof.Machine.execSdramRefresh s
  | .patrolLine => Sys2Proof.Machine.execPatrolLine s
  | .patrolPassLate => Sys2Proof.Machine.execPatrolPassLate s
  | .fill line lines pat => Sys2Proof.Machine.execFill line lines pat s
  | .fillDone => Sys2Proof.Machine.execFillDone s
  | .mark rank dev => Sys2Proof.Machine.execMark rank dev s
  | .unmark rank dev => Sys2Proof.Machine.execUnmark rank dev s
  | .patrolRestart => Sys2Proof.Machine.execPatrolRestart s
  | .xmcInjArm line devA devB two => Sys2Proof.Machine.execXmcInjArm line devA devB two s
  | .xmcInjDisarm => Sys2Proof.Machine.execXmcInjDisarm s
  | .dmaStart n => Sys2Proof.Machine.execDmaStart n s
  | .dmaStop n => Sys2Proof.Machine.execDmaStop n s
  | .dmaClear n => Sys2Proof.Machine.execDmaClear n s
  | .dmaBurst n answers => Sys2Proof.Machine.execDmaBurst n answers s
  | .dmaDescriptorEnd n answers => Sys2Proof.Machine.execDmaDescriptorEnd n answers s
  | .encoderEdge k a b => Sys2Proof.Machine.execEncoderEdge k a b s
  | .zIndex k => Sys2Proof.Machine.execZIndex k s
  | .lossOfSignal k lost => Sys2Proof.Machine.execLossOfSignal k lost s
  | .adcSample k sn cs => Sys2Proof.Machine.execAdcSample k sn cs s
  | .adcConversionDone k => Sys2Proof.Machine.execAdcConversionDone k s
  | .estimateUpdate => Sys2Proof.Machine.execEstimateUpdate s
  | .stopTimeout k => Sys2Proof.Machine.execStopTimeout k s
  | .tblSwap k => Sys2Proof.Machine.execTblSwap k s
  | .learnStart ch ref revs => Sys2Proof.Machine.execLearnStart ch ref revs s
  | .learnDone => Sys2Proof.Machine.execLearnDone s
  | .statStart ch log2n => Sys2Proof.Machine.execStatStart ch log2n s
  | .statDone => Sys2Proof.Machine.execStatDone s
  | .alignChk => Sys2Proof.Machine.execAlignChk s
  | .cprWrite k cpr => Sys2Proof.Machine.execCprWrite k cpr s
  | .afeCfgWrite off value master => Sys2Proof.Machine.execAfeCfgWrite off value master s
  | .fineSnapshot k master => Sys2Proof.Machine.execFineSnapshot k master s
  | .push src => Sys2Proof.Machine.execPush src s
  | .pushCommit src => Sys2Proof.Machine.execPushCommit src s
  | .commit src => Sys2Proof.Machine.execCommit src s
  | .abort src => Sys2Proof.Machine.execAbort src s
  | .queInit q => Sys2Proof.Machine.execQueInit q s
  | .queResume q => Sys2Proof.Machine.execQueResume q s
  | .quePause q => Sys2Proof.Machine.execQuePause q s
  | .queSkip q => Sys2Proof.Machine.execQueSkip q s
  | .queDisable q => Sys2Proof.Machine.execQueDisable q s
  | .queRepair q => Sys2Proof.Machine.execQueRepair q s
  | .queSetLate q late => Sys2Proof.Machine.execQueSetLate q late s
  | .queBarOpen q b => Sys2Proof.Machine.execQueBarOpen q b s
  | .queDrainDone => Sys2Proof.Machine.execQueDrainDone s
  | .staleHeadSweep => Sys2Proof.Machine.execStaleHeadSweep s
  | .barrierOpening b => Sys2Proof.Machine.execBarrierOpening b s
  | .groupEnableWrite v => Sys2Proof.Machine.execGroupEnableWrite v s
  | .cringEnable g base log2len => Sys2Proof.Machine.execCringEnable g base log2len s
  | .completionRecord => Sys2Proof.Machine.execCompletionRecord s
  | .haltLogRead => Sys2Proof.Machine.execHaltLogRead s
  | .selectTick => Sys2Proof.Machine.execSelectTick s
  | .nibArm => Sys2Proof.Machine.execNibArm s
  | .retime k => Sys2Proof.Machine.execRetime k s
  | .descriptorRestore => Sys2Proof.Machine.execDescriptorRestore s
  | .guardTick => Sys2Proof.Machine.execGuardTick s
  | .fire => Sys2Proof.Machine.execFire s
  | .trailingEdge => Sys2Proof.Machine.execTrailingEdge s
  | .echoApply => Sys2Proof.Machine.execEchoApply s
  | .delayWrite chan n v => Sys2Proof.Machine.execDelayWrite chan n v s
  | .reseed c => Sys2Proof.Machine.execReseed c s
  | .nibRecordRead k => Sys2Proof.Machine.execNibRecordRead k s
  | .frameCut st => Sys2Proof.Machine.execFrameCut st s
  | .stringShiftEnd st sdi => Sys2Proof.Machine.execStringShiftEnd st sdi s
  | .stringLatch st => Sys2Proof.Machine.execStringLatch st s
  | .safeImageLatch st sdi => Sys2Proof.Machine.execSafeImageLatch st sdi s
  | .echoEdge u samples rising => Sys2Proof.Machine.execEchoEdge u samples rising s
  | .echoTimeout u => Sys2Proof.Machine.execEchoTimeout u s
  | .chnBindWrite word n v => Sys2Proof.Machine.execChnBindWrite word n v s
  | .scrStart p pass => Sys2Proof.Machine.execScrStart p pass s
  | .scrStop p => Sys2Proof.Machine.execScrStop p s
  | .scrReset p => Sys2Proof.Machine.execScrReset p s
  | .fcInval p => Sys2Proof.Machine.execFcInval p s
  | .lockstepMismatch p => Sys2Proof.Machine.execLockstepMismatch p s
  | .fetchCacheRefill p addr drop => Sys2Proof.Machine.execFetchCacheRefill p addr drop s
  | .sAdd p rd ra rb sat => Sys2Proof.Machine.execSAdd p rd ra rb sat s
  | .sSub p rd ra rb sat => Sys2Proof.Machine.execSSub p rd ra rb sat s
  | .sAddu p rd ra rb sat => Sys2Proof.Machine.execSAddu p rd ra rb sat s
  | .sSubu p rd ra rb sat => Sys2Proof.Machine.execSSubu p rd ra rb sat s
  | .sAnd p rd ra rb => Sys2Proof.Machine.execSAnd p rd ra rb s
  | .sOr p rd ra rb => Sys2Proof.Machine.execSOr p rd ra rb s
  | .sXor p rd ra rb => Sys2Proof.Machine.execSXor p rd ra rb s
  | .sAndn p rd ra rb => Sys2Proof.Machine.execSAndn p rd ra rb s
  | .sSll p rd ra rb => Sys2Proof.Machine.execSSll p rd ra rb s
  | .sSrl p rd ra rb => Sys2Proof.Machine.execSSrl p rd ra rb s
  | .sSra p rd ra rb => Sys2Proof.Machine.execSSra p rd ra rb s
  | .sRor p rd ra rb => Sys2Proof.Machine.execSRor p rd ra rb s
  | .sSlt p rd ra rb => Sys2Proof.Machine.execSSlt p rd ra rb s
  | .sSltu p rd ra rb => Sys2Proof.Machine.execSSltu p rd ra rb s
  | .sMin p rd ra rb => Sys2Proof.Machine.execSMin p rd ra rb s
  | .sMax p rd ra rb => Sys2Proof.Machine.execSMax p rd ra rb s
  | .sMinu p rd ra rb => Sys2Proof.Machine.execSMinu p rd ra rb s
  | .sMaxu p rd ra rb => Sys2Proof.Machine.execSMaxu p rd ra rb s
  | .sMul p rd ra rb => Sys2Proof.Machine.execSMul p rd ra rb s
  | .sMulh p rd ra rb => Sys2Proof.Machine.execSMulh p rd ra rb s
  | .sMulhu p rd ra rb => Sys2Proof.Machine.execSMulhu p rd ra rb s
  | .sClz p rd ra => Sys2Proof.Machine.execSClz p rd ra s
  | .sCtz p rd ra => Sys2Proof.Machine.execSCtz p rd ra s
  | .sPopc p rd ra => Sys2Proof.Machine.execSPopc p rd ra s
  | .sLoclr p rd ra => Sys2Proof.Machine.execSLoclr p rd ra s
  | .sBrev p rd ra => Sys2Proof.Machine.execSBrev p rd ra s
  | .sAwin p rd ra rb => Sys2Proof.Machine.execSAwin p rd ra rb s
  | .sAddm p rd ra rb => Sys2Proof.Machine.execSAddm p rd ra rb s
  | .sSubm p rd ra rb => Sys2Proof.Machine.execSSubm p rd ra rb s
  | .sAddi p rd ra imm => Sys2Proof.Machine.execSAddi p rd ra imm s
  | .sAndi p rd ra imm => Sys2Proof.Machine.execSAndi p rd ra imm s
  | .sOri p rd ra imm => Sys2Proof.Machine.execSOri p rd ra imm s
  | .sXori p rd ra imm => Sys2Proof.Machine.execSXori p rd ra imm s
  | .sLui p rd imm => Sys2Proof.Machine.execSLui p rd imm s
  | .sSlti p rd ra imm => Sys2Proof.Machine.execSSlti p rd ra imm s
  | .sSltiu p rd ra imm => Sys2Proof.Machine.execSSltiu p rd ra imm s
  | .sSlli p rd ra sh => Sys2Proof.Machine.execSSlli p rd ra sh s
  | .sSrli p rd ra sh => Sys2Proof.Machine.execSSrli p rd ra sh s
  | .sSrai p rd ra sh => Sys2Proof.Machine.execSSrai p rd ra sh s
  | .sShrr p rd ra sh rm => Sys2Proof.Machine.execSShrr p rd ra sh rm s
  | .sMulq p rd ra rb sh rm sat u => Sys2Proof.Machine.execSMulq p rd ra rb sh rm sat u s
  | .sMac p ra rb sat => Sys2Proof.Machine.execSMac p ra rb sat s
  | .sMsu p ra rb sat => Sys2Proof.Machine.execSMsu p ra rb sat s
  | .sMula p ra rb sat => Sys2Proof.Machine.execSMula p ra rb sat s
  | .sAccr p rd sh rm sat u => Sys2Proof.Machine.execSAccr p rd sh rm sat u s
  | .sAccl p rd => Sys2Proof.Machine.execSAccl p rd s
  | .sAcch p rd => Sys2Proof.Machine.execSAcch p rd s
  | .sAccw p ra => Sys2Proof.Machine.execSAccw p ra s
  | .sDiv p rd ra rb rm sat u => Sys2Proof.Machine.execSDiv p rd ra rb rm sat u s
  | .sLdw p rd ra imm => Sys2Proof.Machine.execSLdw p rd ra imm s
  | .sLdh p rd ra imm => Sys2Proof.Machine.execSLdh p rd ra imm s
  | .sLdhu p rd ra imm => Sys2Proof.Machine.execSLdhu p rd ra imm s
  | .sLdb p rd ra imm => Sys2Proof.Machine.execSLdb p rd ra imm s
  | .sLdbu p rd ra imm => Sys2Proof.Machine.execSLdbu p rd ra imm s
  | .sStw p rs ra imm => Sys2Proof.Machine.execSStw p rs ra imm s
  | .sSth p rs ra imm => Sys2Proof.Machine.execSSth p rs ra imm s
  | .sStb p rs ra imm => Sys2Proof.Machine.execSStb p rs ra imm s
  | .sBeq p ra rb off => Sys2Proof.Machine.execSBeq p ra rb off s
  | .sBne p ra rb off => Sys2Proof.Machine.execSBne p ra rb off s
  | .sBlt p ra rb off => Sys2Proof.Machine.execSBlt p ra rb off s
  | .sBge p ra rb off => Sys2Proof.Machine.execSBge p ra rb off s
  | .sBltu p ra rb off => Sys2Proof.Machine.execSBltu p ra rb off s
  | .sBgeu p ra rb off => Sys2Proof.Machine.execSBgeu p ra rb off s
  | .sJal p rd off => Sys2Proof.Machine.execSJal p rd off s
  | .sJalr p rd ra imm => Sys2Proof.Machine.execSJalr p rd ra imm s
  | .sRds p rd sel => Sys2Proof.Machine.execSRds p rd sel s
  | .sWrs p ra sel => Sys2Proof.Machine.execSWrs p ra sel s
  | .sXpush p rd ra rb t c => Sys2Proof.Machine.execSXpush p rd ra rb t c s
  | .sQfree p rd ra => Sys2Proof.Machine.execSQfree p rd ra s
  | .sPfetch p rd ra rb n => Sys2Proof.Machine.execSPfetch p rd ra rb n s
  | .pfetchBurst p tag => Sys2Proof.Machine.execPfetchBurst p tag s
  | .sPwait p rd ra => Sys2Proof.Machine.execSPwait p rd ra s
  | .sWait p rd ra mask => Sys2Proof.Machine.execSWait p rd ra mask s
  | .waitCondition p => Sys2Proof.Machine.execWaitCondition p s
  | .waitTimeout p => Sys2Proof.Machine.execWaitTimeout p s
  | .sSignal p m => Sys2Proof.Machine.execSSignal p m s
  | .sTrap p n => Sys2Proof.Machine.execSTrap p n s
  | .sRett p => Sys2Proof.Machine.execSRett p s
  | .sHalt p => Sys2Proof.Machine.execSHalt p s
  | .debugHalt p bp0 bp1 => Sys2Proof.Machine.execDebugHalt p bp0 bp1 s
  | .debugStep p bp0 bp1 => Sys2Proof.Machine.execDebugStep p bp0 bp1 s
  | .debugResume p bp0 bp1 => Sys2Proof.Machine.execDebugResume p bp0 bp1 s
  | .breakpoint p => Sys2Proof.Machine.execBreakpoint p s
  | .debugRegWrite v => Sys2Proof.Machine.execDebugRegWrite v s
  | .chainContention chain enables => Sys2Proof.Machine.execChainContention chain enables s
  | .fpllLoss m => Sys2Proof.Machine.execFpllLoss m s
  | .fabricFaultLine n level => Sys2Proof.Machine.execFabricFaultLine n level s
  | .fabricDictAnswer resp data => Sys2Proof.Machine.execFabricDictAnswer resp data s
  | .fabricDictTimeout => Sys2Proof.Machine.execFabricDictTimeout s
  | .fabricWindowTimeout => Sys2Proof.Machine.execFabricWindowTimeout s
  | .loupeWrite probe v => Sys2Proof.Machine.execLoupeWrite probe v s
  | .authBank master b => Sys2Proof.Machine.execAuthBank master b s
  | .cfgEraseBlock master b => Sys2Proof.Machine.execCfgEraseBlock master b s
  | .cfgProgramPage master b => Sys2Proof.Machine.execCfgProgramPage master b s
  | .readPage master b => Sys2Proof.Machine.execReadPage master b s
  | .hashSlot master b slot => Sys2Proof.Machine.execHashSlot master b slot s
  | .shadowLoad master b slot sector => Sys2Proof.Machine.execShadowLoad master b slot sector s
  | .shadowStreamEnd readback => Sys2Proof.Machine.execShadowStreamEnd readback s
  | .shadowClear master sector => Sys2Proof.Machine.execShadowClear master sector s
  | .cfgCommit master b => Sys2Proof.Machine.execCfgCommit master b s
  | .commitPhaseEnd margin => Sys2Proof.Machine.execCommitPhaseEnd margin s
  | .restart master => Sys2Proof.Machine.execRestart master s
  | .rowErase master => Sys2Proof.Machine.execRowErase master s
  | .rowProgram master => Sys2Proof.Machine.execRowProgram master s
  | .cfgCmdDone => Sys2Proof.Machine.execCfgCmdDone s
  | .configScrubFrame sector plane find repairOk => Sys2Proof.Machine.execConfigScrubFrame sector plane find repairOk s
  | .uflEraseBlock master => Sys2Proof.Machine.execUflEraseBlock master s
  | .uflProgramPage master => Sys2Proof.Machine.execUflProgramPage master s
  | .comparePage master => Sys2Proof.Machine.execComparePage master s
  | .blankCheck master => Sys2Proof.Machine.execBlankCheck master s
  | .uflCmdDone => Sys2Proof.Machine.execUflCmdDone s
  | .xoWrite k v => Sys2Proof.Machine.execXoWrite k v s
  | .storeAll client tag => Sys2Proof.Machine.execStoreAll client tag s
  | .restoreAll client tag => Sys2Proof.Machine.execRestoreAll client tag s
  | .storeDone fail => Sys2Proof.Machine.execStoreDone fail s
  | .retainedUpdate => Sys2Proof.Machine.execRetainedUpdate s
  | .regionRewrite => Sys2Proof.Machine.execRegionRewrite s
  | .usdoRequest client op => Sys2Proof.Machine.execUsdoRequest client op s
  | .usdoTimeout session => Sys2Proof.Machine.execUsdoTimeout session s
  | .taggedWrite client tag content => Sys2Proof.Machine.execTaggedWrite client tag content s
  | .rpdo n data => Sys2Proof.Machine.execRpdo n data s
  | .tpdo n timer => Sys2Proof.Machine.execTpdo n timer s
  | .sync late => Sys2Proof.Machine.execSync late s
  | .syncProduce late => Sys2Proof.Machine.execSyncProduce late s
  | .heartbeatProduce => Sys2Proof.Machine.execHeartbeatProduce s
  | .heartbeatReceive node => Sys2Proof.Machine.execHeartbeatReceive node s
  | .heartbeatTimeout k => Sys2Proof.Machine.execHeartbeatTimeout k s
  | .busOffRecovery line => Sys2Proof.Machine.execBusOffRecovery line s
  | .emcyTransmit => Sys2Proof.Machine.execEmcyTransmit s
  | .srdoReceive n data inverse => Sys2Proof.Machine.execSrdoReceive n data inverse s
  | .srdoTransmit n => Sys2Proof.Machine.execSrdoTransmit n s
  | .srdoTimeout n => Sys2Proof.Machine.execSrdoTimeout n s
  | .spiBusRead tag addr len => Sys2Proof.Machine.execSpiBusRead tag addr len s
  | .spiBusWrite tag addr data => Sys2Proof.Machine.execSpiBusWrite tag addr data s
  | .spiDictRead tag index sub off len => Sys2Proof.Machine.execSpiDictRead tag index sub off len s
  | .spiDictWrite tag index sub off data => Sys2Proof.Machine.execSpiDictWrite tag index sub off data s
  | .spiStatus tag => Sys2Proof.Machine.execSpiStatus tag s
  | .spiResult tag => Sys2Proof.Machine.execSpiResult tag s
  | .spiAbandon => Sys2Proof.Machine.execSpiAbandon s
  | .netWake line => Sys2Proof.Machine.execNetWake line s
  | .irqSourceEvent k level => Sys2Proof.Machine.execIrqSourceEvent k level s
  | .claim t => Sys2Proof.Machine.execClaim t s
  | .complete t k => Sys2Proof.Machine.execComplete t k s
  | .pendClear k => Sys2Proof.Machine.execPendClear k s
  | .pendSet k => Sys2Proof.Machine.execPendSet k s
  | .moderationTimer t => Sys2Proof.Machine.execModerationTimer t s
  | .logWrite => Sys2Proof.Machine.execLogWrite s
  | .logUser v master => Sys2Proof.Machine.execLogUser v master s
  | .rseqWrite v => Sys2Proof.Machine.execRseqWrite v s
  | .qualAck => Sys2Proof.Machine.execQualAck s
  | .logTimeRead => Sys2Proof.Machine.execLogTimeRead s
  | .aonSourceSwitch rc => Sys2Proof.Machine.execAonSourceSwitch rc s
  | .logExport => Sys2Proof.Machine.execLogExport s
  | .exportAbort => Sys2Proof.Machine.execExportAbort s
  | .exportDone stop => Sys2Proof.Machine.execExportDone stop s
  | .plRequest target => Sys2Proof.Machine.execPlRequest target s
  | .plChangeDone => Sys2Proof.Machine.execPlChangeDone s
  | .wakePin level => Sys2Proof.Machine.execWakePin level s
  | .hspCsWake => Sys2Proof.Machine.execHspCsWake s
  | .motionWake => Sys2Proof.Machine.execMotionWake s
  | .wakeTimer => Sys2Proof.Machine.execWakeTimer s
  | .wakeDone => Sys2Proof.Machine.execWakeDone s
  | .idleTimer => Sys2Proof.Machine.execIdleTimer s
  | .deepenTimer => Sys2Proof.Machine.execDeepenTimer s
  | .bankSupplyLost n => Sys2Proof.Machine.execBankSupplyLost n s
  | .bankSupplyReturn n => Sys2Proof.Machine.execBankSupplyReturn n s
  | .vinLow low => Sys2Proof.Machine.execVinLow low s
  | .faultInput k => Sys2Proof.Machine.execFaultInput k s
  | .faultAck mask => Sys2Proof.Machine.execFaultAck mask s
  | .safLockWrite v => Sys2Proof.Machine.execSafLockWrite v s
  | .regulatorMonitorTrip => Sys2Proof.Machine.execRegulatorMonitorTrip s
  | .clockMonitorTrip => Sys2Proof.Machine.execClockMonitorTrip s
  | .pathMonitorTest pass => Sys2Proof.Machine.execPathMonitorTest pass s
  | .readbackMismatch path level => Sys2Proof.Machine.execReadbackMismatch path level s
  | .graceExpiry => Sys2Proof.Machine.execGraceExpiry s
  | .wdgKick key master => Sys2Proof.Machine.execWdgKick key master s
  | .wdgWindowOpen => Sys2Proof.Machine.execWdgWindowOpen s
  | .wdgExpiry => Sys2Proof.Machine.execWdgExpiry s
  | .bistSlice t => Sys2Proof.Machine.execBistSlice t s
  | .bistSliceEnd t elements stuck => Sys2Proof.Machine.execBistSliceEnd t elements stuck s
  | .bistPassLate t => Sys2Proof.Machine.execBistPassLate t s
  | .bstStop t => Sys2Proof.Machine.execBstStop t s
  | .bstResume t => Sys2Proof.Machine.execBstResume t s
  | .restartPass t => Sys2Proof.Machine.execRestartPass t s
  | .bstTgtEnWrite v => Sys2Proof.Machine.execBstTgtEnWrite v s
  | .bstInjArm t => Sys2Proof.Machine.execBstInjArm t s
  | .provision key slot master => Sys2Proof.Machine.execProvision key slot master s
  | .close key master => Sys2Proof.Machine.execClose key master s
  | .scrap key master => Sys2Proof.Machine.execScrap key master s
  | .raiseFloor key master => Sys2Proof.Machine.execRaiseFloor key master s
  | .bumpDbgCtr key master => Sys2Proof.Machine.execBumpDbgCtr key master s
  | .lcsCmdDone => Sys2Proof.Machine.execLcsCmdDone s
  | .present master => Sys2Proof.Machine.execPresent master s
  | .certCheckDone => Sys2Proof.Machine.execCertCheckDone s
  | .revoke master => Sys2Proof.Machine.execRevoke master s
  | .jtagExtest => Sys2Proof.Machine.execJtagExtest s
  | .jtagSamplePreload => Sys2Proof.Machine.execJtagSamplePreload s
  | .jtagIdcode => Sys2Proof.Machine.execJtagIdcode s
  | .jtagHighz => Sys2Proof.Machine.execJtagHighz s
  | .jtagBypass => Sys2Proof.Machine.execJtagBypass s
  | .dbgAccess write addr size data => Sys2Proof.Machine.execDbgAccess write addr size data s
  | .jtagLcsStatus => Sys2Proof.Machine.execJtagLcsStatus s
  | .freezeRead addr space load => Sys2Proof.Machine.execFreezeRead addr space load s
  | .resetNRelease => Sys2Proof.Machine.execResetNRelease s
  | .rcFieldRead addr size master => Sys2Proof.Machine.execRcFieldRead addr size master s
  | .busOff line => Sys2Proof.Machine.execBusOff line s
  | .errorPassive line on => Sys2Proof.Machine.execErrorPassive line on s
  | .receiveOverrun line => Sys2Proof.Machine.execReceiveOverrun line s
  | .fabricWindowAck data => Sys2Proof.Machine.execFabricWindowAck data s
  | .jtagClamp => Sys2Proof.Machine.execJtagClamp s
  | .testLogicReset => Sys2Proof.Machine.execTestLogicReset s
  | .spiRequestRejected frame => Sys2Proof.Machine.execSpiRequestRejected frame s
  | .railWithinWindow => Sys2Proof.Machine.execRailWithinWindow s
  | .clockWithinWindow => Sys2Proof.Machine.execClockWithinWindow s

end Sys2Proof.Machine
end

