-- ==== Sys2Proof/Machine/Wire.lean ====
section
/-! DEFINITION. What the wires of the loaded fabric design carry (R172 to R181): LUTs and carry stages, chains with their keepers, boundary
cells, math blocks, and the signals the hardened blocks give. -/
namespace Sys2Proof.Machine

open Sys2Proof

/-- The fabric's view of a signal of Table 8.4. -/
def portSig (s : State) (x : PortSig) : Bool :=
  let push := fun n => mapGet pushZero s.fab.push n
  let acc := s.fab.acc.head?
  let accBit := fun (f : FabAcc → Nat) i => match acc with | some a => (f a).testBit i | none => false
  let reqBit := fun (f : FabReq → Nat) i => match s.fab.req with | some r => (f r).testBit i | none => false
  match x with
  | .ready n => s.fab.connected && !(push n).busy
  | .statusValid n => (push n).statusValid
  | .status n i => (push n).status.testBit i
  | .staged n i => (push n).staged.testBit i
  | .strobe => s.fab.est.strobe
  | .angle i => s.fab.est.angle.getLsbD i
  | .frac i => s.fab.est.frac.getLsbD i
  | .vel i => s.fab.est.vel.getLsbD i
  | .dir => s.fab.est.dir
  | .valid => s.fab.est.valid
  | .referenced => s.fab.est.referenced
  | .crossing => s.fab.est.crossing
  | .mode i => s.fab.est.mode.getLsbD i
  | .time i => (nth 0 s.fab.time 3).testBit i
  | .targetValid => acc.isSome
  | .targetAddr i => accBit FabAcc.addr i
  | .targetWrite => accBit (fun a => b2n a.write) 0
  | .targetData i => accBit (fun a => a.data.toNat) i
  | .dictValid => s.fab.req.isSome
  | .dictIndex i => reqBit FabReq.index i
  | .dictSub i => reqBit FabReq.sub i
  | .dictWrite => reqBit (fun r => b2n r.write) 0
  | .dictSize i => reqBit (fun r => min 8 r.size) i
  | .dictOffset i => reqBit FabReq.offset i
  | .dictData i => reqBit (fun r => ofBytes (r.data.take 8)) i
  | .safeActive => s.saf.reaction || s.mode == Md.safe

/-- A bead's LUT (R172): any function of six inputs, or two functions that share five. -/
def lutOut (b : BeadCfg) (second : Bool) (ins : Nat → Bool) : Bool :=
  let i := (List.range 5).foldl (fun a k => a + if ins k then 2 ^ k else 0) 0
  if b.split then b.table.getLsbD (if second then i else 32 + i) else b.table.getLsbD (i + if ins 5 then 32 else 0)

/-- The bead below a bead in its carry chain (R172): positions within a strand, strands within a tile, tiles upward in the column; none for
the lowest of the column, where the chain ends at the sector's edge (R171). -/
def carryBelow (b : Nat) : Option Nat :=
  if b % 32 ≠ 0 then some (b - 1) else if 512 ≤ b then some (b - 512 + 31) else none

/-- A sector's logic is in force: it is active, from release on (R176, R203). -/
def sectorUp (s : State) (k : Nat) : Bool := s.fab.released && s.rdB (Fd.CFG_SECT_STAT_ACTIVE k)

/-- The sector swaps in this tick (R214). -/
def swapping (s : State) (k : Nat) : Bool := mapGet? s.fab.swapTick k == some s.now

/-- The half of an engine tick that is under way, by number. -/
def halfNow (s : State) : Nat := 2 * s.now + s.fab.half

/-- The number that n wires spell. -/
def wireWord (n : Nat) (f : Nat → Bool) : Nat := (List.range n).foldl (fun a i => a + if f i then 2 ^ i else 0) 0

/-- The level at a pin's input (R184): what the device drives on it, else what the board does, else its pull. With no pull, or without its
bank's supply (R339), it floats. An
input buffer that is not enabled gives no level the spec states. -/
def padIn (s : State) (p : Nat) : Bool :=
  if !s.rdB (Fd.FAB_IOCFG_IN_EN p) then Config.unsettled (halfNow s)
  else match mapGet? s.fab.pad p with
    | some v => v == 1
    | none => match Config.pinIn (halfNow s) p with
      | some b => b
      | none => match if pinBank p ∈ s.pwr.absent then 0 else s.rd (Fd.FAB_IOCFG_PULL p) with
        | 0 => Config.unsettled (halfNow s)
        | 1 => false
        | 2 => true
        | _ => mapGet false s.fab.padKeep p

/-- What the fabric's design has that carries a value: a wire's source, a math block's accumulator or its output. -/
inductive Node where
  | wire (x : WireSrc)
  | acc (block : Nat)
  | out (block : Nat)
deriving DecidableEq, Repr

/-- The registers of a math block of a sector. -/
def mathSt (s : State) (k b : Nat) : MathSt := mapGet mathZero s.fab.math (48 * k + b)

/-- The operands at a math block's inputs (R179). -/
def mathLive (m : MathImg) (w : WireSrc → Bool) : MathIn :=
  ⟨sx 27 (wireWord 27 (fun i => w (m.a i))), sx 27 (wireWord 27 (fun i => w (m.d i))), sx 27 (wireWord 27 (fun i => w (m.b i))),
   sx 64 (wireWord 64 (fun i => w (m.c i))), w m.load⟩

/-- The operands a block's pre-adder works on, what its multiplier works on, and what its accumulator takes: of the registers of the stages
that are registered (R180). -/
def mathOp (m : MathImg) (st : MathSt) (w : WireSrc → Bool) : MathIn := if m.regIn then st.inp else mathLive m w
def mathPre (m : MathImg) (st : MathSt) (w : WireSrc → Bool) : MathPre :=
  if m.regPre then st.pre else (mathPreFit m.cfg (mathOp m st w)).1
def mathMul (m : MathImg) (st : MathSt) (w : WireSrc → Bool) : MathMul :=
  if m.regMul then st.mul else mathProduct (mathPre m st w)

/-- The value of a node of a sector's design. Routing delays are not modelled (log 78); `fuel` bounds the length of a path, and a wire that
hangs on itself has no value the spec states. -/
def nodeVal : Nat → State → Nat → Node → Int
  | 0, s, _, _ => if Config.unsettled (halfNow s) then 1 else 0
  | n + 1, s, k, x =>
    let d := designOf s k
    let w := fun (y : WireSrc) => nodeVal n s k (.wire y) != 0
    let b2i := fun (b : Bool) => if b then (1 : Int) else 0
    match x with
    | .acc b =>
      let m := d.math b
      let st := mathSt s k b
      if m.regAcc then st.acc
      else (mathAccFit m.cfg (mathMul m st w) (if b % 24 = 0 then 0 else nodeVal n s k (.acc (b - 1))) st.acc).1
    | .out b =>
      let m := d.math b
      if m.regOut then (mathSt s k b).y else (mathOutFit m.cfg (nodeVal n s k (.acc b))).1
    | .wire y => match y with
      | .const b => b2i b
      | .lut b second => b2i (lutOut (d.bead b) second (fun i => w ((d.bead b).input i)))
      | .sum b =>
        b2i (Config.carrySum (w (.lut b false)) (w (.lut b true))
          (match carryBelow b with | some c => w (.carry c) | none => d.carryIn (b / 32 % 16)))
      | .carry b =>
        b2i (Config.carryOut (w (.lut b false)) (w (.lut b true))
          (match carryBelow b with | some c => w (.carry c) | none => d.carryIn (b / 32 % 16)))
      | .ff b one => b2i (mapGet false s.fab.ff (2 ^ 15 * k + 2 * b + b2n one))
      | .chain c => b2i (chainRead (((d.chain c).taps.filter (fun t => t.tap < chainTaps c)).map (fun t => (t.tap, w t.en, w t.data))) (mapGet false s.fab.keeper (128 * k + c)))
      | .cell i =>
        let c := d.cell i
        let last := b2i (mapGet false s.fab.cells (2 ^ 16 * k + i))
        if swapping s c.sector then last
        else if sectorUp s c.sector then nodeVal n s c.sector (.wire c.wire)
        else match c.iso with
          | some b => b2i b
          | none => last
      | .math b i => b2i ((enc 64 (nodeVal n s k (.out b))).testBit i)
      | .mathFlag b ovf =>
        let g := 48 * k + b
        b2i ((s.rd (if ovf then Fd.FAB_MATH_OVF_FLAG (g / 32) else Fd.FAB_MATH_SAT_FLAG (g / 32))).testBit (g % 32))
      | .ink p i =>
        let x := mapGet inkPortZero s.fab.ink (72 * k + p)
        b2i ((if (d.ink p).late then x.q2 else x.q).data.getLsbD i)
      | .inkFlag p g =>
        let x := mapGet inkPortZero s.fab.ink (72 * k + p)
        let o := if (d.ink p).late then x.q2 else x.q
        b2i (if g = 0 then o.corr else if g = 1 then o.ue || x.late else x.coll)
      | .pin p => b2i (padIn s p)
      | .sig g => b2i (portSig s g)

/-- What a wire of a sector carries. -/
def wireVal (s : State) (k : Nat) (x : WireSrc) : Bool := nodeVal (2 ^ 20) s k (.wire x) != 0

/-- What a chain reads (R177), by its global number. -/
def chainVal (s : State) (chain : Nat) : Bool := wireVal s (chain / 128) (.chain (chain % 128))

/-- The mask of a chain's enabled taps. -/
def chainEnables (s : State) (chain : Nat) : Nat :=
  (((designOf s (chain / 128)).chain (chain % 128)).taps.filter (fun t => t.tap < chainTaps (chain % 128))).foldl (fun a t => if wireVal s (chain / 128) t.en then a ||| 2 ^ t.tap else a) 0

end Sys2Proof.Machine
end

