-- ==== Sys2Proof/Machine/Pins.lean ====
section
/-! DEFINITION. What the device drives on its user pins in a tick, to 1/16 tick (R131 to R146, R184 to R188, R199): the safe-state row, the
direct channels, the strings, the fabric design and the loupe probes. -/
namespace Sys2Proof.Machine

open Sys2Proof

/-- A pin at its safe-state row value (R199): low, high or high-impedance. -/
def rowDrive (s : State) (p : Nat) : Option Bool :=
  match s.rowSafe p with
  | 0 => some false
  | 1 => some true
  | _ => none

/-- Phase `ph` of the current tick lies before the first action of a channel that entered RUN or LIMITED high-impedance (R145). -/
def beforeFirst (s : State) (c ph : Nat) : Bool :=
  match mapGet? s.chn.firstAct c with
  | some t => decide (diffS 68 ((s.now * 16 + ph) % 2 ^ 68) t < 0)
  | none => false

/-- A direct channel's pin at phase `ph` of the current tick (R134, R145). -/
def directDrive (s : State) (c ph : Nat) : Option Bool :=
  if c ∈ s.chn.idleHiZ ∨ beforeFirst s c ph then none
  else if s.chn.edgeTick = s.now then
    match mapGet? s.chn.edges c with
    | some e => some (if ph < e.phase then !e.level else e.level)
    | none => some (s.level c)
  else some (s.level c)

/-- Bit b of string n's safe image, as its window holds it. -/
def safeBit (s : State) (n b : Nat) : Bool := (slotVal s (slotSafe n (b / 32))).testBit (b % 32)

/-- Every word of string n's safe image can be read (R143). -/
def safeReadable (s : State) (n : Nat) : Bool := (List.range 8).all (fun w => slotOk s (slotSafe n w))

/-- The tick at which the shift of string n's safe image begins: the one after the tick in which the safe path acted or STANDBY was entered,
and not before the end of the last latch pulse (DESIGN CHOICE, log 78). -/
def safeStart (s : State) (n : Nat) : Nat := max ((s.strOf n).safeFrom + 1) (s.strOf n).lastEnd

/-- String n has begun its safe image and has not latched it (R143). In FROZEN nothing shifts (R146). -/
def safeShifts (s : State) (n : Nat) : Bool :=
  (s.strOf n).safeDue && (s.strOf n).frame.isNone && s.mode != Md.frozen && decide (safeStart s n ≤ s.now) && safeReadable s n

/-- Ticks since the shift in progress on a string began (R137); none where nothing shifts. -/
def shiftAge (s : State) (n : Nat) : Option Nat :=
  match (s.strOf n).frame with
  | some f => if f.shiftEnd ≤ s.now + tShift s n ∧ s.now < f.shiftEnd then some (s.now + tShift s n - f.shiftEnd) else none
  | none => if safeShifts s n ∧ s.now < safeStart s n + tShift s n then some (s.now - safeStart s n) else none

/-- SCK of a string (R137): low when idle; in each bit it rises half way and falls at the end. -/
def sckDrive (s : State) (n : Nat) : Bool :=
  match shiftAge s n with
  | some a => decide (s.rd (Fd.CHN_SCFG2_DIV n) ≤ a % (2 * s.rd (Fd.CHN_SCFG2_DIV n)))
  | none => false

/-- SDO of a string (R137): the bits from LEN − 1 down to 0, each from the falling edge before it; between shifts it holds the last bit
shifted (DESIGN CHOICE, log 78). -/
def sdoDrive (s : State) (n : Nat) : Bool :=
  match shiftAge s n with
  | some a =>
    let b := strLen s n - 1 - a / (2 * s.rd (Fd.CHN_SCFG2_DIV n))
    match (s.strOf n).frame with
    | some f => f.image.getLsbD b
    | none => safeBit s n b
  | none => if safeShifts s n then safeBit s n 0 else (s.strOf n).prevShift.getLsbD 0

/-- LAT of a string at phase `ph` of the current tick: the latch pulse (R137). -/
def latDrive (s : State) (n ph : Nat) : Bool :=
  decide ((s.strOf n).latFrom ≤ s.now * 16 + ph) && decide (s.now * 16 + ph < (s.strOf n).latTo)

/-- A string's signal on a pin (R131, R143, R145). -/
def stringDrive (s : State) (n p ph : Nat) : Option Bool :=
  if s.rd (Fd.CHN_SCFG0_SCK_PIN n) = p then some (sckDrive s n)
  else if s.rd (Fd.CHN_SCFG0_SDO_PIN n) = p then some (sdoDrive s n)
  else if s.rd (Fd.CHN_SCFG1_LAT_PIN n) = p then some (latDrive s n ph)
  else if (s.strOf n).oe then some (s.rdB (Fd.CHN_SCFG1_OE_POL n))
  else rowDrive s p

/-- A string's signal on a pin under the safe path (R142, R143): the row value, but for SCK, SDO and LAT from the start of the safe image's
shift to the end of its latch pulse. -/
def safeStringDrive (s : State) (n p ph : Nat) : Option Bool :=
  if p ∈ [s.rd (Fd.CHN_SCFG0_SCK_PIN n), s.rd (Fd.CHN_SCFG0_SDO_PIN n), s.rd (Fd.CHN_SCFG1_LAT_PIN n)] ∧
      s.mode ≠ Md.frozen ∧ (safeShifts s n ∨ latDrive s n ph) then stringDrive s n p ph
  else rowDrive s p

/-- The bound string that uses a pin for one of its outputs (R132). -/
def stringOn (s : State) (p : Nat) : Option Nat :=
  (boundStrings s).find? (fun n => [s.rd (Fd.CHN_SCFG0_SCK_PIN n), s.rd (Fd.CHN_SCFG0_SDO_PIN n), s.rd (Fd.CHN_SCFG1_LAT_PIN n),
    s.rd (Fd.CHN_SCFG1_OE_PIN n)].contains p)

/-- The levels the SDRAM bank's hold cells keep from AP3 to the hold release (R337): CKE low and the device reset high. -/
def xmcHeld (s : State) : Option (Bool × Bool) := if s.pwr.hold ∧ 12 ∉ s.pwr.absent then some (false, true) else none

/-- The active sector whose design drives a pin, and its data and output enable; a sector in the tick of its swap drives nothing new. -/
def fabDriver (s : State) (p : Nat) : Option (Nat × PinDrive) :=
  (List.range 32).findSome? (fun k => if sectorUp s k && !swapping s k then ((designOf s k).pin p).map (fun d => (k, d)) else none)

/-- The fabric's output on a pin (R184, R214): through the tick of a swap of its sector it holds what it presented at the end of the tick
before. -/
def fabDrive (s : State) (p : Nat) : Option Bool :=
  if (List.range 32).any (fun k => swapping s k && (mapGet [] s.fab.swapPins k).contains p) then (mapGet? s.fab.pad p).map (fun v => v == 1)
  else match fabDriver s p with
  | some (k, d) =>
    if wireVal s k d.oe then some (wireVal s k d.data) else none
  | none => none

/-- The probe in force on a pin (R188). -/
def probeOf (s : State) (p : Nat) : Option Nat :=
  (List.range 64).find? (fun k => mapGet false s.fab.loupeOn k && s.rd (Fd.FAB_LOUPE_SEL_PIN k) == p)

/-- What a probe drives: its sample of three cycles of its network before, the row value until there is one. -/
def probeDrive (s : State) (p k : Nat) : Option Bool :=
  match (mapGet [] s.fab.probe k)[3]? with
  | some b => some b
  | none => rowDrive s p

/-- A bank's supply has become present and has not been lost since (R339). -/
def bankThere (s : State) (n : Nat) : Bool := (s.rd Fd.PWR_BANK_STAT_PRESENT).testBit n

/-- What the device drives on a user pin at phase `ph` of the current tick; none is high-impedance. A channel output use prevails (R132);
fabric and probe pins follow R185; a pin without an owner stays at its row value. Under EXTEST and CLAMP the cells of the boundary-scan
register hold the pins, under HIGHZ none is driven (R376). The pins of a bank without its supply are high-impedance (R339). -/
def pinDrive (s : State) (p ph : Nat) : Option Bool :=
  if s.jtag.ir = .highz ∨ !bankThere s (pinBank p) then none
  else if s.jtag.ir = .extest ∨ s.jtag.ir = .clamp then cellDrive s p
  else match s.chn.pins with
    | .unsettled => none
    | .safe => match stringOn s p with
      | some n => safeStringDrive s n p ph
      | none => rowDrive s p
    | .held => rowDrive s p
    | .owners =>
      match (List.range 512).find? (fun c => s.rdB (Fd.CHN_DCFG_BOUND c) && s.rd (Fd.CHN_DCFG_PIN c) == p) with
      | some c => directDrive s c ph
      | none =>
        match stringOn s p with
        | some n => stringDrive s n p ph
        | none =>
          if !pinFree s then rowDrive s p
          else if fabricOwnsPin s p then fabDrive s p
          else match probeOf s p with
            | some k => if s.rdB Fd.FAB_LOUPE_CTRL_EN then probeDrive s p k else rowDrive s p
            | none => rowDrive s p

end Sys2Proof.Machine
end

