-- ==== Sys2Proof/Machine/FabClk.lean ====
section
/-! DEFINITION. A tick of the fabric (R172 to R191, R214, R232): the clock edges of the global networks, what flip-flops, math blocks,
inkwells, chain monitors, ports and probes do at them, and what the wires leave behind at the end of the tick. The order of things in a
tick is the model's (log 78). -/
namespace Sys2Proof.Machine

open Sys2Proof

/-- The fabric's clocks run: user logic is released, in the modes in which it keeps them (R183). -/
def fabClocked (s : State) : Bool :=
  s.fab.released && (s.mode == Md.selftest || s.mode == Md.standby || driving s.mode || s.mode == Md.safe)

/-- Divider of the 1,200 MHz sys PLL at a performance level (Table 14.2). -/
def sysDiv (level : Nat) : Nat := match level with | 0 => 3 | 1 => 4 | 2 => 6 | _ => 12

/-- Cycles of the sys PLL up to half an engine tick: 2.4 in each. -/
def sysPllAt (h : Nat) : Nat := (12 * h + Config.sysPhase % 5) / 5

/-- The sys clock has a rising or falling edge in half an engine tick: it follows the performance level (R182). -/
def sysEdge (level h : Nat) (rise : Bool) : Bool :=
  let d := sysDiv level
  let c := Config.sysCount % 12 + (if rise then 0 else d / 2)
  (sysPllAt h + c) / d != (sysPllAt (h + 1) + c) / d

/-- A clock-capable pin has a rising or falling edge in this half tick: its level against the one before (R182, R398). -/
def pinEdge (s : State) (p : Nat) (rise : Bool) : Bool :=
  let old := mapGet false s.fab.clkPin p
  padIn s p != old && padIn s p == rise

/-- The source of a global network has a rising or falling edge in this half tick: the engine clock rises at the start of the tick and falls in
its middle. -/
def srcEdge (s : State) (src : Nat) (rise : Bool) : Bool :=
  if src < 4 then Config.fpllEdge (activeData s) src (halfNow s) rise
  else if src = 4 then sysEdge (s.rd Fd.PWR_PL_CURRENT) (halfNow s) rise
  else if src = 5 then (s.fab.half == 0) == rise
  else match clockPins[src - 6]? with
    | some p => pinEdge s p rise
    | none => false

/-- A global network has a rising or falling edge in this half tick (R182). -/
def netEdge (s : State) (n : Nat) (rise : Bool) : Bool := netOn s n && srcEdge s (Config.netSource (activeData s) n).toNat rise

/-- A sector sees an edge of a network: none in the tick of its swap (R214). -/
def sees (s : State) (k n : Nat) (rise : Bool) : Bool := sectorUp s k && !swapping s k && netEdge s n rise

/-! ### Flip-flops (R172 to R174) -/

/-- The set/reset of a flip-flop's strand acts on it. -/
def ffForced (s : State) (k b : Nat) (f : FfCfg) : Bool := f.useSr && wireVal s k ((designOf s k).strand (b / 8)).sr

/-- The data of a flip-flop of a bead. -/
def ffData (s : State) (k b : Nat) (f : FfCfg) : Bool :=
  match f.data with
  | .lut second => wireVal s k (.lut b second)
  | .sum => wireVal s k (.sum b)
  | .bypass x => wireVal s k x

/-- The value of flip-flop j of sector k after the edges of one direction: a set/reset that acts prevails over the clock enable (DESIGN
CHOICE, log 78). -/
def ffNext (s : State) (rise : Bool) (k j : Nat) : Bool :=
  let b := j / 2
  let d := designOf s k
  let f := if j % 2 = 0 then (d.bead b).ff0 else (d.bead b).ff1
  let g := d.strand (b / 8)
  let old := mapGet false s.fab.ff (2 ^ 15 * k + j)
  if rise != g.falling && sees s k (if g.useB then g.netB else g.netA) rise then
    if ffForced s k b f then f.srSets
    else if f.useCe && !wireVal s k g.ce then old
    else ffData s k b f
  else old

/-- The value of flip-flop j of sector k once an asynchronous set/reset has acted (R173). -/
def ffAsync (s : State) (k j : Nat) : Bool :=
  let b := j / 2
  let d := designOf s k
  let f := if j % 2 = 0 then (d.bead b).ff0 else (d.bead b).ff1
  if (d.strand (b / 8)).async && sectorUp s k && !swapping s k && ffForced s k b f then f.srSets
  else mapGet false s.fab.ff (2 ^ 15 * k + j)

/-- Every flip-flop takes a value at once. -/
def ffSet (f : Nat → Nat → Bool) (s : State) : State :=
  { s with fab := { s.fab with ff := (s.cfg.active.map Prod.fst).foldl (fun m k =>
      (List.range 24576).foldl (fun m j => mapSet false m (2 ^ 15 * k + j) (f k j)) m) s.fab.ff } }

/-! ### Math blocks (R179, R180) -/

/-- The registers of block b of sector k after an edge of its clock, and whether a fit was out of range. -/
def mathNext (s : State) (k b : Nat) : MathSt × Bool :=
  let m := (designOf s k).math b
  let st := mathSt s k b
  let w := wireVal s k
  let op := mathOp m st w
  let pre := mathPreFit m.cfg op
  let cin := if b % 24 = 0 then 0 else nodeVal (2 ^ 20) s k (.acc (b - 1))
  let acc := mathAccFit m.cfg (mathMul m st w) cin st.acc
  let y := mathOutFit m.cfg (if m.regAcc then st.acc else acc.1)
  (⟨mathLive m w, pre.1, mathProduct (mathPre m st w), acc.1, y.1⟩, pre.2 || acc.2 || y.2)

/-- A flag of block i ends a cycle: set by its event, else cleared by the fabric's clear input, else unchanged (R8, R180). -/
def mathFlagged (f : Fld) (i : Nat) (ev clear : Bool) (s : State) : State :=
  if ev then s.orF f (2 ^ (i % 32)) else if clear then s.w1c f (2 ^ (i % 32)) else s

/-- The math blocks of sector k that see an edge of their clock: `s0` is the state before the edge. -/
def mathEdges (s0 : State) (k : Nat) (s : State) : State :=
  forEach ((List.range 48).filter (fun b => sees s0 k ((designOf s0 k).math b).net true)) s (fun b t =>
    let m := (designOf s0 k).math b
    let r := mathNext s0 k b
    let i := 48 * k + b
    let t1 := { t with fab := { t.fab with math := mapSet mathZero t.fab.math i r.1 } }
    let clear := wireVal s0 k m.clear
    mathFlagged (Fd.FAB_MATH_OVF_FLAG (i / 32)) i (r.2 && !m.cfg.sat) clear
      (mathFlagged (Fd.FAB_MATH_SAT_FLAG (i / 32)) i (r.2 && m.cfg.sat) clear t1))

/-! ### Inkwells (R181, R232) -/

/-- What a port of an inkwell does at an edge of its clock: the physical word, the bit it begins at, its width, and the data and mask of a
write. -/
structure InkAcc where
  word : Nat
  lo : Nat
  width : Nat
  read : Bool
  data : W64
  mask : W64
deriving DecidableEq, Repr

/-- The access of port p (2 × inkwell + side) of sector k, none where it has no edge or is not enabled. -/
def inkAcc (s : State) (k p : Nat) : Option InkAcc :=
  let c := (designOf s k).ink p
  let w := wireVal s k
  if sees s k c.net true && w c.en then
    let width := 2 ^ min 6 c.logw
    let a := wireWord (15 - min 6 c.logw) (fun i => w (c.addr i))
    let lo := a % (64 / width) * width
    let write := c.writes && w c.we
    some ⟨(36 * k + p / 2) * 512 + a / (64 / width) % 512, lo, width, c.reads,
      BitVec.ofNat 64 (wireWord width (fun i => w (c.data i)) * 2 ^ lo), if write then BitVec.ofNat 64 ((2 ^ width - 1) * 2 ^ lo) else 0⟩
  else none

/-- A read of a port: its lane of the word, with CORR and UE. -/
def inkGet (side : Nat) (a : InkAcc) (s : State) : State :=
  if a.read then
    let r := inkRead side a.word s
    updInk side a.word (fun x => { x with q := { x.q with data := BitVec.ofNat 64 (r.1.data.toNat / 2 ^ a.lo % 2 ^ a.width) } }) r.2
  else s

/-- Change the outputs of port p of sector k. -/
def updPort (k p : Nat) (f : InkPort → InkPort) (s : State) : State :=
  { s with fab := { s.fab with ink := mapSet inkPortZero s.fab.ink (72 * k + p) (f (mapGet inkPortZero s.fab.ink (72 * k + p))) } }

/-- An edge at which a port reads nothing: the output register follows. -/
def inkShift (k p : Nat) (s : State) : State := updPort k p (fun x => { x with q2 := x.q }) s

/-- One port's access alone: a read returns the old word, or in Limusk 120 compatibility the word as written (Table 10.3). -/
def inkOne (limusk : Bool) (side : Nat) (a : InkAcc) (s : State) : State :=
  if limusk then inkGet side a (inkWrite side a.word a.data a.mask s) else inkWrite side a.word a.data a.mask (inkGet side a s)

/-- Inkwell j of sector k at an edge (R232): two accesses to one word collide where both ports use one network, or where their edges meet. -/
def inkEdge (s0 : State) (k j : Nat) (s : State) : State :=
  let d := designOf s0 k
  let pa := 2 * j
  let pb := 2 * j + 1
  let edge := fun p => sees s0 k (d.ink p).net true
  let quiet := fun (p : Nat) (o : Option InkAcc) => edge p && !(match o with | some x => x.read | none => false)
  let a := inkAcc s0 k pa
  let b := inkAcc s0 k pb
  let s1 := when_ (edge pb) (updPort k pb (fun x => { x with coll := false, late := false }))
    (when_ (edge pa) (updPort k pa (fun x => { x with late := false })) s)
  let s2 := when_ (quiet pa a) (inkShift k pa) s1
  let s3 := when_ (quiet pb b) (inkShift k pb) s2
  let lim := d.limusk j
  match a, b with
  | some x, some y =>
    if x.word = y.word ∧ ((d.ink pa).net = (d.ink pb).net ∨ Config.edgesMeet (halfNow s0) j) then
      if lim then inkGet 1 y (inkGet 0 x (inkWrites x.word x.data x.mask y.data y.mask s3))
      else inkWrites x.word x.data x.mask y.data y.mask (inkGet 1 y (inkGet 0 x s3))
    else inkOne lim 1 y (inkOne lim 0 x s3)
  | some x, none => inkOne lim 0 x s3
  | none, some y => inkOne lim 1 y s3
  | none, none => s3

/-! ### Monitors, ports and probes -/

/-- The chain monitors of sector k that sample at this edge, lowest chain first (R178). -/
def chainEdges (s0 : State) (k : Nat) (s : State) : State :=
  forEach ((List.range 112).filter (fun c => sees s0 k ((designOf s0 k).chain c).net true)) s
    (fun c t => chainSample (128 * k + c) (chainEnables s0 (128 * k + c)) t)

/-- An edge of a fabric port's clock (R189 to R191): a push port's status has been seen and READY returns; the estimate port presents the
newest estimate for one cycle; the time port samples device time. -/
def portEdges (s : State) : State :=
  let on := fun n => netEdge s (portNet s n) true
  let s1 := { s with fab := { s.fab with
    push := s.fab.push.map (fun e => (e.1, if on e.1 then { e.2 with busy := false, statusValid := false } else e.2)) } }
  let s2 := if on 8 then
      { s1 with fab := { s1.fab with est := s1.fab.estNext.getD { s1.fab.est with strobe := false }, estNext := none } }
    else s1
  if on 9 then { s2 with fab := { s2.fab with time := (s2.now :: s2.fab.time).take 4 } } else s2

/-- The signal a probe is selected on (R188). -/
def probeSignal (s : State) (k : Nat) : Bool :=
  let i := s.rd (Fd.FAB_LOUPE_SEL_INDEX k)
  match s.rd (Fd.FAB_LOUPE_SEL_SRC k) with
  | 1 => mapGet false s.fab.ff i
  | 2 => chainVal s i
  | _ => (s.rd (if i % 2 = 0 then Fd.FAB_MATH_SAT_FLAG (i / 64) else Fd.FAB_MATH_OVF_FLAG (i / 64))).testBit (i / 2 % 32)

/-- FAB_LOUPE_CTRL.CLK: 24 and up act as 0. -/
def loupeNet (s : State) : Nat := if s.rd Fd.FAB_LOUPE_CTRL_CLK < 24 then s.rd Fd.FAB_LOUPE_CTRL_CLK else 0

/-- The probes sample their signals at an edge of their network (R188). -/
def probeEdges (s0 s : State) : State :=
  if netEdge s0 (loupeNet s0) true then
    forEach (s0.fab.loupeOn.map Prod.fst) s (fun k t =>
      { t with fab := { t.fab with probe := mapPut t.fab.probe k ((probeSignal s0 k :: mapGet [] t.fab.probe k).take 4) } })
  else s

/-! ### A tick

An engine tick is taken in two halves of 2 ns: no clock of the fabric is faster than 400 MHz, so none has two like edges in a half. -/

/-- The rising edges of the half tick, every register taking the values its wires had before them. -/
def risingEdges (s0 : State) : State :=
  let ks := s0.cfg.active.map Prod.fst
  let s1 := ffSet (ffNext s0 true) s0
  let s2 := forEach ks s1 (fun k t => chainEdges s0 k (forEach (List.range 36) (mathEdges s0 k t) (inkEdge s0 k)))
  probeEdges s0 (portEdges s2)

/-- The falling edges of the half tick: the flip-flops clocked on them. -/
def fallingEdges (s0 : State) : State := ffSet (ffNext s0 false) s0

/-- What the end of a half tick leaves: keepers of the chains with an enabled tap (R177), boundary cells (R176), the pins (R184), and the
levels of the clock-capable pins (R182). -/
def fabSettle (s : State) : State :=
  let ks := s.cfg.active.map Prod.fst
  let keep := ks.foldl (fun m k => (List.range 112).foldl (fun m c =>
      if sectorUp s k && chainEnables s (128 * k + c) != 0 then mapSet false m (128 * k + c) (chainVal s (128 * k + c)) else m) m) s.fab.keeper
  let cells := ks.foldl (fun m k => (List.range (designOf s k).cells).foldl (fun m i =>
      let c := (designOf s k).cell i
      if sectorUp s c.sector && !swapping s c.sector then mapSet false m (2 ^ 16 * k + i) (wireVal s c.sector c.wire) else m) m) s.fab.cells
  let pad := (List.range 512).filterMap (fun p => (pinDrive s p (8 * s.fab.half + 7)).map (fun b => (p, b2n b)))
  let padKeep := (List.range 512).foldl (fun m p =>
      match (mapGet? pad p).map (fun v => v == 1) <|> Config.pinIn (halfNow s) p with
      | some b => mapSet false m p b
      | none => m) s.fab.padKeep
  { s with fab := { s.fab with keeper := keep, cells := cells, pad := pad, padKeep := padKeep, clkPin := clockPins.map (fun p => (p, padIn s p)) } }

/-- Half a tick of the released user logic. -/
def fabHalf (h : Nat) (s0 : State) : State :=
  let s := { s0 with fab := { s0.fab with half := h } }
  fabSettle (fallingEdges (risingEdges (ffSet (ffAsync s) s)))

/-- A tick of the released user logic. -/
def fabTick (s : State) : State :=
  if fabClocked s then
    let t := fabHalf 1 (fabHalf 0 s)
    { t with fab := { t.fab with half := 0 } }
  else s

/-- One engine tick in which no command acts: the fabric's edges, then time; after the tick of a swap, which pins the fabric drives follows
the new plane (R214); the idle timer's check at an AON edge (R333). -/
def clockTick (s : State) : State :=
  let t := tick (fabTick s)
  idleCheck s (if s.fab.swapTick.any (fun e => e.2 == s.now) && t.now != s.now then fabOutRefresh t else t)

end Sys2Proof.Machine
end

