-- ==== Sys2Proof/Machine/Step.lean ====
section
/-! DEFINITION. One step: the command at the front of the queue, or, where none waits, one tick of the engine clock. -/
namespace Sys2Proof.Machine

open Sys2Proof

/-- What passes where no command waits (DESIGN CHOICE, log entry 3): one tick of the engine clock on a device that has power, and what
waited goes on. -/
def idle (s : State) : Host.Outcome State Fault Refusal :=
  if s.sys.phase = .noVin then .next s else nx (goOn (clockTick s))

/-- Take the command at the front of the queue, with the queue's rest. -/
def step (s : State) : Host.Outcome State Fault Refusal :=
  match s.pending with
  | [] => idle s
  | c :: rest => exec c { s with pending := rest }

/-- The state with the command a word spells at the front of its queue; unchanged where it spells none. -/
def State.withFetchWord (s : State) (nbits w : Nat) : State :=
  match decodeTableWord nbits w with
  | some c => { s with pending := c :: s.pending }
  | none => s

end Sys2Proof.Machine
end

