-- ==== Sys2Proof/Safety.lean ====
section
/-! DEFINITION. What counts as a safe device, in the terms the statements use: pins at their safe values, the conditions under which
a command's end has nothing more to settle, and the frame of a command that ends in a state. -/
namespace Sys2Proof.Machine

open Sys2Proof

/-- No user pin is driven by its owner: each is unsettled, at its safe-state row value, or held (R25, R199, R337). -/
def State.pinsSafe (s : State) : Bool := s.chn.pins != .owners

/-- Nothing waits to be settled when a command ends, sleep apart: no safety input has been raised or is active, no EMCY cause stands, no
failed start-up, SRDO fault or Reset Communication is pending. -/
def State.quiet (s : State) : Bool :=
  s.saf.due.isEmpty && s.rd Fd.SAF_ACTIVE_ACTIVE == 0 && s.net.causes.isEmpty && (s.sys.phase == .over || s.mode != Md.safe) &&
  !s.net.resetComm && s.net.srdoFault.isEmpty && (!driving s.mode || s.rd Fd.NET_SRDO_VALID_VALID == 0xA5)

/-- Nothing waits to be settled when a command ends, and no sleep phase is under way. -/
def State.calm (s : State) : Bool := s.quiet && s.pwr.sleep == .awake

/-- Every block has its clock and nothing waits to be settled. -/
def State.live (s : State) : Bool := sysOn s && s.calm

/-- The commands that act without the engine clock (log entry 4): supplies, reset and freeze pins, the always-on domain, the test port. -/
def Unclocked (c : Instr) : Prop :=
  c ∈ [.powerOn, .brownOut, .resetN, .resetNRelease, .freezeN, .jtagExtest, .jtagSamplePreload, .jtagIdcode, .jtagHighz, .jtagBypass,
    .jtagLcsStatus, .jtagClamp, .testLogicReset] ∨
  (∃ w a n d, c = .dbgAccess w a n d) ∨ (∃ a n l, c = .freezeRead a n l) ∨ (∃ r, c = .aonSourceSwitch r) ∨ (∃ l, c = .wakePin l) ∨
  (∃ n, c = .bankSupplyLost n) ∨ ∃ n, c = .bankSupplyReturn n

/-- What a list of steps makes of a state: a command, or (none) an idle tick. -/
def runAll : List (Option Instr) → State → State
  | [], s => s
  | none :: r, s => match step { s with pending := [] } with
    | .next t => runAll r t
    | _ => s
  | some c :: r, s => match step { s with pending := [c] } with
    | .next t => runAll r t
    | _ => s

/-- `t` differs from `s` in listed register fields only. -/
def RegsOnly (l : List Fld) (s t : State) : Prop :=
  { t with regs := s.regs } = s ∧ ∀ f : Fld, f.key ∉ l.map Fld.key → t.rd f = s.rd f

/-- Written memory words read back as written: no injection is armed and no BIST slice borrows words. -/
abbrev State.plainMem (s : State) : Prop := s.rdB Fd.MEM_INJ_ARMED = false ∧ s.bst.slice = []

/-- Every block but the listed kinds of state is as it was: registers, memory words and their bookkeeping, and queue state may differ. -/
def QueFrame (s t : State) : Prop :=
  { t with regs := s.regs, mem := s.mem, mst := s.mst, que := s.que, irq := s.irq } = s

/-- Every queue but `q` has the descriptor and the halt-map entry it had. -/
def OtherQueues (q : Nat) (s t : State) : Prop :=
  ∀ r, r ≠ q → r < 65536 → getDesc t r = getDesc s r ∧ qState t r = qState s r ∧ qCause t r = qCause s r

/-! ### Scribe pairs -/

/-- A pair of a live device is about to execute an instruction: RUNNING in a mode that admits it, no WAIT or PWAIT in progress, no
breakpoint at its PC, and the word at its PC is fetched clean and is a legal encoding. -/
def ScrFree (p : Nat) (s : State) : Prop :=
  p < 8 ∧ s.live = true ∧ scrReady s p = true ∧ bpHit p s = none ∧ ∃ w, scrFetch p s = (.word w, s) ∧ (runWord p w s).isSome = true

/-- The word at the PC of pair `p` is fetched clean, and is `w`. -/
def ScrHas (p w : Nat) (s : State) : Prop := scrFetch p s = (.word w, s)

/-- An instruction of pair `p` changes only its pair and, of the register file, listed fields. -/
def ScrFrame (p : Nat) (l : List Fld) (s t : State) : Prop :=
  { t with regs := s.regs, scr := s.scr } = s ∧ (∀ q, q ≠ p → t.pairOf q = s.pairOf q) ∧
  ∀ f : Fld, f.key ∉ l.map Fld.key → t.rd f = s.rd f

/-- The instruction is counted and the PC of the pair moves to an address. -/
def ScrGoes (p pc : Nat) (s t : State) : Prop :=
  t.rd (Fd.SCR_PC_PC p) = pc % 2 ^ 32 ∧ t.rd (Fd.SCR_RETIRED_COUNT p) = (s.rd (Fd.SCR_RETIRED_COUNT p) + 1) % 2 ^ 64

/-- The address of the next instruction of a pair. -/
def scrNext (p : Nat) (s : State) : Nat := s.rd (Fd.SCR_PC_PC p) + 4

/-- What every instruction that does nothing else with its pair writes: PC and RETIRED. -/
def scrPcFlds (p : Nat) : List Fld := [Fd.SCR_PC_PC p, Fd.SCR_RETIRED_COUNT p]

/-- Register `rd` of pair `p` takes `v` (g0 takes nothing), and the pair holds everything else as it did. -/
def ScrSets (p rd v : Nat) (s t : State) : Prop :=
  (∀ r, gRead t p r = if r = rd ∧ r ≠ 0 then v % 2 ^ 32 else gRead s p r) ∧ { t.pairOf p with g := (s.pairOf p).g } = s.pairOf p

/-- An instruction of pair `p` leaves `v` in register `rd`, goes on at the next instruction and changes nothing else. -/
def ScrGives (p rd v : Nat) (s t : State) : Prop :=
  ScrFrame p (scrPcFlds p) s t ∧ ScrGoes p (scrNext p s) s t ∧ ScrSets p rd v s t

/-- An instruction of pair `p` leaves `x` fitted to `n` bits in `rd`, with SAT or OVF set where it does not fit (R160). -/
def ScrFits (p rd : Nat) (sat sgn : Bool) (x : Int) (s t : State) : Prop :=
  let lo : Int := if sgn then -2147483648 else 0
  let hi : Int := if sgn then 2147483647 else 4294967295
  let out := x < lo ∨ hi < x
  ScrFrame p (Fd.SCR_PSTAT_SAT p :: Fd.SCR_PSTAT_OVF p :: scrPcFlds p) s t ∧ ScrGoes p (scrNext p s) s t ∧
  ScrSets p rd (enc 32 (if sat then clampI lo hi x else x)) s t ∧
  t.rd (Fd.SCR_PSTAT_SAT p) = (if out ∧ sat = true then 1 else s.rd (Fd.SCR_PSTAT_SAT p)) ∧
  t.rd (Fd.SCR_PSTAT_OVF p) = (if out ∧ sat = false then 1 else s.rd (Fd.SCR_PSTAT_OVF p))

/-- A pair enters a trap (R167): PC, cause, information and count, and the vector, or the stop of a second trap. -/
def ScrTraps (p cause info pc : Nat) (s t : State) : Prop :=
  t.rd (Fd.SCR_TRAP_PC_VALUE p) = pc % 2 ^ 32 ∧ t.rd (Fd.SCR_TRAP_CAUSE p) = cause ∧
  t.rd (Fd.SCR_TRAP_INFO_VALUE p) = info % 2 ^ 32 ∧ t.rd (Fd.SCR_TRAP_COUNT p) = min (s.rd (Fd.SCR_TRAP_COUNT p) + 1) 65535 % 65536 ∧
  (if s.rdB (Fd.SCR_PSTAT_IN_TRAP p) then t.rd (Fd.SCR_PSTAT_STATE p) = 0
   else t.rd (Fd.SCR_PSTAT_IN_TRAP p) = 1 ∧ t.rd (Fd.SCR_PC_PC p) = (s.pairOf p).tvec.toNat)

end Sys2Proof.Machine
end

