-- ==== Sys2Proof/Certificates/Slice0/Obligations.lean ====
section
/-! DEFINITION. The statements about the model, for the provers. Each is a proposition named `Obligations.<Name>`; its docstring cites the
rules of the spec it formalises, and says so where a clause is the model's own choice. -/

open Sys2Proof Sys2Proof.Machine

/-- For every command c, state s and rest of the queue: step of s with c at the front of its queue is exec of c on s with the queue's rest.
(95_what_each_step_holds.md) -/
def Obligations.StepRunsFrontCommand : Prop :=
  ∀ (c : Instr) (rest : List Instr) (s : State), step { s with pending := c :: rest } = exec c { s with pending := rest }

/-- With no command waiting: a device without supply does not change; one that has it passes one tick of the user logic's clocks, of device
time and of the always-on counter, what waited (a program its pace held back, held frames, SDRAM accesses, a host SPI operation) goes
on, and what that raises is settled. In a live device without user logic, without anything that waits and without a running idle timer
nothing but device time and the always-on counter changes. That an empty queue lets a tick pass is the model's choice (log entry 3).
(R311, R44) -/
def Obligations.IdleStepIsOneTick : Prop :=
  ∀ s : State, s.pending = [] →
    (s.sys.phase = .noVin → step s = .next s) ∧
    (s.sys.phase ≠ .noVin → step s = .next (finish (goOn (clockTick s)))) ∧
    (s.live = true → s.fab.released = false → s.fab.swapTick = [] → s.net.tpdoHeld = [] → s.net.spiOp = none → s.xmc.waits = [] →
      s.cfg.cmd = none → s.log.bridge = none →
      s.rdB Fd.PWR_IDLE_TMR_EN = false → ∃ t, step s = .next t ∧ t.now = (s.now + 1) % 2 ^ 64 ∧
      { t with regs := s.regs, log := s.log } = s ∧ ∀ f : Fld, f.key ∉ [Fd.LOG_TIME_TIME, Fd.LOG_AON_COUNT].map Fld.key → t.rd f = s.rd f)

/-- On a device that is FROZEN, held in reset or without supply, every command but the supply, reset, freeze, always-on and JTAG commands
answers the state it was given, unchanged. Which rows need which clock is the model's reading of R13 and Table 1.1 (log entry 4).
(R378, R13, Table 1.7) -/
def Obligations.NoClockNoEffect : Prop :=
  ∀ (c : Instr) (s : State), clocked s = false → ¬Unclocked c → exec c s = .next s

/-- After reset the mode is LOAD in the first phase of the start-up timeline, no command waits, every memory word is as power-on leaves it,
no pin is driven, no queue is in use, no nib, estimator or scribe pair holds anything; SYS_RESET_CAUSE shows POWER_ON alone; every
register field but POWER_ON and the checks of retained RAM holds its value after reset; SAFE_A_N and SAFE_B_N are low. That the
estimators, the pairs and the memories hold nothing at power-on is the model's choice (log entries 9 and 10). (R24, R25, R9) -/
def Obligations.ResetState : Prop :=
  let s := State.reset
  s.mode = Md.load ∧ s.sys.phase = .regulators ∧ s.pending = [] ∧ s.mem = [] ∧ s.chn.pins = .unsettled ∧ s.pinsSafe = true ∧
    s.que = queFresh ∧ s.nib = nibFresh ∧ s.scr.pair = [] ∧ s.afe = afeFresh ∧ s.irq.src = [] ∧ s.chn.level = [] ∧
    s.rd Fd.SYS_RESET_CAUSE_POWER_ON = 1 ∧ s.rd Fd.SYS_RESET_CAUSE_BROWN_OUT = 0 ∧ s.rd Fd.SYS_RESET_CAUSE_PIN = 0 ∧
    s.rd Fd.SYS_RESET_CAUSE_WARM_CMD = 0 ∧ safePinsLow s = true ∧
    (∀ f : Fld, f.key ∉ [Fd.SYS_RESET_CAUSE_POWER_ON, Fd.PWR_RCHK_CRC 0, Fd.PWR_RCHK_CRC 1, Fd.PWR_RCHK_CRC 2].map Fld.key → s.rd f = f.rst)

/-- The stored memory words of the reset state have their canonical form (addresses strictly rising, no entry equal to what an unlisted
word reads as), and so has the register file's order. (R218, R9) -/
def Obligations.ResetMeetsMemoryForm : Prop :=
  Memory.wf State.reset.mem = true ∧ mapWf State.reset.regs = true

/-- From every state whose stored memory words have their canonical form, whatever command stands at the front of the queue and also with
none, a step that answers a next state answers one whose stored words have it; and so for the canonical form of the register file, its
keys strictly rising. (R218, R219, R222, R226, R9) -/
def Obligations.MemoryFormIsKept : Prop :=
  ∀ s t : State, step s = .next t →
    (Memory.wf s.mem = true → Memory.wf t.mem = true) ∧ (mapWf s.regs = true → mapWf t.regs = true)

/-- FREEZE_N reads deasserted without VCCIO6; with it, it brings any device that has supply and is not held in reset into FROZEN with its
pins safe. From a FROZEN state, any list of commands without POWER_ON, BROWN_OUT and RESET_N, mixed with idle ticks, leaves the mode
FROZEN and the pins, channels, memories, queues, nibs, estimators, scribe pairs, planes, flash, life cycle and device time as they
were, and the SDRAM lines unless its bank loses its supply; of the register file only always-on, bank-supply and test-port fields
change. The VCCIO6 clause is the text under R382; that a sleep ends and what goes on in FROZEN rest on log entries 46 and 47. A bridge
is not about to end in FROZEN, and RESET_N is not low without VCCIO6. (R378, R382, 17_electrical_package.md) -/
def Obligations.FrozenIsKept : Prop :=
  (∀ s : State, 6 ∈ s.pwr.absent → exec .freezeN s = .next (finish s)) ∧
  (∀ s : State, 6 ∉ s.pwr.absent → s.sys.phase ≠ .noVin → s.sys.phase ≠ .resetHeld → ∃ t, exec .freezeN s = .next t ∧ t.mode = Md.frozen ∧
      t.pwr.sleep = (if s.mode = Md.frozen then s.pwr.sleep else .awake) ∧ (s.mode ≠ Md.frozen → t.pinsSafe = true ∧ safePinsLow t = true)) ∧
  ∀ (l : List (Option Instr)) (s : State), s.mode = Md.frozen → s.pwr.sleep = .awake → s.sys.resetLow = false →
    s.log.bridge.any (fun b => b.ending) = false → s.sys.phase ≠ .noVin → s.sys.phase ≠ .resetHeld →
    (∀ c, c ∈ l → c ≠ some .powerOn ∧ c ≠ some .brownOut ∧ c ≠ some .resetN) →
    let t := runAll l s
    t.mode = Md.frozen ∧ t.now = s.now ∧ t.chn = s.chn ∧ t.mem = s.mem ∧ t.mst = s.mst ∧ t.que = s.que ∧ t.nib = s.nib ∧ t.afe = s.afe ∧
    t.scr = s.scr ∧ (some (.bankSupplyLost 12) ∉ l → t.xmc = s.xmc) ∧ t.cfg = s.cfg ∧ t.ufl = s.ufl ∧ t.lcs = s.lcs ∧ t.net = s.net ∧
      t.saf = s.saf ∧
    ∀ f : Fld, f.key ∉ ([Fd.LOG_AON_COUNT, Fd.LOG_AON_SRC, Fd.LOG_AON_SRC_CHANGED, Fd.DBG_STAT_BSCAN_REFUSED, Fd.PWR_BANK_STAT_PRESENT,
      Fd.PWR_BANK_STAT_LOST] ++
      (List.range 8).map Fd.IRQ_TGT_STAT_AON_CHANGED).map Fld.key → t.rd f = s.rd f

/-- On a clocked device: PLL_LOCK ends the first phase, lets the time bridge end at the next always-on edge, and takes the calibration row,
or latches CAL_INVALID where no copy is valid; PLL_LOCK_RETRY keeps the phase, counts the retry and sets the pins safe; PIN_SETTLE
brings the pins to their safe-state row values and begins the vote; LCS_VOTE puts the voted state in LCS_STATE, gives OPEN the rights
0x3F and other states none, and enters SELFTEST; STARTUP_TEST_END returns to LOAD with STARTUP_DONE and the committed bank under trial
on a pass, and enters SAFE with LAST_CAUSE naming MEM or BST on a fail. (Table 1.9, R25, R26, R264, R365, R21, R374) -/
def Obligations.StartUpTimelineAdvances : Prop :=
  ∀ (s : State) (which chk : Nat) (march : Bool), clocked s = true →
    (s.mode = Md.load → s.sys.phase = .regulators → ∃ u, exec .pllLock s = .next (finish u) ∧ u.sys.phase = .pinSettle ∧ u.mode = Md.load ∧
      u.log.bridge = s.log.bridge.map (fun b => { b with ending := true }) ∧ (calRow s = none → u.rd Fd.AFE_FAULT_CAL_INVALID = 1 ∧
        u.rd Fd.UFL_STAT_CAL_VALID = 0) ∧
      (calRow s ≠ none → u.rd Fd.UFL_STAT_CAL_VALID = 1)) ∧
    (s.mode = Md.load → s.sys.phase = .regulators → ∃ u, exec (.pllLockRetry which) s = .next (finish u) ∧ u.sys.phase = .regulators ∧
      u.mode = Md.load ∧ u.chn.pins = .safe ∧ u.sys.pllRetries = s.sys.pllRetries + 1) ∧
    (s.mode = Md.load → s.sys.phase = .pinSettle → ∃ u, exec .pinSettle s = .next (finish u) ∧ u.sys.phase = .vote ∧ u.mode = Md.load ∧
      u.chn.pins = .safe ∧ u.mem = s.mem) ∧
    (s.mode = Md.load → s.sys.phase = .vote → ∃ u, exec .lcsVote s = .next (finish u) ∧ u.sys.phase = .startTest ∧ u.mode = Md.selftest ∧
      u.rd Fd.LCS_STATE_STATE = (voteState s).1 ∧ u.rd Fd.DBG_RIGHTS_RIGHTS = (if (voteState s).1 = 0 then 0x3F else 0)) ∧
    (s.mode = Md.selftest → s.sys.phase = .startTest →
      (chk = 0 → march = false → ∃ u, exec (.startupTestEnd chk march) s = .next (finish u) ∧ u.sys.phase = .auth ∧ u.mode = Md.load ∧
        u.rd Fd.SYS_MODE_STARTUP_DONE = 1 ∧ u.cfg.loadBank = s.rd Fd.CFG_STAT_COMMITTED_BANK) ∧
      (chk ≠ 0 ∨ march = true → ∃ u, exec (.startupTestEnd chk march) s = .next (finish u) ∧ u.mode = Md.safe ∧ u.pinsSafe = true ∧
        u.rd Fd.SYS_MODE_LAST_CAUSE = (if chk ≠ 0 then Blk.mem else Blk.bst)))

/-- On a clocked device in LOAD: the authentication of the bank under trial passes to streaming or to defaults with AUTH set, or on a
failure tries the other bank once, the failure of both ending in SAFE with no plane active; a stream whose hash matches is done, a
first mismatch sets LOAD_RETRY and is tried again, a second ends in SAFE; LOAD_RELEASE, with no dictionary access waiting, ends the
start-up in STANDBY with user logic released, or in SAFE where an input latched in a sleep acts; on a calm device the answer is that
state itself; RETENTION_CHECK is made once in a start-up that is not a power-on; FABRIC_DEFAULTS_DONE sets FABRIC_DONE and sends the
boot-up message. (R196, R200, R201, R274, R334, R279, R286) -/
def Obligations.ImageLoadSelectsABank : Prop :=
  ∀ (s : State) (n : Nat) (disturbed : Bool) (m : List Byte), clocked s = true →
    let b : Nat := s.cfg.loadBank
    (s.mode = Md.load → s.sys.phase = .auth → b < 2 →
      (authentic s b = true → ∃ u, exec .manifestAuth s = .next (finish u) ∧ (u.sys.phase = .stream ∨ u.sys.phase = .defaults) ∧
        u.rd (Fd.CFG_BANK_STAT_AUTH b) = 1 ∧ u.cfg.streamed = [] ∧ (s.calm = true → finish u = u)) ∧
      (authentic s b = false → b = s.rd Fd.CFG_STAT_COMMITTED_BANK → ∃ u, exec .manifestAuth s = .next (finish u) ∧ u.sys.phase = .auth ∧
        u.mode = Md.load ∧ u.cfg.loadBank = 1 - b ∧ u.rd (Fd.CFG_BANK_STAT_AUTH b) = 0 ∧ (s.calm = true → finish u = u)) ∧
      (authentic s b = false → b ≠ s.rd Fd.CFG_STAT_COMMITTED_BANK → ∃ u, exec .manifestAuth s = .next (finish u) ∧ u.mode = Md.safe ∧
        u.cfg.active = [] ∧ u.rd Fd.SYS_MODE_LAST_CAUSE = Blk.cfg)) ∧
    (s.mode = Md.load → s.sys.phase = .stream → manifest s b = some m → slotNeeded m n = true → s.cfg.streamed.contains n = false →
      let good : Bool := slotMatches s b m n && !disturbed
      (good = true → ∃ u, exec (.sectorStreamEnd n disturbed) s = .next (finish u) ∧ u.cfg.streamed.contains n = true ∧
        (u.sys.phase = .stream ∨ u.sys.phase = .defaults)) ∧
      (good = false → s.cfg.retried.contains n = false → ∃ u, exec (.sectorStreamEnd n disturbed) s = .next (finish u) ∧
        u.rd Fd.CFG_STAT_LOAD_RETRY = 1 ∧ u.cfg.retried.contains n = true ∧ u.cfg.streamed = s.cfg.streamed ∧ u.mem = s.mem ∧
        (s.calm = true → finish u = u)) ∧
      (good = false → s.cfg.retried.contains n = true → ∃ u, exec (.sectorStreamEnd n disturbed) s = .next (finish u) ∧ u.mode = Md.safe ∧
        u.cfg.active = [])) ∧
    (s.mode = Md.load → s.sys.phase = .defaults → s.net.work = [] → ∃ u, exec .loadRelease s = .next (finish u) ∧ u.sys.phase = .over ∧
      (u.mode = Md.standby ∨ u.mode = Md.safe) ∧ (s.pwr.sleep = .awake → s.saf.slept = 0 → u.mode = Md.standby ∧ u.fab.released = true)) ∧
    (s.mode = Md.load → s.pwr.sleep = .awake → s.sys.phase = .defaults →
      ∃ u, exec .retentionCheck s = .next (finish u) ∧ (s.sys.kind = 0 ∨ s.sys.checked = true → u = s) ∧
        (s.sys.kind ≠ 0 → s.sys.checked = false → u.sys.checked = true ∧ u.sys.phase = .defaults)) ∧
    (sysOn s = true → s.sys.phase = .over → s.fab.released = true → fabricDue s = false → s.rdB Fd.NET_DEF_STAT_FABRIC_DONE = false →
      ∃ u, exec .fabricDefaultsDone s = .next (finish u) ∧ u.rd Fd.NET_DEF_STAT_FABRIC_DONE = 1 ∧
        u.net.tx = [fdFrame s (0x700 + s.net.node) [0]])

/-- POWER_ON, BROWN_OUT and RESET_N act without a clock; WARM_RESET with its key and NMT_RESET_NODE from STANDBY, RUN, LIMITED or SAFE.
Each leaves the mode LOAD, its bit of SYS_RESET_CAUSE set, no queue in use, no nib and no scribe pair running; power-on and brown-out
lose every memory word, the others all but retained RAM; a warm reset keeps the SDRAM lines. RESET_N (while VCCIO6 is absent only its
level is noted) and BROWN_OUT hold the device in reset; RESET_N_RELEASE begins the timeline. A write of SYS_RESET_CMD with another key
changes nothing. That the angle front end is among what is cleared, and that every word but those of retained RAM reads 0 after a
reset, are the model's choice (log entries 9, 10 and 19). (R24, R21, Table 1.6, Table 1.8, R286) -/
def Obligations.ResetsEnterLoad : Prop :=
  ∀ (s : State) (v : Nat),
    let cleared : State → Prop := fun u => u.mode = Md.load ∧ u.que = queFresh ∧ u.nib = nibFresh ∧ u.scr.pair = [] ∧ u.afe = afeFresh ∧
      u.pinsSafe = true ∧ ∀ p, p < 8 → u.rd (Fd.SCR_PSTAT_STATE p) = 0
    let keepsRet : State → Prop := fun u => ∀ k, k / 2 ^ 32 ≠ 13 → mapGet 0 u.mem k = 0
    (∃ u, exec .powerOn s = .next u ∧ cleared u ∧ u.mem = [] ∧ u.rd Fd.SYS_RESET_CAUSE_POWER_ON = 1 ∧
      u.sys.phase = (if s.sys.resetLow = true ∧ 6 ∉ s.pwr.absent then .resetHeld else .regulators)) ∧
    (s.sys.phase ≠ .noVin → ∃ u, exec .brownOut s = .next u ∧ cleared u ∧ u.mem = [] ∧ u.rd Fd.SYS_RESET_CAUSE_BROWN_OUT = 1 ∧
      u.sys.phase = .noVin) ∧
    (6 ∈ s.pwr.absent → exec .resetN s = .next (finish { s with sys := { s.sys with resetLow := true } })) ∧
    (6 ∉ s.pwr.absent → s.sys.phase ≠ .noVin → s.sys.phase ≠ .resetHeld → ∃ u, exec .resetN s = .next u ∧ cleared u ∧ keepsRet u ∧
      u.rd Fd.SYS_RESET_CAUSE_PIN = 1 ∧ u.sys.phase = .resetHeld ∧ u.sys.resetLow = true) ∧
    (s.sys.phase = .resetHeld → ∃ u, exec .resetNRelease s = .next (finish u) ∧ u.sys.phase = .regulators ∧ u.sys.resetLow = false ∧
      u.mode = s.mode ∧ u.mem = s.mem ∧ (s.calm = true → s.mode = Md.load → finish u = u)) ∧
    (sysOn s = true → warmFrom s = true →
      (v % 2 ^ 16 = 0x6B5D → v.testBit 16 = true → ∃ u, exec (.warmReset v) s = .next u ∧ cleared u ∧ keepsRet u ∧
        u.rd Fd.SYS_RESET_CAUSE_WARM_CMD = 1 ∧ u.sys.phase = .regulators ∧ u.xmc.lines = s.xmc.lines) ∧
      (v % 2 ^ 16 ≠ 0x6B5D ∨ v.testBit 16 = false → exec (.warmReset v) s = .next (finish s)) ∧
      ∃ u, exec .nmtResetNode s = .next u ∧ cleared u ∧ keepsRet u ∧ u.rd Fd.SYS_RESET_CAUSE_NMT_RESET = 1 ∧
        u.sys.phase = .regulators)

/-- On a device whose sys clock runs, with no request and no SCRAP in progress: TARGET 1 from STANDBY with no queue RUNNING enters
SELFTEST, but in the state INVALID is refused with ACCESS and BST_STAT.CFG_REFUSED; TARGET 2 from RUN or LIMITED retracts and waits
(BUSY), from an acknowledged SAFE enters STANDBY; TARGET 3 enters RUN, or LIMITED, where the start trigger is admitted, the pins
passing to their owners; TARGET 5 enters SAFE with safe pins; where Table 1.6 does not admit the trigger the status is REFUSED_MODE and
nothing else changes but the idle timer, which every request restarts (R333). While BUSY is 1 every request, TARGET 5 too, returns BUSY
and is discarded; while a SCRAP runs only TARGET 5 acts. SELFTEST_END returns to STANDBY on a pass and enters SAFE on a fail, once
every masked target is marched or a check failed, and does nothing before; STANDBY_OUTPUTS_SAFE ends the move to STANDBY once no nib is
locked. SAF_STAT.REACTION after TARGET 5 and TARGET 5 while BUSY are the model's reading (log entry 27), SELFTEST_END that of log entry
59. (R21, R22, R23, R144, R361, Table 1.6) -/
def Obligations.ModeRequestsAct : Prop :=
  ∀ (s : State) (failPhase chk : Nat), sysOn s = true →
    let reqs : List Instr := [.modeReqSelftest, .modeReqStandby, .modeReqRun, .modeReqSafe]
    let status : State → Nat := fun u => u.rd Fd.SYS_MODE_REQ_STATUS
    let refused : Instr → Prop := fun c => ∃ u, exec c s = .next (finish u) ∧ status u = 2 ∧
      RegsOnly [Fd.SYS_MODE_REQ_STATUS, Fd.SYS_MODE_REQ_BUSY] (idleRestart s) u
    (s.rdB Fd.SYS_MODE_REQ_BUSY = true → ∀ c, c ∈ reqs → exec c s = .next (finish ((idleRestart s).wr Fd.SYS_MODE_REQ_STATUS 1))) ∧
    (s.rdB Fd.SYS_MODE_REQ_BUSY = false → scrapping s = true →
      refused .modeReqSelftest ∧ refused .modeReqStandby ∧ refused .modeReqRun) ∧
    (s.rdB Fd.SYS_MODE_REQ_BUSY = false → scrapping s = false →
      (lcsState s = 3 → ∃ u, exec .modeReqSelftest s = .next (finish u) ∧ status u = St.access ∧ u.mode = s.mode ∧
        u.rd Fd.BST_STAT_CFG_REFUSED = 1 ∧ u.rd Fd.BST_STAT_STATUS = St.access) ∧
      (lcsState s ≠ 3 → s.mode = Md.standby → queuesIn s 1 = [] → ∃ u, exec .modeReqSelftest s = .next (finish u) ∧ u.mode = Md.selftest ∧
        status u = 0 ∧
        u.sys.selfTest = true ∧ u.mem = s.mem) ∧
      (lcsState s ≠ 3 → s.mode ≠ Md.standby ∨ queuesIn s 1 ≠ [] → refused .modeReqSelftest) ∧
      (driving s.mode = true → ∃ u, exec .modeReqStandby s = .next (finish u) ∧ u.mode = s.mode ∧ u.sys.toStandby = true ∧
        u.rd Fd.SYS_MODE_REQ_BUSY = 1 ∧ status u = 0) ∧
      (driving s.mode = false → standbyFrom s = true → ∃ u, exec .modeReqStandby s = .next (finish u) ∧ u.mode = Md.standby ∧
        status u = 0 ∧ u.rd Fd.SYS_MODE_REQ_BUSY = 0 ∧ u.mem = s.mem) ∧
      (standbyFrom s = false → refused .modeReqStandby) ∧
      (∀ m, startLeads true s = some m → ∃ u, exec .modeReqRun s = .next (finish u) ∧ u.mode = m ∧ (m = Md.run ∨ m = Md.limited) ∧
        status u = 0 ∧ (s.mode = Md.standby → u.chn.pins = .owners) ∧ u.mem = s.mem) ∧
      (startLeads true s = none → refused .modeReqRun)) ∧
    (s.rdB Fd.SYS_MODE_REQ_BUSY = false →
      (safeReqFrom s = true → ∃ u, exec .modeReqSafe s = .next (finish u) ∧ u.mode = Md.safe ∧ u.pinsSafe = true ∧ u.nib.nibs = [] ∧
        u.saf.reaction = true ∧ status u = 0) ∧
      (safeReqFrom s = false → refused .modeReqSafe)) ∧
    (s.mode = Md.selftest → s.sys.selfTest = true → failPhase = 0 → chk = 0 → bstMarched s = false →
      exec (.selftestEnd failPhase chk) s = .next (finish s)) ∧
    (s.mode = Md.selftest → s.sys.selfTest = true → failPhase ≠ 0 ∨ chk ≠ 0 ∨ bstMarched s = true →
      ∃ u, exec (.selftestEnd failPhase chk) s = .next (finish u) ∧
      u.mode = (if failPhase = 0 ∧ chk = 0 ∧ s.bst.testBad = false then Md.standby else Md.safe) ∧ u.rd Fd.BST_STAT_DONE = 1 ∧
        u.sys.selfTest = false) ∧
    (s.sys.toStandby = true → s.nib.nibs.all (fun e => e.2.mode != .locked) = true →
      ∃ u, exec .standbyOutputsSafe s = .next (finish u) ∧ u.mode = Md.standby ∧ u.pinsSafe = true ∧ u.chn.trail = [] ∧ status u = 0 ∧
        u.rd Fd.SYS_MODE_REQ_BUSY = 0 ∧ u.sys.toStandby = false)

/-- On a device whose sys clock runs, in a mode that receives frames: Start Remote Node enters RUN or LIMITED where the start trigger is
admitted and no request is in progress; Enter Pre-operational moves RUN or LIMITED toward STANDBY, or an acknowledged SAFE to STANDBY;
Stop Remote Node enters SAFE; Reset Communication outside RUN and LIMITED ends in a boot-up message, and in them waits for STANDBY. A
command that Table 1.6 does not admit sets NMT_REFUSED and changes nothing else but the idle timer, which it restarts. While a SCRAP
runs Start and Enter Pre-operational are refused. In LOAD and SLEEP no NMT command has an effect. That a command other than Stop is
refused while a request is in progress is the model's reading (log entry 53). (R286, R22, Table 1.6) -/
def Obligations.NmtCommandsAct : Prop :=
  ∀ s : State, sysOn s = true →
    let cmds : List Instr := [.nmtStartRemoteNode, .nmtEnterPreOperational, .nmtStopRemoteNode, .nmtResetNode, .nmtResetCommunication]
    let idle : Prop := s.rdB Fd.SYS_MODE_REQ_BUSY = false
    let free : Prop := idle ∧ scrapping s = false
    let refused : Instr → Prop := fun c => exec c s = .next (finish ((idleRestart s).set1 Fd.NET_STAT_NMT_REFUSED))
    (nmtServed s = false → ∀ c, c ∈ cmds → exec c s = .next (finish s)) ∧
    (nmtServed s = true →
      (∀ m, startLeads false s = some m → free → ∃ u, exec .nmtStartRemoteNode s = .next (finish u) ∧ u.mode = m ∧ u.chn.pins = .owners) ∧
      (startLeads false s = none ∨ ¬free → refused .nmtStartRemoteNode) ∧
      (driving s.mode = true → free → ∃ u, exec .nmtEnterPreOperational s = .next (finish u) ∧ u.sys.toStandby = true ∧ u.mode = s.mode) ∧
      (driving s.mode = false → standbyFrom s = true → free → ∃ u, exec .nmtEnterPreOperational s = .next (finish u) ∧ u.mode = Md.standby) ∧
      (standbyFrom s = false ∨ ¬free → refused .nmtEnterPreOperational) ∧
      (safeReqFrom s = true → ∃ u, exec .nmtStopRemoteNode s = .next (finish u) ∧ u.mode = Md.safe ∧ u.pinsSafe = true ∧
        u.rd Fd.SYS_MODE_LAST_CAUSE = 0) ∧
      (safeReqFrom s = false → refused .nmtStopRemoteNode) ∧
      (warmFrom s = false → refused .nmtResetNode) ∧
      (driving s.mode = true → ¬idle → refused .nmtResetCommunication) ∧
      (driving s.mode = true → idle → ∃ u, exec .nmtResetCommunication s = .next (finish u) ∧ u.net.resetComm = true ∧
        u.sys.toStandby = true) ∧
      (driving s.mode = false → ∃ u l, exec .nmtResetCommunication s = .next (finish u) ∧
        u.net.tx = l ++ [fdFrame u (0x700 + u.net.node) [0]] ∧
        u.net.node = u.rd Fd.NET_CFG_NODE_ID ∧ (u.net.arbRate, u.net.dataRate) = netRates u ∧ u.net.line1 = u.rdB Fd.NET_CFG_LINE1_EN))

/-- On a device whose sys clock runs and whose rails are on: a write to SYS_RESET_CAUSE clears exactly the bits written 1; an eight-byte
write to XMC_FILL_PAT sets it and a four-byte write sets its low half alone; a read of SAF_CNT returns its counts and clears those the
access touches; an access to a reserved address while no bus error is captured is captured with its address, master, direction and
CAUSE 1. No memory word changes. A fabric master port that has no clock, or an access outstanding, sends nothing. (R7, R16, Table 0.4,
Table 1.3) -/
def Obligations.RegisterAccessCodes : Prop :=
  ∀ (s : State) (v a size master : Nat), sysOn s = true →
    (masterServed s master = false → exec (.registerWrite a size v master) s = .next (finish s) ∧
      exec (.rcFieldRead a size master) s = .next (finish s)) ∧
    (railsOff s = false → masterServed s master = true →
    let causes : List Fld := [Fd.SYS_RESET_CAUSE_POWER_ON, Fd.SYS_RESET_CAUSE_BROWN_OUT, Fd.SYS_RESET_CAUSE_PIN, Fd.SYS_RESET_CAUSE_WARM_CMD,
      Fd.SYS_RESET_CAUSE_NMT_RESET, Fd.SYS_RESET_CAUSE_S3_WAKE, Fd.SYS_RESET_CAUSE_FROZEN_EXIT, Fd.SYS_RESET_CAUSE_LCS_CHANGE]
    (∃ u, exec (.registerWrite 0x06120008 4 v master) s = .next (finish u) ∧ { u with regs := s.regs, sys := s.sys } = s ∧
      (∀ f, f ∈ causes → u.rd f = if v.testBit f.lo then 0 else s.rd f % 2) ∧
      ∀ f : Fld, f.key ∉ causes.map Fld.key → u.rd f = s.rd f) ∧
    (∃ u, exec (.registerWrite 0x06070020 8 v master) s = .next (finish u) ∧ { u with regs := s.regs, sys := s.sys } = s ∧
      u.rd Fd.XMC_FILL_PAT_PAT = v % 2 ^ 64 ∧ ∀ f : Fld, f.key ≠ Fd.XMC_FILL_PAT_PAT.key → u.rd f = s.rd f) ∧
    (∃ u, exec (.registerWrite 0x06070020 4 v master) s = .next (finish u) ∧ { u with regs := s.regs, sys := s.sys } = s ∧
      u.rd Fd.XMC_FILL_PAT_PAT = v % 2 ^ 32 + s.rd Fd.XMC_FILL_PAT_PAT / 2 ^ 32 % 2 ^ 32 * 2 ^ 32) ∧
    (∃ u, exec (.rcFieldRead 0x060C0080 8 master) s = .next (finish u) ∧ { u with regs := s.regs, sys := s.sys } = s ∧
      u.sys.rdData = s.rd Fd.SAF_CNT_SAFE + s.rd Fd.SAF_CNT_LIMITED * 2 ^ 16 + s.rd Fd.SAF_CNT_REPORT * 2 ^ 32 +
        s.rd Fd.SAF_CNT_WDG * 2 ^ 48 ∧
      u.rd Fd.SAF_CNT_SAFE = 0 ∧ u.rd Fd.SAF_CNT_LIMITED = 0 ∧ u.rd Fd.SAF_CNT_REPORT = 0 ∧ u.rd Fd.SAF_CNT_WDG = 0) ∧
    (∃ u, exec (.rcFieldRead 0x060C0080 4 master) s = .next (finish u) ∧ u.rd Fd.SAF_CNT_SAFE = 0 ∧ u.rd Fd.SAF_CNT_LIMITED = 0 ∧
      u.rd Fd.SAF_CNT_REPORT = s.rd Fd.SAF_CNT_REPORT ∧ u.rd Fd.SAF_CNT_WDG = s.rd Fd.SAF_CNT_WDG ∧ u.mem = s.mem) ∧
    (0x06130000 ≤ a → a < 0x08000000 → s.rdB Fd.SYS_BUSERR_INFO_VALID = false →
      ∃ u, exec (.registerWrite a size v master) s = .next (finish u) ∧ u.rd Fd.SYS_BUSERR_ADDR_ADDR = a ∧ u.rd Fd.SYS_BUSERR_INFO_CAUSE = 1 ∧
        u.rd Fd.SYS_BUSERR_INFO_WRITE = 1 ∧ u.rd Fd.SYS_BUSERR_INFO_MASTER = master % 256 ∧ u.rd Fd.SYS_BUSERR_INFO_VALID = 1 ∧
        u.mem = s.mem))

/-- On a device with its clocks: MODE_REQ_SLEEP returns BUSY while a request is in progress, RANGE for SLEEP_SEL 0, REFUSED_MODE outside
STANDBY or where an idle condition holds, and otherwise enters SLEEP with BUSY set, as IDLE_TIMER does once TIME has passed, no
condition holds and no SCRAP runs (either restarts the timer, the model's reading, log entry 77); an abort point abandons the entry to
STANDBY with ABANDONED set where an idle condition holds, or continues to the next phase, the hold cells closing at AP3; the end of the
power-down phase counts the sleep and clears BUSY. WAKE_PIN, HSP_CS_WAKE, MOTION_WAKE, WAKE_TIMER (N counts after the entry) and
NET_WAKE (MODE 1 or 2), where enabled, latch their event of Table 14.7 and start the wake of a sleeping device; WAKE_DONE returns it to
STANDBY with WOKE and SLEEP_STATE; DEEPEN_TIMER, once DEEPEN_TIME has passed, goes on to AP4 and there to the deeper state or, where an
idle condition holds at either, is abandoned once. (R327, R328, R329, R330, R331, R332, R333, R337, Table 14.5, Table 14.7) -/
def Obligations.SleepEntryAndWake : Prop :=
  ∀ (s : State) (sel ap st l : Nat), clocked s = true →
    let woken : State → Nat → Prop := fun u k => u.pwr.sleep = .waking st ∧ u.pwr.wake.testBit (k - 1) = true ∧ (s.quiet = true → st ≠ 3 →
      finish u = u)
    let entered : Instr → Nat → Prop := fun c n => ∃ u, exec c s = .next (finish u) ∧ u.mode = Md.sleep ∧ u.pwr.sleep = .entry 2 ∧
      u.pwr.sel = n ∧ ((∀ i, i < 512 → s.rd (Fd.IRQ_SRC_CFG_WAKE_EN i) = 0) → u.pwr.wake = 0) ∧ u.rd Fd.SYS_MODE_REQ_BUSY = 1 ∧
        u.fab.connected = false
    let answers : Nat → Prop := fun v => ∃ u, exec (.modeReqSleep sel) s = .next (finish u) ∧ u.rd Fd.SYS_MODE_REQ_STATUS = v ∧
      u.mode = s.mode ∧ u.pwr = (idleRestart s).pwr ∧ u.mem = s.mem
    (sysOn s = true →
    (s.rd Fd.SYS_MODE_REQ_BUSY = 1 → answers 1) ∧
    (s.rd Fd.SYS_MODE_REQ_BUSY = 0 → scrapping s = true → answers 2) ∧
    (s.rd Fd.SYS_MODE_REQ_BUSY = 0 → scrapping s = false → sel = 0 → answers 9) ∧
    (s.rd Fd.SYS_MODE_REQ_BUSY = 0 → sel ≠ 0 → s.mode ≠ Md.standby → answers 2) ∧
    (s.rd Fd.SYS_MODE_REQ_BUSY = 0 → sel ≠ 0 → s.mode = Md.standby → idleCond sel s ≠ none → answers 2) ∧
    (s.rd Fd.SYS_MODE_REQ_BUSY = 0 → sel ≠ 0 → s.mode = Md.standby → idleCond sel s = none → scrapping s = false →
      entered (.modeReqSleep sel) sel)) ∧
    (s.rd Fd.PWR_IDLE_TMR_EN = 1 → s.mode = Md.standby → idleOver s = true →
      (idleCond (max 1 (s.rd Fd.PWR_IDLE_TMR_SEL)) s = none → scrapping s = false →
        (s.rd Fd.SYS_MODE_REQ_BUSY = 0 → entered .idleTimer (max 1 (s.rd Fd.PWR_IDLE_TMR_SEL))) ∧
        (s.rd Fd.SYS_MODE_REQ_BUSY = 1 → exec .idleTimer s = .next (finish ((idleRestart s).wr Fd.SYS_MODE_REQ_STATUS 1)))) ∧
      (idleCond (max 1 (s.rd Fd.PWR_IDLE_TMR_SEL)) s ≠ none ∨ scrapping s = true → exec .idleTimer s = .next (finish (idleRestart s)))) ∧
    (s.rd Fd.PWR_IDLE_TMR_EN = 0 ∨ s.mode ≠ Md.standby ∨ idleOver s = false → exec .idleTimer s = .next (finish s)) ∧
    (s.pwr.sleep = .entry ap → 2 ≤ ap → ap ≤ 4 →
      (idleCond s.pwr.sel s ≠ none → s.saf.slept = 0 → ∃ u, exec .sleepAbortPoint s = .next (finish u) ∧ u.mode = Md.standby ∧
        u.pwr.sleep = .awake ∧ u.pwr.hold = false ∧ u.rd Fd.SYS_MODE_REQ_STATUS = 2 ∧ u.rd Fd.SYS_MODE_REQ_BUSY = 0 ∧
        u.rd Fd.PWR_STAT_ABANDONED = 1 ∧ u.rd Fd.PWR_LAST_AP = ap) ∧
      (idleCond s.pwr.sel s = none → ∃ u, exec .sleepAbortPoint s = .next (finish u) ∧ u.mode = s.mode ∧ u.pwr.sel = s.pwr.sel ∧
        (ap = 2 → u.pwr.sleep = .entry 3 ∧ (xmcReady s = true → u.xmc.selfRefresh = true)) ∧
        (ap = 3 → u.pwr.sleep = .entry 4 ∧ u.pwr.hold = true ∧ u.chn.pins = .held) ∧ (ap = 4 → u.pwr.sleep = .down))) ∧
    (s.pwr.sleep = .deepening st →
      (idleCond s.pwr.sel s = none → ∃ u, exec .sleepAbortPoint s = .next (finish u) ∧ u.pwr.sleep = .down ∧ u.pwr.sel = s.pwr.sel ∧
        u.mode = s.mode) ∧
      (idleCond s.pwr.sel s ≠ none → ∃ u, exec .sleepAbortPoint s = .next (finish u) ∧ u.pwr.sleep = .asleep st ∧ u.pwr.sel = st ∧
        u.pwr.noDeepen = true ∧ u.rd Fd.PWR_STAT_ABANDONED = 1 ∧ u.rd Fd.PWR_LAST_AP = 4)) ∧
    (s.pwr.sleep = .down → ∃ u, exec .sleepEntryDone s = .next (finish u) ∧
      (u.pwr.sleep = .asleep s.pwr.sel ∨ u.pwr.sleep = .waking s.pwr.sel) ∧ u.rd Fd.SYS_MODE_REQ_BUSY = 0 ∧
      (s.pwr.sel = 1 → u.rd Fd.PWR_SLEEP_CNT_S1 = (s.rd Fd.PWR_SLEEP_CNT_S1 + 1) % 65536) ∧
      (s.pwr.sel = 2 → u.rd Fd.PWR_SLEEP_CNT_S2 = (s.rd Fd.PWR_SLEEP_CNT_S2 + 1) % 65536)) ∧
    (s.pwr.sleep = .asleep st →
      (s.rd Fd.PWR_WAKE_CFG_PIN_EN = 1 → 6 ∉ s.pwr.absent → ∃ u, exec (.wakePin (s.rdB Fd.PWR_WAKE_CFG_PIN_POL)) s = .next (finish u) ∧
        woken u 1) ∧
      (s.rd Fd.PWR_WAKE_CFG_HSP_EN = 1 → 6 ∉ s.pwr.absent → ∃ u, exec .hspCsWake s = .next (finish u) ∧ woken u 4) ∧
      (s.rd Fd.PWR_WAKE_CFG_MOTION_EN = 1 → max 1 (s.rd Fd.PWR_MOTION_COUNTS) ≤ (afeTotal 0 s - s.pwr.motion0).natAbs →
        st = 1 ∨ st = 2 ∧ s.rd (Fd.AFE_CH_CFG_TYPE 0) = 1 → ∃ u, exec .motionWake s = .next (finish u) ∧ woken u 5) ∧
      (s.rd Fd.PWR_WAKE_CFG_TMR_EN = 1 → s.rd Fd.PWR_WAKE_TMR_N ≠ 0 →
        (s.rd Fd.PWR_WAKE_TMR_N ≤ asleepFor s → ∃ u, exec .wakeTimer s = .next (finish u) ∧ woken u 6) ∧
        (asleepFor s < s.rd Fd.PWR_WAKE_TMR_N → exec .wakeTimer s = .next (finish s))) ∧
      (s.mode = Md.sleep → l < 2 →
        (s.rd (Fd.NET_WAKE_CFG_MODE l) = 1 ∨ s.rd (Fd.NET_WAKE_CFG_MODE l) = 2 → ∃ u, exec (.netWake l) s = .next (finish u) ∧
          woken u (2 + l)) ∧
        (s.rd (Fd.NET_WAKE_CFG_MODE l) = 0 ∨ s.rd (Fd.NET_WAKE_CFG_MODE l) = 3 → exec (.netWake l) s = .next (finish s)))) ∧
    (s.pwr.sleep = .awake → exec .hspCsWake s = .next (finish s) ∧ exec .motionWake s = .next (finish s) ∧
      exec .wakeTimer s = .next (finish s)) ∧
    (s.pwr.sleep = .waking st → st = 1 ∨ st = 2 → s.saf.slept = 0 → ∃ u, exec .wakeDone s = .next (finish u) ∧ u.mode = Md.standby ∧
      u.pwr.sleep = .awake ∧ u.rd Fd.PWR_STAT_WOKE = 1 ∧ u.rd Fd.SYS_MODE_SLEEP_STATE = st) ∧
    (let dst : Nat := if s.rd Fd.PWR_SLEEP_CFG_DEEPEN_SEL = 2 then 2 else 3
     s.pwr.sleep = .asleep st → st < dst → s.rd Fd.PWR_SLEEP_CFG_DEEPEN_EN = 1 → s.pwr.noDeepen = false →
      max 1 (s.rd Fd.PWR_SLEEP_CFG_DEEPEN_TIME) * 32768 ≤ asleepFor s →
      (idleCond dst s = none → ∃ u, exec .deepenTimer s = .next (finish u) ∧ u.pwr.sleep = .deepening st ∧ u.pwr.sel = dst ∧
        u.mode = s.mode) ∧
      (idleCond dst s ≠ none → ∃ u, exec .deepenTimer s = .next (finish u) ∧ u.pwr.sleep = .asleep st ∧ u.pwr.sel = st ∧
        u.pwr.noDeepen = true ∧ u.rd Fd.PWR_STAT_ABANDONED = 1 ∧ u.rd Fd.PWR_LAST_AP = 3))

/-- On a device with its clocks: a level request outside STANDBY, RUN, LIMITED and SAFE is refused with REFUSED_MODE by SYS, while a change
is in progress with BUSY, and beyond PL_LIMIT (or that of a plane whose swap is locked) with REFUSED_MODE by FAB, each setting
PL_REFUSED; a permitted one puts TARGET and is done at once where the level is in force, else BUSY is set until PL_CHANGE_DONE brings
CURRENT to it and sets PL_DONE. A lost bank supply clears its PRESENT bit, sets its LOST bit, leaves the pins of a user bank
high-impedance and, in RUN or LIMITED only, raises safety input 35; its return sets PRESENT; with VCCIO6 a RESET_N that is low resets
again. PRESENT and LOST follow without the engine clock too. VIN falling through 2.75 V sets VIN_LOW. (R323, R324, R339, R340, Table
14.11) -/
def Obligations.PowerLevelsAndSupplies : Prop :=
  ∀ (s : State) (t n : Nat), t < 4 → n < 14 →
    (s.sys.phase ≠ .noVin → ∃ u, exec (.bankSupplyLost n) s = .next (finish u) ∧ (u.rd Fd.PWR_BANK_STAT_PRESENT).testBit n = false ∧
      (u.rd Fd.PWR_BANK_STAT_LOST).testBit n = true) ∧
    (s.sys.phase ≠ .noVin → s.sys.phase ≠ .resetHeld → s.sys.resetLow = true → ∃ u, exec (.bankSupplyReturn 6) s = .next (finish u) ∧
      u.mode = Md.load ∧ u.sys.phase = .resetHeld ∧ u.rd Fd.SYS_RESET_CAUSE_PIN = 1) ∧
    (clocked s = true →
    let refuse : Nat → Nat → Prop := fun st blk => ∃ u, exec (.plRequest t) s = .next (finish u) ∧ u.rd Fd.PWR_PL_STATUS = st ∧
      u.rd Fd.PWR_PL_REFUSER = blk ∧ u.rd Fd.PWR_STAT_PL_REFUSED = 1 ∧ u.rd Fd.PWR_PL_TARGET = s.rd Fd.PWR_PL_TARGET ∧
      u.rd Fd.PWR_PL_CURRENT = s.rd Fd.PWR_PL_CURRENT
    let admitted : Bool := s.mode == Md.standby || s.mode == Md.run || s.mode == Md.limited || s.mode == Md.safe
    (sysOn s = true → admitted = false → refuse 2 Blk.sys) ∧
    (sysOn s = true → admitted = true → s.rd Fd.PWR_PL_BUSY = 1 → refuse 1 Blk.pwr) ∧
    (sysOn s = true → admitted = true → s.rd Fd.PWR_PL_BUSY = 0 → plBound s < t → refuse 2 Blk.fab) ∧
    plBound s ≤ s.rd Fd.FAB_CLK_STAT_PL_LIMIT ∧
    (sysOn s = true → admitted = true → s.rd Fd.PWR_PL_BUSY = 0 → t ≤ plBound s →
      ∃ u, exec (.plRequest t) s = .next (finish u) ∧ u.rd Fd.PWR_PL_TARGET = t ∧ u.rd Fd.PWR_PL_CURRENT = s.rd Fd.PWR_PL_CURRENT ∧
        (t = s.rd Fd.PWR_PL_CURRENT → u.rd Fd.PWR_PL_BUSY = 0 ∧ u.rd Fd.PWR_PL_STATUS = 0) ∧
        (t ≠ s.rd Fd.PWR_PL_CURRENT → u.rd Fd.PWR_PL_BUSY = 1 ∧ u.pwr.plTo = t)) ∧
    (s.rd Fd.PWR_PL_BUSY = 1 → s.pwr.plTo < 4 → ∃ u, exec .plChangeDone s = .next (finish u) ∧ u.rd Fd.PWR_PL_CURRENT = s.pwr.plTo ∧
      u.rd Fd.PWR_PL_BUSY = 0 ∧ u.rd Fd.PWR_PL_STATUS = 0 ∧ u.rd Fd.PWR_STAT_PL_DONE = 1) ∧
    (s.rd Fd.PWR_PL_BUSY = 0 → exec .plChangeDone s = .next (finish s)) ∧
    (∃ u, exec (.bankSupplyLost n) s = .next (finish u) ∧ (u.rd Fd.PWR_BANK_STAT_PRESENT).testBit n = false ∧
      (u.rd Fd.PWR_BANK_STAT_LOST).testBit n = true ∧ u.mode = s.mode ∧
      (∀ p ph, pinBank p = n → pinDrive u p ph = none) ∧ (driving s.mode = true → u.saf.due.contains 35 = true ∧
        u.pwr.lostNow.contains n = true) ∧
      (driving s.mode = false → u.saf.due = s.saf.due)) ∧
    (n ≠ 6 ∨ s.sys.resetLow = false → ∃ u, exec (.bankSupplyReturn n) s = .next (finish u) ∧
      (u.rd Fd.PWR_BANK_STAT_PRESENT).testBit n = true ∧
      u.rd Fd.PWR_BANK_STAT_LOST = s.rd Fd.PWR_BANK_STAT_LOST ∧ u.mem = s.mem) ∧
    (∃ u, exec (.vinLow true) s = .next (finish u) ∧ u.rd Fd.PWR_STAT_VIN_LOW = 1 ∧ u.pwr.vinLow = true ∧ u.mode = s.mode) ∧
    (∃ u, exec (.vinLow false) s = .next (finish u) ∧ u.pwr.vinLow = false ∧ u.regs = s.regs ∧ u.mem = s.mem))

/-- With the sys clock, for word i of memory m: a read by a master that may use the bank returns the data of a clean or corrected word,
counting the correction, and answers an uncorrectable word with an error response, UE and safety input 18; an inkwell port gets such a
word's data as stored, with its UE flag. A full write leaves the word clean with its data; a narrow write merges the masked bits into
the word's data and is refused, the word being poisoned, where it is uncorrectable; flushing a merge buffer changes no word as a port
sees it; event entries and descriptors take no write. Every other word reads as before. A master that does not own a large bank gets an
error response and changes no memory; a colliding inkwell write whose data differs drops port B, which pulses COLL, and is counted,
another lands after port A's. System-bus accesses of the large banks move the bytes of their lane; a fabric master port without its
clock, or with an access outstanding, sends none. That a read of an inkwell word goes through its port A, and which operands are port
A's, are the model's choice (log entries 76 and 26). (R218, R219, R220, R221, R222, R223, R232, R233, R77) -/
def Obligations.MemoryAccesses : Prop :=
  ∀ (s : State) (m i a n mask mb master : Nat) (d o x : W64), sysOn s = true → wordThere m i = true →
    let k : Nat := mkey m i
    let out : EccOut := eccDecode (s.mcur k)
    let same : State → Prop := fun u => ∀ j, u.mcur j = s.mcur j
    let others : Nat → State → Prop := fun k u => ∀ j, j ≠ k → u.mcur j = s.mcur j
    let put : W64 → W64 → W64 → W64 := fun old v bs => (old &&& ~~~bs) ||| (v &&& bs)
    let ma : W64 := BitVec.ofNat 64 mask
    let mx : W64 := BitVec.ofNat 64 mb
    let bytes : W64 := BitVec.ofNat 64 (byteBits 8 mask)
    (memOwned m master s = true →
      (m ≠ 10 → out = .clean o → exec (.memoryRead (.word m i) master) s = .next (finish (s.ret o.toNat))) ∧
      (out = .fixed o → ∃ u, exec (.memoryRead (.word m i) master) s = .next (finish u) ∧ u.sys.rdData = o.toNat ∧ u.sys.rdErr = 0 ∧ same u ∧
        u.rd Fd.MEM_STAT_CE = 1 ∧ u.rd (Fd.MEM_ECNT_CORRECTED m) = min (s.rd (Fd.MEM_ECNT_CORRECTED m) + 1) (2 ^ 32 - 1)) ∧
      (m ≠ 10 → out = .bad → ∃ u, exec (.memoryRead (.word m i) master) s = .next (finish u) ∧ u.sys.rdData = 0 ∧ u.sys.rdErr = 2 ∧ same u ∧
        u.rd Fd.MEM_STAT_UE = 1 ∧ 18 ∈ u.saf.due)) ∧
    (m = 10 → out = .clean o → ∃ u, exec (.memoryRead (.word m i) master) s = .next (finish u) ∧ u.sys.rdData = o.toNat ∧ same u ∧
      (inkPort u 0 i).q = ⟨o, false, false⟩) ∧
    (m = 10 → out = .bad → ∃ u, exec (.memoryRead (.word m i) master) s = .next (finish u) ∧ same u ∧
      u.sys.rdData = (s.mcur k).toNat % 2 ^ 64 ∧ u.sys.rdErr = 0 ∧ (inkPort u 0 i).q.ue = true ∧ u.rd Fd.MEM_STAT_UE = 1 ∧ 18 ∈ u.saf.due) ∧
    (memOwned m master s = false → 2 ≤ m →
      (∃ u, exec (.memoryRead (.word m i) master) s = .next (finish u) ∧ u.sys.rdErr = 2 ∧ same u) ∧
      (∃ u, exec (.memoryWrite (.word m i) d master) s = .next (finish u) ∧ u.sys.rdErr = 2 ∧ same u) ∧
      (∃ u, exec (.narrowWrite (.word m i mask) d master) s = .next (finish u) ∧ u.sys.rdErr = 2 ∧ same u)) ∧
    (m < 2 → exec (.memoryWrite (.word m i) d master) s = .next (finish s) ∧
      exec (.narrowWrite (.word m i mask) d master) s = .next (finish s)) ∧
    (s.plainMem → 2 ≤ m → memOwned m master s = true →
      (∃ u, exec (.memoryWrite (.word m i) d master) s = .next (finish u) ∧ eccDecode (u.mcur k) = .clean d ∧ others k u) ∧
      (mask % 256 ≠ 255 → out = .clean o ∨ out = .fixed o → ∃ u, exec (.narrowWrite (.word m i mask) d master) s = .next (finish u) ∧
        eccDecode (u.mcur k) = .clean (put o d bytes) ∧ others k u) ∧
      (mask % 256 ≠ 255 → out = .bad → ∃ u, exec (.narrowWrite (.word m i mask) d master) s = .next (finish u) ∧
        eccDecode (u.mcur k) = .bad ∧ others k u ∧ (if m = 10 then (inkPort u 0 i).late = true else u.sys.rdErr = 2))) ∧
    (∀ e : Merge, s.plainMem → s.mst.merge.find? (fun e => e.key / 2 ^ 32 == m) = some e →
      ∃ u, exec (.mergeFlush m) s = .next (finish u) ∧ u.mergeOf e.key = none ∧ same u) ∧
    (m = 10 → inkClash d.toNat ma.toNat x.toNat mx.toNat = true →
      ∃ u, exec (.narrowWrite (.inkwell i mask mb x) d master) s = .next (finish u) ∧ (inkPort u 1 i).coll = true ∧
      u.rd Fd.MEM_STAT_INK_COLL = 1 ∧ u.rd Fd.MEM_INK_CNT_COUNT = min (s.rd Fd.MEM_INK_CNT_COUNT + 1) (2 ^ 32 - 1) ∧
      (s.plainMem → out = .clean o → eccDecode (u.mcur k) = .clean (put o d ma) ∧ others k u)) ∧
    (m = 10 → inkClash d.toNat ma.toNat x.toNat mx.toNat = false → s.plainMem → out = .clean o →
      ∃ u, exec (.narrowWrite (.inkwell i mask mb x) d master) s = .next (finish u) ∧
        eccDecode (u.mcur k) = .clean (put (put o d ma) x mx) ∧ others k u) ∧
    (a < 0x01000000 → n ∈ [1, 2, 4, 8] → a % n = 0 →
      let b : Nat := 2 + a / 0x200000
      let kb : Nat := mkey b (a % 0x200000 / 8)
      (masterServed s master = false → exec (.memoryRead (.bus a n) master) s = .next (finish s) ∧
        exec (.memoryWrite (.bus a n) d master) s = .next (finish s) ∧ exec (.narrowWrite (.bus a n) d master) s = .next (finish s)) ∧
      (masterServed s master = true → memOwned b master s = true → eccDecode (s.mcur kb) = .clean o →
      (∃ u, exec (.memoryRead (.bus a n) master) s = .next (finish u) ∧ u.sys.rdData = o.toNat / 2 ^ (8 * (a % 8)) % 2 ^ (8 * n) ∧ same u) ∧
      (s.plainMem → n = 8 → ∃ u, exec (.memoryWrite (.bus a n) d master) s = .next (finish u) ∧ eccDecode (u.mcur kb) = .clean d ∧
        others kb u) ∧
      (s.plainMem → n ≠ 8 → ∃ u, exec (.narrowWrite (.bus a n) d master) s = .next (finish u) ∧ others kb u ∧
        eccDecode (u.mcur kb) = .clean (put o (lanePut d.toNat a n) (BitVec.ofNat 64 (byteBits 8 (laneMask a n)))))))

/-- With the sys clock and plain memory, for an aligned 4-byte or 8-byte write to an alias of a word of a large bank its master may use,
whose word decodes to old: bit set ORs the data into the field written, bit clear clears the written bits, atomic add adds modulo the
field's size, atomic swap replaces; add and swap keep the old field for MEM_ATOM_OLD of the master; no other word changes. An access of
1 or 2 bytes, or by a master that does not own the bank, gets an error response and changes no memory. MEM_LB_OWN is changed by the
owner, SPI and JTAG alone: the change waits (PENDING) and takes effect when the old owner's accesses have completed. A fabric master
port without its clock, or with an access outstanding, sends nothing. (R233, R234, R235, Table 10.4) -/
def Obligations.LargeBankOperations : Prop :=
  ∀ (s : State) (bank off size owner master : Nat) (d w : W64), sysOn s = true → bank < 8 → off < 0x200000 → s.plainMem →
    let k : Nat := mkey (bank + 2) (off / 8)
    let lo : Nat := if size = 4 then 32 * (off / 4 % 2) else 0
    let hi : Nat := lo + 8 * size - 1
    let old : Nat := bits w.toNat hi lo
    let does : LbOp → State → Prop := fun o u => eccDecode (u.mcur k) =
        .clean (BitVec.ofNat 64 (setBits w.toNat hi lo (o.value old (d.toNat % 2 ^ (8 * size)) (8 * size)))) ∧ ∀ j, j ≠ k →
          u.mcur j = s.mcur j
    let keeps : State → Prop := fun u => mapGet 0 u.mst.atomOld master = old
    let none_ : State → Prop := fun u => u.sys.rdErr = 2 ∧ u.mem = s.mem ∧ u.mst = s.mst
    (masterServed s master = false → exec (.bitSet bank off size d master) s = .next (finish s) ∧
      exec (.bitClear bank off size d master) s = .next (finish s) ∧ exec (.atomicAdd bank off size d master) s = .next (finish s) ∧
      exec (.atomicSwap bank off size d master) s = .next (finish s) ∧ exec (.ownerChange bank owner master) s = .next (finish s)) ∧
    (masterServed s master = true →
    (memOwned (bank + 2) master s = true → size = 4 ∨ size = 8 → off % size = 0 →
      eccDecode (s.mcur k) = .clean w ∨ eccDecode (s.mcur k) = .fixed w →
      (∃ u, exec (.bitSet bank off size d master) s = .next (finish u) ∧ does .bitSet u) ∧
      (∃ u, exec (.bitClear bank off size d master) s = .next (finish u) ∧ does .bitClear u) ∧
      (∃ u, exec (.atomicAdd bank off size d master) s = .next (finish u) ∧ does .add u ∧ keeps u) ∧
      (∃ u, exec (.atomicSwap bank off size d master) s = .next (finish u) ∧ does .swap u ∧ keeps u)) ∧
    (size ∈ [1, 2, 4, 8] → off % size = 0 → memOwned (bank + 2) master s = false ∨ size < 4 →
      (∃ u, exec (.bitSet bank off size d master) s = .next (finish u) ∧ none_ u) ∧
      (∃ u, exec (.bitClear bank off size d master) s = .next (finish u) ∧ none_ u) ∧
      (∃ u, exec (.atomicAdd bank off size d master) s = .next (finish u) ∧ none_ u) ∧
      (∃ u, exec (.atomicSwap bank off size d master) s = .next (finish u) ∧ none_ u)) ∧
    (master = s.rd (Fd.MEM_LB_OWN_OWNER bank) ∨ master = 1 ∨ master = 3 →
      ∃ u, exec (.ownerChange bank owner master) s = .next (finish u) ∧ u.rd (Fd.MEM_LB_OWN_PENDING bank) = 1 ∧
        mapGet? u.mst.ownPend bank = some (owner % 256) ∧ u.rd (Fd.MEM_LB_OWN_OWNER bank) = s.rd (Fd.MEM_LB_OWN_OWNER bank)) ∧
    (master ≠ s.rd (Fd.MEM_LB_OWN_OWNER bank) → master ≠ 1 → master ≠ 3 →
      exec (.ownerChange bank owner master) s = .next (finish (s.set1 Fd.MEM_STAT_OWN_REFUSED)))) ∧
    (mapGet? s.mst.ownPend bank = some owner → ∃ u, exec (.ownerChangeDone bank) s = .next (finish u) ∧
      u.rd (Fd.MEM_LB_OWN_OWNER bank) = owner % 256 ∧ u.rd (Fd.MEM_LB_OWN_PENDING bank) = 0 ∧ mapGet? u.mst.ownPend bank = none ∧
      u.mem = s.mem)

/-- With the sys clock and plain memory: a queued corrected word is written back with fresh check bits and leaves the buffer; the scrubber
of memory m moves to the next word (the inkwells' one only where it reaches the word), queues a correction, and poisons an
uncorrectable word raising input 18; the queued corrections are written; a late pass sets its bit and raises input 19; an injection is
armed and disarmed in OPEN, or in CLOSED with the right, and else refused, which BST_STAT shows too; a remap entry of a large bank
promotes a clean word into a spare, which reads as the word did, and release copies the spare back. (R224, R226, R227, R231, Table
10.1) -/
def Obligations.MemoryUpkeep : Prop :=
  ∀ (s : State) (m i bank name addr mask : Nat) (e : Nat × Nat) (d : W64) (w : MemWord) (f : ScrubFix), sysOn s = true → s.plainMem →
    m < 15 →
    (s.mst.writeBack.find? (fun e => e.1 == m) = some e → eccDecode (s.mget (mkey m e.2)) = .fixed d →
      ∃ u, exec (.writeBack m) s = .next (finish u) ∧ u.mget (mkey m e.2) = eccEncode d ∧ e ∉ u.mst.writeBack) ∧
    let refused : Host.Outcome State Fault Refusal := .next (finish (((s.set1 Fd.MEM_STAT_INJ_REFUSED).set1 Fd.BST_STAT_CFG_REFUSED).wr Fd.BST_STAT_STATUS St.access))
    (scrubRuns s = true →
      let p : Nat := mapGet 0 s.mst.scrubPos m
      let moved : State → Prop := fun u => mapGet 0 u.mst.scrubPos m = (if p + 1 < memWords m then p + 1 else 0)
      (scrubReaches m p s = false ∨ eccDecode (s.mcur (mkey m p)) = .clean d → ∃ u, exec (.scrubRead m) s = .next (finish u) ∧ moved u ∧
        u.mem = s.mem ∧ u.regs = s.regs) ∧
      (scrubReaches m p s = true → eccDecode (s.mcur (mkey m p)) = .fixed d → ∃ u, exec (.scrubRead m) s = .next (finish u) ∧ moved u ∧
        u.mem = s.mem ∧ mapGet? u.mst.scrubFix m = some ⟨m, p, eccEncode d⟩ ∧ u.rd Fd.MEM_STAT_CE = 1) ∧
      (scrubReaches m p s = true → eccDecode (s.mcur (mkey m p)) = .bad → ∃ u, exec (.scrubRead m) s = .next (finish u) ∧ moved u ∧
        eccDecode (u.mget (mkey m p)) = .bad ∧ 18 ∈ u.saf.due ∧ u.rd Fd.MEM_STAT_UE = 1)) ∧
    (s.mst.scrubFix = [(m, f)] → ∃ u, exec .scrubCorrectWrite s = .next (finish u) ∧ u.mget (mkey f.mem f.idx) = f.word ∧
      u.mst.scrubFix = []) ∧
    (∃ u, exec (.scrubPassLate m) s = .next (finish u) ∧ (u.rd Fd.MEM_SCRUB_LATE_LATE).testBit m = true ∧ 19 ∈ u.saf.due ∧ u.mem = s.mem) ∧
    (injAllowed s = true → addr < 2 ^ 32 → mask < 256 →
      (∃ u, exec (.memInjArm addr m mask) s = .next (finish u) ∧ u.rd Fd.MEM_INJ_ARMED = 1 ∧ u.rd Fd.MEM_INJ_ADDR = addr ∧
        u.rd Fd.MEM_INJ_MEMID = m ∧ u.rd Fd.MEM_INJ_MASK = mask ∧ u.mem = s.mem) ∧
      exec .memInjDisarm s = .next (finish (s.clr Fd.MEM_INJ_ARMED))) ∧
    (injAllowed s = false → exec (.memInjArm addr m mask) s = refused ∧ exec .memInjDisarm s = refused) ∧
    (bank < 8 → i < 4 → name < 262144 →
      let k : Nat := mkey (bank + 2) name
      (s.rdB (Fd.MEM_LB_REMAP_VALID bank i) = false → eccDecode (s.mget k) = .clean d → ∃ u,
        exec (.remapPromote 0 bank i name) s = .next (finish u) ∧ u.rd (Fd.MEM_LB_REMAP_VALID bank i) = 1 ∧
        u.rd (Fd.MEM_LB_REMAP_WORD bank i) = name ∧ eccDecode (u.mget k) = .clean d ∧ (mapGet? u.mst.spares k).isSome = true) ∧
      (s.rdB (Fd.MEM_LB_REMAP_VALID bank i) = true → s.rd (Fd.MEM_LB_REMAP_WORD bank i) = name → mapGet? s.mst.spares k = some w →
        ∃ u, exec (.remapRelease 0 bank i) s = .next (finish u) ∧ u.rd (Fd.MEM_LB_REMAP_VALID bank i) = 0 ∧ u.mget k = w ∧
        mapGet? u.mst.spares k = none))

/-- With the sys clock, for a line of the array that can be served: a full write stores the codewords of its two halves and changes no
other line; a read of a line whose codewords are clean returns its data and changes nothing, one with an uncorrectable codeword returns
an error and raises input 21; a partial write of a clean line merges the masked bytes of the codewords it touches; an access to a line
that cannot be served changes nothing. FILL within the capacity sets BUSY, one beyond it reports RANGE, one while BUSY reports BUSY;
FILL_DONE writes the lines and ends it with status OK once XMC is READY. An injection is armed where it is allowed, and else refused. A
fabric master port without its clock sends nothing. That an access to a line that cannot be served waits, and when FILL writes, is the
model's reading (log entry 32). With the sys clock: INIT from OFF or FAILED with ranks configured starts training with the capacity of
the fitted devices; training ends READY with that capacity, or FAILED with capacity 0 and input 22; a refresh is counted while READY;
the patrol of a clean line moves to the next and at the end of a pass counts it and clears the pass counts; a late pass sets
PATROL_LATE and raises input 22; MARK of a device of an unmarked rank marks it, UNMARK clears the mark, MARK of a marked rank reports
ORDER, an unknown rank or device RANGE, a controller not READY reports ORDER, one BUSY reports BUSY; PATROL_RESTART puts the patrol at
line 0. (R238, R239, R241, R245, R231, R20, R236, R240, R242, R244) -/
def Obligations.SdramLinesAndController : Prop :=
  (∀ (s : State) (l n data mask src a b : Nat) (two : Bool) (pat : W64), sysOn s = true →
     let stored : Nat → Nat → BitVec 576 := fun x y => lineOf (rsEncode x) (rsEncode y)
     let others : State → Prop := fun u => ∀ j, j ≠ l → lineGet u j = lineGet s j
     let mark : Option Nat := markOf s (rankOf s l)
     let lo : CwOut := rsDecode mark (cwOf (lineGet s l) 0)
     let hi : CwOut := rsDecode mark (cwOf (lineGet s l) 1)
     let x : Nat := cwOf (lineGet s l) 0 % 2 ^ 256
     let y : Nat := cwOf (lineGet s l) 1 % 2 ^ 256
     (masterServed s src = false → exec (.sdramRead (.line l) src) s = .next (finish s) ∧
       exec (.sdramWrite (.line l) data mask src) s = .next (finish s)) ∧
     (masterServed s src = true →
     (lineOk l s = true → spareOf s l = none → s.rdB Fd.XMC_INJ_ARMED = false → mask % 2 ^ 64 = 2 ^ 64 - 1 → ∃ u,
       exec (.sdramWrite (.line l) data mask src) s = .next (finish u) ∧ lineGet u l = stored (data % 2 ^ 256) (data / 2 ^ 256 % 2 ^ 256) ∧
       others u ∧ u.mem = s.mem ∧ u.regs = s.regs) ∧
     (lineOk l s = true → spareOf s l = none → lo = .clean → hi = .clean →
       exec (.sdramRead (.line l) src) s = .next (finish (s.ret (x + y * 2 ^ 256)))) ∧
     (lineOk l s = true → spareOf s l = none → lo = .bad → hi = .clean → ∃ u, exec (.sdramRead (.line l) src) s = .next (finish u) ∧
       u.sys.rdErr = 2 ∧
       21 ∈ u.saf.due ∧ u.xmc.lines = s.xmc.lines) ∧
     (lineOk l s = true → spareOf s l = none → lo = .clean → hi = .clean → mask % 2 ^ 32 ≠ 0 → mask / 2 ^ 32 % 2 ^ 32 = 0 → ∃ u,
       exec (.sdramWrite (.line l) data mask src) s = .next (finish u) ∧ others u ∧
       cwOf (lineGet u l) 0 = rsEncode (mergeBytes x data 32 (mask % 2 ^ 32)) % 2 ^ 288 ∧ cwOf (lineGet u l) 1 = cwOf (lineGet s l) 1) ∧
     (lineOk l s = false → exec (.sdramRead (.line l) src) s = .next (finish s) ∧
       exec (.sdramWrite (.line l) data mask src) s = .next (finish s))) ∧
     (s.rdB Fd.XMC_STAT_BUSY = false → l < 2 ^ 34 → n < 2 ^ 32 →
       (l + n ≤ xmcLines s → ∃ u, exec (.fill l n pat) s = .next (finish u) ∧ u.rd Fd.XMC_STAT_BUSY = 1 ∧ u.xmc.fill = some ⟨l, n, pat⟩ ∧
         u.rd Fd.XMC_FILL_PAT_PAT = pat.toNat ∧ u.xmc.lines = s.xmc.lines) ∧
       (xmcLines s < l + n → ∃ u, exec (.fill l n pat) s = .next (finish u) ∧ u.rd Fd.XMC_STAT_STATUS = 9 ∧ u.xmc = s.xmc)) ∧
     (s.rdB Fd.XMC_STAT_BUSY = true → ∃ u, exec (.fill l n pat) s = .next (finish u) ∧ u.rd Fd.XMC_STAT_STATUS = 1 ∧ u.xmc = s.xmc) ∧
     (s.xmc.fill = some ⟨l, 1, pat⟩ → s.rd Fd.XMC_STAT_STATE ≠ 2 → exec .fillDone s = .next (finish s)) ∧
     (s.xmc.fill = some ⟨l, 1, pat⟩ → s.rd Fd.XMC_STAT_STATE = 2 → spareOf s l = none → s.rdB Fd.XMC_INJ_ARMED = false →
       ∃ u, exec .fillDone s = .next (finish u) ∧ u.xmc.fill = none ∧
       u.rd Fd.XMC_STAT_BUSY = 0 ∧ u.rd Fd.XMC_STAT_STATUS = 0 ∧ others u ∧
       lineGet u l = stored (fillData pat.toNat % 2 ^ 256) (fillData pat.toNat / 2 ^ 256 % 2 ^ 256)) ∧
     (injAllowed s = true → ∃ u, exec (.xmcInjArm l a b two) s = .next (finish u) ∧ u.rd Fd.XMC_INJ_ARMED = 1 ∧ u.xmc = s.xmc ∧
       u.mem = s.mem) ∧
     (injAllowed s = true → exec .xmcInjDisarm s = .next (finish (s.clr Fd.XMC_INJ_ARMED))) ∧
     (injAllowed s = false → exec .xmcInjDisarm s = .next (finish (injRefuse s)) ∧
       exec (.xmcInjArm l a b two) s = .next (finish (injRefuse s)))) ∧
  (∀ (s : State) (rank dev : Nat), sysOn s = true → rank < 2 →
     let st : Nat := s.rd Fd.XMC_STAT_STATE
     let ranks : Nat := s.rd Fd.XMC_CFG_RANKS
     let free : Prop := s.rdB Fd.XMC_STAT_BUSY = false
     let said : Nat → Instr → Prop := fun n c => ∃ u, exec c s = .next (finish u) ∧ u.rd Fd.XMC_STAT_STATUS = n ∧ u.xmc = s.xmc ∧
       u.rd (Fd.XMC_MARK_VALID rank) = s.rd (Fd.XMC_MARK_VALID rank) ∧ u.rd Fd.XMC_PATROL_POS = s.rd Fd.XMC_PATROL_POS
     let p : Nat := s.xmc.patrolPos
     (st = 0 ∨ st = 4 → ranks ≠ 0 → ∃ u, exec .xmcInit s = .next (finish u) ∧ u.rd Fd.XMC_STAT_STATE = 1 ∧
       u.rd Fd.XMC_STAT_CAP_GIB = capGib s ∧
       u.xmc = s.xmc) ∧
     (st = 1 → (∀ i, i < 16 → s.rdB (Fd.XMC_REMAP_VALID i) = false) → ∃ u, exec (.xmcTrainingDone true) s = .next (finish u) ∧
       u.rd Fd.XMC_STAT_STATE = 2 ∧ u.rd Fd.XMC_STAT_CAP_GIB = s.rd Fd.XMC_STAT_CAP_GIB ∧ u.xmc.lines = s.xmc.lines) ∧
     (st = 1 → ∃ u, exec (.xmcTrainingDone false) s = .next (finish u) ∧ u.rd Fd.XMC_STAT_STATE = 4 ∧ u.rd Fd.XMC_STAT_CAP_GIB = 0 ∧
       22 ∈ u.saf.due) ∧
     (st = 2 → ∃ u, exec .sdramRefresh s = .next (finish u) ∧ u.xmc.refreshes = s.xmc.refreshes + 1 ∧ u.regs = s.regs ∧ u.mem = s.mem) ∧
     (st = 2 → scrubMode s = true → s.rdB Fd.XMC_CTRL_PATROL_EN = true → p < xmcLines s → spareOf s p = none →
       rsDecode (markOf s (rankOf s p)) (cwOf (lineGet s p) 0) = .clean → rsDecode (markOf s (rankOf s p)) (cwOf (lineGet s p) 1) = .clean →
       ∃ u, exec .patrolLine s = .next (finish u) ∧ u.xmc.lines = s.xmc.lines ∧ u.xmc.patrolPos = (if p + 1 < xmcLines s then p + 1 else 0) ∧
         (p + 1 = xmcLines s → u.rd Fd.XMC_PATROL_PASSES = (s.rd Fd.XMC_PATROL_PASSES + 1) % 2 ^ Fd.XMC_PATROL_PASSES.w ∧
           u.rd (Fd.XMC_DEV_CNT_PASS_COUNT 0 0) = 0)) ∧
     (∃ u, exec .patrolPassLate s = .next (finish u) ∧ u.rd Fd.XMC_STAT_PATROL_LATE = 1 ∧ 22 ∈ u.saf.due ∧ u.xmc = s.xmc) ∧
     (free → dev < 18 → rank < ranks → st = 2 → s.rdB (Fd.XMC_MARK_VALID rank) = false → ∃ u, exec (.mark rank dev) s = .next (finish u) ∧
       markOf u rank = some dev ∧ u.rd (Fd.XMC_MARK_AUTO rank) = 0 ∧ u.rd Fd.XMC_STAT_STATUS = 0 ∧ u.xmc = s.xmc) ∧
     (free → dev < 18 → rank < ranks → st = 2 → s.rdB (Fd.XMC_MARK_VALID rank) = true → said 4 (.mark rank dev)) ∧
     (free → dev < 18 → rank < ranks → st = 2 → ∃ u, exec (.unmark rank dev) s = .next (finish u) ∧ markOf u rank = none ∧
       u.rd Fd.XMC_STAT_STATUS = 0 ∧ u.xmc = s.xmc) ∧
     (free → 18 ≤ dev ∨ ranks ≤ rank → said 9 (.mark rank dev) ∧ said 9 (.unmark rank dev)) ∧
     (free → dev < 18 → rank < ranks → st ≠ 2 → said 4 (.mark rank dev) ∧ said 4 (.unmark rank dev)) ∧
     (¬free → said 1 (.mark rank dev) ∧ said 1 (.unmark rank dev) ∧ said 1 .patrolRestart) ∧
     (free → ∃ u, exec .patrolRestart s = .next (finish u) ∧ u.xmc.patrolPos = 0 ∧ u.rd Fd.XMC_PATROL_POS = 0 ∧ u.rd Fd.XMC_STAT_STATUS = 0))

/-- With the sys clock, for channel n: START in STANDBY, RUN, LIMITED or SAFE of an idle channel whose descriptor passes its checks runs it
with REMAIN at the length, one that fails halts with cause 5 and RANGE, a running channel reports BUSY, another mode REFUSED_MODE; STOP
halts a running channel with cause 6, CLEAR returns a DONE or HALTED channel to IDLE, each else reporting ORDER; a burst whose first
source address is reserved halts with cause 2; a burst of one word between large banks copies it and lowers REMAIN; the end of a
descriptor without link ends in DONE. A halt or an end raises the channel's interrupt source. The statuses BUSY and ORDER and the order
of the checks are the model's reading (log entry 33). (R246, R247, R248, R249, R250, Table 10.7) -/
def Obligations.DmaChannels : Prop :=
  ∀ (s : State) (n : Nat) (ans : List Nat) (o : W64), sysOn s = true → n < 32 →
    let st : State → Nat := fun u => u.rd (Fd.DMA_STAT_STATE n)
    let said : Nat → Instr → Prop := fun v c => exec c s = .next (finish (s.wr (Fd.DMA_STAT_STATUS n) v))
    let halts : Nat → Nat → Instr → Prop := fun cause v c => ∃ u, exec c s = .next (finish u) ∧ st u = 3 ∧
      u.rd (Fd.DMA_STAT_CAUSE n) = cause ∧ u.rd (Fd.DMA_STAT_STATUS n) = v
    let src : Nat := dmaSrc s n
    let dst : Nat := dmaDst s n
    let ks : Nat := mkey (2 + src / 0x200000) (src % 0x200000 / 8)
    let kd : Nat := mkey (2 + dst / 0x200000) (dst % 0x200000 / 8)
    (dmaMode s = false → said 2 (.dmaStart n)) ∧
    (dmaMode s = true → dmaState s n = 1 → said 1 (.dmaStart n)) ∧
    (dmaMode s = true → dmaState s n ≠ 1 → dmaOk s n = true → ∃ u, exec (.dmaStart n) s = .next (finish u) ∧ st u = 1 ∧
      u.rd (Fd.DMA_REMAIN_BYTES n) = dmaLen s n ∧ u.rd (Fd.DMA_STAT_DESC_CNT n) = 0 ∧ u.rd (Fd.DMA_STAT_STATUS n) = 0 ∧ u.mem = s.mem) ∧
    (dmaMode s = true → dmaState s n ≠ 1 → dmaOk s n = false → halts 5 9 (.dmaStart n)) ∧
    (dmaState s n = 1 → ∃ u, exec (.dmaStop n) s = .next (finish u) ∧ st u = 3 ∧ u.rd (Fd.DMA_STAT_CAUSE n) = 6 ∧
      u.rd (Fd.DMA_STAT_STATUS n) = 0) ∧
    (dmaState s n ≠ 1 → said 4 (.dmaStop n)) ∧
    (2 ≤ dmaState s n → ∃ u, exec (.dmaClear n) s = .next (finish u) ∧ st u = 0 ∧ u.rd (Fd.DMA_STAT_STATUS n) = 0 ∧ u.mem = s.mem) ∧
    (dmaState s n < 2 → said 4 (.dmaClear n)) ∧
    (dmaMoves s n = true → dmaOk s n = true → s.plainMem → s.rd (Fd.DMA_REMAIN_BYTES n) = 8 → dmaLen s n = 8 → dmaSrcX s n = false →
      dmaDstX s n = false → dmaToQueue s n = false → src < 0x01000000 → dst < 0x01000000 →
      memOwned (2 + src / 0x200000) 4 s = true → memOwned (2 + dst / 0x200000) 4 s = true → eccDecode (s.mcur ks) = .clean o →
      ∃ u, exec (.dmaBurst n ans) s = .next (finish u) ∧ eccDecode (u.mcur kd) = .clean o ∧ u.rd (Fd.DMA_REMAIN_BYTES n) = 0 ∧ st u = 1 ∧
        ∀ j, j ≠ kd → u.mcur j = s.mcur j) ∧
    (dmaMoves s n = true → dmaOk s n = true → s.rd (Fd.DMA_REMAIN_BYTES n) = dmaLen s n → dmaSrcX s n = false → regionOf src = .reserved →
      ∃ u, exec (.dmaBurst n ans) s = .next (finish u) ∧ st u = 3 ∧ u.rd (Fd.DMA_STAT_CAUSE n) = 2 ∧
        u.rd (Fd.DMA_REMAIN_BYTES n) = s.rd (Fd.DMA_REMAIN_BYTES n)) ∧
    (dmaMoves s n = true → s.rd (Fd.DMA_REMAIN_BYTES n) = 0 → dmaToQueue s n = false → dmaWord s n 6 = 0 →
      ∃ u, exec (.dmaDescriptorEnd n ans) s = .next (finish u) ∧ st u = 2 ∧ u.rd (Fd.DMA_STAT_STATUS n) = 0 ∧ u.mem = s.mem ∧
        u.rd (Fd.DMA_STAT_DESC_CNT n) = min (s.rd (Fd.DMA_STAT_DESC_CNT n) + 1) (2 ^ (Fd.DMA_STAT_DESC_CNT n).w - 1))

/-- With the engine clock, for a channel k: ENCODER_EDGE stores the accepted levels; the first levels give cell 0 with Z_MODE 0; a
transition that DECODE does not count does nothing else; a transition of both inputs latches ILLEGAL, counts it and clears VALID and
REFERENCED; a counted transition moves the cell by one with carry into the revolution count, puts DIR, clears STOPPED and hands the
estimator the boundary angle of R48 with its stamp, in the table stage 1 tick on and ready after 3. Z_INDEX references an unreferenced
channel at ZOFS and restarts its estimator, raises ZMISMATCH beyond ZTOL in Z_MODE 2, keeps the cell otherwise, and does nothing with
TYPE, CPR or Z_MODE 0 or a closed gate; LOSS_OF_SIGNAL latches LOS where the differential input is used. The end of a loss latches
nothing. (R46, R47, R48, R49, Table 3.4) -/
def Obligations.EncoderEdgesAndIndex : Prop :=
  ∀ (s : State) (k : Nat) (a b : Bool), engOn s = true → k < 2 →
    let c : AfeCh := s.ach k
    let n : Nat := s.rd (Fd.AFE_CH_CPR_CPR k)
    let en : Fld := if k = 0 then Fd.AFE_TBL_CTRL_EN0 else Fd.AFE_TBL_CTRL_EN1
    let fault : Nat → State → Prop := fun i u => (u.rd (faultFld k)).testBit i = true ∧ u.rd (Fd.AFE_CH_STAT_VALID k) = 0 ∧
      u.rd (Fd.AFE_CH_STAT_REFERENCED k) = 0
    let d0 : Int := quadCount (s.rd (Fd.AFE_CH_CFG_DECODE k)) (quadOf c.lvA c.lvB) (quadOf a b)
    let d : Int := if s.rdB (Fd.AFE_CH_CFG_INVERT_DIR k) then -d0 else d0
    let x : Int := (c.cell : Int) + d
    let dir : Nat := if 0 ≤ d then 0 else 1
    let tm : Nat := (s.now + 2 ^ 64 - max 1 (s.rd (Fd.AFE_CH_CFG_FILT k)) - 2) % 2 ^ 64
    let bnd : Nat := enc 40 (rne ((c.rev * 2 ^ 64 + (if 0 ≤ d then c.cell + 1 else c.cell) * scaleOf n : Nat) : Int) 32)
    let levels : State := s.updAch k (fun e => { e with lvA := a, lvB := b, seen := true })
    (s.rd (Fd.AFE_CH_CFG_TYPE k) ≠ 1 → exec (.encoderEdge k a b) s = .next (finish s)) ∧
    (s.rd (Fd.AFE_CH_CFG_TYPE k) = 1 →
      (c.seen = true → (a = c.lvA ∧ b = c.lvB) ∨ ((a = c.lvA ∨ b = c.lvB) ∧ (n = 0 ∨ d0 = 0)) →
        exec (.encoderEdge k a b) s = .next (finish levels)) ∧
      (c.seen = false → s.rd (Fd.AFE_CH_CFG_Z_MODE k) ≠ 0 → exec (.encoderEdge k a b) s = .next (finish levels)) ∧
      (c.seen = false → s.rd (Fd.AFE_CH_CFG_Z_MODE k) = 0 → ∃ u, exec (.encoderEdge k a b) s = .next (finish u) ∧
        u.ach k = { c with lvA := a, lvB := b, seen := true, cell := 0 } ∧ u.rd (Fd.AFE_CH_COUNT_CELL k) = 0) ∧
      (c.seen = true → a ≠ c.lvA → b ≠ c.lvB → ∃ u, exec (.encoderEdge k a b) s = .next (finish u) ∧ fault 0 u ∧
        (u.ach k).cell = c.cell ∧ u.rd (Fd.AFE_CH_ERRCNT_ILLEGAL_CNT k) = min 65535 (s.rd (Fd.AFE_CH_ERRCNT_ILLEGAL_CNT k) + 1)) ∧
      (c.seen = true → (a = c.lvA ∧ b ≠ c.lvB) ∨ (a ≠ c.lvA ∧ b = c.lvB) → 0 < n → n < 2 ^ 21 → d0 ≠ 0 →
        ∃ u, exec (.encoderEdge k a b) s = .next (finish u) ∧ (u.ach k).lvA = a ∧ (u.ach k).lvB = b ∧
          ((u.ach k).cell : Int) = x % (n : Int) ∧ u.rd (Fd.AFE_CH_COUNT_CELL k) = (u.ach k).cell ∧
          (u.ach k).rev = (if x < 0 then (c.rev + 255) % 256 else if (n : Int) ≤ x then (c.rev + 1) % 256 else c.rev) ∧
          u.rd (Fd.AFE_CH_STAT_DIR k) = dir ∧ u.rd (Fd.AFE_CH_STAT_STOPPED k) = 0 ∧ (u.ach k).lastEdge = s.now ∧
          (s.afeRd en = 0 → (u.ach k).meas = c.meas ++
            [⟨bnd, bnd, tm, (s.now + 1) % 2 ^ 64, (s.now + 3) % 2 ^ 64, c.moved && s.rd (Fd.AFE_CH_STAT_DIR k) != dir⟩]))) ∧
    (let off : Prop := s.rd (Fd.AFE_CH_CFG_TYPE k) = 0 ∨ n = 0 ∨ s.rd (Fd.AFE_CH_CFG_Z_MODE k) = 0 ∨ zGate s k = false
     let z : Nat := s.rd (Fd.AFE_CH_ZCFG_ZOFS k) % n
     let far : Prop := min 2 (s.rd (Fd.AFE_CH_CFG_Z_MODE k)) = 2 ∧ s.rd (Fd.AFE_CH_ZCFG_ZTOL k) < cellDist n c.cell z
     (off → exec (.zIndex k) s = .next (finish s)) ∧
     (¬ off → n < 2 ^ 21 → s.rd (Fd.AFE_CH_STAT_REFERENCED k) = 0 → ∃ u, exec (.zIndex k) s = .next (finish u) ∧ (u.ach k).cell = z ∧
       (u.ach k).rev = 0 ∧ u.rd (Fd.AFE_CH_COUNT_CELL k) = z ∧ u.rd (Fd.AFE_CH_STAT_REFERENCED k) = 1 ∧ (u.ach k).restart = true ∧
       (u.ach k).meas = [] ∧ (u.ach k).sinceZ = 0) ∧
     (¬ off → s.rd (Fd.AFE_CH_STAT_REFERENCED k) = 1 → ∃ u, exec (.zIndex k) s = .next (finish u) ∧ (u.ach k).cell = c.cell ∧
       (u.ach k).rev = c.rev ∧ (u.ach k).sinceZ = 0 ∧ (far → fault 3 u ∧
         u.rd (Fd.AFE_CH_ERRCNT_ZMISS_CNT k) = min 65535 (s.rd (Fd.AFE_CH_ERRCNT_ZMISS_CNT k) + 1)) ∧
       (¬ far → u.rd (Fd.AFE_CH_STAT_REFERENCED k) = 1 ∧ u.rd (faultFld k) = s.rd (faultFld k)))) ∧
    (let lost : Nat → State → Prop := fun i u => (u.ach k).lost.testBit i = true
     let open_ : Prop := s.rd (Fd.AFE_CH_CFG_SINGLE_ENDED k) = 0
     (s.rd (Fd.AFE_CH_CFG_TYPE k) = 1 → open_ →
       (∃ u, exec (.lossOfSignal (.a k) true) s = .next (finish u) ∧ fault 2 u ∧ lost 0 u) ∧
       (∃ u, exec (.lossOfSignal (.b k) true) s = .next (finish u) ∧ fault 2 u ∧ lost 1 u)) ∧
     (s.rd (Fd.AFE_CH_CFG_TYPE k) ≠ 0 → s.rd (Fd.AFE_CH_CFG_Z_MODE k) ≠ 0 → open_ →
       ∃ u, exec (.lossOfSignal (.z k) true) s = .next (finish u) ∧ fault 2 u ∧ lost 2 u) ∧
     (s.rd (Fd.AFE_CH_CFG_TYPE k) = 0 ∨ ¬ open_ ∨ s.rd (Fd.AFE_CH_CFG_Z_MODE k) = 0 →
       ∃ u, exec (.lossOfSignal (.z k) true) s = .next (finish u) ∧ lost 2 u ∧ u.regs = s.regs ∧ u.saf = s.saf) ∧
     (∃ u, exec (.lossOfSignal (.z k) false) s = .next (finish u) ∧ ¬ lost 2 u ∧ u.regs = s.regs ∧ u.mem = s.mem))

/-- With the engine clock, for a channel k: ADC_SAMPLE takes a raw pair with the time and latches ADC_CLIP at full scale;
ADC_CONVERSION_DONE puts the amplitude of the trimmed values in AMP, latches AMP_FAULT outside its bounds and hands the estimator one
measurement with the strobe's stamp, in the table stage 146 ticks on and ready after 148; ESTIMATE_UPDATE propagates P, V and A by R55
over 16 ticks, restarts or corrects by R403 and R56 from a measurement that is ready, publishes the estimate with its time, leaves a
channel of TYPE 0 not VALID and exchanges pending table banks; an incremental channel's estimate is held at the boundary ahead by the
silence bound (SILENCE), starts anew at a boundary at a reversal, and stops with V and A 0 once STOP has passed; STOP_TIMEOUT sets
STOPPED and, for an incremental channel, V and A to 0. FINE_SNAPSHOT returns the fine angle and captures velocity, acceleration, time
and count of its update. The choices of log entry 74 stand where R52 to R58 leave a point open. (R50, R51, R52, R54, R55, R56, R57,
R59, R61, R403) -/
def Obligations.SamplesAndEstimates : Prop :=
  ∀ (s : State) (k sn cs tau master : Nat) (x y : Int) (m : Meas), engOn s = true → k < 2 →
    let c : AfeCh := s.ach k
    let fault : Nat → State → Prop := fun i u => (u.rd (faultFld k)).testBit i = true ∧ u.rd (Fd.AFE_CH_STAT_VALID k) = 0 ∧
      u.rd (Fd.AFE_CH_STAT_REFERENCED k) = 0
    let clip : Int → Prop := fun v => v = -32768 ∨ v = 32767
    let en : Fld := if k = 0 then Fd.AFE_TBL_CTRL_EN0 else Fd.AFE_TBL_CTRL_EN1
    let pend : Fld := if k = 0 then Fd.AFE_TBL_CTRL_PENDING0 else Fd.AFE_TBL_CTRL_PENDING1
    let act : Fld := if k = 0 then Fd.AFE_TBL_CTRL_ACTIVE0 else Fd.AFE_TBL_CTRL_ACTIVE1
    let x2 : Int := trimStep (trimFactory s (2 * k) x) (s.afeRdI (Fd.AFE_CH_UOFF_S_UOFF k)) (s.afeRd (Fd.AFE_CH_UGAIN_GAIN_S k))
    let y2 : Int := trimStep (trimFactory s (2 * k + 1) y) (s.afeRdI (Fd.AFE_CH_UOFF_C_UOFF k)) (s.afeRd (Fd.AFE_CH_UGAIN_GAIN_C k))
    let y3 : Int := satI 22 (rne (y2 * (s.afeRd (Fd.AFE_CH_QUAD_QK1 k) : Int) + x2 * s.afeRdI (Fd.AFE_CH_QUAD_QK2 k)) 15)
    let amp : Nat := min 65535 (amplitude x2 y3)
    (s.rd (Fd.AFE_CH_CFG_TYPE k) ≠ 2 ∨ s.pwr.sleep.resting = some 2 → exec (.adcSample k sn cs) s = .next (finish s)) ∧
    (s.rd (Fd.AFE_CH_CFG_TYPE k) = 2 → s.pwr.sleep.resting ≠ some 2 → ∃ u, exec (.adcSample k sn cs) s = .next (finish u) ∧
      (u.ach k).conv = some (sx 16 sn, sx 16 cs, s.now) ∧ (clip (sx 16 sn) ∨ clip (sx 16 cs) → fault 6 u) ∧
      (¬ clip (sx 16 sn) → ¬ clip (sx 16 cs) → u.regs = s.regs)) ∧
    (c.conv = none → exec (.adcConversionDone k) s = .next (finish s)) ∧
    (c.conv = some (x, y, tau) → ∃ u, exec (.adcConversionDone k) s = .next (finish u) ∧ (u.ach k).conv = none ∧
      (u.ach k).phaseOk = true ∧ u.rd (Fd.AFE_CH_STAT_AMP k) = amp ∧
      (amp < s.afeRd (Fd.AFE_CH_AMP_AMP_MIN k) ∨ s.afeRd (Fd.AFE_CH_AMP_AMP_MAX k) < amp → (u.rd (faultFld k)).testBit 4 = true) ∧
      (s.rd (Fd.AFE_CH_CPR_CPR k) = 0 → (u.ach k).meas = c.meas) ∧
      (s.rd (Fd.AFE_CH_CPR_CPR k) ≠ 0 → s.afeRd en = 0 → ∃ th, (u.ach k).meas =
        c.meas ++ [⟨th, th, tau, (tau + 146) % 2 ^ 64, (tau + 148) % 2 ^ 64, false⟩])) ∧
    (let e0 : Est := ⟨enc 72 ((c.p : Int) + 16 * c.v + 128 * c.a), satI 48 (c.v + 16 * c.a), c.a, false⟩
     let e1 : Est := ⟨enc 72 ((m.theta * 2 ^ 32 : Nat) + diffS 64 s.now m.tm * e0.v), e0.v, e0.a, false⟩
     let dm : Nat := (clampI 16 4294967295 (diffS 64 m.tm c.tLast)).toNat
     let r : Int := clampI (-2147483648) 2147483648 (rne (sx 72 (enc 72 ((m.theta * 2 ^ 32 : Nat) -
       ((e0.p : Int) - diffS 64 s.now m.tm * e0.v)))) 32)
     let rho : Nat := rhoOf dm (s.rd (Fd.AFE_CH_TAU_TAU k))
     let e2 : Est := ⟨enc 72 ((e0.p : Int) + alphaOf rho * r), satI 48 (e0.v + divRne (betaOf rho * r) (dm : Int)),
       satI 41 (e0.a + divRne (2 * gammaOf rho * r) ((dm * dm : Nat) : Int)), false⟩
     let shows : Est → (State → Prop) → Prop := fun e more => ∃ u, exec .estimateUpdate s = .next (finish u) ∧ (u.ach k).pubP = e.p ∧
       (u.ach k).pubV = e.v ∧
       (u.ach k).pubA = e.a ∧ (u.ach k).p = e.p ∧ (u.ach k).tU = s.now ∧ u.rd (Fd.AFE_CH_FINE_FINE k) = e.p / 2 ^ 32 % 2 ^ 40 ∧ more u
     let publishes : Est → Prop := fun e => shows e (fun _ => True)
     let n : Nat := s.rd (Fd.AFE_CH_CPR_CPR k)
     let still : Prop := ((s.rd (Fd.AFE_CH_STOP_STOP k) * 1024 : Nat) : Int) ≤ diffS 64 s.now c.lastEdge
     let bnd : Est → Nat := fun e => (c.rev * 2 ^ 64 + (if 0 < e.v then c.cell + 1 else c.cell) * scaleOf n) % 2 ^ 72
     let beyond : Est → Prop := fun e => n ≠ 0 ∧ ((0 < e.v ∧ 0 < diffS 72 e.p (bnd e)) ∨ (e.v < 0 ∧ diffS 72 e.p (bnd e) < 0))
     let lim : Int := divRne (scaleOf n : Int) (max 1 (diffS 64 s.now c.lastEdge))
     let bound : Est → Est := fun e => ⟨bnd e, if 0 < e.v then min e.v lim else max e.v (-lim),
       if (0 < e.v ∧ 0 < e.a) ∨ (e.v < 0 ∧ e.a < 0) then 0 else e.a, false⟩
     let goes : Est → Prop := fun e => (¬ still → ¬ beyond e → publishes e) ∧
       (¬ still → beyond e → shows (bound e) (fun u => u.rd (Fd.AFE_CH_STAT_SILENCE k) = 1)) ∧
       (still → ¬ beyond e → shows ⟨e.p, 0, 0, false⟩ (fun u => u.rd (Fd.AFE_CH_STAT_STOPPED k) = 1)) ∧
       (still → beyond e → shows ⟨bnd e, 0, 0, false⟩ (fun u => u.rd (Fd.AFE_CH_STAT_STOPPED k) = 1 ∧ u.rd (Fd.AFE_CH_STAT_SILENCE k) = 1))
     let due : Prop := 0 ≤ diffS 64 s.now m.ready ∧ diffS 64 m.enter s.now < 0
     (s.rd (Fd.AFE_CH_CFG_TYPE k) = 1 →
       (c.meas = [] → goes e0) ∧ (c.meas = [m] → due → c.restart = true → goes e1) ∧
       (c.meas = [m] → due → c.restart = false → m.rev = false → r.natAbs ≤ s.rd (Fd.AFE_CH_RESID_RESID_MAX k) * 256 → goes e2) ∧
       (c.meas = [m] → due → c.restart = false → m.rev = true → goes ⟨m.theta * 2 ^ 32, 0, 0, false⟩)) ∧
     (s.rd (Fd.AFE_CH_CFG_TYPE k) = 2 → c.meas = [] → publishes e0) ∧
     (s.rd (Fd.AFE_CH_CFG_TYPE k) = 2 → c.meas = [m] → due → c.restart = true → publishes e1) ∧
     (s.rd (Fd.AFE_CH_CFG_TYPE k) = 2 → c.meas = [m] → due → c.restart = false → m.rev = false →
       (r.natAbs ≤ s.rd (Fd.AFE_CH_RESID_RESID_MAX k) * 256 → publishes e2) ∧
       (s.rd (Fd.AFE_CH_RESID_RESID_MAX k) * 256 < r.natAbs → publishes e0)) ∧
     (∃ u, exec .estimateUpdate s = .next (finish u) ∧ u.nib.examined = [] ∧
       (s.rd (Fd.AFE_CH_CFG_TYPE k) = 0 → u.rd (Fd.AFE_CH_STAT_VALID k) = 0) ∧
       (s.rd pend = 1 → s.rd act < 2 → u.rd act = 1 - s.rd act ∧ u.rd pend = 0) ∧ (s.rd pend = 0 → u.rd act = s.rd act))) ∧
    (s.rd (Fd.AFE_CH_CFG_TYPE k) = 1 → ((s.afeRd (Fd.AFE_CH_STOP_STOP k) * 1024 : Nat) : Int) ≤ diffS 64 s.now c.lastEdge →
      ∃ u, exec (.stopTimeout k) s = .next (finish u) ∧ u.rd (Fd.AFE_CH_STAT_STOPPED k) = 1 ∧ (u.ach k).pubV = 0 ∧ (u.ach k).pubA = 0 ∧
        (u.ach k).v = 0 ∧ (u.ach k).a = 0 ∧ (u.ach k).pubP = c.pubP) ∧
    (s.rd (Fd.AFE_CH_CFG_TYPE k) = 2 → ((s.afeRd (Fd.AFE_CH_STOP_STOP k) * 1024 : Nat) : Int) ≤ diffS 64 s.now c.lastEdge →
      s.afeRd (Fd.AFE_CH_DIRCFG_DIR_HYST k) ≠ 0 → exec (.stopTimeout k) s = .next (finish (s.set1 (Fd.AFE_CH_STAT_STOPPED k)))) ∧
    (diffS 64 s.now c.lastEdge < ((s.afeRd (Fd.AFE_CH_STOP_STOP k) * 1024 : Nat) : Int) → exec (.stopTimeout k) s = .next (finish s)) ∧
    (sysOn s = true → masterServed s master = false → exec (.fineSnapshot k master) s = .next (finish s)) ∧
    (sysOn s = true → masterServed s master = true → railsOff s = false → ∃ u, exec (.fineSnapshot k master) s = .next (finish u) ∧
      u.sys.rdData = c.pubP / 2 ^ 32 % 2 ^ 32 ∧ (u.ach k).snapV = c.pubV ∧ (u.ach k).snapA = c.pubA ∧
      (u.ach k).snapTime = c.tU ∧ (u.ach k).snapCount = c.pubCell ∧ u.regs = s.regs ∧ u.mem = s.mem)

/-- With the sys clock: CPR_WRITE is refused outside STANDBY and SAFE or outside the range of TYPE, with CFG_REFUSED and CPR kept, and
otherwise sets CPR and S and restarts the estimator with V and A 0; a write of AFE_PLAUS_CFG is judged by mode and by 1 to 15,624;
TBL_SWAP sets PENDINGk; LEARN_START and STAT_START are refused with CFG_REFUSED while busy or where R69 and R70 forbid, else set BUSY
and begin an empty run; the other fields of a write whose START is ignored take effect (R402); LEARN_DONE and STAT_DONE end a complete
run with DONE. That a START while BUSY is ignored with CFG_REFUSED is the model's choice for learning (log entry 74). ALIGN captures
CHK_OFFSET only in STANDBY with both channels VALID. (R54, R63, R65, R66, R69, R70, R71) -/
def Obligations.AngleConfigurationAndRuns : Prop :=
  ∀ (s : State) (k cpr ref n v master : Nat), sysOn s = true → k < 2 →
    let setUp : Bool := s.mode == Md.standby || s.mode == Md.safe
    let refused : Instr → Prop := fun c => ∃ u, exec c s = .next (finish u) ∧ u.rd Fd.AFE_EST_STAT_CFG_REFUSED = 1 ∧
      u.mem = s.mem ∧ { u.afe with held := s.afe.held } = s.afe ∧ u.rd (Fd.AFE_CH_CPR_CPR k) = s.rd (Fd.AFE_CH_CPR_CPR k) ∧
      u.rd Fd.AFE_PLAUS_CFG_PLAUS_N = s.rd Fd.AFE_PLAUS_CFG_PLAUS_N ∧ u.rd Fd.AFE_CHK_OFFSET_OFFSET = s.rd Fd.AFE_CHK_OFFSET_OFFSET ∧
      u.rd Fd.AFE_LEARN_CTRL_BUSY = s.rd Fd.AFE_LEARN_CTRL_BUSY ∧ u.rd Fd.AFE_STAT_CTRL_BUSY = s.rd Fd.AFE_STAT_CTRL_BUSY
    let ty : Nat := s.rd (Fd.AFE_CH_CFG_TYPE k)
    let inRange : Prop := cpr = 0 ∨ (ty = 1 ∧ 4 ≤ cpr ∧ cpr ≤ 1048576) ∨ (ty = 2 ∧ cpr ≤ 65536) ∨ (ty ≠ 1 ∧ ty ≠ 2 ∧ cpr ≤ 1048576)
    (masterServed s master = false → exec (.afeCfgWrite 0x0C v master) s = .next (finish s)) ∧
    (setUp = false → refused (.cprWrite k cpr) ∧ (railsOff s = false → masterServed s master = true → refused (.afeCfgWrite 0x0C v master))) ∧
    (setUp = true → ¬ inRange → refused (.cprWrite k cpr)) ∧
    (setUp = true → inRange → ∃ u, exec (.cprWrite k cpr) s = .next (finish u) ∧ u.rd (Fd.AFE_CH_CPR_CPR k) = cpr ∧
      u.rd (Fd.AFE_CH_SCALE_S k) = scaleOf cpr % 2 ^ 64 ∧ (u.ach k).restart = true ∧ (u.ach k).meas = [] ∧ (u.ach k).v = 0 ∧
      (u.ach k).a = 0 ∧ (cpr = 0 → u.rd (Fd.AFE_CH_STAT_VALID k) = 0)) ∧
    (setUp = true → railsOff s = false → masterServed s master = true →
      (v % 16384 = 0 ∨ 15624 < v % 16384 → refused (.afeCfgWrite 0x0C v master)) ∧
      (0 < v % 16384 → v % 16384 ≤ 15624 → ∃ u, exec (.afeCfgWrite 0x0C v master) s = .next (finish u) ∧
        u.rd Fd.AFE_PLAUS_CFG_PLAUS_N = v % 16384 ∧ u.afe = s.afe ∧ u.mem = s.mem)) ∧
    (∃ u, exec (.tblSwap k) s = .next (finish u) ∧ u.rd (if k = 0 then Fd.AFE_TBL_CTRL_PENDING0 else Fd.AFE_TBL_CTRL_PENDING1) = 1 ∧
      u.afe = s.afe ∧ u.mem = s.mem) ∧
    (s.rd Fd.AFE_LEARN_CTRL_BUSY = 1 ∨ s.rd (Fd.AFE_CH_STAT_REFERENCED k) = 0 → refused (.learnStart k ref n) ∧
      ∃ u, exec (.learnStart k ref n) s = .next (finish u) ∧ u.rd Fd.AFE_LEARN_CTRL_CH = k ∧ u.rd Fd.AFE_LEARN_CTRL_REF = ref % 2 ∧
        u.rd Fd.AFE_LEARN_CTRL_REVS = n % 2 ^ Fd.AFE_LEARN_CTRL_REVS.w) ∧
    (s.rd Fd.AFE_LEARN_CTRL_BUSY = 0 → s.rd (Fd.AFE_CH_STAT_REFERENCED k) = 1 →
      ∃ u, exec (.learnStart k ref n) s = .next (finish u) ∧ u.rd Fd.AFE_LEARN_CTRL_BUSY = 1 ∧ u.afe.bins = [] ∧
        u.afe.learn = some ⟨k, 2 ^ min n 8, false⟩ ∧ u.rd Fd.AFE_LEARN_CTRL_CH = k ∧ u.rd Fd.AFE_LEARN_CTRL_REF = ref % 2) ∧
    (∀ l, s.afe.learn = some l → l.started = true → l.left = 0 → ∃ u, exec .learnDone s = .next (finish u) ∧ u.afe.learn = none ∧
      u.rd Fd.AFE_LEARN_CTRL_BUSY = 0 ∧ u.rd Fd.AFE_LEARN_CTRL_DONE = 1 ∧ u.afe.bins = s.afe.bins) ∧
    (s.afe.learn = none → exec .learnDone s = .next (finish s)) ∧
    (s.rd Fd.AFE_STAT_CTRL_BUSY = 1 ∨ ty ≠ 2 ∨ n < 10 ∨ 20 < n → refused (.statStart k n) ∧
      ∃ u, exec (.statStart k n) s = .next (finish u) ∧ u.rd Fd.AFE_STAT_CTRL_CH = k ∧
        u.rd Fd.AFE_STAT_CTRL_LOG2N = n % 2 ^ Fd.AFE_STAT_CTRL_LOG2N.w) ∧
    (s.rd Fd.AFE_STAT_CTRL_BUSY = 0 → ty = 2 → 10 ≤ n → n ≤ 20 → ∃ u, exec (.statStart k n) s = .next (finish u) ∧
      u.rd Fd.AFE_STAT_CTRL_BUSY = 1 ∧ u.afe.statLeft = 2 ^ n ∧ u.rd Fd.AFE_STAT_SUM_S_SUM = 0 ∧ u.rd Fd.AFE_STAT_SUM_C_SUM = 0 ∧
      u.rd Fd.AFE_STAT_SUM_SS_SUM = 0 ∧ u.rd Fd.AFE_STAT_SUM_CC_SUM = 0 ∧ u.rd Fd.AFE_STAT_SUM_SC_SUM = 0) ∧
    (s.afe.statLeft = 0 → s.rd Fd.AFE_STAT_CTRL_BUSY = 1 → ∃ u, exec .statDone s = .next (finish u) ∧
      u.rd Fd.AFE_STAT_CTRL_BUSY = 0 ∧ u.rd Fd.AFE_STAT_CTRL_DONE = 1) ∧
    (s.afe.statLeft ≠ 0 → exec .statDone s = .next (finish s)) ∧
    (let ready : Prop := s.mode = Md.standby ∧ s.rd (Fd.AFE_CH_STAT_VALID 0) = 1 ∧ s.rd (Fd.AFE_CH_STAT_VALID 1) = 1
     (ready → ∃ u, exec .alignChk s = .next (finish u) ∧ u.afe = s.afe ∧
       u.rd Fd.AFE_CHK_OFFSET_OFFSET = enc 40 (((s.ach 0).pubP / 2 ^ 32 : Nat) - ((s.ach 1).pubP / 2 ^ 32 : Nat))) ∧
     (¬ ready → s.rd (Fd.AFE_CH_STAT_VALID 0) < 2 → s.rd (Fd.AFE_CH_STAT_VALID 1) < 2 → refused .alignChk))

/-- With the engine clock: the select stage does nothing where the engine may not arm; outside crossing mode a single timed candidate is
handed to arming with the fire time of R113 where it lies from the arming latency up to the horizon, armed late at now + 16 under LATE
0 where it is earlier, and left waiting beyond the horizon or without a crossing ahead; NIB_ARM puts the oldest prediction in the
lowest free nib, raises ARMED and counts ARM, and withdraws it, with those behind it, where its queue no longer runs, its direction is
not admitted or no nib can be had; RETIME leaves a locked nib, retracts a nib with an unreadable record with input 4, and gives a nib
alone in its queue its new fire time; DESCRIPTOR_RESTORE lowers ARMED by the retracted nibs. (R105, R106, R109, R110, R111, R113, R114,
R116, R121, Table 5.2) -/
def Obligations.NibSelectionAndArming : Prop :=
  ∀ (s : State) (k i : Nat) (n : Nib) (c : Cand) (d : Desc) (e : Ev) (tau : Int) (rest : List Nib) (l : List (Nat × Nat)),
    engOn s = true →
    (mayArm s = false ∨ candidates s = [] → exec .selectTick s = .next (finish s)) ∧
    (let r := predictEv e d.dir s
     let f : Nat := afterPred s c.queue (fireOf s tau)
     let armed : List Nib → Prop := fun added => ∃ u, exec .selectTick s = .next (finish u) ∧ u.nib.arming = s.nib.arming ++ added ∧
       u.nib.nibs = s.nib.nibs ∧ u.mem = s.mem
     mayArm s = true → crossing s = false → candidates s = [c] → getDesc s c.queue = some d →
      getEntry s (ringEntry d c.idx) = some e → e.bidir = false → e.action ≠ 6 →
      (r.1 = none → armed []) ∧
      (r.1 = some tau → 2 ^ 22 * 16 < tau → armed []) ∧
      (r.1 = some tau → tau ≤ 2 ^ 22 * 16 → (s.nib.horizon * 16 : Nat) < tRel s f → 256 ≤ tRel s f → armed []) ∧
      (r.1 = some tau → tau ≤ 2 ^ 22 * 16 → 256 ≤ tRel s f → tRel s f ≤ (s.nib.horizon * 16 : Nat) →
        armed [nibFor c.queue c.idx f r.2.1 d.dir e false .armed]) ∧
      (r.1 = some tau → tau ≤ 2 ^ 22 * 16 → tRel s f < 256 → d.late = 0 →
        armed [nibFor c.queue c.idx (afterPred s c.queue (atTick (s.now + 16))) r.2.1 d.dir e true .armed])) ∧
    (s.nib.arming = [] → exec .nibArm s = .next (finish s)) ∧
    (s.nib.arming = n :: rest →
      let waits : State := { s with nib := { s.nib with arming := rest } }
      (qState s n.queue ≠ 1 ∨ mayArm s = false ∨ dirAdmitted s n = false ∨ (freeIdx s = none ∧ displaced waits n = none) →
        ∃ u, exec .nibArm s = .next (finish u) ∧ u.nib = { s.nib with arming := rest.filter (fun m => m.queue != n.queue) } ∧
          u.mem = s.mem ∧ u.regs = s.regs) ∧
      (qState s n.queue = 1 → mayArm s = true → dirAdmitted s n = true → s.plainMem → freeIdx s = some k → n.queue < 65536 →
        getDesc s n.queue = some d → d.armed < 2047 →
        ∃ u, exec .nibArm s = .next (finish u) ∧ mapGet? u.nib.nibs k = some n ∧ u.nib.arming = rest ∧
        (∀ j, j ≠ k → mapGet? u.nib.nibs j = mapGet? s.nib.nibs j) ∧
        u.rd (Fd.NIB_CNT_COUNT 0) = (s.rd (Fd.NIB_CNT_COUNT 0) + 1) % 2 ^ 64 ∧
        getDesc u n.queue = some { d with armed := d.armed + 1 })) ∧
    (mapGet? s.nib.nibs k = none → exec (.retime k) s = .next (finish s)) ∧
    (mapGet? s.nib.nibs k = some n →
      (n.mode = .locked → exec (.retime k) s = .next (finish s)) ∧
      (n.mode ≠ .locked → slotOk s (slotNib k 0) = false ∨ slotOk s (slotNib k 2) = false →
        ∃ u, exec (.retime k) s = .next (finish u) ∧ u.saf.due.contains 4 = true ∧ (k, n) ∉ u.nib.nibs) ∧
      (n.mode ≠ .locked → slotOk s (slotNib k 0) = true → slotOk s (slotNib k 2) = true → engValid s = true → dirAdmitted s n = true →
        crossing s = false → getDesc s n.queue = some d → (∀ x, x ∈ s.nib.nibs → x.2.queue = n.queue → x = (k, n)) →
        let r := predictEv n.ev d.dir s
        let f : Nat := match mapGet? s.nib.lastFire n.queue with
          | some p => laterOf s (fireOf s tau) p
          | none => fireOf s tau
        r.1 = some tau → tau ≤ 2 ^ 22 * 16 → 32 ≤ tRel s f → tRel s f ≤ (s.nib.horizon * 20 : Nat) →
        ∃ u m, exec (.retime k) s = .next (finish u) ∧ mapGet? u.nib.nibs k = some m ∧ m.fire = f ∧ m.phi = r.2.1 ∧ m.mode = .armed ∧
          m.fire0 = n.fire0 ∧ u.rd (Fd.NIB_CNT_COUNT 1) = (if f = n.fire then s.rd (Fd.NIB_CNT_COUNT 1)
            else (s.rd (Fd.NIB_CNT_COUNT 1) + 1) % 2 ^ 64))) ∧
    (s.nib.restores = [] → exec .descriptorRestore s = .next (finish s)) ∧
    (s.nib.restores = (k, i) :: l → k < 65536 → s.plainMem → getDesc s k = some d → ∃ u, exec .descriptorRestore s = .next (finish u) ∧
      u.nib.restores = l ∧ getDesc u k = some { d with armed := d.armed - i } ∧ u.nib.nibs = s.nib.nibs)

/-- With the engine clock: the guard with nothing due does nothing, clears every nib outside RUN and LIMITED or in a reaction, retracts a
due nib whose queue or group does not run, and locks a due nib that passes its checks; FIRE in RUN or LIMITED applies the level of an
ACTIVATE or RELEASE at the head of its queue, frees the nib, counts it, advances CIDX and lowers ARMED; an echo result seeds an
unseeded class delay, is rejected and counted beyond ECHO_WIN, and filters it otherwise; DELAY_WRITE sets the class or channel delay
seeded, RESEED clears SEEDED; a read of a nib record's word 0 returns it and captures words 1 to 3, or is an error response. (R106,
R115, R117, R118, R119, R126, R127, R134, Table 5.6) -/
def Obligations.NibGuardFireAndLearning : Prop :=
  ∀ (s : State) (t k v c : Nat) (key : ActKey) (n : Nib) (d : Desc) (x : EchoRes), engOn s = true →
    (dueList s = [] → exec .guardTick s = .next (finish s)) ∧
    (dueList s ≠ [] → driving s.mode = false ∨ s.saf.reaction = true → ∃ u, exec .guardTick s = .next (finish u) ∧ u.nib.nibs = [] ∧
      u.nib.arming = [] ∧ u.nib.restores = []) ∧
    (dueList s = [(t, key, Due.nib k)] → mapGet? s.nib.nibs k = some n → n.mode = .armed → t = n.fire / 16 → tRel s n.fire < 48 →
      driving s.mode = true → s.saf.reaction = false →
      (guardQueue s n = false → ∃ u, exec .guardTick s = .next (finish u) ∧ (k, n) ∉ u.nib.nibs) ∧
      (guardQueue s n = true → engValid s = true → dirAdmitted s n = true → crossing s = false → nibsAhead s n = [] → n.ev.action ≠ 7 →
        n.ev.action = 6 ∨ placesTaken s t < 64 →
        ∃ u, exec .guardTick s = .next (finish u) ∧ mapGet? u.nib.nibs k = some { n with mode := .locked } ∧
          u.rd (Fd.NIB_CNT_COUNT 2) = (s.rd (Fd.NIB_CNT_COUNT 2) + 1) % 2 ^ 64 ∧
          ∀ j, j ≠ k → mapGet? u.nib.nibs j = mapGet? s.nib.nibs j)) ∧
    (driving s.mode = false ∨ dueFires s = [] → exec .fire s = .next (finish s)) ∧
    (driving s.mode = true → dueFires s = [(k, n)] → mapGet? s.nib.nibs k = some n → k < 1024 → n.dropAt = none → n.ev.action ≤ 1 →
      n.ev.channel < 512 → n.ev.learn = false → n.queue < 65536 → qState s n.queue = 1 → mapGet? s.que.dropPend n.queue = none →
      s.plainMem → getDesc s n.queue = some d → d.log2 ≤ 16 → ringPos s n = 0 →
      ∃ u, exec .fire s = .next (finish u) ∧ u.level n.ev.channel = decide (n.ev.action = 0) ∧ mapGet? u.nib.nibs k = none ∧
        mapGet? u.nib.lastFire n.queue = some (firesAt s n).fire ∧ u.rd (fireCnt n) = (s.rd (fireCnt n) + 1) % 2 ^ 64 ∧
        getDesc u n.queue = some { d with cidx := (d.cidx + 1) % 2 ^ d.log2, armed := d.armed - 1 }) ∧
    ((∀ y, y ∈ s.nib.echo → s.now < y.stamp + 66) → exec .echoApply s = .next (finish s)) ∧
    (s.nib.echo = [x] → x.stamp + 66 ≤ s.now → x.learn = true → x.dsrc = false → x.cls < 256 →
      let h : Nat := s.rd (Fd.NIB_LC_DELAY_DELAY x.cls)
      let fits : Prop := ((x.m : Int) - h).natAbs ≤ s.rd (Fd.NIB_LC_LEARN_ECHO_WIN x.cls)
      ∃ u, exec .echoApply s = .next (finish u) ∧ u.nib.echo = [] ∧
        (s.rd (Fd.NIB_LC_STAT_SEEDED x.cls) = 0 → u.rd (Fd.NIB_LC_DELAY_DELAY x.cls) = x.m % 2 ^ 24 ∧
          u.rd (Fd.NIB_LC_STAT_SEEDED x.cls) = 1) ∧
        (s.rd (Fd.NIB_LC_STAT_SEEDED x.cls) = 1 → ¬ fits → u.rd (Fd.NIB_LC_DELAY_DELAY x.cls) = h ∧
          u.rd (Fd.NIB_LC_STAT_REJECTS x.cls) = min 65535 (s.rd (Fd.NIB_LC_STAT_REJECTS x.cls) + 1)) ∧
        (s.rd (Fd.NIB_LC_STAT_SEEDED x.cls) = 1 → fits → (u.rd (Fd.NIB_LC_DELAY_DELAY x.cls) : Int) =
          clampI 0 16777215 ((h : Int) + rne ((x.m : Int) - h) (s.rd (Fd.NIB_LC_LEARN_K x.cls))))) ∧
    (sysOn s = true → c < 256 → ∃ u, exec (.delayWrite false c v) s = .next (finish u) ∧ u.rd (Fd.NIB_LC_DELAY_DELAY c) = v % 2 ^ 24 ∧
      u.rd (Fd.NIB_LC_STAT_SEEDED c) = 1 ∧ u.mem = s.mem) ∧
    (sysOn s = true → c < 8704 → slotOk s (slotDelay c) = true → ∃ u, exec (.delayWrite true c v) s = .next (finish u) ∧
      slotVal u (slotDelay c) = v % 2 ^ 24 + 2 ^ 31 ∧ ∀ j, j ≠ slotDelay c → slotVal u j = slotVal s j) ∧
    (sysOn s = true → c < 256 → ∃ u, exec (.reseed c) s = .next (finish u) ∧ u.rd (Fd.NIB_LC_STAT_SEEDED c) = 0 ∧
      ((∀ y, y ∈ s.nib.classRec → y.2 ≠ c) → u.mem = s.mem) ∧
      (s.nib.classRec = [(k, c)] → k < 8704 → slotOk s (slotDelay k) = true →
        slotVal u (slotDelay k) = slotVal s (slotDelay k) % 2 ^ 31)) ∧
    (sysOn s = true → k < 1024 → slotOk s (slotNib k 0) = true → ∃ u, exec (.nibRecordRead k) s = .next (finish u) ∧
      u.sys.rdData = slotVal s (slotNib k 0) ∧ u.sys.rdErr = 0 ∧ u.nib.recNib = k ∧
      u.nib.recHold = [1, 2, 3].map (fun w => BitVec.ofNat 32 (slotVal s (slotNib k w))) ∧ u.mem = s.mem) ∧
    (sysOn s = true → k < 1024 → slotOk s (slotNib k 0) = false → ∃ u, exec (.nibRecordRead k) s = .next (finish u) ∧ u.sys.rdErr = 2 ∧
      u.rd Fd.MEM_STAT_ERR_RESP = 1)

/-- With the engine clock: TRAILING_EDGE restores the level of a channel whose pulse has ended; FRAME_CUT composes the image of a string's
due frame, with its members, latch tick and shift end; the shift's end stores the captured bits and sets the string's fault and input 5
where RET_MODE fails; STRING_LATCH of a locked and shifted frame, with no event of a member's queue ahead of it that does not act with
it, latches the image, frees the members' nibs and counts; SAFE_IMAGE_LATCH latches the safe image, or faults the string where it is
unreadable; ECHO_EDGE takes an expected edge sampled EFILT times, after blanking and within ETMO, as the measurement; ECHO_TIMEOUT ends
a wait past ETMO and counts; a binding write is refused outside STANDBY and SAFE with CFG_REFUSED, and on a taken pin with
BIND_REFUSED. The frame's order and the echo's rest on log entries 24 and 75. (R132, R133, R135, R137, R138, R140, R141, R143, R148) -/
def Obligations.ChannelsAndStrings : Prop :=
  ∀ (s : State) (st ch c w v samples : Nat) (rising : Bool) (sdi : BitVec 256) (x : EchoUnit) (f : Frame) (tr : Trail), engOn s = true →
    st < 32 → c < 512 →
    let str : StrSt := s.strOf st
    let mask : BitVec 256 := BitVec.ofNat 256 (2 ^ strLen s st - 1)
    let faulted : State → Prop := fun u => (u.rd Fd.CHN_SFAULT_FAULT).testBit st = true ∧ u.saf.due.contains 5 = true
    (trailsDue s = [] → exec .trailingEdge s = .next (finish s)) ∧
    (trailsDue s = [ch] → mapGet? s.chn.trail ch = some tr → ∃ u, exec .trailingEdge s = .next (finish u) ∧ u.level ch = tr.level ∧
      mapGet? u.chn.trail ch = none ∧ u.regs = s.regs ∧ u.mem = s.mem) ∧
    (str.frame ≠ none ∨ frameOpener s st = none ∨ driving s.mode = false ∨ strLen s st = 0 →
      exec (.frameCut st) s = .next (finish s)) ∧
    (∀ f0 q0 e0, str.frame = none → frameOpener s st = some (f0, q0, e0) → driving s.mode = true → strLen s st ≠ 0 →
      let t1 : Nat := max (f0 / 16) (earliest s st)
      let tl : Nat := max t1 (s.now + tShift s st + 8)
      let ph : Nat := if tl = f0 / 16 then f0 % 16 else 0
      let ms : List Nat := orderedMembers s ((atTick tl + ph) % 2 ^ 68)
        ((frameFree s st).filter (fun e => decide (tRel s e.2.fire < tRel s (atTick (tl + s.rd (Fd.CHN_SCFG3_LATW st))))))
      let ts : List Nat := ((stringTrails s st).filter (fun e => decide (tRel s (atTick (e.2.time / 16)) ≤ tRel s (atTick tl)))).map Prod.fst
      (s.now + tShift s st + 8 < t1 ∨ (ms = [] ∧ ts = []) → exec (.frameCut st) s = .next (finish s)) ∧
      (t1 ≤ s.now + tShift s st + 8 → ms ≠ [] ∨ ts ≠ [] → ∃ u g, exec (.frameCut st) s = .next (finish u) ∧ (u.strOf st).frame = some g ∧
        g.tL = tl ∧
        g.phase = ph ∧ g.members = ms ∧ g.trails = ts ∧ g.shiftEnd = s.now + tShift s st ∧ g.locked = false ∧ g.shifted = false ∧
        g.image = frameImage s st g.members g.trails ∧ g.acts = actOrder s g.members ∧ u.nib = s.nib ∧ u.regs = s.regs ∧ u.mem = s.mem)) ∧
    (str.frame = none → exec (.stringShiftEnd st sdi) s = .next (finish s) ∧ exec (.stringLatch st) s = .next (finish s)) ∧
    (str.frame = some f →
      (f.shifted = false → ∃ u, exec (.stringShiftEnd st sdi) s = .next (finish u) ∧ (u.strOf st).frame = some { f with shifted := true } ∧
        (u.strOf st).status = sdi &&& mask ∧ (u.strOf st).prevShift = f.image ∧ (returnCheck st sdi s = false → faulted u) ∧
        (returnCheck st sdi s = true → u.regs = s.regs ∧ u.saf = s.saf)) ∧
      (f.locked = false ∨ f.shifted = false ∨ s.now < f.tL → exec (.stringLatch st) s = .next (finish s)) ∧
      ((∀ e, e ∈ latchable s → e.1 ≠ st) → exec (.stringLatch st) s = .next (finish s)) ∧
      (f.locked = true → f.shifted = true → f.tL ≤ s.now → dueFires s = [] → (∀ k, k ∈ f.members → aheadIn s f.members k = true) →
        ∃ u, exec (.stringLatch st) s = .next (finish u) ∧
        (u.strOf st).frame = none ∧ (u.strOf st).latched = f.image ∧ (u.strOf st).lastEnd = f.tL + latPw s st ∧
        u.rd (Fd.CHN_CNT_COUNT 0) = (s.rd (Fd.CHN_CNT_COUNT 0) + 1) % 2 ^ 64 ∧
        ∀ k, k ∈ f.members → mapGet? u.nib.nibs k = none)) ∧
    (str.safeDue = false ∨ strLen s st = 0 → exec (.safeImageLatch st sdi) s = .next (finish s)) ∧
    (str.safeDue = true → strLen s st ≠ 0 →
      (∀ img, (safeImage st s).1 = some img → ∃ u, exec (.safeImageLatch st sdi) s = .next (finish u) ∧ (u.strOf st).latched = img ∧
        (u.strOf st).safeDue = false ∧ (u.strOf st).imaged = true ∧ (u.strOf st).oe = driving s.mode ∧ (u.strOf st).status = sdi &&& mask ∧
        (returnCheck st sdi s = false → faulted u)) ∧
      ((safeImage st s).1 = none → ∃ u, exec (.safeImageLatch st sdi) s = .next (finish u) ∧ (u.strOf st).safeDue = false ∧ faulted u)) ∧
    (mapGet? s.chn.echo st = none → exec (.echoEdge st samples rising) s = .next (finish s) ∧ exec (.echoTimeout st) s = .next (finish s)) ∧
    (mapGet? s.chn.echo st = some x →
      let stamp : Nat := echoStamped s samples
      let late : Int := diffS 68 (atTick stamp) ((x.fire + s.rd (Fd.CHN_ETIME_EBLANK st) * 256) % 2 ^ 68)
      let m : Nat := min (diffS 68 (atTick stamp) x.fire).toNat 16777215
      (echoPast s st x.fire (echoStamp s st) = true → ∃ u, exec (.echoTimeout st) s = .next (finish u) ∧ mapGet? u.chn.echo st = none ∧
        u.rd (Fd.CHN_ESTAT_TIMEOUTS st) = min 65535 (s.rd (Fd.CHN_ESTAT_TIMEOUTS st) + 1) ∧ u.nib = s.nib) ∧
      (echoPast s st x.fire (echoStamp s st) = false → exec (.echoTimeout st) s = .next (finish s)) ∧
      (samples < echoFilt s st → exec (.echoEdge st samples rising) s = .next (finish s)) ∧
      (echoFilt s st ≤ samples → echoPast s st x.fire stamp = true → exec (.echoEdge st samples rising) s = exec (.echoTimeout st) s) ∧
      (echoPast s st x.fire stamp = false → rising = x.falling ∨ late < 0 → exec (.echoEdge st samples rising) s = .next (finish s)) ∧
      (echoFilt s st ≤ samples → echoPast s st x.fire stamp = false → rising ≠ x.falling → 0 ≤ late →
        ∃ u, exec (.echoEdge st samples rising) s = .next (finish u) ∧ mapGet? u.chn.echo st = none ∧
        u.rd (Fd.CHN_ELAST_M st) = m ∧ u.nib.echo = s.nib.echo ++ [⟨stamp, st, m, x.cls, x.chan, x.dsrc, x.learn⟩])) ∧
    (let setUp : Bool := s.mode == Md.standby || s.mode == Md.safe
     sysOn s = true →
     (setUp = false → w < 4 → ∃ u, exec (.chnBindWrite none c v) s = .next (finish u) ∧ u = s.set1 Fd.CHN_STAT_CFG_REFUSED ∧
       exec (.chnBindWrite (some w) st v) s = .next (finish u)) ∧
     (setUp = true → v.testBit 9 = true → pinTaken s c 32 (v % 512) = true →
       exec (.chnBindWrite none c v) s = .next (finish (s.set1 Fd.CHN_STAT_BIND_REFUSED))) ∧
     (setUp = true → v.testBit 9 = false ∨ pinTaken s c 32 (v % 512) = false → ∃ u, exec (.chnBindWrite none c v) s = .next (finish u) ∧
       u.rd (Fd.CHN_DCFG_PIN c) = v % 512 ∧ u.rd (Fd.CHN_DCFG_BOUND c) = v / 2 ^ 9 % 2 ∧
       u.rd (Fd.CHN_DCFG_ECHO_UNIT c) = v / 2 ^ 12 % 32 ∧ u.rd (Fd.CHN_DCFG_ECHO_EN c) = v / 2 ^ 17 % 2 ∧ u.chn = s.chn ∧ u.mem = s.mem) ∧
     (setUp = true → ∃ u, exec (.chnBindWrite (some 3) st v) s = .next (finish u) ∧ u.rd (Fd.CHN_SCFG3_LATW st) = v % 65536 ∧
       u.rd (Fd.CHN_SCFG3_ECHO_UNIT st) = v / 2 ^ 16 % 32 ∧ u.rd (Fd.CHN_SCFG3_ECHO_EN st) = v / 2 ^ 21 % 2 ∧
       u.rd (Fd.CHN_SCFG3_LATPW st) = v / 2 ^ 22 % 64 ∧ u.chn = s.chn ∧ u.mem = s.mem))

/-- For every descriptor whose fields lie within the widths of Table 4.3, reading the fields of the two words that encode it gives the
descriptor back; BASE stands in [17:0] of word 0, CIDX in [15:0] of word 2, STATE in [1:0] and CAUSE in [31:28] of word 3.
(04_event_queues.md Table 4.3) -/
def Obligations.DescriptorWords : Prop :=
  ∀ d : Desc, d.base < 2 ^ 18 → d.log2 < 32 → d.pidx < 65536 → d.sidx < 65536 → d.cidx < 65536 → d.armed < 2048 → d.state < 4 →
    d.late < 4 → d.dir < 2 → d.group < 64 → d.cpl < 4 → d.prod < 64 → d.owner < 16 → d.cause < 16 →
    descOf (descLo d) (descHi d) = d ∧ descLo d % 2 ^ 18 = d.base ∧ descHi d % 65536 = d.cidx ∧ descHi d / 2 ^ 32 % 4 = d.state ∧
    descHi d / 2 ^ 60 = d.cause ∧ descLo d < 2 ^ 64 ∧ descHi d < 2 ^ 64

/-- With the engine clock, for a port p of Table 4.4 (a fabric port connected, READY and with its clock) that produces queue q, whose
descriptor d reads clean and is RUNNING or PAUSED in STANDBY, RUN or LIMITED: when the source is VALID, the ring is not full, fields
and angle window pass and the ring is empty or the event is not behind the target of the entry at SIDX − 1, PUSH writes the event at
SIDX and advances SIDX by one modulo the ring length, PUSH_COMMIT also sets PIDX to the new SIDX; COMMIT sets PIDX to SIDX, ABORT sets
SIDX to PIDX; each returns OK, a fabric port with STATUS_VALID and STAGED until its clock has seen them, a host port in QUE_PUSH_STAT,
and changes no other descriptor field (before the command's end is settled). The PUSH, PUSH_COMMIT, COMMIT and ABORT instructions of a
scribe pair, the word at its PC being theirs, do the same with the event in four registers, and leave OK in rd. (R80, R81,
04_event_queues.md Table 4.5) -/
def Obligations.PushStagesAnEvent : Prop :=
  ∀ (s : State) (p q rd ra rb : Nat) (w0 w1 w2 w3 : W32) (d : Desc), engOn s = true → q < 65536 → p < 64 →
    p ∉ [11, 12, 13, 14, 15, 24, 25, 26, 27, 28, 29, 30, 31] →
    pushMode s = true → ¬(qState s q = 3 ∧ qCause s q = 8) → readDesc q s = (some d, s) → d.prod = p → (d.state = 1 ∨ d.state = 2) →
    let e : Ev := ⟨w0, w1, w2, w3⟩
    let n : Nat := (d.sidx + 1) % 2 ^ d.log2
    let ends : State → State := fun t => if p < 16 ∨ 24 ≤ p then t.ret 0
      else { t with fab := { t.fab with push := mapPut t.fab.push (p - 16) ⟨true, true, 0, stagedOf t q⟩ } }.ret 0
    let ready : Prop := portOn s (p - 16) = true ∧ (mapGet pushZero s.fab.push (p - 16)).busy = false
    let fits : Prop := engValid s = true ∧ n ≠ d.cidx % 2 ^ d.log2 ∧ fieldsOk e s = true ∧ windowOk w0.toNat d.dir s = true ∧
      (d.sidx = d.cidx ∨ ∃ x, readEntry (ringEntry d (d.sidx + 2 ^ d.log2 - 1)) s = (some x, s) ∧ behindOf w0.toNat x.target d.dir = false)
    let put : State := putEntry (d.base + d.sidx % 2 ^ d.log2) e s
    (ScrFree p s → rb < 32 → gRead s p ra % 65536 = q →
     (gEvent s p rb = e → rb ≠ 0 → rb % 4 = 0 → fits →
      (ScrHas p (wordR 0x22 rd ra rb 0) s →
        exec (.push (.scribe p rd ra rb)) s = .next (finish (scrSet p rd 0 (putDesc q { d with sidx := n } put)))) ∧
      (ScrHas p (wordR 0x22 rd ra rb 1) s →
        exec (.pushCommit (.scribe p rd ra rb)) s = .next (finish (scrSet p rd 0 (putDesc q { d with sidx := n, pidx := n } put))))) ∧
     (ScrHas p (wordR 0x22 rd ra rb 2) s →
       exec (.commit (.scribe p rd ra rb)) s = .next (finish (scrSet p rd 0 (putDesc q { d with pidx := d.sidx } s)))) ∧
     (ScrHas p (wordR 0x22 rd ra rb 3) s →
       exec (.abort (.scribe p rd ra rb)) s = .next (finish (scrSet p rd 0 (putDesc q { d with sidx := d.pidx } s))))) ∧
    (¬(8 ≤ p ∧ p < 11) → (16 ≤ p ∧ p < 24 → ready) →
     (fits →
      exec (.push (.port p q w0 w1 w2 w3)) s =
        .next (finish (ends (putDesc q { d with sidx := n } put))) ∧
      exec (.pushCommit (.port p q w0 w1 w2 w3)) s =
        .next (finish (ends (putDesc q { d with sidx := n, pidx := n } put)))) ∧
     exec (.commit (.port p q w0 w1 w2 w3)) s = .next (finish (ends (putDesc q { d with pidx := d.sidx } s))) ∧
     exec (.abort (.port p q w0 w1 w2 w3)) s = .next (finish (ends (putDesc q { d with sidx := d.pidx } s)))) ∧
    (8 ≤ p → p < 11 → s.plainMem → d.log2 ≤ 16 → d.base + 2 ^ d.log2 ≤ 262144 →
     let ok : State → Prop := fun u => u.rd (Fd.QUE_PUSH_STAT_STATUS (p - 8)) = 0
     (fits →
      (∃ u, exec (.push (.port p q w0 w1 w2 w3)) s = .next (finish u) ∧ ok u ∧ getDesc u q = some { d with sidx := n } ∧
        getEntry u (d.base + d.sidx % 2 ^ d.log2) = some e) ∧
      (∃ u, exec (.pushCommit (.port p q w0 w1 w2 w3)) s = .next (finish u) ∧ ok u ∧ getDesc u q = some { d with sidx := n, pidx := n } ∧
        getEntry u (d.base + d.sidx % 2 ^ d.log2) = some e)) ∧
     (∃ u, exec (.commit (.port p q w0 w1 w2 w3)) s = .next (finish u) ∧ ok u ∧ getDesc u q = some { d with pidx := d.sidx }) ∧
     (∃ u, exec (.abort (.port p q w0 w1 w2 w3)) s = .next (finish u) ∧ ok u ∧ getDesc u q = some { d with sidx := d.pidx }))

/-- With the engine clock, for a port p of Table 4.4 other than the host ports (a fabric port connected, READY and with its clock) and a
queue whose descriptor reads clean: a push outside STANDBY, RUN and LIMITED returns REFUSED_MODE, one of a queue another port produces
returns ACCESS, one while the source is not VALID returns REFUSED_MODE, one to a full ring returns BUSY, one whose fields fail or whose
target fails the angle window returns RANGE, one behind the target of the entry at SIDX − 1 of a ring that holds events returns ORDER;
the push then has no effect other than its status and the count of that status. A fabric port that is not connected, not READY or
without its clock takes no operation. (R81, 04_event_queues.md Table 4.5) -/
def Obligations.FailedPushHasNoOtherEffect : Prop :=
  ∀ (s : State) (p q : Nat) (w0 w1 w2 w3 : W32) (d : Desc) (x : Ev), engOn s = true → q < 65536 →
    (p < 8 ∨ 16 ≤ p ∧ p < 24 ∨ 32 ≤ p ∧ p < 64) →
    (16 ≤ p → p < 24 → portOn s (p - 16) = false ∨ (mapGet pushZero s.fab.push (p - 16)).busy = true →
      exec (.push (.port p q w0 w1 w2 w3)) s = .next (finish s) ∧ exec (.pushCommit (.port p q w0 w1 w2 w3)) s = .next (finish s)) ∧
    ((16 ≤ p ∧ p < 24 → portOn s (p - 16) = true ∧ (mapGet pushZero s.fab.push (p - 16)).busy = false) →
    ¬(qState s q = 3 ∧ qCause s q = 8) → readDesc q s = (some d, s) →
    let e : Ev := ⟨w0, w1, w2, w3⟩
    let refused : Nat → Prop := fun st => ∀ c, c ∈ [Instr.push (.port p q w0 w1 w2 w3), .pushCommit (.port p q w0 w1 w2 w3)] →
      let t : State := s.incSat (Fd.QUE_REFUSE_CNT_COUNT st)
      exec c s = .next (finish (if p < 16 ∨ 24 ≤ p then t.ret st
        else { t with fab := { t.fab with push := mapPut t.fab.push (p - 16) ⟨true, true, st, stagedOf t q⟩ } }.ret st))
    let mine : Prop := pushMode s = true ∧ d.prod = p ∧ (d.state = 1 ∨ d.state = 2)
    let room : Prop := mine ∧ engValid s = true ∧ (d.sidx + 1) % 2 ^ d.log2 ≠ d.cidx % 2 ^ d.log2
    (pushMode s = false → refused 2) ∧
    (pushMode s = true → d.prod ≠ p → refused 5) ∧
    (pushMode s = true → d.prod = p → d.state ≠ 1 → d.state ≠ 2 → refused 2) ∧
    (mine → engValid s = false → refused 2) ∧
    (mine → engValid s = true → (d.sidx + 1) % 2 ^ d.log2 = d.cidx % 2 ^ d.log2 → refused 1) ∧
    (room → fieldsOk e s = false → refused 9) ∧
    (room → fieldsOk e s = true → windowOk w0.toNat d.dir s = false → refused 9) ∧
    (room → fieldsOk e s = true → windowOk w0.toNat d.dir s = true → d.sidx ≠ d.cidx →
      readEntry (ringEntry d (d.sidx + 2 ^ d.log2 - 1)) s = (some x, s) → behindOf w0.toNat x.target d.dir = true → refused 4))

/-- On a live device with no queue command in progress and plain memory: INIT of a DISABLED queue with LOG2LEN 2 to 16, BASE aligned and
its granules free leaves it PAUSED, indexes, ARMED and cause 0, with the fields of QUE_INIT_CFG0 and QUE_INIT_CFG1, its granules
allocated, status OK; otherwise it reports RANGE, or REFUSED_MODE for a queue in use, and changes nothing else of the queue. RESUME of
a PAUSED queue whose ring is empty makes it RUNNING; other queues are untouched. On a live device with no queue command in progress and
plain memory, for a queue with a clean descriptor: PAUSE of a RUNNING queue that holds no nib makes it PAUSED with cause 1 and reports
OK; DISABLE of a PAUSED queue that holds no nib makes it DISABLED, discards its events and frees its granules; PAUSE of a RUNNING queue
that holds a locked nib alone sets BUSY and waits. SET_LATE writes the late policy of a queue in use. QUE_DRAIN_DONE completes a
waiting pause once the queue holds no nib. (R97, 04_event_queues.md Table 4.9, R98, R99) -/
def Obligations.QueueCommands : Prop :=
  (∀ (s : State) (q : Nat) (d : Desc), s.live = true → s.plainMem → q < 65536 → s.rdB Fd.QUE_CMD_STAT_BUSY = false →
     let base : Nat := s.rd Fd.QUE_INIT_CFG0_BASE
     let log2 : Nat := s.rd Fd.QUE_INIT_CFG0_LOG2LEN
     let fit : Prop := 2 ≤ log2 ∧ log2 ≤ 16 ∧ base % 2 ^ log2 = 0 ∧ s.que.alloc &&& granMask base log2 = 0
     let reports : Nat → State → Prop := fun st t => t.rd Fd.QUE_CMD_STAT_STATUS = st ∧ t.rd Fd.QUE_CMD_STAT_BUSY = 0 ∧
       t.rd Fd.QUE_CMD_STAT_QUEUE = q
     (qState s q = 0 → fit → ∃ t x, exec (.queInit q) s = .next t ∧ reports 0 t ∧ getDesc t q = some x ∧ x.base = base % 2 ^ 18 ∧
       x.log2 = log2 ∧ x.pidx = 0 ∧ x.sidx = 0 ∧ x.cidx = 0 ∧ x.armed = 0 ∧ x.state = 2 ∧ x.cause = 0 ∧
       x.prod = s.rd Fd.QUE_INIT_CFG1_PROD % 64 ∧ x.group = s.rd Fd.QUE_INIT_CFG1_GROUP % 64 ∧ x.late = s.rd Fd.QUE_INIT_CFG1_LATE % 4 ∧
       qState t q = 2 ∧ qCause t q = 0 ∧ t.que.alloc = s.que.alloc ||| granMask base log2 ∧ OtherQueues q s t) ∧
     (qState s q = 0 → ¬fit → ∃ t, exec (.queInit q) s = .next t ∧ reports 9 t ∧ t.que = s.que ∧ t.mem = s.mem) ∧
     (qState s q ≠ 0 → ∃ t, exec (.queInit q) s = .next t ∧ reports 2 t ∧ t.que = s.que ∧ t.mem = s.mem) ∧
     (qState s q = 2 → readDesc q s = (some d, s) → d.pidx = d.cidx → d.log2 ≤ 16 → ∃ t, exec (.queResume q) s = .next t ∧
       reports 0 t ∧ qState t q = 1 ∧ getDesc t q = some { d with state := 1 } ∧ OtherQueues q s t ∧ QueFrame s t)) ∧
  (∀ (s : State) (q late : Nat) (d : Desc), s.live = true → s.plainMem → q < 65536 → late < 4 → readDesc q s = (some d, s) →
     d.base + 2 ^ d.log2 ≤ 262144 →
     let free : Prop := s.rdB Fd.QUE_CMD_STAT_BUSY = false
     let reports : State → Prop := fun t => t.rd Fd.QUE_CMD_STAT_STATUS = 0 ∧ t.rd Fd.QUE_CMD_STAT_BUSY = 0 ∧ t.rd Fd.QUE_CMD_STAT_QUEUE = q
     (free → qState s q = 1 → queueDrained s q = true → ∃ t, exec (.quePause q) s = .next t ∧ reports t ∧ qState t q = 2 ∧
       qCause t q = 1 ∧ getDesc t q = some { d with state := 2, cause := 1 } ∧ OtherQueues q s t) ∧
     (free → qState s q = 1 → s.nib.arming = [] → (∀ e ∈ s.nib.nibs, e.2.queue = q → e.2.mode = .locked) → queueDrained s q = false →
       ∃ t, exec (.quePause q) s = .next t ∧ t.rd Fd.QUE_CMD_STAT_BUSY = 1 ∧ t.que.cmd = some ⟨2, q⟩ ∧ qState t q = 2 ∧ t.nib = s.nib) ∧
     (free → qState s q = 2 → queueDrained s q = true → ∃ t, exec (.queDisable q) s = .next t ∧ reports t ∧ qState t q = 0 ∧
       t.que.alloc &&& granMask d.base d.log2 = 0 ∧
       getDesc t q = some { d with state := 0, sidx := d.cidx, pidx := d.cidx, armed := 0 } ∧ OtherQueues q s t) ∧
     (free → qState s q ≠ 0 → ¬(qState s q = 3 ∧ qCause s q = 8) → ∃ t, exec (.queSetLate q late) s = .next t ∧ reports t ∧
       getDesc t q = some { d with late := late } ∧ qState t q = qState s q ∧ OtherQueues q s t ∧ QueFrame s t) ∧
     (s.que.cmd = some ⟨2, q⟩ → queueDrained s q = true → ∃ t, exec .queDrainDone s = .next t ∧ reports t ∧ t.que.cmd = none ∧
       t.mem = s.mem ∧ t.nib = s.nib))

/-- On a live device with no queue command in progress and plain memory, for a queue HALTED with cause 4, 5 or 7 that has a pending event,
no armed event and a clean descriptor: SKIP advances CIDX by one and leaves the queue PAUSED with cause 1; REPAIR where CIDX stands at
the entry it halted at (ORDER where not), with a replacement that passes the field and window checks, in a queue that has fired nothing
and has no further pending event, writes the replacement at CIDX and leaves the queue PAUSED with cause 1, indexes unchanged. For any
other queue state or cause both report REFUSED_MODE and change no queue. (R102, R97, 04_event_queues.md Table 4.9) -/
def Obligations.QueueSkipAndRepair : Prop :=
  ∀ (s : State) (q : Nat) (d : Desc), s.live = true → s.plainMem → q < 65536 → s.rdB Fd.QUE_CMD_STAT_BUSY = false →
    readDesc q s = (some d, s) → d.base + 2 ^ d.log2 ≤ 262144 →
    let halted : Prop := qState s q = 3 ∧ qCause s q ∈ [4, 5, 7]
    let ready : Prop := halted ∧ d.armed = 0 ∧ queueDrained s q = true ∧ pendingOf d ≠ 0
    let e : Ev := repairEv s
    (ready → ∃ t, exec (.queSkip q) s = .next t ∧ t.rd Fd.QUE_CMD_STAT_STATUS = 0 ∧ qState t q = 2 ∧ qCause t q = 1 ∧
      getDesc t q = some { d with state := 2, cause := 1, cidx := (d.cidx + 1) % 2 ^ d.log2 } ∧ OtherQueues q s t ∧ t.nib = s.nib) ∧
    (ready → d.cidx ≠ haltIdx s q → ∃ t, exec (.queRepair q) s = .next t ∧ t.rd Fd.QUE_CMD_STAT_STATUS = 4 ∧ t.que = s.que ∧ t.mem = s.mem) ∧
    (ready → d.cidx = haltIdx s q → fieldsOk e s = true → windowOk e.target d.dir s = true → q ∉ s.que.retired → pendingOf d = 1 →
      ∃ t, exec (.queRepair q) s = .next t ∧ t.rd Fd.QUE_CMD_STAT_STATUS = 0 ∧ qState t q = 2 ∧ qCause t q = 1 ∧
        getDesc t q = some { d with state := 2, cause := 1 } ∧ getEntry t (d.base + d.cidx % 2 ^ d.log2) = some e ∧
        OtherQueues q s t ∧ t.nib = s.nib) ∧
    (¬halted → (∃ t, exec (.queSkip q) s = .next t ∧ t.rd Fd.QUE_CMD_STAT_STATUS = 2 ∧ t.que = s.que ∧ t.mem = s.mem) ∧
      ∃ t, exec (.queRepair q) s = .next t ∧ t.rd Fd.QUE_CMD_STAT_STATUS = 2 ∧ t.que = s.que ∧ t.mem = s.mem)

/-- On a live device with plain memory: BAR_OPEN of a barrier at which no queue waits sets ARRIVED to 0 and reports OK; a barrier whose
ARRIVED has reached its NEED opens: the first NEED waiting queues leave the barrier and ARRIVED falls by NEED; one whose ARRIVED is
below NEED does nothing. For the one queue that waits at a barrier of NEED 1, CIDX advances by one. (R93, 04_event_queues.md Table
4.10) -/
def Obligations.BarriersOpen : Prop :=
  ∀ (s : State) (q b : Nat) (d : Desc), s.live = true → s.plainMem → q < 65536 → b < 256 →
    let need : Nat := s.rd (Fd.QUE_BAR_NEED b)
    let arrived : Nat := s.rd (Fd.QUE_BAR_ARRIVED b)
    (s.rdB Fd.QUE_CMD_STAT_BUSY = false → atBarrier s b = [] → ∃ t, exec (.queBarOpen q b) s = .next t ∧
      t.rd (Fd.QUE_BAR_ARRIVED b) = 0 ∧ t.rd Fd.QUE_CMD_STAT_STATUS = 0 ∧ t.que = s.que ∧ t.mem = s.mem) ∧
    (arrived < need → exec (.barrierOpening b) s = .next s) ∧
    (s.que.barAt = [(q, b)] → need = 1 → arrived = 1 → readDesc q s = (some d, s) → d.log2 ≤ 16 → d.cpl = 0 →
      ∃ t, exec (.barrierOpening b) s = .next t ∧ t.rd (Fd.QUE_BAR_ARRIVED b) = 0 ∧ atBarrier t b = [] ∧
        getDesc t q = some { d with cidx := (d.cidx + 1) % 2 ^ d.log2 } ∧ OtherQueues q s t ∧ t.nib = s.nib)

/-- On a live device: the sweep moves to the next queue, and halts a queue of its turn whose pending unarmed head has left the angle window
with cause 7; the record of the oldest outcome is written at PIDX of its group's ring, PIDX advances and the sequence counts, or it is
discarded and counted where the ring is full; setting EN of a ring that fits allocates its granules and empties it, one that does not
fit sets CRING_REFUSED; a write of QUE_GROUP_EN sets it (with no nib armed nothing else changes); a read of QUE_HALT_LOG gives the
oldest entry and removes it, or 0 from an empty log. (R95, R100, R101, R102, 04_event_queues.md Table 4.10) -/
def Obligations.QueueSweepRecordsAndRings : Prop :=
  ∀ (s : State) (g base log2 v : Nat) (d : Desc) (e : Ev) (c : Cpl) (rest : List Cpl) (h : HaltEntry) (hs : List HaltEntry),
    s.live = true → s.plainMem → g < 64 →
    let q : Nat := s.que.sweep
    let fit : Prop := 2 ≤ log2 ∧ log2 ≤ 16 ∧ base % 2 ^ log2 = 0 ∧ base + 2 ^ log2 ≤ 262144 ∧ s.que.alloc &&& granMask base log2 = 0
    (qState s q = 0 → ∃ t, exec .staleHeadSweep s = .next t ∧ t.que.sweep = (q + 1) % 65536 ∧ { t with que := s.que } = s) ∧
    (qState s q = 2 → readDesc q s = (some d, s) → pendingOf d ≠ 0 → d.armed = 0 → queueDrained s q = true →
      readEntry (ringEntry d d.cidx) s = (some e, s) → windowOk e.target d.dir s = false → q < 65536 →
      ∃ t, exec .staleHeadSweep s = .next t ∧ t.que.sweep = (q + 1) % 65536 ∧ qState t q = 3 ∧ qCause t q = 7) ∧
    (s.que.cpl = c :: rest → c.group = g → s.rdB (Fd.QUE_CRING_CFG_EN g) = true → s.rd (Fd.QUE_CRING_CFG_LOG2LEN g) ≤ 16 →
      s.rd (Fd.QUE_CRING_CFG_BASE g) + 65536 ≤ 262144 →
      let len : Nat := 2 ^ s.rd (Fd.QUE_CRING_CFG_LOG2LEN g)
      let p : Nat := s.rd (Fd.QUE_CRING_PIDX_PIDX g)
      ((p + 1) % len ≠ s.rd (Fd.QUE_CRING_CIDX_CIDX g) % len → ∃ t, exec .completionRecord s = .next t ∧ t.que.cpl = rest ∧
        t.rd (Fd.QUE_CRING_PIDX_PIDX g) = (p + 1) % len % 65536 ∧
        getEntry t (s.rd (Fd.QUE_CRING_CFG_BASE g) + p % len) = some (cplRecord c (mapGet 0 s.que.recCnt g))) ∧
      ((p + 1) % len = s.rd (Fd.QUE_CRING_CIDX_CIDX g) % len → ∃ t, exec .completionRecord s = .next t ∧ t.que.cpl = rest ∧
        t.rd Fd.QUE_STAT_CRING_OVF = 1 ∧ t.mem = s.mem ∧ t.rd (Fd.QUE_CRING_PIDX_PIDX g) = p)) ∧
    (s.rdB (Fd.QUE_CRING_CFG_EN g) = false → fit → s.rd (Fd.QUE_CRING_CIDX_THRESH g) ≠ 0 → ∃ t, exec (.cringEnable g base log2) s = .next t ∧
      t.rd (Fd.QUE_CRING_CFG_EN g) = 1 ∧ t.rd (Fd.QUE_CRING_PIDX_PIDX g) = 0 ∧ t.rd (Fd.QUE_CRING_CIDX_CIDX g) = 0 ∧
      t.que.alloc = s.que.alloc ||| granMask base log2) ∧
    (s.rdB (Fd.QUE_CRING_CFG_EN g) = false → ringOk base log2 = false → ∃ t, exec (.cringEnable g base log2) s = .next t ∧
      t.rd Fd.QUE_STAT_CRING_REFUSED = 1 ∧ t.rd (Fd.QUE_CRING_CFG_EN g) = s.rd (Fd.QUE_CRING_CFG_EN g) ∧ t.que = s.que) ∧
    (s.nib.nibs = [] → s.nib.arming = [] → exec (.groupEnableWrite (BitVec.ofNat 64 v)) s = .next (s.wr Fd.QUE_GROUP_EN_EN v)) ∧
    (s.que.haltLog = h :: hs → ∃ t, exec .haltLogRead s = .next t ∧ t.que.haltLog = hs ∧
      t.sys.rdData = h.queue + h.cause * 2 ^ 16 + 2 ^ 31 + h.idx * 2 ^ 32 ∧ t.regs = s.regs ∧ t.mem = s.mem) ∧
    (s.que.haltLog = [] → exec .haltLogRead s = .next (s.ret 0))

/-- On a pair at whose PC the row's word is fetched clean, AND, OR, XOR, ANDN, SLL, SRL, SRA, ROR, SLT, SLTU, MIN, MAX, MINU, MAXU, MUL,
MULH, MULHU, ADDM, SUBM and AWIN complete: rd takes the result of Table 7.3 on the values of ra and rb (g0 takes nothing and reads
zero), PC advances by 4, RETIRED counts, and every other register, field and block is unchanged. On a pair at whose PC the row's word
is fetched clean, CLZ gives the number of leading zeros of ra, CTZ the number of trailing zeros (32 for 0), POPC the number of set
bits, LOCLR ra with its lowest set bit cleared (0 for 0) and BREV the bits of ra in reverse order; PC and RETIRED advance and nothing
else changes. On a pair at whose PC the row's word is fetched clean, ADDI, SLTI and SLTIU take the sign-extended and ANDI, ORI and XORI
the zero-extended 16-bit immediate, LUI gives the immediate shifted left by 16, SLLI, SRLI and SRAI shift by the five-bit amount, and
SHRR gives ra / 2^SH rounded by RM; PC and RETIRED advance and nothing else changes. (07_scribes.md Table 7.3, 07_scribes.md Table 7.2,
R160) -/
def Obligations.ScribeRegisterResults : Prop :=
  (∀ (s : State) (p rd ra rb : Nat), ScrFree p s →
     let a : W32 := BitVec.ofNat 32 (gRead s p ra)
     let b : W32 := BitVec.ofNat 32 (gRead s p rb)
     (ScrHas p (wordR 0x00 rd ra rb 0x04) s → ∃ t, exec (.sAnd p rd ra rb) s = .next t ∧ ScrGives p rd (a &&& b).toNat s t) ∧
     (ScrHas p (wordR 0x00 rd ra rb 0x05) s → ∃ t, exec (.sOr p rd ra rb) s = .next t ∧ ScrGives p rd (a ||| b).toNat s t) ∧
     (ScrHas p (wordR 0x00 rd ra rb 0x06) s → ∃ t, exec (.sXor p rd ra rb) s = .next t ∧ ScrGives p rd (a ^^^ b).toNat s t) ∧
     (ScrHas p (wordR 0x00 rd ra rb 0x07) s → ∃ t, exec (.sAndn p rd ra rb) s = .next t ∧ ScrGives p rd (a &&& ~~~b).toNat s t) ∧
     (ScrHas p (wordR 0x00 rd ra rb 0x08) s → ∃ t, exec (.sSll p rd ra rb) s = .next t ∧ ScrGives p rd (a <<< (b.toNat % 32)).toNat s t) ∧
     (ScrHas p (wordR 0x00 rd ra rb 0x09) s → ∃ t, exec (.sSrl p rd ra rb) s = .next t ∧ ScrGives p rd (a >>> (b.toNat % 32)).toNat s t) ∧
     (ScrHas p (wordR 0x00 rd ra rb 0x0A) s → ∃ t, exec (.sSra p rd ra rb) s = .next t ∧
       ScrGives p rd (a.sshiftRight (b.toNat % 32)).toNat s t) ∧
     (ScrHas p (wordR 0x00 rd ra rb 0x0B) s → ∃ t, exec (.sRor p rd ra rb) s = .next t ∧
       ScrGives p rd (a.rotateRight (b.toNat % 32)).toNat s t) ∧
     (ScrHas p (wordR 0x00 rd ra rb 0x0C) s → ∃ t, exec (.sSlt p rd ra rb) s = .next t ∧
       ScrGives p rd (if a.toInt < b.toInt then 1 else 0) s t) ∧
     (ScrHas p (wordR 0x00 rd ra rb 0x0D) s → ∃ t, exec (.sSltu p rd ra rb) s = .next t ∧
       ScrGives p rd (if a.toNat < b.toNat then 1 else 0) s t) ∧
     (ScrHas p (wordR 0x00 rd ra rb 0x0E) s → ∃ t, exec (.sMin p rd ra rb) s = .next t ∧
       ScrGives p rd (if a.toInt ≤ b.toInt then a.toNat else b.toNat) s t) ∧
     (ScrHas p (wordR 0x00 rd ra rb 0x0F) s → ∃ t, exec (.sMax p rd ra rb) s = .next t ∧
       ScrGives p rd (if a.toInt ≤ b.toInt then b.toNat else a.toNat) s t) ∧
     (ScrHas p (wordR 0x00 rd ra rb 0x10) s → ∃ t, exec (.sMinu p rd ra rb) s = .next t ∧ ScrGives p rd (min a.toNat b.toNat) s t) ∧
     (ScrHas p (wordR 0x00 rd ra rb 0x11) s → ∃ t, exec (.sMaxu p rd ra rb) s = .next t ∧ ScrGives p rd (max a.toNat b.toNat) s t) ∧
     (ScrHas p (wordR 0x00 rd ra rb 0x12) s → ∃ t, exec (.sMul p rd ra rb) s = .next t ∧ ScrGives p rd (a.toNat * b.toNat % 2 ^ 32) s t) ∧
     (ScrHas p (wordR 0x00 rd ra rb 0x14) s → ∃ t, exec (.sMulhu p rd ra rb) s = .next t ∧ ScrGives p rd (a.toNat * b.toNat / 2 ^ 32) s t) ∧
     (ScrHas p (wordR 0x00 rd ra rb 0x13) s → ∃ t, exec (.sMulh p rd ra rb) s = .next t ∧
       ScrGives p rd (enc 32 (a.toInt * b.toInt / 4294967296)) s t) ∧
     (ScrHas p (wordR 0x00 rd ra rb 0x1B) s → ∃ t, exec (.sAddm p rd ra rb) s = .next t ∧ ScrGives p rd ((a.toNat + b.toNat) % 2 ^ 32) s t) ∧
     (ScrHas p (wordR 0x00 rd ra rb 0x1C) s → ∃ t, exec (.sSubm p rd ra rb) s = .next t ∧
       ScrGives p rd ((a.toNat + 2 ^ 32 - b.toNat) % 2 ^ 32) s t) ∧
     (ScrHas p (wordR 0x00 rd ra rb 0x1A) s → ∃ t, exec (.sAwin p rd ra rb) s = .next t ∧ ScrGives p rd (if -16777216 ≤ (a - b).toInt ∧
       (a - b).toInt ≤ 2130706432 then 1 else 0) s t)) ∧
  (∀ (s : State) (p rd ra : Nat), ScrFree p s →
     let a : Nat := gRead s p ra
     (ScrHas p (wordR 0x00 rd ra 0 0x15) s → ∃ t n, exec (.sClz p rd ra) s = .next t ∧ ScrGives p rd n s t ∧ n ≤ 32 ∧ a < 2 ^ (32 - n) ∧
       (n < 32 → 2 ^ (31 - n) ≤ a)) ∧
     (ScrHas p (wordR 0x00 rd ra 0 0x16) s → ∃ t n, exec (.sCtz p rd ra) s = .next t ∧ ScrGives p rd n s t ∧ n ≤ 32 ∧ a % 2 ^ n = 0 ∧
       (n < 32 → a.testBit n = true)) ∧
     (ScrHas p (wordR 0x00 rd ra 0 0x17) s → ∃ t, exec (.sPopc p rd ra) s = .next t ∧
       ScrGives p rd ((List.range 32).filter a.testBit).length s t) ∧
     (ScrHas p (wordR 0x00 rd ra 0 0x18) s → ∃ t v, exec (.sLoclr p rd ra) s = .next t ∧ ScrGives p rd v s t ∧ (a = 0 → v = 0) ∧
       ∀ n, n < 32 → a % 2 ^ n = 0 → a.testBit n = true → v = a - 2 ^ n) ∧
     (ScrHas p (wordR 0x00 rd ra 0 0x19) s → ∃ t v, exec (.sBrev p rd ra) s = .next t ∧ ScrGives p rd v s t ∧ v < 2 ^ 32 ∧ ∀ n, n < 32 →
       v.testBit n = a.testBit (31 - n))) ∧
  (∀ (s : State) (p rd ra imm sh rm : Nat), ScrFree p s → imm < 65536 → sh < 32 → rm < 4 →
     let a : W32 := BitVec.ofNat 32 (gRead s p ra)
     let i : W32 := BitVec.ofInt 32 (sx 16 imm)
     (ScrHas p (wordI 0x01 rd ra imm) s → ∃ t, exec (.sAddi p rd ra imm) s = .next t ∧ ScrGives p rd ((a.toNat + i.toNat) % 2 ^ 32) s t) ∧
     (ScrHas p (wordI 0x02 rd ra imm) s → ∃ t, exec (.sAndi p rd ra imm) s = .next t ∧ ScrGives p rd (a.toNat &&& imm) s t) ∧
     (ScrHas p (wordI 0x03 rd ra imm) s → ∃ t, exec (.sOri p rd ra imm) s = .next t ∧ ScrGives p rd (a.toNat ||| imm) s t) ∧
     (ScrHas p (wordI 0x04 rd ra imm) s → ∃ t, exec (.sXori p rd ra imm) s = .next t ∧ ScrGives p rd (a.toNat ^^^ imm) s t) ∧
     (ScrHas p (wordI 0x06 rd ra imm) s → ∃ t, exec (.sSlti p rd ra imm) s = .next t ∧
       ScrGives p rd (if a.toInt < i.toInt then 1 else 0) s t) ∧
     (ScrHas p (wordI 0x07 rd ra imm) s → ∃ t, exec (.sSltiu p rd ra imm) s = .next t ∧
       ScrGives p rd (if a.toNat < i.toNat then 1 else 0) s t) ∧
     (ScrHas p (wordI 0x05 rd 0 imm) s → ∃ t, exec (.sLui p rd imm) s = .next t ∧ ScrGives p rd (imm * 65536) s t) ∧
     (ScrHas p (wordI 0x08 rd ra sh) s → ∃ t, exec (.sSlli p rd ra sh) s = .next t ∧ ScrGives p rd (a.toNat * 2 ^ sh % 2 ^ 32) s t) ∧
     (ScrHas p (wordI 0x09 rd ra sh) s → ∃ t, exec (.sSrli p rd ra sh) s = .next t ∧ ScrGives p rd (a.toNat / 2 ^ sh) s t) ∧
     (ScrHas p (wordI 0x0A rd ra sh) s → ∃ t, exec (.sSrai p rd ra sh) s = .next t ∧
       ScrGives p rd (enc 32 (a.toInt / ((2 ^ sh : Nat) : Int))) s t) ∧
     (ScrHas p (wordR 0x0B rd ra 0 (sh * 64 + rm * 16)) s → ∃ t, exec (.sShrr p rd ra sh rm) s = .next t ∧
       ScrGives p rd (enc 32 (roundBy rm a.toInt sh)) s t))

/-- On a pair at whose PC the row's word is fetched clean, ADD, SUB, ADDU, SUBU, MULQ and ACCR compute the exact result (signed, or
unsigned for U), round it by RM after division by 2^SH, and fit it: with S the nearest bound is taken and SAT set, without S the low
bits are kept and OVF set, when and only when the rounded value lies outside the destination range; flags are sticky. On a pair at
whose PC the row's word is fetched clean, MAC, MSU and MULA leave acc + ra × rb, acc − ra × rb and ra × rb, signed, fitted to 64 bits
by S with SAT or OVF set when the exact value does not fit; ACCW leaves the sign-extended ra; no general register changes. ACCL and
ACCH give acc[31:0] and acc[63:32] in rd and leave the accumulator. On a pair at whose PC the row's word is fetched clean, DIV with rb
not 0 gives the exact quotient rounded by RM and fitted by S (rounding stated for RTZ and RDN; the other modes by the model's divBy).
With rb = 0 it gives 0x7FFF_FFFF for ra ≥ 0, 0x8000_0000 for ra < 0, 0xFFFF_FFFF with U = 1, and sets DIV0. (R160, 07_scribes.md Table
7.3, R39) -/
def Obligations.ScribeArithmeticResults : Prop :=
  (∀ (s : State) (p rd ra rb sh rm : Nat) (sat u : Bool), ScrFree p s → sh < 32 → rm < 4 →
     let x : Int := sx 32 (gRead s p ra)
     let y : Int := sx 32 (gRead s p rb)
     let xu : Int := (gRead s p ra : Int)
     let yu : Int := (gRead s p rb : Int)
     let m : Int := if u then xu * yu else x * y
     (ScrHas p (wordR 0x00 rd ra rb (256 * b2n sat)) s → ∃ t, exec (.sAdd p rd ra rb sat) s = .next t ∧ ScrFits p rd sat true (x + y) s t) ∧
     (ScrHas p (wordR 0x00 rd ra rb (1 + 256 * b2n sat)) s → ∃ t, exec (.sSub p rd ra rb sat) s = .next t ∧
       ScrFits p rd sat true (x - y) s t) ∧
     (ScrHas p (wordR 0x00 rd ra rb (2 + 256 * b2n sat)) s → ∃ t, exec (.sAddu p rd ra rb sat) s = .next t ∧
       ScrFits p rd sat false (xu + yu) s t) ∧
     (ScrHas p (wordR 0x00 rd ra rb (3 + 256 * b2n sat)) s → ∃ t, exec (.sSubu p rd ra rb sat) s = .next t ∧
       ScrFits p rd sat false (xu - yu) s t) ∧
     (ScrHas p (wordR 0x0C rd ra rb (sh * 64 + rm * 16 + 8 * b2n sat + 4 * b2n u)) s →
       ∃ t, exec (.sMulq p rd ra rb sh rm sat u) s = .next t ∧ ScrFits p rd sat (!u) (roundBy rm m sh) s t) ∧
     (ScrHas p (wordR 0x0E rd 0 0 (sh * 64 + rm * 16 + 8 * b2n sat + 4 * b2n u)) s → ∃ t, exec (.sAccr p rd sh rm sat u) s = .next t ∧
       ScrFits p rd sat (!u) (roundBy rm (s.pairOf p).acc.toInt sh) s t)) ∧
  (∀ (s : State) (p rd ra rb : Nat) (sat : Bool), ScrFree p s →
     let m : Int := sx 32 (gRead s p ra) * sx 32 (gRead s p rb)
     let a : Int := (s.pairOf p).acc.toInt
     let lo : Int := -9223372036854775808
     let hi : Int := 9223372036854775807
     let takes : Int → State → Prop := fun x t =>
       let out := x < lo ∨ hi < x
       ScrFrame p (Fd.SCR_PSTAT_SAT p :: Fd.SCR_PSTAT_OVF p :: scrPcFlds p) s t ∧ ScrGoes p (scrNext p s) s t ∧
       t.pairOf p = { s.pairOf p with acc := BitVec.ofInt 64 (if sat then clampI lo hi x else x) } ∧
       t.rd (Fd.SCR_PSTAT_SAT p) = (if out ∧ sat = true then 1 else s.rd (Fd.SCR_PSTAT_SAT p)) ∧
       t.rd (Fd.SCR_PSTAT_OVF p) = (if out ∧ sat = false then 1 else s.rd (Fd.SCR_PSTAT_OVF p))
     (ScrHas p (wordR 0x0D 0 ra rb (8 * b2n sat)) s → ∃ t, exec (.sMac p ra rb sat) s = .next t ∧ takes (a + m) t) ∧
     (ScrHas p (wordR 0x0D 0 ra rb (8 * b2n sat + 1)) s → ∃ t, exec (.sMsu p ra rb sat) s = .next t ∧ takes (a - m) t) ∧
     (ScrHas p (wordR 0x0D 0 ra rb (8 * b2n sat + 2)) s → ∃ t, exec (.sMula p ra rb sat) s = .next t ∧ takes m t) ∧
     (ScrHas p (wordR 0x0E 0 ra 0 3) s → ∃ t, exec (.sAccw p ra) s = .next t ∧ ScrFrame p (scrPcFlds p) s t ∧ ScrGoes p (scrNext p s) s t ∧
       t.pairOf p = { s.pairOf p with acc := BitVec.ofInt 64 (sx 32 (gRead s p ra)) }) ∧
     (ScrHas p (wordR 0x0E rd 0 0 1) s → ∃ t, exec (.sAccl p rd) s = .next t ∧ ScrGives p rd ((s.pairOf p).acc.toNat % 2 ^ 32) s t) ∧
     (ScrHas p (wordR 0x0E rd 0 0 2) s → ∃ t, exec (.sAcch p rd) s = .next t ∧ ScrGives p rd ((s.pairOf p).acc.toNat / 2 ^ 32) s t)) ∧
  (∀ (s : State) (p rd ra rb rm : Nat) (sat u : Bool), ScrFree p s → rm < 4 →
     let x : Int := if u then (gRead s p ra : Int) else sx 32 (gRead s p ra)
     let y : Int := if u then (gRead s p rb : Int) else sx 32 (gRead s p rb)
     (gRead s p rb ≠ 0 → ScrHas p (wordR 0x0F rd ra rb (rm * 16 + 8 * b2n sat + 4 * b2n u)) s →
       ∃ t, exec (.sDiv p rd ra rb rm sat u) s = .next t ∧ ScrFits p rd sat (!u) (divBy rm x y) s t ∧
       (rm = 2 → divBy rm x y = Int.tdiv x y) ∧ (rm = 3 → divBy rm x y = Int.fdiv x y)) ∧
     (gRead s p rb = 0 → ScrHas p (wordR 0x0F rd ra rb (rm * 16 + 8 * b2n sat + 4 * b2n u)) s →
       ∃ t, exec (.sDiv p rd ra rb rm sat u) s = .next t ∧
       ScrFrame p (Fd.SCR_PSTAT_DIV0 p :: scrPcFlds p) s t ∧ ScrGoes p (scrNext p s) s t ∧ t.rd (Fd.SCR_PSTAT_DIV0 p) = 1 ∧
       ScrSets p rd (if u then 0xFFFFFFFF else if x < 0 then 0x80000000 else 0x7FFFFFFF) s t))

/-- On a pair at whose PC the row's word is fetched clean, a load from an aligned address below 0x1_0000 whose data RAM word reads clean
gives its 4, 2 or 1 bytes, least significant first, sign-extended for LDH and LDB; nothing but rd, PC and RETIRED changes, memory
included. On a pair at whose PC the row's word is fetched clean, with no injection armed, no BIST slice in progress and the data RAM
word at the aligned address ra + imm below 0x1_0000 reading clean, a store leaves that word with the low 4, 2 or 1 bytes of the source
in the addressed lanes and valid check bits; every other word of every memory reads as before; no register of the pair changes but PC
and RETIRED. (07_scribes.md Table 7.3, R155, R4, R222) -/
def Obligations.ScribeDataAccesses : Prop :=
  (∀ (s : State) (p rd ra imm : Nat) (d : W64), ScrFree p s → imm < 65536 →
     let a : Nat := enc 32 (sx 32 (gRead s p ra) + sx 16 imm)
     let v : Nat := d.toNat / 2 ^ (8 * (a % 8))
     a < 65536 → eccDecode (s.mcur (mkey 12 (p * 8192 + a / 8))) = .clean d →
     (a % 4 = 0 → ScrHas p (wordI 0x10 rd ra imm) s → ∃ t, exec (.sLdw p rd ra imm) s = .next t ∧ ScrGives p rd (v % 2 ^ 32) s t) ∧
     (a % 2 = 0 → ScrHas p (wordI 0x11 rd ra imm) s → ∃ t, exec (.sLdh p rd ra imm) s = .next t ∧ ScrGives p rd (enc 32 (sx 16 v)) s t) ∧
     (a % 2 = 0 → ScrHas p (wordI 0x12 rd ra imm) s → ∃ t, exec (.sLdhu p rd ra imm) s = .next t ∧ ScrGives p rd (v % 2 ^ 16) s t) ∧
     (ScrHas p (wordI 0x13 rd ra imm) s → ∃ t, exec (.sLdb p rd ra imm) s = .next t ∧ ScrGives p rd (enc 32 (sx 8 v)) s t) ∧
     (ScrHas p (wordI 0x14 rd ra imm) s → ∃ t, exec (.sLdbu p rd ra imm) s = .next t ∧ ScrGives p rd (v % 2 ^ 8) s t)) ∧
  (∀ (s : State) (p rs ra imm : Nat) (d : W64), ScrFree p s → imm < 65536 → s.rdB Fd.MEM_INJ_ARMED = false → s.bst.slice = [] →
     let a : Nat := enc 32 (sx 32 (gRead s p ra) + sx 16 imm)
     let i : Nat := p * 8192 + a / 8
     a < 65536 → eccDecode (s.mcur (mkey 12 i)) = .clean d →
     let stores : Nat → State → Prop := fun size t =>
       t.mcur (mkey 12 i) = eccEncode (BitVec.ofNat 64 (setBits d.toNat (8 * (a % 8) + 8 * size - 1) (8 * (a % 8)) (gRead s p rs))) ∧
       (∀ k, k ≠ mkey 12 i → t.mcur k = s.mcur k) ∧
       { t with regs := s.regs, mem := s.mem, mst := s.mst } = s ∧
       (∀ f : Fld, f.key ∉ (scrPcFlds p).map Fld.key → t.rd f = s.rd f) ∧ ScrGoes p (scrNext p s) s t
     (a % 4 = 0 → ScrHas p (wordI 0x15 rs ra imm) s → ∃ t, exec (.sStw p rs ra imm) s = .next t ∧ stores 4 t) ∧
     (a % 2 = 0 → ScrHas p (wordI 0x16 rs ra imm) s → ∃ t, exec (.sSth p rs ra imm) s = .next t ∧ stores 2 t) ∧
     (ScrHas p (wordI 0x17 rs ra imm) s → ∃ t, exec (.sStb p rs ra imm) s = .next t ∧ stores 1 t))

/-- On a pair at whose PC the row's word is fetched clean, a load or store whose address ra + imm is 0x1_0000 or above, or not aligned to
its size, enters a trap with cause 4, the PC of the instruction and the address as information; no register of the pair and no memory
changes. (R155, R167, 07_scribes.md Table 7.6) -/
def Obligations.ScribeMisalignedDataTraps : Prop :=
  ∀ (s : State) (p rd ra imm : Nat) (c : Instr) (size w : Nat), ScrFree p s → imm < 65536 →
    let a : Nat := enc 32 (sx 32 (gRead s p ra) + sx 16 imm)
    65536 ≤ a ∨ a % size ≠ 0 →
    (c, size, w) ∈ [(.sLdw p rd ra imm, 4, wordI 0x10 rd ra imm), (.sLdh p rd ra imm, 2, wordI 0x11 rd ra imm),
      (.sLdhu p rd ra imm, 2, wordI 0x12 rd ra imm), (.sLdb p rd ra imm, 1, wordI 0x13 rd ra imm),
      (.sLdbu p rd ra imm, 1, wordI 0x14 rd ra imm), (.sStw p rd ra imm, 4, wordI 0x15 rd ra imm),
      (.sSth p rd ra imm, 2, wordI 0x16 rd ra imm), (.sStb p rd ra imm, 1, wordI 0x17 rd ra imm)] →
    ScrHas p w s → ∃ t, exec c s = .next t ∧ ScrTraps p 4 a (s.rd (Fd.SCR_PC_PC p)) s t ∧ t.mem = s.mem ∧ t.scr = s.scr

/-- On a pair at whose PC the row's word is fetched clean, each branch goes to PC + 4 + 4 × off (sign-extended 16-bit offset) when ra = rb,
≠, < or ≥ signed, < or ≥ unsigned holds, and to the next instruction otherwise; JAL and JALR leave PC + 4 in rd and go to PC + 4 + 4 ×
off (21 bits) and to (ra + imm) with bits [1:0] cleared, ra read before rd is written; nothing else changes. (07_scribes.md Table 7.3,
07_scribes.md Table 7.2) -/
def Obligations.ScribeBranchesAndJumps : Prop :=
  ∀ (s : State) (p rd ra rb off joff : Nat), ScrFree p s → off < 65536 → joff < 2 ^ 21 →
    let a : W32 := BitVec.ofNat 32 (gRead s p ra)
    let b : W32 := BitVec.ofNat 32 (gRead s p rb)
    let pc : Nat := s.rd (Fd.SCR_PC_PC p)
    let to_ : Int → Nat := fun o => enc 32 ((pc : Int) + 4 + 4 * o)
    let goes : Prop → State → Prop := fun c t =>
      ScrFrame p (scrPcFlds p) s t ∧ t.pairOf p = s.pairOf p ∧ (c → ScrGoes p (to_ (sx 16 off)) s t) ∧ (¬c → ScrGoes p (pc + 4) s t)
    (ScrHas p (wordI 0x18 ra rb off) s → ∃ t, exec (.sBeq p ra rb off) s = .next t ∧ goes (a = b) t) ∧
    (ScrHas p (wordI 0x19 ra rb off) s → ∃ t, exec (.sBne p ra rb off) s = .next t ∧ goes (a ≠ b) t) ∧
    (ScrHas p (wordI 0x1A ra rb off) s → ∃ t, exec (.sBlt p ra rb off) s = .next t ∧ goes (a.toInt < b.toInt) t) ∧
    (ScrHas p (wordI 0x1B ra rb off) s → ∃ t, exec (.sBge p ra rb off) s = .next t ∧ goes (b.toInt ≤ a.toInt) t) ∧
    (ScrHas p (wordI 0x1C ra rb off) s → ∃ t, exec (.sBltu p ra rb off) s = .next t ∧ goes (a.toNat < b.toNat) t) ∧
    (ScrHas p (wordI 0x1D ra rb off) s → ∃ t, exec (.sBgeu p ra rb off) s = .next t ∧ goes (b.toNat ≤ a.toNat) t) ∧
    (ScrHas p (wordJ 0x1E rd joff) s → ∃ t, exec (.sJal p rd joff) s = .next t ∧ ScrFrame p (scrPcFlds p) s t ∧
      ScrGoes p (to_ (sx 21 joff)) s t ∧
      ScrSets p rd (pc + 4) s t) ∧
    (ScrHas p (wordI 0x1F rd ra off) s → ∃ t, exec (.sJalr p rd ra off) s = .next t ∧ ScrFrame p (scrPcFlds p) s t ∧
      (let d := enc 32 (a.toInt + sx 16 off); ScrGoes p (d - d % 4) s t) ∧ ScrSets p rd (pc + 4) s t)

/-- On a pair at whose PC the row's word is fetched clean: RDS of TIME_LO gives device time [31:0] and captures [63:32] for TIME_HI; of
DOORBELL gives the bits and clears them; of ANGLE gives the angle word and captures the fraction; of FINE_FRAC, VEL, TIME_HI, FLAGS,
SDHI, WAIT_TMO, TVEC, the trap registers and PAIR gives the value without side effect. WRS writes SDHI [7:0], WAIT_TMO, TVEC with [1:0]
cleared, TRAP_PC, and clears the FLAGS bits written as 1; an undefined selector in RDS, and an undefined or read-only one in WRS, traps
ILLEGAL with the instruction word. (07_scribes.md Table 7.5, R159, R162, R167) -/
def Obligations.ScribeSpecialRegisters : Prop :=
  ∀ (s : State) (p rd ra sel : Nat), ScrFree p s → sel < 65536 → rd < 32 → ra < 32 →
    let v : Nat := gRead s p ra
    let x : Pair := s.pairOf p
    let writes : Pair → State → Prop := fun y t =>
      ScrFrame p (scrPcFlds p) s t ∧ ScrGoes p (scrNext p s) s t ∧ t.pairOf p = y
    (ScrHas p (wordI 0x20 rd 0 0x04) s → ∃ t, exec (.sRds p rd 0x04) s = .next t ∧ ScrFrame p (scrPcFlds p) s t ∧
      ScrGoes p (scrNext p s) s t ∧
      (∀ r, gRead t p r = if r = rd ∧ r ≠ 0 then s.now % 2 ^ 32 else gRead s p r) ∧
      (t.pairOf p).timeHi = BitVec.ofNat 32 (s.now / 2 ^ 32)) ∧
    (ScrHas p (wordI 0x20 rd 0 0x09) s → ∃ t, exec (.sRds p rd 0x09) s = .next t ∧ ScrFrame p (Fd.SCR_DOORBELL_PENDING p :: scrPcFlds p) s t ∧
      ScrSets p rd (s.rd (Fd.SCR_DOORBELL_PENDING p)) s t ∧ t.rd (Fd.SCR_DOORBELL_PENDING p) = 0) ∧
    (ScrHas p (wordI 0x20 rd 0 0x00) s → ∃ t, exec (.sRds p rd 0x00) s = .next t ∧ ScrFrame p (scrPcFlds p) s t ∧
      (∀ r, gRead t p r = if r = rd ∧ r ≠ 0 then engWord s % 2 ^ 32 else gRead s p r) ∧
      (t.pairOf p).fineFrac = BitVec.ofNat 32 (engTheta s % 256)) ∧
    (∀ w, (sel, w) ∈ [(0x01, x.fineFrac.toNat), (0x02, x.velCap.toNat), (0x05, x.timeHi.toNat),
        (0x06, s.rd (Fd.SCR_PSTAT_SAT p) + 2 * s.rd (Fd.SCR_PSTAT_OVF p) + 4 * s.rd (Fd.SCR_PSTAT_DIV0 p)), (0x07, x.sdhi.toNat),
        (0x08, x.waitTmo.toNat), (0x0A, x.tvec.toNat), (0x0B, s.rd (Fd.SCR_TRAP_PC_VALUE p)), (0x0C, s.rd (Fd.SCR_TRAP_CAUSE p)),
        (0x0D, s.rd (Fd.SCR_TRAP_INFO_VALUE p)), (0x0E, p)] →
      ScrHas p (wordI 0x20 rd 0 sel) s → ∃ t, exec (.sRds p rd sel) s = .next t ∧ ScrGives p rd w s t) ∧
    (0x10 ≤ sel → ScrHas p (wordI 0x20 rd 0 sel) s → ∃ t, exec (.sRds p rd sel) s = .next t ∧
      ScrTraps p 1 (0x20 * 2 ^ 26 + rd * 2 ^ 21 + sel) (s.rd (Fd.SCR_PC_PC p)) s t ∧ t.scr = s.scr) ∧
    (ScrHas p (wordI 0x21 0 ra 0x07) s → ∃ t, exec (.sWrs p ra 0x07) s = .next t ∧ writes { x with sdhi := BitVec.ofNat 32 (v % 256) } t) ∧
    (ScrHas p (wordI 0x21 0 ra 0x08) s → ∃ t, exec (.sWrs p ra 0x08) s = .next t ∧ writes { x with waitTmo := BitVec.ofNat 32 v } t) ∧
    (ScrHas p (wordI 0x21 0 ra 0x0A) s → ∃ t, exec (.sWrs p ra 0x0A) s = .next t ∧ writes { x with tvec := BitVec.ofNat 32 (v / 4 * 4) } t) ∧
    (ScrHas p (wordI 0x21 0 ra 0x0B) s → ∃ t, exec (.sWrs p ra 0x0B) s = .next t ∧ t.rd (Fd.SCR_TRAP_PC_VALUE p) = v ∧ t.pairOf p = x) ∧
    (ScrHas p (wordI 0x21 0 ra 0x06) s → ∃ t, exec (.sWrs p ra 0x06) s = .next t ∧ t.pairOf p = x ∧
      t.rd (Fd.SCR_PSTAT_SAT p) = (if v.testBit 0 then 0 else s.rd (Fd.SCR_PSTAT_SAT p)) ∧
      t.rd (Fd.SCR_PSTAT_OVF p) = (if v.testBit 1 then 0 else s.rd (Fd.SCR_PSTAT_OVF p)) ∧
      t.rd (Fd.SCR_PSTAT_DIV0 p) = (if v.testBit 2 then 0 else s.rd (Fd.SCR_PSTAT_DIV0 p))) ∧
    (sel ∉ [0x06, 0x07, 0x08, 0x0A, 0x0B] → ScrHas p (wordI 0x21 0 ra sel) s → ∃ t, exec (.sWrs p ra sel) s = .next t ∧
      ScrTraps p 1 (0x21 * 2 ^ 26 + ra * 2 ^ 16 + sel) (s.rd (Fd.SCR_PC_PC p)) s t ∧ t.scr = s.scr)

/-- On a pair at whose PC the row's word is fetched clean: TRAP saves the address of the next instruction, cause 6 and imm[7:0], counts,
sets IN_TRAP and continues at TVEC, or stops the pair when IN_TRAP was set; RETT goes to TRAP_PC and clears IN_TRAP; HALT leaves the
pair STOPPED with PC at the next instruction; SIGNAL sets the named bits of SCR_SIGNAL. (R167, 07_scribes.md Table 7.3, 07_scribes.md
Table 7.1, 07_scribes.md Table 7.6) -/
def Obligations.ScribeTrapsAndReturns : Prop :=
  ∀ (s : State) (p n m : Nat), ScrFree p s → n < 256 → m < 16 →
    (ScrHas p (wordI 0x29 0 0 n) s → ∃ t, exec (.sTrap p n) s = .next t ∧ ScrTraps p 6 n (scrNext p s) s t ∧ t.scr = s.scr) ∧
    (ScrHas p (wordI 0x2A 0 0 0) s → ∃ t, exec (.sRett p) s = .next t ∧ ScrFrame p (Fd.SCR_PSTAT_IN_TRAP p :: scrPcFlds p) s t ∧
      t.pairOf p = s.pairOf p ∧
      ScrGoes p (s.rd (Fd.SCR_TRAP_PC_VALUE p)) s t ∧ t.rd (Fd.SCR_PSTAT_IN_TRAP p) = 0) ∧
    (ScrHas p (wordI 0x2B 0 0 0) s → ∃ t, exec (.sHalt p) s = .next t ∧ t.rd (Fd.SCR_PSTAT_STATE p) = 0 ∧ ScrGoes p (scrNext p s) s t ∧
      t.scr = s.scr ∧ t.mem = s.mem) ∧
    (ScrHas p (wordI 0x28 0 0 m) s → ∃ t, exec (.sSignal p m) s = .next t ∧
      t.rd (Fd.SCR_SIGNAL_SIG p) = (s.rd (Fd.SCR_SIGNAL_SIG p) ||| m) % 16 ∧
      ScrGoes p (scrNext p s) s t ∧ t.scr = s.scr ∧ t.mem = s.mem)

/-- On a pair at whose PC the row's word is fetched clean: a WAIT whose doorbell condition already holds gives the bits of the conditions
that hold, and one with no condition enabled traps ILLEGAL; a WAIT on an empty doorbell alone leaves the pair waiting at its PC. PWAIT
on a tag that is not outstanding returns its status at once and on an outstanding one leaves the pair waiting; PFETCH with a misaligned
or too long destination traps DATA_ACCESS, otherwise it gives a free tag and makes it outstanding. QFREE of a DISABLED queue gives
0xFFFF_FFFF. (R165, R166, R163, R167) -/
def Obligations.ScribeWaitsAndFetches : Prop :=
  ∀ (s : State) (p rd ra rb n : Nat), ScrFree p s → rd < 32 → ra < 32 → rb < 32 → n < 256 →
    let bell : Nat := s.rd (Fd.SCR_DOORBELL_PENDING p)
    let tag : Nat := gRead s p ra % 4
    let dst : Nat := gRead s p ra
    let src : Nat := (s.pairOf p).sdhi.toNat % 256 * 2 ^ 32 + gRead s p rb
    let len : Nat := 64 * (if n = 0 then 256 else n)
    (bell ≠ 0 → ScrHas p (wordR 0x27 rd ra 0 1) s → ∃ t, exec (.sWait p rd ra 1) s = .next t ∧ ScrGives p rd 1 s t) ∧
    (bell = 0 → ScrHas p (wordR 0x27 rd ra 0 1) s → ∃ t, exec (.sWait p rd ra 1) s = .next t ∧ ScrFrame p [] s t ∧ pairWaiting t p = true ∧
      ∀ r, gRead t p r = gRead s p r) ∧
    (ScrHas p (wordR 0x27 rd ra 0 8) s → ∃ t, exec (.sWait p rd ra 8) s = .next t ∧
      ScrTraps p 1 (0x27 * 2 ^ 26 + rd * 2 ^ 21 + ra * 2 ^ 16 + 8) (s.rd (Fd.SCR_PC_PC p)) s t) ∧
    (tagBusy s p tag = false → ScrHas p (wordR 0x26 rd ra 0 0) s → ∃ t, exec (.sPwait p rd ra) s = .next t ∧
      ScrGives p rd (tagStatus s p tag) s t) ∧
    (tagBusy s p tag = true → ScrHas p (wordR 0x26 rd ra 0 0) s → ∃ t, exec (.sPwait p rd ra) s = .next t ∧ ScrFrame p [] s t ∧
      pairWaiting t p = true) ∧
    (dst % 64 ≠ 0 ∨ 65536 < dst + len → ScrHas p (wordR 0x25 rd ra rb n) s → ∃ t, exec (.sPfetch p rd ra rb n) s = .next t ∧
      ScrTraps p 4 dst (s.rd (Fd.SCR_PC_PC p)) s t ∧ t.scr = s.scr) ∧
    (dst % 64 = 0 → dst + len ≤ 65536 → src % 64 = 0 → src + len ≤ xmcLines s * 64 → (List.range 4).any (tagBusy s p) = false →
      ScrHas p (wordR 0x25 rd ra rb n) s → ∃ t k, exec (.sPfetch p rd ra rb n) s = .next t ∧ k < 4 ∧ tagBusy t p k = true ∧
        fetchesOf t p = 1 ∧
        (∀ r, gRead t p r = if r = rd ∧ r ≠ 0 then k else gRead s p r) ∧ ScrGoes p (scrNext p s) s t) ∧
    (qState s (gRead s p ra % 65536) = 0 → ScrHas p (wordR 0x24 rd ra 0 0) s → ∃ t, exec (.sQfree p rd ra) s = .next t ∧
      ScrGives p rd 0xFFFFFFFF s t)

/-- On a pair at whose PC the row's word is fetched clean: QFREE of a queue the pair produces gives 2^LOG2LEN − 1 − ((SIDX − CIDX) modulo
2^LOG2LEN). XPUSH with a mask of 0 pushes nothing and gives OK, or with C the status of a COMMIT; else, up to its next boundary, it
performs one PUSH of the template with word 1 [13:0] advanced by the lowest set bit b modulo 2^14: on OK the bit is cleared in rb, and
rd is OK where none is left and C = 0, the instruction going on at its own address otherwise; on another status rb keeps the bit and rd
is that status. A template register that is 0, not a multiple of 4, or overlaps rd, ra or rb traps ILLEGAL. That a row performs one
push is log entry 34. (R163, R164, R159) -/
def Obligations.ScribeQueueInstructions : Prop :=
  ∀ (s : State) (p rd ra rb t0 : Nat) (d : Desc), ScrFree p s → rd < 32 → ra < 32 → rb < 32 → t0 < 32 →
    let q : Nat := gRead s p ra % 65536
    let apart : Prop := t0 ≠ 0 ∧ t0 % 4 = 0 ∧ rd / 4 ≠ t0 / 4 ∧ ra / 4 ≠ t0 / 4 ∧ rb / 4 ≠ t0 / 4
    let m : Nat := gRead s p rb
    let word : Nat := 0x23 * 2 ^ 26 + rd * 2 ^ 21 + ra * 2 ^ 16 + rb * 2 ^ 11 + t0 * 32
    (qState s q ≠ 0 → readDesc q s = (some d, s) → d.prod = p → ScrHas p (wordR 0x24 rd ra 0 0) s → ∃ t, exec (.sQfree p rd ra) s = .next t ∧
      ScrGives p rd (2 ^ d.log2 - 1 - (d.sidx + 2 ^ d.log2 - d.cidx) % 2 ^ d.log2) s t) ∧
    (apart → gRead s p rb = 0 → ScrHas p (wordR 0x23 rd ra rb (t0 * 32)) s → ∃ t, exec (.sXpush p rd ra rb t0 false) s = .next t ∧
      ScrGives p rd 0 s t) ∧
    (∀ st u, apart → gRead s p rb = 0 → portOp 2 p q (gEvent s p t0) s = (st, u) → u.calm = true →
      ScrHas p (wordR 0x23 rd ra rb (t0 * 32 + b2n true)) s → ∃ t, exec (.sXpush p rd ra rb t0 true) s = .next t ∧ t = scrSet p rd st u) ∧
    (∀ b c u st, apart → b < 32 → m.testBit b = true → m % 2 ^ b = 0 → portOp 0 p q (xTemplate (gEvent s p t0) b) s = (st, u) →
      u.calm = true →
      (st = 0 → m = 2 ^ b → c = false → ScrHas p (wordR 0x23 rd ra rb (t0 * 32 + b2n c)) s →
        ∃ t, exec (.sXpush p rd ra rb t0 c) s = .next t ∧ t = scrSet p rd 0 (gWrite p rb 0 u)) ∧
      (st = 0 → m ≠ 2 ^ b ∨ c = true → ScrHas p (wordR 0x23 rd ra rb (t0 * 32 + b2n c)) s →
        ∃ t, exec (.sXpush p rd ra rb t0 c) s = .next t ∧ t = gWrite p rb (m - 2 ^ b) u) ∧
      (st ≠ 0 → ScrHas p (wordR 0x23 rd ra rb (t0 * 32 + b2n c)) s → ∃ t, exec (.sXpush p rd ra rb t0 c) s = .next t ∧
        t = scrSet p rd st u)) ∧
    (¬apart → ScrHas p (wordR 0x23 rd ra rb (t0 * 32)) s → ∃ t, exec (.sXpush p rd ra rb t0 false) s = .next t ∧
      ScrTraps p 1 word (s.rd (Fd.SCR_PC_PC p)) s t ∧ t.scr = s.scr)

/-- On a live device: START of a STOPPED pair in STANDBY, RUN or LIMITED whose comparator check passes leaves it RUNNING with status OK;
STOP of a RUNNING or DEBUG pair leaves it STOPPED; RESET of a STOPPED pair clears its registers, flags and trap registers and sets PC
to its initial address; FC_INVAL empties its fetch cache. START of a pair that is not STOPPED, STOP of a STOPPED pair and RESET of a
RUNNING pair report ORDER and change nothing else. With the engine clock: a comparator mismatch in a RUNNING, HELD or DEBUG pair leaves
it FAILED with cause 1 and raises safety input 8 + p, settled at the command's end. A refill of a RUNNING pair's user-flash line that
firmware may fetch counts the miss and puts the line first in the cache. A burst that arrives clean for an outstanding tag moves its
source and destination on by 64 and counts it down. (R154, R157, 07_scribes.md Table 7.1, R153, R152, R156, R165) -/
def Obligations.ScribePairControl : Prop :=
  (∀ (s : State) (p : Nat), p < 8 → s.live = true →
     let st : Nat := pairState s p
     (st = 0 → scrMode s = true → (s.pairOf p).waiting = .none → ∃ t, exec (.scrStart p true) s = .next t ∧ pairState t p = 1 ∧
       t.rd (Fd.SCR_PSTAT_STATUS p) = 0 ∧ (t.pairOf p).start = s.now ∧ t.mem = s.mem ∧
       ∀ f : Fld, f.key ∉ [Fd.SCR_PSTAT_STATE p, Fd.SCR_PSTAT_STATUS p].map Fld.key → t.rd f = s.rd f) ∧
     (st = 1 ∨ st = 3 → ∃ t, exec (.scrStop p) s = .next t ∧ pairState t p = 0 ∧ t.rd (Fd.SCR_PSTAT_STATUS p) = 0 ∧
       t.pairOf p = { s.pairOf p with stepDue := false } ∧ t.mem = s.mem) ∧
     (st = 0 → ∃ t, exec (.scrReset p) s = .next t ∧ (∀ r, gRead t p r = 0) ∧ (t.pairOf p).acc = 0 ∧
       t.rd (Fd.SCR_PC_PC p) = s.rd (Fd.SCR_PC_INIT_ADDR p) * 4 % 2 ^ 32 ∧ t.rd (Fd.SCR_PSTAT_SAT p) = 0 ∧
       t.rd (Fd.SCR_PSTAT_OVF p) = 0 ∧ t.rd (Fd.SCR_PSTAT_DIV0 p) = 0 ∧ t.rd (Fd.SCR_PSTAT_IN_TRAP p) = 0 ∧
       t.rd (Fd.SCR_TRAP_PC_VALUE p) = 0 ∧ t.rd (Fd.SCR_PSTAT_STATUS p) = 0 ∧ t.mem = s.mem) ∧
     (∃ t, exec (.fcInval p) s = .next t ∧ t.pairOf p = { s.pairOf p with cache := [] } ∧ t.rd (Fd.SCR_PSTAT_STATUS p) = 0 ∧
       ScrFrame p [Fd.SCR_PSTAT_STATUS p] s t) ∧
     (∀ c, (c = .scrStart p true ∧ st ≠ 0) ∨ (c = .scrStop p ∧ st = 0) ∨ (c = .scrReset p ∧ st = 1) →
       exec c s = .next (s.wr (Fd.SCR_PSTAT_STATUS p) 4))) ∧
  (∀ (s : State) (p addr tag : Nat) (x : FetchTag) (d0 d1 : Nat) (l : BitVec 576), p < 8 → engOn s = true →
     (pairState s p ∈ [1, 2, 3] → queuesIn s 1 ++ queuesIn s 2 = [] → ∃ u, exec (.lockstepMismatch p) s = .next (finish u) ∧
       pairState u p = 4 ∧ u.rd (Fd.SCR_PSTAT_FAIL_CAUSE p) = 1 ∧ (8 + p) ∈ u.saf.due ∧ u.mem = s.mem) ∧
     (pairState s p = 1 → 0x02000000 ≤ addr → addr < 0x04000000 → xoFetch s p addr = true → uflBusy s = false →
       ∃ u, exec (.fetchCacheRefill p addr false) s = .next (finish u) ∧ (cacheFind u p (addr / 64)).isSome = true ∧
         u.rd (Fd.SCR_FC_CNT_MISSES p) = min (s.rd (Fd.SCR_FC_CNT_MISSES p) + 1) 65535 ∧ (∀ r, gRead u p r = gRead s p r)) ∧
     (mapGet? (s.pairOf p).tags tag = some x → x.busy = true → lineOk (x.src / 64) s = true →
       lineRead (x.src / 64) (1 + p) s = (some d0, some d1, l, s) → (s.pairOf p).waiting = .none → 1 < x.left →
       ∃ u, exec (.pfetchBurst p tag) s = .next (finish u) ∧
         mapGet? (u.pairOf p).tags tag = some ⟨x.src + 64, x.dst + 64, x.left - 1, 0, true⟩ ∧ (∀ r, gRead u p r = gRead s p r)))

/-- A word built by the formats of Table 7.2 is executed as the instruction of Table 7.3 it encodes, for one or more instructions of every
format and every value of their fields; the reserved opcodes 0x2C to 0x3F and ALU function codes 0x1D to 0x3F are no instruction. A row
(AND, ADDI, LDW, BEQ and HALT stand for their families) whose word is not the one at the PC executes the word that is there (log 34).
(07_scribes.md Table 7.2, 07_scribes.md Table 7.3, R159) -/
def Obligations.ScribeWordsAreTable73 : Prop :=
  ∀ (s : State) (p rd ra rb rm imm : Nat), rd < 32 → ra < 32 → rb < 32 → rm < 4 → imm < 65536 →
    runWord p (wordR 0x00 rd ra rb 0x00) s = some (scrAddSub p rd ra rb false false false s) ∧
    runWord p (wordR 0x00 rd ra rb 0x101) s = some (scrAddSub p rd ra rb true false true s) ∧
    runWord p (wordR 0x00 rd ra rb 0x02) s = some (scrAddSub p rd ra rb false true false s) ∧
    runWord p (wordR 0x00 rd ra rb 0x07) s = some (scrOp2 (fun a b => a &&& ~~~b) p rd ra rb s) ∧
    runWord p (wordR 0x00 rd ra rb 0x0A) s = some (scrOp2 sraW p rd ra rb s) ∧
    runWord p (wordR 0x00 rd ra rb 0x0D) s = some (scrOp2 sltuW p rd ra rb s) ∧
    runWord p (wordR 0x00 rd ra rb 0x13) s = some (scrOp2 mulhW p rd ra rb s) ∧
    runWord p (wordR 0x00 rd ra 0 0x15) s = some (scrOp1 clzW p rd ra s) ∧
    runWord p (wordR 0x00 rd ra 0 0x19) s = some (scrOp1 brevW p rd ra s) ∧
    runWord p (wordR 0x00 rd ra rb 0x1C) s = some (scrAddSubM p rd ra rb true s) ∧
    runWord p (wordI 0x01 rd ra imm) s = some (scrOpI (· + ·) p rd ra (BitVec.ofInt 32 (sx 16 imm)) s) ∧
    runWord p (wordI 0x02 rd ra imm) s = some (scrOpI (· &&& ·) p rd ra (BitVec.ofNat 32 imm) s) ∧
    runWord p (wordI 0x05 rd 0 imm) s = some (scrSet p rd (imm * 65536) s) ∧
    runWord p (wordI 0x0A rd ra rb) s = some (scrOpI sraW p rd ra (BitVec.ofNat 32 rb) s) ∧
    runWord p (wordR 0x0B rd ra 0 (rb * 64 + rm * 16)) s = some (scrShrr p rd ra rb rm s) ∧
    runWord p (wordR 0x0C rd ra ra (rb * 64 + rm * 16 + 8)) s = some (scrMulq p rd ra ra rb rm true false s) ∧
    runWord p (wordR 0x0D 0 ra rb 1) s = some (scrMac p ra rb (accOf s p) true false s) ∧
    runWord p (wordR 0x0E 0 ra 0 3) s = some (scrAccw p ra s) ∧
    runWord p (wordR 0x0F rd ra rb (rm * 16 + 4)) s = some (scrDiv p rd ra rb rm false true s) ∧
    runWord p (wordI 0x11 rd ra imm) s = some (scrLoad p rd ra imm 2 true s) ∧
    runWord p (wordI 0x17 rd ra imm) s = some (scrStore p rd ra imm 1 s) ∧
    runWord p (wordI 0x1B rd ra imm) s = some (scrBranch (fun a b => !a.slt b) p rd ra imm s) ∧
    runWord p (wordI 0x1F rd ra imm) s = some (scrJalr p rd ra imm s) ∧
    runWord p (wordR 0x24 rd ra 0 0) s = some (scrQfree p rd ra s) ∧
    runWord p (wordR 0x26 rd ra 0 0) s = some (scrPwait p rd ra s) ∧
    runWord p (wordI 0x2A 0 0 0) s = some (scrRett p s) ∧
    runWord p (wordI 0x2B 0 0 0) s = some (scrHalt p s) ∧
    (∀ op, 0x2C ≤ op → op < 64 → runWord p (wordI op rd ra imm) s = none) ∧
    (∀ fn, 0x1D ≤ fn → fn < 64 → runWord p (wordR 0 rd ra rb fn) s = none) ∧
    (∀ w, ScrFree p s → ScrHas p w s →
      (w ≠ wordR 0x00 rd ra rb 0x04 → exec (.sAnd p rd ra rb) s = .next (finish (scrRun p w s))) ∧
      (w ≠ wordI 0x01 rd ra imm → exec (.sAddi p rd ra imm) s = .next (finish (scrRun p w s))) ∧
      (w ≠ wordI 0x10 rd ra imm → exec (.sLdw p rd ra imm) s = .next (finish (scrRun p w s))) ∧
      (w ≠ wordI 0x18 ra rb imm → exec (.sBeq p ra rb imm) s = .next (finish (scrRun p w s))) ∧
      (w ≠ wordI 0x2B 0 0 0 → exec (.sHalt p) s = .next (finish (scrRun p w s))))

/-- On a live device, for a RUNNING pair in the middle of a WAIT: when a doorbell bit is set (FN[0]), no fetch is outstanding (FN[1]), the
angle has been reached in the direction FN[3] names with the source VALID (FN[2]), or WAIT_TMO cycles have passed (FN[4]), it ends with
the bits of every enabled condition that holds in rd, PC and RETIRED advance and the pair waits no longer; while none holds nothing
changes. The passing of the time-out ends it when FN[4] is set and WAIT_TMO cycles of two ticks have passed since it began, and is
nothing before. A pair in the middle of a PWAIT on a tag that is no longer outstanding goes on with its status. (R166) -/
def Obligations.ScribeWaitEnds : Prop :=
  ∀ (s : State) (p rd mask ref start tag : Nat), p < 8 → s.live = true → pairState s p = 1 → scrMode s = true →
    let d : Int := diffS 32 (engWord s) ref
    let bell : Bool := mask.testBit 0 && s.rd (Fd.SCR_DOORBELL_PENDING p) != 0
    let idle : Bool := mask.testBit 1 && fetchesOf s p == 0
    let there : Bool := mask.testBit 2 && engValid s && (if mask.testBit 3 then decide (d ≤ 0) else decide (0 ≤ d))
    let tmo : Bool := mask.testBit 4 && decide ((s.pairOf p).waitTmo.toNat ≤ (s.now + 2 ^ 64 - start) % 2 ^ 64 / 2)
    let b : Nat := b2n bell + 2 * b2n idle + 4 * b2n there + 16 * b2n tmo
    let ends : Nat → State → Prop := fun v t => pairWaiting t p = false ∧ ScrGoes p (scrNext p s) s t ∧
      (∀ r, gRead t p r = if r = rd ∧ r ≠ 0 then v % 2 ^ 32 else gRead s p r) ∧ ScrFrame p (scrPcFlds p) s t
    ((s.pairOf p).waiting = .wait rd mask ref start →
      (bell = true ∨ idle = true ∨ there = true ∨ tmo = true → ∃ t, exec (.waitCondition p) s = .next t ∧ ends b t) ∧
      (bell = false → idle = false → there = false → tmo = false → exec (.waitCondition p) s = .next s) ∧
      (tmo = true → ∃ t, exec (.waitTimeout p) s = .next t ∧ ends b t) ∧
      (tmo = false → exec (.waitTimeout p) s = .next s)) ∧
    ((s.pairOf p).waiting = .pwait rd tag → tagBusy s p tag = false →
      ∃ t, exec (.waitCondition p) s = .next t ∧ ends (tagStatus s p tag) t)

/-- On a live device with the scribe debug right: HALT moves a RUNNING pair to DEBUG, RESUME returns a DEBUG pair to RUNNING in a mode that
admits it, an enabled breakpoint at the PC of a running pair under debug moves it to DEBUG with its hit bit, STEP in DEBUG executes the
word fetched at the PC (of XPUSH one push) and of a pair that is not in DEBUG reports ORDER, and a register write in DEBUG with a
selector below 32 writes that general register. Without the right HALT, STEP, RESUME and a register write report ACCESS and change
nothing else. (R170, 07_scribes.md Table 7.1) -/
def Obligations.ScribeDebugCommands : Prop :=
  ∀ (s : State) (p i v : Nat) (b0 b1 : Bool), p < 8 → s.live = true →
    let put : State := ((s.wr Fd.SCR_DBG_CTRL_PAIR p).wrB Fd.SCR_DBG_CTRL_BP0_EN b0).wrB Fd.SCR_DBG_CTRL_BP1_EN b1
    let dbg : Nat → Nat → State → Prop := fun a st t => pairState t p = a ∧ t.rd Fd.SCR_DBG_STAT_STATUS = st ∧
      t.rd Fd.SCR_DBG_CTRL_PAIR = p ∧ t.rd Fd.SCR_DBG_CTRL_BP0_EN = put.rd Fd.SCR_DBG_CTRL_BP0_EN ∧
      t.pairOf p = { s.pairOf p with stepDue := (t.pairOf p).stepDue } ∧ t.mem = s.mem
    (hasRight 3 s = true →
      (pairState s p = 1 → ∃ t, exec (.debugHalt p b0 b1) s = .next t ∧ dbg 3 0 t) ∧
      (pairState s p = 3 → scrMode s = true → (s.pairOf p).waiting = .none → ∃ t, exec (.debugResume p b0 b1) s = .next t ∧ dbg 1 0 t) ∧
      (∀ w, pairState s p = 3 → scrMode s = true → (s.pairOf p).waiting = .none →
        scrFetch p (put.wr Fd.SCR_DBG_STAT_STATUS 0) = (.word w, put.wr Fd.SCR_DBG_STAT_STATUS 0) →
        exec (.debugStep p b0 b1) s = .next (finish (scrRun p w (put.wr Fd.SCR_DBG_STAT_STATUS 0)))) ∧
      (pairState s p ≠ 3 → ∃ t, exec (.debugStep p b0 b1) s = .next t ∧ dbg (pairState s p) 4 t) ∧
      (pairState s p = 1 → scrMode s = true → bpHit p s = some i → ∃ t, exec (.breakpoint p) s = .next t ∧ pairState t p = 3 ∧
        t.rd (if i = 0 then Fd.SCR_DBG_STAT_BP0_HIT else Fd.SCR_DBG_STAT_BP1_HIT) = 1 ∧
        t.pairOf p = { s.pairOf p with stepDue := false }) ∧
      (s.rd Fd.SCR_DBG_CTRL_PAIR = p → pairState s p = 3 → s.rd Fd.SCR_DBG_REG_SEL_SEL = i → i < 32 →
        ∃ t, exec (.debugRegWrite v) s = .next t ∧ t.rd Fd.SCR_DBG_STAT_STATUS = 0 ∧
          ∀ r, gRead t p r = if r = i ∧ r ≠ 0 then v % 2 ^ 32 else gRead s p r)) ∧
    (hasRight 3 s = false → ∀ c, c ∈ [Instr.debugHalt p b0 b1, .debugStep p b0 b1, .debugResume p b0 b1, .debugRegWrite v] →
      exec c s = .next (s.wr Fd.SCR_DBG_STAT_STATUS 5))

/-- With the sys clock: two enabled taps of a monitored chain whose sampling network runs set CONTENTION, count, are captured once with
their taps and, under CMODE 2 or 3, raise input 23; the loss of a fabric PLL after release clears its lock bit and the running networks
it feeds and raises input 32; a fault line of the connected fabric raises its input; while its port's clock runs an answer of the
dictionary port ends an SPI request with the status of its RESP, or asks for the next eight bytes, then the next request is carried, a
waiting default before a waiting read; one to a withdrawn request does nothing, a time-out ends it INCOMPLETE and counts; a default
that is answered has its source used, one refused counts; a window access is acknowledged with its data while its port's clock runs, or
ends in a captured bus error of CAUSE 5, the next in turn then standing first; loupe writes are refused with ACCESS without the right,
with RANGE for a bad selection, and are otherwise taken. User logic: none runs unless released; a network that does not run has no
edge, the engine clock's rises in the first half of a tick and falls in the second; an asynchronous set/reset acts at once; at its edge
a flip-flop is set or reset, held without its clock enable, or takes its data, else it keeps its value, and a math block takes its next
state; an inkwell without an edge is unchanged, a port with an edge and no access shifts its output register; then an enabled chain's
keeper takes what the chain reads, and the pads what is driven. What the edges' order and the set/reset's precedence rest on is log
entry 78, the accesses' order log entry 55. (R16, R173, R177, R178, R180, R181, R182, R184, R187, R189, R192, R300) -/
def Obligations.FabricPorts : Prop :=
  (∀ (s : State) (ch en m n resp v k a b : Nat) (d : W64) (taps : List Nat) (r : FabReq) (x : FabAcc) (l : List FabAcc) (q : FabReq) (qs : List FabReq), sysOn s = true →
    (tapsOf (en % 2 ^ chainTaps (ch % 128)) = [] ∨ tapsOf (en % 2 ^ chainTaps (ch % 128)) = [a] ∨ chainCmode s ch = 0 ∨
      netOn s (chainNet s ch) = false →
      exec (.chainContention ch en) s = .next (finish s)) ∧
    (tapsOf (en % 2 ^ chainTaps (ch % 128)) = a :: b :: taps → chainCmode s ch ≠ 0 → netOn s (chainNet s ch) = true →
      ∃ u, exec (.chainContention ch en) s = .next (finish u) ∧ u.rd Fd.FAB_STAT_CONTENTION = 1 ∧
        u.rd Fd.FAB_CHAIN_CNT_COUNT = min (2 ^ 32 - 1) (s.rd Fd.FAB_CHAIN_CNT_COUNT + 1) ∧
        (s.rd Fd.FAB_CHAIN_CAP_VALID = 0 → u.rd Fd.FAB_CHAIN_CAP_CHAIN = ch % 4096 ∧ u.rd Fd.FAB_CHAIN_CAP_TAP_A = a % 32 ∧
          u.rd Fd.FAB_CHAIN_CAP_TAP_B = b % 32 ∧ u.rd Fd.FAB_CHAIN_CAP_VALID = 1) ∧
        (chainCmode s ch = 1 → u.saf = s.saf) ∧ (chainCmode s ch ≠ 1 → u.saf.due.contains 23 = true)) ∧
    (m < 4 → s.fab.released = false → exec (.fpllLoss m) s = .next (finish s)) ∧
    (m < 4 → s.fab.released = true → ∃ u, exec (.fpllLoss m) s = .next (finish u) ∧ u.rd Fd.FAB_STAT_FPLL_LOSS = 1 ∧
      (u.rd Fd.FAB_CLK_STAT_FPLL_LOCK).testBit m = false ∧ u.saf.due.contains 32 = true ∧ u.fab.fpllOut.contains m = true ∧
      ∀ i, i < 24 → (Config.netSource (activeData s) i).toNat = m → (u.rd Fd.FAB_CLK_STAT_NET_RUN).testBit i = false) ∧
    (n < 8 → ∃ u, exec (.fabricFaultLine n true) s = .next (finish u) ∧ u.fab.faultLine.getLsbD n = true ∧
      (s.fab.connected = true → u.saf.due.contains (24 + n) = true) ∧ (s.fab.connected = false → u.saf = s.saf)) ∧
    (n < 8 → ∃ u, exec (.fabricFaultLine n false) s = .next (finish u) ∧ u.fab.faultLine.getLsbD n = false ∧ u.saf = s.saf ∧
      u.regs = s.regs) ∧
    (s.fab.req = none → s.net.work = [] → s.fab.wait = [] → s.ufl.store = none →
      exec (.fabricDictAnswer ⟨resp, false⟩ d) s = .next (finish s) ∧ exec .fabricDictTimeout s = .next (finish s)) ∧
    (s.fab.req = some r → exec (.fabricDictAnswer ⟨resp, true⟩ d) s = .next (finish s) ∧
      (portOn s 19 = false → exec (.fabricDictAnswer ⟨resp, false⟩ d) s = .next (finish s))) ∧
    (s.fab.req = some r → r.client = 0 → portOn s 19 = true → anySector s = true → resp % 4 ≠ 0 →
      (s.fab.wait = q :: qs → s.net.work = [] → ∃ u, exec (.fabricDictAnswer ⟨resp, false⟩ d) s = .next (finish u) ∧ u.fab.req = some q ∧
        u.fab.wait = qs) ∧
      (∀ c i sub off num, inFabric i = true → workFirst s = some (.read c i sub off num false) →
        (s.fab.wait = q :: qs → ∃ u, exec (.fabricDictAnswer ⟨resp, false⟩ d) s = .next (finish u) ∧ u.fab.req = some q ∧
          u.net.work = s.net.work) ∧
        (s.fab.wait = [] → ∃ u, exec (.fabricDictAnswer ⟨resp, false⟩ d) s = .next (finish u) ∧
          u.fab.req = some ⟨i, sub, off, false, [], num, [], c, 0⟩ ∧
          u.net.work = s.net.work.erase (.read c i sub off num false)))) ∧
    (s.fab.req = some r → r.client = 255 → portOn s 19 = true → s.fab.wait = [] → s.net.work = [] → s.ufl.store = none → r.size ≤ 8 →
      ∃ u, exec (.fabricDictAnswer ⟨resp, false⟩ d) s = .next (finish u) ∧ u.fab.req = none ∧
        (resp % 4 = 0 → u.rd Fd.NET_DEF_STAT_MANIFEST_USED = 1) ∧
        (resp % 4 ≠ 0 → u.rd Fd.NET_DEF_STAT_REFUSED = min 65535 (s.rd Fd.NET_DEF_STAT_REFUSED + 1) ∧ u.rd Fd.NET_STAT_DEF_REFUSED = 1)) ∧
    (s.fab.req = some r → r.client = 0 → portOn s 19 = true → s.fab.wait = [] → s.net.work = [] → s.ufl.store = none →
      (resp % 4 ≠ 0 → ∃ u, exec (.fabricDictAnswer ⟨resp, false⟩ d) s = .next (finish u) ∧ u.fab.req = none ∧
        u.rd Fd.HSP_STAT_LAST_STATUS = (if resp % 4 = 1 then 5 else 9)) ∧
      (resp % 4 = 0 → r.size ≤ 8 → ∃ u, exec (.fabricDictAnswer ⟨resp, false⟩ d) s = .next (finish u) ∧ u.fab.req = none ∧
        u.rd Fd.HSP_STAT_LAST_STATUS = 0 ∧ (s.net.spiBusy = true → r.write = false →
          u.net.spiOut = spiFrame 0 s.net.spiTag (r.got ++ (toBytes 8 d.toNat).take r.size))) ∧
      (resp % 4 = 0 → 8 < r.size → ∃ u q, exec (.fabricDictAnswer ⟨resp, false⟩ d) s = .next (finish u) ∧ u.fab.req = some q ∧
        q.offset = r.offset + 8 ∧ q.size = r.size - 8 ∧ q.index = r.index ∧ q.sub = r.sub ∧ q.write = r.write ∧
        u.rd Fd.FAB_DICT_STAT_REQ_CNT = min 65535 (s.rd Fd.FAB_DICT_STAT_REQ_CNT + 1)) ∧
      (∃ u, exec .fabricDictTimeout s = .next (finish u) ∧ u.fab.req = none ∧ u.rd Fd.FAB_STAT_DICT_TMO = 1 ∧
        u.rd Fd.FAB_DICT_STAT_TMO_CNT = min 65535 (s.rd Fd.FAB_DICT_STAT_TMO_CNT + 1) ∧ u.rd Fd.HSP_STAT_LAST_STATUS = 10)) ∧
    (s.fab.acc = [] → exec (.fabricWindowAck d) s = .next (finish s) ∧ exec .fabricWindowTimeout s = .next (finish s)) ∧
    (portOn s 18 = false → exec (.fabricWindowAck d) s = .next (finish s)) ∧
    (s.fab.acc = x :: l → x.master ≠ 3 → s.net.spiOp = none →
      (portOn s 18 = true → ∃ u, exec (.fabricWindowAck d) s = .next (finish u) ∧ u.fab.acc = turnFront FabAcc.master x.master l ∧
        u.sys.rdErr = 0 ∧
        u.sys.rdData = (if x.write then 0 else d.toNat) ∧ u.regs = s.regs) ∧
      (s.rd Fd.SYS_BUSERR_INFO_VALID = 0 → ∃ u, exec .fabricWindowTimeout s = .next (finish u) ∧
        u.fab.acc = turnFront FabAcc.master x.master l ∧ u.sys.rdErr = 1 ∧
        u.rd Fd.SYS_BUSERR_ADDR_ADDR = x.addr % 2 ^ 32 ∧ u.rd Fd.SYS_BUSERR_INFO_CAUSE = 5 ∧
        u.rd Fd.SYS_BUSERR_INFO_MASTER = x.master % 256 ∧ u.rd Fd.SYS_BUSERR_INFO_VALID = 1)) ∧
    (let right : Bool := (s.rd Fd.DBG_RIGHTS_RIGHTS).testBit 1
     let src : Nat := v / 2 ^ 20 % 8
     let pin : Nat := v / 2 ^ 23 % 512
     let bad : Bool := loupeSrcOn src && (!loupeIndexOk src (v % 2 ^ 20) || s.rdB (Fd.FAB_IOCFG_FAB_OUT pin) || pinTaken s 512 32 pin)
     (right = false → k < 64 → ∃ u, u.rd Fd.FAB_STAT_LOUPE_REFUSED = 1 ∧ u.rd Fd.FAB_LOUPE_CTRL_STATUS = 5 ∧ u.fab = s.fab ∧
       u.rd Fd.FAB_LOUPE_CTRL_EN = s.rd Fd.FAB_LOUPE_CTRL_EN ∧ exec (.loupeWrite none v) s = .next (finish u) ∧
       exec (.loupeWrite (some k) v) s = .next (finish u)) ∧
     (right = true → ∃ u, exec (.loupeWrite none v) s = .next (finish u) ∧ u.rd Fd.FAB_LOUPE_CTRL_EN = v % 2 ∧
       u.rd Fd.FAB_LOUPE_CTRL_CLK = v / 16 % 32 ∧ u.rd Fd.FAB_LOUPE_CTRL_STATUS = 0) ∧
     (right = true → k < 64 → bad = true → ∃ u, exec (.loupeWrite (some k) v) s = .next (finish u) ∧
       u.rd Fd.FAB_LOUPE_CTRL_STATUS = 9 ∧ u.fab = s.fab) ∧
     (right = true → k < 64 → bad = false → ∃ u, exec (.loupeWrite (some k) v) s = .next (finish u) ∧
       u.rd Fd.FAB_LOUPE_CTRL_STATUS = 0 ∧ u.rd (Fd.FAB_LOUPE_SEL_INDEX k) = v % 2 ^ 20 ∧ u.rd (Fd.FAB_LOUPE_SEL_SRC k) = src ∧
       u.rd (Fd.FAB_LOUPE_SEL_PIN k) = pin ∧ mapGet false u.fab.loupeOn k = loupeSrcOn src))) ∧
  ∀ (s : State) (n h k j p o : Nat) (rise : Bool),
    (fabClocked s = false → fabTick s = s) ∧ (netOn s n = false → netEdge s n rise = false) ∧
    (netOn s n = true → (Config.netSource (activeData s) n).toNat = 5 → netEdge s n rise = ((s.fab.half == 0) == rise)) ∧
    (k ∈ s.cfg.active.map Prod.fst → j < 24576 →
      let f : FfCfg := if j % 2 = 0 then ((designOf s k).bead (j / 2)).ff0 else ((designOf s k).bead (j / 2)).ff1
      let g := (designOf s k).strand (j / 16)
      let old : Bool := mapGet false s.fab.ff (2 ^ 15 * k + j)
      let forced : Bool := f.useSr && wireVal s k g.sr
      let edge : Bool := sees s k (if g.useB then g.netB else g.netA) (!g.falling)
      let after : State := if g.falling then fallingEdges s else risingEdges s
      let other : State := if g.falling then risingEdges s else fallingEdges s
      mapGet false (ffSet (ffAsync s) s).fab.ff (2 ^ 15 * k + j) =
        (if g.async = true ∧ sectorUp s k = true ∧ swapping s k = false ∧ forced = true then f.srSets else old) ∧
      mapGet false other.fab.ff (2 ^ 15 * k + j) = old ∧ (edge = false → mapGet false after.fab.ff (2 ^ 15 * k + j) = old) ∧
      (edge = true → forced = true → mapGet false after.fab.ff (2 ^ 15 * k + j) = f.srSets) ∧
      (edge = true → forced = false → mapGet false after.fab.ff (2 ^ 15 * k + j) =
        (if f.useCe = true ∧ wireVal s k g.ce = false then old else ffData s k (j / 2) f))) ∧
    (k ∈ s.cfg.active.map Prod.fst → j < 48 → mathSt (risingEdges s) k j =
      (if sees s k ((designOf s k).math j).net true then (mathNext s k j).1 else mathSt s k j)) ∧
    (k ∈ s.cfg.active.map Prod.fst → p < 72 → p / 2 = o / 2 → p ≠ o → sees s k ((designOf s k).ink o).net true = false →
      let was := mapGet inkPortZero s.fab.ink (72 * k + p)
      let is := mapGet inkPortZero (risingEdges s).fab.ink (72 * k + p)
      (sees s k ((designOf s k).ink p).net true = false → is = was) ∧
      (sees s k ((designOf s k).ink p).net true = true → inkAcc s k p = none → is.q = was.q ∧ is.q2 = was.q)) ∧
    (k ∈ s.cfg.active.map Prod.fst → j < 112 → mapGet false (fabSettle s).fab.keeper (128 * k + j) =
      (if sectorUp s k = true ∧
        chainEnables s (128 * k + j) ≠ 0 then chainVal s (128 * k + j) else mapGet false s.fab.keeper (128 * k + j))) ∧
    (p < 512 → mapGet? (fabSettle s).fab.pad p = (pinDrive s p (8 * s.fab.half + 7)).map b2n) ∧
    (let s1 := { s with fab := { s.fab with half := h } }
     fabHalf h s = fabSettle (fallingEdges (risingEdges (ffSet (ffAsync s1) s1))))

/-- With the sys clock: while the port does not take a frame no request or frame does anything; a LEN out of the range of its operation is
answered 0x5A with reason 2, LEN_ERR and a count, a frame that fails a check 0x5A with its reason, and one without a fault is the
request it spells; BUS_READ and BUS_WRITE of XMC_FILL_PAT read and set it, and of a reserved address end with RANGE; DICT_READ and
DICT_WRITE of 0x1017, while no other access is in progress, read and set NET_HB_PROD, end with RANGE for an object that does not exist
and with REFUSED_MODE in a mode that serves no dictionary; STATUS returns HSP_STAT, RESULT the remembered entry of a tag or RANGE;
SPI_ABANDON drops a response under way, sets ABANDONED and counts; the request goes on without a host. What a rejected frame and an
abandoned request leave is log entry 54. (R295, R296, R297, R298, R299, Table 12.7) -/
def Obligations.HostSpiPort : Prop :=
  ∀ (s : State) (tag a n : Nat) (d fr : List Byte) (e : TagE), sysOn s = true →
    let answered : Nat → List Byte → State → Prop := fun st data u => u.rd Fd.HSP_STAT_LAST_STATUS = st ∧
      u.net.spiOut = spiFrame st (tag % 2 ^ 16) data ∧ u.net.spiResp = true ∧ u.net.spiBusy = false
    (spiFree s = false → exec (.spiBusRead tag a n) s = .next (finish s) ∧ exec (.spiBusWrite tag a d) s = .next (finish s) ∧
      exec (.spiDictRead tag a 0 0 n) s = .next (finish s) ∧ exec (.spiDictWrite tag a 0 0 d) s = .next (finish s) ∧
      exec (.spiStatus tag) s = .next (finish s) ∧ exec (.spiResult tag) s = .next (finish s) ∧
      exec (.spiRequestRejected fr) s = .next (finish s)) ∧
    (spiFree s = true →
      (let rejected : State → Nat → Fld → Prop := fun u why f => u.net.spiOut = [0x5A, BitVec.ofNat 8 why] ∧
         u.net.spiResp = false ∧ u.rd f = 1 ∧ u.rd Fd.HSP_ERR_CNT_REJECTED = min 65535 (s.rd Fd.HSP_ERR_CNT_REJECTED + 1) ∧ u.mem = s.mem
       (n < 4 ∨ 256 < n ∨ n % 4 ≠ 0 → ∃ u, exec (.spiBusRead tag a n) s = .next (finish u) ∧ rejected u 2 Fd.HSP_STAT_LEN_ERR) ∧
       (d.length < 4 ∨ 256 < d.length ∨ d.length % 4 ≠ 0 → ∃ u, exec (.spiBusWrite tag a d) s = .next (finish u) ∧
         rejected u 2 Fd.HSP_STAT_LEN_ERR) ∧
       (n = 0 ∨ 4096 < n → ∃ u, exec (.spiDictRead tag a 0 0 n) s = .next (finish u) ∧ rejected u 2 Fd.HSP_STAT_LEN_ERR) ∧
       (d = [] ∨ 4096 < d.length → ∃ u, exec (.spiDictWrite tag a 0 0 d) s = .next (finish u) ∧ rejected u 2 Fd.HSP_STAT_LEN_ERR) ∧
       (spiReason fr = 1 → ∃ u, exec (.spiRequestRejected fr) s = .next (finish u) ∧ rejected u 1 Fd.HSP_STAT_CRC_ERR) ∧
       (spiReason fr = 2 ∨ spiReason fr = 4 → ∃ u, exec (.spiRequestRejected fr) s = .next (finish u) ∧
         rejected u (spiReason fr) Fd.HSP_STAT_LEN_ERR) ∧
       (spiReason fr = 3 → ∃ u, exec (.spiRequestRejected fr) s = .next (finish u) ∧ rejected u 3 Fd.HSP_STAT_OP_ERR) ∧
       (spiReason fr = 0 →
         let tg : Nat := mf fr 2 2
         let len : Nat := mf fr 12 2
         let data : List Byte := (fr.drop 14).take len
         (mf fr 0 1 = 1 → exec (.spiRequestRejected fr) s = exec (.spiBusRead tg (mf fr 4 4) len) s) ∧
         (mf fr 0 1 = 2 → exec (.spiRequestRejected fr) s = exec (.spiBusWrite tg (mf fr 4 4) data) s) ∧
         (mf fr 0 1 = 3 → exec (.spiRequestRejected fr) s = exec (.spiDictRead tg (mf fr 4 2) (mf fr 6 1) (mf fr 8 4) len) s) ∧
         (mf fr 0 1 = 4 → exec (.spiRequestRejected fr) s = exec (.spiDictWrite tg (mf fr 4 2) (mf fr 6 1) (mf fr 8 4) data) s) ∧
         (mf fr 0 1 = 5 → exec (.spiRequestRejected fr) s = exec (.spiStatus tg) s) ∧
         (mf fr 0 1 = 6 → exec (.spiRequestRejected fr) s = exec (.spiResult tg) s))) ∧
      (railsOff s = false →
        (∃ u, exec (.spiBusRead tag 0x06070020 8) s = .next (finish u) ∧ answered 0 (toBytes 4 (s.rd Fd.XMC_FILL_PAT_PAT % 2 ^ 32) ++
          toBytes 4 (s.rd Fd.XMC_FILL_PAT_PAT / 2 ^ 32 % 2 ^ 32)) u ∧ u.mem = s.mem ∧
          ∀ f : Fld, f.key ≠ Fd.HSP_STAT_LAST_STATUS.key → u.rd f = s.rd f) ∧
        (d.length = 8 → ∃ u, exec (.spiBusWrite tag 0x06070020 d) s = .next (finish u) ∧ answered 0 [] u ∧
          u.rd Fd.XMC_FILL_PAT_PAT = ofBytes d ∧ u.mem = s.mem)) ∧
      (0x06130000 ≤ a → a < 0x07FFFFFC → ∃ u, exec (.spiBusRead tag a 4) s = .next (finish u) ∧ answered 9 [] u ∧ u.mem = s.mem) ∧
      (spiDictMode s = false → (∃ u, exec (.spiDictRead tag 0x1017 0 0 4) s = .next (finish u) ∧ answered 2 [] u ∧ u.mem = s.mem) ∧
        (d ≠ [] → d.length ≤ 4096 → ∃ u, exec (.spiDictWrite tag 0x1017 0 0 d) s = .next (finish u) ∧ answered 2 [] u ∧ u.mem = s.mem)) ∧
      (spiDictMode s = true → railsOff s = false → s.fab.req = none →
        (s.rd Fd.NET_HB_PROD_TIME < 65536 → ∃ u, exec (.spiDictRead tag 0x1017 0 0 4) s = .next (finish u) ∧
          answered 0 (toBytes 4 (s.rd Fd.NET_HB_PROD_TIME)) u ∧
          u.mem = s.mem) ∧
        (∃ u, exec (.spiDictRead tag 0 0 0 4) s = .next (finish u) ∧ answered 9 [] u ∧ u.mem = s.mem) ∧
        (d.length = 4 → tagFind s 0 (tag % 2 ^ 16) = none → ∃ u, exec (.spiDictWrite tag 0x1017 0 0 d) s = .next (finish u) ∧
          answered 0 [] u ∧
          u.rd Fd.NET_HB_PROD_TIME = ofBytes d % 65536 ∧ u.mem = s.mem)) ∧
      (∃ u, exec (.spiStatus tag) s = .next (finish u) ∧ answered 0 (toBytes 4 (hspStat s)) u ∧ u.mem = s.mem) ∧
      (tagFind s 0 (tag % 2 ^ 16) = some e → ∃ u, exec (.spiResult tag) s = .next (finish u) ∧ answered 0 (toBytes 4 e.word) u ∧
        u.mem = s.mem) ∧
      (tagFind s 0 (tag % 2 ^ 16) = none → ∃ u, exec (.spiResult tag) s = .next (finish u) ∧ answered 9 [] u ∧ u.mem = s.mem)) ∧
    (s.net.spiBusy = true ∨ s.net.spiResp = true → ∃ u, exec .spiAbandon s = .next (finish u) ∧ u.rd Fd.HSP_STAT_ABANDONED = 1 ∧
      u.rd Fd.HSP_ERR_CNT_ABANDONS = min 65535 (s.rd Fd.HSP_ERR_CNT_ABANDONS + 1) ∧ u.net.spiBusy = false ∧ u.net.spiResp = false ∧
      u.net.spiOut = [] ∧ u.net.work = s.net.work.map DictWork.gone ∧ u.fab.req = s.fab.req.map FabReq.gone ∧ u.mem = s.mem) ∧
    (s.net.spiBusy = false → s.net.spiResp = false → exec .spiAbandon s = .next (finish s))

/-- With the sys clock, for a bank 0 or 1 and a master that is served (one that is not does nothing): a command given while another is in
progress returns BUSY, one outside STANDBY, RUN, LIMITED and SAFE REFUSED_MODE, one from a fabric port that passes these only sets
FAB_CMD (while BUSY too: DEDUCED, log 77), and none of these changes the configuration. An admitted command makes the checks of Table
9.7 in their order, returning ACCESS, RANGE, ORDER or NOT_ERASED at the first that fails; it is otherwise taken with BUSY: an erase
begins with the block's marker and the bank's AUTH cleared, a page program with the page's flag (at once, unless IMGPROG_PACE 3, or for
a page the interval of its pace since the last, holds its first pulse back), a shadow load with the plane LOADING, a commit in phase 1;
SHADOW_CLEAR empties the plane at once, and RESTART in STANDBY and SAFE is a warm reset. In which order an admitted command's checks
come is log entry 41. (R20, R205, R206, R208, R209, R212, Table 9.7) -/
def Obligations.ConfigurationCommands : Prop :=
  ∀ (s : State) (m b slot sector : Nat) (man : List Byte), sysOn s = true → b < 2 → sector < 32 →
    let a : Nat := s.rd Fd.CFG_ADDR_OFFSET
    let all : List Instr := [.authBank m b, .cfgEraseBlock m b, .cfgProgramPage m b, .readPage m b, .hashSlot m b slot,
      .shadowLoad m b slot sector, .shadowClear m sector, .cfgCommit m b, .restart m, .rowErase m, .rowProgram m]
    let ends : Instr → Nat → Prop := fun c st => ∃ u, exec c s = .next (finish u) ∧ u.rd Fd.CFG_CMD_STAT_STATUS = st ∧
      u.rd Fd.CFG_CMD_STAT_BUSY = s.rd Fd.CFG_CMD_STAT_BUSY ∧ u.cfg = s.cfg ∧ u.mem = s.mem ∧ u.mode = s.mode
    let held : Bool := paced s
    let took : Nat → State → Prop := fun op u => u.rd Fd.CFG_CMD_STAT_BUSY = 1 ∧ u.rd Fd.CFG_CMD_STAT_OP = op ∧
      ∃ x, u.cfg.cmd = some x ∧ x.op = op
    let begun : State → Bool → Prop := fun u h => ∃ x, u.cfg.cmd = some x ∧ x.started = !h
    let late : Bool := !paceOpen s 3
    let writable : Bool := bankOpen s b
    let page : Nat := rowTarget s * 16 + a / 512
    (masterServed s m = false → ∀ c, c ∈ all → exec c s = .next (finish s)) ∧
    (masterServed s m = true →
    (isFabric m = true → s.rd Fd.CFG_CMD_STAT_BUSY = 1 ∨ cfgCmdMode s = true → ∀ c, c ∈ all →
      exec c s = .next (finish (s.set1 Fd.CFG_STAT_FAB_CMD))) ∧
    (isFabric m = false → s.rd Fd.CFG_CMD_STAT_BUSY = 1 → ∀ c, c ∈ all → ends c 1) ∧
    (s.rd Fd.CFG_CMD_STAT_BUSY = 0 → cfgCmdMode s = false → ∀ c, c ∈ all → ends c 2) ∧
    (isFabric m = false → s.rd Fd.CFG_CMD_STAT_BUSY = 0 → cfgCmdMode s = true →
      (∃ u, exec (.authBank m b) s = .next (finish u) ∧ took 1 u) ∧
      (∃ u, exec (.hashSlot m b slot) s = .next (finish u) ∧ took 5 u) ∧
      (writable = false → ends (.cfgEraseBlock m b) 5 ∧ ends (.cfgProgramPage m b) 5) ∧
      (writable = true → a % 0x10000 ≠ 0 ∨ 0x1800000 ≤ a → ends (.cfgEraseBlock m b) 9) ∧
      (writable = true → a % 0x10000 = 0 → a < 0x1800000 → ∃ u, exec (.cfgEraseBlock m b) s = .next (finish u) ∧ took 2 u ∧ begun u held ∧
        u.bank b = (if held then s.bank b else (s.bank b).eraseBegin (a / 0x10000)) ∧ u.rd (Fd.CFG_BANK_STAT_AUTH b) = 0) ∧
      (a % 512 ≠ 0 ∨ 0x1800000 ≤ a → ends (.readPage m b) 9 ∧ (writable = true → ends (.cfgProgramPage m b) 9)) ∧
      (a % 512 = 0 → a < 0x1800000 → (∃ u, exec (.readPage m b) s = .next (finish u) ∧ took 4 u) ∧
        (writable = true → (s.bank b).noneAbove 128 (a / 512) = false → ends (.cfgProgramPage m b) 4) ∧
        (writable = true → (s.bank b).noneAbove 128 (a / 512) = true → (s.bank b).pageFree 128 (a / 512) = false →
          ends (.cfgProgramPage m b) 3) ∧
        (writable = true → (s.bank b).noneAbove 128 (a / 512) = true → (s.bank b).pageFree 128 (a / 512) = true →
          ∃ u, exec (.cfgProgramPage m b) s = .next (finish u) ∧ took 3 u ∧ begun u late ∧
            u.bank b = (if late then s.bank b else (s.bank b).flagPage (a / 512)) ∧ u.rd (Fd.CFG_BANK_STAT_AUTH b) = 0)) ∧
      (manifest s b = none ∨ s.rd (Fd.CFG_BANK_STAT_AUTH b) = 0 → ends (.shadowLoad m b slot sector) 4) ∧
      (manifest s b = some man → s.rd (Fd.CFG_BANK_STAT_AUTH b) = 1 →
        let fits : Bool := mfPresent man slot && (mfTargets man slot).testBit sector && (match loadedManifest s with
          | some l => sameFpll man l
          | none => false)
        (fits = false → ends (.shadowLoad m b slot sector) 9) ∧
        (fits = true → swapReserved s sector ≠ 0 → ends (.shadowLoad m b slot sector) 4) ∧
        (fits = true → swapReserved s sector = 0 → ∃ u p, exec (.shadowLoad m b slot sector) s = .next (finish u) ∧ took 6 u ∧
          mapGet? u.cfg.shadow sector = some p ∧ p.st = 1 ∧ p.bank = b ∧ p.slot = slot)) ∧
      (swapReserved s sector ≠ 0 → ends (.shadowClear m sector) 4) ∧
      (swapReserved s sector = 0 → ∃ u, exec (.shadowClear m sector) s = .next (finish u) ∧ u.rd Fd.CFG_CMD_STAT_STATUS = 0 ∧
        mapGet? u.cfg.shadow sector = none ∧ u.rd (Fd.CFG_SECT_STAT_SHADOW_STATE sector) = 0 ∧ u.cfg.active = s.cfg.active) ∧
      (s.rd (Fd.CFG_BANK_STAT_AUTH b) = 0 → ends (.cfgCommit m b) 4) ∧
      (s.rd (Fd.CFG_BANK_STAT_AUTH b) = 1 → ∃ u, exec (.cfgCommit m b) s = .next (finish u) ∧ took 8 u ∧ u.rd Fd.CFG_CMD_STAT_PHASE = 1) ∧
      (s.mode = Md.standby ∨ s.mode = Md.safe → ∃ u, exec (.restart m) s = .next (finish u) ∧ u.mode = Md.load ∧
        u.rd Fd.SYS_RESET_CAUSE_WARM_CMD = 1) ∧
      (s.mode ≠ Md.standby → s.mode ≠ Md.safe → ends (.restart m) 2) ∧
      (lcsState s = 3 → ends (.rowErase m) 5 ∧ ends (.rowProgram m) 5) ∧
      (lcsState s ≠ 3 → (∃ u, exec (.rowErase m) s = .next (finish u) ∧ took 10 u ∧ begun u held ∧
          u.cfg.rowErased = (if held then s.cfg.rowErased else some (rowTarget s)) ∧
          u.cfg.row = (if held then s.cfg.row else s.cfg.row.eraseBegin (rowTarget s))) ∧
        (s.cfg.rowErased ≠ some (rowTarget s) → ends (.rowProgram m) 4) ∧
        (s.cfg.rowErased = some (rowTarget s) →
          (a % 512 ≠ 0 ∨ 0x1000 ≤ a → ends (.rowProgram m) 9) ∧
          (a % 512 = 0 → a < 0x1000 → s.cfg.row.noneAbove 16 page = false → ends (.rowProgram m) 4) ∧
          (a % 512 = 0 → a < 0x1000 → s.cfg.row.noneAbove 16 page = true → s.cfg.row.pageFree 16 page = false →
            ends (.rowProgram m) 3) ∧
          (a % 512 = 0 → a < 0x1000 → s.cfg.row.noneAbove 16 page = true → s.cfg.row.pageFree 16 page = true →
            ∃ u, exec (.rowProgram m) s = .next (finish u) ∧ took 11 u ∧ begun u held ∧
              u.cfg.row = (if held then s.cfg.row else s.cfg.row.flagPage page))))))

/-- With the sys clock: COMMIT_PHASE_END goes from phase 1 to 2 where every hash matches and to 3 where the margin read passes, else ends
with AUTH or UNCORRECTABLE, and ends phase 3 with OK and the record's two pages programmed, or with UNCORRECTABLE where the record does
not read back (log entries 41 and 76), the pace permitting; SHADOW_STREAM_END leaves the plane VERIFIED with OK, or FAILED with AUTH or
UNCORRECTABLE; CFG_CMD_DONE ends the other commands with their result: AUTH set or cleared, the block erased, the page programmed
(whether it then holds the data is a free value, log entry 77), the page buffer or CFG_HASH filled; an erase or program whose first
pulse the pace holds back does not end. A scrubbed frame that is clean changes nothing but the position; a correctable one counts and
sets SCRUB_CE; an uncorrectable one of the active plane raises input 16 where it is repaired and then reads good again, else input 17
with SCRUB_UE, and of a shadow makes it FAILED; while a swap of the sector is locked the write of a repair or correction is withheld.
(R205, R206, R208, R209, R213, R216, R217, Table 9.6, Table 9.8) -/
def Obligations.ConfigurationEnds : Prop :=
  ∀ (s : State) (c : CfgCmdSt) (margin readback ok : Bool) (m l : List Byte) (sector : Nat) (p : Plane), sysOn s = true →
    let ended : Instr → Nat → State → Prop := fun i st u => exec i s = .next (finish u) ∧ u.rd Fd.CFG_CMD_STAT_STATUS = st ∧
      u.rd Fd.CFG_CMD_STAT_BUSY = 0 ∧ u.cfg.cmd = none
    (s.cfg.cmd = none → exec .cfgCmdDone s = .next (finish s) ∧ exec (.commitPhaseEnd margin) s = .next (finish s) ∧
      exec (.shadowStreamEnd readback) s = .next (finish s)) ∧
    (s.cfg.cmd = some c → c.bank < 2 →
      (c.op = 8 →
        (s.rd Fd.CFG_CMD_STAT_PHASE = 1 → bankHashes s c.bank = true → ∃ u, exec (.commitPhaseEnd margin) s = .next (finish u) ∧
          u.rd Fd.CFG_CMD_STAT_PHASE = 2 ∧ u.cfg = { s.cfg with cmd := some { c with pages := 0, since := s.now } }) ∧
        (s.rd Fd.CFG_CMD_STAT_PHASE = 1 → bankHashes s c.bank = false → ∃ u, ended (.commitPhaseEnd margin) 6 u) ∧
        (s.rd Fd.CFG_CMD_STAT_PHASE = 2 → paced s = true → exec (.commitPhaseEnd margin) s = .next (finish s)) ∧
        (s.rd Fd.CFG_CMD_STAT_PHASE = 2 → paced s = false → ∃ u, exec (.commitPhaseEnd true) s = .next (finish u) ∧
          u.rd Fd.CFG_CMD_STAT_PHASE = 3 ∧ u.rd Fd.CFG_CMD_STAT_PROGRESS = 49152 ∧
          u.cfg = { s.cfg with cmd := some { c with started := true } }) ∧
        (s.rd Fd.CFG_CMD_STAT_PHASE = 2 → paced s = false → ∃ u, ended (.commitPhaseEnd false) 7 u) ∧
        (s.rd Fd.CFG_CMD_STAT_PHASE = 3 → c.started = false ∨ paced s = true → exec (.commitPhaseEnd margin) s = .next (finish s)) ∧
        (s.rd Fd.CFG_CMD_STAT_PHASE = 3 → c.started = true → paced s = false → ∃ u, ended (.commitPhaseEnd true) 0 u ∧
          u.cfg.recs.flags.contains (recNext s).1 = true ∧ u.cfg.recs.flags.contains ((recNext s).1 + 1) = true) ∧
        (s.rd Fd.CFG_CMD_STAT_PHASE = 3 → c.started = true → paced s = false → ∃ u, ended (.commitPhaseEnd false) 7 u)) ∧
      (c.op = 6 → c.sector < 32 →
        (manifest s c.bank = some m → slotBytes s c.bank c.slot 0 720896 = some l →
          (sha l = mfSlotHash m c.slot → ∃ u q, exec (.shadowStreamEnd true) s = .next (finish u) ∧
            ended (.shadowStreamEnd true) 0 u ∧ mapGet? u.cfg.shadow c.sector = some q ∧ q.st = 2 ∧
            q.planeId = mfPlaneId m c.slot ∧ u.rd (Fd.CFG_SECT_STAT_SHADOW_STATE c.sector) = 2) ∧
          (sha l ≠ mfSlotHash m c.slot ∨ readback = false → ∃ u q, exec (.shadowStreamEnd readback) s = .next (finish u) ∧
            ended (.shadowStreamEnd readback) 6 u ∧ mapGet? u.cfg.shadow c.sector = some q ∧ q.st = 3)) ∧
        (slotBytes s c.bank c.slot 0 720896 = none → ∃ u q, ended (.shadowStreamEnd readback) 7 u ∧
          mapGet? u.cfg.shadow c.sector = some q ∧ q.st = 3)) ∧
      (c.op = 1 → ∃ u, exec .cfgCmdDone s = .next (finish u) ∧ ended .cfgCmdDone (if authentic s c.bank then 0 else 6) u ∧
        u.rd (Fd.CFG_BANK_STAT_AUTH c.bank) = (if authentic s c.bank then 1 else 0)) ∧
      (c.started = false → c.op = 2 ∨ c.op = 3 ∨ c.op = 10 ∨ c.op = 11 → exec .cfgCmdDone s = .next (finish s)) ∧
      (c.op = 2 → c.started = true → ∃ u, exec .cfgCmdDone s = .next (finish u) ∧ ended .cfgCmdDone 0 u ∧
        u.bank c.bank = (s.bank c.bank).eraseEnd 8192 128 (c.addr / 0x10000)) ∧
      (c.op = 3 → c.started = true → ∃ u, exec .cfgCmdDone s = .next (finish u) ∧ ended .cfgCmdDone 0 u ∧
        u.bank c.bank = (s.bank c.bank).pulsed 64 (c.addr / 512) s.sys.free (cfgPage s).1) ∧
      (c.op = 4 → s.plainMem → ∃ u, exec .cfgCmdDone s = .next (finish u) ∧
        ended .cfgCmdDone (if (s.bank c.bank).anyBad 8192 64 (c.addr / 8) then 7 else 0) u ∧
        ∀ k, k < 64 → u.mget (mkey 15 k) =
          eccEncode (BitVec.ofNat 64 ((((s.bank c.bank).read 8192 (c.addr / 8 + k)).data?).getD 0))) ∧
      (c.op = 5 → slotBytes s c.bank c.slot 0 720896 = some l → ∃ u, exec .cfgCmdDone s = .next (finish u) ∧ ended .cfgCmdDone 0 u ∧
        ∀ i, i < 8 → u.rd (Fd.CFG_HASH_WORD i) = sha l / 2 ^ (32 * i) % 2 ^ 32) ∧
      (c.op = 10 → c.started = true → ∃ u, exec .cfgCmdDone s = .next (finish u) ∧ ended .cfgCmdDone 0 u ∧
        u.cfg.row = s.cfg.row.eraseEnd 1024 16 c.addr) ∧
      (c.op = 11 → c.started = true → ∃ u, exec .cfgCmdDone s = .next (finish u) ∧ ended .cfgCmdDone 0 u ∧
        u.cfg.row = s.cfg.row.pulsed 64 (c.addr / 512) s.sys.free (cfgPage s).1)) ∧
    (let next : Nat := mapGet 0 s.cfg.scrubPos (2 * sector)
     (scrubRuns s = false ∨ scrubPlane s sector 0 = none → ∀ find, exec (.configScrubFrame sector 0 find ok) s = .next (finish s)) ∧
     (scrubRuns s = true → scrubPlane s sector 0 = some p → p.repair = none →
       (p.soft.contains next = false → next ≠ 5631 ∨ p.passBad = true ∨ crc32 p.bytes = p.sig →
         ∃ u, exec (.configScrubFrame sector 0 .clean ok) s = .next (finish u) ∧ u.regs = s.regs ∧
         (next ≠ 5631 → u.cfg.active = s.cfg.active) ∧ u.cfg.shadow = s.cfg.shadow ∧
         mapGet 0 u.cfg.scrubPos (2 * sector) = (if next + 1 < 5632 then next + 1 else 0)) ∧
       (swapLocked s sector = false →
         (∃ u, exec (.configScrubFrame sector 0 .correctable ok) s = .next (finish u) ∧ u.rd Fd.CFG_STAT_SCRUB_CE = 1 ∧
           u.rd Fd.CFG_SCRUB_CNT_CORRECTED = min (2 ^ 32 - 1) (s.rd Fd.CFG_SCRUB_CNT_CORRECTED + 1) ∧ u.saf = s.saf) ∧
         (planeRepairable s p = true → ∃ u, exec (.configScrubFrame sector 0 .uncorrectable true) s = .next (finish u) ∧
           u.rd Fd.CFG_SCRUB_CNT_REPAIRS = min 65535 (s.rd Fd.CFG_SCRUB_CNT_REPAIRS + 1) ∧ u.saf.due.contains 16 = true ∧
           ∃ q, mapGet? u.cfg.active sector = some q ∧ q.words = p.words ∧ q.bad = p.bad.filter (fun f => f != next) ∧ q.repair = none) ∧
         (planeRepairable s p = false ∨ ok = false → ∃ u, exec (.configScrubFrame sector 0 .uncorrectable ok) s = .next (finish u) ∧
           u.rd Fd.CFG_STAT_SCRUB_UE = 1 ∧ u.rd Fd.CFG_SCRUB_CNT_UNREPAIRED = min 65535 (s.rd Fd.CFG_SCRUB_CNT_UNREPAIRED + 1) ∧
           u.saf.due.contains 17 = true ∧ u.cfg.unrepaired.contains sector = true)) ∧
       (swapLocked s sector = true →
         (∃ u q, exec (.configScrubFrame sector 0 .correctable ok) s = .next (finish u) ∧ u.rd Fd.CFG_STAT_SCRUB_CE = 1 ∧
           mapGet? u.cfg.active sector = some q ∧ q.soft.contains next = true) ∧
         (planeRepairable s p = true → ∃ u q, exec (.configScrubFrame sector 0 .uncorrectable ok) s = .next (finish u) ∧
           u.saf.due.contains 16 = true ∧ mapGet? u.cfg.active sector = some q ∧ q.repair = some (next, false)))) ∧
     (∀ r, scrubRuns s = true → scrubPlane s sector 0 = some p → p.repair = some r → swapLocked s sector = true →
       ∀ find, exec (.configScrubFrame sector 0 find ok) s = .next (finish s)) ∧
     (scrubRuns s = true → scrubPlane s sector 1 = some p → p.repair = none → swapLocked s sector = false → planeRepairable s p = false →
       ∃ u q, exec (.configScrubFrame sector 1 .uncorrectable ok) s = .next (finish u) ∧ mapGet? u.cfg.shadow sector = some q ∧ q.st = 3 ∧
         u.rd Fd.CFG_STAT_SCRUB_UE = 1 ∧ u.saf = s.saf))

/-- With the sys clock and a master that is served (one that is not does nothing): a UFL_CMD command returns BUSY while another command or
a store uses the array and REFUSED_MODE outside its modes; from a fabric port that passes these it only sets FAB_CMD (while BUSY too:
DEDUCED, log entry 77); it then makes the checks of R257 in order and is taken, an erase with its marker and a program with its page
flag; UFL_CMD_DONE ends it OK with the block erased, the page programmed (whether it then holds the data is a free value, log entry 77)
or EQUAL set by the comparison; an execute-only region is written once, and refused with XO_REFUSED where R262 forbids; a store or
restore by the system bus is refused by mode or while one runs, else sets BUSY and KIND; STORE_DONE ends it with OK, or with another
status and EMCY 0xFF06 where a page failed; a retained update does nothing where no field waits, advances SEQ of the region where 32 or
fewer wait, and with more makes a rewrite due with SEQ 0; a due rewrite is made whole, its SEQ 1, or 0 where a restore has voided the
region since reset. What a store fixes beside the rules is log entries 42 and 44. (R253, R256, R257, R258, R259, R262, R267, R277,
R280, R281, Table 11.2) -/
def Obligations.UserFlashAndStore : Prop :=
  ∀ (s : State) (m i v k tag : Nat) (c : UflCmdSt) (x : StoreSt), sysOn s = true → i < 8 →
    let a : Nat := s.rd Fd.UFL_ADDR_OFFSET
    let b : Nat := a / 0x40000
    let all : List Instr := [.uflEraseBlock m, .uflProgramPage m, .comparePage m, .blankCheck m]
    let ends : Instr → Nat → Prop := fun q st => ∃ u, exec q s = .next (finish u) ∧ u.rd Fd.UFL_CMD_STAT_STATUS = st ∧
      u.rd Fd.UFL_CMD_STAT_BUSY = s.rd Fd.UFL_CMD_STAT_BUSY ∧ u.ufl = s.ufl ∧ u.mem = s.mem
    let took : Nat → State → Prop := fun op u => u.rd Fd.UFL_CMD_STAT_BUSY = 1 ∧
      u.rd Fd.UFL_CMD_STAT_OP = op ∧ ∃ y, u.ufl.cmd = some y ∧ y.op = op ∧ y.addr = a
    let ended : State → Prop := fun u => exec .uflCmdDone s = .next (finish u) ∧ u.rd Fd.UFL_CMD_STAT_STATUS = 0 ∧
      u.rd Fd.UFL_CMD_STAT_BUSY = 0 ∧ u.ufl.cmd = none
    let own : Bool := uflOrigin s b false false
    (masterServed s m = false → ∀ q, q ∈ all → exec q s = .next (finish s)) ∧
    (masterServed s m = true →
    (isFabric m = true → s.rd Fd.UFL_CMD_STAT_BUSY = 1 ∨ s.rd Fd.UFL_STAT_STORE_BUSY = 1 ∨ uflMode s = true → ∀ q, q ∈ all →
      exec q s = .next (finish (s.set1 Fd.UFL_STAT_FAB_CMD))) ∧
    (isFabric m = false → s.rd Fd.UFL_CMD_STAT_BUSY = 1 ∨ s.rd Fd.UFL_STAT_STORE_BUSY = 1 → ∀ q, q ∈ all → ends q 1) ∧
    (s.rd Fd.UFL_CMD_STAT_BUSY = 0 → s.rd Fd.UFL_STAT_STORE_BUSY = 0 →
      (uflMode s = false → ∀ q, q ∈ all → ends q 2) ∧
      (isFabric m = false → uflMode s = true →
        (own = false → ends (.uflEraseBlock m) 5 ∧ ends (.uflProgramPage m) 5) ∧
        (own = true → a % 0x40000 ≠ 0 → ends (.uflEraseBlock m) 9) ∧
        (own = true → a % 0x40000 = 0 → ∃ u, exec (.uflEraseBlock m) s = .next (finish u) ∧ took 1 u ∧ u.ufl.main.undone.contains b = true) ∧
        (own = true → a % 512 ≠ 0 → ends (.uflProgramPage m) 9) ∧
        (own = true → a % 512 = 0 → s.ufl.main.noneAbove 512 (a / 512) = false → ends (.uflProgramPage m) 4) ∧
        (own = true → a % 512 = 0 → s.ufl.main.noneAbove 512 (a / 512) = true → s.ufl.main.pageFree 512 (a / 512) = false →
          ends (.uflProgramPage m) 3) ∧
        (own = true → a % 512 = 0 → s.ufl.main.noneAbove 512 (a / 512) = true → s.ufl.main.pageFree 512 (a / 512) = true →
          ∃ u, exec (.uflProgramPage m) s = .next (finish u) ∧ took 2 u ∧ u.ufl.main.flags.contains (a / 512) = true) ∧
        (uflOrigin s b true (xoMayRead m s) = false → ends (.comparePage m) 5) ∧
        (uflOrigin s b true (xoMayRead m s) = true → (a % 512 ≠ 0 → ends (.comparePage m) 9) ∧
          (a % 512 = 0 → ∃ u, exec (.comparePage m) s = .next (finish u) ∧ took 3 u)) ∧
        (a % 0x40000 ≠ 0 → ends (.blankCheck m) 9) ∧ (a % 0x40000 = 0 → ∃ u, exec (.blankCheck m) s = .next (finish u) ∧ took 4 u)))) ∧
    (s.ufl.cmd = some c →
      (c.op = 1 → ∃ u, ended u ∧ u.ufl.main = s.ufl.main.eraseEnd 32768 512 (c.addr / 0x40000)) ∧
      (c.op = 2 → ∃ u, ended u ∧ 
        u.ufl.main = s.ufl.main.pulsed 64 (c.addr / 512) s.sys.free (bufWords s.ufl.pageBuf 64)) ∧
      (c.op = 3 → ∃ u, ended u ∧ u.ufl.main = s.ufl.main ∧ u.rd Fd.UFL_CMD_STAT_EQUAL = (if uflEqual s (c.addr / 8) then 1 else 0)) ∧
      (c.op = 4 → ∃ u, ended u ∧ u.ufl.main = s.ufl.main ∧
        u.rd Fd.UFL_CMD_STAT_EQUAL = (if s.ufl.main.blank 32768 512 (c.addr / 0x40000) then 1 else 0))) ∧
    (s.ufl.xoUsed.contains i = true → exec (.xoWrite i v) s = .next (finish s)) ∧
    (s.ufl.xoUsed.contains i = false →
      (xoBad i v s = true → exec (.xoWrite i v) s = .next (finish (s.set1 Fd.UFL_STAT_XO_REFUSED))) ∧
      (xoBad i v s = false → ∃ u, exec (.xoWrite i v) s = .next (finish u) ∧ u.ufl.xoUsed.contains i = true ∧
        u.rd (Fd.UFL_XO_FIRST i) = v % 128 ∧ u.rd (Fd.UFL_XO_LAST i) = v / 2 ^ 8 % 128 ∧ u.rd (Fd.UFL_XO_PAIRS i) = v / 2 ^ 16 % 256 ∧
        u.rd (Fd.UFL_XO_LOCK i) = v / 2 ^ 24 % 2 ∧ u.rd (Fd.UFL_XO_VALID i) = v / 2 ^ 31 % 2)) ∧
    (railsOff s = false →
      (uflMode s = false → (∃ u, exec (.storeAll 255 tag) s = .next (finish u) ∧ u.rd Fd.NET_STORE_STAT_STATUS = 2 ∧ u.ufl = s.ufl) ∧
        ∃ u, exec (.restoreAll 255 tag) s = .next (finish u) ∧ u.rd Fd.NET_STORE_STAT_STATUS = 2 ∧ u.ufl = s.ufl) ∧
      (uflMode s = true → s.ufl.store ≠ none → (∃ u, exec (.storeAll 255 tag) s = .next (finish u) ∧
        u.rd Fd.NET_STORE_STAT_STATUS = 1 ∧ u.ufl = s.ufl) ∧
        ∃ u, exec (.restoreAll 255 tag) s = .next (finish u) ∧ u.rd Fd.NET_STORE_STAT_STATUS = 1 ∧ u.ufl = s.ufl) ∧
      (uflMode s = true → s.ufl.store = none → (∃ u y, exec (.storeAll 255 tag) s = .next (finish u) ∧ u.rd Fd.NET_STORE_STAT_BUSY = 1 ∧
        u.rd Fd.NET_STORE_STAT_KIND = 0 ∧ u.ufl.store = some y ∧ y.void = false) ∧
        ∃ u y, exec (.restoreAll 255 tag) s = .next (finish u) ∧ u.rd Fd.NET_STORE_STAT_BUSY = 1 ∧
          u.rd Fd.NET_STORE_STAT_KIND = 1 ∧ u.ufl.store = some y ∧ y.void = true)) ∧
    (s.ufl.store = none → exec (.storeDone none) s = .next (finish s)) ∧
    (s.ufl.store = some x → x.todo ≠ [] ∨ s.rd Fd.UFL_CMD_STAT_BUSY = 1 → exec (.storeDone none) s = .next (finish s)) ∧
    (s.ufl.store = some x → x.todo = [] → x.fab = [] → x.part = false → s.rd Fd.UFL_CMD_STAT_BUSY = 0 → x.client = 255 →
      (∃ u, exec (.storeDone none) s = .next (finish u) ∧ u.rd Fd.NET_STORE_STAT_STATUS = 0 ∧ u.rd Fd.NET_STORE_STAT_BUSY = 0 ∧
        u.rd Fd.UFL_STAT_STORE_BUSY = 0 ∧ u.ufl.store = none ∧ u.net.emcy = s.net.emcy) ∧
      (∃ u, exec (.storeDone (some k)) s = .next (finish u) ∧ u.rd Fd.NET_STORE_STAT_STATUS ≠ 0 ∧ u.rd Fd.NET_STORE_STAT_BUSY = 0 ∧
        u.ufl.store = none ∧ ∃ e, u.net.emcy = s.net.emcy ++ [e] ∧ e.code = 0xFF06)) ∧
    (s.sys.phase ≠ .over ∨ s.net.rewrite = true ∨ retDirty s = [] → exec .retainedUpdate s = .next (finish s)) ∧
    (s.sys.phase = .over → s.net.rewrite = false → ∃ u, exec .retainedUpdate s = .next (finish u) ∧
      ((retDirty s = [] ∧ u = s) ∨
       (0 < (retDirty s).length ∧ (retDirty s).length ≤ 32 ∧ u.net = s.net ∧
         (let q : Nat := s.mdata 13 0 / 2 ^ 32
          u.rd (Fd.PWR_RCHK_SEQ 0) = (if q = 0 then 0 else if q + 1 = 2 ^ 32 then 1 else q + 1))) ∨
       (32 < (retDirty s).length ∧ u.net.rewrite = true ∧ u.rd (Fd.PWR_RCHK_SEQ 0) = 0))) ∧
    (s.net.rewrite = false → exec .regionRewrite s = .next (finish s)) ∧
    (s.net.rewrite = true → ∃ u, exec .regionRewrite s = .next (finish u) ∧ u.net.rewrite = false ∧
      u.rd (Fd.PWR_RCHK_SEQ 0) = (if s.net.seqZero then 0 else 1))

/-- With the sys clock, for a client 1 to 127: a USDO message does nothing in LOAD, SLEEP and FROZEN; with four sessions in use an access
is aborted 0x05040005; an access asked for while one is in progress waits; else a read of 0x1000 and 0x1018 sub 1 gives their
constants, of an object that does not exist abort 0x06020000, a write of a constant 0x06010002; 0x1017 is read and written as
NET_HB_PROD and a write of another length is aborted 0x06070010; a segmented transfer keeps its session, hands out or collects its data
segment by segment, and ends on too much data, on an abort, or at its time-out with 0x05040000, said only in a mode in which frames are
sent; a tagged write of a bad length is aborted, of a remembered inner tag answers DUPLICATE and sets DUP_SEEN, and otherwise makes the
inner write and remembers its tag. What counts as a session is log entry 50. (R269, R271, R272, R282, R283, R284, R287, Table 12.2) -/
def Obligations.UsdoTransfers : Prop :=
  ∀ (s : State) (c i b off n j tag it : Nat) (op : UsdoOp) (d : List Byte) (x : UsdoSt) (e : TagE), sysOn s = true → 1 ≤ c → c ≤ 127 →
    let holds : List Byte → State → Prop := fun l u => u.net.usdoAbort = 0 ∧ u.net.usdoData = l
    let aborts : Instr → Nat → Prop := fun q code => ∃ u, exec q s = .next (finish u) ∧ u.net.usdoAbort = code ∧ u.net.usdoData = [] ∧
      u.regs = s.regs ∧ u.mem = s.mem
    (nmtServed s = false → exec (.usdoRequest c op) s = .next (finish s) ∧ exec (.taggedWrite c tag d) s = .next (finish s)) ∧
    (nmtServed s = true → 4 ≤ usdoOpen s → aborts (.usdoRequest c (.read i b off n)) 0x05040005 ∧
      aborts (.usdoRequest c (.write i b off d)) 0x05040005 ∧
      aborts (.usdoRequest c (.readBegin i b off n)) 0x05040005 ∧ aborts (.usdoRequest c (.writeBegin i b off n)) 0x05040005 ∧
      aborts (.taggedWrite c tag d) 0x05040005) ∧
    (nmtServed s = true → usdoOpen s < 4 → s.fab.req ≠ none →
      (∃ u, exec (.usdoRequest c (.read i b off n)) s = .next (finish u) ∧
        u.net = { s.net with work := s.net.work ++ [.read c i b off n false] } ∧ u.regs = s.regs ∧ u.mem = s.mem) ∧
      (i ≠ 0x2F00 → ∃ u, exec (.usdoRequest c (.write i b off d)) s = .next (finish u) ∧
        u.net = { s.net with work := s.net.work ++ [.write c 0 i b off d] } ∧
        u.regs = s.regs ∧ u.mem = s.mem)) ∧
    (nmtServed s = true → usdoOpen s < 4 →
      ∃ u, exec (.usdoRequest c (.writeBegin i b off n)) s = .next (finish u) ∧ holds [] u ∧
        mapGet? u.net.usdo (usdoFree s) = some ⟨c, i, b, off, true, [], n⟩ ∧
        u.regs = s.regs ∧ u.mem = s.mem) ∧
    (nmtServed s = true → usdoOpen s < 4 → s.fab.req = none →
      (∃ u, exec (.usdoRequest c (.read 0x1000 0 0 4)) s = .next (finish u) ∧ holds (toBytes 4 0) u ∧ u.regs = s.regs ∧ u.mem = s.mem) ∧
      (∃ u, exec (.usdoRequest c (.read 0x1018 1 0 4)) s = .next (finish u) ∧ holds (toBytes 4 0x00000B77) u ∧ u.regs = s.regs ∧
        u.mem = s.mem) ∧
      aborts (.usdoRequest c (.read 0 0 0 n)) 0x06020000 ∧ aborts (.usdoRequest c (.write 0x1018 1 0 d)) 0x06010002 ∧
      (railsOff s = false → s.rd Fd.NET_HB_PROD_TIME < 65536 →
        ∃ u, exec (.usdoRequest c (.read 0x1017 0 0 4)) s = .next (finish u) ∧ holds (toBytes 4 (s.rd Fd.NET_HB_PROD_TIME)) u ∧
          u.regs = s.regs ∧ u.mem = s.mem) ∧
      (railsOff s = false → d.length = 4 → ∃ u, exec (.usdoRequest c (.write 0x1017 0 0 d)) s = .next (finish u) ∧ holds [] u ∧
        u.rd Fd.NET_HB_PROD_TIME = ofBytes d % 65536 ∧ u.mem = s.mem) ∧
      (d.length ≠ 4 → aborts (.usdoRequest c (.write 0x1017 0 0 d)) 0x06070010) ∧
      (d.length < 9 ∨ 16 < d.length ∨ d.length ≠ 8 + ofBytes ((d.drop 5).take 1) → aborts (.taggedWrite c tag d) 0x06070010) ∧
      (9 ≤ d.length → d.length ≤ 16 → d.length = 8 + ofBytes ((d.drop 5).take 1) → tagFind s c (ofBytes (d.take 2)) = some e →
        ∃ u, exec (.taggedWrite c tag d) s = .next (finish u) ∧ holds [] u ∧
          tagFind u c (ofBytes (d.take 2)) = some { e with dup := true } ∧ u.regs = s.regs ∧
          u.mem = s.mem) ∧
      (railsOff s = false → d.length = 4 → 0 < it → it < 65536 → tagFind s c it = none →
        ∃ u, exec (.taggedWrite c tag (toBytes 2 it ++ toBytes 2 0x1017 ++ toBytes 1 0 ++ toBytes 1 4 ++ toBytes 2 0 ++ d)) s = .next (finish u) ∧ holds [] u ∧
          u.rd Fd.NET_HB_PROD_TIME = ofBytes d % 65536 ∧ tagFind u c it = some ⟨it, 0, false⟩ ∧ u.mem = s.mem)) ∧
    (nmtServed s = true → usdoOf s c j = some x →
      (x.write = false → ∃ u, exec (.usdoRequest c (.readSegment j n)) s = .next (finish u) ∧ holds (x.data.take n) u ∧ mapGet? u.net.usdo j =
        (if (x.data.drop n).isEmpty then none else some { x with data := x.data.drop n }) ∧ u.regs = s.regs) ∧
      (x.write = true → x.len < (x.data ++ d).length → ∃ u, exec (.usdoRequest c (.writeSegment j d)) s = .next (finish u) ∧
        u.net.usdoAbort = 0x06070010 ∧ mapGet? u.net.usdo j = none ∧ u.regs = s.regs ∧ u.mem = s.mem) ∧
      (x.write = true → (x.data ++ d).length < x.len → ∃ u, exec (.usdoRequest c (.writeSegment j d)) s = .next (finish u) ∧ holds [] u ∧
        mapGet? u.net.usdo j = some { x with data := x.data ++ d } ∧ u.regs = s.regs ∧ u.mem = s.mem) ∧
      (∃ u, exec (.usdoRequest c (.abort j)) s = .next (finish u) ∧ mapGet? u.net.usdo j = none ∧ u.regs = s.regs ∧ u.mem = s.mem)) ∧
    (mapGet? s.net.usdo j = some x → ∃ u, exec (.usdoTimeout j) s = .next (finish u) ∧ mapGet? u.net.usdo j = none ∧
      (nmtServed s = true → u.net.usdoAbort = 0x05040000 ∧ u.net.usdoData = []) ∧ (nmtServed s = false → u.net.usdoAbort = s.net.usdoAbort) ∧
      u.regs = s.regs ∧ u.mem = s.mem) ∧
    (mapGet? s.net.usdo j = none → exec (.usdoTimeout j) s = .next (finish s))

/-- With the sys clock: PDOs and SYNC act only while the NMT state is Operational; a received PDO shorter than its mapping sets PDO_LEN and
queues EMCY 0x8210, one of a synchronous type waits for its SYNC, and another writes its mapped entries, waiting while an access is in
progress, as a TPDO to be sent does; a TPDO of type 254 or 255 whose event timer runs sends its sampled entries, or is held until its
inhibit time (unit 100 µs: PRESUMED, log entry 77) has passed, one of type 0 waits for a SYNC, and a change of value that is none sends
nothing; a SYNC captures its time, raises source 393 and counts; the produced SYNC, one in every period, carries its counter where the
overflow value is set; a heartbeat carries the NMT state, one in every producer time. An event timer, a SYNC period or a producer time
that has not passed since the last frame sends nothing (log entry 79). (R286, R288, R289, R290) -/
def Obligations.PdosAndSync : Prop :=
  ∀ (s : State) (n i b k : Nat) (d : List Byte) (late : List Nat), sysOn s = true →
    let quiet : Prop := s.net.rpdo = [] ∧ ∀ j, j < 64 → pdoOn s true j = false
    let s0 : State := { s with net := { s.net with tx := [] } }
    let cob : Nat := winVal s (pdoWin true n).par % 2 ^ 11
    (driving s.mode = false → exec (.rpdo n d) s = .next (finish s) ∧ exec (.tpdo n true) s = .next (finish s) ∧
      exec (.tpdo n false) s = .next (finish s) ∧ exec (.sync late) s = .next (finish s) ∧ exec (.syncProduce late) s = .next (finish s)) ∧
    (driving s.mode = true →
      (pdoOn s false n = false → exec (.rpdo n d) s = .next (finish s)) ∧
      (pdoOn s false n = true → d.length < pdoLen s false n → ∃ u, exec (.rpdo n d) s = .next (finish u) ∧ u.rd Fd.NET_STAT_PDO_LEN = 1 ∧
        u.net.emcy = s.net.emcy ++ [⟨0x8210, Blk.net, 11, s.now, (s.rd Fd.NET_ERR_REG_ER ||| 2 ^ emcyBit 0x8210 ||| 1) % 256⟩] ∧
          u.net.rpdo = s.net.rpdo ∧ u.mem = s.mem) ∧
      (pdoOn s false n = true → pdoLen s false n ≤ d.length → pdoType s false n ≤ 240 → ∃ u, exec (.rpdo n d) s = .next (finish u) ∧
        mapGet? u.net.rpdo n = some d ∧ u.regs = s.regs ∧ u.mem = s.mem) ∧
      (pdoOn s false n = true → pdoLen s false n ≤ d.length → 240 < pdoType s false n → pdoMap s false n = [(i, b, 8 * k)] →
        s.fab.req = none →
        exec (.rpdo n d) s = .next (finish (dictWrite1 128 0 i b 0 (d.take k) s).2)) ∧
      (pdoOn s false n = true → pdoLen s false n ≤ d.length → 240 < pdoType s false n → s.fab.req ≠ none → s.net.work = [] →
        exec (.rpdo n d) s = .next (finish { s with net := { s.net with work := [.rpdo n d] } })) ∧
      (pdoOn s true n = false → exec (.tpdo n true) s = .next (finish s) ∧ exec (.tpdo n false) s = .next (finish s)) ∧
      (tpdoTimeUp s n = false → exec (.tpdo n true) s = .next (finish s)) ∧
      (pdoOn s true n = true → tpdoTimeUp s n = true →
        (254 ≤ pdoType s true n → tpdoInhibited s n = true → ∃ u, exec (.tpdo n true) s = .next (finish u) ∧
          u.net.tpdoHeld.contains n = true ∧ u.net.tx = s.net.tx ∧ u.regs = s.regs) ∧
        (254 ≤ pdoType s true n → tpdoInhibited s n = false → s.fab.req ≠ none → s.net.work = [] →
          exec (.tpdo n true) s = .next (finish { s0 with net := { s0.net with work := [.tpdo n] } })) ∧
        (254 ≤ pdoType s true n → tpdoInhibited s n = false → s.fab.req = none → sampleMap (pdoMap s true n) s0 = (d, s0) →
          ∃ u, exec (.tpdo n true) s = .next (finish u) ∧ u.net.tx = [fdFrame s cob d] ∧ mapGet? u.net.sample n = some d ∧
          mapGet? u.net.tpdoAt n = some s.now ∧ u.regs = s.regs ∧ u.mem = s.mem) ∧
        (pdoType s true n = 0 → ∃ u, exec (.tpdo n true) s = .next (finish u) ∧ u.net.tpdoDue.contains n = true ∧ u.net.tx = s.net.tx ∧
          u.regs = s.regs)) ∧
      (pdoOn s true n = true → mapGet? s.net.sample n = some (sampleMap (pdoMap s true n) s0).1 →
        exec (.tpdo n false) s = .next (finish s)) ∧
      (quiet → ∃ u, exec (.sync late) s = .next (finish u) ∧ u.rd Fd.NET_SYNC_TIME_TIME = s.now % 2 ^ 64 ∧
        u.net.syncCnt = s.net.syncCnt + 1 ∧ u.net.tx = [] ∧ u.mem = s.mem) ∧
      (s.rd Fd.NET_SYNC_COBID_GEN = 0 ∨ s.rd Fd.NET_SYNC_PERIOD_PERIOD = 0 ∨
        periodOver s s.net.syncAt (s.rd Fd.NET_SYNC_PERIOD_PERIOD * 250) = false →
        exec (.syncProduce late) s = .next (finish s)) ∧
      (quiet → s.rd Fd.NET_SYNC_COBID_GEN = 1 → s.rd Fd.NET_SYNC_PERIOD_PERIOD ≠ 0 →
        periodOver s s.net.syncAt (s.rd Fd.NET_SYNC_PERIOD_PERIOD * 250) = true →
        ∃ u, exec (.syncProduce late) s = .next (finish u) ∧ u.net.syncAt = some s.now ∧ u.net.syncCnt = s.net.syncCnt + 1 ∧
          u.rd Fd.NET_SYNC_TIME_TIME = s.now % 2 ^ 64 ∧ u.net.tx = [fdFrame s (s.rd Fd.NET_SYNC_COBID_ID)
            (if s.rd Fd.NET_SYNC_OVF_OVF = 0 then [] else toBytes 1 (s.net.syncCnt % s.rd Fd.NET_SYNC_OVF_OVF + 1))])) ∧
    (nmtServed s = false ∨ s.rd Fd.NET_HB_PROD_TIME = 0 ∨ periodOver s s.net.hbAt (s.rd Fd.NET_HB_PROD_TIME * 250000) = false →
      exec .heartbeatProduce s = .next (finish s)) ∧
    (nmtServed s = true → s.rd Fd.NET_HB_PROD_TIME ≠ 0 → periodOver s s.net.hbAt (s.rd Fd.NET_HB_PROD_TIME * 250000) = true →
      ∃ u, exec .heartbeatProduce s = .next (finish u) ∧ u.net.hbAt = some s.now ∧
      u.net.tx = [fdFrame s (0x700 + s.net.node) (toBytes 1 s.net.nmt)] ∧ u.regs = s.regs ∧ u.mem = s.mem)

/-- With the sys clock: a heartbeat restarts the consumer entries that watch its node; a late entry sets HB_TMO, queues EMCY 0x8130 and
reacts by 0x1029; bus-off, its recovery, error passive and overrun set or clear their status bits, count, and queue EMCY 0x8140, 0x8120
and 0x8110 with the error register of their own cause (log entry 53); EMCY_TRANSMIT sends the oldest message once the inhibit time has
passed where its COB-ID is valid and puts its code first in the history; by the parameters of EN 50325-5 (log entry 29), a received
SRDO whose frames are not inverse, or too short, is faulty: SRDO_FAULT, input 33; a valid one mapped to RUN_ENABLE writes it, and 1
ends the run-enable wait, 0 raises input 34; a normal frame that came alone waits for its inverse (an empty inverse operand: the
model's form, log entry 79); a transmit SRDO sends its data and the inverse once SCT has passed since it was last sent; a receive
SRDO's time-out is a fault once SRVT has passed since a lone normal frame, or SCT since the last normal frame or the entry to
Operational, and does nothing before. (R285, R291, R292, R293, R354) -/
def Obligations.LinesEmergenciesAndSrdos : Prop :=
  ∀ (s : State) (node i l n : Nat) (e : Emcy) (rest : List Emcy) (d inv : List Byte) (b : Byte), sysOn s = true → i < 8 → l < 2 → n < 8 →
    let queued : State → Nat → Nat →
      Prop := fun u code det => u.net.emcy = s.net.emcy ++ [⟨code, Blk.net, det, s.now, (s.rd Fd.NET_ERR_REG_ER ||| 2 ^ emcyBit code ||| 1) % 256⟩]
    let off : Fld := if l = 0 then Fd.NET_STAT_BUS_OFF0 else Fd.NET_STAT_BUS_OFF1
    let passive : Fld := if l = 0 then Fd.NET_STAT_PASSIVE0 else Fd.NET_STAT_PASSIVE1
    (nmtServed s = false → exec (.heartbeatReceive node) s = .next (finish s) ∧ exec (.heartbeatTimeout i) s = .next (finish s) ∧
      exec (.busOff l) s = .next (finish s) ∧ exec (.receiveOverrun l) s = .next (finish s)) ∧
    (nmtServed s = true →
      (s.rd (Fd.NET_HB_CONS_TIME i) ≠ 0 → ∃ u, exec (.heartbeatReceive (s.rd (Fd.NET_HB_CONS_NODE i))) s = .next (finish u) ∧
        mapGet? u.net.hbAlive i = some s.now ∧ u.regs = s.regs) ∧
      (s.rd (Fd.NET_HB_CONS_TIME i) = 0 ∨ hbLate s i = false → exec (.heartbeatTimeout i) s = .next (finish s)) ∧
      (s.rd (Fd.NET_HB_CONS_TIME i) ≠ 0 → hbLate s i = true →
        (s.rd Fd.NET_ERR_BEH_COMM = 1 → ∃ u, exec (.heartbeatTimeout i) s = .next (finish u) ∧ u.rd Fd.NET_STAT_HB_TMO = 1 ∧
          queued u 0x8130 6 ∧ u.mode = s.mode) ∧
        (s.rd Fd.NET_ERR_BEH_COMM = 2 → safeReqFrom s = true → ∃ u, exec (.heartbeatTimeout i) s = .next (finish u) ∧
          u.rd Fd.NET_STAT_HB_TMO = 1 ∧ u.mode = Md.safe) ∧
        (s.rd Fd.NET_ERR_BEH_COMM = 0 → driving s.mode = true → s.rd Fd.SYS_MODE_REQ_BUSY = 0 →
          ∃ u, exec (.heartbeatTimeout i) s = .next (finish u) ∧ u.rd Fd.NET_STAT_HB_TMO = 1 ∧ u.sys.toStandby = true)) ∧
      (∃ u, exec (.busOff l) s = .next (finish u) ∧ u.rd off = 1 ∧
        u.rd (Fd.NET_CAN_CNT_BUS_OFFS l) = min 65535 (s.rd (Fd.NET_CAN_CNT_BUS_OFFS l) + 1) ∧ u.net = s.net) ∧
      (s.rd passive = 0 → ∃ u, exec (.errorPassive l true) s = .next (finish u) ∧ u.rd passive = 1 ∧ queued u 0x8120 (4 + l)) ∧
      (s.rd passive = 1 → exec (.errorPassive l true) s = .next (finish s)) ∧
      (∃ u, exec (.errorPassive l false) s = .next (finish u) ∧ u.rd passive = 0 ∧ u.net = s.net) ∧
      (∃ u, exec (.receiveOverrun l) s = .next (finish u) ∧ u.rd Fd.NET_STAT_RX_OVR = 1 ∧ queued u 0x8110 10 ∧
        u.rd (Fd.NET_CAN_CNT_RX_LOST l) = min (2 ^ 32 - 1) (s.rd (Fd.NET_CAN_CNT_RX_LOST l) + 1)) ∧
      (emcyInhibited s = true → exec .emcyTransmit s = .next (finish s)) ∧
      (s.net.emcy = e :: rest → emcyInhibited s = false → s.rd Fd.NET_EMCY_COBID_INVALID = 0 →
        ∃ u, exec .emcyTransmit s = .next (finish u) ∧ u.net.emcy = rest ∧
        u.net.emcyAt = some s.now ∧ u.net.tx = [fdFrame s (s.rd Fd.NET_EMCY_COBID_ID) (emcyBytes e)] ∧
        (e.code ≠ 0 → u.rd (Fd.NET_ERR_HIST_CODE 0) = e.code % 65536 ∧
          u.rd (Fd.NET_ERR_HIST_CODE 1) = s.rd (Fd.NET_ERR_HIST_CODE 0) % 65536 ∧
          u.rd Fd.NET_ERR_HIST_CNT_COUNT = min 16 (s.rd Fd.NET_ERR_HIST_CNT_COUNT + 1)))) ∧
    (s.net.emcy = [] → exec .emcyTransmit s = .next (finish s)) ∧
    (s.rd off = 0 → exec (.busOffRecovery l) s = .next (finish s)) ∧
    (s.rd off = 1 → s.rd Fd.NET_ERR_BEH_COMM = 1 → ∃ u, exec (.busOffRecovery l) s = .next (finish u) ∧ u.rd off = 0 ∧
      (l = 0 → queued u 0x8140 2) ∧ (l = 1 → u.net = s.net)) ∧
    (srdoOn s 2 n = false → exec (.srdoReceive n d inv) s = .next (finish s) ∧ exec (.srdoTimeout n) s = .next (finish s)) ∧
    (srdoLate s n = false → exec (.srdoTimeout n) s = .next (finish s)) ∧
    (srdoOn s 2 n = true →
      let faulted : State → Prop := fun u => u.rd Fd.NET_STAT_SRDO_FAULT = 1 ∧
        u.saf.due.contains 33 = true ∧ u.net.srdoFault.contains n = true ∧ queued u 0xFF07 7 ∧ u.mem = s.mem
      (srdoSct s n ≤ s.now - srdoLast s n → ∃ u, exec (.srdoTimeout n) s = .next (finish u) ∧ faulted u) ∧
      (∀ a, mapGet? s.net.srdoHalf n = some a → srdoSrvt s n ≤ s.now - a → ∃ u, exec (.srdoTimeout n) s = .next (finish u) ∧ faulted u) ∧
      (d ≠ [] → ∃ u, exec (.srdoReceive n d []) s = .next (finish u) ∧ mapGet? u.net.srdoHalf n = some s.now ∧ srdoLast u n = s.now ∧
        u.regs = s.regs ∧ u.mem = s.mem) ∧
      (inv ≠ [] ∨ d = [] → d.length ≠ inv.length ∨ inv.map (fun x => ~~~x) ≠ d ∨ d.length < ((srdoMap s n).map (fun x => x.2.2 / 8)).sum →
        (∃ u, exec (.srdoReceive n d inv) s = .next (finish u) ∧ faulted u)) ∧
      (srdoMap s n = [(0x2901, 1, 8)] → s.fab.req = none → ∃ u, exec (.srdoReceive n [b] [~~~b]) s = .next (finish u) ∧
        u.rd Fd.SAF_SRDO_IN_RUN_ENABLE = b.toNat % 2 ∧ u.net.srdoFault.contains n = false ∧
        mapGet? u.net.srdoHalf n = none ∧ srdoLast u n = s.now ∧
        (b.toNat % 2 = 1 → u.saf.runWait = false) ∧ (b.toNat % 2 = 0 → u.saf.due.contains 34 = true))) ∧
    (srdoOn s 1 n = false ∨ srdoIsDue s n = false → exec (.srdoTransmit n) s = .next (finish s)) ∧
    (srdoOn s 1 n = true → srdoIsDue s n = true → s.fab.req = none →
      sampleMap (srdoMap s n) { s with net := { s.net with tx := [] } } = (d, { s with net := { s.net with tx := [] } }) →
        ∃ u, exec (.srdoTransmit n) s = .next (finish u) ∧
      u.regs = s.regs ∧ mapGet? u.net.srdoAt n = some s.now ∧
      u.net.tx = [⟨(if s.net.line1 then 1 else 0), netWin0 s (0xA000 + 0x20 * n + 0x10) % 2 ^ 11, d, false, false⟩,
        ⟨(if s.net.line1 then 1 else 0), netWin0 s (0xA000 + 0x20 * n + 0x14) % 2 ^ 11, d.map (fun x => ~~~x), false, false⟩])

/-- On a clocked device (for CLAIM, COMPLETE and the pending writes, with the sys clock): an existing edge source becomes PENDING from idle
where its PRIO is not 0 and ACTIVE-PENDING from ACTIVE, counting a refire; a level source becomes PENDING from idle while its level is
asserted. CLAIM answers 0 and counts EMPTY where nothing is deliverable to the target, and otherwise the deliverable source of highest
PRIO, the lowest number among equals where the source table is in order, which becomes ACTIVE for the target. COMPLETE by the claiming
target makes an ACTIVE source idle, or PENDING again while its level is asserted, and an ACTIVE-PENDING one PENDING; any other is
counted in BAD_COMPLETES. A 1 in IRQ_PEND takes away a pending state, except of an asserted level; a 1 in IRQ_PEND_SET adds it. The
timer of a target sets RELEASED where it runs and its time has passed. The order of the source table is kept by each. (R303, R304,
R305, R306, R307, R310, Table 13.2) -/
def Obligations.InterruptSourcesAndTargets : Prop :=
  ∀ (s : State) (i t u j : Nat) (level : Bool), clocked s = true → t < 8 → u < 8 →
    let mode : State → Option IrqSrc := fun v => mapGet? v.irq.src i
    let goes : State → Option IrqSrc → Prop := fun v x => mode v = x ∧
      (mapWf s.irq.src = true → mapWf v.irq.src = true) ∧ (∀ k, k ≠ i → mapGet? v.irq.src k = mapGet? s.irq.src k) ∧
      v.mem = s.mem ∧ v.que = s.que
    let counts : Instr → Fld → Prop := fun c f => exec c s = .next (finish (s.incSat f))
    let edge := irqExists i = true ∧ irqIsLevel i = false
    let prio := s.rd (Fd.IRQ_SRC_CFG_PRIO i)
    let held := irqIsLevel i = true ∧ irqLevel s i = true
    (edge → prio ≠ 0 → mode s = none → ∃ v, exec (.irqSourceEvent i true) s = .next (finish v) ∧ goes v (some ⟨.pending, 0⟩)) ∧
    (edge → prio = 0 → mode s = none → exec (.irqSourceEvent i true) s = .next (finish s)) ∧
    (edge → mode s = some ⟨.active, t⟩ → ∃ v, exec (.irqSourceEvent i true) s = .next (finish v) ∧ goes v (some ⟨.activePending, t⟩)) ∧
    (edge → exec (.irqSourceEvent i false) s = .next (finish s)) ∧
    (irqIsLevel i = true → (i < 320 ∨ 384 ≤ i) → prio ≠ 0 → mode s = none → irqLevel s i = true →
      ∃ v, exec (.irqSourceEvent i level) s = .next (finish v) ∧ goes v (some ⟨.pending, 0⟩)) ∧
    (320 ≤ i → i < 384 → prio ≠ 0 → mode s = none → ∃ v, exec (.irqSourceEvent i true) s = .next (finish v) ∧ goes v (some ⟨.pending, 0⟩)) ∧
    (320 ≤ i → i < 384 → mode s = none → ∃ v, exec (.irqSourceEvent i false) s = .next (finish v) ∧ goes v none) ∧
    (sysOn s = true →
      (irqDeliv s t = [] → exec (.claim t) s = .next (finish ((s.incSat (Fd.IRQ_TGT_CNT_EMPTY t)).ret 0))) ∧
      (0 ∉ irqDeliv s t → irqDeliv s t ≠ [] → ∃ (v : State) (n : Nat), exec (.claim t) s = .next (finish (v.ret n)) ∧ n ∈ irqDeliv s t ∧
        (∀ k, k ∈ irqDeliv s t → s.rd (Fd.IRQ_SRC_CFG_PRIO k) ≤ s.rd (Fd.IRQ_SRC_CFG_PRIO n) ∧
          (mapWf s.irq.src = true → s.rd (Fd.IRQ_SRC_CFG_PRIO k) = s.rd (Fd.IRQ_SRC_CFG_PRIO n) → n ≤ k)) ∧
        mapGet? v.irq.src n = some ⟨.active, t⟩ ∧ (∀ k, k ≠ n → mapGet? v.irq.src k = mapGet? s.irq.src k) ∧
        (mapWf s.irq.src = true → mapWf v.irq.src = true) ∧
        (irqM s s.irq.src u ≠ 0 → irqM s v.irq.src u = 0 → s.irq.flushed = false → v.rd (Fd.IRQ_TGT_STAT_RELEASED u) = 0)) ∧
      (mode s = some ⟨.active, t⟩ → ¬held → ∃ v, exec (.complete t i) s = .next (finish v) ∧ goes v none) ∧
      (mode s = some ⟨.active, t⟩ → held → ∃ v, exec (.complete t i) s = .next (finish v) ∧ goes v (some ⟨.pending, 0⟩)) ∧
      (mode s = some ⟨.activePending, t⟩ → ∃ v, exec (.complete t i) s = .next (finish v) ∧ goes v (some ⟨.pending, 0⟩)) ∧
      (mode s = none ∨ (∃ n, mode s = some ⟨.pending, n⟩) ∨ (u ≠ t ∧ (mode s = some ⟨.active, u⟩ ∨ mode s = some ⟨.activePending, u⟩)) →
        counts (.complete t i) (Fd.IRQ_TGT_CNT_BAD_COMPLETES t)) ∧
      (mode s = some ⟨.pending, j⟩ → ¬held → ∃ v, exec (.pendClear i) s = .next (finish v) ∧ goes v none) ∧
      (mode s = some ⟨.pending, j⟩ → held → exec (.pendClear i) s = .next (finish s)) ∧
      (mode s = some ⟨.activePending, t⟩ → ∃ v, exec (.pendClear i) s = .next (finish v) ∧ goes v (some ⟨.active, t⟩)) ∧
      (mode s = none ∨ mode s = some ⟨.active, t⟩ → exec (.pendClear i) s = .next (finish s)) ∧
      (irqExists i = true → prio ≠ 0 → mode s = none → ∃ v, exec (.pendSet i) s = .next (finish v) ∧ goes v (some ⟨.pending, 0⟩)) ∧
      (irqExists i = true → prio ≠ 0 → mode s = some ⟨.active, t⟩ → ∃ v, exec (.pendSet i) s = .next (finish v) ∧
        goes v (some ⟨.activePending, t⟩)) ∧
      (prio = 0 → exec (.pendSet i) s = .next (finish s))) ∧
    (s.rd (Fd.IRQ_TGT_STAT_TIMER_RUN t) = 1 → irqTimerOver s t = true → ∃ v, exec (.moderationTimer t) s = .next (finish v) ∧
      v.rd (Fd.IRQ_TGT_STAT_RELEASED t) = 1 ∧ v.rd (Fd.IRQ_TGT_STAT_TIMER_RUN t) = 0 ∧
      RegsOnly [Fd.IRQ_TGT_STAT_RELEASED t, Fd.IRQ_TGT_STAT_TIMER_RUN t] s v) ∧
    (s.rd (Fd.IRQ_TGT_STAT_TIMER_RUN t) = 0 ∨ irqTimerOver s t = false → exec (.moderationTimer t) s = .next (finish s))

/-- With the sys clock (LOG_WRITE with the engine clock): LOG_WRITE takes the request at the head of the queue into the slot of LOG_NSEQ,
with time, SEQ, data and CRC, and LOG_NSEQ moves on; a full log overwrites its oldest entry with LOG_RSEQ moved and OVERWRITTEN set, or
with STOP_FULL refuses the request and counts it; the entry of a bank supply lost in sleep waits for the wake (log entry 79). An entry
leaves no export behind unless AUTO_EXPORT is on, which starts one with 256 entries waiting. LOG_USER makes a request with its value as
CODE and DETAIL, from a fabric master it sets CFG_REFUSED alone, and from one that is not served nothing; LOG_RSEQ takes a value with
at most 4,096 entries unread and refuses another. QUAL_ACK clears quality and uncertainty. A read of LOG_TIME answers the low word and
captures the high one. EXPORT starts with BUSY, or is answered BUSY, REFUSED_MODE or ORDER, no interrupt then; an abort marks the
export, which then ends after its page in progress, INCOMPLETE unless that was the last; EXPORT_DONE waits while the array is taken,
clears BUSY, and with no entries waiting, or one page of them that its page takes, ends OK with ESEQ at the end. A switch of the
always-on source, with or without the engine clock, records the source, sets SRC_CHANGED and breaks a bridge in progress. (R311, R312,
R313, R314, R315, R317, R318, R320, R44) -/
def Obligations.LogEntriesAndPositions : Prop :=
  ∀ (s : State) (v master : Nat) (r : LogReq) (rest : List LogReq) (e : ExportSt) (stop : Option Nat) (rc : Bool),
    (s.rd Fd.LOG_AON_SRC ≠ (if rc then 1 else 0) → ∃ u, exec (.aonSourceSwitch rc) s = .next (finish u) ∧
      u.rd Fd.LOG_AON_SRC = (if rc then 1 else 0) ∧ u.rd Fd.LOG_AON_SRC_CHANGED = 1 ∧ u.rd Fd.LOG_AON_COUNT = s.rd Fd.LOG_AON_COUNT ∧
      u.log = { s.log with bridge := s.log.bridge.map (fun b => { b with broken := true }) } ∧ u.mem = s.mem ∧ u.mode = s.mode) ∧
    (s.rd Fd.LOG_AON_SRC = (if rc then 1 else 0) → exec (.aonSourceSwitch rc) s = .next (finish s)) ∧
    (let seq := s.rd Fd.LOG_NSEQ_NSEQ
     (engOn s = true →
      (s.rd Fd.LOG_CFG_AUTO_EXPORT = 0 → s.log.queue = [] ∨ logWaits s = true → exec .logWrite s = .next (finish s)) ∧
      (s.rd Fd.LOG_CFG_AUTO_EXPORT = 1 → s.log.queue = [] → s.log.exp = none → s.rd Fd.LOG_EXPORT_STAT_BUSY = 0 →
        s.rd Fd.LOG_EXPORT_CFG_EN = 1 →
        uflMode s = true → 256 ≤ (seq + 2 ^ 32 - s.rd Fd.LOG_EXPORT_STAT_ESEQ) % 2 ^ 32 → ∃ u, exec .logWrite s = .next (finish u) ∧
        u.rd Fd.LOG_EXPORT_STAT_BUSY = 1 ∧ u.log = { s.log with exp := some ⟨seq, 0, false⟩ } ∧ u.mem = s.mem) ∧
      (logWaits s = false → s.log.queue = r :: rest → s.log.lost = 0 → s.plainMem → seq < 2 ^ 32 - 1 → s.rd Fd.LOG_CFG_STOP_FULL = 0 ∨
        logUnread s < 4096 →
        ∃ u, exec .logWrite s = .next (finish u) ∧ u.log.queue = rest ∧ u.rd Fd.LOG_NSEQ_NSEQ = seq + 1 ∧
          (∀ k, k < 4 → some (u.mdata 13 (logSlot seq + k)) = (logWords s r seq)[k]?.map BitVec.toNat) ∧
          (∀ m i, i < 2 ^ 32 → m ≠ 13 ∨ i < logSlot seq ∨ logSlot seq + 4 ≤ i → u.mdata m i = s.mdata m i) ∧
          (4096 ≤ logUnread s → u.rd Fd.LOG_RSEQ_RSEQ = (s.rd Fd.LOG_RSEQ_RSEQ + 1) % 2 ^ 32 ∧ u.rd Fd.LOG_STAT_OVERWRITTEN = 1) ∧
          (logUnread s < 4096 → u.rd Fd.LOG_RSEQ_RSEQ = s.rd Fd.LOG_RSEQ_RSEQ)) ∧
      (logWaits s = false → s.log.queue = r :: rest → s.rd Fd.LOG_CFG_AUTO_EXPORT = 0 → s.rd Fd.LOG_CFG_STOP_FULL = 1 →
        4096 ≤ logUnread s → ∃ u, exec .logWrite s = .next (finish u) ∧
        u.log = { s.log with queue := rest, lost := s.log.lost + 1 } ∧ u.rd Fd.LOG_STAT_REFUSED = 1 ∧ u.mem = s.mem ∧
        u.rd Fd.LOG_NSEQ_NSEQ = seq)) ∧
     (sysOn s = true →
      (masterServed s master = false → exec (.logUser v master) s = .next (finish s)) ∧
      (masterServed s master = true → isFabric master = true → exec (.logUser v master) s = .next (finish (s.set1 Fd.LOG_STAT_CFG_REFUSED))) ∧
      (isFabric master = false → s.log.queue.length < 16 → ∃ u, exec (.logUser v master) s = .next (finish u) ∧
        u.log = { s.log with queue := s.log.queue ++ [⟨s.now, 0, v % 256, v / 256 % 2 ^ 32, v / 2 ^ 40 % 2 ^ 24, 0⟩] } ∧ u.mem = s.mem ∧
        RegsOnly [Fd.LOG_USER_CODE, Fd.LOG_USER_DETAIL] { s with log := u.log } u) ∧
      ((seq + 2 ^ 32 - v % 2 ^ 32) % 2 ^ 32 ≤ 4096 → ∃ u, exec (.rseqWrite v) s = .next (finish u) ∧ u.rd Fd.LOG_RSEQ_RSEQ = v % 2 ^ 32 ∧
        u.log = s.log ∧ u.mem = s.mem) ∧
      (4096 < (seq + 2 ^ 32 - v % 2 ^ 32) % 2 ^ 32 → exec (.rseqWrite v) s = .next (finish (s.set1 Fd.LOG_STAT_CFG_REFUSED))) ∧
      (∃ u, exec .qualAck s = .next (finish u) ∧ u.rd Fd.LOG_TIME_QUAL_QUAL = 0 ∧ u.rd Fd.LOG_TIME_QUAL_UNCERT = 0 ∧
        RegsOnly [Fd.LOG_TIME_QUAL_QUAL, Fd.LOG_TIME_QUAL_UNCERT] s u) ∧
      exec .logTimeRead s = .next (finish ({ s with log := { s.log with timeHi := s.now / 2 ^ 32 } }.ret (s.now % 2 ^ 32))) ∧
      (let refuse : Nat → Prop := fun st => exec .logExport s = .next (finish (s.wr Fd.LOG_EXPORT_STAT_STATUS st))
       (s.rd Fd.LOG_EXPORT_STAT_BUSY = 1 → refuse 1) ∧
       (s.rd Fd.LOG_EXPORT_STAT_BUSY = 0 → uflMode s = false → refuse 2) ∧
       (s.rd Fd.LOG_EXPORT_STAT_BUSY = 0 → uflMode s = true → s.rd Fd.LOG_EXPORT_CFG_EN = 0 → refuse 4) ∧
       (s.rd Fd.LOG_EXPORT_STAT_BUSY = 0 → uflMode s = true → s.rd Fd.LOG_EXPORT_CFG_EN = 1 →
         ∃ u, exec .logExport s = .next (finish u) ∧ u.rd Fd.LOG_EXPORT_STAT_BUSY = 1 ∧ u.log.exp = some ⟨seq, 0, false⟩)) ∧
      (s.log.exp = some e → exec .exportAbort s = .next (finish { s with log := { s.log with exp := some { e with abort := true } } })) ∧
      (s.log.exp = none → exec .exportAbort s = .next (finish s) ∧ exec (.exportDone stop) s = .next (finish s)) ∧
      (s.log.exp = some e → s.rd Fd.UFL_CMD_STAT_BUSY = 1 ∨ s.rd Fd.UFL_STAT_STORE_BUSY = 1 → exec (.exportDone stop) s = .next (finish s)) ∧
      (s.log.exp = some e → s.rd Fd.UFL_CMD_STAT_BUSY = 0 → s.rd Fd.UFL_STAT_STORE_BUSY = 0 →
        ∃ u, exec (.exportDone stop) s = .next (finish u) ∧ u.rd Fd.LOG_EXPORT_STAT_BUSY = 0 ∧ u.log.exp = none ∧
        (s.rd Fd.LOG_EXPORT_STAT_ESEQ = e.last → seq = e.last → e.last < 2 ^ 32 → u.rd Fd.LOG_EXPORT_STAT_STATUS = 0 ∧ u.ufl = s.ufl) ∧
        (∀ n, 1 ≤ n → n ≤ 16 → stop = none → seq = e.last → e.last < 2 ^ 32 → s.rd Fd.LOG_EXPORT_STAT_ESEQ + n = e.last →
          (exportPut (s.rd Fd.LOG_EXPORT_STAT_ESEQ) n s).1 = 0 → u.rd Fd.LOG_EXPORT_STAT_STATUS = 0 ∧
            u.rd Fd.LOG_EXPORT_STAT_ESEQ = e.last ∧ u.ufl = (exportPut (s.rd Fd.LOG_EXPORT_STAT_ESEQ) n s).2.ufl) ∧
        (∀ n, 16 < n → n ≤ 4096 → e.abort = true → stop = none → seq = e.last → e.last < 2 ^ 32 → s.rd Fd.LOG_EXPORT_STAT_ESEQ + n = e.last →
          (exportPut (s.rd Fd.LOG_EXPORT_STAT_ESEQ) 16 s).1 = 0 → u.rd Fd.LOG_EXPORT_STAT_STATUS = 10 ∧
            u.rd Fd.LOG_EXPORT_STAT_ESEQ + n = e.last + 16 ∧ u.ufl = (exportPut (s.rd Fd.LOG_EXPORT_STAT_ESEQ) 16 s).2.ufl))))

/-- In a live device past start-up, a raised fault input is latched in SAF_FAULT and logged, SAF_FIRST takes input, class, mode and time
where it was empty, and the latch keeps the class it was made with; of class SAFE it leads from SELFTEST, STANDBY, RUN and LIMITED to
SAFE with its block as last cause and the pins safe, of class LIMITED from RUN to LIMITED, and of class REPORT it changes no mode.
Reserved inputs do nothing. A 1 written to SAF_FAULT clears the bit of an inactive input only; SAF_LOCK is taken once. Monitor trips
raise 36 and 37, a failed path test 44, a readback that differs 39; rails and clocks within their windows and a passed test end them,
and 39 stays active while either path last read back another level (log entry 79); without VCCIO6 no readback is judged. GRACE_EXPIRY,
GRACE after the entry to LIMITED, lets the speed check begin in LIMITED. A watchdog kick in its window with the right key restarts the
count, one before the window opens or a wrong key is a watchdog fault and raises 38, as an expiry does at CLOSE, be it found by the
kick (the count within ±5 % of the time passed: log entry 77); a fabric master's kick, where it is served, only sets WDG_FAB; OPEN
reached opens the window. (R343, R344, R345, R346, R347, R348, R350, R351, R352, R353) -/
def Obligations.SafetyInputsActByClass : Prop :=
  ∀ (s : State) (i mask v key master path : Nat) (level : Bool), clocked s = true →
    let bit : State → Fld → Nat → Bool := fun u f k => (u.rd f).testBit k
    let due : State → Nat → Prop := fun u k => k ∈ u.saf.due ∧ u.mode = s.mode ∧ u.mem = s.mem
    let passed : State → Nat → Prop := fun u k => RegsOnly [Fd.SAF_ACTIVE_ACTIVE] s u ∧
      ∀ j, j < 64 → bit u Fd.SAF_ACTIVE_ACTIVE j = (bit s Fd.SAF_ACTIVE_ACTIVE j && j != k)
    let fault : State → Nat → Prop := fun u n => 38 ∈ u.saf.due ∧ u.saf.wdgRun = false ∧
      u.rd Fd.SAF_WDG_STAT_LAST_FAULT = n ∧ u.rd Fd.SAF_CNT_WDG = min (s.rd Fd.SAF_CNT_WDG + 1) 65535
    (i = 6 ∨ i = 7 ∨ 45 ≤ i → exec (.faultInput i) s = .next (finish s)) ∧
    (i ≠ 6 → i ≠ 7 → i < 45 → exec (.faultInput i) s = .next (finish (safRaise i s)) ∧
      (s.live = true → s.sys.phase = .over → ∃ t, exec (.faultInput i) s = .next t ∧ bit t Fd.SAF_FAULT_LATCHED i = true ∧
        (s.rd Fd.SAF_FIRST_VALID = 0 → t.rd Fd.SAF_FIRST_VALID = 1 ∧ t.rd Fd.SAF_FIRST_INPUT = i ∧
          t.rd Fd.SAF_FIRST_CLASS = safClassOf s i ∧ t.rd Fd.SAF_FIRST_MODE = s.mode % 8 ∧ t.rd Fd.SAF_FIRST_TIME = s.now % 2 ^ 32) ∧
        (s.log.queue.length < 16 → ⟨s.now, Blk.saf, 0x02, i, safClassOf s i, s.mode⟩ ∈ t.log.queue) ∧
        (safClassOf s i = 2 → s.mode = Md.selftest ∨ s.mode = Md.standby ∨ driving s.mode = true →
          t.mode = Md.safe ∧ t.pinsSafe = true ∧ safePinsLow t = true ∧ t.rd Fd.SYS_MODE_LAST_CAUSE = safOrigin i) ∧
        (safClassOf s i = 1 → driving s.mode = true → t.mode = Md.limited) ∧ (safClassOf s i = 2 → t.saf.safeBits.testBit i = true) ∧
        (safClassOf s i = 1 → t.saf.limBits.testBit i = true) ∧
        (safClassOf s i = 0 → t.mode = s.mode ∧ t.que = s.que ∧ t.chn = s.chn ∧ t.nib = s.nib))) ∧
    (sysOn s = true → ∃ u, exec (.faultAck mask) s = .next (finish u) ∧ RegsOnly [Fd.SAF_FAULT_LATCHED] s u ∧ ∀ j, j < 64 →
      bit u Fd.SAF_FAULT_LATCHED j = (bit s Fd.SAF_FAULT_LATCHED j && !(mask.testBit j && !bit (safClean s) Fd.SAF_ACTIVE_ACTIVE j))) ∧
    (sysOn s = true → s.saf.lockUsed = false → s.rd Fd.SAF_LOCK_LOCK = 0 → ∃ u, exec (.safLockWrite v) s = .next (finish u) ∧
      u.rd Fd.SAF_LOCK_LOCK = v % 2 ∧ u.saf = { s.saf with lockUsed := true } ∧ RegsOnly [Fd.SAF_LOCK_LOCK] { s with saf := u.saf } u) ∧
    (sysOn s = true → s.saf.lockUsed = true ∨ s.rd Fd.SAF_LOCK_LOCK = 1 → exec (.safLockWrite v) s = .next (finish s)) ∧
    (∃ u, exec .regulatorMonitorTrip s = .next (finish u) ∧ due u 36) ∧ (∃ u, exec .clockMonitorTrip s = .next (finish u) ∧ due u 37) ∧
    (∃ u, exec .railWithinWindow s = .next (finish u) ∧ passed u 36) ∧ (∃ u, exec .clockWithinWindow s = .next (finish u) ∧ passed u 37) ∧
    (∃ u, exec (.pathMonitorTest false) s = .next (finish u) ∧ due u 44) ∧
    (∃ u, exec (.pathMonitorTest true) s = .next (finish u) ∧ passed u 44) ∧
    (6 ∉ s.pwr.absent → level ≠ !safePinsLow s → ∃ u, exec (.readbackMismatch path level) s = .next (finish u) ∧ due u 39 ∧
      safCond u 39 = true) ∧
    (6 ∉ s.pwr.absent → level = !safePinsLow s → ∃ u, exec (.readbackMismatch path level) s = .next (finish u) ∧
      u = { s with saf := { s.saf with padOff := u.saf.padOff } } ∧ safCond u 39 = s.saf.padOff.any (fun p => p != path)) ∧
    (6 ∈ s.pwr.absent → exec (.readbackMismatch path level) s = .next (finish s)) ∧
    (engOn s = true → s.mode = Md.limited → s.rd Fd.SAF_LIM_CFG_GRACE * 250000 ≤ s.now - s.saf.limitedAt →
      exec .graceExpiry s = .next (finish { s with saf := { s.saf with graceOver := true } })) ∧
    (engOn s = true → s.mode ≠ Md.limited ∨ s.now - s.saf.limitedAt < s.rd Fd.SAF_LIM_CFG_GRACE * 250000 →
      exec .graceExpiry s = .next (finish s)) ∧
    (sysOn s = true → isFabric master = true → (masterServed s master = true →
      exec (.wdgKick key master) s = .next (finish (s.set1 Fd.SAF_STAT_WDG_FAB))) ∧
      (masterServed s master = false → exec (.wdgKick key master) s = .next (finish s))) ∧
    (sysOn s = true → isFabric master = false → wdgRuns s = false → exec (.wdgKick key master) s = .next (finish s)) ∧
    (sysOn s = true → isFabric master = false → wdgRuns s = true →
      let want : Nat := if s.rdB Fd.SAF_WDG_STAT_NEXT_KEY then 0xC3A5 else 0x3C5A
      (s.rd Fd.SAF_WDG_CFG_CLOSE ≤ wdgLeast s → ∃ u, exec (.wdgKick key master) s = .next (finish u) ∧ fault u 1) ∧
      (wdgLeast s < s.rd Fd.SAF_WDG_CFG_CLOSE → key ≠ want → ∃ u, exec (.wdgKick key master) s = .next (finish u) ∧ fault u 3) ∧
      (wdgLeast s < s.rd Fd.SAF_WDG_CFG_CLOSE → key = want → wdgIsOpen s = false → ∃ u, exec (.wdgKick key master) s = .next (finish u) ∧
        fault u 2) ∧
      (wdgLeast s < s.rd Fd.SAF_WDG_CFG_CLOSE → key = want → wdgIsOpen s = true → ∃ u, exec (.wdgKick key master) s = .next (finish u) ∧
        u.rd Fd.SAF_WDG_STAT_COUNT = 0 ∧ u.rdB Fd.SAF_WDG_STAT_NEXT_KEY = !s.rdB Fd.SAF_WDG_STAT_NEXT_KEY ∧
        u.rdB Fd.SAF_WDG_STAT_WINDOW_OPEN = (s.rd Fd.SAF_WDG_CFG_OPEN == 0) ∧ u.saf = { s.saf with wdgAt := s.now })) ∧
    (engOn s = true → wdgRuns s = true →
      (s.rd Fd.SAF_WDG_CFG_CLOSE ≤ wdgMost s → ∃ u, exec .wdgExpiry s = .next (finish u) ∧ fault u 1) ∧
      (s.rd Fd.SAF_WDG_CFG_OPEN ≤ wdgMost s → ∃ u, exec .wdgWindowOpen s = .next (finish u) ∧
        u.rd Fd.SAF_WDG_STAT_WINDOW_OPEN = 1 ∧ u.saf = s.saf)) ∧
    (engOn s = true → wdgRuns s = false ∨ wdgMost s < s.rd Fd.SAF_WDG_CFG_CLOSE → exec .wdgExpiry s = .next (finish s)) ∧
    (engOn s = true → wdgRuns s = false ∨ wdgMost s < s.rd Fd.SAF_WDG_CFG_OPEN → exec .wdgWindowOpen s = .next (finish s))

/-- With the sys clock: a slice of a target that may run saves every unspared word of the next region, and an SDRAM line beside a spare's,
corrected where its code allows, and while it runs the words read as saved; its end writes them back. A slice that was asked to yield
counts a yield and repeats its region; a completed one reports its signature, and moves to the next region or the next pass. Without a
failing cell it matches, except that every 256th compares with the inverted signature and an armed injection fails it: then the
injection is disarmed, input 41 or 42 raised and a commanded self-test under way failed; failing cells that change the signature are
captured, and raise the input where no spare takes them. A late pass raises 43. STOP pauses targets and makes slices yield, RESUME and
RESTART_PASS undo and restart, making slices yield too, BST_TGT_EN and BST_INJ take their value: without the right STOP, clearing an
enable and the injection are refused with ACCESS, a target that does not exist gives RANGE, and in INVALID all are refused. How slices
save lines and planes is log entry 59. (R355, R356, R357, R358, R359, R362, Table 15.4) -/
def Obligations.BackgroundSelfTest : Prop :=
  ∀ (s : State) (t k v e : Nat) (x : SliceSt) (stuck : List Stuck) (w : MemWord), sysOn s = true →
    let status : Instr → Nat → Prop := fun c n => ∃ u, exec c s = .next (finish u) ∧ u.rd Fd.BST_STAT_STATUS = n ∧ u.bst = s.bst ∧
      u.mem = s.mem
    let back : State → Prop := fun u => mapGet? u.bst.slice t = none ∧ (mapWf x.saved = true → k < mkey 16 0 →
      (mapGet? x.saved k = some w → mapGet 0 u.mem k = spareCopy w) ∧ (mapGet? x.saved k = none → mapGet 0 u.mem k = mapGet 0 s.mem k))
    let inverted : Prop := (mapGet 0 s.bst.count t + 1) % 256 = 0
    let yields : State → Prop := fun u => mapGet? s.bst.slice k = some x → mapGet? u.bst.slice k = some { x with yield_ := true }
    (bstMay t s = false → exec (.bistSlice t) s = .next (finish s)) ∧
    (bstMay t s = true → let s1 := bstLineSave t s
      (t ≠ 17 → s1 = s) ∧ ∃ u r, exec (.bistSlice t) s = .next (finish u) ∧ mapGet? u.bst.slice t = some r ∧
      r.region = s1.rd (Fd.BST_TGT_STAT_POS t) ∧ r.yield_ = false ∧ r.line = bstLine t s ∧ u.mem = s1.mem ∧
      (k ∈ bstMarch s1 t r.region → mapGet? r.saved k = some (bstSave k s1).1 ∧
        (s1.bst.slice = [] → u.mget k = (bstSave k s1).1)) ∧
      (bstLine t s = some v → mapGet? u.xmc.lines v = some (lineArray v 0x40 s).2.2.1)) ∧
    (mapGet? s.bst.slice t = none → exec (.bistSliceEnd t e stuck) s = .next (finish s)) ∧
    (mapGet? s.bst.slice t = some x → t < 19 →
      (x.yield_ = true → ∃ u, exec (.bistSliceEnd t e stuck) s = .next (finish u) ∧ (stuck = [] → back u) ∧ mapGet? u.bst.slice t = none ∧
        u.rd (Fd.BST_TGT_SIG_COMPLETE t) = 0 ∧
        u.rd (Fd.BST_TGT_SIG_ELEMENTS t) = min e 5 ∧ u.rd (Fd.BST_TGT_STAT_POS t) = s.rd (Fd.BST_TGT_STAT_POS t) ∧
        u.rd (Fd.BST_TGT_STAT_YIELDS t) = min (s.rd (Fd.BST_TGT_STAT_YIELDS t) + 1) 65535) ∧
      (x.yield_ = false → ∃ u, exec (.bistSliceEnd t e stuck) s = .next (finish u) ∧ mapGet? u.bst.slice t = none ∧
        u.rd (Fd.BST_TGT_SIG_COMPLETE t) = 1 ∧
        u.rd (Fd.BST_TGT_SIG_SIG t) = marchSig stuck (bstWords x) 6 % 2 ^ 32 ∧
        (x.region + 1 < bstRegions t → u.rd (Fd.BST_TGT_STAT_POS t) = x.region + 1) ∧
        (bstRegions t ≤ x.region + 1 → u.rd (Fd.BST_TGT_STAT_POS t) = 0 ∧
          u.rd (Fd.BST_TGT_STAT_PASSES t) = (s.rd (Fd.BST_TGT_STAT_PASSES t) + 1) % 65536) ∧
        (stuck = [] → back u ∧ (x.inject = false → ¬inverted → u.rd (Fd.BST_TGT_SIG_MATCH t) = 1) ∧
          (x.inject = true ∨ inverted → u.rd (Fd.BST_TGT_SIG_MATCH t) = 0) ∧
          (x.inject = true → u.rd Fd.BST_INJ_ARMED = 0) ∧
          (x.inject = false ∨ inverted → (t, x.region) ∉ u.bst.failing ∧ u.saf.due = s.saf.due) ∧
          (x.inject = true → ¬inverted → (t, x.region) ∈ u.bst.failing ∧ (u.rd Fd.BST_FAILED_TARGETS).testBit t = true ∧
            (if t ≤ 4 ∨ t = 16 then 41 else 42) ∈ u.saf.due ∧ (s.sys.selfTest = true → u.bst.testBad = true))) ∧
        (¬inverted → marchSig stuck (bstWords x) 6 ≠ marchSig [] (bstWords x) 6 → u.rdB Fd.BST_FAIL_CAP_VALID = true ∧
          (s.rd Fd.MEM_HARD_CFG_AUTO_REMAP = 0 → x.line = none → (u.rd Fd.BST_FAILED_TARGETS).testBit t = true ∧
            (if t ≤ 4 ∨ t = 16 then 41 else 42) ∈ u.saf.due)))) ∧
    (t < 19 → ∃ u, exec (.bistPassLate t) s = .next (finish u) ∧ 43 ∈ u.saf.due ∧ (u.rd Fd.BST_LATE_TARGETS).testBit t = true) ∧
    (bstRight s = false → status (.bstStop t) 5 ∧ status (.bstInjArm t) 5 ∧
      (s.rd Fd.BST_TGT_EN_TARGETS &&& v % 2 ^ 19 ≠ s.rd Fd.BST_TGT_EN_TARGETS → status (.bstTgtEnWrite v) 5)) ∧
    (bstOpen s = false → status (.bstResume t) 5 ∧ status (.restartPass t) 5 ∧ status (.bstTgtEnWrite v) 5) ∧
    (19 ≤ t → t ≠ 31 → (bstOpen s = true → status (.bstResume t) 9 ∧ status (.restartPass t) 9) ∧ (bstRight s = true →
      status (.bstStop t) 9)) ∧
    (k ∈ bstTargets t →
      (bstRight s = true → ∃ u, exec (.bstStop t) s = .next (finish u) ∧ k ∈ u.bst.paused ∧ yields u ∧ u.rd Fd.BST_STAT_STATUS = 0) ∧
      (bstOpen s = true → ∃ u, exec (.bstResume t) s = .next (finish u) ∧ k ∉ u.bst.paused ∧ yields u ∧ u.rd Fd.BST_STAT_STATUS = 0) ∧
      (bstOpen s = true → ∃ u, exec (.restartPass t) s = .next (finish u) ∧ u.rd (Fd.BST_TGT_STAT_POS k) = 0 ∧ yields u ∧
        u.rd Fd.BST_STAT_STATUS = 0)) ∧
    (bstOpen s = true → bstRight s = true ∨ s.rd Fd.BST_TGT_EN_TARGETS &&& v % 2 ^ 19 = s.rd Fd.BST_TGT_EN_TARGETS →
      ∃ u, exec (.bstTgtEnWrite v) s = .next (finish u) ∧
      u.rd Fd.BST_TGT_EN_TARGETS = v % 2 ^ 19 ∧ u.rd Fd.BST_STAT_STATUS = 0 ∧ u.mem = s.mem ∧
      (k < 19 → (s.rd Fd.BST_TGT_EN_TARGETS).testBit k ≠ v.testBit k → yields u)) ∧
    (bstRight s = true → t < 32 → ∃ u, exec (.bstInjArm t) s = .next (finish u) ∧ u.rd Fd.BST_INJ_TARGET = t ∧ u.rd Fd.BST_INJ_ARMED = 1 ∧
      u.rd Fd.BST_STAT_STATUS = 0 ∧ u.bst = s.bst)

/-- With the sys clock each LCS_CMD from a fabric master only sets FAB_CMD, and from a master that is not served does nothing; while one is
BUSY it returns BUSY, with a wrong key RANGE, outside STANDBY and SAFE (for BUMP_DBG_CTR also RUN and LIMITED) or with VIN low
REFUSED_MODE. PROVISION and CLOSE need OPEN, SCRAP in CLOSED all rights, the others not INVALID; each then answers its refusal or is
taken with BUSY. The end of a command programs its words, setting bits and clearing none, and reports OK; CLOSE and SCRAP end in a warm
reset, SCRAP with the state copies all ones and, unless one was so before, the key slots (log entry 60); RAISE_FLOOR and BUMP_DBG_CTR
show floor and counter, the bump revokes the rights. PRESENT begins a check; its end grants the rights of the certificate, or counts
the failure, locking out at 8; REVOKE leaves no right outside OPEN. (R20, R367, R368, R371, R373, R374, R379, R340, Table 16.4, Table
16.5) -/
def Obligations.LifeCycleCommandsAndCertificates : Prop :=
  ∀ (s : State) (key slot master i : Nat) (x : LcsCmdSt), sysOn s = true →
    let answers : Instr → Nat → Prop := fun c st => ∃ u, exec c s = .next (finish u) ∧ u.rd Fd.LCS_CMD_STAT_STATUS = st ∧
      u.lcs.otp = s.lcs.otp ∧ u.lcs.cmd = s.lcs.cmd ∧ u.mode = s.mode
    let took : State → Nat → Prop := fun u op => u.rd Fd.LCS_CMD_STAT_BUSY = 1 ∧
      u.rd Fd.LCS_CMD_STAT_OP = op ∧ (∃ y, u.lcs.cmd = some y ∧ y.op = op) ∧ u.lcs.otp = s.lcs.otp ∧ u.mode = s.mode
    let busy := s.rd Fd.LCS_CMD_STAT_BUSY = 1
    let free := s.rd Fd.LCS_CMD_STAT_BUSY = 0
    let host := isFabric master = false
    let idle := s.mode = Md.standby ∨ s.mode = Md.safe
    let gate : Instr → Nat → Bool → Prop := fun c want run =>
      (masterServed s master = false → exec c s = .next (finish s)) ∧
      (isFabric master = true → masterServed s master = true → ∃ u, exec c s = .next (finish u) ∧ u.rd Fd.DBG_STAT_FAB_CMD = 1 ∧
        RegsOnly [Fd.DBG_STAT_FAB_CMD] s u) ∧
      (host → busy → answers c 1) ∧ (host → free → key ≠ want → answers c 9) ∧
      (host → free → key = want → ¬(idle ∨ run = true ∧ driving s.mode = true) → answers c 2) ∧
      (host → free → key = want → s.pwr.vinLow = true → answers c 2)
    let ready : Nat → Bool → Prop := fun want run => host ∧ free ∧ key = want ∧ (idle ∨ run = true ∧ driving s.mode = true) ∧
      s.pwr.vinLow = false
    let st := lcsState s
    gate (.provision key slot master) 0x9A0C false ∧ gate (.close key master) 0xC105 false ∧ gate (.scrap key master) 0x5C4A false ∧
    gate (.raiseFloor key master) 0xF100 false ∧ gate (.bumpDbgCtr key master) 0xB0B0 true ∧
    (ready 0x9A0C false →
      let conflict : Bool := (provWords s (slot % 4)).any (fun (e : Nat × Nat) => otp s e.1 &&& e.2 != otp s e.1)
      (st ≠ 0 → answers (.provision key slot master) 5) ∧
      (st = 0 → slotProv s (slot % 4) = true ∨ conflict = true → answers (.provision key slot master) 4) ∧
      (st = 0 → slotProv s (slot % 4) = false → conflict = false → ∃ u, exec (.provision key slot master) s = .next (finish u) ∧ took u 1)) ∧
    (ready 0xC105 false → (st ≠ 0 → answers (.close key master) 5) ∧
      (st = 0 → (slotUsable s 1 && loadedUserSigned s) = false → answers (.close key master) 4) ∧
      (st = 0 → (slotUsable s 1 && loadedUserSigned s) = true → ∃ u, exec (.close key master) s = .next (finish u) ∧ took u 2)) ∧
    (ready 0x5C4A false → (st = 1 → s.rd Fd.DBG_RIGHTS_RIGHTS ≠ 0x3F → answers (.scrap key master) 5) ∧
      (st ≠ 1 ∨ s.rd Fd.DBG_RIGHTS_RIGHTS = 0x3F → ∃ u, exec (.scrap key master) s = .next (finish u) ∧ took u 3)) ∧
    (ready 0xF100 false → let f := s.rd Fd.LCS_ARG_FLOOR
      (st = 3 → answers (.raiseFloor key master) 5) ∧ (st ≠ 3 → 256 < f ∨ loadedVersion s < f → answers (.raiseFloor key master) 9) ∧
      (st ≠ 3 → f ≤ 256 → f ≤ loadedVersion s → f ≤ otpFloorVal s → answers (.raiseFloor key master) 0) ∧
      (st ≠ 3 → f ≤ 256 → f ≤ loadedVersion s → otpFloorVal s < f → ∃ u, exec (.raiseFloor key master) s = .next (finish u) ∧ took u 4)) ∧
    (ready 0xB0B0 true → (st = 3 → answers (.bumpDbgCtr key master) 5) ∧
      (st ≠ 3 → 1024 ≤ otpCtrVal s → answers (.bumpDbgCtr key master) 9) ∧
      (st ≠ 3 → otpCtrVal s < 1024 → ∃ u, exec (.bumpDbgCtr key master) s = .next (finish u) ∧ took u 5)) ∧
    (s.lcs.cmd = none → exec .lcsCmdDone s = .next (finish s)) ∧
    (s.lcs.cmd = some x → ∃ u, exec .lcsCmdDone s = .next (finish u) ∧ u.lcs.cmd = none ∧ otp s i &&& otp u i = otp s i ∧
      (x.op ≠ 3 → (∀ v, (i, v) ∈ x.words → otp u i &&& v % 2 ^ 32 = v % 2 ^ 32) ∧ ((∀ v, (i, v) ∉ x.words) → otp u i = otp s i)) ∧
      (x.op ≠ 2 → x.op ≠ 3 → u.rd Fd.LCS_CMD_STAT_BUSY = 0 ∧ u.rd Fd.LCS_CMD_STAT_STATUS = 0 ∧ u.mode = s.mode) ∧
      (x.op = 1 → x.slot < 4 → (u.rd Fd.LCS_KEY_STAT_PROV).testBit x.slot = true) ∧
      (x.op = 2 ∨ x.op = 3 → u.mode = Md.load ∧ u.sys.phase = .regulators ∧ u.rd Fd.SYS_RESET_CAUSE_LCS_CHANGE = 1) ∧
      (x.op = 3 → (∀ k, k < 5 → otp u (otpCopy k) = 2 ^ 32 - 1) ∧
        ((∀ k, k < 5 → otp (otpProgs x.words s) (otpCopy k) ≠ 2 ^ 32 - 1) → 64 ≤ i → i < 192 → otp u i = 2 ^ 32 - 1)) ∧
      (x.op = 4 → u.rd Fd.LCS_FLOOR_FLOOR = otpFloorVal u) ∧
      (x.op = 5 → u.rd Fd.LCS_DBG_CTR_COUNT = otpCtrVal u ∧ (st ≠ 0 → u.rd Fd.DBG_RIGHTS_RIGHTS = 0))) ∧
    (masterServed s master = false → exec (.present master) s = .next (finish s) ∧ exec (.revoke master) s = .next (finish s)) ∧
    (isFabric master = true → masterServed s master = true → exec (.present master) s = .next (finish (s.set1 Fd.DBG_STAT_FAB_CMD)) ∧
      exec (.revoke master) s = .next (finish (s.set1 Fd.DBG_STAT_FAB_CMD))) ∧
    (let busyAns : Instr → Prop := fun c => ∃ u, exec c s = .next (finish u) ∧ u.rd Fd.DBG_STAT_STATUS = 1 ∧
        u.rd Fd.DBG_RIGHTS_RIGHTS = s.rd Fd.DBG_RIGHTS_RIGHTS
     host → s.rd Fd.DBG_STAT_BUSY = 1 → busyAns (.present master) ∧ busyAns (.revoke master)) ∧
    (host → s.rd Fd.DBG_STAT_BUSY = 0 → exec (.present master) s = .next (finish (s.set1 Fd.DBG_STAT_BUSY)) ∧
      ∃ u, exec (.revoke master) s = .next (finish u) ∧ u.rd Fd.DBG_STAT_STATUS = 0 ∧ (st ≠ 0 → u.rd Fd.DBG_RIGHTS_RIGHTS = 0) ∧
        (st = 0 → u.rd Fd.DBG_RIGHTS_RIGHTS = s.rd Fd.DBG_RIGHTS_RIGHTS)) ∧
    (s.rd Fd.DBG_STAT_BUSY = 0 → exec .certCheckDone s = .next (finish s)) ∧
    (s.rd Fd.DBG_STAT_BUSY = 1 → ∃ u, exec .certCheckDone s = .next (finish u) ∧ u.rd Fd.DBG_STAT_BUSY = 0 ∧
      u.rd Fd.DBG_STAT_STATUS = certStatus s ∧
      (certStatus s = 0 → u.rd Fd.DBG_RIGHTS_RIGHTS = mf (certBytes s) 6 2 ∧ u.rd Fd.DBG_STAT_FAILS = s.rd Fd.DBG_STAT_FAILS) ∧
      (certStatus s ≠ 0 → u.rd Fd.DBG_RIGHTS_RIGHTS = s.rd Fd.DBG_RIGHTS_RIGHTS ∧
        u.rd Fd.DBG_STAT_FAILS = min 8 (s.rd Fd.DBG_STAT_FAILS + 1) ∧
        (7 ≤ s.rd Fd.DBG_STAT_FAILS → u.rd Fd.DBG_STAT_LOCKOUT = 1)))

/-- While the test port has its supplies (else nothing changes): IDCODE and Test-Logic-Reset select the identification 0x10396B63, BYPASS
the bypass register, LCS_STATUS the word of LCS_STATE; a scan of the instruction register shifts out 00000001, which Test-Logic-Reset
is not. EXTEST, SAMPLE/PRELOAD, HIGHZ and CLAMP are in force with the right, the first, third and fourth outside RUN and LIMITED only,
and otherwise act as BYPASS with BSCAN_REFUSED set, as one in force does when its right is revoked; under EXTEST and CLAMP a pin and
INT_N are driven by their boundary cells, under HIGHZ by nothing. DBG_ACCESS outside OPEN and without a right, or without the sys
clock, shifts out ACCESS; served it shifts out the read value or the failure of the bus access made as master 0x03, ACCESS where that
needs a right, BUSY while one waits (log entry 61). FREEZE_READ shifts out the word at the readout address with DENIED, UE, CORRECTED
and FROZEN, denied outside FROZEN, and the address moves on by 4 or is loaded. None of the scan instructions changes registers or
memories. (R375, R376, R377, R378, Table 16.8, Table 16.9) -/
def Obligations.TestPortInstructions : Prop :=
  ∀ (s : State) (write load : Bool) (addr size space pin ph t : Nat) (data : W64),
    let sel : Nat → JtagIr → Nat →
      State := fun code ir v => { s with jtag := { s.jtag with code := code, ir := ir, irOut := 1, shiftOut := v } }
    let right := lcsState s = 0 ∨ lcsState s = 1 ∧ hasRight 0 s = true
    let bypassed : Instr → Prop := fun c => ∃ u, exec c s = .next (finish u) ∧ u.jtag.ir = .bypass ∧ u.jtag.shiftOut = 0 ∧ u.jtag.irOut = 1 ∧
      u.rd Fd.DBG_STAT_BSCAN_REFUSED = 1 ∧ RegsOnly [Fd.DBG_STAT_BSCAN_REFUSED] { s with jtag := u.jtag } u
    let held : State → JtagIr → Prop := fun u ir => u.jtag.ir = ir ∧ u.jtag.irOut = 1 ∧ u.regs = s.regs ∧ u.mem = s.mem ∧ u.chn = s.chn
    (jtagAnswers s = false → ∀ c, c ∈ [Instr.jtagExtest, .jtagSamplePreload, .jtagIdcode, .jtagHighz, .jtagBypass, .jtagLcsStatus,
      .jtagClamp, .testLogicReset, .dbgAccess write addr size data, .freezeRead addr space load] → exec c s = .next (finish s)) ∧
    (jtagAnswers s = true →
    exec .jtagIdcode s = .next (finish (sel 0x02 .idcode 0x10396B63)) ∧
    exec .testLogicReset s = .next (finish { s with jtag := { s.jtag with code := 0x02, ir := .idcode, shiftOut := 0x10396B63 } }) ∧
    exec .jtagBypass s = .next (finish (sel 0xFF .bypass 0)) ∧ exec .jtagLcsStatus s = .next (finish (sel 0x21 .lcsStatus (lcsStateWord s))) ∧
    (¬right → bypassed .jtagExtest ∧ bypassed .jtagSamplePreload ∧ bypassed .jtagHighz ∧ bypassed .jtagClamp) ∧
    (right → driving s.mode = true → bypassed .jtagExtest ∧ bypassed .jtagHighz ∧ bypassed .jtagClamp) ∧
    (right → ∃ u, exec .jtagSamplePreload s = .next (finish u) ∧ held u .samplePreload) ∧
    (right → driving s.mode = false → (∃ u, exec .jtagExtest s = .next (finish u) ∧ held u .extest) ∧
      (∃ u, exec .jtagHighz s = .next (finish u) ∧ held u .highz) ∧ ∃ u, exec .jtagClamp s = .next (finish u) ∧ held u .clamp) ∧
    (sysOn s = false ∨ lcsState s = 2 ∨ lcsState s = 3 ∨ lcsState s = 1 ∧ s.rd Fd.DBG_RIGHTS_RIGHTS = 0 →
      exec (.dbgAccess write addr size data) s = .next (finish (sel 0x20 .dbgAccess (5 * 2 ^ 64)))) ∧
    (sysOn s = true → lcsState s = 0 ∨ lcsState s = 1 ∧ s.rd Fd.DBG_RIGHTS_RIGHTS ≠ 0 → masterBusy s 0x03 = true →
      exec (.dbgAccess write addr size data) s = .next (finish (sel 0x20 .dbgAccess (1 * 2 ^ 64)))) ∧
    (s.jtag.ir = .extest ∨ s.jtag.ir = .clamp → (bankThere s (pinBank pin) = true → pinDrive s pin ph = cellDrive s pin) ∧
      (6 ∉ s.pwr.absent → intDrive s t = cellDrive s (512 + t))) ∧
    (s.jtag.ir = .highz → pinDrive s pin ph = none ∧ intDrive s t = none) ∧
    (sysOn s = true → s.jtag.ir = .extest ∨ s.jtag.ir = .clamp ∨ s.jtag.ir = .highz ∨ s.jtag.ir = .samplePreload → lcsState s = 1 →
      s.rd Fd.DBG_STAT_BUSY = 0 → ∃ u, exec (.revoke 0x01) s = .next (finish u) ∧ u.jtag.ir = .bypass ∧ u.rd Fd.DBG_STAT_BSCAN_REFUSED = 1) ∧
    (sysOn s = true → lcsState s = 0 ∨ lcsState s = 1 ∧ s.rd Fd.DBG_RIGHTS_RIGHTS ≠ 0 → masterBusy s 0x03 = false →
      let r := if write then busWrite addr size data.toNat 0x03 s else busRead addr size 0x03 s
      ∃ u, exec (.dbgAccess write addr size data) s = .next (finish u) ∧ u.jtag.ir = .dbgAccess ∧ u.regs = r.2.regs ∧ u.mem = r.2.mem ∧
        (∀ v, r.1 = .ok v → u.jtag.shiftOut = if write then 0 else v) ∧ (r.1 = .hold → u.jtag.shiftOut = 1 * 2 ^ 64) ∧
        (r.1 = .prot → u.jtag.shiftOut = 5 * 2 ^ 64) ∧ (∀ n, r.1 = .err n → u.jtag.shiftOut = (Bus.err n).spi * 2 ^ 64)) ∧
    (let r := readout s.jtag.space s.jtag.addr s
     ∃ u, exec (.freezeRead addr space load) s = .next (finish u) ∧ u.jtag.ir = .freezeRead ∧ u.regs = s.regs ∧ u.mem = s.mem ∧
       u.jtag.shiftOut = r.data + (if r.denied then 2 ^ 32 else 0) + (if r.ue then 2 ^ 33 else 0) + (if r.fixed then 2 ^ 34 else 0) +
         (if s.mode = Md.frozen then 2 ^ 35 else 0) ∧
       (load = true → u.jtag.addr = addr % 2 ^ 32 ∧ u.jtag.space = space % 4) ∧
       (load = false → u.jtag.addr = (s.jtag.addr + 4) % 2 ^ 32 ∧ u.jtag.space = s.jtag.space) ∧
       (s.mode ≠ Md.frozen ∨ lcsState s = 3 ∨ lcsState s = 1 ∧ hasRight 2 s = false → r = readDenied)))
end

