-- ==== Sys2Proof/Laws/Dict.lean ====
section
/-! SUPPORT. Reads of registers and objects that have no side effect: they leave the state as it was. -/
namespace Sys2Proof.Machine

open Sys2Proof

/-- A read of a register hit, of the bits of a mask, has no side effect: it is no claim, captures nothing and touches no rc field. -/
def plainRead (h : Hit) (mask : Nat) : Bool :=
  !(decide (h.addr / 0x10000 = 0x60A) && decide (h.addr % 0x10000 < 0x800) && decide (h.addr % 32 = 8)) &&
  [Fd.SCR_DBG_REG_DATA_DATA.addr, Fd.LOG_TIME_TIME.addr, (Fd.AFE_CH_FINE_FINE 0).addr, (Fd.AFE_CH_FINE_FINE 1).addr,
    Fd.QUE_HALT_LOG_QUEUE.addr, Fd.NIB_HWM_IN_USE_MAX.addr].all (fun a => h.addr != a) &&
  h.row.fields.all (fun f => decide (f.acc ≠ .rc) || f.mask &&& mask == 0)

theorem foldl_keep {α β : Type} (f : β → α → β) (l : List α) (b : β) (h : ∀ a, a ∈ l → f b a = b) : l.foldl f b = b := by
  induction l with
  | nil => rfl
  | cons a l ih =>
    rw [List.foldl_cons, h a (by simp)]
    exact ih (fun x hx => h x (by simp [hx]))

/-- A read without side effect gives the register's word and leaves the state as it was. -/
theorem regRead_plain (h : Hit) (mask master : Nat) (s : State) (hp : plainRead h mask = true) :
    regRead h mask master s = (regValue h master s, s) := by
  simp only [plainRead, Bool.and_eq_true, Bool.not_eq_true', List.all_cons, List.all_nil, bne_iff_ne, ne_eq, List.all_eq_true] at hp
  obtain ⟨⟨hc, h1, h2, h3, h4, h5, h6, -⟩, hf⟩ := hp
  have hn : ¬(h.addr / 0x10000 = 0x60A ∧ h.addr % 0x10000 < 0x800 ∧ h.addr % 32 = 8) := by
    intro ⟨a, b, c⟩
    simp [a, b, c] at hc
  have e1 : regCapture h mask s = s := by simp [regCapture, h2, h3, h4]
  have e2 : regClears h mask s = s := by
    simp only [regClears, h5, h6, if_false]
    apply foldl_keep
    intro f hfm
    have := hf f hfm
    simp only [Bool.or_eq_true, decide_eq_true_eq, beq_iff_eq] at this
    rw [if_neg]
    rintro ⟨a, b⟩
    rcases this with t | t
    · exact t a
    · exact b t
  simp [regRead, hn, h1, e1, e2]

/-- An object whose register reads without side effect. -/
def plainObj (o : Obj) : Bool :=
  !o.win && match regFind o.addr with
    | some h => plainRead h o.mask
    | none => true

/-- Reading such an object leaves the state as it was. -/
theorem objRead_plain (o : Obj) (master : Nat) (s : State) (h : plainObj o = true) : (objRead o master s).2.2 = s := by
  unfold objRead
  simp only [plainObj, Bool.and_eq_true, Bool.not_eq_true'] at h
  split
  · rfl
  · rw [if_neg (by simp [h.1])]
    split
    · rfl
    · next hh e =>
      have hp : plainRead hh o.mask = true := by
        have := h.2
        rwa [e] at this
      split
      · rfl
      · simp [regRead_plain hh o.mask master s hp]

/-- A mapped entry whose object, where it has one, reads without side effect. -/
def plainEntry (e : Nat × Nat × Nat) : Bool := match objFind e.1 e.2.1 with
  | some o => plainObj o
  | none => true

/-- Sampling entries that read without side effect leaves the state as it was (R288). -/
theorem sampleMap_plain (l : List (Nat × Nat × Nat)) (s : State)
    (h : ∀ e, e ∈ l → plainEntry e = true) : (sampleMap l s).2 = s := by
  induction l generalizing s with
  | nil => rfl
  | cons e l ih =>
    have he := h e (by simp)
    have hl := fun t => ih t (fun x hx => h x (by simp [hx]))
    simp only [sampleMap]
    split
    · next o eo =>
      simp only [plainEntry, eo] at he
      have := objRead_plain o dictMaster s he
      rw [hl]
      exact this
    · rw [hl]

end Sys2Proof.Machine
end

