-- ==== Sys2Proof/Laws/Map.lean ====
section
/-! SUPPORT. The laws of the sparse table: read after write, and that every operation keeps the keys rising and, where the table has a
default, the one canonical form. -/
namespace Sys2Proof.Machine

open Sys2Proof

variable {α : Type}

/-! ### Read after write -/

/-- A key that was just listed reads as listed. -/
@[simp] theorem mapGet?_mapPut_self (m : SMap α) (k : Nat) (v : α) : mapGet? (mapPut m k v) k = some v := by
  induction m with
  | nil => simp [mapPut, mapGet?]
  | cons e r ih =>
    unfold mapPut
    split
    · simp [mapGet?]
    · split
      · simp [mapGet?]
      · rename_i h1 h2
        simp [mapGet?, ih, Ne.symm h2]

/-- Listing one key leaves every other key. -/
theorem mapGet?_mapPut_ne (m : SMap α) (k j : Nat) (v : α) (h : j ≠ k) : mapGet? (mapPut m k v) j = mapGet? m j := by
  induction m with
  | nil => simp [mapPut, mapGet?, Ne.symm h]
  | cons e r ih =>
    unfold mapPut
    split
    · simp [mapGet?, Ne.symm h]
    · split
      · rename_i h1 h2
        subst h2
        simp [mapGet?, Ne.symm h]
      · simp [mapGet?, ih]

/-- A removed key is not listed. -/
@[simp] theorem mapGet?_mapDel_self (m : SMap α) (k : Nat) : mapGet? (mapDel m k) k = none := by
  induction m with
  | nil => simp [mapDel, mapGet?]
  | cons e r ih =>
    unfold mapDel
    split
    · exact ih
    · rename_i h; simp [mapGet?, h, ih]

/-- Removing one key leaves every other key. -/
theorem mapGet?_mapDel_ne (m : SMap α) (k j : Nat) (h : j ≠ k) : mapGet? (mapDel m k) j = mapGet? m j := by
  induction m with
  | nil => simp [mapDel]
  | cons e r ih =>
    unfold mapDel
    split
    · rename_i h1; simp [mapGet?, ih, h1, Ne.symm h]
    · simp [mapGet?, ih]

/-- A table with a default reads the value that was written. -/
@[simp] theorem mapGet_mapSet_self [DecidableEq α] (d : α) (m : SMap α) (k : Nat) (v : α) : mapGet d (mapSet d m k v) k = v := by
  unfold mapSet mapGet
  split
  · rename_i h; simp [h]
  · simp

/-- A write to one key of a table with a default leaves what every other key reads as. -/
theorem mapGet_mapSet_ne [DecidableEq α] (d : α) (m : SMap α) (k j : Nat) (v : α) (h : j ≠ k) :
    mapGet d (mapSet d m k v) j = mapGet d m j := by
  unfold mapSet mapGet
  split
  · rw [mapGet?_mapDel_ne _ _ _ h]
  · rw [mapGet?_mapPut_ne _ _ _ _ h]

/-! ### Canonical form -/

/-- An entry of a table after listing a key is the listed one or was there before. -/
theorem mem_mapPut (m : SMap α) (k : Nat) (v : α) (e : Nat × α) (h : e ∈ mapPut m k v) : e = (k, v) ∨ e ∈ m := by
  induction m with
  | nil => simp [mapPut] at h; exact .inl h
  | cons x r ih =>
    unfold mapPut at h
    split at h
    · rcases List.mem_cons.1 h with h | h
      · exact .inl h
      · exact .inr h
    · split at h
      · rcases List.mem_cons.1 h with h | h
        · exact .inl h
        · exact .inr (List.mem_cons_of_mem _ h)
      · rcases List.mem_cons.1 h with h | h
        · exact .inr (by simp [h])
        · rcases ih h with h | h
          · exact .inl h
          · exact .inr (List.mem_cons_of_mem _ h)

/-- An entry of a table after removing a key was there before. -/
theorem mem_mapDel (m : SMap α) (k : Nat) (e : Nat × α) (h : e ∈ mapDel m k) : e ∈ m := by
  induction m with
  | nil => simp [mapDel] at h
  | cons x r ih =>
    unfold mapDel at h
    split at h
    · exact List.mem_cons_of_mem _ (ih h)
    · rcases List.mem_cons.1 h with h | h
      · simp [h]
      · exact List.mem_cons_of_mem _ (ih h)

/-- Listing a key keeps the keys rising. -/
theorem mapWf_mapPut (m : SMap α) (k : Nat) (v : α) (h : mapWf m = true) : mapWf (mapPut m k v) = true := by
  induction m with
  | nil => simp [mapPut, mapWf]
  | cons x r ih =>
    simp only [mapWf, Bool.and_eq_true, List.all_eq_true, decide_eq_true_eq] at h
    unfold mapPut
    split
    · rename_i hk
      simp only [mapWf, Bool.and_eq_true, List.all_eq_true, decide_eq_true_eq]
      refine ⟨fun f hf => ?_, h⟩
      rcases List.mem_cons.1 hf with hf | hf
      · rw [hf]; exact hk
      · have := h.1 f hf; omega
    · split
      · rename_i h1 h2
        simp only [mapWf, Bool.and_eq_true, List.all_eq_true, decide_eq_true_eq]
        exact ⟨fun f hf => by have := h.1 f hf; omega, h.2⟩
      · rename_i h1 h2
        simp only [mapWf, Bool.and_eq_true, List.all_eq_true, decide_eq_true_eq]
        refine ⟨fun f hf => ?_, ih h.2⟩
        rcases mem_mapPut _ _ _ _ hf with hf | hf
        · rw [hf]; simp only; omega
        · exact h.1 f hf

/-- Keeping entries by a test keeps the keys rising. -/
theorem mapWf_filter (m : SMap α) (p : Nat × α → Bool) (h : mapWf m = true) : mapWf (m.filter p) = true := by
  induction m with
  | nil => rfl
  | cons x r ih =>
    simp only [mapWf, Bool.and_eq_true, List.all_eq_true, decide_eq_true_eq] at h
    rw [List.filter_cons]
    split
    · simp only [mapWf, Bool.and_eq_true, List.all_eq_true, decide_eq_true_eq]
      exact ⟨fun f hf => h.1 f (List.mem_filter.1 hf).1, ih h.2⟩
    · exact ih h.2

/-- Removing a key keeps the keys rising. -/
theorem mapWf_mapDel (m : SMap α) (k : Nat) (h : mapWf m = true) : mapWf (mapDel m k) = true := by
  induction m with
  | nil => rfl
  | cons x r ih =>
    simp only [mapWf, Bool.and_eq_true, List.all_eq_true, decide_eq_true_eq] at h
    unfold mapDel
    split
    · exact ih h.2
    · simp only [mapWf, Bool.and_eq_true, List.all_eq_true, decide_eq_true_eq]
      exact ⟨fun f hf => h.1 f (mem_mapDel _ _ _ hf), ih h.2⟩

/-- A write to a table with a default keeps its canonical form. -/
theorem mapCanon_mapSet [DecidableEq α] (d : α) (m : SMap α) (k : Nat) (v : α) (h : mapCanon d m = true) :
    mapCanon d (mapSet d m k v) = true := by
  simp only [mapCanon, Bool.and_eq_true, List.all_eq_true, decide_eq_true_eq] at h ⊢
  unfold mapSet
  split
  · exact ⟨mapWf_mapDel m k h.1, fun e he => h.2 e (mem_mapDel _ _ _ he)⟩
  · rename_i hv
    refine ⟨mapWf_mapPut m k v h.1, fun e he => ?_⟩
    rcases mem_mapPut _ _ _ _ he with he | he
    · rw [he]; exact hv
    · exact h.2 e he

/-- Keeping the entries of some keys keeps the canonical form. -/
theorem mapCanon_mapKeep [DecidableEq α] (d : α) (p : Nat → Bool) (m : SMap α) (h : mapCanon d m = true) :
    mapCanon d (mapKeep p m) = true := by
  simp only [mapCanon, Bool.and_eq_true, List.all_eq_true, decide_eq_true_eq] at h ⊢
  exact ⟨mapWf_filter m _ h.1, fun e he => h.2 e (List.mem_filter.1 he).1⟩

end Sys2Proof.Machine
end

