-- ==== Sys2Proof/Laws/State.lean ====
section
/-! SUPPORT. The small lemmas of State: what each field is after each named update of the register file, that the register file is
untouched by an update of any other part, and read after write of a register field. All close by `rfl` or by the laws of the table. -/
namespace Sys2Proof.Machine

open Sys2Proof

/-! ### Every other part under an update of the register file -/

@[simp] theorem State.wr_pending (s : State) (f : Fld) (v : Nat) : (s.wr f v).pending = s.pending := rfl
@[simp] theorem State.wr_mem (s : State) (f : Fld) (v : Nat) : (s.wr f v).mem = s.mem := rfl
@[simp] theorem State.wr_sys (s : State) (f : Fld) (v : Nat) : (s.wr f v).sys = s.sys := rfl
@[simp] theorem State.wr_mst (s : State) (f : Fld) (v : Nat) : (s.wr f v).mst = s.mst := rfl
@[simp] theorem State.wr_xmc (s : State) (f : Fld) (v : Nat) : (s.wr f v).xmc = s.xmc := rfl
@[simp] theorem State.wr_afe (s : State) (f : Fld) (v : Nat) : (s.wr f v).afe = s.afe := rfl
@[simp] theorem State.wr_que (s : State) (f : Fld) (v : Nat) : (s.wr f v).que = s.que := rfl
@[simp] theorem State.wr_nib (s : State) (f : Fld) (v : Nat) : (s.wr f v).nib = s.nib := rfl
@[simp] theorem State.wr_chn (s : State) (f : Fld) (v : Nat) : (s.wr f v).chn = s.chn := rfl
@[simp] theorem State.wr_scr (s : State) (f : Fld) (v : Nat) : (s.wr f v).scr = s.scr := rfl
@[simp] theorem State.wr_fab (s : State) (f : Fld) (v : Nat) : (s.wr f v).fab = s.fab := rfl
@[simp] theorem State.wr_cfg (s : State) (f : Fld) (v : Nat) : (s.wr f v).cfg = s.cfg := rfl
@[simp] theorem State.wr_ufl (s : State) (f : Fld) (v : Nat) : (s.wr f v).ufl = s.ufl := rfl
@[simp] theorem State.wr_net (s : State) (f : Fld) (v : Nat) : (s.wr f v).net = s.net := rfl
@[simp] theorem State.wr_irq (s : State) (f : Fld) (v : Nat) : (s.wr f v).irq = s.irq := rfl
@[simp] theorem State.wr_log (s : State) (f : Fld) (v : Nat) : (s.wr f v).log = s.log := rfl
@[simp] theorem State.wr_pwr (s : State) (f : Fld) (v : Nat) : (s.wr f v).pwr = s.pwr := rfl
@[simp] theorem State.wr_saf (s : State) (f : Fld) (v : Nat) : (s.wr f v).saf = s.saf := rfl
@[simp] theorem State.wr_bst (s : State) (f : Fld) (v : Nat) : (s.wr f v).bst = s.bst := rfl
@[simp] theorem State.wr_lcs (s : State) (f : Fld) (v : Nat) : (s.wr f v).lcs = s.lcs := rfl
@[simp] theorem State.wr_jtag (s : State) (f : Fld) (v : Nat) : (s.wr f v).jtag = s.jtag := rfl

@[simp] theorem State.set1_pending (s : State) (f : Fld) : (s.set1 f).pending = s.pending := rfl
@[simp] theorem State.set1_mem (s : State) (f : Fld) : (s.set1 f).mem = s.mem := rfl
@[simp] theorem State.set1_sys (s : State) (f : Fld) : (s.set1 f).sys = s.sys := rfl
@[simp] theorem State.set1_mst (s : State) (f : Fld) : (s.set1 f).mst = s.mst := rfl
@[simp] theorem State.set1_xmc (s : State) (f : Fld) : (s.set1 f).xmc = s.xmc := rfl
@[simp] theorem State.set1_afe (s : State) (f : Fld) : (s.set1 f).afe = s.afe := rfl
@[simp] theorem State.set1_que (s : State) (f : Fld) : (s.set1 f).que = s.que := rfl
@[simp] theorem State.set1_nib (s : State) (f : Fld) : (s.set1 f).nib = s.nib := rfl
@[simp] theorem State.set1_chn (s : State) (f : Fld) : (s.set1 f).chn = s.chn := rfl
@[simp] theorem State.set1_scr (s : State) (f : Fld) : (s.set1 f).scr = s.scr := rfl
@[simp] theorem State.set1_fab (s : State) (f : Fld) : (s.set1 f).fab = s.fab := rfl
@[simp] theorem State.set1_cfg (s : State) (f : Fld) : (s.set1 f).cfg = s.cfg := rfl
@[simp] theorem State.set1_ufl (s : State) (f : Fld) : (s.set1 f).ufl = s.ufl := rfl
@[simp] theorem State.set1_net (s : State) (f : Fld) : (s.set1 f).net = s.net := rfl
@[simp] theorem State.set1_irq (s : State) (f : Fld) : (s.set1 f).irq = s.irq := rfl
@[simp] theorem State.set1_log (s : State) (f : Fld) : (s.set1 f).log = s.log := rfl
@[simp] theorem State.set1_pwr (s : State) (f : Fld) : (s.set1 f).pwr = s.pwr := rfl
@[simp] theorem State.set1_saf (s : State) (f : Fld) : (s.set1 f).saf = s.saf := rfl
@[simp] theorem State.set1_bst (s : State) (f : Fld) : (s.set1 f).bst = s.bst := rfl
@[simp] theorem State.set1_lcs (s : State) (f : Fld) : (s.set1 f).lcs = s.lcs := rfl
@[simp] theorem State.set1_jtag (s : State) (f : Fld) : (s.set1 f).jtag = s.jtag := rfl

@[simp] theorem State.clr_pending (s : State) (f : Fld) : (s.clr f).pending = s.pending := rfl
@[simp] theorem State.clr_mem (s : State) (f : Fld) : (s.clr f).mem = s.mem := rfl
@[simp] theorem State.clr_sys (s : State) (f : Fld) : (s.clr f).sys = s.sys := rfl
@[simp] theorem State.clr_mst (s : State) (f : Fld) : (s.clr f).mst = s.mst := rfl
@[simp] theorem State.clr_xmc (s : State) (f : Fld) : (s.clr f).xmc = s.xmc := rfl
@[simp] theorem State.clr_afe (s : State) (f : Fld) : (s.clr f).afe = s.afe := rfl
@[simp] theorem State.clr_que (s : State) (f : Fld) : (s.clr f).que = s.que := rfl
@[simp] theorem State.clr_nib (s : State) (f : Fld) : (s.clr f).nib = s.nib := rfl
@[simp] theorem State.clr_chn (s : State) (f : Fld) : (s.clr f).chn = s.chn := rfl
@[simp] theorem State.clr_scr (s : State) (f : Fld) : (s.clr f).scr = s.scr := rfl
@[simp] theorem State.clr_fab (s : State) (f : Fld) : (s.clr f).fab = s.fab := rfl
@[simp] theorem State.clr_cfg (s : State) (f : Fld) : (s.clr f).cfg = s.cfg := rfl
@[simp] theorem State.clr_ufl (s : State) (f : Fld) : (s.clr f).ufl = s.ufl := rfl
@[simp] theorem State.clr_net (s : State) (f : Fld) : (s.clr f).net = s.net := rfl
@[simp] theorem State.clr_irq (s : State) (f : Fld) : (s.clr f).irq = s.irq := rfl
@[simp] theorem State.clr_log (s : State) (f : Fld) : (s.clr f).log = s.log := rfl
@[simp] theorem State.clr_pwr (s : State) (f : Fld) : (s.clr f).pwr = s.pwr := rfl
@[simp] theorem State.clr_saf (s : State) (f : Fld) : (s.clr f).saf = s.saf := rfl
@[simp] theorem State.clr_bst (s : State) (f : Fld) : (s.clr f).bst = s.bst := rfl
@[simp] theorem State.clr_lcs (s : State) (f : Fld) : (s.clr f).lcs = s.lcs := rfl
@[simp] theorem State.clr_jtag (s : State) (f : Fld) : (s.clr f).jtag = s.jtag := rfl

@[simp] theorem State.wrB_pending (s : State) (f : Fld) (b : Bool) : (s.wrB f b).pending = s.pending := rfl
@[simp] theorem State.wrB_mem (s : State) (f : Fld) (b : Bool) : (s.wrB f b).mem = s.mem := rfl
@[simp] theorem State.wrB_sys (s : State) (f : Fld) (b : Bool) : (s.wrB f b).sys = s.sys := rfl
@[simp] theorem State.wrB_mst (s : State) (f : Fld) (b : Bool) : (s.wrB f b).mst = s.mst := rfl
@[simp] theorem State.wrB_xmc (s : State) (f : Fld) (b : Bool) : (s.wrB f b).xmc = s.xmc := rfl
@[simp] theorem State.wrB_afe (s : State) (f : Fld) (b : Bool) : (s.wrB f b).afe = s.afe := rfl
@[simp] theorem State.wrB_que (s : State) (f : Fld) (b : Bool) : (s.wrB f b).que = s.que := rfl
@[simp] theorem State.wrB_nib (s : State) (f : Fld) (b : Bool) : (s.wrB f b).nib = s.nib := rfl
@[simp] theorem State.wrB_chn (s : State) (f : Fld) (b : Bool) : (s.wrB f b).chn = s.chn := rfl
@[simp] theorem State.wrB_scr (s : State) (f : Fld) (b : Bool) : (s.wrB f b).scr = s.scr := rfl
@[simp] theorem State.wrB_fab (s : State) (f : Fld) (b : Bool) : (s.wrB f b).fab = s.fab := rfl
@[simp] theorem State.wrB_cfg (s : State) (f : Fld) (b : Bool) : (s.wrB f b).cfg = s.cfg := rfl
@[simp] theorem State.wrB_ufl (s : State) (f : Fld) (b : Bool) : (s.wrB f b).ufl = s.ufl := rfl
@[simp] theorem State.wrB_net (s : State) (f : Fld) (b : Bool) : (s.wrB f b).net = s.net := rfl
@[simp] theorem State.wrB_irq (s : State) (f : Fld) (b : Bool) : (s.wrB f b).irq = s.irq := rfl
@[simp] theorem State.wrB_log (s : State) (f : Fld) (b : Bool) : (s.wrB f b).log = s.log := rfl
@[simp] theorem State.wrB_pwr (s : State) (f : Fld) (b : Bool) : (s.wrB f b).pwr = s.pwr := rfl
@[simp] theorem State.wrB_saf (s : State) (f : Fld) (b : Bool) : (s.wrB f b).saf = s.saf := rfl
@[simp] theorem State.wrB_bst (s : State) (f : Fld) (b : Bool) : (s.wrB f b).bst = s.bst := rfl
@[simp] theorem State.wrB_lcs (s : State) (f : Fld) (b : Bool) : (s.wrB f b).lcs = s.lcs := rfl
@[simp] theorem State.wrB_jtag (s : State) (f : Fld) (b : Bool) : (s.wrB f b).jtag = s.jtag := rfl

@[simp] theorem State.orF_pending (s : State) (f : Fld) (m : Nat) : (s.orF f m).pending = s.pending := rfl
@[simp] theorem State.orF_mem (s : State) (f : Fld) (m : Nat) : (s.orF f m).mem = s.mem := rfl
@[simp] theorem State.orF_sys (s : State) (f : Fld) (m : Nat) : (s.orF f m).sys = s.sys := rfl
@[simp] theorem State.orF_mst (s : State) (f : Fld) (m : Nat) : (s.orF f m).mst = s.mst := rfl
@[simp] theorem State.orF_xmc (s : State) (f : Fld) (m : Nat) : (s.orF f m).xmc = s.xmc := rfl
@[simp] theorem State.orF_afe (s : State) (f : Fld) (m : Nat) : (s.orF f m).afe = s.afe := rfl
@[simp] theorem State.orF_que (s : State) (f : Fld) (m : Nat) : (s.orF f m).que = s.que := rfl
@[simp] theorem State.orF_nib (s : State) (f : Fld) (m : Nat) : (s.orF f m).nib = s.nib := rfl
@[simp] theorem State.orF_chn (s : State) (f : Fld) (m : Nat) : (s.orF f m).chn = s.chn := rfl
@[simp] theorem State.orF_scr (s : State) (f : Fld) (m : Nat) : (s.orF f m).scr = s.scr := rfl
@[simp] theorem State.orF_fab (s : State) (f : Fld) (m : Nat) : (s.orF f m).fab = s.fab := rfl
@[simp] theorem State.orF_cfg (s : State) (f : Fld) (m : Nat) : (s.orF f m).cfg = s.cfg := rfl
@[simp] theorem State.orF_ufl (s : State) (f : Fld) (m : Nat) : (s.orF f m).ufl = s.ufl := rfl
@[simp] theorem State.orF_net (s : State) (f : Fld) (m : Nat) : (s.orF f m).net = s.net := rfl
@[simp] theorem State.orF_irq (s : State) (f : Fld) (m : Nat) : (s.orF f m).irq = s.irq := rfl
@[simp] theorem State.orF_log (s : State) (f : Fld) (m : Nat) : (s.orF f m).log = s.log := rfl
@[simp] theorem State.orF_pwr (s : State) (f : Fld) (m : Nat) : (s.orF f m).pwr = s.pwr := rfl
@[simp] theorem State.orF_saf (s : State) (f : Fld) (m : Nat) : (s.orF f m).saf = s.saf := rfl
@[simp] theorem State.orF_bst (s : State) (f : Fld) (m : Nat) : (s.orF f m).bst = s.bst := rfl
@[simp] theorem State.orF_lcs (s : State) (f : Fld) (m : Nat) : (s.orF f m).lcs = s.lcs := rfl
@[simp] theorem State.orF_jtag (s : State) (f : Fld) (m : Nat) : (s.orF f m).jtag = s.jtag := rfl

@[simp] theorem State.w1c_pending (s : State) (f : Fld) (m : Nat) : (s.w1c f m).pending = s.pending := rfl
@[simp] theorem State.w1c_mem (s : State) (f : Fld) (m : Nat) : (s.w1c f m).mem = s.mem := rfl
@[simp] theorem State.w1c_sys (s : State) (f : Fld) (m : Nat) : (s.w1c f m).sys = s.sys := rfl
@[simp] theorem State.w1c_mst (s : State) (f : Fld) (m : Nat) : (s.w1c f m).mst = s.mst := rfl
@[simp] theorem State.w1c_xmc (s : State) (f : Fld) (m : Nat) : (s.w1c f m).xmc = s.xmc := rfl
@[simp] theorem State.w1c_afe (s : State) (f : Fld) (m : Nat) : (s.w1c f m).afe = s.afe := rfl
@[simp] theorem State.w1c_que (s : State) (f : Fld) (m : Nat) : (s.w1c f m).que = s.que := rfl
@[simp] theorem State.w1c_nib (s : State) (f : Fld) (m : Nat) : (s.w1c f m).nib = s.nib := rfl
@[simp] theorem State.w1c_chn (s : State) (f : Fld) (m : Nat) : (s.w1c f m).chn = s.chn := rfl
@[simp] theorem State.w1c_scr (s : State) (f : Fld) (m : Nat) : (s.w1c f m).scr = s.scr := rfl
@[simp] theorem State.w1c_fab (s : State) (f : Fld) (m : Nat) : (s.w1c f m).fab = s.fab := rfl
@[simp] theorem State.w1c_cfg (s : State) (f : Fld) (m : Nat) : (s.w1c f m).cfg = s.cfg := rfl
@[simp] theorem State.w1c_ufl (s : State) (f : Fld) (m : Nat) : (s.w1c f m).ufl = s.ufl := rfl
@[simp] theorem State.w1c_net (s : State) (f : Fld) (m : Nat) : (s.w1c f m).net = s.net := rfl
@[simp] theorem State.w1c_irq (s : State) (f : Fld) (m : Nat) : (s.w1c f m).irq = s.irq := rfl
@[simp] theorem State.w1c_log (s : State) (f : Fld) (m : Nat) : (s.w1c f m).log = s.log := rfl
@[simp] theorem State.w1c_pwr (s : State) (f : Fld) (m : Nat) : (s.w1c f m).pwr = s.pwr := rfl
@[simp] theorem State.w1c_saf (s : State) (f : Fld) (m : Nat) : (s.w1c f m).saf = s.saf := rfl
@[simp] theorem State.w1c_bst (s : State) (f : Fld) (m : Nat) : (s.w1c f m).bst = s.bst := rfl
@[simp] theorem State.w1c_lcs (s : State) (f : Fld) (m : Nat) : (s.w1c f m).lcs = s.lcs := rfl
@[simp] theorem State.w1c_jtag (s : State) (f : Fld) (m : Nat) : (s.w1c f m).jtag = s.jtag := rfl

@[simp] theorem State.incSat_pending (s : State) (f : Fld) : (s.incSat f).pending = s.pending := rfl
@[simp] theorem State.incSat_mem (s : State) (f : Fld) : (s.incSat f).mem = s.mem := rfl
@[simp] theorem State.incSat_sys (s : State) (f : Fld) : (s.incSat f).sys = s.sys := rfl
@[simp] theorem State.incSat_mst (s : State) (f : Fld) : (s.incSat f).mst = s.mst := rfl
@[simp] theorem State.incSat_xmc (s : State) (f : Fld) : (s.incSat f).xmc = s.xmc := rfl
@[simp] theorem State.incSat_afe (s : State) (f : Fld) : (s.incSat f).afe = s.afe := rfl
@[simp] theorem State.incSat_que (s : State) (f : Fld) : (s.incSat f).que = s.que := rfl
@[simp] theorem State.incSat_nib (s : State) (f : Fld) : (s.incSat f).nib = s.nib := rfl
@[simp] theorem State.incSat_chn (s : State) (f : Fld) : (s.incSat f).chn = s.chn := rfl
@[simp] theorem State.incSat_scr (s : State) (f : Fld) : (s.incSat f).scr = s.scr := rfl
@[simp] theorem State.incSat_fab (s : State) (f : Fld) : (s.incSat f).fab = s.fab := rfl
@[simp] theorem State.incSat_cfg (s : State) (f : Fld) : (s.incSat f).cfg = s.cfg := rfl
@[simp] theorem State.incSat_ufl (s : State) (f : Fld) : (s.incSat f).ufl = s.ufl := rfl
@[simp] theorem State.incSat_net (s : State) (f : Fld) : (s.incSat f).net = s.net := rfl
@[simp] theorem State.incSat_irq (s : State) (f : Fld) : (s.incSat f).irq = s.irq := rfl
@[simp] theorem State.incSat_log (s : State) (f : Fld) : (s.incSat f).log = s.log := rfl
@[simp] theorem State.incSat_pwr (s : State) (f : Fld) : (s.incSat f).pwr = s.pwr := rfl
@[simp] theorem State.incSat_saf (s : State) (f : Fld) : (s.incSat f).saf = s.saf := rfl
@[simp] theorem State.incSat_bst (s : State) (f : Fld) : (s.incSat f).bst = s.bst := rfl
@[simp] theorem State.incSat_lcs (s : State) (f : Fld) : (s.incSat f).lcs = s.lcs := rfl
@[simp] theorem State.incSat_jtag (s : State) (f : Fld) : (s.incSat f).jtag = s.jtag := rfl

@[simp] theorem State.addSat_pending (s : State) (f : Fld) (n : Nat) : (s.addSat f n).pending = s.pending := rfl
@[simp] theorem State.addSat_mem (s : State) (f : Fld) (n : Nat) : (s.addSat f n).mem = s.mem := rfl
@[simp] theorem State.addSat_sys (s : State) (f : Fld) (n : Nat) : (s.addSat f n).sys = s.sys := rfl
@[simp] theorem State.addSat_mst (s : State) (f : Fld) (n : Nat) : (s.addSat f n).mst = s.mst := rfl
@[simp] theorem State.addSat_xmc (s : State) (f : Fld) (n : Nat) : (s.addSat f n).xmc = s.xmc := rfl
@[simp] theorem State.addSat_afe (s : State) (f : Fld) (n : Nat) : (s.addSat f n).afe = s.afe := rfl
@[simp] theorem State.addSat_que (s : State) (f : Fld) (n : Nat) : (s.addSat f n).que = s.que := rfl
@[simp] theorem State.addSat_nib (s : State) (f : Fld) (n : Nat) : (s.addSat f n).nib = s.nib := rfl
@[simp] theorem State.addSat_chn (s : State) (f : Fld) (n : Nat) : (s.addSat f n).chn = s.chn := rfl
@[simp] theorem State.addSat_scr (s : State) (f : Fld) (n : Nat) : (s.addSat f n).scr = s.scr := rfl
@[simp] theorem State.addSat_fab (s : State) (f : Fld) (n : Nat) : (s.addSat f n).fab = s.fab := rfl
@[simp] theorem State.addSat_cfg (s : State) (f : Fld) (n : Nat) : (s.addSat f n).cfg = s.cfg := rfl
@[simp] theorem State.addSat_ufl (s : State) (f : Fld) (n : Nat) : (s.addSat f n).ufl = s.ufl := rfl
@[simp] theorem State.addSat_net (s : State) (f : Fld) (n : Nat) : (s.addSat f n).net = s.net := rfl
@[simp] theorem State.addSat_irq (s : State) (f : Fld) (n : Nat) : (s.addSat f n).irq = s.irq := rfl
@[simp] theorem State.addSat_log (s : State) (f : Fld) (n : Nat) : (s.addSat f n).log = s.log := rfl
@[simp] theorem State.addSat_pwr (s : State) (f : Fld) (n : Nat) : (s.addSat f n).pwr = s.pwr := rfl
@[simp] theorem State.addSat_saf (s : State) (f : Fld) (n : Nat) : (s.addSat f n).saf = s.saf := rfl
@[simp] theorem State.addSat_bst (s : State) (f : Fld) (n : Nat) : (s.addSat f n).bst = s.bst := rfl
@[simp] theorem State.addSat_lcs (s : State) (f : Fld) (n : Nat) : (s.addSat f n).lcs = s.lcs := rfl
@[simp] theorem State.addSat_jtag (s : State) (f : Fld) (n : Nat) : (s.addSat f n).jtag = s.jtag := rfl

@[simp] theorem State.incWrap_pending (s : State) (f : Fld) : (s.incWrap f).pending = s.pending := rfl
@[simp] theorem State.incWrap_mem (s : State) (f : Fld) : (s.incWrap f).mem = s.mem := rfl
@[simp] theorem State.incWrap_sys (s : State) (f : Fld) : (s.incWrap f).sys = s.sys := rfl
@[simp] theorem State.incWrap_mst (s : State) (f : Fld) : (s.incWrap f).mst = s.mst := rfl
@[simp] theorem State.incWrap_xmc (s : State) (f : Fld) : (s.incWrap f).xmc = s.xmc := rfl
@[simp] theorem State.incWrap_afe (s : State) (f : Fld) : (s.incWrap f).afe = s.afe := rfl
@[simp] theorem State.incWrap_que (s : State) (f : Fld) : (s.incWrap f).que = s.que := rfl
@[simp] theorem State.incWrap_nib (s : State) (f : Fld) : (s.incWrap f).nib = s.nib := rfl
@[simp] theorem State.incWrap_chn (s : State) (f : Fld) : (s.incWrap f).chn = s.chn := rfl
@[simp] theorem State.incWrap_scr (s : State) (f : Fld) : (s.incWrap f).scr = s.scr := rfl
@[simp] theorem State.incWrap_fab (s : State) (f : Fld) : (s.incWrap f).fab = s.fab := rfl
@[simp] theorem State.incWrap_cfg (s : State) (f : Fld) : (s.incWrap f).cfg = s.cfg := rfl
@[simp] theorem State.incWrap_ufl (s : State) (f : Fld) : (s.incWrap f).ufl = s.ufl := rfl
@[simp] theorem State.incWrap_net (s : State) (f : Fld) : (s.incWrap f).net = s.net := rfl
@[simp] theorem State.incWrap_irq (s : State) (f : Fld) : (s.incWrap f).irq = s.irq := rfl
@[simp] theorem State.incWrap_log (s : State) (f : Fld) : (s.incWrap f).log = s.log := rfl
@[simp] theorem State.incWrap_pwr (s : State) (f : Fld) : (s.incWrap f).pwr = s.pwr := rfl
@[simp] theorem State.incWrap_saf (s : State) (f : Fld) : (s.incWrap f).saf = s.saf := rfl
@[simp] theorem State.incWrap_bst (s : State) (f : Fld) : (s.incWrap f).bst = s.bst := rfl
@[simp] theorem State.incWrap_lcs (s : State) (f : Fld) : (s.incWrap f).lcs = s.lcs := rfl
@[simp] theorem State.incWrap_jtag (s : State) (f : Fld) : (s.incWrap f).jtag = s.jtag := rfl

@[simp] theorem State.addWrap_pending (s : State) (f : Fld) (n : Nat) : (s.addWrap f n).pending = s.pending := rfl
@[simp] theorem State.addWrap_mem (s : State) (f : Fld) (n : Nat) : (s.addWrap f n).mem = s.mem := rfl
@[simp] theorem State.addWrap_sys (s : State) (f : Fld) (n : Nat) : (s.addWrap f n).sys = s.sys := rfl
@[simp] theorem State.addWrap_mst (s : State) (f : Fld) (n : Nat) : (s.addWrap f n).mst = s.mst := rfl
@[simp] theorem State.addWrap_xmc (s : State) (f : Fld) (n : Nat) : (s.addWrap f n).xmc = s.xmc := rfl
@[simp] theorem State.addWrap_afe (s : State) (f : Fld) (n : Nat) : (s.addWrap f n).afe = s.afe := rfl
@[simp] theorem State.addWrap_que (s : State) (f : Fld) (n : Nat) : (s.addWrap f n).que = s.que := rfl
@[simp] theorem State.addWrap_nib (s : State) (f : Fld) (n : Nat) : (s.addWrap f n).nib = s.nib := rfl
@[simp] theorem State.addWrap_chn (s : State) (f : Fld) (n : Nat) : (s.addWrap f n).chn = s.chn := rfl
@[simp] theorem State.addWrap_scr (s : State) (f : Fld) (n : Nat) : (s.addWrap f n).scr = s.scr := rfl
@[simp] theorem State.addWrap_fab (s : State) (f : Fld) (n : Nat) : (s.addWrap f n).fab = s.fab := rfl
@[simp] theorem State.addWrap_cfg (s : State) (f : Fld) (n : Nat) : (s.addWrap f n).cfg = s.cfg := rfl
@[simp] theorem State.addWrap_ufl (s : State) (f : Fld) (n : Nat) : (s.addWrap f n).ufl = s.ufl := rfl
@[simp] theorem State.addWrap_net (s : State) (f : Fld) (n : Nat) : (s.addWrap f n).net = s.net := rfl
@[simp] theorem State.addWrap_irq (s : State) (f : Fld) (n : Nat) : (s.addWrap f n).irq = s.irq := rfl
@[simp] theorem State.addWrap_log (s : State) (f : Fld) (n : Nat) : (s.addWrap f n).log = s.log := rfl
@[simp] theorem State.addWrap_pwr (s : State) (f : Fld) (n : Nat) : (s.addWrap f n).pwr = s.pwr := rfl
@[simp] theorem State.addWrap_saf (s : State) (f : Fld) (n : Nat) : (s.addWrap f n).saf = s.saf := rfl
@[simp] theorem State.addWrap_bst (s : State) (f : Fld) (n : Nat) : (s.addWrap f n).bst = s.bst := rfl
@[simp] theorem State.addWrap_lcs (s : State) (f : Fld) (n : Nat) : (s.addWrap f n).lcs = s.lcs := rfl
@[simp] theorem State.addWrap_jtag (s : State) (f : Fld) (n : Nat) : (s.addWrap f n).jtag = s.jtag := rfl

@[simp] theorem State.wrI_pending (s : State) (f : Fld) (i : Int) : (s.wrI f i).pending = s.pending := rfl
@[simp] theorem State.wrI_mem (s : State) (f : Fld) (i : Int) : (s.wrI f i).mem = s.mem := rfl
@[simp] theorem State.wrI_sys (s : State) (f : Fld) (i : Int) : (s.wrI f i).sys = s.sys := rfl
@[simp] theorem State.wrI_mst (s : State) (f : Fld) (i : Int) : (s.wrI f i).mst = s.mst := rfl
@[simp] theorem State.wrI_xmc (s : State) (f : Fld) (i : Int) : (s.wrI f i).xmc = s.xmc := rfl
@[simp] theorem State.wrI_afe (s : State) (f : Fld) (i : Int) : (s.wrI f i).afe = s.afe := rfl
@[simp] theorem State.wrI_que (s : State) (f : Fld) (i : Int) : (s.wrI f i).que = s.que := rfl
@[simp] theorem State.wrI_nib (s : State) (f : Fld) (i : Int) : (s.wrI f i).nib = s.nib := rfl
@[simp] theorem State.wrI_chn (s : State) (f : Fld) (i : Int) : (s.wrI f i).chn = s.chn := rfl
@[simp] theorem State.wrI_scr (s : State) (f : Fld) (i : Int) : (s.wrI f i).scr = s.scr := rfl
@[simp] theorem State.wrI_fab (s : State) (f : Fld) (i : Int) : (s.wrI f i).fab = s.fab := rfl
@[simp] theorem State.wrI_cfg (s : State) (f : Fld) (i : Int) : (s.wrI f i).cfg = s.cfg := rfl
@[simp] theorem State.wrI_ufl (s : State) (f : Fld) (i : Int) : (s.wrI f i).ufl = s.ufl := rfl
@[simp] theorem State.wrI_net (s : State) (f : Fld) (i : Int) : (s.wrI f i).net = s.net := rfl
@[simp] theorem State.wrI_irq (s : State) (f : Fld) (i : Int) : (s.wrI f i).irq = s.irq := rfl
@[simp] theorem State.wrI_log (s : State) (f : Fld) (i : Int) : (s.wrI f i).log = s.log := rfl
@[simp] theorem State.wrI_pwr (s : State) (f : Fld) (i : Int) : (s.wrI f i).pwr = s.pwr := rfl
@[simp] theorem State.wrI_saf (s : State) (f : Fld) (i : Int) : (s.wrI f i).saf = s.saf := rfl
@[simp] theorem State.wrI_bst (s : State) (f : Fld) (i : Int) : (s.wrI f i).bst = s.bst := rfl
@[simp] theorem State.wrI_lcs (s : State) (f : Fld) (i : Int) : (s.wrI f i).lcs = s.lcs := rfl
@[simp] theorem State.wrI_jtag (s : State) (f : Fld) (i : Int) : (s.wrI f i).jtag = s.jtag := rfl

/-! ### Every other part under the model's own records -/

@[simp] theorem State.drawn_pending (s : State) : (s.drawn).pending = s.pending := rfl
@[simp] theorem State.drawn_regs (s : State) : (s.drawn).regs = s.regs := rfl
@[simp] theorem State.drawn_mem (s : State) : (s.drawn).mem = s.mem := rfl
@[simp] theorem State.drawn_mst (s : State) : (s.drawn).mst = s.mst := rfl
@[simp] theorem State.drawn_xmc (s : State) : (s.drawn).xmc = s.xmc := rfl
@[simp] theorem State.drawn_afe (s : State) : (s.drawn).afe = s.afe := rfl
@[simp] theorem State.drawn_que (s : State) : (s.drawn).que = s.que := rfl
@[simp] theorem State.drawn_nib (s : State) : (s.drawn).nib = s.nib := rfl
@[simp] theorem State.drawn_chn (s : State) : (s.drawn).chn = s.chn := rfl
@[simp] theorem State.drawn_scr (s : State) : (s.drawn).scr = s.scr := rfl
@[simp] theorem State.drawn_fab (s : State) : (s.drawn).fab = s.fab := rfl
@[simp] theorem State.drawn_cfg (s : State) : (s.drawn).cfg = s.cfg := rfl
@[simp] theorem State.drawn_ufl (s : State) : (s.drawn).ufl = s.ufl := rfl
@[simp] theorem State.drawn_net (s : State) : (s.drawn).net = s.net := rfl
@[simp] theorem State.drawn_irq (s : State) : (s.drawn).irq = s.irq := rfl
@[simp] theorem State.drawn_log (s : State) : (s.drawn).log = s.log := rfl
@[simp] theorem State.drawn_pwr (s : State) : (s.drawn).pwr = s.pwr := rfl
@[simp] theorem State.drawn_saf (s : State) : (s.drawn).saf = s.saf := rfl
@[simp] theorem State.drawn_bst (s : State) : (s.drawn).bst = s.bst := rfl
@[simp] theorem State.drawn_lcs (s : State) : (s.drawn).lcs = s.lcs := rfl
@[simp] theorem State.drawn_jtag (s : State) : (s.drawn).jtag = s.jtag := rfl
@[simp] theorem State.drawn_sys_phase (s : State) : (s.drawn).sys.phase = s.sys.phase := rfl
@[simp] theorem State.drawn_sys_resetLow (s : State) : (s.drawn).sys.resetLow = s.sys.resetLow := rfl
@[simp] theorem State.drawn_sys_kind (s : State) : (s.drawn).sys.kind = s.sys.kind := rfl
@[simp] theorem State.drawn_sys_checked (s : State) : (s.drawn).sys.checked = s.sys.checked := rfl
@[simp] theorem State.drawn_sys_pllRetries (s : State) : (s.drawn).sys.pllRetries = s.sys.pllRetries := rfl
@[simp] theorem State.drawn_sys_toStandby (s : State) : (s.drawn).sys.toStandby = s.sys.toStandby := rfl
@[simp] theorem State.drawn_sys_selfTest (s : State) : (s.drawn).sys.selfTest = s.sys.selfTest := rfl

@[simp] theorem State.ret_pending (s : State) (v : Nat) : (s.ret v).pending = s.pending := rfl
@[simp] theorem State.ret_regs (s : State) (v : Nat) : (s.ret v).regs = s.regs := rfl
@[simp] theorem State.ret_mem (s : State) (v : Nat) : (s.ret v).mem = s.mem := rfl
@[simp] theorem State.ret_mst (s : State) (v : Nat) : (s.ret v).mst = s.mst := rfl
@[simp] theorem State.ret_xmc (s : State) (v : Nat) : (s.ret v).xmc = s.xmc := rfl
@[simp] theorem State.ret_afe (s : State) (v : Nat) : (s.ret v).afe = s.afe := rfl
@[simp] theorem State.ret_que (s : State) (v : Nat) : (s.ret v).que = s.que := rfl
@[simp] theorem State.ret_nib (s : State) (v : Nat) : (s.ret v).nib = s.nib := rfl
@[simp] theorem State.ret_chn (s : State) (v : Nat) : (s.ret v).chn = s.chn := rfl
@[simp] theorem State.ret_scr (s : State) (v : Nat) : (s.ret v).scr = s.scr := rfl
@[simp] theorem State.ret_fab (s : State) (v : Nat) : (s.ret v).fab = s.fab := rfl
@[simp] theorem State.ret_cfg (s : State) (v : Nat) : (s.ret v).cfg = s.cfg := rfl
@[simp] theorem State.ret_ufl (s : State) (v : Nat) : (s.ret v).ufl = s.ufl := rfl
@[simp] theorem State.ret_net (s : State) (v : Nat) : (s.ret v).net = s.net := rfl
@[simp] theorem State.ret_irq (s : State) (v : Nat) : (s.ret v).irq = s.irq := rfl
@[simp] theorem State.ret_log (s : State) (v : Nat) : (s.ret v).log = s.log := rfl
@[simp] theorem State.ret_pwr (s : State) (v : Nat) : (s.ret v).pwr = s.pwr := rfl
@[simp] theorem State.ret_saf (s : State) (v : Nat) : (s.ret v).saf = s.saf := rfl
@[simp] theorem State.ret_bst (s : State) (v : Nat) : (s.ret v).bst = s.bst := rfl
@[simp] theorem State.ret_lcs (s : State) (v : Nat) : (s.ret v).lcs = s.lcs := rfl
@[simp] theorem State.ret_jtag (s : State) (v : Nat) : (s.ret v).jtag = s.jtag := rfl
@[simp] theorem State.ret_sys_phase (s : State) (v : Nat) : (s.ret v).sys.phase = s.sys.phase := rfl
@[simp] theorem State.ret_sys_resetLow (s : State) (v : Nat) : (s.ret v).sys.resetLow = s.sys.resetLow := rfl
@[simp] theorem State.ret_sys_kind (s : State) (v : Nat) : (s.ret v).sys.kind = s.sys.kind := rfl
@[simp] theorem State.ret_sys_checked (s : State) (v : Nat) : (s.ret v).sys.checked = s.sys.checked := rfl
@[simp] theorem State.ret_sys_pllRetries (s : State) (v : Nat) : (s.ret v).sys.pllRetries = s.sys.pllRetries := rfl
@[simp] theorem State.ret_sys_toStandby (s : State) (v : Nat) : (s.ret v).sys.toStandby = s.sys.toStandby := rfl
@[simp] theorem State.ret_sys_selfTest (s : State) (v : Nat) : (s.ret v).sys.selfTest = s.sys.selfTest := rfl

@[simp] theorem State.retErr_pending (s : State) (c : Nat) : (s.retErr c).pending = s.pending := rfl
@[simp] theorem State.retErr_regs (s : State) (c : Nat) : (s.retErr c).regs = s.regs := rfl
@[simp] theorem State.retErr_mem (s : State) (c : Nat) : (s.retErr c).mem = s.mem := rfl
@[simp] theorem State.retErr_mst (s : State) (c : Nat) : (s.retErr c).mst = s.mst := rfl
@[simp] theorem State.retErr_xmc (s : State) (c : Nat) : (s.retErr c).xmc = s.xmc := rfl
@[simp] theorem State.retErr_afe (s : State) (c : Nat) : (s.retErr c).afe = s.afe := rfl
@[simp] theorem State.retErr_que (s : State) (c : Nat) : (s.retErr c).que = s.que := rfl
@[simp] theorem State.retErr_nib (s : State) (c : Nat) : (s.retErr c).nib = s.nib := rfl
@[simp] theorem State.retErr_chn (s : State) (c : Nat) : (s.retErr c).chn = s.chn := rfl
@[simp] theorem State.retErr_scr (s : State) (c : Nat) : (s.retErr c).scr = s.scr := rfl
@[simp] theorem State.retErr_fab (s : State) (c : Nat) : (s.retErr c).fab = s.fab := rfl
@[simp] theorem State.retErr_cfg (s : State) (c : Nat) : (s.retErr c).cfg = s.cfg := rfl
@[simp] theorem State.retErr_ufl (s : State) (c : Nat) : (s.retErr c).ufl = s.ufl := rfl
@[simp] theorem State.retErr_net (s : State) (c : Nat) : (s.retErr c).net = s.net := rfl
@[simp] theorem State.retErr_irq (s : State) (c : Nat) : (s.retErr c).irq = s.irq := rfl
@[simp] theorem State.retErr_log (s : State) (c : Nat) : (s.retErr c).log = s.log := rfl
@[simp] theorem State.retErr_pwr (s : State) (c : Nat) : (s.retErr c).pwr = s.pwr := rfl
@[simp] theorem State.retErr_saf (s : State) (c : Nat) : (s.retErr c).saf = s.saf := rfl
@[simp] theorem State.retErr_bst (s : State) (c : Nat) : (s.retErr c).bst = s.bst := rfl
@[simp] theorem State.retErr_lcs (s : State) (c : Nat) : (s.retErr c).lcs = s.lcs := rfl
@[simp] theorem State.retErr_jtag (s : State) (c : Nat) : (s.retErr c).jtag = s.jtag := rfl
@[simp] theorem State.retErr_sys_phase (s : State) (c : Nat) : (s.retErr c).sys.phase = s.sys.phase := rfl
@[simp] theorem State.retErr_sys_resetLow (s : State) (c : Nat) : (s.retErr c).sys.resetLow = s.sys.resetLow := rfl
@[simp] theorem State.retErr_sys_kind (s : State) (c : Nat) : (s.retErr c).sys.kind = s.sys.kind := rfl
@[simp] theorem State.retErr_sys_checked (s : State) (c : Nat) : (s.retErr c).sys.checked = s.sys.checked := rfl
@[simp] theorem State.retErr_sys_pllRetries (s : State) (c : Nat) : (s.retErr c).sys.pllRetries = s.sys.pllRetries := rfl
@[simp] theorem State.retErr_sys_toStandby (s : State) (c : Nat) : (s.retErr c).sys.toStandby = s.sys.toStandby := rfl
@[simp] theorem State.retErr_sys_selfTest (s : State) (c : Nat) : (s.retErr c).sys.selfTest = s.sys.selfTest := rfl

@[simp] theorem State.ret_rdData (s : State) (v : Nat) : (s.ret v).sys.rdData = v := rfl
@[simp] theorem State.retErr_rdErr (s : State) (c : Nat) : (s.retErr c).sys.rdErr = c := rfl
@[simp] theorem State.ret_rd (s : State) (v : Nat) (f : Fld) : (s.ret v).rd f = s.rd f := rfl
@[simp] theorem State.retErr_rd (s : State) (c : Nat) (f : Fld) : (s.retErr c).rd f = s.rd f := rfl
@[simp] theorem State.drawn_rd (s : State) (f : Fld) : (s.drawn).rd f = s.rd f := rfl

/-! ### A register field under an update of any other part -/

@[simp] theorem State.rd_upd_pending (s : State) (x : List Sys2Proof.Instr) (f : Fld) : State.rd { s with pending := x } f = s.rd f := rfl
@[simp] theorem State.rd_upd_mem (s : State) (x : SMap MemWord) (f : Fld) : State.rd { s with mem := x } f = s.rd f := rfl
@[simp] theorem State.rd_upd_sys (s : State) (x : SysSt) (f : Fld) : State.rd { s with sys := x } f = s.rd f := rfl
@[simp] theorem State.rd_upd_mst (s : State) (x : MemSt) (f : Fld) : State.rd { s with mst := x } f = s.rd f := rfl
@[simp] theorem State.rd_upd_xmc (s : State) (x : XmcSt) (f : Fld) : State.rd { s with xmc := x } f = s.rd f := rfl
@[simp] theorem State.rd_upd_afe (s : State) (x : AfeSt) (f : Fld) : State.rd { s with afe := x } f = s.rd f := rfl
@[simp] theorem State.rd_upd_que (s : State) (x : QueSt) (f : Fld) : State.rd { s with que := x } f = s.rd f := rfl
@[simp] theorem State.rd_upd_nib (s : State) (x : NibSt) (f : Fld) : State.rd { s with nib := x } f = s.rd f := rfl
@[simp] theorem State.rd_upd_chn (s : State) (x : ChnSt) (f : Fld) : State.rd { s with chn := x } f = s.rd f := rfl
@[simp] theorem State.rd_upd_scr (s : State) (x : ScrSt) (f : Fld) : State.rd { s with scr := x } f = s.rd f := rfl
@[simp] theorem State.rd_upd_fab (s : State) (x : FabSt) (f : Fld) : State.rd { s with fab := x } f = s.rd f := rfl
@[simp] theorem State.rd_upd_cfg (s : State) (x : CfgSt) (f : Fld) : State.rd { s with cfg := x } f = s.rd f := rfl
@[simp] theorem State.rd_upd_ufl (s : State) (x : UflSt) (f : Fld) : State.rd { s with ufl := x } f = s.rd f := rfl
@[simp] theorem State.rd_upd_net (s : State) (x : NetSt) (f : Fld) : State.rd { s with net := x } f = s.rd f := rfl
@[simp] theorem State.rd_upd_irq (s : State) (x : IrqSt) (f : Fld) : State.rd { s with irq := x } f = s.rd f := rfl
@[simp] theorem State.rd_upd_log (s : State) (x : LogSt) (f : Fld) : State.rd { s with log := x } f = s.rd f := rfl
@[simp] theorem State.rd_upd_pwr (s : State) (x : PwrSt) (f : Fld) : State.rd { s with pwr := x } f = s.rd f := rfl
@[simp] theorem State.rd_upd_saf (s : State) (x : SafSt) (f : Fld) : State.rd { s with saf := x } f = s.rd f := rfl
@[simp] theorem State.rd_upd_bst (s : State) (x : BstSt) (f : Fld) : State.rd { s with bst := x } f = s.rd f := rfl
@[simp] theorem State.rd_upd_lcs (s : State) (x : LcsSt) (f : Fld) : State.rd { s with lcs := x } f = s.rd f := rfl
@[simp] theorem State.rd_upd_jtag (s : State) (x : JtagSt) (f : Fld) : State.rd { s with jtag := x } f = s.rd f := rfl

/-! ### The memories under an update of any other part -/

theorem State.mem_upd_pending (s : State) (x : List Sys2Proof.Instr) : State.mem { s with pending := x } = s.mem := rfl
theorem State.mem_upd_regs (s : State) (x : SMap Nat) : State.mem { s with regs := x } = s.mem := rfl
theorem State.mem_upd_sys (s : State) (x : SysSt) : State.mem { s with sys := x } = s.mem := rfl
theorem State.mem_upd_mst (s : State) (x : MemSt) : State.mem { s with mst := x } = s.mem := rfl
theorem State.mem_upd_xmc (s : State) (x : XmcSt) : State.mem { s with xmc := x } = s.mem := rfl
theorem State.mem_upd_afe (s : State) (x : AfeSt) : State.mem { s with afe := x } = s.mem := rfl
theorem State.mem_upd_que (s : State) (x : QueSt) : State.mem { s with que := x } = s.mem := rfl
theorem State.mem_upd_nib (s : State) (x : NibSt) : State.mem { s with nib := x } = s.mem := rfl
theorem State.mem_upd_chn (s : State) (x : ChnSt) : State.mem { s with chn := x } = s.mem := rfl
theorem State.mem_upd_scr (s : State) (x : ScrSt) : State.mem { s with scr := x } = s.mem := rfl
theorem State.mem_upd_fab (s : State) (x : FabSt) : State.mem { s with fab := x } = s.mem := rfl
theorem State.mem_upd_cfg (s : State) (x : CfgSt) : State.mem { s with cfg := x } = s.mem := rfl
theorem State.mem_upd_ufl (s : State) (x : UflSt) : State.mem { s with ufl := x } = s.mem := rfl
theorem State.mem_upd_net (s : State) (x : NetSt) : State.mem { s with net := x } = s.mem := rfl
theorem State.mem_upd_irq (s : State) (x : IrqSt) : State.mem { s with irq := x } = s.mem := rfl
theorem State.mem_upd_log (s : State) (x : LogSt) : State.mem { s with log := x } = s.mem := rfl
theorem State.mem_upd_pwr (s : State) (x : PwrSt) : State.mem { s with pwr := x } = s.mem := rfl
theorem State.mem_upd_saf (s : State) (x : SafSt) : State.mem { s with saf := x } = s.mem := rfl
theorem State.mem_upd_bst (s : State) (x : BstSt) : State.mem { s with bst := x } = s.mem := rfl
theorem State.mem_upd_lcs (s : State) (x : LcsSt) : State.mem { s with lcs := x } = s.mem := rfl
theorem State.mem_upd_jtag (s : State) (x : JtagSt) : State.mem { s with jtag := x } = s.mem := rfl

/-! ### Read after write of a register field -/

/-- A field reads what was written to it, cut to its width. -/
@[simp] theorem State.rd_wr (s : State) (f : Fld) (v : Nat) : (s.wr f v).rd f = v % 2 ^ f.w := by
  simp [State.wr, State.rd, mapGet, mapGet?_mapPut_self]

/-- A write of one field leaves every field with another key. -/
theorem State.rd_wr_ne (s : State) (f g : Fld) (v : Nat) (h : g.key ≠ f.key) : (s.wr f v).rd g = s.rd g := by
  simp [State.wr, State.rd, mapGet, mapGet?_mapPut_ne _ _ _ _ h]

/-- The mode under a write of another field. -/
theorem State.mode_wr_ne (s : State) (f : Fld) (v : Nat) (h : Fd.SYS_MODE_MODE.key ≠ f.key) : (s.wr f v).mode = s.mode :=
  State.rd_wr_ne s f _ v h

end Sys2Proof.Machine
end

