-- ==== Sys2Proof/Laws/Finish.lean ====
section
/-! SUPPORT. What ends every command: on a calm state it changes nothing, and which updates leave a state calm. -/
namespace Sys2Proof.Machine

open Sys2Proof

/-- The conditions of `State.quiet`, one by one. -/
theorem State.quiet_iff (s : State) : s.quiet = true ↔
    s.saf.due = [] ∧ s.rd Fd.SAF_ACTIVE_ACTIVE = 0 ∧ s.net.causes = [] ∧ (s.sys.phase = .over ∨ s.mode ≠ Md.safe) ∧
    s.net.resetComm = false ∧ s.net.srdoFault = [] ∧ (driving s.mode = false ∨ s.rd Fd.NET_SRDO_VALID_VALID = 0xA5) := by
  simp [State.quiet, List.isEmpty_iff, and_assoc]

/-- A calm state is quiet, and awake. -/
theorem State.calm_iff (s : State) : s.calm = true ↔ s.quiet = true ∧ s.pwr.sleep = .awake := by
  simp [State.calm]

theorem srdoJudge_of_quiet (s : State) (h : s.quiet = true) : srdoJudge s = s := by
  obtain ⟨_, _, _, _, _, h1, h2⟩ := (State.quiet_iff s).1 h
  unfold srdoJudge
  split
  · rw [← h1]
  · rename_i hd
    rcases h2 with h2 | h2
    · simp [h2] at hd
    · rw [if_pos h2, h1]
      simp only [List.filter_nil]
      rw [← h1]

theorem settle_of_quiet (s : State) (h : s.quiet = true) : settle s = s := by
  obtain ⟨h1, h2, h3, _⟩ := (State.quiet_iff s).1 h
  have a : settleLoop 16 s = s := by
    unfold settleLoop
    simp [h1]
  have b : safClean s = s := by simp [safClean, h2]
  have c : emcyRefresh s = s := by simp [emcyRefresh, h3]
  unfold settle
  rw [a, b, c]

/-- The end of a command changes nothing on a quiet state in which no wake is to start and none from S3 to continue. -/
theorem finish_of_quiet (s : State) (h : s.quiet = true) (h3 : s.pwr.sleep ≠ .waking 3)
    (hw : ∀ st, s.pwr.sleep = .asleep st → s.pwr.wake = 0) : finish s = s := by
  obtain ⟨_, _, _, h5, h6, _, _⟩ := (State.quiet_iff s).1 h
  have a : wakeStart s = s := by
    unfold wakeStart
    split
    · next st e => rw [if_pos (hw st e)]
    · rfl
  have b : s3Wake s = s := by
    unfold s3Wake
    split
    · next e => exact absurd e h3
    · rfl
  have c : bootSafe s = s := by
    unfold bootSafe
    rcases h5 with h5 | h5
    · simp [h5]
    · simp [h5]
  have d : commResume s = s := by simp [commResume, h6]
  unfold finish
  split
  · rfl
  rw [srdoJudge_of_quiet s h, settle_of_quiet s h, a, b, c, d, settle_of_quiet s h]

/-- The end of a command changes nothing on a calm state. -/
theorem finish_of_calm (s : State) (h : s.calm = true) : finish s = s := by
  obtain ⟨hq, h4⟩ := (State.calm_iff s).1 h
  exact finish_of_quiet s hq (by simp [h4]) (by simp [h4])

/-! ### The clocks (R13) -/

/-- The engine clock runs wherever the sys clock does, and the AON side wherever the engine clock does. -/
theorem engOn_of_sysOn (s : State) (h : sysOn s = true) : engOn s = true := by
  simp only [sysOn, Bool.and_eq_true] at h
  exact h.1.1

theorem clocked_of_engOn (s : State) (h : engOn s = true) : clocked s = true := by
  simp only [engOn, Bool.and_eq_true] at h
  exact h.1.1

theorem clocked_of_sysOn (s : State) (h : sysOn s = true) : clocked s = true := clocked_of_engOn s (engOn_of_sysOn s h)

/-- A command whose clock runs ends in its effect's end. -/
theorem gated_of_on (on : State → Bool) (f : State → State) (s : State) (h : on s = true) : gated on f s = .next (finish (f s)) := by
  simp [gated, h, nx]

/-- A command whose clock stands changes nothing. -/
theorem gated_of_off (on : State → Bool) (f : State → State) (s : State) (h : on s = false) : gated on f s = .next s := by
  simp [gated, h]

/-- A command whose clock runs and that leaves a calm state ends there. -/
theorem gated_of_calm (on : State → Bool) (f : State → State) (s : State) (h : on s = true) (hc : (f s).calm = true) :
    gated on f s = .next (f s) := by
  rw [gated_of_on on f s h, finish_of_calm _ hc]

/-- Every gated command ends in a next state. -/
theorem gated_next (on : State → Bool) (f : State → State) (s : State) : ∃ t, gated on f s = .next t := by
  unfold gated
  split
  · exact ⟨_, rfl⟩
  · exact ⟨_, rfl⟩

theorem clockedRun_of_clocked (f : State → State) (s : State) (h : clocked s = true) : clockedRun f s = .next (finish (f s)) :=
  gated_of_on clocked f s h
theorem engRun_of_engOn (f : State → State) (s : State) (h : engOn s = true) : engRun f s = .next (finish (f s)) :=
  gated_of_on engOn f s h
theorem sysRun_of_sysOn (f : State → State) (s : State) (h : sysOn s = true) : sysRun f s = .next (finish (f s)) :=
  gated_of_on sysOn f s h

/-! ### What keeps a state calm -/

/-- The fields on which `State.calm` rests. -/
def calmKeys : List Nat := [Fd.SAF_ACTIVE_ACTIVE.key, Fd.SYS_MODE_MODE.key, Fd.NET_SRDO_VALID_VALID.key]

/-- A write of another field keeps a state calm. -/
theorem State.calm_wr (s : State) (f : Fld) (v : Nat) (h : f.key ∉ calmKeys) : (s.wr f v).calm = s.calm := by
  simp only [calmKeys, List.mem_cons, List.not_mem_nil, or_false, not_or] at h
  unfold State.calm State.quiet State.mode
  rw [State.rd_wr_ne _ _ _ _ (Ne.symm h.1), State.rd_wr_ne _ _ _ _ (Ne.symm h.2.1), State.rd_wr_ne _ _ _ _ (Ne.symm h.2.2)]
  rfl

/-- A write of another field leaves the clocks. -/
theorem sysOn_wr (s : State) (f : Fld) (v : Nat) (h : Fd.SYS_MODE_MODE.key ≠ f.key) : sysOn (s.wr f v) = sysOn s := by
  unfold sysOn engOn clocked
  rw [State.mode_wr_ne s f v h]
  rfl

theorem clocked_wr (s : State) (f : Fld) (v : Nat) (h : Fd.SYS_MODE_MODE.key ≠ f.key) : clocked (s.wr f v) = clocked s := by
  unfold clocked
  rw [State.mode_wr_ne s f v h]
  rfl

/-- What a read returned does not matter to a calm state. -/
@[simp] theorem State.calm_ret (s : State) (v : Nat) : (s.ret v).calm = s.calm := rfl
@[simp] theorem State.calm_retErr (s : State) (c : Nat) : (s.retErr c).calm = s.calm := rfl
@[simp] theorem State.calm_drawn (s : State) : (s.drawn).calm = s.calm := rfl
@[simp] theorem State.calm_pending (s : State) (l : List Instr) : State.calm { s with pending := l } = s.calm := rfl

end Sys2Proof.Machine
end

