-- ==== Sys2Proof/Laws/Memory.lean ====
section
/-! SUPPORT. Every operation over the memories keeps their canonical form, and State.reset has it. -/
namespace Sys2Proof.Machine

open Sys2Proof

theorem mput_wf (s : State) (k : Nat) (w : MemWord) (h : Memory.wf s.mem = true) : Memory.wf (s.mput k w).mem = true := by
  have a : ∀ u : State, u.mem = s.mem →
      Memory.wf (match borrowed? u.bst.slice k with
        | some t => match mapGet? u.bst.slice t with
          | some sl => { u with bst := { u.bst with slice := mapPut u.bst.slice t { sl with saved := mapPut sl.saved k w } } }
          | none => u
        | none => match mapGet? u.mst.spares k with
          | some _ => { u with mst := { u.mst with spares := mapPut u.mst.spares k w } }
          | none => { u with mem := mapSet 0 u.mem k w } : State).mem = true := by
    intro u hu
    split
    · split
      · simpa [hu] using h
      · simpa [hu] using h
    · split
      · simpa [hu] using h
      · show mapCanon 0 (mapSet 0 u.mem k w) = true
        rw [hu]
        exact mapCanon_mapSet 0 s.mem k w h
  unfold State.mput
  apply a
  split
  · rfl
  · rfl

theorem mwrite_wf (s : State) (m i : Nat) (d : W64) (h : Memory.wf s.mem = true) : Memory.wf (s.mwrite m i d).mem = true := by
  unfold State.mwrite
  apply mput_wf
  split
  · exact h
  · exact h

theorem touchWord_mem (m i : Nat) (s : State) : (touchWord m i s).mem = s.mem := rfl

theorem retUnmerge_mem (m i : Nat) (s : State) : (retUnmerge m i s).mem = s.mem := by
  unfold retUnmerge
  split
  · split <;> rfl
  · rfl

theorem retMerge_mem (m i : Nat) (d : W64) (s : State) : (retMerge m i d s).mem = s.mem := by
  unfold retMerge
  split <;> rfl

theorem writeWord_wf (m i : Nat) (d : W64) (s : State) (h : Memory.wf s.mem = true) : Memory.wf (writeWord m i d s).mem = true :=
  mwrite_wf _ m i d (by rw [touchWord_mem, retUnmerge_mem]; exact h)

theorem poisonWord_wf (m i : Nat) (s : State) (h : Memory.wf s.mem = true) : Memory.wf (poisonWord m i s).mem = true :=
  mput_wf s _ _ h

theorem mergeStore_wf (k : Nat) (s : State) (h : Memory.wf s.mem = true) : Memory.wf (mergeStore k s).mem = true := by
  unfold mergeStore
  split
  · exact mput_wf _ _ _ (by show Memory.wf (retUnmerge _ _ s).mem = true; rw [retUnmerge_mem]; exact h)
  · exact h

theorem mergeFlush_wf (m : Nat) (s : State) (h : Memory.wf s.mem = true) : Memory.wf (mergeFlush m s).mem = true := by
  unfold mergeFlush
  split
  · exact mergeStore_wf _ _ h
  · exact h

theorem reset_mem_wf : Memory.wf State.reset.mem = true := rfl

end Sys2Proof.Machine
end

