-- ==== Sys2Proof/Laws/Frames.lean ====
section
/-! SUPPORT. What the shared operations that raise something can change: interrupt sources, wake events, captures, error notes, safety inputs,
log requests, emergency messages. One lemma for every part they leave alone. -/
namespace Sys2Proof.Machine

open Sys2Proof

@[simp] theorem irqModStep_pending (s : State) (t m0 m1 : Nat) : (irqModStep s t m0 m1).pending = s.pending := by
  unfold irqModStep irqTimerStart; (repeat' split) <;> simp
@[simp] theorem irqModStep_mem (s : State) (t m0 m1 : Nat) : (irqModStep s t m0 m1).mem = s.mem := by
  unfold irqModStep irqTimerStart; (repeat' split) <;> simp
@[simp] theorem irqModStep_sys (s : State) (t m0 m1 : Nat) : (irqModStep s t m0 m1).sys = s.sys := by
  unfold irqModStep irqTimerStart; (repeat' split) <;> simp
@[simp] theorem irqModStep_mst (s : State) (t m0 m1 : Nat) : (irqModStep s t m0 m1).mst = s.mst := by
  unfold irqModStep irqTimerStart; (repeat' split) <;> simp
@[simp] theorem irqModStep_xmc (s : State) (t m0 m1 : Nat) : (irqModStep s t m0 m1).xmc = s.xmc := by
  unfold irqModStep irqTimerStart; (repeat' split) <;> simp
@[simp] theorem irqModStep_afe (s : State) (t m0 m1 : Nat) : (irqModStep s t m0 m1).afe = s.afe := by
  unfold irqModStep irqTimerStart; (repeat' split) <;> simp
@[simp] theorem irqModStep_que (s : State) (t m0 m1 : Nat) : (irqModStep s t m0 m1).que = s.que := by
  unfold irqModStep irqTimerStart; (repeat' split) <;> simp
@[simp] theorem irqModStep_nib (s : State) (t m0 m1 : Nat) : (irqModStep s t m0 m1).nib = s.nib := by
  unfold irqModStep irqTimerStart; (repeat' split) <;> simp
@[simp] theorem irqModStep_chn (s : State) (t m0 m1 : Nat) : (irqModStep s t m0 m1).chn = s.chn := by
  unfold irqModStep irqTimerStart; (repeat' split) <;> simp
@[simp] theorem irqModStep_scr (s : State) (t m0 m1 : Nat) : (irqModStep s t m0 m1).scr = s.scr := by
  unfold irqModStep irqTimerStart; (repeat' split) <;> simp
@[simp] theorem irqModStep_fab (s : State) (t m0 m1 : Nat) : (irqModStep s t m0 m1).fab = s.fab := by
  unfold irqModStep irqTimerStart; (repeat' split) <;> simp
@[simp] theorem irqModStep_cfg (s : State) (t m0 m1 : Nat) : (irqModStep s t m0 m1).cfg = s.cfg := by
  unfold irqModStep irqTimerStart; (repeat' split) <;> simp
@[simp] theorem irqModStep_ufl (s : State) (t m0 m1 : Nat) : (irqModStep s t m0 m1).ufl = s.ufl := by
  unfold irqModStep irqTimerStart; (repeat' split) <;> simp
@[simp] theorem irqModStep_net (s : State) (t m0 m1 : Nat) : (irqModStep s t m0 m1).net = s.net := by
  unfold irqModStep irqTimerStart; (repeat' split) <;> simp
@[simp] theorem irqModStep_log (s : State) (t m0 m1 : Nat) : (irqModStep s t m0 m1).log = s.log := by
  unfold irqModStep irqTimerStart; (repeat' split) <;> simp
@[simp] theorem irqModStep_pwr (s : State) (t m0 m1 : Nat) : (irqModStep s t m0 m1).pwr = s.pwr := by
  unfold irqModStep irqTimerStart; (repeat' split) <;> simp
@[simp] theorem irqModStep_saf (s : State) (t m0 m1 : Nat) : (irqModStep s t m0 m1).saf = s.saf := by
  unfold irqModStep irqTimerStart; (repeat' split) <;> simp
@[simp] theorem irqModStep_bst (s : State) (t m0 m1 : Nat) : (irqModStep s t m0 m1).bst = s.bst := by
  unfold irqModStep irqTimerStart; (repeat' split) <;> simp
@[simp] theorem irqModStep_lcs (s : State) (t m0 m1 : Nat) : (irqModStep s t m0 m1).lcs = s.lcs := by
  unfold irqModStep irqTimerStart; (repeat' split) <;> simp
@[simp] theorem irqModStep_jtag (s : State) (t m0 m1 : Nat) : (irqModStep s t m0 m1).jtag = s.jtag := by
  unfold irqModStep irqTimerStart; (repeat' split) <;> simp

theorem irqSetSrc_keep {β : Type} (g : State → β) (hw : ∀ (s : State) (t a b : Nat), g (irqModStep s t a b) = g s)
    (hi : ∀ (s : State) (x : IrqSt), g { s with irq := x } = g s) (s : State) (src : SMap IrqSrc) : g (irqSetSrc s src) = g s := by
  unfold irqSetSrc
  have key : ∀ (l : List Nat) (u : State), g u = g s →
      g (l.foldl (fun u t => if irqM s s.irq.src t = irqM s src t then u else irqModStep u t (irqM s s.irq.src t) (irqM s src t)) u) = g s := by
    intro l
    induction l with
    | nil => intro u h; exact h
    | cons a r ih =>
      intro u h
      simp only [List.foldl_cons]
      apply ih
      split
      · exact h
      · rw [hw, h]
  exact key _ _ (hi s _)

@[simp] theorem irqSetSrc_pending (s : State) (src : SMap IrqSrc) : (irqSetSrc s src).pending = s.pending :=
  irqSetSrc_keep State.pending (fun s a b c => irqModStep_pending s a b c) (fun _ _ => rfl) s src
@[simp] theorem irqSetSrc_mem (s : State) (src : SMap IrqSrc) : (irqSetSrc s src).mem = s.mem :=
  irqSetSrc_keep State.mem (fun s a b c => irqModStep_mem s a b c) (fun _ _ => rfl) s src
@[simp] theorem irqSetSrc_sys (s : State) (src : SMap IrqSrc) : (irqSetSrc s src).sys = s.sys :=
  irqSetSrc_keep State.sys (fun s a b c => irqModStep_sys s a b c) (fun _ _ => rfl) s src
@[simp] theorem irqSetSrc_mst (s : State) (src : SMap IrqSrc) : (irqSetSrc s src).mst = s.mst :=
  irqSetSrc_keep State.mst (fun s a b c => irqModStep_mst s a b c) (fun _ _ => rfl) s src
@[simp] theorem irqSetSrc_xmc (s : State) (src : SMap IrqSrc) : (irqSetSrc s src).xmc = s.xmc :=
  irqSetSrc_keep State.xmc (fun s a b c => irqModStep_xmc s a b c) (fun _ _ => rfl) s src
@[simp] theorem irqSetSrc_afe (s : State) (src : SMap IrqSrc) : (irqSetSrc s src).afe = s.afe :=
  irqSetSrc_keep State.afe (fun s a b c => irqModStep_afe s a b c) (fun _ _ => rfl) s src
@[simp] theorem irqSetSrc_que (s : State) (src : SMap IrqSrc) : (irqSetSrc s src).que = s.que :=
  irqSetSrc_keep State.que (fun s a b c => irqModStep_que s a b c) (fun _ _ => rfl) s src
@[simp] theorem irqSetSrc_nib (s : State) (src : SMap IrqSrc) : (irqSetSrc s src).nib = s.nib :=
  irqSetSrc_keep State.nib (fun s a b c => irqModStep_nib s a b c) (fun _ _ => rfl) s src
@[simp] theorem irqSetSrc_chn (s : State) (src : SMap IrqSrc) : (irqSetSrc s src).chn = s.chn :=
  irqSetSrc_keep State.chn (fun s a b c => irqModStep_chn s a b c) (fun _ _ => rfl) s src
@[simp] theorem irqSetSrc_scr (s : State) (src : SMap IrqSrc) : (irqSetSrc s src).scr = s.scr :=
  irqSetSrc_keep State.scr (fun s a b c => irqModStep_scr s a b c) (fun _ _ => rfl) s src
@[simp] theorem irqSetSrc_fab (s : State) (src : SMap IrqSrc) : (irqSetSrc s src).fab = s.fab :=
  irqSetSrc_keep State.fab (fun s a b c => irqModStep_fab s a b c) (fun _ _ => rfl) s src
@[simp] theorem irqSetSrc_cfg (s : State) (src : SMap IrqSrc) : (irqSetSrc s src).cfg = s.cfg :=
  irqSetSrc_keep State.cfg (fun s a b c => irqModStep_cfg s a b c) (fun _ _ => rfl) s src
@[simp] theorem irqSetSrc_ufl (s : State) (src : SMap IrqSrc) : (irqSetSrc s src).ufl = s.ufl :=
  irqSetSrc_keep State.ufl (fun s a b c => irqModStep_ufl s a b c) (fun _ _ => rfl) s src
@[simp] theorem irqSetSrc_net (s : State) (src : SMap IrqSrc) : (irqSetSrc s src).net = s.net :=
  irqSetSrc_keep State.net (fun s a b c => irqModStep_net s a b c) (fun _ _ => rfl) s src
@[simp] theorem irqSetSrc_log (s : State) (src : SMap IrqSrc) : (irqSetSrc s src).log = s.log :=
  irqSetSrc_keep State.log (fun s a b c => irqModStep_log s a b c) (fun _ _ => rfl) s src
@[simp] theorem irqSetSrc_pwr (s : State) (src : SMap IrqSrc) : (irqSetSrc s src).pwr = s.pwr :=
  irqSetSrc_keep State.pwr (fun s a b c => irqModStep_pwr s a b c) (fun _ _ => rfl) s src
@[simp] theorem irqSetSrc_saf (s : State) (src : SMap IrqSrc) : (irqSetSrc s src).saf = s.saf :=
  irqSetSrc_keep State.saf (fun s a b c => irqModStep_saf s a b c) (fun _ _ => rfl) s src
@[simp] theorem irqSetSrc_bst (s : State) (src : SMap IrqSrc) : (irqSetSrc s src).bst = s.bst :=
  irqSetSrc_keep State.bst (fun s a b c => irqModStep_bst s a b c) (fun _ _ => rfl) s src
@[simp] theorem irqSetSrc_lcs (s : State) (src : SMap IrqSrc) : (irqSetSrc s src).lcs = s.lcs :=
  irqSetSrc_keep State.lcs (fun s a b c => irqModStep_lcs s a b c) (fun _ _ => rfl) s src
@[simp] theorem irqSetSrc_jtag (s : State) (src : SMap IrqSrc) : (irqSetSrc s src).jtag = s.jtag :=
  irqSetSrc_keep State.jtag (fun s a b c => irqModStep_jtag s a b c) (fun _ _ => rfl) s src

@[simp] theorem wakeLatch_pending (s : State) (k b c : Nat) : (wakeLatch s k b c).pending = s.pending := by
  simp [wakeLatch, apply_ite State.pending]
@[simp] theorem wakeLatch_mem (s : State) (k b c : Nat) : (wakeLatch s k b c).mem = s.mem := by
  simp [wakeLatch, apply_ite State.mem]
@[simp] theorem wakeLatch_sys (s : State) (k b c : Nat) : (wakeLatch s k b c).sys = s.sys := by
  simp [wakeLatch, apply_ite State.sys]
@[simp] theorem wakeLatch_mst (s : State) (k b c : Nat) : (wakeLatch s k b c).mst = s.mst := by
  simp [wakeLatch, apply_ite State.mst]
@[simp] theorem wakeLatch_xmc (s : State) (k b c : Nat) : (wakeLatch s k b c).xmc = s.xmc := by
  simp [wakeLatch, apply_ite State.xmc]
@[simp] theorem wakeLatch_afe (s : State) (k b c : Nat) : (wakeLatch s k b c).afe = s.afe := by
  simp [wakeLatch, apply_ite State.afe]
@[simp] theorem wakeLatch_que (s : State) (k b c : Nat) : (wakeLatch s k b c).que = s.que := by
  simp [wakeLatch, apply_ite State.que]
@[simp] theorem wakeLatch_nib (s : State) (k b c : Nat) : (wakeLatch s k b c).nib = s.nib := by
  simp [wakeLatch, apply_ite State.nib]
@[simp] theorem wakeLatch_chn (s : State) (k b c : Nat) : (wakeLatch s k b c).chn = s.chn := by
  simp [wakeLatch, apply_ite State.chn]
@[simp] theorem wakeLatch_scr (s : State) (k b c : Nat) : (wakeLatch s k b c).scr = s.scr := by
  simp [wakeLatch, apply_ite State.scr]
@[simp] theorem wakeLatch_fab (s : State) (k b c : Nat) : (wakeLatch s k b c).fab = s.fab := by
  simp [wakeLatch, apply_ite State.fab]
@[simp] theorem wakeLatch_cfg (s : State) (k b c : Nat) : (wakeLatch s k b c).cfg = s.cfg := by
  simp [wakeLatch, apply_ite State.cfg]
@[simp] theorem wakeLatch_ufl (s : State) (k b c : Nat) : (wakeLatch s k b c).ufl = s.ufl := by
  simp [wakeLatch, apply_ite State.ufl]
@[simp] theorem wakeLatch_net (s : State) (k b c : Nat) : (wakeLatch s k b c).net = s.net := by
  simp [wakeLatch, apply_ite State.net]
@[simp] theorem wakeLatch_irq (s : State) (k b c : Nat) : (wakeLatch s k b c).irq = s.irq := by
  simp [wakeLatch, apply_ite State.irq]
@[simp] theorem wakeLatch_log (s : State) (k b c : Nat) : (wakeLatch s k b c).log = s.log := by
  simp [wakeLatch, apply_ite State.log]
@[simp] theorem wakeLatch_saf (s : State) (k b c : Nat) : (wakeLatch s k b c).saf = s.saf := by
  simp [wakeLatch, apply_ite State.saf]
@[simp] theorem wakeLatch_bst (s : State) (k b c : Nat) : (wakeLatch s k b c).bst = s.bst := by
  simp [wakeLatch, apply_ite State.bst]
@[simp] theorem wakeLatch_lcs (s : State) (k b c : Nat) : (wakeLatch s k b c).lcs = s.lcs := by
  simp [wakeLatch, apply_ite State.lcs]
@[simp] theorem wakeLatch_jtag (s : State) (k b c : Nat) : (wakeLatch s k b c).jtag = s.jtag := by
  simp [wakeLatch, apply_ite State.jtag]

@[simp] theorem irqWake_pending (s : State) (i : Nat) : (irqWake s i).pending = s.pending := by
  unfold irqWake; (repeat' split) <;> simp
@[simp] theorem irqWake_mem (s : State) (i : Nat) : (irqWake s i).mem = s.mem := by
  unfold irqWake; (repeat' split) <;> simp
@[simp] theorem irqWake_sys (s : State) (i : Nat) : (irqWake s i).sys = s.sys := by
  unfold irqWake; (repeat' split) <;> simp
@[simp] theorem irqWake_mst (s : State) (i : Nat) : (irqWake s i).mst = s.mst := by
  unfold irqWake; (repeat' split) <;> simp
@[simp] theorem irqWake_xmc (s : State) (i : Nat) : (irqWake s i).xmc = s.xmc := by
  unfold irqWake; (repeat' split) <;> simp
@[simp] theorem irqWake_afe (s : State) (i : Nat) : (irqWake s i).afe = s.afe := by
  unfold irqWake; (repeat' split) <;> simp
@[simp] theorem irqWake_que (s : State) (i : Nat) : (irqWake s i).que = s.que := by
  unfold irqWake; (repeat' split) <;> simp
@[simp] theorem irqWake_nib (s : State) (i : Nat) : (irqWake s i).nib = s.nib := by
  unfold irqWake; (repeat' split) <;> simp
@[simp] theorem irqWake_chn (s : State) (i : Nat) : (irqWake s i).chn = s.chn := by
  unfold irqWake; (repeat' split) <;> simp
@[simp] theorem irqWake_scr (s : State) (i : Nat) : (irqWake s i).scr = s.scr := by
  unfold irqWake; (repeat' split) <;> simp
@[simp] theorem irqWake_fab (s : State) (i : Nat) : (irqWake s i).fab = s.fab := by
  unfold irqWake; (repeat' split) <;> simp
@[simp] theorem irqWake_cfg (s : State) (i : Nat) : (irqWake s i).cfg = s.cfg := by
  unfold irqWake; (repeat' split) <;> simp
@[simp] theorem irqWake_ufl (s : State) (i : Nat) : (irqWake s i).ufl = s.ufl := by
  unfold irqWake; (repeat' split) <;> simp
@[simp] theorem irqWake_net (s : State) (i : Nat) : (irqWake s i).net = s.net := by
  unfold irqWake; (repeat' split) <;> simp
@[simp] theorem irqWake_irq (s : State) (i : Nat) : (irqWake s i).irq = s.irq := by
  unfold irqWake; (repeat' split) <;> simp
@[simp] theorem irqWake_log (s : State) (i : Nat) : (irqWake s i).log = s.log := by
  unfold irqWake; (repeat' split) <;> simp
@[simp] theorem irqWake_saf (s : State) (i : Nat) : (irqWake s i).saf = s.saf := by
  unfold irqWake; (repeat' split) <;> simp
@[simp] theorem irqWake_bst (s : State) (i : Nat) : (irqWake s i).bst = s.bst := by
  unfold irqWake; (repeat' split) <;> simp
@[simp] theorem irqWake_lcs (s : State) (i : Nat) : (irqWake s i).lcs = s.lcs := by
  unfold irqWake; (repeat' split) <;> simp
@[simp] theorem irqWake_jtag (s : State) (i : Nat) : (irqWake s i).jtag = s.jtag := by
  unfold irqWake; (repeat' split) <;> simp

@[simp] theorem irqEvent_pending (s : State) (i : Nat) : (irqEvent i s).pending = s.pending := by
  unfold irqEvent; (repeat' split) <;> simp
@[simp] theorem irqEvent_mem (s : State) (i : Nat) : (irqEvent i s).mem = s.mem := by
  unfold irqEvent; (repeat' split) <;> simp
@[simp] theorem irqEvent_sys (s : State) (i : Nat) : (irqEvent i s).sys = s.sys := by
  unfold irqEvent; (repeat' split) <;> simp
@[simp] theorem irqEvent_mst (s : State) (i : Nat) : (irqEvent i s).mst = s.mst := by
  unfold irqEvent; (repeat' split) <;> simp
@[simp] theorem irqEvent_xmc (s : State) (i : Nat) : (irqEvent i s).xmc = s.xmc := by
  unfold irqEvent; (repeat' split) <;> simp
@[simp] theorem irqEvent_afe (s : State) (i : Nat) : (irqEvent i s).afe = s.afe := by
  unfold irqEvent; (repeat' split) <;> simp
@[simp] theorem irqEvent_que (s : State) (i : Nat) : (irqEvent i s).que = s.que := by
  unfold irqEvent; (repeat' split) <;> simp
@[simp] theorem irqEvent_nib (s : State) (i : Nat) : (irqEvent i s).nib = s.nib := by
  unfold irqEvent; (repeat' split) <;> simp
@[simp] theorem irqEvent_chn (s : State) (i : Nat) : (irqEvent i s).chn = s.chn := by
  unfold irqEvent; (repeat' split) <;> simp
@[simp] theorem irqEvent_scr (s : State) (i : Nat) : (irqEvent i s).scr = s.scr := by
  unfold irqEvent; (repeat' split) <;> simp
@[simp] theorem irqEvent_fab (s : State) (i : Nat) : (irqEvent i s).fab = s.fab := by
  unfold irqEvent; (repeat' split) <;> simp
@[simp] theorem irqEvent_cfg (s : State) (i : Nat) : (irqEvent i s).cfg = s.cfg := by
  unfold irqEvent; (repeat' split) <;> simp
@[simp] theorem irqEvent_ufl (s : State) (i : Nat) : (irqEvent i s).ufl = s.ufl := by
  unfold irqEvent; (repeat' split) <;> simp
@[simp] theorem irqEvent_net (s : State) (i : Nat) : (irqEvent i s).net = s.net := by
  unfold irqEvent; (repeat' split) <;> simp
@[simp] theorem irqEvent_log (s : State) (i : Nat) : (irqEvent i s).log = s.log := by
  unfold irqEvent; (repeat' split) <;> simp
@[simp] theorem irqEvent_saf (s : State) (i : Nat) : (irqEvent i s).saf = s.saf := by
  unfold irqEvent; (repeat' split) <;> simp
@[simp] theorem irqEvent_bst (s : State) (i : Nat) : (irqEvent i s).bst = s.bst := by
  unfold irqEvent; (repeat' split) <;> simp
@[simp] theorem irqEvent_lcs (s : State) (i : Nat) : (irqEvent i s).lcs = s.lcs := by
  unfold irqEvent; (repeat' split) <;> simp
@[simp] theorem irqEvent_jtag (s : State) (i : Nat) : (irqEvent i s).jtag = s.jtag := by
  unfold irqEvent; (repeat' split) <;> simp

@[simp] theorem irqJudge_pending (s : State) (i : Nat) : (irqJudge i s).pending = s.pending := by
  unfold irqJudge; (repeat' split) <;> simp
@[simp] theorem irqJudge_mem (s : State) (i : Nat) : (irqJudge i s).mem = s.mem := by
  unfold irqJudge; (repeat' split) <;> simp
@[simp] theorem irqJudge_sys (s : State) (i : Nat) : (irqJudge i s).sys = s.sys := by
  unfold irqJudge; (repeat' split) <;> simp
@[simp] theorem irqJudge_mst (s : State) (i : Nat) : (irqJudge i s).mst = s.mst := by
  unfold irqJudge; (repeat' split) <;> simp
@[simp] theorem irqJudge_xmc (s : State) (i : Nat) : (irqJudge i s).xmc = s.xmc := by
  unfold irqJudge; (repeat' split) <;> simp
@[simp] theorem irqJudge_afe (s : State) (i : Nat) : (irqJudge i s).afe = s.afe := by
  unfold irqJudge; (repeat' split) <;> simp
@[simp] theorem irqJudge_que (s : State) (i : Nat) : (irqJudge i s).que = s.que := by
  unfold irqJudge; (repeat' split) <;> simp
@[simp] theorem irqJudge_nib (s : State) (i : Nat) : (irqJudge i s).nib = s.nib := by
  unfold irqJudge; (repeat' split) <;> simp
@[simp] theorem irqJudge_chn (s : State) (i : Nat) : (irqJudge i s).chn = s.chn := by
  unfold irqJudge; (repeat' split) <;> simp
@[simp] theorem irqJudge_scr (s : State) (i : Nat) : (irqJudge i s).scr = s.scr := by
  unfold irqJudge; (repeat' split) <;> simp
@[simp] theorem irqJudge_fab (s : State) (i : Nat) : (irqJudge i s).fab = s.fab := by
  unfold irqJudge; (repeat' split) <;> simp
@[simp] theorem irqJudge_cfg (s : State) (i : Nat) : (irqJudge i s).cfg = s.cfg := by
  unfold irqJudge; (repeat' split) <;> simp
@[simp] theorem irqJudge_ufl (s : State) (i : Nat) : (irqJudge i s).ufl = s.ufl := by
  unfold irqJudge; (repeat' split) <;> simp
@[simp] theorem irqJudge_net (s : State) (i : Nat) : (irqJudge i s).net = s.net := by
  unfold irqJudge; (repeat' split) <;> simp
@[simp] theorem irqJudge_log (s : State) (i : Nat) : (irqJudge i s).log = s.log := by
  unfold irqJudge; (repeat' split) <;> simp
@[simp] theorem irqJudge_saf (s : State) (i : Nat) : (irqJudge i s).saf = s.saf := by
  unfold irqJudge; (repeat' split) <;> simp
@[simp] theorem irqJudge_bst (s : State) (i : Nat) : (irqJudge i s).bst = s.bst := by
  unfold irqJudge; (repeat' split) <;> simp
@[simp] theorem irqJudge_lcs (s : State) (i : Nat) : (irqJudge i s).lcs = s.lcs := by
  unfold irqJudge; (repeat' split) <;> simp
@[simp] theorem irqJudge_jtag (s : State) (i : Nat) : (irqJudge i s).jtag = s.jtag := by
  unfold irqJudge; (repeat' split) <;> simp

@[simp] theorem memStat_pending (s : State) (f : Fld) : (memStat f s).pending = s.pending := by
  simp [memStat]
@[simp] theorem memStat_mem (s : State) (f : Fld) : (memStat f s).mem = s.mem := by
  simp [memStat]
@[simp] theorem memStat_sys (s : State) (f : Fld) : (memStat f s).sys = s.sys := by
  simp [memStat]
@[simp] theorem memStat_mst (s : State) (f : Fld) : (memStat f s).mst = s.mst := by
  simp [memStat]
@[simp] theorem memStat_xmc (s : State) (f : Fld) : (memStat f s).xmc = s.xmc := by
  simp [memStat]
@[simp] theorem memStat_afe (s : State) (f : Fld) : (memStat f s).afe = s.afe := by
  simp [memStat]
@[simp] theorem memStat_que (s : State) (f : Fld) : (memStat f s).que = s.que := by
  simp [memStat]
@[simp] theorem memStat_nib (s : State) (f : Fld) : (memStat f s).nib = s.nib := by
  simp [memStat]
@[simp] theorem memStat_chn (s : State) (f : Fld) : (memStat f s).chn = s.chn := by
  simp [memStat]
@[simp] theorem memStat_scr (s : State) (f : Fld) : (memStat f s).scr = s.scr := by
  simp [memStat]
@[simp] theorem memStat_fab (s : State) (f : Fld) : (memStat f s).fab = s.fab := by
  simp [memStat]
@[simp] theorem memStat_cfg (s : State) (f : Fld) : (memStat f s).cfg = s.cfg := by
  simp [memStat]
@[simp] theorem memStat_ufl (s : State) (f : Fld) : (memStat f s).ufl = s.ufl := by
  simp [memStat]
@[simp] theorem memStat_net (s : State) (f : Fld) : (memStat f s).net = s.net := by
  simp [memStat]
@[simp] theorem memStat_log (s : State) (f : Fld) : (memStat f s).log = s.log := by
  simp [memStat]
@[simp] theorem memStat_saf (s : State) (f : Fld) : (memStat f s).saf = s.saf := by
  simp [memStat]
@[simp] theorem memStat_bst (s : State) (f : Fld) : (memStat f s).bst = s.bst := by
  simp [memStat]
@[simp] theorem memStat_lcs (s : State) (f : Fld) : (memStat f s).lcs = s.lcs := by
  simp [memStat]
@[simp] theorem memStat_jtag (s : State) (f : Fld) : (memStat f s).jtag = s.jtag := by
  simp [memStat]

@[simp] theorem memCap_pending (s : State) (k m a c : Nat) : (memCap k m a c s).pending = s.pending := by
  unfold memCap; split <;> simp
@[simp] theorem memCap_mem (s : State) (k m a c : Nat) : (memCap k m a c s).mem = s.mem := by
  unfold memCap; split <;> simp
@[simp] theorem memCap_sys (s : State) (k m a c : Nat) : (memCap k m a c s).sys = s.sys := by
  unfold memCap; split <;> simp
@[simp] theorem memCap_mst (s : State) (k m a c : Nat) : (memCap k m a c s).mst = s.mst := by
  unfold memCap; split <;> simp
@[simp] theorem memCap_xmc (s : State) (k m a c : Nat) : (memCap k m a c s).xmc = s.xmc := by
  unfold memCap; split <;> simp
@[simp] theorem memCap_afe (s : State) (k m a c : Nat) : (memCap k m a c s).afe = s.afe := by
  unfold memCap; split <;> simp
@[simp] theorem memCap_que (s : State) (k m a c : Nat) : (memCap k m a c s).que = s.que := by
  unfold memCap; split <;> simp
@[simp] theorem memCap_nib (s : State) (k m a c : Nat) : (memCap k m a c s).nib = s.nib := by
  unfold memCap; split <;> simp
@[simp] theorem memCap_chn (s : State) (k m a c : Nat) : (memCap k m a c s).chn = s.chn := by
  unfold memCap; split <;> simp
@[simp] theorem memCap_scr (s : State) (k m a c : Nat) : (memCap k m a c s).scr = s.scr := by
  unfold memCap; split <;> simp
@[simp] theorem memCap_fab (s : State) (k m a c : Nat) : (memCap k m a c s).fab = s.fab := by
  unfold memCap; split <;> simp
@[simp] theorem memCap_cfg (s : State) (k m a c : Nat) : (memCap k m a c s).cfg = s.cfg := by
  unfold memCap; split <;> simp
@[simp] theorem memCap_ufl (s : State) (k m a c : Nat) : (memCap k m a c s).ufl = s.ufl := by
  unfold memCap; split <;> simp
@[simp] theorem memCap_net (s : State) (k m a c : Nat) : (memCap k m a c s).net = s.net := by
  unfold memCap; split <;> simp
@[simp] theorem memCap_irq (s : State) (k m a c : Nat) : (memCap k m a c s).irq = s.irq := by
  unfold memCap; split <;> simp
@[simp] theorem memCap_log (s : State) (k m a c : Nat) : (memCap k m a c s).log = s.log := by
  unfold memCap; split <;> simp
@[simp] theorem memCap_pwr (s : State) (k m a c : Nat) : (memCap k m a c s).pwr = s.pwr := by
  unfold memCap; split <;> simp
@[simp] theorem memCap_saf (s : State) (k m a c : Nat) : (memCap k m a c s).saf = s.saf := by
  unfold memCap; split <;> simp
@[simp] theorem memCap_bst (s : State) (k m a c : Nat) : (memCap k m a c s).bst = s.bst := by
  unfold memCap; split <;> simp
@[simp] theorem memCap_lcs (s : State) (k m a c : Nat) : (memCap k m a c s).lcs = s.lcs := by
  unfold memCap; split <;> simp
@[simp] theorem memCap_jtag (s : State) (k m a c : Nat) : (memCap k m a c s).jtag = s.jtag := by
  unfold memCap; split <;> simp

@[simp] theorem safRaise_pending (s : State) (i : Nat) : (safRaise i s).pending = s.pending := by
  unfold safRaise; split <;> rfl
@[simp] theorem safRaise_regs (s : State) (i : Nat) : (safRaise i s).regs = s.regs := by
  unfold safRaise; split <;> rfl
@[simp] theorem safRaise_mem (s : State) (i : Nat) : (safRaise i s).mem = s.mem := by
  unfold safRaise; split <;> rfl
@[simp] theorem safRaise_sys (s : State) (i : Nat) : (safRaise i s).sys = s.sys := by
  unfold safRaise; split <;> rfl
@[simp] theorem safRaise_mst (s : State) (i : Nat) : (safRaise i s).mst = s.mst := by
  unfold safRaise; split <;> rfl
@[simp] theorem safRaise_xmc (s : State) (i : Nat) : (safRaise i s).xmc = s.xmc := by
  unfold safRaise; split <;> rfl
@[simp] theorem safRaise_afe (s : State) (i : Nat) : (safRaise i s).afe = s.afe := by
  unfold safRaise; split <;> rfl
@[simp] theorem safRaise_que (s : State) (i : Nat) : (safRaise i s).que = s.que := by
  unfold safRaise; split <;> rfl
@[simp] theorem safRaise_nib (s : State) (i : Nat) : (safRaise i s).nib = s.nib := by
  unfold safRaise; split <;> rfl
@[simp] theorem safRaise_chn (s : State) (i : Nat) : (safRaise i s).chn = s.chn := by
  unfold safRaise; split <;> rfl
@[simp] theorem safRaise_scr (s : State) (i : Nat) : (safRaise i s).scr = s.scr := by
  unfold safRaise; split <;> rfl
@[simp] theorem safRaise_fab (s : State) (i : Nat) : (safRaise i s).fab = s.fab := by
  unfold safRaise; split <;> rfl
@[simp] theorem safRaise_cfg (s : State) (i : Nat) : (safRaise i s).cfg = s.cfg := by
  unfold safRaise; split <;> rfl
@[simp] theorem safRaise_ufl (s : State) (i : Nat) : (safRaise i s).ufl = s.ufl := by
  unfold safRaise; split <;> rfl
@[simp] theorem safRaise_net (s : State) (i : Nat) : (safRaise i s).net = s.net := by
  unfold safRaise; split <;> rfl
@[simp] theorem safRaise_irq (s : State) (i : Nat) : (safRaise i s).irq = s.irq := by
  unfold safRaise; split <;> rfl
@[simp] theorem safRaise_log (s : State) (i : Nat) : (safRaise i s).log = s.log := by
  unfold safRaise; split <;> rfl
@[simp] theorem safRaise_pwr (s : State) (i : Nat) : (safRaise i s).pwr = s.pwr := by
  unfold safRaise; split <;> rfl
@[simp] theorem safRaise_bst (s : State) (i : Nat) : (safRaise i s).bst = s.bst := by
  unfold safRaise; split <;> rfl
@[simp] theorem safRaise_lcs (s : State) (i : Nat) : (safRaise i s).lcs = s.lcs := by
  unfold safRaise; split <;> rfl
@[simp] theorem safRaise_jtag (s : State) (i : Nat) : (safRaise i s).jtag = s.jtag := by
  unfold safRaise; split <;> rfl

@[simp] theorem noteFixed_pending (s : State) (m i c : Nat) : (noteFixed m i c s).pending = s.pending := by
  unfold noteFixed; simp only []; (repeat' split) <;> simp
@[simp] theorem noteFixed_mem (s : State) (m i c : Nat) : (noteFixed m i c s).mem = s.mem := by
  unfold noteFixed; simp only []; (repeat' split) <;> simp
@[simp] theorem noteFixed_sys (s : State) (m i c : Nat) : (noteFixed m i c s).sys = s.sys := by
  unfold noteFixed; simp only []; (repeat' split) <;> simp
@[simp] theorem noteFixed_xmc (s : State) (m i c : Nat) : (noteFixed m i c s).xmc = s.xmc := by
  unfold noteFixed; simp only []; (repeat' split) <;> simp
@[simp] theorem noteFixed_afe (s : State) (m i c : Nat) : (noteFixed m i c s).afe = s.afe := by
  unfold noteFixed; simp only []; (repeat' split) <;> simp
@[simp] theorem noteFixed_que (s : State) (m i c : Nat) : (noteFixed m i c s).que = s.que := by
  unfold noteFixed; simp only []; (repeat' split) <;> simp
@[simp] theorem noteFixed_nib (s : State) (m i c : Nat) : (noteFixed m i c s).nib = s.nib := by
  unfold noteFixed; simp only []; (repeat' split) <;> simp
@[simp] theorem noteFixed_chn (s : State) (m i c : Nat) : (noteFixed m i c s).chn = s.chn := by
  unfold noteFixed; simp only []; (repeat' split) <;> simp
@[simp] theorem noteFixed_scr (s : State) (m i c : Nat) : (noteFixed m i c s).scr = s.scr := by
  unfold noteFixed; simp only []; (repeat' split) <;> simp
@[simp] theorem noteFixed_fab (s : State) (m i c : Nat) : (noteFixed m i c s).fab = s.fab := by
  unfold noteFixed; simp only []; (repeat' split) <;> simp
@[simp] theorem noteFixed_cfg (s : State) (m i c : Nat) : (noteFixed m i c s).cfg = s.cfg := by
  unfold noteFixed; simp only []; (repeat' split) <;> simp
@[simp] theorem noteFixed_ufl (s : State) (m i c : Nat) : (noteFixed m i c s).ufl = s.ufl := by
  unfold noteFixed; simp only []; (repeat' split) <;> simp
@[simp] theorem noteFixed_net (s : State) (m i c : Nat) : (noteFixed m i c s).net = s.net := by
  unfold noteFixed; simp only []; (repeat' split) <;> simp
@[simp] theorem noteFixed_irq (s : State) (m i c : Nat) : (noteFixed m i c s).irq = s.irq := by
  unfold noteFixed; simp only []; (repeat' split) <;> simp
@[simp] theorem noteFixed_log (s : State) (m i c : Nat) : (noteFixed m i c s).log = s.log := by
  unfold noteFixed; simp only []; (repeat' split) <;> simp
@[simp] theorem noteFixed_pwr (s : State) (m i c : Nat) : (noteFixed m i c s).pwr = s.pwr := by
  unfold noteFixed; simp only []; (repeat' split) <;> simp
@[simp] theorem noteFixed_saf (s : State) (m i c : Nat) : (noteFixed m i c s).saf = s.saf := by
  unfold noteFixed; simp only []; (repeat' split) <;> simp
@[simp] theorem noteFixed_bst (s : State) (m i c : Nat) : (noteFixed m i c s).bst = s.bst := by
  unfold noteFixed; simp only []; (repeat' split) <;> simp
@[simp] theorem noteFixed_lcs (s : State) (m i c : Nat) : (noteFixed m i c s).lcs = s.lcs := by
  unfold noteFixed; simp only []; (repeat' split) <;> simp
@[simp] theorem noteFixed_jtag (s : State) (m i c : Nat) : (noteFixed m i c s).jtag = s.jtag := by
  unfold noteFixed; simp only []; (repeat' split) <;> simp

@[simp] theorem noteUE_pending (s : State) (m i c : Nat) : (noteUE m i c s).pending = s.pending := by
  simp [noteUE]
@[simp] theorem noteUE_mem (s : State) (m i c : Nat) : (noteUE m i c s).mem = s.mem := by
  simp [noteUE]
@[simp] theorem noteUE_sys (s : State) (m i c : Nat) : (noteUE m i c s).sys = s.sys := by
  simp [noteUE]
@[simp] theorem noteUE_mst (s : State) (m i c : Nat) : (noteUE m i c s).mst = s.mst := by
  simp [noteUE]
@[simp] theorem noteUE_xmc (s : State) (m i c : Nat) : (noteUE m i c s).xmc = s.xmc := by
  simp [noteUE]
@[simp] theorem noteUE_afe (s : State) (m i c : Nat) : (noteUE m i c s).afe = s.afe := by
  simp [noteUE]
@[simp] theorem noteUE_que (s : State) (m i c : Nat) : (noteUE m i c s).que = s.que := by
  simp [noteUE]
@[simp] theorem noteUE_nib (s : State) (m i c : Nat) : (noteUE m i c s).nib = s.nib := by
  simp [noteUE]
@[simp] theorem noteUE_chn (s : State) (m i c : Nat) : (noteUE m i c s).chn = s.chn := by
  simp [noteUE]
@[simp] theorem noteUE_scr (s : State) (m i c : Nat) : (noteUE m i c s).scr = s.scr := by
  simp [noteUE]
@[simp] theorem noteUE_fab (s : State) (m i c : Nat) : (noteUE m i c s).fab = s.fab := by
  simp [noteUE]
@[simp] theorem noteUE_cfg (s : State) (m i c : Nat) : (noteUE m i c s).cfg = s.cfg := by
  simp [noteUE]
@[simp] theorem noteUE_ufl (s : State) (m i c : Nat) : (noteUE m i c s).ufl = s.ufl := by
  simp [noteUE]
@[simp] theorem noteUE_net (s : State) (m i c : Nat) : (noteUE m i c s).net = s.net := by
  simp [noteUE]
@[simp] theorem noteUE_log (s : State) (m i c : Nat) : (noteUE m i c s).log = s.log := by
  simp [noteUE]
@[simp] theorem noteUE_bst (s : State) (m i c : Nat) : (noteUE m i c s).bst = s.bst := by
  simp [noteUE]
@[simp] theorem noteUE_lcs (s : State) (m i c : Nat) : (noteUE m i c s).lcs = s.lcs := by
  simp [noteUE]
@[simp] theorem noteUE_jtag (s : State) (m i c : Nat) : (noteUE m i c s).jtag = s.jtag := by
  simp [noteUE]

@[simp] theorem readWord_pending (s : State) (m i c : Nat) : ((readWord m i c s).2).pending = s.pending := by
  unfold readWord; split <;> simp
@[simp] theorem readWord_mem (s : State) (m i c : Nat) : ((readWord m i c s).2).mem = s.mem := by
  unfold readWord; split <;> simp
@[simp] theorem readWord_sys (s : State) (m i c : Nat) : ((readWord m i c s).2).sys = s.sys := by
  unfold readWord; split <;> simp
@[simp] theorem readWord_xmc (s : State) (m i c : Nat) : ((readWord m i c s).2).xmc = s.xmc := by
  unfold readWord; split <;> simp
@[simp] theorem readWord_afe (s : State) (m i c : Nat) : ((readWord m i c s).2).afe = s.afe := by
  unfold readWord; split <;> simp
@[simp] theorem readWord_que (s : State) (m i c : Nat) : ((readWord m i c s).2).que = s.que := by
  unfold readWord; split <;> simp
@[simp] theorem readWord_nib (s : State) (m i c : Nat) : ((readWord m i c s).2).nib = s.nib := by
  unfold readWord; split <;> simp
@[simp] theorem readWord_chn (s : State) (m i c : Nat) : ((readWord m i c s).2).chn = s.chn := by
  unfold readWord; split <;> simp
@[simp] theorem readWord_scr (s : State) (m i c : Nat) : ((readWord m i c s).2).scr = s.scr := by
  unfold readWord; split <;> simp
@[simp] theorem readWord_fab (s : State) (m i c : Nat) : ((readWord m i c s).2).fab = s.fab := by
  unfold readWord; split <;> simp
@[simp] theorem readWord_cfg (s : State) (m i c : Nat) : ((readWord m i c s).2).cfg = s.cfg := by
  unfold readWord; split <;> simp
@[simp] theorem readWord_ufl (s : State) (m i c : Nat) : ((readWord m i c s).2).ufl = s.ufl := by
  unfold readWord; split <;> simp
@[simp] theorem readWord_net (s : State) (m i c : Nat) : ((readWord m i c s).2).net = s.net := by
  unfold readWord; split <;> simp
@[simp] theorem readWord_log (s : State) (m i c : Nat) : ((readWord m i c s).2).log = s.log := by
  unfold readWord; split <;> simp
@[simp] theorem readWord_bst (s : State) (m i c : Nat) : ((readWord m i c s).2).bst = s.bst := by
  unfold readWord; split <;> simp
@[simp] theorem readWord_lcs (s : State) (m i c : Nat) : ((readWord m i c s).2).lcs = s.lcs := by
  unfold readWord; split <;> simp
@[simp] theorem readWord_jtag (s : State) (m i c : Nat) : ((readWord m i c s).2).jtag = s.jtag := by
  unfold readWord; split <;> simp

@[simp] theorem logReq_pending (s : State) (a b c d e : Nat) : (logReq a b c d e s).pending = s.pending := by
  unfold logReq; split <;> simp
@[simp] theorem logReq_mem (s : State) (a b c d e : Nat) : (logReq a b c d e s).mem = s.mem := by
  unfold logReq; split <;> simp
@[simp] theorem logReq_sys (s : State) (a b c d e : Nat) : (logReq a b c d e s).sys = s.sys := by
  unfold logReq; split <;> simp
@[simp] theorem logReq_mst (s : State) (a b c d e : Nat) : (logReq a b c d e s).mst = s.mst := by
  unfold logReq; split <;> simp
@[simp] theorem logReq_xmc (s : State) (a b c d e : Nat) : (logReq a b c d e s).xmc = s.xmc := by
  unfold logReq; split <;> simp
@[simp] theorem logReq_afe (s : State) (a b c d e : Nat) : (logReq a b c d e s).afe = s.afe := by
  unfold logReq; split <;> simp
@[simp] theorem logReq_que (s : State) (a b c d e : Nat) : (logReq a b c d e s).que = s.que := by
  unfold logReq; split <;> simp
@[simp] theorem logReq_nib (s : State) (a b c d e : Nat) : (logReq a b c d e s).nib = s.nib := by
  unfold logReq; split <;> simp
@[simp] theorem logReq_chn (s : State) (a b c d e : Nat) : (logReq a b c d e s).chn = s.chn := by
  unfold logReq; split <;> simp
@[simp] theorem logReq_scr (s : State) (a b c d e : Nat) : (logReq a b c d e s).scr = s.scr := by
  unfold logReq; split <;> simp
@[simp] theorem logReq_fab (s : State) (a b c d e : Nat) : (logReq a b c d e s).fab = s.fab := by
  unfold logReq; split <;> simp
@[simp] theorem logReq_cfg (s : State) (a b c d e : Nat) : (logReq a b c d e s).cfg = s.cfg := by
  unfold logReq; split <;> simp
@[simp] theorem logReq_ufl (s : State) (a b c d e : Nat) : (logReq a b c d e s).ufl = s.ufl := by
  unfold logReq; split <;> simp
@[simp] theorem logReq_net (s : State) (a b c d e : Nat) : (logReq a b c d e s).net = s.net := by
  unfold logReq; split <;> simp
@[simp] theorem logReq_irq (s : State) (a b c d e : Nat) : (logReq a b c d e s).irq = s.irq := by
  unfold logReq; split <;> simp
@[simp] theorem logReq_pwr (s : State) (a b c d e : Nat) : (logReq a b c d e s).pwr = s.pwr := by
  unfold logReq; split <;> simp
@[simp] theorem logReq_saf (s : State) (a b c d e : Nat) : (logReq a b c d e s).saf = s.saf := by
  unfold logReq; split <;> simp
@[simp] theorem logReq_bst (s : State) (a b c d e : Nat) : (logReq a b c d e s).bst = s.bst := by
  unfold logReq; split <;> simp
@[simp] theorem logReq_lcs (s : State) (a b c d e : Nat) : (logReq a b c d e s).lcs = s.lcs := by
  unfold logReq; split <;> simp
@[simp] theorem logReq_jtag (s : State) (a b c d e : Nat) : (logReq a b c d e s).jtag = s.jtag := by
  unfold logReq; split <;> simp

@[simp] theorem emcy_pending (s : State) (a b c : Nat) : (emcy a b c s).pending = s.pending := by
  unfold emcy; simp only []; split <;> simp
@[simp] theorem emcy_mem (s : State) (a b c : Nat) : (emcy a b c s).mem = s.mem := by
  unfold emcy; simp only []; split <;> simp
@[simp] theorem emcy_sys (s : State) (a b c : Nat) : (emcy a b c s).sys = s.sys := by
  unfold emcy; simp only []; split <;> simp
@[simp] theorem emcy_mst (s : State) (a b c : Nat) : (emcy a b c s).mst = s.mst := by
  unfold emcy; simp only []; split <;> simp
@[simp] theorem emcy_xmc (s : State) (a b c : Nat) : (emcy a b c s).xmc = s.xmc := by
  unfold emcy; simp only []; split <;> simp
@[simp] theorem emcy_afe (s : State) (a b c : Nat) : (emcy a b c s).afe = s.afe := by
  unfold emcy; simp only []; split <;> simp
@[simp] theorem emcy_que (s : State) (a b c : Nat) : (emcy a b c s).que = s.que := by
  unfold emcy; simp only []; split <;> simp
@[simp] theorem emcy_nib (s : State) (a b c : Nat) : (emcy a b c s).nib = s.nib := by
  unfold emcy; simp only []; split <;> simp
@[simp] theorem emcy_chn (s : State) (a b c : Nat) : (emcy a b c s).chn = s.chn := by
  unfold emcy; simp only []; split <;> simp
@[simp] theorem emcy_scr (s : State) (a b c : Nat) : (emcy a b c s).scr = s.scr := by
  unfold emcy; simp only []; split <;> simp
@[simp] theorem emcy_fab (s : State) (a b c : Nat) : (emcy a b c s).fab = s.fab := by
  unfold emcy; simp only []; split <;> simp
@[simp] theorem emcy_cfg (s : State) (a b c : Nat) : (emcy a b c s).cfg = s.cfg := by
  unfold emcy; simp only []; split <;> simp
@[simp] theorem emcy_ufl (s : State) (a b c : Nat) : (emcy a b c s).ufl = s.ufl := by
  unfold emcy; simp only []; split <;> simp
@[simp] theorem emcy_log (s : State) (a b c : Nat) : (emcy a b c s).log = s.log := by
  unfold emcy; simp only []; split <;> simp
@[simp] theorem emcy_saf (s : State) (a b c : Nat) : (emcy a b c s).saf = s.saf := by
  unfold emcy; simp only []; split <;> simp
@[simp] theorem emcy_bst (s : State) (a b c : Nat) : (emcy a b c s).bst = s.bst := by
  unfold emcy; simp only []; split <;> simp
@[simp] theorem emcy_lcs (s : State) (a b c : Nat) : (emcy a b c s).lcs = s.lcs := by
  unfold emcy; simp only []; split <;> simp
@[simp] theorem emcy_jtag (s : State) (a b c : Nat) : (emcy a b c s).jtag = s.jtag := by
  unfold emcy; simp only []; split <;> simp

/-! ### The memories -/

theorem narrowBits_wf (b m i : Nat) (d k : W64) (c : Nat) (s : State) (h : Memory.wf s.mem = true) :
    Memory.wf (narrowBits b m i d k c s).2.mem = true := by
  have h1 : Memory.wf (readWord m i c s).2.mem = true := by simpa using h
  unfold narrowBits
  simp only []
  split
  · simpa using poisonWord_wf m i _ h1
  · rw [State.mem_upd_mst, retMerge_mem, touchWord_mem, retUnmerge_mem]
    (repeat' split) <;> first | exact h1 | exact mergeStore_wf _ _ h1

theorem narrowWrite_wf (m i : Nat) (d : W64) (k c : Nat) (s : State) (h : Memory.wf s.mem = true) :
    Memory.wf (narrowWrite m i d k c s).2.mem = true := narrowBits_wf 0 m i d _ c s h

theorem anyWrite_wf (m i : Nat) (d : W64) (k c : Nat) (s : State) (h : Memory.wf s.mem = true) :
    Memory.wf (anyWrite m i d k c s).2.mem = true := by
  unfold anyWrite
  split
  · exact writeWord_wf m i d s h
  · exact narrowWrite_wf m i d k c s h

theorem errResp_mem (c : Nat) (s : State) : (errResp c s).mem = s.mem := by
  unfold errResp; split <;> simp

@[simp] theorem updInk_mem (b i : Nat) (f : InkPort → InkPort) (s : State) : (updInk b i f s).mem = s.mem := rfl
@[simp] theorem inkRefused_mem (b i : Nat) (s : State) : (inkRefused b i s).mem = s.mem := rfl
@[simp] theorem inkRead_mem (b i : Nat) (s : State) : (inkRead b i s).2.mem = s.mem := by simp [inkRead]

theorem memRead_wf (m i c : Nat) (s : State) (h : Memory.wf s.mem = true) : Memory.wf (memRead m i c s).2.mem = true := by
  have h1 : Memory.wf (readWord m i c s).2.mem = true := by simpa using h
  unfold memRead
  split
  · split
    · simpa using h
    · generalize readWord m i c s = r at h1 ⊢
      rcases r with ⟨_ | d, t⟩
      · simpa [errResp_mem] using h1
      · simpa using h1
  · simpa [errResp_mem] using h

theorem memWrite_wf (m i : Nat) (d : W64) (k c : Nat) (s : State) (h : Memory.wf s.mem = true) :
    Memory.wf (memWrite m i d k c s).2.mem = true := by
  have h1 := anyWrite_wf m i d k c s h
  unfold memWrite
  split
  · generalize anyWrite m i d k c s = r at h1 ⊢
    rcases r with ⟨_ | _, t⟩
    · simp only []
      split
      · simpa using h1
      · simpa [errResp_mem] using h1
    · simpa using h1
  · simpa [errResp_mem] using h

theorem lbWrite_wf (o : LbOp) (b off size d c : Nat) (s : State) (h : Memory.wf s.mem = true) :
    Memory.wf (lbWrite o b off size d c s).mem = true := by
  have h1 : Memory.wf (readWord (b + 2) (off / 8) c s).2.mem = true := by simpa using h
  unfold lbWrite
  simp only []
  split
  · simpa [errResp_mem] using h
  · split
    · simpa [errResp_mem] using h
    · generalize readWord (b + 2) (off / 8) c s = r at h1 ⊢
      rcases r with ⟨_ | w, t⟩
      · simpa [errResp_mem] using poisonWord_wf (b + 2) (off / 8) t h1
      · simp only []
        split
        · rw [State.ret_mem, State.mem_upd_mst]
          split
          · exact writeWord_wf _ _ _ t h1
          · exact mput_wf _ _ _ (by rw [touchWord_mem]; exact h1)
        · rw [State.ret_mem]
          split
          · exact writeWord_wf _ _ _ t h1
          · exact mput_wf _ _ _ (by rw [touchWord_mem]; exact h1)

theorem forEach_wf {α : Type} (f : α → State → State)
    (hf : ∀ a s, Memory.wf s.mem = true → Memory.wf (f a s).mem = true) (l : List α) (s : State) (h : Memory.wf s.mem = true) :
    Memory.wf (forEach l s f).mem = true := by
  unfold forEach
  induction l generalizing s with
  | nil => exact h
  | cons a l ih => exact ih _ (hf a s h)

theorem scrubPut_wf (e : Nat × ScrubFix) (s : State) (h : Memory.wf s.mem = true) : Memory.wf (scrubPut e s).mem = true :=
  mput_wf s _ _ h

theorem scrubWrite_wf (s : State) (h : Memory.wf s.mem = true) : Memory.wf (scrubWrite s).mem = true :=
  forEach_wf scrubPut scrubPut_wf _ s h

theorem scrubRead_wf (m : Nat) (s : State) (h : Memory.wf s.mem = true) : Memory.wf (scrubRead m s).mem = true := by
  unfold scrubRead
  split
  · simp only []
    split
    · exact h
    · split
      · exact h
      · simpa using h
      · apply poisonWord_wf
        simpa using h
  · exact h

end Sys2Proof.Machine
end

