-- ==== Sys2Proof/Laws/Reads.lean ====
section
/-! SUPPORT. Reads of words that decode clean: they give the data and change nothing. -/
namespace Sys2Proof.Machine

open Sys2Proof

/-- A read of a clean word gives its data and changes nothing. -/
theorem readWord_of_clean (m i r : Nat) (s : State) (d : W64) (h : eccDecode (s.mcur (mkey m i)) = .clean d) :
    readWord m i r s = (some d, s) := by simp [readWord, h]

/-- A descriptor whose two words are clean is read as they spell it, and nothing changes. -/
theorem readDesc_of_clean (q : Nat) (s : State) (a b : W64) (ha : eccDecode (s.mcur (mkey 1 (2 * q))) = .clean a)
    (hb : eccDecode (s.mcur (mkey 1 (2 * q + 1))) = .clean b) : readDesc q s = (some (descOf a.toNat b.toNat), s) := by
  simp [readDesc, readWord_of_clean _ _ _ _ _ ha, readWord_of_clean _ _ _ _ _ hb]

/-- An event store entry whose two words are clean is read as they spell it, and nothing changes. -/
theorem readEntry_of_clean (e : Nat) (s : State) (a b : W64) (ha : eccDecode (s.mcur (mkey 0 (2 * e))) = .clean a)
    (hb : eccDecode (s.mcur (mkey 0 (2 * e + 1))) = .clean b) :
    readEntry e s = (some ⟨BitVec.ofNat 32 a.toNat, BitVec.ofNat 32 (a.toNat / 2 ^ 32), BitVec.ofNat 32 b.toNat,
      BitVec.ofNat 32 (b.toNat / 2 ^ 32)⟩, s) := by
  simp [readEntry, readWord_of_clean _ _ _ _ _ ha, readWord_of_clean _ _ _ _ _ hb]

/-- A clean descriptor is what `getDesc` sees. -/
theorem getDesc_of_clean (q : Nat) (s : State) (a b : W64) (ha : eccDecode (s.mcur (mkey 1 (2 * q))) = .clean a)
    (hb : eccDecode (s.mcur (mkey 1 (2 * q + 1))) = .clean b) : getDesc s q = some (descOf a.toNat b.toNat) := by
  simp [getDesc, State.mok, State.mdata, ha, hb]

end Sys2Proof.Machine
end

