-- ==== Sys2Proof/Laws/Scr.lean ====
section
/-! SUPPORT. Scribe pairs: registers under their updates, and what the end of an instruction does. -/
namespace Sys2Proof.Machine

open Sys2Proof

@[simp] theorem State.updPair_rd (s : State) (p : Nat) (f : Pair → Pair) (g : Fld) : (s.updPair p f).rd g = s.rd g := rfl
@[simp] theorem State.updPair_calm (s : State) (p : Nat) (f : Pair → Pair) : (s.updPair p f).calm = s.calm := rfl
@[simp] theorem State.updPair_regs (s : State) (p : Nat) (f : Pair → Pair) : (s.updPair p f).regs = s.regs := rfl

@[simp] theorem State.pairOf_updPair (s : State) (p : Nat) (f : Pair → Pair) : (s.updPair p f).pairOf p = f (s.pairOf p) := by
  simp [State.pairOf, State.updPair, mapGet]

theorem State.pairOf_updPair_ne (s : State) (p q : Nat) (f : Pair → Pair) (h : q ≠ p) : (s.updPair p f).pairOf q = s.pairOf q := by
  simp [State.pairOf, State.updPair, mapGet, mapGet?_mapPut_ne _ _ _ _ h]

@[simp] theorem State.pairOf_wr (s : State) (f : Fld) (v p : Nat) : (s.wr f v).pairOf p = s.pairOf p := rfl

@[simp] theorem gWrite_rd (p r v : Nat) (s : State) (f : Fld) : (gWrite p r v s).rd f = s.rd f := by
  unfold gWrite; split <;> simp

@[simp] theorem gWrite_calm (p r v : Nat) (s : State) : (gWrite p r v s).calm = s.calm := by
  unfold gWrite; split <;> simp

theorem gWrite_pairOf_ne (p q r v : Nat) (s : State) (h : q ≠ p) : (gWrite p r v s).pairOf q = s.pairOf q := by
  unfold gWrite; split
  · rfl
  · exact State.pairOf_updPair_ne s p q _ h

theorem gRead_gWrite (p rd v r : Nat) (s : State) :
    gRead (gWrite p rd v s) p r = if r = rd ∧ r ≠ 0 then v % 2 ^ 32 else gRead s p r := by
  unfold gWrite gRead
  by_cases h0 : r = 0
  · simp [h0]
  · by_cases h1 : r = rd
    · subst h1
      simp [h0, mapGet]
    · by_cases h2 : rd = 0
      · simp [h2, h0]
      · simp [h0, h1, h2, mapGet, mapGet?_mapPut_ne _ _ _ _ h1]

theorem gWrite_else (p rd v : Nat) (s : State) : { (gWrite p rd v s).pairOf p with g := (s.pairOf p).g } = s.pairOf p := by
  unfold gWrite; split <;> simp

theorem gWrite_blocks (p rd v : Nat) (s : State) : { gWrite p rd v s with scr := s.scr } = s := by
  unfold gWrite; split <;> rfl

/-- The fields a pair's PC and RETIRED live in are none of those a calm state rests on. -/
theorem calm_scrPc (s : State) (p v : Nat) (h : p < 8) : (s.wr (Fd.SCR_PC_PC p) v).calm = s.calm := by
  apply State.calm_wr
  simp only [calmKeys, Fld.key, Fd.SCR_PC_PC, Fd.SAF_ACTIVE_ACTIVE, Fd.SYS_MODE_MODE, Fd.NET_SRDO_VALID_VALID, List.mem_cons,
    List.not_mem_nil, or_false, not_or]
  refine ⟨?_, ?_, ?_⟩ <;> omega

theorem calm_scrRetired (s : State) (p v : Nat) (h : p < 8) : (s.wr (Fd.SCR_RETIRED_COUNT p) v).calm = s.calm := by
  apply State.calm_wr
  simp only [calmKeys, Fld.key, Fd.SCR_RETIRED_COUNT, Fd.SAF_ACTIVE_ACTIVE, Fd.SYS_MODE_MODE, Fd.NET_SRDO_VALID_VALID, List.mem_cons,
    List.not_mem_nil, or_false, not_or]
  refine ⟨?_, ?_, ?_⟩ <;> omega

/-- The end of an instruction that goes on at an address keeps a calm state. -/
theorem scrJump_calm (p a : Nat) (s : State) (h : p < 8) : (scrJump p a s).calm = s.calm := by
  unfold scrJump State.incWrap
  rw [calm_scrPc _ _ _ h, calm_scrRetired _ _ _ h]

theorem scrRetire_eq (p : Nat) (s : State) : scrRetire p s = scrJump p (scrNext p s) s := rfl

/-- What an instruction that goes on at an address does to the register file. -/
theorem scrJump_goes (p a : Nat) (s : State) : ScrGoes p a s (scrJump p a s) := by
  constructor
  · simp [scrJump, Fd.SCR_PC_PC]
  · unfold scrJump State.incWrap
    rw [State.rd_wr_ne]
    · simp [Fd.SCR_RETIRED_COUNT]
    · simp only [Fld.key, Fd.SCR_PC_PC, Fd.SCR_RETIRED_COUNT]; omega

/-- What it leaves alone. -/
theorem scrJump_frame (p a : Nat) (s : State) : ScrFrame p (scrPcFlds p) s (scrJump p a s) := by
  refine ⟨rfl, fun q _ => rfl, fun f hf => ?_⟩
  simp only [scrPcFlds, List.map_cons, List.map_nil, List.mem_cons, List.not_mem_nil, or_false, not_or] at hf
  unfold scrJump State.incWrap
  rw [State.rd_wr_ne _ _ _ _ hf.1, State.rd_wr_ne _ _ _ _ hf.2]

/-- A pair that is about to execute the word of a row does what the row says. -/
theorem scrIssue_free (p w : Nat) (f : State → State) (s : State) (h : ScrFree p s) (hw : ScrHas p w s) :
    scrIssue p w f s = f s := by
  obtain ⟨_, _, h1, h2, v, h3, h4⟩ := h
  obtain rfl : v = w := by
    rw [ScrHas, h3] at hw
    simpa using hw
  simp [scrIssue, h1, h2, scrDo, h3, h4]

/-- An instruction of a pair that is about to execute ends in its effect, if that is calm. -/
theorem scr_exec (p w : Nat) (f : State → State) (s : State) (h : ScrFree p s) (hw : ScrHas p w s) (hc : (f s).calm = true) :
    engRun (scrIssue p w f) s = .next (f s) := by
  have hl : sysOn s = true := by
    have := h.2.1
    simp only [State.live, Bool.and_eq_true] at this
    exact this.1
  have hi := scrIssue_free p w f s h hw
  unfold engRun
  rw [gated_of_calm engOn _ s (engOn_of_sysOn s hl) (by rw [hi]; exact hc), hi]

theorem ScrFree.calm {p : Nat} {s : State} (h : ScrFree p s) : s.calm = true := by
  have := h.2.1
  simp only [State.live, Bool.and_eq_true] at this
  exact this.2

/-- An instruction with one result. -/
theorem scrSet_gives (p rd v : Nat) (s : State) : ScrGives p rd v s (scrSet p rd v s) := by
  have hf := scrJump_frame p (scrNext p (gWrite p rd v s)) (gWrite p rd v s)
  refine ⟨⟨?_, fun q hq => ?_, fun f hf' => ?_⟩, ?_, ?_, ?_⟩
  · unfold scrSet gWrite; split <;> rfl
  · have := gWrite_pairOf_ne p q rd v s hq
    exact this
  · have := hf.2.2 f hf'
    rw [gWrite_rd] at this
    exact this
  · have := scrJump_goes p (scrNext p s) (gWrite p rd v s)
    unfold ScrGoes at this ⊢
    rw [gWrite_rd] at this
    simpa [scrSet, scrRetire_eq, scrNext] using this
  · intro r
    exact gRead_gWrite p rd v r s
  · exact gWrite_else p rd v s

theorem scrSet_calm (p rd v : Nat) (s : State) (h : p < 8) : (scrSet p rd v s).calm = s.calm := by
  unfold scrSet
  rw [scrRetire_eq, scrJump_calm _ _ _ h, gWrite_calm]

/-- The word at an aligned PC in program RAM that reads clean is fetched, and nothing changes (R155). -/
theorem scrFetch_of_clean (p : Nat) (s : State) (d : W64) (h4 : s.rd (Fd.SCR_PC_PC p) % 4 = 0)
    (hl : s.rd (Fd.SCR_PC_PC p) < 0x10000) (h : eccDecode (s.mcur (mkey 11 (p * 8192 + s.rd (Fd.SCR_PC_PC p) / 8))) = .clean d) :
    scrFetch p s = (.word (halfOf d.toNat (s.rd (Fd.SCR_PC_PC p))), s) := by
  simp [scrFetch, h4, hl, readWord_of_clean _ _ _ _ _ h]

/-- A line no spare serves, whose two codewords are clean, is read as they hold it, and nothing changes (R239). -/
theorem lineRead_of_clean (l src : Nat) (s : State) (hs : spareOf s l = none)
    (h0 : rsDecode (markOf s (rankOf s l)) (cwOf (lineGet s l) 0) = .clean)
    (h1 : rsDecode (markOf s (rankOf s l)) (cwOf (lineGet s l) 1) = .clean) :
    lineRead l src s = (some (cwOf (lineGet s l) 0 % 2 ^ 256), some (cwOf (lineGet s l) 1 % 2 ^ 256),
      lineOf (cwOf (lineGet s l) 0) (cwOf (lineGet s l) 1), s) := by
  have e : lineGet s l = lineCell s l := by simp [lineGet, hs]
  rw [e] at h0 h1 ⊢
  simp [lineRead, cwRead, cwArray, hs, h0, h1]

end Sys2Proof.Machine
end

