-- ==== Sys2Proof/Tests/Slice0.lean ====
section
/-! SUPPORT. Tests: an ill-formed command for every check of WellFormed; states and operands that meet the hypotheses of every
obligation, clause by clause (`witness_<name>`); single steps with results taken from the spec (`test_<what>`). Clauses whose hypothesis is
the answer of a standard the spec names without stating (a signature, a hash) are left to that opaque constant. -/
namespace Sys2Proof.Tests

set_option Elab.async false

open Sys2Proof Sys2Proof.Machine

/-! ### Helpers -/

/-- A device past start-up in a mode, with register fields written. -/
def dev (m : Nat) (l : List (Fld × Nat)) : State :=
  l.foldl (fun u e => u.wr e.1 e.2) ({ State.reset with sys := { State.reset.sys with phase := .over } }.wr Fd.SYS_MODE_MODE m)

/-- A device in the start-up, in a mode and a phase. -/
def boot (m : Nat) (p : Phase) (l : List (Fld × Nat)) : State :=
  l.foldl (fun u e => u.wr e.1 e.2) ({ State.reset with sys := { State.reset.sys with phase := p } }.wr Fd.SYS_MODE_MODE m)

/-- A device with its sys clock that meets a condition. -/
abbrev on (s : State) (p : State → Prop) : Prop := sysOn s = true ∧ p s

/-- A clocked device that meets a condition. -/
abbrev onClock (s : State) (p : State → Prop) : Prop := clocked s = true ∧ p s

/-- A live device that meets a condition. -/
abbrev onLive (s : State) (p : State → Prop) : Prop := s.live = true ∧ p s

/-- A state in RUN with SRDO parameters valid. -/
def running (l : List (Fld × Nat)) : State := dev Md.run ((Fd.NET_SRDO_VALID_VALID, 0xA5) :: l)

/-- A state in STANDBY. -/
def ready (l : List (Fld × Nat)) : State := dev Md.standby l

/-- A state with parts of it replaced. -/
def mod (s : State) (f : State → State) : State := f s

/-- The fabric ports are connected and every global network runs. -/
abbrev linked (s : State) : Prop := s.fab.connected = true ∧ s.rd Fd.FAB_CLK_STAT_NET_RUN = 2 ^ 24 - 1

/-- Then every port has its clock. -/
theorem witness_portOn (s : State) (k : Nat) (h : linked s) : portOn s k = true := by
  have hk : portNet s k < 24 := Nat.mod_lt _ (by decide)
  rw [portOn, h.1, netOn, h.2, Nat.testBit_two_pow_sub_one]
  simpa using hk

/-- Then a master without an access that waits is served. -/
theorem witness_masterServed (s : State) (m : Nat) (h : linked s) (hb : masterBusy s m = false) : masterServed s m = true := by
  simp [masterServed, witness_portOn s _ h, hb]

/-- A mode with the fabric ports connected and every global network running. -/
def ported (m : Nat) (l : List (Fld × Nat)) : State :=
  let s := dev m ((Fd.FAB_CLK_STAT_NET_RUN, 2 ^ 24 - 1) :: l)
  { s with fab := { s.fab with connected := true } }

/-- STANDBY with both angle channels valid. -/
def sound (l : List (Fld × Nat)) : State := ready ((Fd.AFE_CH_STAT_VALID 0, 1) :: (Fd.AFE_CH_STAT_VALID 1, 1) :: l)


/-! ### WellFormed refuses -/

/-- A value no field holds. -/
def huge : Nat := 2 ^ 250 * 2 ^ 250 * 2 ^ 20

theorem smoke_ill_formed_0 :
  Ill.notWord ∈ Instr.ill (.warmReset huge) ∧
  Ill.notPll ∈ Instr.ill (.pllLockRetry huge) ∧
  Ill.notDecoders ∈ Instr.ill (.startupTestEnd huge false) ∧
  Ill.notSlot ∈ Instr.ill (.sectorStreamEnd huge false) ∧
  Ill.notSleepSel ∈ Instr.ill (.modeReqSleep huge) ∧
  Ill.notTestPhase ∈ Instr.ill (.selftestEnd huge 1) ∧
  Ill.notAddress ∈ Instr.ill (.registerWrite huge 1 1 1) ∧
  Ill.notSize ∈ Instr.ill (.registerWrite 1 huge 1 1) ∧
  Ill.notDword ∈ Instr.ill (.registerWrite 1 1 huge 1) ∧
  Ill.notMaster ∈ Instr.ill (.registerWrite 1 1 1 huge) ∧
  Ill.notMemAt ∈ Instr.ill (.memoryRead (.bus 0 3) 1) ∧
  Ill.notMemAtFull ∈ Instr.ill (.memoryWrite (.bus 0 3) 0 1) := by
  decide +kernel

theorem smoke_ill_formed_1 :
  Ill.notNarrowAt ∈ Instr.ill (.narrowWrite (.bus 0 8) 0 1) ∧
  Ill.notMemory ∈ Instr.ill (.mergeFlush huge) ∧
  Ill.notLargeBank ∈ Instr.ill (.bitSet huge 1 1 0 1) ∧
  Ill.notBankOffset ∈ Instr.ill (.bitSet 1 huge 1 0 1) ∧
  Ill.notByte ∈ Instr.ill (.ownerChange 1 huge 1) ∧
  Ill.notRemapTable ∈ Instr.ill (.remapPromote huge 1 1 1) ∧
  Ill.notRemapEntry ∈ Instr.ill (.remapPromote 1 1 huge 1) ∧
  Ill.notLine ∈ Instr.ill (.remapPromote 1 1 1 huge) ∧
  Ill.notLineAt ∈ Instr.ill (.sdramRead (.window 0 4) 1) ∧
  Ill.notLineData ∈ Instr.ill (.sdramWrite (.line 0) huge 1 1) ∧
  Ill.notLineMask ∈ Instr.ill (.sdramWrite (.line 0) 1 huge 1) ∧
  Ill.notRank ∈ Instr.ill (.mark huge 1) := by
  decide +kernel

theorem smoke_ill_formed_2 :
  Ill.notDevice ∈ Instr.ill (.mark 1 huge) ∧
  Ill.notDma ∈ Instr.ill (.dmaStart huge) ∧
  Ill.notChannel ∈ Instr.ill (.encoderEdge huge false false) ∧
  Ill.notAdcCode ∈ Instr.ill (.adcSample 1 huge 1) ∧
  Ill.notRevs ∈ Instr.ill (.learnStart 1 1 huge) ∧
  Ill.notRegister ∈ Instr.ill (.statStart 1 huge) ∧
  Ill.notAfeOffset ∈ Instr.ill (.afeCfgWrite huge 1 1) ∧
  Ill.notPushSrc ∈ Instr.ill (.push (.port 0 0 0 0 0 0)) ∧
  Ill.notQueue ∈ Instr.ill (.queInit huge) ∧
  Ill.notLate ∈ Instr.ill (.queSetLate 1 huge) ∧
  Ill.notBarrier ∈ Instr.ill (.queBarOpen 1 huge) ∧
  Ill.notGroup ∈ Instr.ill (.cringEnable huge 1 1) := by
  decide +kernel

theorem smoke_ill_formed_3 :
  Ill.notGranule ∈ Instr.ill (.cringEnable 1 huge 1) ∧
  Ill.notNib ∈ Instr.ill (.retime huge) ∧
  Ill.notDelayEntry ∈ Instr.ill (.delayWrite false huge 1) ∧
  Ill.notLeadClass ∈ Instr.ill (.reseed huge) ∧
  Ill.notString ∈ Instr.ill (.frameCut huge) ∧
  Ill.notEchoUnit ∈ Instr.ill (.echoEdge huge 1 false) ∧
  Ill.notBindWord ∈ Instr.ill (.chnBindWrite (some 99) 1 1) ∧
  Ill.notDirect ∈ Instr.ill (.chnBindWrite none huge 1) ∧
  Ill.notPair ∈ Instr.ill (.scrStart huge false) ∧
  Ill.notImm16 ∈ Instr.ill (.sAddi 1 1 1 huge) ∧
  Ill.notRounding ∈ Instr.ill (.sShrr 1 1 1 1 huge) ∧
  Ill.notImm21 ∈ Instr.ill (.sJal 1 1 huge) := by
  decide +kernel

theorem smoke_ill_formed_4 :
  Ill.notFetchTag ∈ Instr.ill (.pfetchBurst 1 huge) ∧
  Ill.notNibble ∈ Instr.ill (.sSignal 1 huge) ∧
  Ill.notChain ∈ Instr.ill (.chainContention huge 1) ∧
  Ill.notProbe ∈ Instr.ill (.loupeWrite (some 99) 1) ∧
  Ill.notBank ∈ Instr.ill (.authBank 1 huge) ∧
  Ill.notSector ∈ Instr.ill (.shadowLoad 1 1 1 huge) ∧
  Ill.notStoreClient ∈ Instr.ill (.storeAll huge 1) ∧
  Ill.notTag ∈ Instr.ill (.storeAll 1 huge) ∧
  Ill.notClient ∈ Instr.ill (.usdoRequest huge (.abort 0)) ∧
  Ill.notUsdoOp ∈ Instr.ill (.usdoRequest 1 (.abort 4)) ∧
  Ill.notSession ∈ Instr.ill (.usdoTimeout huge) ∧
  Ill.notDictClient ∈ Instr.ill (.taggedWrite huge 1 []) := by
  decide +kernel

theorem smoke_ill_formed_5 :
  Ill.notTagged ∈ Instr.ill (.taggedWrite 1 1 (List.replicate 5000 0)) ∧
  Ill.notPdo ∈ Instr.ill (.rpdo huge []) ∧
  Ill.notPdoData ∈ Instr.ill (.rpdo 1 (List.replicate 5000 0)) ∧
  Ill.notNode ∈ Instr.ill (.heartbeatReceive huge) ∧
  Ill.notSrdoData ∈ Instr.ill (.srdoReceive 1 (List.replicate 5000 0) []) ∧
  Ill.notSpiData ∈ Instr.ill (.spiBusWrite 1 1 (List.replicate 5000 0)) ∧
  Ill.notSource ∈ Instr.ill (.irqSourceEvent huge false) ∧
  Ill.notIoBank ∈ Instr.ill (.bankSupplyLost huge) ∧
  Ill.notSafInput ∈ Instr.ill (.faultInput huge) ∧
  Ill.notBistTarget ∈ Instr.ill (.bistSlice huge) ∧
  Ill.notMarchElement ∈ Instr.ill (.bistSliceEnd 1 huge []) ∧
  Ill.notTargetSet ∈ Instr.ill (.bstTgtEnWrite huge) := by
  decide +kernel


/-! ### Witnesses -/

theorem witness_IdleStepIsOneTick :
    State.reset.pending = [] ∧ { State.reset with sys := { State.reset.sys with phase := .noVin } }.pending = [] ∧
    onLive (ready []) (fun s => s.pending = [] ∧ s.net.spiOp = none ∧ s.xmc.waits = [] ∧ s.cfg.cmd = none ∧ s.log.bridge = none ∧
      s.rdB Fd.PWR_IDLE_TMR_EN = false ∧ s.fab.released = false ∧ s.fab.swapTick = [] ∧ s.net.tpdoHeld = []) := by decide +kernel

theorem witness_NoClockNoEffect : clocked (dev Md.frozen []) = false ∧ ¬Unclocked .lcsVote ∧
    clocked (boot Md.load .resetHeld []) = false ∧ clocked (boot Md.load .noVin []) = false := by
  refine ⟨by decide, ?_, by decide, by decide⟩
  simp [Unclocked]

theorem witness_MemoryFormIsKept : Memory.wf State.reset.mem = true ∧ mapWf State.reset.regs = true ∧ ∃ t, step State.reset = .next t :=
  ⟨by decide, by decide, _, rfl⟩

theorem witness_FrozenIsKept :
    (mod (ready []) (fun s => { s with pwr := { s.pwr with absent := [6] } })).pwr.absent = [6] ∧
    ((ready []).sys.phase ≠ .noVin ∧ (ready []).sys.phase ≠ .resetHeld ∧ 6 ∉ (ready []).pwr.absent ∧ (ready []).mode ≠ Md.frozen) ∧
    ((dev Md.frozen []).mode = Md.frozen ∧ (dev Md.frozen []).pwr.sleep = .awake ∧ (dev Md.frozen []).sys.resetLow = false ∧
      (dev Md.frozen []).log.bridge.any (fun b => b.ending) = false ∧ (dev Md.frozen []).sys.phase ≠ .noVin ∧
      (dev Md.frozen []).sys.phase ≠ .resetHeld ∧
      some (Instr.bankSupplyLost 12) ∉ [some Instr.lcsVote, none] ∧ ∀ c, c ∈ [some Instr.lcsVote, none] → c ≠ some .powerOn ∧ c ≠ some .brownOut ∧ c ≠ some .resetN) := by decide +kernel

theorem witness_StartUpTimelineAdvances :
    onClock State.reset (fun s => s.mode = Md.load ∧ s.sys.phase = .regulators ∧ calRow s = none) ∧
    on (boot Md.load .pinSettle []) (fun s => s.mode = Md.load ∧ s.sys.phase = .pinSettle) ∧
    on (boot Md.load .vote []) (fun s => s.mode = Md.load ∧ s.sys.phase = .vote) ∧
    on (boot Md.selftest .startTest []) (fun s => s.mode = Md.selftest ∧ s.sys.phase = .startTest) := by decide +kernel

theorem witness_ImageLoadSelectsABank :
    on (boot Md.load .auth []) (fun s => s.mode = Md.load ∧ s.sys.phase = .auth ∧ s.cfg.loadBank < 2 ∧ authentic s s.cfg.loadBank = false ∧
      s.cfg.loadBank = s.rd Fd.CFG_STAT_COMMITTED_BANK ∧ s.calm = true) ∧
    on (boot Md.load .auth [(Fd.CFG_STAT_COMMITTED_BANK, 1)]) (fun s => s.mode = Md.load ∧ s.sys.phase = .auth ∧ s.cfg.loadBank < 2 ∧
      authentic s s.cfg.loadBank = false ∧ s.cfg.loadBank ≠ s.rd Fd.CFG_STAT_COMMITTED_BANK) ∧
    on (boot Md.load .defaults []) (fun s => s.mode = Md.load ∧ s.pwr.sleep = .awake ∧ s.sys.phase = .defaults ∧ s.net.work = [] ∧ s.sys.kind = 0 ∧ s.saf.slept = 0) ∧
    on (mod (boot Md.load .defaults []) (fun s => { s with sys := { s.sys with kind := 2 } })) (fun s => s.mode = Md.load ∧ s.sys.phase = .defaults ∧ s.sys.kind ≠ 0 ∧ s.pwr.sleep = .awake ∧
       s.sys.checked = false) ∧
    on (mod (ready []) (fun s => { s with fab := { s.fab with released := true } })) (fun s => s.sys.phase = .over ∧ s.fab.released = true ∧ fabricDue s = false ∧
       s.rdB Fd.NET_DEF_STAT_FABRIC_DONE = false) := by decide +kernel

/-- A blank bank has a manifest of ones, whose slot 0 has a section; a disturbed stream never matches. -/
theorem witness_ImageLoadSelectsABank_stream :
    (let s := boot Md.load .stream []
     on s (fun s => s.mode = Md.load ∧ s.sys.phase = .stream ∧ s.cfg.streamed.contains 0 = false ∧ s.cfg.retried.contains 0 = false ∧ s.calm = true ∧
       (manifest s s.cfg.loadBank).any (fun m => slotNeeded m 0) = true)) ∧
    (let s := mod (boot Md.load .stream []) (fun s => { s with cfg := { s.cfg with retried := [0] } })
     on s (fun s => s.cfg.retried.contains 0 = true ∧ (manifest s s.cfg.loadBank).any (fun m => slotNeeded m 0) = true)) ∧
    ∀ (s : State) (b : Nat) (m : List Byte) (n : Nat), (slotMatches s b m n && !true) = false :=
  ⟨by decide +kernel, by decide +kernel, by intros; simp⟩

/-- STANDBY without the supply of a bank. -/
def unpowered (n : Nat) (l : List (Fld × Nat)) : State := mod (ready l) (fun s => { s with pwr := { s.pwr with absent := [n] } })

theorem witness_ResetsEnterLoad :
    (ready []).sys.phase ≠ .noVin ∧ (ready []).sys.phase ≠ .resetHeld ∧ (boot Md.load .resetHeld []).sys.phase = .resetHeld ∧
    (boot Md.load .resetHeld []).calm = true ∧ (boot Md.load .resetHeld []).mode = Md.load ∧ 6 ∉ (ready []).pwr.absent ∧
    6 ∈ (unpowered 6 []).pwr.absent ∧ (ready []).sys.resetLow = false ∧
    on (ready []) (fun s => warmFrom s = true ∧ 0x16B5D % 2 ^ 16 = 0x6B5D ∧ Nat.testBit 0x16B5D 16 = true ∧ 0x6B5C % 2 ^ 16 ≠ 0x6B5D ∧
      Nat.testBit 0x6B5D 16 = false) := by decide +kernel

/-- A mode with a scrap in progress. -/
def scrapped (m : Nat) : State := mod (dev m []) (fun s => { s with lcs := { s.lcs with cmd := some ⟨3, 0, []⟩ } })

theorem witness_ModeRequestsAct :
    on (ready [(Fd.SYS_MODE_REQ_BUSY, 1)]) (fun s => s.rdB Fd.SYS_MODE_REQ_BUSY = true) ∧
    on (scrapped Md.standby) (fun s => s.rdB Fd.SYS_MODE_REQ_BUSY = false ∧ scrapping s = true) ∧
    on (ready [(Fd.LCS_STATE_STATE, 3)]) (fun s => s.rdB Fd.SYS_MODE_REQ_BUSY = false ∧ scrapping s = false ∧ lcsState s = 3) ∧
    on (sound [(Fd.LCS_STATE_STATE, 0)]) (fun s => s.rdB Fd.SYS_MODE_REQ_BUSY = false ∧ scrapping s = false ∧ lcsState s ≠ 3 ∧ s.mode = Md.standby ∧ queuesIn s 1 = [] ∧ startLeads true s = some Md.run ∧
      standbyFrom s = false ∧ safeReqFrom s = true) ∧
    on (running []) (fun s => s.mode ≠ Md.standby ∧ driving s.mode = true ∧ startLeads true s = none) ∧
    on (mod (ready []) (fun s => { s with que := { s.que with halt := [(3, ⟨1, 0, 0⟩)] } })) (fun s => queuesIn s 1 ≠ []) ∧
    on (dev Md.safe []) (fun s => driving s.mode = false ∧ standbyFrom s = true) ∧
    on (dev Md.load []) (fun s => safeReqFrom s = false) ∧
    on (mod (dev Md.selftest []) (fun s => { s with sys := { s.sys with selfTest := true } })) (fun s => s.mode = Md.selftest ∧ s.sys.selfTest = true ∧
       bstMarched s = true ∧ s.bst.testBad = false) ∧
    on (mod (dev Md.selftest []) (fun s => { s with sys := { s.sys with selfTest := true }, bst := { s.bst with testLeft := [(15, 1)], testBad := true } }))
      (fun s => s.mode = Md.selftest ∧ s.sys.selfTest = true ∧ bstMarched s = false ∧ s.bst.testBad = true) ∧
    on (mod (running []) (fun s => { s with sys := { s.sys with toStandby := true } })) (fun s => s.sys.toStandby = true ∧
       s.nib.nibs.all (fun e => e.2.mode != .locked) = true) := by decide +kernel

theorem witness_NmtCommandsAct :
    on (dev Md.load []) (fun s => nmtServed s = false) ∧
    on (scrapped Md.safe) (fun s => nmtServed s = true ∧ s.rdB Fd.SYS_MODE_REQ_BUSY = false ∧ scrapping s = true) ∧
    on (sound []) (fun s => nmtServed s = true ∧ startLeads false s = some Md.run ∧ s.rdB Fd.SYS_MODE_REQ_BUSY = false ∧ scrapping s = false ∧
      standbyFrom s = false ∧ safeReqFrom s = true ∧ driving s.mode = false) ∧
    on (running []) (fun s => nmtServed s = true ∧ startLeads false s = none ∧ driving s.mode = true ∧
      s.rdB Fd.SYS_MODE_REQ_BUSY = false) ∧
    on (running [(Fd.SYS_MODE_REQ_BUSY, 1)]) (fun s => nmtServed s = true ∧ driving s.mode = true ∧ ¬s.rdB Fd.SYS_MODE_REQ_BUSY = false) ∧
    on (dev Md.safe []) (fun s => nmtServed s = true ∧ standbyFrom s = true ∧ driving s.mode = false) ∧
    on (dev Md.safe []) (fun s => safeReqFrom s = false) ∧ on (dev Md.selftest []) (fun s => nmtServed s = true ∧ warmFrom s = false) := by decide +kernel

theorem witness_RegisterAccessCodes :
    on (ready []) (fun s => masterServed s 0x17 = false ∧ masterServed s 0x18 = true ∧ railsOff s = false ∧ s.rdB Fd.SYS_BUSERR_INFO_VALID = false ∧ 0x06130000 ≤ 0x07FFFFFF ∧
      0x07FFFFFF < 0x08000000) ∧
    on (ported Md.standby []) (fun s => railsOff s = false ∧ linked s ∧ masterBusy s 0x17 = false) := by decide +kernel

/-- A device whose power controller stands in a phase. -/
def napping (m : Nat) (p : SleepPhase) (sel : Nat) (l : List (Fld × Nat)) : State :=
  let s := dev m l
  { s with pwr := { s.pwr with sleep := p, sel := sel } }

theorem witness_SleepEntryAndWake :
    on (ready [(Fd.SYS_MODE_REQ_BUSY, 1)]) (fun s => s.rd Fd.SYS_MODE_REQ_BUSY = 1) ∧
    on (running []) (fun s => s.rd Fd.SYS_MODE_REQ_BUSY = 0 ∧ s.mode ≠ Md.standby) ∧
    on (scrapped Md.standby) (fun s => s.rd Fd.SYS_MODE_REQ_BUSY = 0 ∧ scrapping s = true) ∧
    on (ready []) (fun s => s.rd Fd.SYS_MODE_REQ_BUSY = 0 ∧ scrapping s = false ∧ idleCond 1 s = none ∧ s.rd Fd.PWR_IDLE_TMR_EN = 0 ∧ s.pwr.sleep = .awake ∧
      ∀ i, i < 512 → s.rd (Fd.IRQ_SRC_CFG_WAKE_EN i) = 0) ∧
    on (ready [(Fd.UFL_CMD_STAT_BUSY, 1), (Fd.CFG_CMD_STAT_BUSY, 1), (Fd.LCS_CMD_STAT_BUSY, 1)]) (fun s => idleCond 1 s ≠ none) ∧
    on (ready [(Fd.PWR_IDLE_TMR_EN, 1), (Fd.PWR_IDLE_TMR_TIME, 1), (Fd.LOG_AON_COUNT, 33)]) (fun s => s.rd Fd.PWR_IDLE_TMR_EN = 1 ∧ s.rd Fd.SYS_MODE_REQ_BUSY = 0 ∧
      idleOver s = true ∧ idleCond (max 1 (s.rd Fd.PWR_IDLE_TMR_SEL)) s = none ∧ scrapping s = false) ∧
    on (ready [(Fd.PWR_IDLE_TMR_EN, 1), (Fd.PWR_IDLE_TMR_TIME, 1), (Fd.LOG_AON_COUNT, 33), (Fd.SYS_MODE_REQ_BUSY, 1)]) (fun s =>
      idleOver s = true ∧ idleCond (max 1 (s.rd Fd.PWR_IDLE_TMR_SEL)) s = none ∧ s.rd Fd.SYS_MODE_REQ_BUSY = 1) ∧
    on (ready [(Fd.PWR_IDLE_TMR_EN, 1), (Fd.PWR_IDLE_TMR_TIME, 1), (Fd.LOG_AON_COUNT, 33), (Fd.UFL_CMD_STAT_BUSY, 1)]) (fun s => idleOver s = true ∧
      idleCond (max 1 (s.rd Fd.PWR_IDLE_TMR_SEL)) s ≠ none) ∧
    on (ready [(Fd.PWR_IDLE_TMR_EN, 1), (Fd.PWR_IDLE_TMR_TIME, 1), (Fd.LOG_AON_COUNT, 32)]) (fun s => idleOver s = false) ∧
    on (napping Md.sleep (.entry 2) 1 []) (fun s => idleCond s.pwr.sel s = none) ∧
    on (napping Md.sleep (.entry 4) 1 []) (fun s => idleCond s.pwr.sel s = none) ∧
    on (napping Md.sleep (.entry 3) 1 [(Fd.UFL_CMD_STAT_BUSY, 1)]) (fun s => idleCond s.pwr.sel s ≠ none ∧ s.saf.slept = 0) ∧
    onClock (napping Md.sleep (.deepening 1) 3 []) (fun s => s.pwr.sleep = .deepening 1 ∧ idleCond s.pwr.sel s = none) ∧
    onClock (napping Md.sleep (.deepening 1) 3 [(Fd.UFL_CMD_STAT_BUSY, 1)]) (fun s => idleCond s.pwr.sel s ≠ none) ∧
    on (napping Md.sleep .down 2 []) (fun s => s.pwr.sleep = .down ∧ s.pwr.sel = 2) ∧
    onClock (napping Md.sleep (.asleep 1) 1 [(Fd.PWR_WAKE_CFG_PIN_EN, 1), (Fd.PWR_WAKE_CFG_HSP_EN, 1), (Fd.PWR_WAKE_CFG_TMR_EN, 1),
        (Fd.PWR_WAKE_TMR_N, 1), (Fd.NET_WAKE_CFG_MODE 1, 1), (Fd.PWR_SLEEP_CFG_DEEPEN_EN, 1), (Fd.PWR_SLEEP_CFG_DEEPEN_TIME, 1), (Fd.PWR_SLEEP_CFG_DEEPEN_SEL, 2),
        (Fd.LOG_AON_COUNT, 32768)])
      (fun s => s.rd Fd.PWR_WAKE_CFG_PIN_EN = 1 ∧ s.rd Fd.PWR_WAKE_CFG_HSP_EN = 1 ∧ s.rd Fd.PWR_WAKE_CFG_TMR_EN = 1 ∧ 6 ∉ s.pwr.absent ∧
        s.rd Fd.PWR_WAKE_TMR_N ≠ 0 ∧ s.rd Fd.PWR_WAKE_TMR_N ≤ asleepFor s ∧ s.mode = Md.sleep ∧ s.rd (Fd.NET_WAKE_CFG_MODE 1) = 1 ∧ s.rd (Fd.NET_WAKE_CFG_MODE 0) = 0 ∧
        s.rd Fd.PWR_SLEEP_CFG_DEEPEN_SEL = 2 ∧ s.quiet = true ∧ s.rd Fd.PWR_SLEEP_CFG_DEEPEN_EN = 1 ∧ s.pwr.noDeepen = false ∧
        max 1 (s.rd Fd.PWR_SLEEP_CFG_DEEPEN_TIME) * 32768 ≤ asleepFor s) ∧
    onClock (napping Md.sleep (.asleep 1) 1 [(Fd.PWR_SLEEP_CFG_DEEPEN_EN, 1), (Fd.PWR_SLEEP_CFG_DEEPEN_TIME, 1), (Fd.LOG_AON_COUNT, 32768), (Fd.PWR_WAKE_TMR_N, 32769),
        (Fd.PWR_WAKE_CFG_TMR_EN, 1)]) (fun s => idleCond 3 s = none ∧ asleepFor s < s.rd Fd.PWR_WAKE_TMR_N) ∧
    onClock (napping Md.sleep (.asleep 1) 1 [(Fd.PWR_SLEEP_CFG_DEEPEN_EN, 1), (Fd.PWR_SLEEP_CFG_DEEPEN_TIME, 1), (Fd.LOG_AON_COUNT, 32768), (Fd.PWR_PL_BUSY, 1)]) (fun s =>
      idleCond 3 s ≠ none) ∧
    onClock (mod (napping Md.sleep (.asleep 2) 2 [(Fd.PWR_WAKE_CFG_MOTION_EN, 1), (Fd.PWR_MOTION_COUNTS, 1), (Fd.AFE_CH_CFG_TYPE 0, 1)])
        (fun s => { s with pwr := { s.pwr with motion0 := -1 } })) (fun s => s.rd Fd.PWR_WAKE_CFG_MOTION_EN = 1 ∧
       max 1 (s.rd Fd.PWR_MOTION_COUNTS) ≤ (afeTotal 0 s - s.pwr.motion0).natAbs ∧ s.rd (Fd.AFE_CH_CFG_TYPE 0) = 1) ∧
    on (napping Md.sleep (.waking 2) 2 []) (fun s => s.saf.slept = 0) := by
  refine ⟨?_, ?_, ?_, ?_, ?_, ?_, ?_, ?_, ?_, ?_, ?_, ?_, ?_, ?_, ?_, ?_, ?_, ?_, ?_, ?_⟩ <;> decide +kernel

theorem witness_PowerLevelsAndSupplies :
    ((dev Md.frozen []).sys.phase ≠ .noVin ∧ clocked (dev Md.frozen []) = false) ∧
    (let s := mod (ready []) (fun s => { s with sys := { s.sys with resetLow := true }, pwr := { s.pwr with absent := [6] } })
     s.sys.phase ≠ .noVin ∧ s.sys.phase ≠ .resetHeld ∧ s.sys.resetLow = true) ∧
    on (ready []) (fun s => clocked s = true ∧ s.sys.resetLow = false) ∧
    on (dev Md.load []) (fun s => s.mode = Md.load) ∧
    on (ready [(Fd.PWR_PL_BUSY, 1)]) (fun s => s.rd Fd.PWR_PL_BUSY = 1 ∧ s.pwr.plTo < 4) ∧
    on (ready [(Fd.FAB_CLK_STAT_PL_LIMIT, 2)]) (fun s => s.rd Fd.PWR_PL_BUSY = 0 ∧ plBound s < 3 ∧ 2 ≤ plBound s ∧
      2 ≠ s.rd Fd.PWR_PL_CURRENT ∧ driving s.mode = false) ∧
    on (running [(Fd.PWR_PL_CURRENT, 3)]) (fun s => driving s.mode = true ∧ 3 = s.rd Fd.PWR_PL_CURRENT) := by decide +kernel

/-- STANDBY with stored words of a memory. -/
def words (l : List (Nat × MemWord)) (r : List (Fld × Nat)) : State := mod (ready r) (fun s => { s with mem := l })

theorem witness_MemoryAccesses :
    on (words [(mkey 2 5, 1), (mkey 2 6, 3)] [(Fd.MEM_LB_OWN_OWNER 0, 1)]) (fun s => memOwned 2 1 s = true ∧ s.plainMem ∧
      eccDecode (s.mcur (mkey 2 4)) = .clean 0 ∧ eccDecode (s.mcur (mkey 2 5)) = .fixed 0 ∧ eccDecode (s.mcur (mkey 2 6)) = .bad ∧
      wordThere 2 6 = true ∧ memOwned 2 0x11 s = false ∧ 0x0F % 256 ≠ 255) ∧
    on (words [(mkey 10 6, 1), (mkey 10 7, 3)] []) (fun s => wordThere 10 7 = true ∧ s.plainMem ∧ memOwned 10 1 s = true ∧
      eccDecode (s.mcur (mkey 10 5)) = .clean 0 ∧ eccDecode (s.mcur (mkey 10 7)) = .bad) ∧
    on (mod (ready []) (fun s => { s with mst := { s.mst with merge := [⟨mkey 12 1, 0, 5, 1⟩, ⟨mkey 13 1, 0, 7, 1⟩] } })) (fun s =>
      s.plainMem ∧ s.mst.merge.find? (fun e => e.key / 2 ^ 32 == 13) = some ⟨mkey 13 1, 0, 7, 1⟩) ∧
    on (ready []) (fun _ => wordThere 0 0 = true ∧ inkClash 0xFF 1 0xFE 1 = true ∧ inkClash 0xFF 1 0xFD 2 = false) ∧
    on (ready [(Fd.MEM_LB_OWN_OWNER 7, 1)]) (fun s => masterServed s 0x11 = false ∧ masterServed s 1 = true ∧ 0x00FFFFF8 < 0x01000000 ∧ 0x00FFFFF8 % 8 = 0 ∧
      memOwned (2 + 0x00FFFFF8 / 0x200000) 1 s = true ∧
      eccDecode (s.mcur (mkey (2 + 0x00FFFFF8 / 0x200000) (0x00FFFFF8 % 0x200000 / 8))) = .clean 0) := by decide +kernel

theorem witness_LargeBankOperations :
    on (words [(mkey 9 0x3FFFF, 1)] [(Fd.MEM_LB_OWN_OWNER 7, 1)]) (fun s => s.plainMem ∧ masterServed s 0x17 = false ∧ masterServed s 1 = true ∧
      memOwned 9 1 s = true ∧ 0x1FFFF8 % 8 = 0 ∧
      0x1FFFFC % 4 = 0 ∧ eccDecode (s.mcur (mkey 9 (0x1FFFF8 / 8))) = .fixed 0 ∧ eccDecode (s.mcur (mkey 9 0)) = .clean 0 ∧
      memOwned 9 2 s = false ∧ 1 = s.rd (Fd.MEM_LB_OWN_OWNER 7) ∧ 2 ≠ s.rd (Fd.MEM_LB_OWN_OWNER 7)) ∧
    on (mod (ready []) (fun s => { s with mst := { s.mst with ownPend := [(0, 2)] } })) (fun s => s.plainMem ∧
      mapGet? s.mst.ownPend 0 = some 2) := by decide +kernel

theorem witness_MemoryUpkeep :
    on (mod (words [(mkey 14 0, 1), (mkey 13 0, 3)] []) (fun s => { s with
        mst := { s.mst with writeBack := [(14, 0)], scrubFix := [(14, ⟨14, 0, 0⟩)] } }))
      (fun s => s.plainMem ∧ s.mst.writeBack.find? (fun e => e.1 == 14) = some (14, 0) ∧ eccDecode (s.mget (mkey 14 0)) = .fixed 0 ∧
        eccDecode (s.mcur (mkey 14 0)) = .fixed 0 ∧ scrubRuns s = true ∧ mapGet 0 s.mst.scrubPos 14 = 0 ∧ eccDecode (s.mcur (mkey 12 0)) = .clean 0 ∧
        eccDecode (s.mcur (mkey 13 0)) = .bad ∧ scrubReaches 14 0 s = true ∧ s.mst.scrubFix = [(14, ⟨14, 0, 0⟩)] ∧ scrubReaches 13 0 s = true ∧ scrubReaches 12 0 s = true ∧
        s.rdB (Fd.MEM_LB_REMAP_VALID 7 3) = false ∧ eccDecode (s.mget (mkey 9 262143)) = .clean 0) ∧
    on (ready [(Fd.LCS_STATE_STATE, 3)]) (fun s => s.plainMem ∧ injAllowed s = false) ∧
    on (ready [(Fd.LCS_STATE_STATE, 0)]) (fun s => s.plainMem ∧ injAllowed s = true) ∧
    on (mod (ready [(Fd.MEM_LB_REMAP_VALID 7 3, 1), (Fd.MEM_LB_REMAP_WORD 7 3, 262143)])
        (fun s => { s with mst := { s.mst with spares := [(mkey 9 262143, 0)] } }))
      (fun s => s.plainMem ∧ s.rdB (Fd.MEM_LB_REMAP_VALID 7 3) = true ∧ s.rd (Fd.MEM_LB_REMAP_WORD 7 3) = 262143 ∧
        mapGet? s.mst.spares (mkey 9 262143) = some 0) := by decide +kernel

/-- STANDBY with an SDRAM of one rank in a state and clean and uncorrectable lines. -/
def sdram (st : Nat) (r : List (Fld × Nat)) : State :=
  mod (ready ((Fd.XMC_STAT_STATE, st) :: (Fd.XMC_CFG_RANKS, 1) :: (Fd.XMC_STAT_CAP_GIB, 16) :: r))
    (fun s => { s with xmc := { s.xmc with lines := [(0, 0), (268435455, 0), (7, lineOf (1 + 2 ^ 20) 0)] } })

theorem witness_SdramLinesAndController :
    on (sdram 2 []) (fun s => masterServed s 0x17 = false ∧ masterServed s 0x40 = true ∧ lineOk 0 s = true ∧ lineOk 268435455 s = true ∧ s.rdB Fd.XMC_INJ_ARMED = false ∧
      (2 ^ 64 - 1) % 2 ^ 64 = 2 ^ 64 - 1 ∧ 1 % 2 ^ 32 ≠ 0 ∧
      rsDecode (markOf s (rankOf s 0)) (cwOf (lineGet s 0) 0) = .clean ∧ rsDecode (markOf s (rankOf s 0)) (cwOf (lineGet s 0) 1) = .clean ∧
      rsDecode (markOf s (rankOf s 7)) (cwOf (lineGet s 7) 0) = .bad ∧ rsDecode (markOf s (rankOf s 7)) (cwOf (lineGet s 7) 1) = .clean ∧
      lineOk 268435456 s = false ∧ s.rdB Fd.XMC_STAT_BUSY = false ∧ 268435455 + 1 ≤ xmcLines s ∧ xmcLines s < 268435455 + 2 ∧
      s.rd Fd.XMC_CFG_RANKS = 1 ∧ s.rdB (Fd.XMC_MARK_VALID 0) = false) ∧
    on (sdram 2 [(Fd.XMC_STAT_BUSY, 1)]) (fun s => s.rdB Fd.XMC_STAT_BUSY = true) ∧
    on (mod (sdram 2 []) (fun s => { s with xmc := { s.xmc with fill := some ⟨5, 1, 0⟩ } })) (fun s => s.xmc.fill = some ⟨5, 1, 0⟩) ∧
    on (sdram 2 [(Fd.LCS_STATE_STATE, 3)]) (fun s => injAllowed s = false) ∧ on (sdram 2 [(Fd.LCS_STATE_STATE, 0)]) (fun s => injAllowed s = true) ∧
    on (sdram 4 []) (fun s => s.rd Fd.XMC_STAT_STATE = 4 ∧ s.rd Fd.XMC_CFG_RANKS ≠ 0) ∧
    on (sdram 1 []) (fun s => s.rd Fd.XMC_STAT_STATE = 1 ∧ ∀ i, i < 16 → s.rdB (Fd.XMC_REMAP_VALID i) = false) ∧
    on (mod (sdram 2 [(Fd.XMC_CTRL_PATROL_EN, 1)]) (fun s => { s with xmc := { s.xmc with patrolPos := 268435455 } }))
      (fun s => scrubMode s = true ∧ s.rdB Fd.XMC_CTRL_PATROL_EN = true ∧ s.xmc.patrolPos + 1 = xmcLines s ∧
        rsDecode (markOf s (rankOf s s.xmc.patrolPos)) (cwOf (lineGet s s.xmc.patrolPos) 0) = .clean ∧
        rsDecode (markOf s (rankOf s s.xmc.patrolPos)) (cwOf (lineGet s s.xmc.patrolPos) 1) = .clean) := by decide +kernel

/-- Channel 31 about to copy one word from address 0 to an address. -/
def copying (st src dst remain : Nat) : State :=
  ready [(Fd.DMA_STAT_STATE 31, st), (Fd.DMA_DESC_WORD 31 0, src), (Fd.DMA_DESC_WORD 31 2, dst), (Fd.DMA_DESC_WORD 31 4, 8),
    (Fd.DMA_REMAIN_BYTES 31, remain), (Fd.MEM_LB_OWN_OWNER 0, 4), (Fd.MEM_LB_OWN_OWNER 7, 4)]

theorem witness_DmaChannels :
    on (dev Md.load []) (fun s => dmaMode s = false) ∧
    on (copying 1 0 0xFFFFF8 8) (fun s => dmaMode s = true ∧ dmaState s 31 = 1 ∧ dmaMoves s 31 = true ∧ dmaOk s 31 = true ∧ s.plainMem ∧
      s.rd (Fd.DMA_REMAIN_BYTES 31) = 8 ∧ dmaLen s 31 = 8 ∧ dmaSrcX s 31 = false ∧ dmaDstX s 31 = false ∧ dmaToQueue s 31 = false ∧
      dmaSrc s 31 = 0 ∧ dmaDst s 31 < 0x01000000 ∧ memOwned (2 + dmaSrc s 31 / 0x200000) 4 s = true ∧
      memOwned (2 + dmaDst s 31 / 0x200000) 4 s = true ∧ eccDecode (s.mcur (mkey 2 0)) = .clean 0) ∧
    on (copying 2 0 8 0) (fun s => dmaState s 31 ≠ 1 ∧ dmaOk s 31 = true ∧ 2 ≤ dmaState s 31) ∧
    on (ready []) (fun s => dmaState s 0 ≠ 1 ∧ dmaOk s 0 = false ∧ dmaState s 0 < 2) ∧
    on (copying 1 0x06130000 0 8) (fun s => dmaMoves s 31 = true ∧ dmaOk s 31 = true ∧ s.rd (Fd.DMA_REMAIN_BYTES 31) = dmaLen s 31 ∧
      regionOf (dmaSrc s 31) = .reserved) ∧
    on (copying 1 0 8 0) (fun s => dmaMoves s 31 = true ∧ s.rd (Fd.DMA_REMAIN_BYTES 31) = 0 ∧ dmaToQueue s 31 = false ∧
      dmaWord s 31 6 = 0) := by decide +kernel


/-- RUN with channel k of the AFE holding given values. -/
def chan (k : Nat) (f : AfeCh → AfeCh) (l : List (Fld × Nat)) : State := (running l).updAch k f

theorem witness_EncoderEdgesAndIndex :
    on (chan 1 id [(Fd.AFE_CH_CFG_TYPE 1, 2)]) (fun s => s.rd (Fd.AFE_CH_CFG_TYPE 1) ≠ 1) ∧
    on (chan 1 (fun c => { c with seen := true }) [(Fd.AFE_CH_CFG_TYPE 1, 1), (Fd.AFE_CH_CPR_CPR 1, 4), (Fd.AFE_CH_CFG_DECODE 1, 2)])
      (fun s => s.rd (Fd.AFE_CH_CFG_TYPE 1) = 1 ∧ (s.ach 1).seen = true ∧ (s.ach 1).lvA = false ∧ (s.ach 1).lvB = false ∧
        0 < s.rd (Fd.AFE_CH_CPR_CPR 1) ∧ s.rd (Fd.AFE_CH_CPR_CPR 1) < 2 ^ 21 ∧
        quadCount (s.rd (Fd.AFE_CH_CFG_DECODE 1)) (quadOf false false) (quadOf true false) ≠ 0 ∧ s.afeRd Fd.AFE_TBL_CTRL_EN1 = 0 ∧
        s.rd (Fd.AFE_CH_CFG_SINGLE_ENDED 1) = 0) ∧
    on (chan 1 (fun c => { c with seen := true }) [(Fd.AFE_CH_CFG_TYPE 1, 1), (Fd.AFE_CH_CPR_CPR 1, 4), (Fd.AFE_CH_CFG_DECODE 1, 0)])
      (fun s => quadCount (s.rd (Fd.AFE_CH_CFG_DECODE 1)) (quadOf false false) (quadOf false true) = 0) ∧
    on (chan 0 id [(Fd.AFE_CH_CFG_TYPE 0, 1), (Fd.AFE_CH_CFG_Z_MODE 0, 0)]) (fun s => (s.ach 0).seen = false ∧ s.rd (Fd.AFE_CH_CPR_CPR 0) = 0 ∧
      s.rd (Fd.AFE_CH_CFG_Z_MODE 0) = 0) ∧
    on (chan 0 id [(Fd.AFE_CH_CFG_TYPE 0, 1), (Fd.AFE_CH_CPR_CPR 0, 1048576), (Fd.AFE_CH_CFG_Z_MODE 0, 1)])
      (fun s => (s.ach 0).seen = false ∧ s.rd (Fd.AFE_CH_CFG_TYPE 0) = 1 ∧ s.rd (Fd.AFE_CH_CPR_CPR 0) < 2 ^ 21 ∧
        s.rd (Fd.AFE_CH_CPR_CPR 0) ≠ 0 ∧ s.rd (Fd.AFE_CH_CFG_Z_MODE 0) ≠ 0 ∧ zGate s 0 = true ∧
        s.rd (Fd.AFE_CH_STAT_REFERENCED 0) = 0 ∧ s.rd (Fd.AFE_CH_CFG_SINGLE_ENDED 0) = 0) ∧
    on (chan 0 (fun c => { c with cell := 500 }) [(Fd.AFE_CH_CFG_TYPE 0, 1), (Fd.AFE_CH_CPR_CPR 0, 1048576), (Fd.AFE_CH_CFG_Z_MODE 0, 2),
        (Fd.AFE_CH_STAT_REFERENCED 0, 1), (Fd.AFE_CH_ZCFG_ZTOL 0, 3)])
      (fun s => zGate s 0 = true ∧ s.rd (Fd.AFE_CH_STAT_REFERENCED 0) = 1 ∧ min 2 (s.rd (Fd.AFE_CH_CFG_Z_MODE 0)) = 2 ∧
        s.rd (Fd.AFE_CH_ZCFG_ZTOL 0) < cellDist (s.rd (Fd.AFE_CH_CPR_CPR 0)) (s.ach 0).cell
          (s.rd (Fd.AFE_CH_ZCFG_ZOFS 0) % s.rd (Fd.AFE_CH_CPR_CPR 0))) := by decide +kernel

/-- An incremental channel with a count of 4 a revolution that stands in cell 0, and an estimate. -/
def wheel (p : Nat) (v : Int) (ms : List Meas) (restart : Bool) (l : List (Fld × Nat)) : State :=
  chan 0 (fun c => { c with p := p, v := v, meas := ms, restart := restart }) ((Fd.AFE_CH_CFG_TYPE 0, 1) :: (Fd.AFE_CH_CPR_CPR 0, 4) :: l)

/-- The estimate lies beyond the boundary of its cell: ahead of its end when it moves forward, behind its start when it moves back. -/
def pastCell (s : State) (p : Nat) (v : Int) : Bool :=
  let b := ((s.ach 0).rev * 2 ^ 64 + (if 0 < v then (s.ach 0).cell + 1 else (s.ach 0).cell) * scaleOf 4) % 2 ^ 72
  (decide (0 < v) && decide (0 < diffS 72 p b)) || (decide (v < 0) && decide (diffS 72 p b < 0))

/-- STOP has passed for it. -/
def pastStop (s : State) : Bool := decide (((s.rd (Fd.AFE_CH_STOP_STOP 0) * 1024 : Nat) : Int) ≤ diffS 64 s.now (s.ach 0).lastEdge)

/-- A measurement of angle 0 whose stamp is 0, ready at tick 3. -/
def meas0 : Meas := ⟨0, 0, 0, 1, 3, false⟩

theorem witness_SamplesAndEstimates :
    on (chan 0 id []) (fun s => masterServed s 0x17 = false ∧ masterServed s 0x18 = true ∧ s.rd (Fd.AFE_CH_CFG_TYPE 0) ≠ 2 ∧ (s.ach 0).conv = none ∧ (s.ach 0).meas = [] ∧ railsOff s = false ∧
      s.rd Fd.AFE_TBL_CTRL_PENDING0 = 0) ∧
    on (chan 1 (fun c => { c with conv := some (32767, -32768, 5), meas := [meas0], restart := false })
        [(Fd.LOG_TIME_TIME, 200), (Fd.AFE_CH_CFG_TYPE 1, 2), (Fd.AFE_CH_CPR_CPR 1, 65536), (Fd.AFE_TBL_CTRL_PENDING1, 1),
          (Fd.AFE_CH_AMP_AMP_MAX 1, 1)])
      (fun s => s.rd (Fd.AFE_CH_CFG_TYPE 1) = 2 ∧ (s.ach 1).conv = some (32767, -32768, 5) ∧ s.rd (Fd.AFE_CH_CPR_CPR 1) ≠ 0 ∧
        s.afeRd Fd.AFE_TBL_CTRL_EN1 = 0 ∧ (s.ach 1).meas = [meas0] ∧ meas0.rev = false ∧ 0 ≤ diffS 64 s.now meas0.ready ∧
        diffS 64 meas0.enter s.now < 0 ∧ (s.ach 1).restart = false ∧ s.pwr.sleep.resting ≠ some 2 ∧
        s.rd Fd.AFE_TBL_CTRL_PENDING1 = 1 ∧ s.rd Fd.AFE_TBL_CTRL_ACTIVE1 < 2 ∧ sx 16 0x8000 = -32768 ∧ sx 16 0x7FFF = 32767) ∧
    on (chan 1 (fun c => { c with meas := [meas0], restart := true }) [(Fd.LOG_TIME_TIME, 200), (Fd.AFE_CH_CFG_TYPE 1, 2)])
      (fun s => s.rd (Fd.AFE_CH_CFG_TYPE 1) = 2 ∧ (s.ach 1).meas = [meas0] ∧ (s.ach 1).restart = true) ∧
    on (chan 0 id [(Fd.AFE_CH_CFG_TYPE 0, 1), (Fd.AFE_CH_STOP_STOP 0, 1), (Fd.LOG_TIME_TIME, 1024)]) (fun s =>
      s.rd (Fd.AFE_CH_CFG_TYPE 0) = 1 ∧ ((s.afeRd (Fd.AFE_CH_STOP_STOP 0) * 1024 : Nat) : Int) ≤ diffS 64 s.now (s.ach 0).lastEdge) ∧
    on (chan 0 id [(Fd.AFE_CH_CFG_TYPE 0, 2), (Fd.AFE_CH_STOP_STOP 0, 1), (Fd.LOG_TIME_TIME, 1024), (Fd.AFE_CH_DIRCFG_DIR_HYST 0, 1)])
      (fun s => s.rd (Fd.AFE_CH_CFG_TYPE 0) = 2 ∧ s.afeRd (Fd.AFE_CH_DIRCFG_DIR_HYST 0) ≠ 0 ∧
        ((s.afeRd (Fd.AFE_CH_STOP_STOP 0) * 1024 : Nat) : Int) ≤ diffS 64 s.now (s.ach 0).lastEdge) ∧
    on (chan 0 id [(Fd.AFE_CH_STOP_STOP 0, 1), (Fd.LOG_TIME_TIME, 1023)]) (fun s =>
      diffS 64 s.now (s.ach 0).lastEdge < ((s.afeRd (Fd.AFE_CH_STOP_STOP 0) * 1024 : Nat) : Int)) := by decide +kernel

/-- The incremental channel: within its cell and beyond it, before STOP and after it; a restart, a correction and a reversal. -/
theorem witness_SamplesAndEstimates_incremental :
    on (wheel 0 (2 ^ 40) [] false [(Fd.AFE_CH_STOP_STOP 0, 1), (Fd.LOG_TIME_TIME, 1023)]) (fun s => s.rd (Fd.AFE_CH_CFG_TYPE 0) = 1 ∧
      (s.ach 0).meas = [] ∧ pastStop s = false ∧ pastCell s (enc 72 (16 * 2 ^ 40)) (2 ^ 40) = false) ∧
    on (wheel (2 ^ 62) (2 ^ 40) [] false [(Fd.AFE_CH_STOP_STOP 0, 1), (Fd.LOG_TIME_TIME, 1023)]) (fun s =>
      pastStop s = false ∧ pastCell s (enc 72 (2 ^ 62 + 16 * 2 ^ 40)) (2 ^ 40) = true) ∧
    on (wheel 0 (-(2 ^ 40)) [] false [(Fd.AFE_CH_STOP_STOP 0, 1), (Fd.LOG_TIME_TIME, 1024)]) (fun s =>
      pastStop s = true ∧ pastCell s (enc 72 (-(16 * 2 ^ 40))) (-(2 ^ 40)) = true) ∧
    on (wheel 0 0 [] false [(Fd.AFE_CH_STOP_STOP 0, 1), (Fd.LOG_TIME_TIME, 1024)]) (fun s => pastStop s = true ∧ pastCell s 0 0 = false) ∧
    on (wheel 0 0 [meas0] true [(Fd.LOG_TIME_TIME, 3)]) (fun s => (s.ach 0).meas = [meas0] ∧ (s.ach 0).restart = true ∧
      0 ≤ diffS 64 s.now meas0.ready ∧ diffS 64 meas0.enter s.now < 0) ∧
    on (wheel 0 0 [meas0] false [(Fd.LOG_TIME_TIME, 3)]) (fun s => (s.ach 0).meas = [meas0] ∧ (s.ach 0).restart = false ∧ meas0.rev = false ∧
      (0 : Int).natAbs ≤ s.rd (Fd.AFE_CH_RESID_RESID_MAX 0) * 256) ∧
    on (wheel 0 0 [{ meas0 with rev := true }] false [(Fd.LOG_TIME_TIME, 3)]) (fun s => (s.ach 0).meas = [{ meas0 with rev := true }] ∧
      (s.ach 0).restart = false) := by decide +kernel

theorem witness_AngleConfigurationAndRuns :
    on (running [(Fd.AFE_LEARN_CTRL_BUSY, 1), (Fd.AFE_STAT_CTRL_BUSY, 1)]) (fun s => railsOff s = false ∧
      masterServed s 0x17 = false ∧ masterServed s 1 = true ∧ s.rd Fd.AFE_LEARN_CTRL_BUSY = 1 ∧
      s.rd Fd.AFE_STAT_CTRL_BUSY = 1 ∧ s.afe.learn = none ∧ s.afe.statLeft = 0 ∧ s.mode ≠ Md.standby ∧
      s.rd (Fd.AFE_CH_STAT_VALID 0) < 2 ∧ s.rd (Fd.AFE_CH_STAT_VALID 1) < 2) ∧
    on (ready [(Fd.AFE_CH_CFG_TYPE 1, 1), (Fd.AFE_CH_STAT_REFERENCED 1, 1)]) (fun s => s.rd (Fd.AFE_CH_CFG_TYPE 1) = 1 ∧
      s.rd Fd.AFE_LEARN_CTRL_BUSY = 0 ∧ s.rd (Fd.AFE_CH_STAT_REFERENCED 1) = 1 ∧ ¬(3 = 0 ∨ 4 ≤ 3) ∧ 15624 < 15625 % 16384 ∧
      0 < 15624 % 16384) ∧
    on (mod (ready []) (fun s => { s with afe := { s.afe with learn := some ⟨0, 0, true⟩, statLeft := 1 } }))
      (fun s => s.afe.learn = some ⟨0, 0, true⟩ ∧ s.afe.statLeft ≠ 0) ∧
    on (ready [(Fd.AFE_CH_CFG_TYPE 0, 2)]) (fun s => s.rd Fd.AFE_STAT_CTRL_BUSY = 0 ∧ s.rd (Fd.AFE_CH_CFG_TYPE 0) = 2) ∧
    on (sound []) (fun s => s.mode = Md.standby ∧ s.rd (Fd.AFE_CH_STAT_VALID 0) = 1 ∧ s.rd (Fd.AFE_CH_STAT_VALID 1) = 1) := by decide +kernel

/-! #### Queues and nibs -/

/-- Queue q holds a descriptor and event store entries. -/
def withQueue (q : Nat) (d : Desc) (es : List (Nat × Ev)) (s : State) : State :=
  setHalt q d.state d.cause (putDesc q d (es.foldl (fun u e => putEntry e.1 e.2 u) s))

/-- A ring of four entries at entry 0 with one pending event, in a state with a cause. -/
def oneEvent (st cause : Nat) : Desc := ⟨0, 2, 1, 1, 0, 0, st, 0, 0, 0, 0, 0, 0, cause⟩

/-- An ACTIVATE of channel 0 at a target. -/
def evAt (t : Nat) : Ev := ⟨BitVec.ofNat 32 t, 0, 0, 0⟩

/-- RUN with a valid engine at a velocity and group 0 enabled. -/
def moving (v : Int) (l : List (Fld × Nat)) : State :=
  (running ((Fd.AFE_CH_STAT_VALID 0, 1) :: (Fd.QUE_GROUP_EN_EN, 1) :: (Fd.NIB_REACH_REACH, 16777215) :: l)).updAch 0
    (fun c => { c with v := v, pubV := v })

/-- Queue 0 runs with one event at a target. -/
def queued (v : Int) (t : Nat) : State := withQueue 0 (oneEvent 1 0) [(0, evAt t)] (moving v [])

/-- A nib of queue 0 for an event, in a mode with a fire time. -/
def nibAt (mode : NibMode) (fire : Nat) : Nib := nibFor 0 0 fire 0 0 (evAt 1000) false mode

/-- Queue 0 with its event armed. -/
def armedState (n : Nib) : State :=
  mod (withQueue 0 { oneEvent 1 0 with armed := 1 } [(0, evAt 1000)] (moving 1000000000000 []))
    (fun s => { s with nib := { s.nib with nibs := [(1023, n)] } })

theorem witness_NibSelectionAndArming :
    on (ready []) (fun s => mayArm s = false ∧ s.nib.arming = [] ∧ mapGet? s.nib.nibs 0 = none ∧ s.nib.restores = []) ∧
    on (queued 0 1000) (fun s => mayArm s = true ∧ crossing s = false ∧ candidates s = [⟨0, 0, 0⟩] ∧ getDesc s 0 = some (oneEvent 1 0) ∧
      getEntry s (ringEntry (oneEvent 1 0) 0) = some (evAt 1000) ∧ (evAt 1000).bidir = false ∧ (evAt 1000).action ≠ 6 ∧
      (predictEv (evAt 1000) 0 s).1 = none) ∧
    on (queued 1000000 1000) (fun s => candidates s = [⟨0, 0, 0⟩] ∧ (predictEv (evAt 1000) 0 s).1 = some 17592186044 ∧
      (2 : Int) ^ 22 * 16 < 17592186044) ∧
    on (queued 1000000000 1000) (fun s => candidates s = [⟨0, 0, 0⟩] ∧ (predictEv (evAt 1000) 0 s).1 = some 17592186 ∧
      (17592186 : Int) ≤ 2 ^ 22 * 16 ∧ ((s.nib.horizon * 16 : Nat) : Int) < tRel s (afterPred s 0 (fireOf s 17592186))) ∧
    on (queued 1000000000000 1000) (fun s => candidates s = [⟨0, 0, 0⟩] ∧ (predictEv (evAt 1000) 0 s).1 = some 17592 ∧
      256 ≤ tRel s (afterPred s 0 (fireOf s 17592)) ∧ tRel s (afterPred s 0 (fireOf s 17592)) ≤ ((s.nib.horizon * 16 : Nat) : Int)) ∧
    on (queued 1000000000000 5) (fun s => candidates s = [⟨0, 0, 0⟩] ∧ (predictEv (evAt 5) 0 s).1 = some 88 ∧
      tRel s (afterPred s 0 (fireOf s 88)) < 256 ∧ (oneEvent 1 0).late = 0) := by decide +kernel

theorem witness_NibSelectionAndArming_arm :
    on (mod (queued 1000000000000 1000) (fun s => { s with nib := { s.nib with arming := [nibAt .armed 17592] } }))
      (fun s => s.nib.arming = [nibAt .armed 17592] ∧ qState s 0 = 1 ∧ mayArm s = true ∧ freeIdx s = some 0 ∧
        getDesc s 0 = some (oneEvent 1 0) ∧ (oneEvent 1 0).armed < 2047) ∧
    on (mod (queued 1000000000000 1000) (fun s => { s with nib := { s.nib with arming := [{ nibAt .armed 17592 with queue := 7 }] } }))
      (fun s => qState s 7 ≠ 1) ∧
    on (armedState (nibAt .locked 17592)) (fun s => mapGet? s.nib.nibs 1023 = some (nibAt .locked 17592)) ∧
    on (armedState (nibAt .armed 17000)) (fun s => mapGet? s.nib.nibs 1023 = some (nibAt .armed 17000) ∧ slotOk s (slotNib 1023 0) = true ∧
      slotOk s (slotNib 1023 2) = true ∧ engValid s = true ∧ dirAdmitted s (nibAt .armed 17000) = true ∧ crossing s = false ∧
      getDesc s 0 = some { oneEvent 1 0 with armed := 1 } ∧ s.nib.lastFire = [] ∧
      (predictEv (nibAt .armed 17000).ev 0 s).1 = some 17592 ∧ 32 ≤ tRel s (fireOf s 17592) ∧
      tRel s (fireOf s 17592) ≤ ((s.nib.horizon * 20 : Nat) : Int)) ∧
    on (mod (armedState (nibAt .armed 17000)) (fun s => { s with mem := mapPut s.mem (mkey 14 (slotNib 1023 2 / 2)) 3 }))
      (fun s => slotOk s (slotNib 1023 2) = false ∧ mapGet? s.nib.nibs 1023 = some (nibAt .armed 17000)) ∧
    on (mod (queued 0 1000) (fun s => { s with nib := { s.nib with restores := [(0, 1)] } }))
      (fun s => s.nib.restores = [(0, 1)] ∧ getDesc s 0 = some (oneEvent 1 0)) := by decide +kernel

/-- A listed key is found. -/
theorem found_of_mem {α : Type} (m : SMap α) (k : Nat) (v : α) (h : (k, v) ∈ m) : (mapGet? m k).isNone = false := by
  induction m with
  | nil => cases h
  | cons e m ih =>
    obtain ⟨j, w⟩ := e
    by_cases hk : j = k
    · simp [mapGet?, hk]
    · have : (k, v) ∈ m := by
        rcases List.mem_cons.mp h with h | h
        · cases h; exact absurd rfl hk
        · exact h
      simp [mapGet?, hk, ih this]

/-- The first n nibs in use and locked. -/
def nibsUsed (n : Nat) : State := mod (queued 1000000000000 1000) (fun s => { s with nib := { s.nib with
  nibs := (List.range n).map (fun k => (k, nibAt .locked 17592)), arming := [nibAt .armed 17592] } })

theorem nibsUsed_nibs (n : Nat) : (nibsUsed n).nib.nibs = (List.range n).map (fun k => (k, nibAt .locked 17592)) := rfl

/-- None of 1,024 is free. -/
theorem nibsUsed_freeIdx (n : Nat) (h : 1024 ≤ n) : freeIdx (nibsUsed n) = none := by
  refine List.find?_eq_none.mpr fun k hk => ?_
  have hm : (k, nibAt .locked 17592) ∈ (nibsUsed n).nib.nibs := by
    rw [nibsUsed_nibs]
    exact List.mem_map.mpr ⟨k, List.mem_range.mpr (Nat.lt_of_lt_of_le (List.mem_range.mp hk) h), rfl⟩
  simp only [found_of_mem _ _ _ hm]
  decide

/-- None of them may be displaced. -/
theorem nibsUsed_displaced (n : Nat) :
    displaced { nibsUsed n with nib := { (nibsUsed n).nib with arming := [] } } (nibAt .armed 17592) = none := by
  have h : (nibsUsed n).nib.nibs.filter (fun e => e.2.mode != NibMode.locked) = [] := by
    rw [nibsUsed_nibs]
    refine List.filter_eq_nil_iff.mpr fun e he => ?_
    obtain ⟨k, -, rfl⟩ := List.mem_map.mp he
    exact (by decide : ¬((NibMode.locked != NibMode.locked) = true))
  unfold displaced
  simp only [h, sortBy, List.foldr_nil]

/-- The oldest prediction waits, nothing is displaced. -/
theorem witness_NibSelectionAndArming_full :
    qState (nibsUsed 1024) 0 = 1 ∧ mayArm (nibsUsed 1024) = true ∧ freeIdx (nibsUsed 1024) = none ∧
      displaced { nibsUsed 1024 with nib := { (nibsUsed 1024).nib with arming := [] } } (nibAt .armed 17592) = none :=
  ⟨by decide +kernel, by decide +kernel, nibsUsed_freeIdx 1024 (Nat.le_refl _), nibsUsed_displaced 1024⟩

theorem witness_NibGuardFireAndLearning :
    on (queued 0 1000) (fun s => dueList s = [] ∧ dueFires s = [] ∧ ∀ y, y ∈ s.nib.echo → s.now < y.stamp + 66) ∧
    on (mod (armedState (nibAt .armed 40)) (fun s => s.wr Fd.SYS_MODE_MODE Md.standby)) (fun s => dueList s ≠ [] ∧ driving s.mode = false) ∧
    on (armedState (nibAt .armed 47)) (fun s => (dueList s = [(2, nibKey s (nibAt .armed 47), Due.nib 1023)]) ∧
      mapGet? s.nib.nibs 1023 = some (nibAt .armed 47) ∧ driving s.mode = true ∧ s.saf.reaction = false ∧
      guardQueue s (nibAt .armed 47) = true ∧ engValid s = true ∧ dirAdmitted s (nibAt .armed 47) = true ∧ crossing s = false ∧
      (nibAt .armed 47).mode = .armed ∧ 2 = (nibAt .armed 47).fire / 16 ∧ tRel s (nibAt .armed 47).fire < 48 ∧
      nibsAhead s (nibAt .armed 47) = [] ∧ (nibAt .armed 47).ev.action ≠ 7 ∧ placesTaken s 2 < 64) ∧
    on (mod (armedState (nibAt .armed 47)) (fun s => s.clr Fd.QUE_GROUP_EN_EN)) (fun s => guardQueue s (nibAt .armed 47) = false ∧
      dueList s = [(2, nibKey s (nibAt .armed 47), Due.nib 1023)]) ∧
    on (armedState (nibAt .locked 15)) (fun s => driving s.mode = true ∧ dueFires s = [(1023, nibAt .locked 15)] ∧
      mapGet? s.nib.nibs 1023 = some (nibAt .locked 15) ∧ (nibAt .locked 15).dropAt = none ∧ (nibAt .locked 15).ev.action ≤ 1 ∧ (nibAt .locked 15).ev.channel < 512 ∧
      (nibAt .locked 15).ev.learn = false ∧ qState s 0 = 1 ∧ mapGet? s.que.dropPend 0 = none ∧ s.plainMem ∧
      ringPos s (nibAt .locked 15) = 0 ∧
      getDesc s 0 = some { oneEvent 1 0 with armed := 1 }) ∧
    (let s := mod (running [(Fd.LOG_TIME_TIME, 66), (Fd.NIB_LC_LEARN_ECHO_WIN 255, 5), (Fd.NIB_LC_STAT_SEEDED 255, 1)])
       (fun s => { s with nib := { s.nib with echo := [⟨0, 0, 5, 255, 0, false, true⟩], classRec := [(8703, 255)] } })
     on s (fun s => s.nib.echo = [⟨0, 0, 5, 255, 0, false, true⟩] ∧ 0 + 66 ≤ s.now ∧ s.rd (Fd.NIB_LC_STAT_SEEDED 255) = 1 ∧
       ((5 : Int) - s.rd (Fd.NIB_LC_DELAY_DELAY 255)).natAbs ≤ s.rd (Fd.NIB_LC_LEARN_ECHO_WIN 255) ∧
       ¬((6 : Int) - s.rd (Fd.NIB_LC_DELAY_DELAY 255)).natAbs ≤ s.rd (Fd.NIB_LC_LEARN_ECHO_WIN 255) ∧
       s.nib.classRec = [(8703, 255)] ∧ slotOk s (slotDelay 8703) = true ∧ slotOk s (slotNib 1023 0) = true)) ∧
    on (mod (ready []) (fun s => { s with mem := [(mkey 14 (slotNib 0 0 / 2), 3)] })) (fun s => slotOk s (slotNib 0 0) = false) := by
  refine ⟨?_, ?_, ?_, ?_, ?_, ?_, ?_⟩ <;> decide +kernel

/-- String 31 of 8 bits with a state. -/
def string (x : StrSt → StrSt) (l : List (Fld × Nat)) : State :=
  mod (running ((Fd.CHN_SCFG2_LEN8 31, 1) :: l)) (fun s => { s with chn := { s.chn with str := [(31, x (s.strOf 31))] } })

/-- A frame of string 31. -/
def frame (locked shifted : Bool) (tL : Nat) : Frame :=
  { tL := tL, phase := 0, members := [5], acts := [5], trails := [], opener := 0, openEntry := 0, image := 3, shiftEnd := 0, shifted := shifted,
    locked := locked }

theorem witness_ChannelsAndStrings :
    on (string id []) (fun s => trailsDue s = [] ∧ (s.strOf 31).frame = none ∧ (s.strOf 31).safeDue = false ∧ mapGet? s.chn.echo 31 = none) ∧
    on (mod (string id []) (fun s => { s with chn := { s.chn with trail := [(511, ⟨15, true⟩)] } })) (fun s => trailsDue s = [511] ∧
      mapGet? s.chn.trail 511 = some ⟨15, true⟩) ∧
    on (mod (string id []) (fun s => { s with nib := { s.nib with nibs := [(3, { nibAt .armed 1600 with w1 := BitVec.ofNat 32 8448 })] } }))
      (fun s => (s.strOf 31).frame = none ∧ frameOpener s 31 = some (1600, 0, 0) ∧ driving s.mode = true ∧ strLen s 31 ≠ 0 ∧
        s.now + tShift s 31 + 8 < max (1600 / 16) (earliest s 31)) ∧
    on (mod (string id []) (fun s => { s with nib := { s.nib with nibs := [(3, { nibAt .armed 0 with w1 := BitVec.ofNat 32 8448 })] } }))
      (fun s => frameOpener s 31 = some (0, 0, 0) ∧ max (0 / 16) (earliest s 31) ≤ s.now + tShift s 31 + 8 ∧
        (let tl : Nat := max (max (0 / 16) (earliest s 31)) (s.now + tShift s 31 + 8)
         orderedMembers s ((atTick tl + (if tl = 0 / 16 then 0 % 16 else 0)) % 2 ^ 68) ((frameFree s 31).filter (fun e =>
           decide (tRel s e.2.fire < tRel s (atTick (tl + s.rd (Fd.CHN_SCFG3_LATW 31)))))) = [3])) ∧
    on (string (fun x => { x with frame := some (frame false false 9) }) [(Fd.CHN_SCFG2_RET_MODE 31, 2)]) (fun s =>
      (s.strOf 31).frame = some (frame false false 9) ∧ (frame false false 9).shifted = false ∧ returnCheck 31 1 s = false ∧
      returnCheck 31 0 s = true) ∧
    on (string (fun x => { x with frame := some (frame true true 0) }) []) (fun s => (s.strOf 31).frame = some (frame true true 0) ∧
      0 ≤ s.now ∧ s.now < (frame true true 9).tL ∧ dueFires s = [] ∧ ∀ k, k ∈ (frame true true 0).members → aheadIn s (frame true true 0).members k = true) ∧
    on (string (fun x => { x with frame := some (frame true true 0) }) []) (fun s => ∀ e, e ∈ latchable s → e.1 ≠ 30) ∧
    on (string (fun x => { x with safeDue := true }) []) (fun s => (s.strOf 31).safeDue = true ∧ strLen s 31 ≠ 0 ∧
      (safeImage 31 s).1 = some 0) ∧
    on (mod (string (fun x => { x with safeDue := true }) []) (fun s => { s with mem := [(mkey 14 (slotSafe 31 7 / 2), 3)] }))
      (fun s => (safeImage 31 s).1 = none) ∧
    on (mod (string id [(Fd.LOG_TIME_TIME, 5), (Fd.CHN_ETIME_ETMO 31, 1), (Fd.CHN_ECFG_EFILT 31, 1)]) (fun s => { s with chn := { s.chn with
        echo := [(31, ⟨0, false, 0, 0, false, false⟩)] } })) (fun s =>
      mapGet? s.chn.echo 31 = some ⟨0, false, 0, 0, false, false⟩ ∧ echoFilt s 31 = 1 ∧ echoPast s 31 0 (echoStamp s 31) = false ∧
      echoPast s 31 0 (echoStamped s 1) = false ∧
      0 ≤ diffS 68 (atTick (echoStamped s 1)) ((0 + s.rd (Fd.CHN_ETIME_EBLANK 31) * 256) % 2 ^ 68)) ∧
    on (mod (string id [(Fd.LOG_TIME_TIME, 260), (Fd.CHN_ETIME_ETMO 31, 1), (Fd.CHN_ECFG_EFILT 31, 1)]) (fun s => { s with chn := { s.chn with
        echo := [(31, ⟨0, false, 0, 0, false, false⟩)] } })) (fun s => echoPast s 31 0 (echoStamp s 31) = true ∧
      echoPast s 31 0 (echoStamped s 1) = true ∧ echoFilt s 31 ≤ 1) ∧
    on (ready [(Fd.CHN_DCFG_BOUND 511, 1), (Fd.CHN_DCFG_PIN 511, 511)]) (fun s => Nat.testBit 1023 9 = true ∧
      pinTaken s 0 32 (1023 % 512) = true ∧ pinTaken s 0 32 (0 % 512) = false ∧ Nat.testBit 0 9 = false) := by
  refine ⟨?_, ?_, ?_, ?_, ?_, ?_, ?_, ?_, ?_, ?_, ?_, ?_⟩ <;> decide +kernel

/-! #### Scribe pairs -/

/-- The word w stands at an aligned PC in program RAM of a ready pair and reads clean. -/
abbrev freeAt (p w : Nat) (s : State) : Prop :=
  p < 8 ∧ s.live = true ∧ scrReady s p = true ∧ bpHit p s = none ∧ s.rd (Fd.SCR_PC_PC p) % 4 = 0 ∧ s.rd (Fd.SCR_PC_PC p) < 0x10000 ∧
  eccDecode (s.mcur (mkey 11 (p * 8192 + s.rd (Fd.SCR_PC_PC p) / 8))) = .clean (BitVec.ofNat 64 (w * (2 ^ 32 + 1))) ∧
  w < 2 ^ 32 ∧ (runWord p w s).isSome = true

/-- Such a pair is about to execute that word. -/
theorem witness_ScrFree (p w : Nat) (s : State) (h : freeAt p w s) : ScrFree p s ∧ ScrHas p w s := by
  obtain ⟨a, b, c, d, e, f, g, l, i⟩ := h
  have hh : halfOf (BitVec.ofNat 64 (w * (2 ^ 32 + 1))).toNat (s.rd (Fd.SCR_PC_PC p)) = w := by
    have hlt : w * (2 ^ 32 + 1) < 2 ^ 64 := by omega
    simp only [halfOf, BitVec.toNat_ofNat, Nat.mod_eq_of_lt hlt]
    split <;> omega
  have k := scrFetch_of_clean p s _ e f g
  rw [hh] at k
  exact ⟨⟨a, b, c, d, w, k, i⟩, k⟩

/-- Pair p RUNNING in STANDBY with g1, g2 and register fields. -/
def scribe (p g1 g2 : Nat) (l : List (Fld × Nat)) : State :=
  gWrite p 1 g1 (gWrite p 2 g2 (ready ((Fd.SCR_PSTAT_STATE p, 1) :: l)))

/-- The word w at the PC of pair p, and in the other half of its memory word. -/
def holding (p w : Nat) (s : State) : State :=
  s.mput (mkey 11 (p * 8192 + s.rd (Fd.SCR_PC_PC p) / 8)) (eccEncode (BitVec.ofNat 64 (w * (2 ^ 32 + 1))))

/-- A condition that a state meets with each of the words at the PC of pair 7. -/
abbrev onWords (l : List Nat) (s : State) (c : State → Prop) : Prop := ∀ w ∈ l, freeAt 7 w (holding 7 w s) ∧ c (holding 7 w s)


theorem witness_DescriptorWords : descOf (descLo ⟨2 ^ 18 - 1, 31, 65535, 65535, 65535, 2047, 3, 3, 1, 63, 3, 63, 15, 15⟩)
    (descHi ⟨2 ^ 18 - 1, 31, 65535, 65535, 65535, 2047, 3, 3, 1, 63, 3, 63, 15, 15⟩) =
      ⟨2 ^ 18 - 1, 31, 65535, 65535, 65535, 2047, 3, 3, 1, 63, 3, 63, 15, 15⟩ := by decide +kernel

/-- Both words of queue q's descriptor are clean and spell d. -/
abbrev cleanDesc (q : Nat) (d : Desc) (s : State) : Prop :=
  eccDecode (s.mcur (mkey 1 (2 * q))) = .clean (BitVec.ofNat 64 (descLo d)) ∧
  eccDecode (s.mcur (mkey 1 (2 * q + 1))) = .clean (BitVec.ofNat 64 (descHi d)) ∧
  descOf (BitVec.ofNat 64 (descLo d)).toNat (BitVec.ofNat 64 (descHi d)).toNat = d

/-- Such a descriptor meets what the statements ask of one. -/
theorem witness_cleanDesc (q : Nat) (d : Desc) (s : State) (h : cleanDesc q d s) : readDesc q s = (some d, s) := by
  have := readDesc_of_clean q s _ _ h.1 h.2.1
  rw [h.2.2] at this
  exact this

/-- Both words of an event store entry are clean and spell an event without words 2 and 3. -/
abbrev cleanEntry (e : Nat) (v : Ev) (s : State) : Prop :=
  v.w1 = 0 ∧ v.w2 = 0 ∧ v.w3 = 0 ∧ eccDecode (s.mcur (mkey 0 (2 * e))) = .clean (BitVec.ofNat 64 v.w0.toNat) ∧
  eccDecode (s.mcur (mkey 0 (2 * e + 1))) = .clean 0 ∧ v.w0.toNat % 2 ^ 64 / 2 ^ 32 = 0

/-- Such an entry meets what the statements ask of one. -/
theorem witness_cleanEntry (e : Nat) (v : Ev) (s : State) (h : cleanEntry e v s) : readEntry e s = (some v, s) := by
  obtain ⟨h1, h2, h3, ha, hb, h4⟩ := h
  have := readEntry_of_clean e s _ _ ha hb
  rw [this]
  obtain ⟨a, b, c, d⟩ := v
  simp_all
  constructor
  · apply BitVec.eq_of_toNat_eq
    simp
    omega
  · apply BitVec.eq_of_toNat_eq
    simp
    omega

/-- A ring of four entries with indexes p, s and c in a state. -/
def ring (p sx c st : Nat) : Desc := ⟨0, 2, p, sx, c, 0, st, 0, 0, 0, 0, 63, 0, 0⟩

/-- Queue 65535 with a ring, produced by port 63, and an event at entry 0. -/
def produced (d : Desc) (l : List (Fld × Nat)) : State :=
  withQueue 65535 d [(0, evAt 1000)] (moving 0 l)

/-- Queue 65535 produced by another port, with the engine pins connected to the fabric or not. -/
def producedBy (prod : Nat) (connected : Bool) (mode : Nat) : State :=
  mod (produced { ring 0 0 0 1 with prod := prod } []) (fun s =>
    ({ s with fab := { s.fab with connected := connected } }.wr Fd.SYS_MODE_MODE mode).wr Fd.FAB_CLK_STAT_NET_RUN (2 ^ 24 - 1))

/-- The same queue produced by the scribe pair 7, which is about to push. -/
def scribeProduced : State :=
  withQueue 65535 { ring 0 0 0 1 with prod := 7 } [] (gWrite 7 28 1000 (scribe 7 65535 0
    [(Fd.AFE_CH_STAT_VALID 0, 1), (Fd.AFE_CH_STAT_VALID 1, 1)]))

theorem witness_PushStagesAnEvent :
    on (producedBy 23 true Md.run) (fun s => engOn s = true ∧ linked s ∧ (mapGet pushZero s.fab.push (23 - 16)).busy = false ∧
      cleanDesc 65535 { ring 0 0 0 1 with prod := 23 } s ∧ pushMode s = true ∧ engValid s = true ∧ fieldsOk (evAt 1000) s = true ∧
      windowOk 1000 0 s = true) ∧
    on (producedBy 10 false Md.run) (fun s => s.plainMem ∧ (ring 0 0 0 1).log2 ≤ 16 ∧ (ring 0 0 0 1).base + 2 ^ (ring 0 0 0 1).log2 ≤ 262144 ∧
      cleanDesc 65535 { ring 0 0 0 1 with prod := 10 } s ∧ pushMode s = true ∧ engValid s = true) ∧
    on (produced (ring 3 0 0 1) []) (fun s => pushMode s = true ∧ ¬(qState s 65535 = 3 ∧ qCause s 65535 = 8) ∧
      cleanDesc 65535 (ring 3 0 0 1) s ∧ engValid s = true ∧ (0 + 1) % 2 ^ 2 ≠ 0 % 2 ^ 2 ∧ fieldsOk (evAt 1000) s = true ∧
      windowOk 1000 0 s = true) ∧
    on (produced (ring 1 1 0 1) []) (fun s => pushMode s = true ∧ cleanDesc 65535 (ring 1 1 0 1) s ∧ engValid s = true ∧
      (1 + 1) % 2 ^ 2 ≠ 0 % 2 ^ 2 ∧ (1 : Nat) ≠ 0 ∧ fieldsOk (evAt 1001) s = true ∧ windowOk 1001 0 s = true ∧
      cleanEntry (ringEntry (ring 1 1 0 1) (1 + 2 ^ 2 - 1)) (evAt 1000) s ∧ behindOf 1001 (evAt 1000).target 0 = false) ∧
    engOn scribeProduced = true ∧
    onWords ([0, 1, 2, 3].map (fun fn => wordR 0x22 31 1 28 fn)) scribeProduced (fun s => gRead s 7 1 % 65536 = 65535 ∧
      pushMode s = true ∧ ¬(qState s 65535 = 3 ∧ qCause s 65535 = 8) ∧ cleanDesc 65535 { ring 0 0 0 1 with prod := 7 } s ∧
      engValid s = true ∧ fieldsOk (gEvent s 7 28) s = true ∧ windowOk (gEvent s 7 28).target 0 s = true) := by
  refine ⟨?_, ?_, ?_, ?_, ?_, ?_⟩ <;> decide +kernel

theorem witness_FailedPushHasNoOtherEffect :
    on (producedBy 23 false Md.run) (fun s => engOn s = true ∧ portOn s 7 = false) ∧
    on (mod (producedBy 23 true Md.run) (fun s => { s with fab := { s.fab with push := [(7, ⟨true, true, 0, 0⟩)] } })) (fun s =>
      (mapGet pushZero s.fab.push (23 - 16)).busy = true) ∧
    on (producedBy 23 true Md.safe) (fun s => linked s ∧ (mapGet pushZero s.fab.push (23 - 16)).busy = false ∧ pushMode s = false ∧
      cleanDesc 65535 { ring 0 0 0 1 with prod := 23 } s) ∧
    on (mod (produced (ring 0 0 0 1) []) (fun s => s.wr Fd.SYS_MODE_MODE Md.safe)) (fun s => pushMode s = false ∧
      cleanDesc 65535 (ring 0 0 0 1) s) ∧
    on (produced (ring 0 0 0 1) []) (fun s => pushMode s = true ∧ (ring 0 0 0 1).prod ≠ 62 ∧ (ring 0 0 0 1).prod = 63 ∧
      cleanDesc 65535 (ring 0 0 0 1) s ∧ engValid s = true ∧ fieldsOk ⟨0, BitVec.ofNat 32 0x3FFF, 0, 0⟩ s = false ∧
      windowOk 0x7FFFFFFF 0 s = false) ∧
    on (produced (ring 0 0 0 3) []) (fun s => ¬(qState s 65535 = 3 ∧ qCause s 65535 = 8) ∧
      cleanDesc 65535 (ring 0 0 0 3) s) ∧
    on (mod (produced (ring 0 0 0 1) []) (fun s => s.clr (Fd.AFE_CH_STAT_VALID 0))) (fun s => engValid s = false ∧
      cleanDesc 65535 (ring 0 0 0 1) s) ∧
    on (produced (ring 0 3 0 1) []) (fun s => cleanDesc 65535 (ring 0 3 0 1) s ∧ (3 + 1) % 2 ^ 2 = 0 % 2 ^ 2) ∧
    on (produced (ring 0 1 0 1) []) (fun s => cleanDesc 65535 (ring 0 1 0 1) s ∧ fieldsOk (evAt 999) s = true ∧
      windowOk 999 0 s = true ∧ cleanEntry (ringEntry (ring 0 1 0 1) (1 + 2 ^ 2 - 1)) (evAt 1000) s ∧
      behindOf 999 (evAt 1000).target 0 = true) := by decide +kernel

/-- A queue that holds no event, and one that holds one. -/
def parked (st cause : Nat) : State := withQueue 65535 (oneEvent st cause) [(0, evAt 1000)] (ready [])

theorem witness_QueueCommands :
    onLive (ready [(Fd.QUE_INIT_CFG0_LOG2LEN, 16), (Fd.QUE_INIT_CFG0_BASE, 65536)]) (fun s => s.plainMem ∧ qState s 0 = 0 ∧
      s.rdB Fd.QUE_CMD_STAT_BUSY = false ∧ s.rd Fd.QUE_INIT_CFG0_LOG2LEN ≤ 16 ∧ s.rd Fd.QUE_INIT_CFG0_BASE % 2 ^ 16 = 0 ∧
      s.que.alloc &&& granMask (s.rd Fd.QUE_INIT_CFG0_BASE) 16 = 0) ∧
    onLive (ready [(Fd.QUE_INIT_CFG0_LOG2LEN, 1)]) (fun s => ¬(2 ≤ s.rd Fd.QUE_INIT_CFG0_LOG2LEN)) ∧
    onLive (withQueue 0 (ring 0 0 0 2) [] (ready [])) (fun s => s.plainMem ∧ qState s 0 = 2 ∧ cleanDesc 0 (ring 0 0 0 2) s ∧
      queueDrained s 0 = true) ∧
    onLive (parked 1 0) (fun s => qState s 65535 = 1 ∧ cleanDesc 65535 (oneEvent 1 0) s ∧ queueDrained s 65535 = true ∧
      (oneEvent 1 0).base + 2 ^ (oneEvent 1 0).log2 ≤ 262144) ∧
    onLive (mod (parked 1 0) (fun s => { s with nib := { s.nib with nibs := [(0, { nibAt .locked 0 with queue := 65535 })] } }))
      (fun s => queueDrained s 65535 = false ∧ s.nib.arming = [] ∧ ∀ e ∈ s.nib.nibs, e.2.queue = 65535 → e.2.mode = .locked) ∧
    onLive (mod (parked 2 1) (fun s => { s with que := { s.que with cmd := some ⟨2, 65535⟩ } })) (fun s =>
      s.que.cmd = some ⟨2, 65535⟩ ∧ queueDrained s 65535 = true) := by decide +kernel

theorem witness_QueueSkipAndRepair :
    onLive (parked 3 7) (fun s => s.plainMem ∧ s.rdB Fd.QUE_CMD_STAT_BUSY = false ∧ cleanDesc 65535 (oneEvent 3 7) s ∧
      qState s 65535 = 3 ∧ qCause s 65535 = 7 ∧ queueDrained s 65535 = true ∧ pendingOf (oneEvent 3 7) = 1 ∧
      fieldsOk (repairEv s) s = true ∧ windowOk (repairEv s).target 0 s = true ∧ 65535 ∉ s.que.retired ∧
      (oneEvent 3 7).cidx = haltIdx s 65535) ∧
    onLive (mod (parked 3 7) (setHaltAt 65535 7 1)) (fun s => qState s 65535 = 3 ∧ qCause s 65535 = 7 ∧ queueDrained s 65535 = true ∧
      cleanDesc 65535 (oneEvent 3 7) s ∧ (oneEvent 3 7).cidx ≠ haltIdx s 65535) ∧
    onLive (parked 3 6) (fun s => ¬(qState s 65535 = 3 ∧ qCause s 65535 ∈ [4, 5, 7])) := by decide +kernel

theorem witness_BarriersOpen :
    onLive (ready [(Fd.QUE_BAR_NEED 255, 1)]) (fun s => s.plainMem ∧ s.rdB Fd.QUE_CMD_STAT_BUSY = false ∧ atBarrier s 255 = [] ∧
      s.rd (Fd.QUE_BAR_ARRIVED 255) < s.rd (Fd.QUE_BAR_NEED 255)) ∧
    onLive (mod (withQueue 65535 (oneEvent 1 0) [(0, evAt 1000)] (ready [(Fd.QUE_BAR_NEED 255, 1), (Fd.QUE_BAR_ARRIVED 255, 1)]))
        (fun s => { s with que := { s.que with barAt := [(65535, 255)] } })) (fun s => s.plainMem ∧ s.que.barAt = [(65535, 255)] ∧
      s.rd (Fd.QUE_BAR_NEED 255) = 1 ∧ s.rd (Fd.QUE_BAR_ARRIVED 255) = 1 ∧ cleanDesc 65535 (oneEvent 1 0) s) := by decide +kernel

/-- An outcome that waits for its record in ring 63. -/
def outcome63 : Cpl := ⟨1, 1, 0, 0, 0, 63, 0⟩

theorem witness_QueueSweepRecordsAndRings :
    onLive (ready [(Fd.QUE_CRING_CIDX_THRESH 63, 1)]) (fun s => s.plainMem ∧ qState s s.que.sweep = 0 ∧ s.rdB (Fd.QUE_CRING_CFG_EN 63) = false ∧
      s.rd (Fd.QUE_CRING_CIDX_THRESH 63) ≠ 0 ∧ 262128 % 2 ^ 4 = 0 ∧ 262128 + 2 ^ 4 ≤ 262144 ∧ s.que.alloc &&& granMask 262128 4 = 0 ∧
      ringOk 0 1 = false ∧ s.nib.nibs = [] ∧ s.nib.arming = [] ∧ s.que.haltLog = []) ∧
    onLive (mod (withQueue 65535 (oneEvent 2 0) [(0, evAt 0x7FFFFFFF)] (ready [(Fd.AFE_CH_STAT_VALID 0, 1)]))
        (fun s => { s with que := { s.que with sweep := 65535 } })) (fun s => qState s s.que.sweep = 2 ∧
      cleanDesc 65535 (oneEvent 2 0) s ∧ pendingOf (oneEvent 2 0) ≠ 0 ∧ queueDrained s 65535 = true ∧
      cleanEntry (ringEntry (oneEvent 2 0) 0) (evAt 0x7FFFFFFF) s ∧ windowOk (evAt 0x7FFFFFFF).target 0 s = false) ∧
    onLive (mod (ready [(Fd.QUE_CRING_CFG_EN 63, 1), (Fd.QUE_CRING_CFG_LOG2LEN 63, 16)]) (fun s => { s with que := { s.que with
        cpl := [outcome63], haltLog := [⟨1, 4, 0⟩] } })) (fun s => s.que.cpl = [outcome63] ∧ outcome63.group = 63 ∧
      s.rdB (Fd.QUE_CRING_CFG_EN 63) = true ∧ s.rd (Fd.QUE_CRING_CFG_LOG2LEN 63) ≤ 16 ∧
      s.rd (Fd.QUE_CRING_CFG_BASE 63) + 65536 ≤ 262144 ∧
      (s.rd (Fd.QUE_CRING_PIDX_PIDX 63) + 1) % 2 ^ 16 ≠ s.rd (Fd.QUE_CRING_CIDX_CIDX 63) % 2 ^ 16 ∧ s.que.haltLog = [⟨1, 4, 0⟩]) ∧
    onLive (ready [(Fd.QUE_CRING_CFG_EN 63, 1), (Fd.QUE_CRING_CFG_LOG2LEN 63, 2), (Fd.QUE_CRING_PIDX_PIDX 63, 3)]) (fun s =>
      (s.rd (Fd.QUE_CRING_PIDX_PIDX 63) + 1) % 2 ^ 2 = s.rd (Fd.QUE_CRING_CIDX_CIDX 63) % 2 ^ 2) := by decide +kernel


theorem witness_ScribeRegisterResults :
    onWords ([0x04, 0x05, 0x06, 0x07, 0x08, 0x09, 0x0A, 0x0B, 0x0C, 0x0D, 0x0E, 0x0F, 0x10, 0x11, 0x12, 0x13, 0x14, 0x1A, 0x1B, 0x1C].map
        (wordR 0 31 1 2) ++ [0x15, 0x16, 0x17, 0x18, 0x19].map (wordR 0 31 1 0) ++
        [wordI 1 31 1 65535, wordI 2 31 1 65535, wordI 3 31 1 65535, wordI 4 31 1 65535, wordI 5 31 0 65535, wordI 6 31 1 65535,
          wordI 7 31 1 65535, wordI 8 31 1 31, wordI 9 31 1 31, wordI 10 31 1 31, wordR 11 31 1 0 (31 * 64 + 3 * 16)])
      (scribe 7 0xFFFFFFFF 0x80000000 [(Fd.SCR_PC_PC 7, 0xFFFC)]) (fun _ => True) := by decide +kernel

theorem witness_ScribeArithmeticResults :
    onWords ([256, 257, 258, 259].map (wordR 0 31 1 2) ++ [wordR 12 31 1 2 (31 * 64 + 3 * 16 + 12), wordR 14 31 0 0 (31 * 64 + 3 * 16 + 12),
        wordR 13 0 1 2 8, wordR 13 0 1 2 9, wordR 13 0 1 2 10, wordR 14 0 1 0 3, wordR 14 31 0 0 1, wordR 14 31 0 0 2,
        wordR 15 31 1 2 (3 * 16 + 8), wordR 15 31 2 1 (3 * 16 + 12)])
      (scribe 7 0x80000000 0 []) (fun s => gRead s 7 1 ≠ 0 ∧ gRead s 7 2 = 0) := by decide +kernel

theorem witness_ScribeDataAccesses :
    onWords ([0x10, 0x11, 0x12, 0x13, 0x14, 0x15, 0x16, 0x17].map (fun op => wordI op 31 1 0xFFFC))
      (scribe 7 0x10000 4 []) (fun s => s.rdB Fd.MEM_INJ_ARMED = false ∧ s.bst.slice = [] ∧
      enc 32 (sx 32 (gRead s 7 1) + sx 16 0xFFFC) = 0xFFFC ∧ eccDecode (s.mcur (mkey 12 (7 * 8192 + 0xFFFC / 8))) = .clean 0) := by decide +kernel

theorem witness_ScribeMisalignedDataTraps :
    onWords ([0x10, 0x11, 0x12, 0x13, 0x14, 0x15, 0x16, 0x17].map (fun op => wordI op 31 1 2)) (scribe 7 0xFFFE 0 [])
      (fun s => 65536 ≤ enc 32 (sx 32 (gRead s 7 1) + sx 16 2)) ∧
    onWords [wordI 0x10 31 1 0, wordI 0x15 31 1 0] (scribe 7 0xFFFE 0 []) (fun s => enc 32 (sx 32 (gRead s 7 1) + sx 16 0) % 4 ≠ 0) ∧
    onWords [wordI 0x11 31 1 1, wordI 0x12 31 1 1, wordI 0x16 31 1 1] (scribe 7 0xFFFE 0 [])
      (fun s => enc 32 (sx 32 (gRead s 7 1) + sx 16 1) % 2 ≠ 0) := by decide +kernel

theorem witness_ScribeBranchesAndJumps :
    onWords ([0x18, 0x19, 0x1A, 0x1B, 0x1C, 0x1D, 0x1F].map (fun op => wordI op 1 2 65535) ++ [wordJ 0x1E 31 (2 ^ 21 - 1)])
      (scribe 7 0xFFFFFFFF 1 [(Fd.SCR_PC_PC 7, 0xFFFC)]) (fun _ => True) := by decide +kernel

theorem witness_ScribeSpecialRegisters :
    onWords ([0, 1, 2, 4, 5, 6, 7, 8, 9, 10, 11, 12, 13, 14, 65535].map (wordI 0x20 31 0) ++
        [6, 7, 8, 10, 11, 65535].map (wordI 0x21 0 1))
      (scribe 7 7 0 [(Fd.SCR_DOORBELL_PENDING 7, 0xFFFFFFFF), (Fd.SCR_PSTAT_SAT 7, 1)]) (fun s => 0x10 ≤ 65535 ∧
      65535 ∉ [0x06, 0x07, 0x08, 0x0A, 0x0B] ∧ (s.pairOf 7).sdhi.toNat = 0) := by decide +kernel

theorem witness_ScribeTrapsAndReturns :
    onWords [wordI 0x29 0 0 255, wordI 0x2B 0 0 0, wordI 0x28 0 0 15] (scribe 7 0 0 [(Fd.SCR_PSTAT_IN_TRAP 7, 1)]) (fun _ => True) ∧
    onWords [wordI 0x2A 0 0 0] (scribe 7 0 0 [(Fd.SCR_TRAP_PC_VALUE 7, 0xFFFC)]) (fun _ => True) := by decide +kernel

/-- Pair 7 with every tag in a state. -/
def tagged (busy : Bool) (s : State) : State :=
  s.updPair 7 (fun x => { x with tags := [(0, ⟨0, 0, 1, 3, busy⟩), (1, ⟨0, 0, 1, 3, busy⟩), (2, ⟨0, 0, 1, 3, busy⟩), (3, ⟨0, 0, 1, 3, busy⟩)] })

theorem witness_ScribeWaitsAndFetches :
    onWords [wordR 0x27 31 1 0 1, wordR 0x27 31 1 0 8, wordR 0x26 31 1 0 0, wordR 0x25 31 1 2 1, wordR 0x24 31 1 0 0]
      (scribe 7 3 0 [(Fd.SCR_DOORBELL_PENDING 7, 1)]) (fun s => s.rd (Fd.SCR_DOORBELL_PENDING 7) ≠ 0 ∧
      tagBusy s 7 (gRead s 7 1 % 4) = false ∧ gRead s 7 1 % 64 ≠ 0 ∧ qState s (gRead s 7 1 % 65536) = 0) ∧
    onWords [wordR 0x27 31 1 0 1, wordR 0x26 31 1 0 0] (tagged true (scribe 7 3 0 []))
      (fun s => s.rd (Fd.SCR_DOORBELL_PENDING 7) = 0 ∧ tagBusy s 7 (gRead s 7 1 % 4) = true) ∧
    onWords [wordR 0x25 31 1 2 1] (scribe 7 (65536 - 64) 0 [(Fd.XMC_STAT_CAP_GIB, 16)]) (fun s => gRead s 7 1 % 64 = 0 ∧
      gRead s 7 1 + 64 * 1 ≤ 65536 ∧ 65536 < gRead s 7 1 + 64 * 2 ∧ gRead s 7 2 % 64 = 0 ∧ gRead s 7 2 + 64 * 1 ≤ xmcLines s * 64 ∧
      (List.range 4).any (tagBusy s 7) = false) := by decide +kernel

theorem witness_ScribeQueueInstructions :
    onWords [wordR 0x24 31 1 0 0, wordR 0x23 31 1 2 (4 * 32), wordR 0x23 31 1 2 (4 * 32 + 1)]
      (withQueue 65535 { ring 3 2 3 1 with prod := 7 } [] (scribe 7 65535 0 [])) (fun s => qState s (gRead s 7 1 % 65536) ≠ 0 ∧
      cleanDesc 65535 { ring 3 2 3 1 with prod := 7 } s ∧ gRead s 7 2 = 0) ∧
    onWords [wordR 0x23 3 1 2 (28 * 32), wordR 0x23 3 1 2 (28 * 32 + 1)]
      (withQueue 65535 { ring 0 0 0 1 with prod := 7 } [] (gWrite 7 28 1000 (scribe 7 65535 (2 ^ 31)
        [(Fd.AFE_CH_STAT_VALID 0, 1), (Fd.AFE_CH_STAT_VALID 1, 1)]))) (fun s => gRead s 7 2 = 2 ^ 31 ∧ (28 ≠ 0 ∧ 28 % 4 = 0 ∧ 3 / 4 ≠ 28 / 4 ∧ 1 / 4 ≠ 28 / 4 ∧ 2 / 4 ≠ 28 / 4) ∧
      (portOp 0 7 65535 (xTemplate (gEvent s 7 28) 31) s).1 = 0 ∧ (portOp 0 7 65535 (xTemplate (gEvent s 7 28) 31) s).2.calm = true ∧
      (portOp 0 7 65534 (xTemplate (gEvent s 7 28) 31) s).1 ≠ 0 ∧ (portOp 0 7 65534 (xTemplate (gEvent s 7 28) 31) s).2.calm = true) ∧
    onWords [wordR 0x23 31 1 2 0] (scribe 7 65535 0 []) (fun _ => True) := by
  decide +kernel

/-- STANDBY with firmware allowed to fetch block 127 for pair 7 and an SDRAM with clean lines. -/
def pattern (l : List (Fld × Nat)) : State :=
  mod (sdram 2 ((Fd.UFL_XO_VALID 0, 1) :: (Fd.UFL_XO_FIRST 0, 127) :: (Fd.UFL_XO_LAST 0, 127) :: (Fd.UFL_XO_PAIRS 0, 128) :: l))
    (fun s => s.updPair 7 (fun x => { x with tags := [(3, ⟨64 * 268435455, 0, 2, 0, true⟩)] }))

theorem witness_ScribePairControl :
    onLive (ready []) (fun s => pairState s 7 = 0 ∧ scrMode s = true ∧ (s.pairOf 7).waiting = .none) ∧
    onLive (ready [(Fd.SCR_PSTAT_STATE 7, 1)]) (fun s => pairState s 7 = 1 ∧ queuesIn s 1 ++ queuesIn s 2 = []) ∧
    onLive (ready [(Fd.SCR_PSTAT_STATE 7, 3)]) (fun s => pairState s 7 = 3) ∧
    on (pattern [(Fd.SCR_PSTAT_STATE 7, 1)]) (fun s => pairState s 7 = 1 ∧ 0x02000000 ≤ 0x03FFFFFC ∧ 0x03FFFFFC < 0x04000000 ∧
      xoFetch s 7 0x03FFFFFC = true ∧ uflBusy s = false ∧ mapGet? (s.pairOf 7).tags 3 = some ⟨64 * 268435455, 0, 2, 0, true⟩ ∧
      lineOk 268435455 s = true ∧ rsDecode (markOf s (rankOf s 268435455)) (cwOf (lineGet s 268435455) 0) = .clean ∧
      rsDecode (markOf s (rankOf s 268435455)) (cwOf (lineGet s 268435455) 1) = .clean ∧
      lineOf (cwOf (lineGet s 268435455) 0) (cwOf (lineGet s 268435455) 1) = lineGet s 268435455 ∧
      (s.pairOf 7).waiting = .none) := by decide +kernel

/-- The ranges of `ScribeWordsAreTable73` at their ends; a pair at a word of another row, and at one of no row. -/
theorem witness_ScribeWordsAreTable73 :
    (31 < 32 ∧ 3 < 4 ∧ 65535 < 65536 ∧ 0x2C ≤ 63 ∧ 0x1D ≤ 63) ∧
    onWords [wordR 0 31 1 2 0x05] (scribe 7 0xFFFFFFFF 1 []) (fun _ => wordR 0 31 1 2 0x05 ≠ wordR 0 31 1 2 0x04) := by decide +kernel

/-- Pair 7 in the middle of a WAIT. -/
def inWait (mask : Nat) (l : List (Fld × Nat)) : State :=
  (scribe 7 0 0 l).updPair 7 (fun x => { x with waiting := .wait 31 mask 0 0 })

theorem witness_ScribeWaitEnds :
    onLive (inWait 0x17 [(Fd.SCR_DOORBELL_PENDING 7, 1), (Fd.AFE_CH_STAT_VALID 0, 1), (Fd.AFE_CH_STAT_VALID 1, 1)]) (fun s =>
      pairState s 7 = 1 ∧ scrMode s = true ∧ (s.pairOf 7).waiting = .wait 31 0x17 0 0 ∧ s.rd (Fd.SCR_DOORBELL_PENDING 7) ≠ 0 ∧
      fetchesOf s 7 = 0 ∧ engValid s = true ∧ 0 ≤ diffS 32 (engWord s) 0 ∧ (s.pairOf 7).waitTmo.toNat ≤ (s.now + 2 ^ 64 - 0) % 2 ^ 64 / 2) ∧
    onLive ((inWait 0x11 []).updPair 7 (fun x => { x with waitTmo := 1 })) (fun s => s.rd (Fd.SCR_DOORBELL_PENDING 7) = 0 ∧
      ¬ (s.pairOf 7).waitTmo.toNat ≤ (s.now + 2 ^ 64 - 0) % 2 ^ 64 / 2) ∧
    onLive ((scribe 7 0 0 []).updPair 7 (fun x => { x with waiting := .pwait 31 3 })) (fun s => pairState s 7 = 1 ∧ scrMode s = true ∧
      (s.pairOf 7).waiting = .pwait 31 3 ∧ tagBusy s 7 3 = false) := by decide +kernel

theorem witness_ScribeDebugCommands :
    onLive (ready [(Fd.SCR_PSTAT_STATE 7, 1), (Fd.DBG_RIGHTS_RIGHTS, 8), (Fd.SCR_DBG_CTRL_PAIR, 7), (Fd.SCR_DBG_CTRL_BP1_EN, 1)])
      (fun s => hasRight 3 s = true ∧ pairState s 7 = 1 ∧ scrMode s = true ∧ bpHit 7 s = some 1) ∧
    onLive (ready [(Fd.SCR_PSTAT_STATE 7, 3), (Fd.DBG_RIGHTS_RIGHTS, 8), (Fd.SCR_DBG_REG_SEL_SEL, 31), (Fd.SCR_DBG_CTRL_PAIR, 7),
        (Fd.SCR_PC_PC 7, 0xFFFC)]) (fun s =>
      hasRight 3 s = true ∧ pairState s 7 = 3 ∧ scrMode s = true ∧ (s.pairOf 7).waiting = .none ∧ (scrFields 0).op ≠ 0x23 ∧
      s.rd (Fd.SCR_PC_PC 7) % 4 = 0 ∧ s.rd (Fd.SCR_PC_PC 7) < 0x10000 ∧ s.rd Fd.SCR_DBG_CTRL_PAIR = 7 ∧ s.rd Fd.SCR_DBG_REG_SEL_SEL = 31 ∧
      eccDecode ((((s.wr Fd.SCR_DBG_CTRL_PAIR 7).wrB Fd.SCR_DBG_CTRL_BP0_EN true).wrB Fd.SCR_DBG_CTRL_BP1_EN true).mcur
        (mkey 11 (7 * 8192 + 0xFFFC / 8))) = .clean 0) ∧
    onLive (ready [(Fd.DBG_RIGHTS_RIGHTS, 0)]) (fun s => hasRight 3 s = false) := by decide +kernel


/-! #### The fabric ports and the host SPI port -/

/-- STANDBY with a fabric in a state. -/
def fabricOf (f : FabSt → FabSt) (l : List (Fld × Nat)) : State := mod (ready l) (fun s => { s with fab := f s.fab })

/-- A dictionary-port request of the SPI port for some bytes. -/
def fabReq (n : Nat) : FabReq := ⟨0x6000, 255, 4088, false, [], n, [], 0, 0xFFFF⟩

/-- STANDBY with the fabric ports connected and their networks running, sector 0 active, and a fabric in a state. -/
def linkedFabric (f : FabSt → FabSt) (l : List (Fld × Nat)) : State :=
  mod (ported Md.standby ((Fd.CFG_SECT_STAT_ACTIVE 0, 1) :: l)) (fun s => { s with fab := f s.fab })

/-- A dictionary access of USDO client 1 to a fabric object, waiting for the engine. -/
def fabWork : DictWork := .read 1 0x6000 255 0 4 false

/-- A state with that access waiting. -/
def waiting (s : State) : State := { s with net := { s.net with work := [fabWork] } }

theorem witness_FabricPorts :
    on (ready []) (fun s => tapsOf (0 % 2 ^ chainTaps (4079 % 128)) = [] ∧ tapsOf (2 ^ 23 % 2 ^ chainTaps (4079 % 128)) = [23] ∧
      chainCmode s 4079 = 0 ∧ netOn s (chainNet s 4079) = false ∧ s.fab.released = false ∧ s.fab.connected = false ∧ s.fab.req = none ∧
      s.fab.acc = [] ∧ s.net.work = [] ∧ s.fab.wait = [] ∧ s.ufl.store = none ∧ (s.rd Fd.DBG_RIGHTS_RIGHTS).testBit 1 = false ∧
      portOn s 18 = false) ∧
    on (fabricOf (fun f => { f with req := some (fabReq 8) }) []) (fun s => s.fab.req = some (fabReq 8) ∧ portOn s 19 = false) ∧
    on (linkedFabric (fun f => { f with released := true, req := some (fabReq 8), acc := [⟨0x05FFFFF8, false, 0, 255⟩] }) [])
      (fun s => s.fab.released = true ∧ linked s ∧ s.fab.req = some (fabReq 8) ∧ (fabReq 8).client = 0 ∧ anySector s = true ∧
        s.fab.wait = [] ∧ s.net.work = [] ∧ s.ufl.store = none ∧ (fabReq 8).size ≤ 8 ∧ s.fab.acc = [⟨0x05FFFFF8, false, 0, 255⟩] ∧
        (255 : Nat) ≠ 3 ∧ s.net.spiOp = none ∧ s.rd Fd.SYS_BUSERR_INFO_VALID = 0) ∧
    on (mod (linkedFabric (fun f => { f with req := some (fabReq 8) }) []) (fun s => { s with net := { s.net with spiBusy := true } }))
      (fun s => linked s ∧ s.fab.req = some (fabReq 8) ∧ s.net.spiBusy = true ∧ (fabReq 8).write = false) ∧
    on (linkedFabric (fun f => { f with req := some (fabReq 8), wait := [fabReq 9] }) []) (fun s => linked s ∧ s.net.work = [] ∧
      s.fab.req = some (fabReq 8) ∧ s.fab.wait = [fabReq 9] ∧ anySector s = true ∧ (1 : Nat) % 4 ≠ 0) ∧
    on (waiting (linkedFabric (fun f => { f with req := some (fabReq 8), wait := [fabReq 9] }) [])) (fun s => linked s ∧
      inFabric 0x6000 = true ∧ workFirst s = some fabWork ∧ s.fab.req = some (fabReq 8) ∧ s.fab.wait = [fabReq 9] ∧ anySector s = true) ∧
    on (waiting (linkedFabric (fun f => { f with req := some (fabReq 8) }) [])) (fun s => linked s ∧ workFirst s = some fabWork ∧
      s.fab.req = some (fabReq 8) ∧ s.fab.wait = [] ∧ anySector s = true) ∧
    on (linkedFabric (fun f => { f with req := some { fabReq 8 with client := 255 } }) []) (fun s => linked s ∧
      s.fab.req = some { fabReq 8 with client := 255 } ∧ s.fab.wait = [] ∧ s.net.work = [] ∧ s.ufl.store = none) ∧
    on (linkedFabric (fun f => { f with req := some (fabReq 9) }) []) (fun s => linked s ∧ s.fab.req = some (fabReq 9) ∧
      s.fab.wait = [] ∧ s.net.work = [] ∧ s.ufl.store = none ∧ 8 < (fabReq 9).size) ∧
    on (ready [(Fd.DBG_RIGHTS_RIGHTS, 2), (Fd.FAB_IOCFG_FAB_OUT 511, 1)]) (fun s => (s.rd Fd.DBG_RIGHTS_RIGHTS).testBit 1 = true ∧
      (loupeSrcOn 3 && (!loupeIndexOk 3 3071 || s.rdB (Fd.FAB_IOCFG_FAB_OUT 510) || pinTaken s 512 32 510)) = false ∧
      (loupeSrcOn 3 && (!loupeIndexOk 3 3072 || s.rdB (Fd.FAB_IOCFG_FAB_OUT 510) || pinTaken s 512 32 510)) = true ∧
      (loupeSrcOn 3 && (!loupeIndexOk 3 3071 || s.rdB (Fd.FAB_IOCFG_FAB_OUT 511) || pinTaken s 512 32 511)) = true) := by
  refine ⟨?_, ?_, ?_, ?_, ?_, ?_, ?_, ?_, ?_, ?_⟩ <;> decide +kernel

/-- STANDBY with sector 31 active with an image and its global networks running. -/
def sectorOn (a : Plane) : State :=
  mod (ready [(Fd.CFG_SECT_STAT_ACTIVE 31, 1), (Fd.FAB_CLK_STAT_NET_RUN, 2 ^ 24 - 1)]) (fun s => { s with cfg := { s.cfg with active := [(31, a)] } })

/-- A plane without data. -/
def emptyPlane : Plane := ⟨2, 0, 0, 0, 0, 0, true, [], 0, [], [], none, false⟩

/-- Contention: two enabled taps of a chain of an active sector whose image monitors it, sampled by global network 0. -/
theorem witness_FabricPorts_contention (h : (Config.chainMode (Plane.bytes emptyPlane) 111).toNat = 3)
    (hn : ((Config.design (Plane.bytes emptyPlane)).chain 111).net = 0) :
    on (sectorOn emptyPlane) (fun s => tapsOf (3 % 2 ^ chainTaps (4079 % 128)) = [0, 1] ∧ chainCmode s 4079 ≠ 0 ∧ chainCmode s 4079 ≠ 1 ∧
      netOn s (chainNet s 4079) = true) := by
  have hs : sysOn (sectorOn emptyPlane) = true ∧ tapsOf (3 % 2 ^ chainTaps (4079 % 128)) = [0, 1] ∧
      (sectorOn emptyPlane).rdB (Fd.CFG_SECT_STAT_ACTIVE (4079 / 128)) = true ∧
      mapGet? (sectorOn emptyPlane).cfg.active (4079 / 128) = some emptyPlane ∧ netOn (sectorOn emptyPlane) 0 = true := by decide +kernel
  have hm : chainCmode (sectorOn emptyPlane) 4079 = 3 := by
    simp only [chainCmode, hs.2.2.1, hs.2.2.2.1]
    simpa using h
  have hc : chainNet (sectorOn emptyPlane) 4079 = 0 := by
    simp only [chainNet, designOf, hs.2.2.2.1]
    simpa using hn
  refine ⟨hs.1, hs.2.1, ?_, ?_, ?_⟩
  · simp [hm]
  · simp [hm]
  · simpa [hc] using hs.2.2.2.2

/-- STANDBY with user logic of sector 31 released, and global network 0 alone running, from the engine clock. -/
def userLogic : State :=
  mod (ready [(Fd.CFG_SECT_STAT_ACTIVE 31, 1), (Fd.FAB_CLK_STAT_NET_RUN, 1)]) (fun s =>
    { s with cfg := { s.cfg with active := [(31, emptyPlane)] }, fab := { s.fab with released := true, connected := true } })

/-- The user logic clauses at the ends of their ranges, in both halves of a tick; the design and the source of the network are hypotheses
on opaque constants. -/
theorem witness_FabricPorts_userLogic (hn : ∀ d, (Config.netSource d 0).toNat = 5) :
    fabClocked (ready []) = false ∧ netOn userLogic 1 = false ∧ netOn userLogic 0 = true ∧
    31 ∈ userLogic.cfg.active.map Prod.fst ∧ sectorUp userLogic 31 = true ∧ swapping userLogic 31 = false ∧
    sees userLogic 31 0 true = true ∧ sees userLogic 31 1 true = false ∧ sees userLogic 31 0 false = false ∧
    sees { userLogic with fab := { userLogic.fab with half := 1 } } 31 0 false = true ∧
    (∀ c, ((designOf userLogic 31).ink 70).net = 0 → ((designOf userLogic 31).ink 70).en = .const false → c = 71 →
      inkAcc userLogic 31 70 = none ∧ 70 / 2 = c / 2 ∧ 70 ≠ c ∧ c < 72) := by
  have h : fabClocked (ready []) = false ∧ netOn userLogic 1 = false ∧ netOn userLogic 0 = true ∧
      31 ∈ userLogic.cfg.active.map Prod.fst ∧ sectorUp userLogic 31 = true ∧ swapping userLogic 31 = false ∧
      userLogic.fab.half = 0 := by decide +kernel
  have hh : netOn { userLogic with fab := { userLogic.fab with half := 1 } } 0 = true ∧
      sectorUp { userLogic with fab := { userLogic.fab with half := 1 } } 31 = true ∧
      swapping { userLogic with fab := { userLogic.fab with half := 1 } } 31 = false := by decide +kernel
  refine ⟨h.1, h.2.1, h.2.2.1, h.2.2.2.1, h.2.2.2.2.1, h.2.2.2.2.2.1, ?_, ?_, ?_, ?_, ?_⟩
  · simp [sees, netEdge, srcEdge, hn, h]
  · simp [sees, netEdge, h]
  · simp [sees, netEdge, srcEdge, hn, h]
  · simp [sees, netEdge, srcEdge, hn, hh]
  · intro c h1 h2 hc
    subst hc
    simp [inkAcc, h2, wireVal, nodeVal]

/-- The chain and pad clauses at the ends of their ranges. -/
theorem witness_FabricPorts_keepers : 31 ∈ userLogic.cfg.active.map Prod.fst ∧ (111 : Nat) < 112 ∧ (24575 : Nat) < 24576 ∧ (47 : Nat) < 48 ∧
    (511 : Nat) < 512 ∧ sectorUp userLogic 31 = true ∧ mapGet? userLogic.fab.pad 511 = none := by decide +kernel

/-- A host SPI frame without data: OP, LEN and the CRC, or a wrong one. -/
def hostFrame (op len : Nat) (good : Bool) : List Byte :=
  let h := toBytes 12 op ++ toBytes 2 len
  let c := crc16 h
  h ++ [BitVec.ofNat 8 (c / 256), BitVec.ofNat 8 (if good then c else c + 1)]

/-- A host SPI frame with data, without a fault. -/
def hostData (op : Nat) (d : List Byte) : List Byte :=
  let h := toBytes 12 op ++ toBytes 2 d.length ++ d
  let c := crc16 h
  h ++ [BitVec.ofNat 8 (c / 256), BitVec.ofNat 8 c]

/-- A frame of each operation without a fault. -/
theorem witness_HostSpiPort_frames :
    ∀ f ∈ [(1, hostFrame 1 4 true), (2, hostData 2 [1, 2, 3, 4]), (3, hostFrame 3 1 true), (4, hostData 4 [9]), (5, hostFrame 5 0 true),
      (6, hostFrame 6 0 true)], spiReason f.2 = 0 ∧ mf f.2 0 1 = f.1 := by decide +kernel

theorem witness_HostSpiPort :
    on (boot Md.load .vote []) (fun s => spiFree s = false) ∧
    on (ready []) (fun s => spiFree s = true ∧ railsOff s = false ∧ spiDictMode s = true ∧ s.rd Fd.NET_HB_PROD_TIME < 65536 ∧
      tagFind s 0 (0xFFFF % 2 ^ 16) = none ∧ s.net.spiBusy = false ∧ s.net.spiResp = false ∧ s.fab.req = none ∧ spiReason [] = 4 ∧
      spiReason (hostFrame 1 4 false) = 1 ∧ spiReason (hostFrame 1 260 true) = 2 ∧ spiReason (hostFrame 7 0 true) = 3 ∧
      spiReason (hostFrame 1 256 true) = 0) ∧
    on (boot Md.load .startTest []) (fun s => spiFree s = true ∧ spiDictMode s = false ∧ railsOff s = false) ∧
    on (mod (ready []) (fun s => { s with net := { s.net with spiBusy := true } })) (fun s => spiFree s = false ∧ s.net.spiBusy = true) ∧
    on (mod (ready []) (fun s => { s with net := { s.net with tags := [(0, [⟨0xFFFF, 5, false⟩])] } })) (fun s =>
      spiFree s = true ∧ tagFind s 0 (0xFFFF % 2 ^ 16) = some ⟨0xFFFF, 5, false⟩) := by decide +kernel


/-! #### Configuration flash and user flash -/

/-- A mode with a configuration block in a state. -/
def cfgOf (m : Nat) (f : CfgSt → CfgSt) (l : List (Fld × Nat)) : State := mod (dev m l) (fun s => { s with cfg := f s.cfg })

/-- A bank whose pages up to one are programmed, and whose block 383 has begun an erase. -/
def usedBank : Flash := ⟨[], [1], [383]⟩

/-- A bank with a manifest of zeros where it names slots, scribe images and defaults: none of them. -/
def zeroBank : Flash := ⟨(90115, 0) :: (List.range 32).map (fun k => (90164 + 5 * k, 0)), [], []⟩

theorem witness_ConfigurationCommands :
    on (ready []) (fun s => masterServed s 0x17 = false ∧ masterServed s 0x18 = true ∧ masterServed s 2 = true) ∧
    on (ported Md.limited [(Fd.CFG_CMD_STAT_BUSY, 1)]) (fun s => linked s ∧ masterBusy s 0x17 = false ∧ isFabric 0x17 = true ∧
      s.rd Fd.CFG_CMD_STAT_BUSY = 1) ∧
    on (cfgOf Md.safe (fun c => { c with pageAt := some 0 }) [(Fd.SYS_ARB_CFG_IMGPROG_PACE, 1), (Fd.LOG_TIME_TIME, 24999)]) (fun s =>
      paceOpen s 3 = false ∧ paced s = false) ∧
    on (cfgOf Md.safe (fun c => { c with pageAt := some 0 }) [(Fd.SYS_ARB_CFG_IMGPROG_PACE, 2), (Fd.LOG_TIME_TIME, 250000)]) (fun s =>
      paceOpen s 3 = true) ∧
    on (cfgOf Md.safe id [(Fd.SYS_ARB_CFG_IMGPROG_PACE, 3)]) (fun s => paced s = true ∧ paceOpen s 3 = false) ∧
    on (cfgOf Md.limited id [(Fd.CFG_CMD_STAT_BUSY, 1)]) (fun s => isFabric 0x17 = true ∧ isFabric 0x18 = false ∧ s.rd Fd.CFG_CMD_STAT_BUSY = 1) ∧
    on (cfgOf Md.selftest id []) (fun s => s.rd Fd.CFG_CMD_STAT_BUSY = 0 ∧ cfgCmdMode s = false) ∧
    on (cfgOf Md.limited id [(Fd.CFG_BANK_STAT_LOADED 1, 1), (Fd.CFG_ADDR_OFFSET, 0x17FFFFF), (Fd.LCS_STATE_STATE, 0)]) (fun s =>
      s.rd Fd.CFG_CMD_STAT_BUSY = 0 ∧ cfgCmdMode s = true ∧ bankOpen s 1 = false ∧ bankOpen s 0 = true ∧
      s.rd Fd.CFG_ADDR_OFFSET % 0x10000 ≠ 0 ∧ s.rd Fd.CFG_ADDR_OFFSET % 512 ≠ 0 ∧ s.rd (Fd.CFG_BANK_STAT_AUTH 0) = 0 ∧
      s.mode ≠ Md.standby ∧ s.mode ≠ Md.safe ∧ swapReserved s 31 = 0) ∧
    on (cfgOf Md.safe (fun c => { c with bank0 := usedBank, row := ⟨[], [16, 1], []⟩, rowErased := some 0 }) [(Fd.CFG_ADDR_OFFSET, 0), (Fd.LCS_STATE_STATE, 0)]) (fun s =>
      cfgCmdMode s = true ∧ bankOpen s 0 = true ∧ s.rd Fd.CFG_ADDR_OFFSET % 0x10000 = 0 ∧ s.rd Fd.CFG_ADDR_OFFSET < 0x1800000 ∧
      (s.bank 0).noneAbove 128 (0 / 512) = false ∧ s.mode = Md.safe ∧ lcsState s ≠ 3 ∧ rowTarget s = 0 ∧
      s.cfg.rowErased = some (rowTarget s) ∧ s.cfg.row.noneAbove 16 (rowTarget s * 16 + 0 / 512) = false) ∧
    on (cfgOf Md.safe (fun c => { c with bank0 := usedBank, row := ⟨[], [1], []⟩, rowErased := some 0 }) [(Fd.CFG_ADDR_OFFSET, 512), (Fd.LCS_STATE_STATE, 0)]) (fun s =>
      (s.bank 0).noneAbove 128 1 = true ∧ (s.bank 0).pageFree 128 1 = false ∧ s.rd Fd.CFG_ADDR_OFFSET = 512 ∧
      s.cfg.row.noneAbove 16 (rowTarget s * 16 + 512 / 512) = true ∧ s.cfg.row.pageFree 16 (rowTarget s * 16 + 512 / 512) = false) ∧
    on (cfgOf Md.safe (fun c => { c with bank0 := usedBank, rowErased := some 0 }) [(Fd.CFG_ADDR_OFFSET, 0xE00), (Fd.LCS_STATE_STATE, 0)]) (fun s =>
      (s.bank 0).noneAbove 128 7 = true ∧ (s.bank 0).pageFree 128 7 = true ∧ s.rd Fd.CFG_ADDR_OFFSET < 0x1000 ∧
      s.cfg.row.noneAbove 16 (rowTarget s * 16 + 7) = true ∧ s.cfg.row.pageFree 16 (rowTarget s * 16 + 7) = true) ∧
    on (cfgOf Md.safe id [(Fd.CFG_ADDR_OFFSET, 0x1800000), (Fd.LCS_STATE_STATE, 3)]) (fun s =>
      0x1800000 ≤ s.rd Fd.CFG_ADDR_OFFSET ∧ lcsState s = 3 ∧ bankOpen s 0 = false) ∧
    on (cfgOf Md.standby (fun c => { c with bank1 := usedBank }) [(Fd.CFG_BANK_STAT_AUTH 0, 1), (Fd.LCS_STATE_STATE, 0)]) (fun s => (manifest s 0).isSome = true ∧
      loadedManifest s = none ∧ s.mode = Md.standby ∧ s.cfg.rowErased ≠ some (rowTarget s)) ∧
    on (cfgOf Md.standby id [(Fd.CFG_BANK_STAT_AUTH 0, 1), (Fd.CFG_BANK_STAT_LOADED 0, 1)]) (fun s =>
      s.rd (Fd.CFG_BANK_STAT_AUTH 0) = 1 ∧ (manifest s 0).isSome = true ∧
      (mfPresent ((manifest s 0).getD []) 31 && (mfTargets ((manifest s 0).getD []) 31).testBit 31 && (match loadedManifest s with
          | some l => sameFpll ((manifest s 0).getD []) l
          | none => false)) = true ∧ swapReserved s 31 = 0) ∧
    on (mod (ready []) (fun s => { s with nib := { s.nib with nibs := [(0, { nibAt .armed 0 with w1 := BitVec.ofNat 32 (31 + 7 * 2 ^ 16) })] } }))
      (fun s => swapReserved s 31 ≠ 0) := by
  refine ⟨?_, ?_, ?_, ?_, ?_, ?_, ?_, ?_, ?_, ?_, ?_, ?_, ?_, ?_, ?_⟩ <;> decide +kernel

/-- The bytes of an erased array read as ones. -/
theorem bytes_flashZero (u n i : Nat) : flashZero.bytes u n i = some (List.replicate (8 * n) 255) := by
  have h : ∀ i, (flashZero.read u i).data? = some (2 ^ 64 - 1) := fun i => by
    simp [Flash.read, flashZero, Flash.raw, mapGet, mapGet?, flashDecode, EccOut.data?]
  have e : toBytes 8 (2 ^ 64 - 1) = List.replicate 8 255 := by decide +kernel
  induction n generalizing i with
  | zero => rfl
  | succ n ih =>
    simp only [Flash.bytes, h, ih, e, List.replicate_append_replicate]
    congr 2
    omega

/-- A slot of an erased bank is read whole. -/
theorem witness_slotBytes (s : State) (slot : Nat) (h : s.cfg.bank0 = flashZero) :
    slotBytes s 0 slot 0 720896 = some (List.replicate 720896 255) := by
  simp only [slotBytes, bankBytes, State.bank, h, ite_true, bytes_flashZero, Option.map_some, List.take_replicate]
  rfl

/-- A command in progress for bank 0 and sector 31, whose flash operation has begun or not. -/
def cfgDoing (op addr : Nat) (started : Bool) (f : CfgSt → CfgSt) (l : List (Fld × Nat)) : State :=
  cfgOf Md.standby (fun c => { f c with cmd := some ⟨op, 0, addr, 31, 31, started, 0, 0⟩ }) l

/-- Planes of sector 31. -/
def planes (rep : Bool) (c : CfgSt) : CfgSt :=
  { c with active := [(31, { emptyPlane with repairable := rep })], shadow := [(31, { emptyPlane with repairable := rep })], scrubPos := [(62, 5630)] }

/-- The active plane of sector 31 with a repair in progress or an uncorrectable word met in its last frame's pass. -/
def planeAt (repair : Option (Nat × Bool)) (c : CfgSt) : CfgSt :=
  { c with active := [(31, { emptyPlane with repair := repair, passBad := true })], scrubPos := [(62, 5631)] }

/-- A nib that holds a swap of sector 31 locked. -/
def swapping (s : State) : State :=
  { s with nib := { s.nib with nibs := [(0, { nibAt .locked 0 with w1 := BitVec.ofNat 32 (31 + 7 * 2 ^ 16) })] } }

theorem witness_ConfigurationEnds :
    on (cfgDoing 8 0 false (fun c => { c with bank0 := zeroBank }) [(Fd.CFG_CMD_STAT_PHASE, 1)]) (fun s =>
      s.cfg.cmd = some ⟨8, 0, 0, 31, 31, false, 0, 0⟩ ∧ s.rd Fd.CFG_CMD_STAT_PHASE = 1 ∧ bankHashes s 0 = true) ∧
    on (cfgDoing 8 0 false (fun c => { c with bank0 := ⟨[], [], [11]⟩ }) [(Fd.CFG_CMD_STAT_PHASE, 1)]) (fun s => s.rd Fd.CFG_CMD_STAT_PHASE = 1 ∧
      manifest s 0 = none ∧ bankHashes s 0 = false) ∧
    on (cfgDoing 8 0 false id [(Fd.CFG_CMD_STAT_PHASE, 2), (Fd.SYS_ARB_CFG_IMGPROG_PACE, 3)]) (fun s => s.rd Fd.CFG_CMD_STAT_PHASE = 2 ∧ paced s = true) ∧
    on (cfgDoing 8 0 false id [(Fd.CFG_CMD_STAT_PHASE, 2)]) (fun s => s.rd Fd.CFG_CMD_STAT_PHASE = 2 ∧ paced s = false) ∧
    on (cfgDoing 8 0 true id [(Fd.CFG_CMD_STAT_PHASE, 3), (Fd.SYS_ARB_CFG_IMGPROG_PACE, 3)]) (fun s => s.rd Fd.CFG_CMD_STAT_PHASE = 3 ∧
      paced s = true) ∧
    on (dev Md.load []) (fun s => scrubRuns s = false) ∧
    on (cfgDoing 8 0 true id [(Fd.CFG_CMD_STAT_PHASE, 3)]) (fun s => s.rd Fd.CFG_CMD_STAT_PHASE = 3 ∧ paced s = false ∧
      s.cfg.cmd = some ⟨8, 0, 0, 31, 31, true, 0, 0⟩) ∧
    on (cfgDoing 8 0 false id [(Fd.CFG_CMD_STAT_PHASE, 3)]) (fun s => s.rd Fd.CFG_CMD_STAT_PHASE = 3 ∧
      s.cfg.cmd = some ⟨8, 0, 0, 31, 31, false, 0, 0⟩) ∧
    on (cfgDoing 6 0 false id []) (fun s => s.cfg.cmd = some ⟨6, 0, 0, 31, 31, false, 0, 0⟩ ∧ (manifest s 0).isSome = true ∧ s.cfg.bank0 = flashZero) ∧
    on (cfgDoing 6 0 false (fun c => { c with bank0 := ⟨[], [], [372]⟩ }) []) (fun s => slotBytes s 0 31 0 720896 = none) ∧
    on (cfgDoing 5 0 false id []) (fun s => s.cfg.cmd = some ⟨5, 0, 0, 31, 31, false, 0, 0⟩ ∧ s.cfg.bank0 = flashZero) ∧
    on (cfgDoing 2 0x17F0000 true id []) (fun s => s.cfg.cmd = some ⟨2, 0, 0x17F0000, 31, 31, true, 0, 0⟩) ∧
    on (cfgDoing 3 0x17FFE00 false id [(Fd.SYS_ARB_CFG_IMGPROG_PACE, 3)]) (fun s => s.cfg.cmd = some ⟨3, 0, 0x17FFE00, 31, 31, false, 0, 0⟩) ∧
    on (cfgDoing 4 0x17FFE00 false id []) (fun s => s.cfg.cmd = some ⟨4, 0, 0x17FFE00, 31, 31, false, 0, 0⟩ ∧ s.plainMem) ∧
    on (cfgOf Md.standby id []) (fun s => s.cfg.cmd = none ∧ scrubRuns s = true ∧ scrubPlane s 31 0 = none) ∧
    on (cfgOf Md.standby (planes true) [(Fd.CFG_SECT_STAT_ACTIVE 31, 1), (Fd.CFG_BANK_STAT_AUTH 0, 1)]) (fun s => scrubRuns s = true ∧
      scrubPlane s 31 0 = some { emptyPlane with repairable := true } ∧ swapLocked s 31 = false ∧
      ({ emptyPlane with repairable := true } : Plane).repair = none ∧ ({ emptyPlane with repairable := true } : Plane).soft = [] ∧
      planeRepairable s { emptyPlane with repairable := true } = true ∧ mapGet 0 s.cfg.scrubPos (2 * 31) = 5630) ∧
    on (cfgOf Md.standby (planeAt none) [(Fd.CFG_SECT_STAT_ACTIVE 31, 1)]) (fun s => scrubRuns s = true ∧
      scrubPlane s 31 0 = some { emptyPlane with passBad := true } ∧ mapGet 0 s.cfg.scrubPos (2 * 31) = 5631) ∧
    on (swapping (cfgOf Md.standby (planes true) [(Fd.CFG_SECT_STAT_ACTIVE 31, 1), (Fd.CFG_BANK_STAT_AUTH 0, 1)])) (fun s =>
      scrubRuns s = true ∧ scrubPlane s 31 0 = some { emptyPlane with repairable := true } ∧ swapLocked s 31 = true ∧
      planeRepairable s { emptyPlane with repairable := true } = true) ∧
    on (swapping (cfgOf Md.standby (planeAt (some (5630, false))) [(Fd.CFG_SECT_STAT_ACTIVE 31, 1)])) (fun s => scrubRuns s = true ∧
      scrubPlane s 31 0 = some { emptyPlane with repair := some (5630, false), passBad := true } ∧ swapLocked s 31 = true) ∧
    on (cfgOf Md.standby (planes false) [(Fd.CFG_SECT_STAT_ACTIVE 31, 1)]) (fun s => scrubRuns s = true ∧
      scrubPlane s 31 0 = some { emptyPlane with repairable := false } ∧ scrubPlane s 31 1 = some { emptyPlane with repairable := false } ∧
      swapLocked s 31 = false ∧ planeRepairable s { emptyPlane with repairable := false } = false) := by
  refine ⟨?_, ?_, ?_, ?_, ?_, ?_, ?_, ?_, ?_, ?_, ?_, ?_, ?_, ?_, ?_, ?_, ?_, ?_, ?_, ?_⟩ <;> decide +kernel

/-- A mode with user flash in a state. -/
def uflOf (m : Nat) (f : UflSt → UflSt) (l : List (Fld × Nat)) : State := mod (dev m l) (fun s => { s with ufl := f s.ufl })

/-- A store in progress for the system bus. -/
def storing : StoreSt := ⟨[], [], false, false, 255, 0⟩

theorem witness_UserFlashAndStore :
    on (ported Md.safe [(Fd.UFL_CMD_STAT_BUSY, 1)]) (fun s => linked s ∧ masterBusy s 0x10 = false ∧ isFabric 0x10 = true ∧
      s.rd Fd.UFL_CMD_STAT_BUSY = 1) ∧
    on (mod (ready []) (fun s => { s with net := { s.net with rewrite := true, seqZero := true } })) (fun s => s.net.rewrite = true ∧
      s.net.seqZero = true) ∧
    on (uflOf Md.safe id [(Fd.UFL_CMD_STAT_BUSY, 1)]) (fun s => masterServed s 0x10 = false ∧ isFabric 0x0F = false ∧
      s.rd Fd.UFL_CMD_STAT_BUSY = 1) ∧
    on (uflOf Md.selftest id []) (fun s => s.rd Fd.UFL_CMD_STAT_BUSY = 0 ∧ s.rd Fd.UFL_STAT_STORE_BUSY = 0 ∧ uflMode s = false ∧
      railsOff s = false) ∧
    on (uflOf Md.safe id [(Fd.LCS_STATE_STATE, 0), (Fd.UFL_ADDR_OFFSET, 126 * 0x40000)]) (fun s => s.rd Fd.UFL_CMD_STAT_BUSY = 0 ∧ uflMode s = true ∧
      uflOrigin s (s.rd Fd.UFL_ADDR_OFFSET / 0x40000) false false = false ∧ uflOrigin s 126 true (xoMayRead 3 s) = true ∧
      s.rd Fd.UFL_ADDR_OFFSET % 512 = 0 ∧ s.rd Fd.UFL_ADDR_OFFSET % 0x40000 = 0) ∧
    on (uflOf Md.safe id [(Fd.UFL_STAT_STORE_BUSY, 1)]) (fun s => s.rd Fd.UFL_STAT_STORE_BUSY = 1) ∧
    on (uflOf Md.safe id [(Fd.LCS_STATE_STATE, 0), (Fd.UFL_ADDR_OFFSET, 125 * 0x40000)]) (fun s => uflOrigin s (s.rd Fd.UFL_ADDR_OFFSET / 0x40000) false false = true ∧
      s.rd Fd.UFL_ADDR_OFFSET % 0x40000 = 0) ∧
    on (uflOf Md.safe (fun u => { u with main := ⟨[], [512], []⟩ }) [(Fd.LCS_STATE_STATE, 0), (Fd.UFL_ADDR_OFFSET, 0x40000 - 512)]) (fun s =>
      s.rd Fd.UFL_ADDR_OFFSET % 0x40000 ≠ 0 ∧ uflOrigin s 0 false false = true ∧ s.rd Fd.UFL_ADDR_OFFSET % 512 = 0 ∧
      s.ufl.main.noneAbove 512 511 = true ∧ s.ufl.main.pageFree 512 511 = true) ∧
    on (uflOf Md.safe (fun u => { u with main := ⟨[], [511], []⟩ }) [(Fd.LCS_STATE_STATE, 0), (Fd.UFL_ADDR_OFFSET, 0x40000 - 512)]) (fun s =>
      s.ufl.main.noneAbove 512 511 = true ∧ s.ufl.main.pageFree 512 511 = false ∧ s.ufl.main.noneAbove 512 510 = false) ∧
    on (uflOf Md.safe id [(Fd.LCS_STATE_STATE, 0), (Fd.UFL_ADDR_OFFSET, 1), (Fd.UFL_XO_VALID 7, 1), (Fd.UFL_XO_LOCK 7, 1), (Fd.UFL_XO_LAST 7, 125)]) (fun s =>
      s.rd Fd.UFL_ADDR_OFFSET % 512 ≠ 0 ∧ uflOrigin s 0 true (xoMayRead 2 s) = false ∧ uflOrigin s 126 true (xoMayRead 2 s) = true ∧
      s.ufl.xoUsed.contains 7 = false ∧ xoBad 0 (125 + 125 * 2 ^ 8 + 2 ^ 31) s = true ∧ xoBad 0 0 s = false ∧
      xoBad 7 (125 + 125 * 2 ^ 8 + 2 ^ 31) s = false) ∧
    on (uflOf Md.safe (fun u => { u with cmd := some ⟨3, 0, false⟩, xoUsed := [7], store := some storing }) []) (fun s =>
      s.ufl.cmd = some ⟨3, 0, false⟩ ∧ s.ufl.xoUsed.contains 7 = true ∧ uflMode s = true ∧ s.ufl.store ≠ none ∧ railsOff s = false ∧
      s.ufl.store = some storing ∧ storing.todo = [] ∧ storing.fab = [] ∧ storing.part = false ∧ s.rd Fd.UFL_CMD_STAT_BUSY = 0 ∧
      storing.client = 255) ∧
    on (uflOf Md.safe (fun u => { u with store := some { storing with todo := [(0x6000, 0, 4)] } }) []) (fun s =>
      s.ufl.store = some { storing with todo := [(0x6000, 0, 4)] }) ∧
    on (uflOf Md.safe (fun u => { u with store := some storing }) [(Fd.UFL_CMD_STAT_BUSY, 1)]) (fun s =>
      s.ufl.store = some storing ∧ s.rd Fd.UFL_CMD_STAT_BUSY = 1) ∧
    on (uflOf Md.safe id []) (fun s => uflMode s = true ∧ s.ufl.store = none ∧ s.net.rewrite = false) ∧
    on (mod (ready []) (fun s => { s with net := { s.net with rewrite := true } })) (fun s => s.net.rewrite = true ∧ s.net.seqZero = false) := by
  refine ⟨?_, ?_, ?_, ?_, ?_, ?_, ?_, ?_, ?_, ?_, ?_, ?_, ?_, ?_, ?_⟩ <;> decide +kernel

/-! #### The dictionary network -/

/-- A mode with a network in a state. -/
def netOf (m : Nat) (f : NetSt → NetSt) (l : List (Fld × Nat)) : State := mod (dev m l) (fun s => { s with net := f s.net })

/-- A segmented transfer of client 127. -/
def transfer (write : Bool) (d : List Byte) (n : Nat) : UsdoSt := ⟨127, 0x1017, 0, 0, write, d, n⟩

/-- A state in which a request of the host waits at the dictionary port. -/
def asked (s : State) : State := { s with fab := { s.fab with req := some (fabReq 8) } }

theorem witness_UsdoTransfers :
    on (dev Md.load []) (fun s => nmtServed s = false) ∧
    on (netOf Md.standby (fun n => { n with usdo := (List.range 4).map (fun j => (j, transfer true [] 1)) }) []) (fun s =>
      nmtServed s = true ∧ 4 ≤ usdoOpen s) ∧
    on (netOf Md.standby (fun n => { n with usdo := (List.range 3).map (fun j => (j, transfer true [5] 2)) }) []) (fun s =>
      nmtServed s = true ∧ usdoOpen s < 4 ∧ s.fab.req = none ∧ railsOff s = false ∧ s.rd Fd.NET_HB_PROD_TIME < 65536 ∧ tagFind s 127 65535 = none ∧
      usdoOf s 127 2 = some (transfer true [5] 2) ∧ (transfer true [5] 2).len < ([5, 1, 2] : List Byte).length ∧
      ([5] ++ [] : List Byte).length < (transfer true [5] 2).len ∧ mapGet? s.net.usdo 3 = none ∧
      ((List.replicate 16 0).set 5 8 : List Byte).length = 8 + ofBytes ((((List.replicate 16 0).set 5 8 : List Byte).drop 5).take 1) ∧
      (List.replicate 8 0 : List Byte).length < 9 ∧ 16 < (List.replicate 17 0 : List Byte).length) ∧
    on (netOf Md.standby (fun n => { n with tags := [(127, [⟨256, 0, false⟩])], usdo := [(0, transfer false [1, 2] 2)] }) []) (fun s =>
      nmtServed s = true ∧ usdoOpen s < 4 ∧ s.fab.req = none ∧ usdoOf s 127 0 = some (transfer false [1, 2] 2) ∧
      tagFind s 127 (ofBytes (([0, 1, 0x17, 0x10, 0, 1, 0, 0, 9] : List Byte).take 2)) = some ⟨256, 0, false⟩ ∧
      ([0, 1, 0x17, 0x10, 0, 1, 0, 0, 9] : List Byte).length = 8 + ofBytes ((([0, 1, 0x17, 0x10, 0, 1, 0, 0, 9] : List Byte).drop 5).take 1)) ∧
    on (asked (ready [])) (fun s => nmtServed s = true ∧ usdoOpen s < 4 ∧ s.fab.req ≠ none) ∧
    on (netOf Md.load (fun n => { n with usdo := [(3, transfer true [5] 2)] }) []) (fun s => nmtServed s = false ∧
      mapGet? s.net.usdo 3 = some (transfer true [5] 2)) := by
  decide +kernel

/-- RUN with words of the NET windows. -/
def wins (w : List (Nat × Nat)) (f : NetSt → NetSt) (l : List (Fld × Nat)) : State :=
  mod (running l) (fun s => { s with net := f { s.net with win := w.foldl (fun m e => mapPut m e.1 (BitVec.ofNat 32 e.2)) [] } })

/-- PDO 63 of a direction with a COB-ID, a type, and NET_HB_PROD as its one mapped entry. -/
def pdo63 (tx : Bool) (ty ev : Nat) : List (Nat × Nat) :=
  let p := pdoWin tx 63
  [(p.par, 0x7F), (p.par + 4, ty), (p.par + 0x10, ev), (p.count, 1), (p.map, 0x10170020)]

theorem witness_PdosAndSync :
    on (ready []) (fun s => driving s.mode = false) ∧
    on (wins [] id []) (fun s => driving s.mode = true ∧ pdoOn s false 63 = false ∧ pdoOn s true 63 = false ∧ s.net.rpdo = [] ∧
      (∀ j, j < 64 → pdoOn s true j = false) ∧ s.rd Fd.NET_SYNC_PERIOD_PERIOD = 0 ∧ s.rd Fd.NET_HB_PROD_TIME = 0) ∧
    on (wins [] id [(Fd.NET_SYNC_COBID_GEN, 1), (Fd.NET_SYNC_PERIOD_PERIOD, 1), (Fd.NET_SYNC_OVF_OVF, 240), (Fd.NET_HB_PROD_TIME, 1)]) (fun s =>
      s.rd Fd.NET_SYNC_COBID_GEN = 1 ∧ s.rd Fd.NET_SYNC_PERIOD_PERIOD ≠ 0 ∧ (∀ j, j < 64 → pdoOn s true j = false) ∧ nmtServed s = true ∧
      s.rd Fd.NET_HB_PROD_TIME ≠ 0 ∧ periodOver s s.net.syncAt (s.rd Fd.NET_SYNC_PERIOD_PERIOD * 250) = true ∧
      periodOver s s.net.hbAt (s.rd Fd.NET_HB_PROD_TIME * 250000) = true) ∧
    on (wins (pdo63 false 240 0) id []) (fun s => pdoOn s false 63 = true ∧ pdoLen s false 63 = 4 ∧ pdoType s false 63 ≤ 240) ∧
    on (wins (pdo63 false 241 0) id []) (fun s => pdoOn s false 63 = true ∧ pdoLen s false 63 = 4 ∧ 240 < pdoType s false 63 ∧
      pdoMap s false 63 = [(0x1017, 0, 8 * 4)] ∧ s.fab.req = none) ∧
    on (asked (wins (pdo63 false 241 0) id [])) (fun s => pdoOn s false 63 = true ∧ pdoLen s false 63 = 4 ∧ 240 < pdoType s false 63 ∧
      s.fab.req ≠ none ∧ s.net.work = []) ∧
    on (asked (wins (pdo63 true 254 1) id [])) (fun s => pdoOn s true 63 = true ∧ 254 ≤ pdoType s true 63 ∧ tpdoTimeUp s 63 = true ∧
      tpdoInhibited s 63 = false ∧ s.fab.req ≠ none ∧ s.net.work = []) ∧
    on (wins (pdo63 true 0 1) id []) (fun s => pdoOn s true 63 = true ∧ pdoType s true 63 = 0 ∧ tpdoTimeUp s 63 = true) ∧
    on (wins (pdo63 true 254 1) (fun n => { n with sample := [(63, [0, 0, 0, 0])] }) []) (fun s => pdoOn s true 63 = true ∧ 254 ≤ pdoType s true 63 ∧
      tpdoTimeUp s 63 = true ∧ (sampleMap (pdoMap s true 63) { s with net := { s.net with tx := [] } }).1 = [0, 0, 0, 0] ∧
      mapGet? s.net.sample 63 = some [0, 0, 0, 0] ∧ pdoMap s true 63 = [(0x1017, 0, 32)] ∧ tpdoInhibited s 63 = false ∧
      s.fab.req = none) ∧
    on (wins ((((pdoWin true 63).par + 8), 11) :: pdo63 true 254 1) (fun n => { n with tpdoAt := [(63, 0)] }) [(Fd.LOG_TIME_TIME, 250000)]) (fun s =>
      pdoOn s true 63 = true ∧ 254 ≤ pdoType s true 63 ∧ tpdoTimeUp s 63 = true ∧ tpdoInhibited s 63 = true) := by
  refine ⟨?_, ?_, ?_, ?_, ?_, ?_, ?_, ?_, ?_, ?_⟩ <;> decide +kernel

theorem witness_PdosAndSync_periods :
    on (wins [] (fun n => { n with syncAt := some 0, hbAt := some 0 }) [(Fd.NET_SYNC_PERIOD_PERIOD, 1000), (Fd.NET_HB_PROD_TIME, 1),
        (Fd.LOG_TIME_TIME, 249999)]) (fun s => periodOver s s.net.syncAt (s.rd Fd.NET_SYNC_PERIOD_PERIOD * 250) = false ∧
      periodOver s s.net.hbAt (s.rd Fd.NET_HB_PROD_TIME * 250000) = false) ∧
    on (wins [] (fun n => { n with syncAt := some 0, hbAt := some 0 }) [(Fd.NET_SYNC_PERIOD_PERIOD, 1000), (Fd.NET_HB_PROD_TIME, 1),
        (Fd.LOG_TIME_TIME, 250000)]) (fun s => periodOver s s.net.syncAt (s.rd Fd.NET_SYNC_PERIOD_PERIOD * 250) = true ∧
      periodOver s s.net.hbAt (s.rd Fd.NET_HB_PROD_TIME * 250000) = true) ∧
    on (wins (pdo63 true 254 1) (fun n => { n with tpdoAt := [(63, 0)] }) [(Fd.LOG_TIME_TIME, 249999)]) (fun s => tpdoTimeUp s 63 = false) := by decide +kernel

/-- A mapped register that reads without side effect leaves the state as it was. -/
theorem witness_PdosAndSync_sample (s : State) (h : pdoMap s true 63 = [(0x1017, 0, 32)]) :
    sampleMap (pdoMap s true 63) s = ((sampleMap (pdoMap s true 63) s).1, s) := by
  have e : (sampleMap (pdoMap s true 63) s).2 = s := by
    apply sampleMap_plain
    simp only [h, List.mem_singleton, forall_eq]
    exact (by decide +kernel : plainEntry (0x1017, 0, 32) = true)
  exact Prod.ext rfl e

/-- SRDO 7 of a direction with SAF_SRDO_IN as its one mapped entry. -/
def srdo7 (d : Nat) : List (Nat × Nat) := [(0xA0E0, d), (0xA480, 1), (0xA484, 0x29010108)]

theorem witness_LinesEmergenciesAndSrdos :
    on (dev Md.load []) (fun s => nmtServed s = false) ∧
    on (netOf Md.run id [(Fd.NET_SRDO_VALID_VALID, 0xA5), (Fd.NET_EMCY_COBID_INVALID, 1)]) (fun s => nmtServed s = true ∧
      s.rd (Fd.NET_HB_CONS_TIME 7) = 0 ∧ s.rd Fd.NET_STAT_PASSIVE1 = 0 ∧ s.net.emcy = [] ∧ s.rd Fd.NET_STAT_BUS_OFF1 = 0 ∧
      srdoOn s 2 7 = false ∧ srdoOn s 1 7 = false) ∧
    on (netOf Md.run (fun n => { n with hbAlive := [(7, 0)], emcy := [⟨0x8130, 10, 6, 0, 0x11⟩] }) [(Fd.NET_HB_CONS_TIME 7, 1), (Fd.LOG_TIME_TIME, 250000),
        (Fd.NET_ERR_BEH_COMM, 0), (Fd.NET_STAT_PASSIVE1, 1), (Fd.NET_STAT_BUS_OFF1, 1), (Fd.NET_EMCY_COBID_INVALID, 0)]) (fun s =>
      s.rd (Fd.NET_HB_CONS_TIME 7) ≠ 0 ∧ hbLate s 7 = true ∧ s.rd Fd.NET_ERR_BEH_COMM = 0 ∧ driving s.mode = true ∧
      s.rd Fd.SYS_MODE_REQ_BUSY = 0 ∧ s.rd Fd.NET_STAT_PASSIVE1 = 1 ∧ s.net.emcy = [⟨0x8130, 10, 6, 0, 0x11⟩] ∧
      s.rd Fd.NET_EMCY_COBID_INVALID = 0 ∧ emcyInhibited s = false ∧ s.rd Fd.NET_STAT_BUS_OFF1 = 1) ∧
    on (netOf Md.run (fun n => { n with emcyAt := some 0, emcy := [⟨0x8130, 10, 6, 0, 0x11⟩] }) [(Fd.NET_EMCY_INH_TIME, 1), (Fd.LOG_TIME_TIME, 24999)])
      (fun s => emcyInhibited s = true) ∧
    on (netOf Md.run (fun n => { n with emcyAt := some 0, emcy := [⟨0x8130, 10, 6, 0, 0x11⟩] }) [(Fd.NET_EMCY_INH_TIME, 1), (Fd.LOG_TIME_TIME, 25000)])
      (fun s => emcyInhibited s = false) ∧
    on (netOf Md.run (fun n => { n with hbAlive := [(7, 0)] }) [(Fd.NET_HB_CONS_TIME 7, 1), (Fd.LOG_TIME_TIME, 249999),
        (Fd.NET_ERR_BEH_COMM, 1), (Fd.NET_STAT_BUS_OFF0, 1)]) (fun s => hbLate s 7 = false ∧ s.rd Fd.NET_ERR_BEH_COMM = 1 ∧
      s.rd Fd.NET_STAT_BUS_OFF0 = 1) ∧
    on (netOf Md.run id [(Fd.NET_HB_CONS_TIME 7, 1), (Fd.NET_ERR_BEH_COMM, 2)]) (fun s => hbLate s 7 = true ∧
      s.rd Fd.NET_ERR_BEH_COMM = 2 ∧ safeReqFrom s = true) ∧
    on (wins ((0xA0E4, 10) :: srdo7 2) (fun n => { n with srdoAt := [(7, 0)] }) [(Fd.LOG_TIME_TIME, 2499999)]) (fun s => srdoOn s 2 7 = true ∧
      srdoLate s 7 = false) ∧
    on (wins ((0xA0E4, 10) :: srdo7 2) (fun n => { n with srdoAt := [(7, 0)] }) [(Fd.LOG_TIME_TIME, 2500000)]) (fun s => srdoOn s 2 7 = true ∧
      srdoSct s 7 ≤ s.now - srdoLast s 7) ∧
    on (wins ((0xA0E4, 10) :: (0xA0E8, 2) :: srdo7 2) (fun n => { n with srdoAt := [(7, 0)], srdoHalf := [(7, 0)] }) [(Fd.LOG_TIME_TIME, 500000)])
      (fun s => srdoOn s 2 7 = true ∧ mapGet? s.net.srdoHalf 7 = some 0 ∧ srdoSrvt s 7 ≤ s.now - 0) ∧
    on (wins ((0xA0E4, 10) :: srdo7 1) (fun n => { n with srdoAt := [(7, 0)] }) [(Fd.LOG_TIME_TIME, 2499999)]) (fun s => srdoIsDue s 7 = false) ∧
    on (wins (srdo7 2) id []) (fun s => srdoOn s 2 7 = true ∧ srdoMap s 7 = [(0x2901, 1, 8)] ∧
      ([] : List Byte).length < ((srdoMap s 7).map (fun x => x.2.2 / 8)).sum ∧ s.fab.req = none) ∧
    on (wins [(0xA0E0, 1), (0xA480, 1), (0xA484, 0x29010208)] id []) (fun s => srdoOn s 1 7 = true ∧ srdoIsDue s 7 = true ∧ srdoMap s 7 = [(0x2901, 2, 8)] ∧
      s.fab.req = none) := by
  refine ⟨?_, ?_, ?_, ?_, ?_, ?_, ?_, ?_, ?_, ?_, ?_, ?_, ?_⟩ <;> decide +kernel

/-- A transmit SRDO samples its mapped entries without side effect. -/
theorem witness_LinesEmergenciesAndSrdos_sample (s : State) (h : srdoMap s 7 = [(0x2901, 2, 8)]) :
    sampleMap (srdoMap s 7) s = ((sampleMap (srdoMap s 7) s).1, s) := by
  have e : (sampleMap (srdoMap s 7) s).2 = s := by
    apply sampleMap_plain
    simp only [h, List.mem_singleton, forall_eq]
    exact (by decide +kernel : plainEntry (0x2901, 2, 8) = true)
  exact Prod.ext rfl e


/-! #### Interrupts, the log, safety, self-test, life cycle and the test port -/

/-- STANDBY with interrupt sources in states. -/
def irqOf (l : List (Nat × IrqSrc)) (r : List (Fld × Nat)) : State := mod (ready r) (fun s => { s with irq := { s.irq with src := l } })

theorem witness_InterruptSourcesAndTargets :
    on (irqOf [] [(Fd.IRQ_SRC_CFG_PRIO 402, 15), (Fd.IRQ_SRC_CFG_PRIO 178, 1), (Fd.CHN_SFAULT_FAULT, 1), (Fd.IRQ_SRC_CFG_PRIO 383, 1)]) (fun s =>
      irqExists 402 = true ∧ irqIsLevel 402 = false ∧ s.rd (Fd.IRQ_SRC_CFG_PRIO 402) ≠ 0 ∧ s.rd (Fd.IRQ_SRC_CFG_PRIO 401) = 0 ∧
      irqExists 401 = true ∧ irqIsLevel 401 = false ∧ mapGet? s.irq.src 402 = none ∧ irqIsLevel 178 = true ∧ irqLevel s 178 = true ∧
      irqIsLevel 320 = true ∧ s.rd (Fd.IRQ_SRC_CFG_PRIO 383) ≠ 0 ∧ irqDeliv s 7 = [] ∧ s.rd (Fd.IRQ_TGT_STAT_TIMER_RUN 7) = 0) ∧
    on (irqOf [(178, ⟨.active, 7⟩), (401, ⟨.activePending, 7⟩), (402, ⟨.active, 7⟩)] [(Fd.CHN_SFAULT_FAULT, 1), (Fd.IRQ_SRC_CFG_PRIO 402, 1),
        (Fd.IRQ_TGT_STAT_TIMER_RUN 7, 1), (Fd.IRQ_MOD_CFG_TIME 7, 1), (Fd.LOG_TIME_TIME, 250)]) (fun s => irqTimerOver s 7 = true ∧
      mapGet? s.irq.src 402 = some ⟨.active, 7⟩ ∧ ¬(irqIsLevel 402 = true ∧ irqLevel s 402 = true) ∧
      mapGet? s.irq.src 178 = some ⟨.active, 7⟩ ∧ irqIsLevel 178 = true ∧ irqLevel s 178 = true ∧
      mapGet? s.irq.src 401 = some ⟨.activePending, 7⟩ ∧ mapGet? s.irq.src 400 = none ∧ (6 : Nat) ≠ 7 ∧ mapWf s.irq.src = true ∧
      s.rd (Fd.IRQ_TGT_STAT_TIMER_RUN 7) = 1) ∧
    on (mod (ready [(Fd.IRQ_TGT_STAT_TIMER_RUN 7, 1), (Fd.IRQ_MOD_CFG_TIME 7, 1), (Fd.LOG_TIME_TIME, 499)]) (fun s => { s with irq := { s.irq with
        timerAt := [(7, 250)] } })) (fun s => s.rd (Fd.IRQ_TGT_STAT_TIMER_RUN 7) = 1 ∧ irqTimerOver s 7 = false) ∧
    on (mod (ready [(Fd.IRQ_TGT_STAT_TIMER_RUN 7, 1), (Fd.IRQ_MOD_CFG_TIME 7, 2), (Fd.IRQ_MOD_CFG_CLK 7, 1)]) (fun s => { s with irq := { s.irq with
        timerAt := [(7, 2 ^ 48 - 1)] } })) (fun s => irqTimerOver s 7 = false) ∧
    on (irqOf [(178, ⟨.pending, 0⟩), (401, ⟨.pending, 0⟩), (402, ⟨.pending, 0⟩)] [(Fd.CHN_SFAULT_FAULT, 1), (Fd.IRQ_SRC_CFG_PRIO 401, 15),
        (Fd.IRQ_SRC_CFG_PRIO 402, 15), (Fd.IRQ_SRC_CFG_MOD 401, 1), (Fd.IRQ_SRC_CFG_TARGET 401, 7),
        (Fd.IRQ_SRC_CFG_TARGET 402, 7)]) (fun s => mapGet? s.irq.src 402 = some ⟨.pending, 0⟩ ∧
      mapGet? s.irq.src 178 = some ⟨.pending, 0⟩ ∧ 0 ∉ irqDeliv s 7 ∧ irqDeliv s 7 = [401, 402] ∧ irqM s s.irq.src 7 ≠ 0 ∧
      s.irq.flushed = false) := by decide +kernel

/-- STANDBY with a log in a state. -/
def logOf (f : LogSt → LogSt) (r : List (Fld × Nat)) : State := mod (ready r) (fun s => { s with log := f s.log })

/-- A trouble-log request. -/
def logReq1 : LogReq := ⟨1, 13, 2, 3, 4, 5⟩

/-- The log with 4,096 entries unread. -/
def fullLog (stop : Nat) : List (Fld × Nat) := [(Fd.LOG_NSEQ_NSEQ, 4096), (Fd.LOG_CFG_STOP_FULL, stop)]

/-- Asleep in S2 with the entry of a lost bank supply waiting. -/
def sleepLog : State :=
  mod (dev Md.sleep []) (fun s => { s with pwr := { s.pwr with sleep := .asleep 2 }, log := { s.log with queue := [⟨0, Blk.pwr, 6, 0, 5, 0⟩] } })

theorem witness_LogEntriesAndPositions :
    (ready []).rd Fd.LOG_AON_SRC = 0 ∧ (ready [(Fd.LOG_AON_SRC, 1)]).rd Fd.LOG_AON_SRC ≠ 0 ∧
    on (logOf (fun l => { l with queue := [] }) []) (fun s => s.log.queue = [] ∧ s.log.exp = none ∧ s.rd Fd.LOG_EXPORT_STAT_BUSY = 0 ∧
      uflMode s = true ∧ s.rd Fd.LOG_EXPORT_CFG_EN = 0 ∧ s.rd Fd.LOG_CFG_AUTO_EXPORT = 0 ∧ masterServed s 0x10 = false ∧ isFabric 2 = false ∧
      s.log.queue.length < 16 ∧
      (s.rd Fd.LOG_NSEQ_NSEQ + 2 ^ 32 - (2 ^ 32 - 4096) % 2 ^ 32) % 2 ^ 32 ≤ 4096 ∧
      4096 < (s.rd Fd.LOG_NSEQ_NSEQ + 2 ^ 32 - (2 ^ 32 - 4097) % 2 ^ 32) % 2 ^ 32) ∧
    on (logOf (fun l => { l with queue := [logReq1] }) []) (fun s => s.log.queue = [logReq1] ∧ s.log.lost = 0 ∧ s.plainMem ∧
      logWaits s = false ∧ s.rd Fd.LOG_NSEQ_NSEQ < 2 ^ 32 - 1 ∧ s.rd Fd.LOG_CFG_STOP_FULL = 0 ∧ logUnread s < 4096) ∧
    on (logOf (fun l => { l with queue := [logReq1] }) (fullLog 0)) (fun s => s.log.queue = [logReq1] ∧ s.plainMem ∧
      s.rd Fd.LOG_CFG_STOP_FULL = 0 ∧ 4096 ≤ logUnread s) ∧
    on (logOf (fun l => { l with queue := [logReq1] }) (fullLog 1)) (fun s => logWaits s = false ∧ s.rd Fd.LOG_CFG_STOP_FULL = 1 ∧ 4096 ≤ logUnread s) ∧
    (engOn sleepLog = true ∧ logWaits sleepLog = true) ∧
    on (ported Md.standby []) (fun s => linked s ∧ masterBusy s 0x10 = false ∧ isFabric 0x10 = true) ∧
    on (logOf (fun l => { l with queue := [] }) [(Fd.LOG_CFG_AUTO_EXPORT, 1), (Fd.LOG_EXPORT_CFG_EN, 1), (Fd.LOG_NSEQ_NSEQ, 256)]) (fun s => s.log.queue = [] ∧
      s.log.exp = none ∧ s.rd Fd.LOG_EXPORT_STAT_BUSY = 0 ∧ s.rd Fd.LOG_EXPORT_CFG_EN = 1 ∧ s.rd Fd.LOG_CFG_AUTO_EXPORT = 1 ∧
      uflMode s = true ∧ 256 ≤ (s.rd Fd.LOG_NSEQ_NSEQ + 2 ^ 32 - s.rd Fd.LOG_EXPORT_STAT_ESEQ) % 2 ^ 32) ∧
    on (logOf (fun l => { l with exp := some ⟨17, 0, true⟩ }) [(Fd.LOG_NSEQ_NSEQ, 17), (Fd.LCS_STATE_STATE, 0)]) (fun s =>
      s.log.exp = some ⟨17, 0, true⟩ ∧ s.rd Fd.LOG_EXPORT_STAT_ESEQ + 17 = 17 ∧ s.rd Fd.LOG_NSEQ_NSEQ = 17 ∧
      s.rd Fd.UFL_CMD_STAT_BUSY = 0 ∧ s.rd Fd.UFL_STAT_STORE_BUSY = 0 ∧ (exportPut (s.rd Fd.LOG_EXPORT_STAT_ESEQ) 16 s).1 = 0) ∧
    on (logOf id [(Fd.LOG_EXPORT_STAT_BUSY, 1)]) (fun s => s.rd Fd.LOG_EXPORT_STAT_BUSY = 1) ∧
    on (dev Md.load []) (fun s => s.rd Fd.LOG_EXPORT_STAT_BUSY = 0 ∧ uflMode s = false) ∧
    on (logOf (fun l => { l with exp := some ⟨16, 0, false⟩ }) [(Fd.UFL_STAT_STORE_BUSY, 1)]) (fun s => s.log.exp = some ⟨16, 0, false⟩ ∧
      s.rd Fd.UFL_STAT_STORE_BUSY = 1) ∧
    on (logOf id [(Fd.LOG_EXPORT_CFG_EN, 1)]) (fun s => uflMode s = true ∧ s.rd Fd.LOG_EXPORT_CFG_EN = 1) ∧
    on (logOf (fun l => { l with exp := some ⟨16, 0, false⟩ }) [(Fd.LOG_NSEQ_NSEQ, 16), (Fd.LOG_EXPORT_STAT_ESEQ, 16), (Fd.LCS_STATE_STATE, 0)]) (fun s =>
      s.log.exp = some ⟨16, 0, false⟩ ∧ s.rd Fd.UFL_CMD_STAT_BUSY = 0 ∧ s.rd Fd.UFL_STAT_STORE_BUSY = 0 ∧ s.rd Fd.LOG_EXPORT_STAT_ESEQ = 16 ∧ s.rd Fd.LOG_NSEQ_NSEQ = 16) ∧
    on (logOf (fun l => { l with exp := some ⟨16, 0, false⟩ }) [(Fd.LOG_NSEQ_NSEQ, 16), (Fd.LCS_STATE_STATE, 0)]) (fun s =>
      s.log.exp = some ⟨16, 0, false⟩ ∧ s.rd Fd.LOG_EXPORT_STAT_ESEQ + 16 = 16 ∧ s.rd Fd.LOG_NSEQ_NSEQ = 16 ∧
      (exportPut (s.rd Fd.LOG_EXPORT_STAT_ESEQ) 16 s).1 = 0) := by
  refine ⟨?_, ?_, ?_, ?_, ?_, ?_, ?_, ?_, ?_, ?_, ?_, ?_, ?_, ?_, ?_, ?_⟩ <;> decide +kernel

/-- STANDBY with the watchdog running since device time 0, its window from a count to 10, and open or not. -/
def guarded (opens win time : Nat) : State :=
  mod (ready [(Fd.SAF_WDG_CFG_EN, 1), (Fd.SAF_WDG_CFG_OPEN, opens), (Fd.SAF_WDG_CFG_CLOSE, 10), (Fd.SAF_WDG_STAT_WINDOW_OPEN, win),
    (Fd.LOG_TIME_TIME, time)]) (fun s => { s with saf := { s.saf with wdgRun := true } })

theorem witness_SafetyInputsActByClass :
    onLive (ready []) (fun s => s.sys.phase = .over ∧ s.rd Fd.SAF_FIRST_VALID = 0 ∧ s.log.queue.length < 16 ∧ safClassOf s 44 = 2 ∧
      s.mode = Md.standby ∧ s.saf.lockUsed = false ∧ s.rd Fd.SAF_LOCK_LOCK = 0 ∧ s.mode ≠ Md.limited ∧ isFabric 0x17 = true ∧
      masterServed s 0x17 = false ∧ isFabric 2 = false ∧ wdgRuns s = false ∧ (true ≠ !safePinsLow s)) ∧
    on (ported Md.standby []) (fun s => linked s ∧ masterBusy s 0x17 = false) ∧
    onLive (running [(Fd.SAF_CLASS_CLASS 1, 0x10)]) (fun s => safClassOf s 18 = 1 ∧ driving s.mode = true) ∧
    onLive (running [(Fd.SAF_CLASS_CLASS 1, 0)]) (fun s => safClassOf s 18 = 0) ∧
    on (dev Md.limited [(Fd.SAF_LOCK_LOCK, 1)]) (fun s => s.rd Fd.SAF_LOCK_LOCK = 1 ∧ s.mode = Md.limited) ∧
    on (dev Md.limited [(Fd.SAF_LIM_CFG_GRACE, 1), (Fd.LOG_TIME_TIME, 250000)]) (fun s => engOn s = true ∧ s.mode = Md.limited ∧
      s.rd Fd.SAF_LIM_CFG_GRACE * 250000 ≤ s.now - s.saf.limitedAt) ∧
    on (dev Md.limited [(Fd.SAF_LIM_CFG_GRACE, 1), (Fd.LOG_TIME_TIME, 249999)]) (fun s => engOn s = true ∧
      s.now - s.saf.limitedAt < s.rd Fd.SAF_LIM_CFG_GRACE * 250000) ∧
    on (mod (ready []) (fun s => { s with pwr := { s.pwr with absent := [6] } })) (fun s => 6 ∈ s.pwr.absent) ∧
    on (ready []) (fun s => 6 ∉ s.pwr.absent) ∧
    on (guarded 5 0 (5 * 25000 - 6000)) (fun s => wdgRuns s = true ∧ s.rdB Fd.SAF_WDG_STAT_NEXT_KEY = false ∧ (0xC3A5 : Nat) ≠ 0x3C5A ∧
        wdgIsOpen s = false ∧ wdgLeast s < s.rd Fd.SAF_WDG_CFG_CLOSE ∧ wdgMost s < s.rd Fd.SAF_WDG_CFG_OPEN ∧ wdgMost s < s.rd Fd.SAF_WDG_CFG_CLOSE) ∧
    on (guarded 5 1 (5 * 25000)) (fun s => wdgRuns s = true ∧ wdgIsOpen s = true ∧ wdgLeast s < s.rd Fd.SAF_WDG_CFG_CLOSE ∧
        s.rd Fd.SAF_WDG_CFG_OPEN ≤ wdgMost s) ∧
    on (guarded 5 0 (9 * 25000)) (fun s => wdgIsOpen s = true ∧ wdgLeast s < s.rd Fd.SAF_WDG_CFG_CLOSE) ∧
    on (guarded 5 0 (11 * 25000)) (fun s => wdgRuns s = true ∧ s.rd Fd.SAF_WDG_CFG_CLOSE ≤ wdgLeast s) ∧
    on (mod (ready []) (fun s => { s with saf := { s.saf with padOff := [0, 1] } })) (fun s => s.saf.padOff.any (fun p => p != 0) = true) ∧
    on (guarded 5 1 (10 * 25000)) (fun s => wdgRuns s = true ∧ engOn s = true ∧ s.rd Fd.SAF_WDG_CFG_CLOSE ≤ wdgMost s) := by
  refine ⟨?_, ?_, ?_, ?_, ?_, ?_, ?_, ?_, ?_, ?_, ?_, ?_, ?_, ?_, ?_⟩ <;> decide +kernel

/-- STANDBY with a slice of the last target at a region. -/
def slicing (x : SliceSt) (n : Nat) (r : List (Fld × Nat)) : State :=
  mod (ready r) (fun s => { s with bst := { s.bst with slice := [(18, x)], count := [(18, n)] } })

/-- Eight saved words of a spare line. -/
def spareEight : SMap MemWord := (List.range 8).map (fun j => (mkey 15 j, 0))

theorem witness_BackgroundSelfTest :
    on (ready [(Fd.BST_TGT_EN_TARGETS, 0)]) (fun s => bstMay 18 s = false ∧ mapGet? s.bst.slice 18 = none ∧ s.bst.slice = []) ∧
    on (ready [(Fd.BST_TGT_EN_TARGETS, 0x7FFFF), (Fd.LCS_STATE_STATE, 0), (Fd.BST_TGT_STAT_POS 15, 511)]) (fun s => bstMay 15 s = true ∧
      mkey 13 32767 ∈ bstMarch s 15 511 ∧ s.rd (Fd.BST_TGT_STAT_POS 15) = 511 ∧ s.bst.slice = [] ∧
      bstLine 15 s = none ∧ bstRight s = true ∧ bstOpen s = true ∧ 18 ∈ bstTargets 18 ∧ 0 ∈ bstTargets 31 ∧
      (s.rd Fd.BST_TGT_EN_TARGETS).testBit 18 ≠ (0 : Nat).testBit 18) ∧
    on (sdram 2 [(Fd.BST_TGT_EN_TARGETS, 0x7FFFF), (Fd.XMC_CTRL_PATROL_EN, 1)]) (fun s => bstMay 17 s = true ∧ bstLine 17 s = some 0) ∧
    on (ready [(Fd.BST_TGT_EN_TARGETS, 0x7FFFF), (Fd.LCS_STATE_STATE, 3)]) (fun s => bstRight s = false ∧ bstOpen s = false ∧
      s.rd Fd.BST_TGT_EN_TARGETS &&& 0x3FFFF % 2 ^ 19 ≠ s.rd Fd.BST_TGT_EN_TARGETS ∧
      s.rd Fd.BST_TGT_EN_TARGETS &&& 0x7FFFF % 2 ^ 19 = s.rd Fd.BST_TGT_EN_TARGETS) ∧
    on (ready [(Fd.BST_TGT_EN_TARGETS, 0x7FFFF), (Fd.LCS_STATE_STATE, 1)]) (fun s => bstRight s = false ∧ bstOpen s = true) ∧
    on (slicing ⟨351, [(5, 1)], true, true, none⟩ 0 []) (fun s =>
      mapGet? s.bst.slice 18 = some ⟨351, [(5, 1)], true, true, none⟩ ∧
      mapWf (⟨351, [(5, 1)], true, true, none⟩ : SliceSt).saved = true ∧ 5 < mkey 16 0 ∧ bstRegions 18 ≤ 351 + 1) ∧
    on (slicing ⟨350, [], true, false, none⟩ 0 []) (fun s => ¬((mapGet 0 s.bst.count 18 + 1) % 256 = 0) ∧ 350 + 1 < bstRegions 18) ∧
    on (mod (slicing ⟨0, [], true, false, none⟩ 0 []) (fun s => { s with sys := { s.sys with selfTest := true } })) (fun s =>
      s.sys.selfTest = true ∧ ¬((mapGet 0 s.bst.count 18 + 1) % 256 = 0)) ∧
    on (slicing ⟨0, [], false, false, none⟩ 255 []) (fun s => (mapGet 0 s.bst.count 18 + 1) % 256 = 0) ∧
    on (slicing ⟨0, spareEight, false, false, none⟩ 0 [(Fd.MEM_HARD_CFG_AUTO_REMAP, 0)]) (fun s =>
      ¬((mapGet 0 s.bst.count 18 + 1) % 256 = 0) ∧ s.rd Fd.MEM_HARD_CFG_AUTO_REMAP = 0 ∧
      bstWords ⟨0, spareEight, false, false, none⟩ = 8) := by
  refine ⟨?_, ?_, ?_, ?_, ?_, ?_, ?_, ?_, ?_, ?_⟩ <;> decide +kernel

/-- One pass of a march over eight words. -/
def marchPass (f : List Stuck) (c : Nat) (l : List Nat) (ones : Bool) : Nat :=
  l.foldl (fun a j => crc32Reg a (toBytes 9 (marchRead f j ones))) c

theorem marchSig_passes (f : List Stuck) (a b c d e : Nat) (h1 : marchPass f 0xFFFFFFFF (List.range 8) false = a)
    (h2 : marchPass f a (List.range 8) true = b) (h3 : marchPass f b (List.range 8).reverse false = c)
    (h4 : marchPass f c (List.range 8).reverse true = d) (h5 : marchPass f d (List.range 8) false = e) :
    marchSig f 8 6 = e ^^^ 0xFFFFFFFF := by
  subst h1 h2 h3 h4 h5
  rfl

/-- A stuck bit changes the signature of eight words. -/
theorem witness_BackgroundSelfTest_signature : marchSig [⟨0, 0, true⟩] 8 6 ≠ marchSig [] 8 6 := by
  rw [marchSig_passes [⟨0, 0, true⟩] 1580603193 3434858285 1546311732 2020881172 3780577686 (by decide +kernel) (by decide +kernel)
      (by decide +kernel) (by decide +kernel) (by decide +kernel),
    marchSig_passes [] 4030547117 3926706960 3050420170 971404894 1748050973 (by decide +kernel) (by decide +kernel)
      (by decide +kernel) (by decide +kernel) (by decide +kernel)]
  decide +kernel

/-- A mode with one-time-programmable words. -/
def otpOf (m : Nat) (o : List (Nat × Nat)) (r : List (Fld × Nat)) : State :=
  mod (dev m r) (fun s => { s with lcs := { s.lcs with otp := o.foldl (fun a e => mapPut a e.1 (BitVec.ofNat 32 e.2)) [] } })

/-- The host may give a command: idle, free, VIN high. -/
abbrev lcsFree (s : State) : Prop :=
  isFabric 2 = false ∧ s.rd Fd.LCS_CMD_STAT_BUSY = 0 ∧ (s.mode = Md.standby ∨ s.mode = Md.safe) ∧ s.pwr.vinLow = false

theorem witness_LifeCycleCommandsAndCertificates :
    on (ported Md.run []) (fun s => linked s ∧ masterBusy s 0x11 = false ∧ isFabric 0x11 = true) ∧
    on (mod (ready []) (fun s => { s with lcs := { s.lcs with cmd := some ⟨3, 0, []⟩ } })) (fun s => s.lcs.cmd = some ⟨3, 0, []⟩ ∧
      ∀ k, k < 5 → otp (otpProgs [] s) (otpCopy k) ≠ 2 ^ 32 - 1) ∧
    on (mod (ready []) (fun s => { s with lcs := { s.lcs with cmd := some ⟨2, 0, [(0, 1)]⟩ } })) (fun s => s.lcs.cmd = some ⟨2, 0, [(0, 1)]⟩) ∧
    on (mod (ready []) (fun s => { s with lcs := { s.lcs with cmd := some ⟨4, 0, [(otpFloor 0, 1)]⟩ } })) (fun s =>
      s.lcs.cmd = some ⟨4, 0, [(otpFloor 0, 1)]⟩) ∧
    on (mod (dev Md.run [(Fd.LCS_STATE_STATE, 1)]) (fun s => { s with lcs := { s.lcs with cmd := some ⟨5, 0, [(otpCtr 0, 1)]⟩ } })) (fun s =>
      s.lcs.cmd = some ⟨5, 0, [(otpCtr 0, 1)]⟩ ∧ lcsState s ≠ 0) ∧
    on (dev Md.run [(Fd.LCS_CMD_STAT_BUSY, 1), (Fd.DBG_STAT_BUSY, 1), (Fd.LCS_STATE_STATE, 2)]) (fun s => masterServed s 0x11 = false ∧ isFabric 2 = false ∧
      s.rd Fd.LCS_CMD_STAT_BUSY = 1 ∧ s.rd Fd.DBG_STAT_BUSY = 1 ∧ certStatus s ≠ 0) ∧
    on (dev Md.run []) (fun s => s.rd Fd.LCS_CMD_STAT_BUSY = 0 ∧ driving s.mode = true ∧ s.pwr.vinLow = false ∧
      ¬((s.mode = Md.standby ∨ s.mode = Md.safe) ∨ false = true ∧ driving s.mode = true) ∧ s.lcs.cmd = none ∧ s.rd Fd.DBG_STAT_BUSY = 0) ∧
    on (mod (ready []) (fun s => { s with pwr := { s.pwr with vinLow := true } })) (fun s => s.rd Fd.LCS_CMD_STAT_BUSY = 0 ∧ s.pwr.vinLow = true) ∧
    on (dev Md.standby [(Fd.LCS_STATE_STATE, 0), (Fd.LCS_ARG_FLOOR, 257), (Fd.CFG_BANK_STAT_LOADED 0, 1)]) (fun s => lcsFree s ∧ lcsState s = 0 ∧
      slotProv s 3 = false ∧ (slotUsable s 1 && loadedUserSigned s) = false ∧ 256 < s.rd Fd.LCS_ARG_FLOOR ∧ otpCtrVal s < 1024) ∧
    on (otpOf Md.safe [(otpSlot 1, codeSlot), (otpFloor 0, 1)] [(Fd.LCS_STATE_STATE, 0), (Fd.CFG_BANK_STAT_LOADED 1, 1), (Fd.CFG_BANK_STAT_SIGNER 1, 1),
        (Fd.LCS_ARG_FLOOR, 1)]) (fun s =>
      lcsFree s ∧ slotProv s 1 = true ∧ (slotUsable s 1 && loadedUserSigned s) = true ∧ s.rd Fd.LCS_ARG_FLOOR ≤ loadedVersion s ∧
      s.rd Fd.LCS_ARG_FLOOR ≤ otpFloorVal s) ∧
    on (otpOf Md.safe ((List.range 32).map (fun k => (otpCtr k, 2 ^ 32 - 1))) [(Fd.LCS_STATE_STATE, 1), (Fd.CFG_BANK_STAT_LOADED 1, 1),
        (Fd.LCS_ARG_FLOOR, 256)]) (fun s => lcsFree s ∧ lcsState s = 1 ∧ s.rd Fd.DBG_RIGHTS_RIGHTS ≠ 0x3F ∧ 1024 ≤ otpCtrVal s ∧
      s.rd Fd.LCS_ARG_FLOOR ≤ 256 ∧ s.rd Fd.LCS_ARG_FLOOR ≤ loadedVersion s ∧ otpFloorVal s < s.rd Fd.LCS_ARG_FLOOR) ∧
    on (dev Md.safe [(Fd.LCS_STATE_STATE, 3), (Fd.LCS_ARG_FLOOR, 1)]) (fun s => lcsFree s ∧ lcsState s = 3 ∧
      loadedVersion s < s.rd Fd.LCS_ARG_FLOOR) ∧
    on (dev Md.safe [(Fd.LCS_STATE_STATE, 1), (Fd.DBG_RIGHTS_RIGHTS, 0x3F)]) (fun s => lcsFree s ∧ s.rd Fd.DBG_RIGHTS_RIGHTS = 0x3F) ∧
    on (mod (dev Md.safe [(Fd.LCS_STATE_STATE, 1), (Fd.DBG_STAT_BUSY, 1), (Fd.DBG_STAT_FAILS, 7)]) (fun s => { s with lcs := { s.lcs with
        cmd := some ⟨1, 3, [(otpSlot 3, codeSlot)]⟩ } })) (fun s => s.lcs.cmd = some ⟨1, 3, [(otpSlot 3, codeSlot)]⟩ ∧
      s.rd Fd.DBG_STAT_BUSY = 1 ∧ certStatus s ≠ 0 ∧ 7 ≤ s.rd Fd.DBG_STAT_FAILS) := by
  refine ⟨?_, ?_, ?_, ?_, ?_, ?_, ?_, ?_, ?_, ?_, ?_, ?_, ?_, ?_⟩ <;> decide +kernel

/-- STANDBY with a test port in a state. -/
def jtagOf (ir : JtagIr) (l : List (Fld × Nat)) : State := mod (ready l) (fun s => { s with jtag := { s.jtag with ir := ir } })

theorem witness_TestPortInstructions :
    (let s := dev Md.run [(Fd.LCS_STATE_STATE, 1)]
     lcsState s = 1 ∧ hasRight 0 s = false ∧ s.rd Fd.DBG_RIGHTS_RIGHTS = 0) ∧
    (let s := dev Md.run [(Fd.LCS_STATE_STATE, 0)]
     lcsState s = 0 ∧ driving s.mode = true ∧ sysOn s = true ∧ jtagAnswers s = true) ∧
    (let s := dev Md.standby [(Fd.LCS_STATE_STATE, 1), (Fd.DBG_RIGHTS_RIGHTS, 1)]
     lcsState s = 1 ∧ hasRight 0 s = true ∧ driving s.mode = false ∧ s.rd Fd.DBG_RIGHTS_RIGHTS ≠ 0) ∧
    sysOn (dev Md.frozen []) = false ∧ jtagAnswers (dev Md.frozen []) = true ∧
    (let s := mod (ready []) (fun s => { s with pwr := { s.pwr with absent := [6] } })
     jtagAnswers s = false) ∧
    on (jtagOf .extest [(Fd.PWR_BANK_STAT_PRESENT, 0xFFFF), (Fd.LCS_STATE_STATE, 1)]) (fun s => s.jtag.ir = .extest ∧
      bankThere s (pinBank 511) = true ∧ 6 ∉ s.pwr.absent ∧ lcsState s = 1 ∧ s.rd Fd.DBG_STAT_BUSY = 0) ∧
    on (jtagOf .clamp [(Fd.LCS_STATE_STATE, 1)]) (fun s => s.jtag.ir = .clamp ∧ lcsState s = 1) ∧
    on (jtagOf .highz [(Fd.LCS_STATE_STATE, 1)]) (fun s => s.jtag.ir = .highz ∧ lcsState s = 1) ∧
    on (jtagOf .samplePreload [(Fd.LCS_STATE_STATE, 1)]) (fun s => s.jtag.ir = .samplePreload ∧ lcsState s = 1) ∧
    on (mod (ready [(Fd.LCS_STATE_STATE, 0)]) (fun s => { s with fab := { s.fab with acc := [⟨0x05FFFFF8, false, 0, 3⟩] } })) (fun s =>
      jtagAnswers s = true ∧ lcsState s = 0 ∧ masterBusy s 0x03 = true) ∧
    on (ready [(Fd.LCS_STATE_STATE, 1), (Fd.DBG_RIGHTS_RIGHTS, 1)]) (fun s => jtagAnswers s = true ∧ lcsState s = 1 ∧
      s.rd Fd.DBG_RIGHTS_RIGHTS ≠ 0 ∧ masterBusy s 0x03 = false) ∧
    (lcsState (dev Md.frozen [(Fd.LCS_STATE_STATE, 1)]) = 1 ∧ hasRight 2 (dev Md.frozen [(Fd.LCS_STATE_STATE, 1)]) = false) ∧
    on (ready [(Fd.LCS_STATE_STATE, 3)]) (fun s => lcsState s = 3 ∧ jtagAnswers s = true ∧ s.mode ≠ Md.frozen) := by
  refine ⟨?_, ?_, ?_, ?_, ?_, ?_, ?_, ?_, ?_, ?_, ?_, ?_, ?_, ?_⟩ <;> decide +kernel


/-! ### Results taken from the spec -/

/-- 07_scribes.md Table 7.4: the worked word 0x30A6_3B08 is MULQ g5, g6, g7 with SH 12, RNE, S; 5 × 2,048 / 4,096 = 2.5 gives 2. -/
theorem test_mulq_word : (runWord 3 0x30A63B08 (gWrite 3 6 5 (gWrite 3 7 2048 (ready [])))).map (fun t => gRead t 3 5) = some 2 := by
  decide +kernel

/-- Table 7.4: with RNA, 0x30A6_3B18, the tie gives 3; −2.5 gives −3. -/
theorem test_mulq_rna : (runWord 3 0x30A63B18 (gWrite 3 6 5 (gWrite 3 7 2048 (ready [])))).map (fun t => gRead t 3 5) = some 3 ∧
    (runWord 3 0x30A63B18 (gWrite 3 6 (2 ^ 32 - 5) (gWrite 3 7 2048 (ready [])))).map (fun t => gRead t 3 5) = some (2 ^ 32 - 3) := by
  decide +kernel

/-- Table 7.4: 2^48 saturates and sets SAT. -/
theorem test_mulq_sat : (runWord 3 0x30A63B08 (gWrite 3 6 0x40000000 (gWrite 3 7 0x40000000 (ready [])))).map
    (fun t => (gRead t 3 5, t.rd (Fd.SCR_PSTAT_SAT 3), t.rd (Fd.SCR_PSTAT_OVF 3))) = some (0x7FFFFFFF, 1, 0) := by decide +kernel

/-- 02_numbers.md, "Lead on the reference machine, with a tie" and "Lead saturation". -/
theorem test_lead : leadOf 6400000 87961 (-3200) = (137435862, false) ∧ leadOf 6400000 1374390 0 = (2147483647, true) := by decide +kernel

/-- 02_numbers.md Table 2.5: differences across the wrap, and which of them pass the angle window (R33). -/
theorem test_window : diffS 32 0x00001000 0xFFFFF000 = 8192 ∧ diffS 32 0x7EFFF000 0xFFFFF000 = 2130706432 ∧
    inWindow (diffS 32 0x7EFFF000 0xFFFFF000) = true ∧ inWindow (diffS 32 0x7F000000 0xFFFFF000) = false ∧
    diffS 32 0x7FFFF000 0xFFFFF000 = -2147483648 := by decide +kernel

/-- 02_numbers.md, "Bridging a sleep in S3": 10 s, and three counts. -/
theorem test_bridge : aonTicks 327680 = 2500000000 ∧ aonTicks 3 = 22888 := by decide +kernel

/-- 03_angle_front_end.md, one update on the reference machine: S of a CPR of 40,000. -/
theorem test_scale : scaleOf 40000 = 461168601842739 := by decide +kernel

/-- 05_run_ahead.md, one event from wheel to pin: τ of the event is 281,249 + 6/16 ticks. -/
theorem test_tau : tauOf false false 96636628 (87961 * 2 ^ 24) 0 = some (281249 * 16 + 6) := by decide +kernel

/-- 05_run_ahead.md, learning a slower solenoid: the held delay moves a sixteenth of the way, and 8 LSB are in the dead band. -/
theorem test_learn :
    (echoApply ⟨0, 0, 6480000, 9, 0, false, true⟩ (ready [(Fd.NIB_LC_DELAY_DELAY 9, 6400000), (Fd.NIB_LC_LEARN_K 9, 4),
      (Fd.NIB_LC_LEARN_ECHO_WIN 9, 320000), (Fd.NIB_LC_STAT_SEEDED 9, 1)])).rd (Fd.NIB_LC_DELAY_DELAY 9) = 6405000 := by decide +kernel

/-- The reference machine of 04_event_queues.md Table 4.11: RUN at engine angle 0x0340_0000, queue 0x0120 created by the example's words. -/
def loom (p st : Nat) : State :=
  (withQueue 0x120 ⟨12288, 12, p, st, 0, 0, 1, 1, 0, 5, 1, 8, 15, 0⟩ [(12288, ⟨0x03480000, 0x001802BC, 0, 0⟩), (12289, ⟨0x03500000, 0x001902BC, 0, 0⟩)]
    (running [(Fd.AFE_CH_STAT_VALID 0, 1), (Fd.CHN_DCFG_BOUND 0, 0), (Fd.CHN_SCFG2_LEN8 0, 32)])).updAch 0
    (fun c => { c with p := 0x0340000000, pubP := 0x0340000000 })

/-- Status and STAGED a push through port 8 leaves in QUE_PUSH_STAT. -/
def pushed (o : Host.Outcome State Fault Refusal) : Option (Nat × Nat) :=
  match o with
  | .next t => some (t.rd (Fd.QUE_PUSH_STAT_STATUS 0), t.rd (Fd.QUE_PUSH_STAT_STAGED 0))
  | _ => none

/-- Table 4.11: A and B pass, C is behind B, D is a pulse of width 0. -/
theorem test_push_a : pushed (exec (.push (.port 8 0x120 0x03480000 0x001802BC 0 0)) (loom 0 0)) = some (0, 1) := by decide +kernel
theorem test_push_b : pushed (exec (.push (.port 8 0x120 0x03500000 0x001902BC 0 0)) (loom 0 1)) = some (0, 2) := by decide +kernel
theorem test_push_c : pushed (exec (.push (.port 8 0x120 0x034C0000 0x001802BD 0 0)) (loom 0 2)) = some (4, 2) := by decide +kernel
theorem test_push_d : pushed (exec (.push (.port 8 0x120 0x03540000 0x001A02BD 0 0)) (loom 0 2)) = some (9, 2) := by decide +kernel

/-- QUE_INIT_CFG0 = 0x0C00_3000 and QUE_INIT_CFG1 = 0x0F08_4504 spell the descriptor of the example. -/
theorem test_init_words :
    (match exec (.registerWrite 0x06010008 4 0x0C003000 1) (ready []) with
      | .next t => some (t.rd Fd.QUE_INIT_CFG0_BASE, t.rd Fd.QUE_INIT_CFG0_LOG2LEN)
      | _ => none) = some (12288, 12) := by decide +kernel

/-- 16_lifecycle_debug.md Table 16.8: IDCODE. -/
theorem test_idcode : (match exec .jtagIdcode State.reset with | .next t => t.jtag.shiftOut | _ => 0) = 0x10396B63 := by decide +kernel

/-- CRC-16 of 12_dictionary_network.md and CRC-32 (IEEE 802.3) of the nine digits, the check values of those codes. -/
theorem test_crc : crc16 [0x31, 0x32, 0x33, 0x34, 0x35, 0x36, 0x37, 0x38, 0x39] = 0x29B1 ∧
    crc32 [0x31, 0x32, 0x33, 0x34, 0x35, 0x36, 0x37, 0x38, 0x39] = 0xCBF43926 := by decide +kernel

/-- A step takes the command in front and leaves the rest. -/
theorem test_queue_order : (match step { ready [] with pending := [.jtagIdcode, .qualAck] } with
    | .next t => (t.pending, t.jtag.shiftOut)
    | _ => ([], 0)) = ([.qualAck], 0x10396B63) := by decide +kernel


end Sys2Proof.Tests
end

/-! The access codes of registers over the system bus (R7, Table 0.4) and the capture of a bus error (R16). -/

namespace Sys2Proof.Machine

open Sys2Proof

/-! ### A command that a master sends over the system bus -/

/-- What a served master sends is carried out. -/
theorem busRun_of_served (master : Nat) (f : State → State) (s : State) (h : sysOn s = true) (hm : masterServed s master = true) :
    busRun master f s = .next (finish (f s)) := by
  rw [busRun, sysRun_of_sysOn _ s h, if_pos hm]

/-- A fabric master port without its clock, or with an access outstanding, sends nothing (R189). -/
theorem busRun_of_unserved (master : Nat) (f : State → State) (s : State) (h : sysOn s = true) (hm : masterServed s master = false) :
    busRun master f s = .next (finish s) := by
  rw [busRun, sysRun_of_sysOn _ s h, if_neg (by simp [hm])]

theorem exec_registerWrite_of_served (a size v master : Nat) (s : State) (h : sysOn s = true) (hm : masterServed s master = true) :
    exec (.registerWrite a size v master) s = .next (finish (busWrite a size v master s).2) :=
  busRun_of_served master (fun t => (busWrite a size v master t).2) s h hm

theorem exec_registerWrite_of_unserved (a size v master : Nat) (s : State) (h : sysOn s = true) (hm : masterServed s master = false) :
    exec (.registerWrite a size v master) s = .next (finish s) :=
  busRun_of_unserved master (fun t => (busWrite a size v master t).2) s h hm

theorem exec_rcFieldRead_of_served (a size master : Nat) (s : State) (h : sysOn s = true) (hm : masterServed s master = true) :
    exec (.rcFieldRead a size master) s = .next (finish (busRead a size master s).2) :=
  busRun_of_served master (fun t => (busRead a size master t).2) s h hm

theorem exec_rcFieldRead_of_unserved (a size master : Nat) (s : State) (h : sysOn s = true) (hm : masterServed s master = false) :
    exec (.rcFieldRead a size master) s = .next (finish s) :=
  busRun_of_unserved master (fun t => (busRead a size master t).2) s h hm

/-! ### Updates of listed register fields -/

theorem RegsOnly.refl (s : State) : RegsOnly [] s s := ⟨rfl, fun _ _ => rfl⟩

theorem RegsOnly.wr (s : State) (f : Fld) (v : Nat) : RegsOnly [f] s (s.wr f v) :=
  ⟨rfl, fun g hg => State.rd_wr_ne s f g v (by simpa using hg)⟩

theorem RegsOnly.trans {l m : List Fld} {s t u : State} (h : RegsOnly l s t) (g : RegsOnly m t u) : RegsOnly (l ++ m) s u := by
  obtain ⟨h1, h2⟩ := h
  obtain ⟨g1, g2⟩ := g
  refine ⟨?_, fun f hf => ?_⟩
  · have e := congrArg (fun x : State => { x with regs := s.regs }) g1
    exact e.trans h1
  · simp only [List.map_append, List.mem_append, not_or] at hf
    rw [g2 f hf.2, h2 f hf.1]

theorem RegsOnly.mono {l m : List Fld} {s t : State} (h : RegsOnly l s t) (hm : l ⊆ m) : RegsOnly m s t :=
  ⟨h.1, fun f hf => h.2 f (fun hc => hf (List.map_subset _ hm hc))⟩

theorem RegsOnly.mem_eq {l : List Fld} {s t : State} (h : RegsOnly l s t) : t.mem = s.mem := by
  have e := congrArg State.mem h.1
  exact e

/-- Registers and the record of a read are all that differ after an update of registers alone, whether the record is made before it or
after it. -/
theorem RegsOnly.frame_of_ret {l : List Fld} {s t : State} {v : Nat} (h : RegsOnly l (s.ret v) t) :
    { t with regs := s.regs, sys := s.sys } = s :=
  congrArg (fun x : State => { x with sys := s.sys }) h.1

theorem RegsOnly.frame_ret {l : List Fld} {s t : State} (h : RegsOnly l s t) (v : Nat) :
    { t.ret v with regs := s.regs, sys := s.sys } = s :=
  congrArg (fun x : State => { x with sys := s.sys }) h.1

section Fold

variable {α : Type} (k : α → Fld) (g : State → α → State) (hg : ∀ t a, RegsOnly [k a] t (g t a))
include hg

/-- A list of updates of one field each leaves everything but those fields. -/
theorem regsOnly_foldl (l : List α) (s : State) : RegsOnly (l.map k) s (l.foldl g s) := by
  induction l generalizing s with
  | nil => exact RegsOnly.refl s
  | cons a l ih => exact (hg s a).trans (ih (g s a))

/-- Where the fields of the updates are distinct, each field is what its own update makes of it. -/
theorem foldl_rd_of_mem (φ : Nat → Nat) (a : α) (hφ : ∀ t, (g t a).rd (k a) = φ (t.rd (k a))) (l : List α)
    (hd : ((l.map k).map Fld.key).Nodup) (ha : a ∈ l) (s : State) : (l.foldl g s).rd (k a) = φ (s.rd (k a)) := by
  induction l generalizing s with
  | nil => simp at ha
  | cons b l ih =>
    simp only [List.map_cons, List.nodup_cons] at hd
    obtain ⟨hb, hd⟩ := hd
    rw [List.foldl_cons]
    rcases List.mem_cons.1 ha with rfl | ha
    · rw [(regsOnly_foldl k g hg l _).2 _ hb, hφ]
    · have hne : (k a).key ∉ [k b].map Fld.key := by
        intro h
        simp only [List.map_cons, List.map_nil, List.mem_singleton] at h
        exact hb (h ▸ List.mem_map_of_mem (List.mem_map_of_mem ha))
      rw [ih hd ha, (hg s b).2 _ hne]

end Fold

/-! ### The access codes of a register's fields (R7) -/

/-- The fields of the register of a hit. -/
def Hit.flds (h : Hit) : List Fld := h.row.fields.map (fun f => f.fld h.addr)

/-- The plain effect of a write on one field of a register. -/
def fieldWrite (h : Hit) (v : Nat) (t : State) (f : FieldRow) : State :=
  match f.acc with
  | .rw => t.wr (f.fld h.addr) (v / 2 ^ f.lo)
  | .w1c => t.w1c (f.fld h.addr) (v / 2 ^ f.lo % 2 ^ f.w)
  | _ => t

theorem fieldsWrite_eq_foldl (h : Hit) (v : Nat) (s : State) : fieldsWrite h v s = h.row.fields.foldl (fieldWrite h v) s := by
  unfold fieldsWrite
  congr 1
  funext t f
  unfold fieldWrite
  cases f.acc <;> rfl

theorem fieldWrite_regsOnly (h : Hit) (v : Nat) (t : State) (f : FieldRow) : RegsOnly [f.fld h.addr] t (fieldWrite h v t f) := by
  unfold fieldWrite
  split
  · exact RegsOnly.wr t _ _
  · exact RegsOnly.wr t _ _
  · exact (RegsOnly.refl t).mono (List.nil_subset _)

/-- A plain write changes fields of its register only. -/
theorem fieldsWrite_regsOnly (h : Hit) (v : Nat) (s : State) : RegsOnly h.flds s (fieldsWrite h v s) := by
  rw [fieldsWrite_eq_foldl]
  exact regsOnly_foldl _ _ (fieldWrite_regsOnly h v) _ s

/-- A plain write sets an rw field. -/
theorem fieldsWrite_rd_rw (h : Hit) (v : Nat) (s : State) (f : FieldRow) (hd : (h.flds.map Fld.key).Nodup) (hf : f ∈ h.row.fields)
    (ha : f.acc = .rw) : (fieldsWrite h v s).rd (f.fld h.addr) = v / 2 ^ f.lo % 2 ^ f.w := by
  rw [fieldsWrite_eq_foldl]
  exact foldl_rd_of_mem _ _ (fieldWrite_regsOnly h v) (fun _ => v / 2 ^ f.lo % 2 ^ f.w) f
    (fun t => by simp [fieldWrite, ha, FieldRow.fld]) _ hd hf s

/-- A plain write clears the bits written 1 of a w1c field. -/
theorem fieldsWrite_rd_w1c (h : Hit) (v : Nat) (s : State) (f : FieldRow) (hd : (h.flds.map Fld.key).Nodup) (hf : f ∈ h.row.fields)
    (ha : f.acc = .w1c) : (fieldsWrite h v s).rd (f.fld h.addr) =
      (s.rd (f.fld h.addr) ^^^ (s.rd (f.fld h.addr) &&& (v / 2 ^ f.lo % 2 ^ f.w))) % 2 ^ f.w := by
  rw [fieldsWrite_eq_foldl]
  exact foldl_rd_of_mem _ _ (fieldWrite_regsOnly h v) (fun x => (x ^^^ (x &&& (v / 2 ^ f.lo % 2 ^ f.w))) % 2 ^ f.w) f
    (fun t => by simp [fieldWrite, ha, State.w1c, FieldRow.fld]) _ hd hf s

/-- The effect of a read of the bits of a mask on one field of a register. -/
def fieldClear (h : Hit) (mask : Nat) (t : State) (f : FieldRow) : State :=
  if f.acc = .rc ∧ f.mask &&& mask ≠ 0 then t.clr (f.fld h.addr) else t

/-- The register of a hit has no read action but that of its rc fields. -/
def Hit.clearsOnly (h : Hit) : Prop := h.addr ≠ Fd.QUE_HALT_LOG_QUEUE.addr ∧ h.addr ≠ Fd.NIB_HWM_IN_USE_MAX.addr

theorem regClears_eq_foldl (h : Hit) (mask : Nat) (s : State) (hc : h.clearsOnly) :
    regClears h mask s = h.row.fields.foldl (fieldClear h mask) s := by
  rw [regClears, if_neg hc.1, if_neg hc.2]
  rfl

theorem fieldClear_regsOnly (h : Hit) (mask : Nat) (t : State) (f : FieldRow) : RegsOnly [f.fld h.addr] t (fieldClear h mask t f) := by
  unfold fieldClear
  split
  · exact RegsOnly.wr t _ _
  · exact (RegsOnly.refl t).mono (List.nil_subset _)

/-- A read changes fields of its register only. -/
theorem regClears_regsOnly (h : Hit) (mask : Nat) (s : State) (hc : h.clearsOnly) : RegsOnly h.flds s (regClears h mask s) := by
  rw [regClears_eq_foldl h mask s hc]
  exact regsOnly_foldl _ _ (fieldClear_regsOnly h mask) _ s

/-- A read clears the rc fields it touches, and leaves the others. -/
theorem regClears_rd (h : Hit) (mask : Nat) (s : State) (f : FieldRow) (hc : h.clearsOnly) (hd : (h.flds.map Fld.key).Nodup)
    (hf : f ∈ h.row.fields) : (regClears h mask s).rd (f.fld h.addr) =
      if f.acc = .rc ∧ f.mask &&& mask ≠ 0 then 0 else s.rd (f.fld h.addr) := by
  rw [regClears_eq_foldl h mask s hc]
  refine foldl_rd_of_mem _ _ (fieldClear_regsOnly h mask) (fun x => if f.acc = .rc ∧ f.mask &&& mask ≠ 0 then 0 else x) f
    (fun t => ?_) _ hd hf s
  unfold fieldClear
  split
  · exact (State.rd_wr t _ 0).trans (Nat.zero_mod _)
  · rfl

/-- The word of a register without wo fields is the sum of its fields at their places. -/
theorem rawWord_eq_sum (h : Hit) (s : State) (hw : ∀ f, f ∈ h.row.fields → f.acc ≠ .wo) :
    rawWord h s = (h.flds.map (fun f => s.rd f * 2 ^ f.lo)).sum := by
  rw [rawWord, Hit.flds, List.map_map, List.sum_eq_foldl, List.foldl_map]
  refine List.foldl_ext _ _ _ (fun a f hf => ?_)
  rw [if_neg (hw f hf)]
  rfl

/-- What a write of the low `k` bits makes of an rw field of `w` bits: those bits of `v`, and above them the bits it held. -/
theorem merged_low_bits (v c k w : Nat) (hk : k ≤ w) :
    (v % 2 ^ w &&& (2 ^ k - 1) ||| (c ^^^ (c &&& (2 ^ k - 1)))) % 2 ^ w = v % 2 ^ k + c / 2 ^ k % 2 ^ (w - k) * 2 ^ k := by
  rw [Nat.mul_comm, Nat.add_comm, Nat.two_pow_add_eq_or_of_lt (Nat.mod_lt _ (by positivity))]
  apply Nat.eq_of_testBit_eq
  intro i
  simp only [Nat.testBit_mod_two_pow, Nat.testBit_or, Nat.testBit_and, Nat.testBit_xor, Nat.testBit_two_pow_sub_one,
    Nat.testBit_two_pow_mul, Nat.testBit_div_two_pow]
  rcases Nat.lt_or_ge i k with h | h
  · have : i < w := by omega
    have : ¬ k ≤ i := by omega
    simp [*]
  · have e : k + (i - k) = i := by omega
    have e' : i - k + k = i := by omega
    have : ¬ i < k := by omega
    have : i - k < w - k ↔ i < w := by omega
    simp [*]

/-! ### Accesses to the register range -/

/-- An access of a register's width, or a 4-byte access, at its address finds no fault while the rails are on. -/
theorem regFault_of_regFind (a size : Nat) (s : State) (h : Hit) (hr : railsOff s = false) (hf : regFind (a / 4 * 4) = some h)
    (hw : h.row.width / 8 ≠ 0) (hal : a % size = 0) (hs : size = 4 ∨ size = 8 ∧ h.row.width / 8 = 8) : regFault a size s = 0 := by
  have ho : railOff (a / 0x10000) s = false := by simp [railOff, hr]
  unfold regFault
  simp only [hf, ho]
  rw [if_neg hw, if_neg (by omega), if_neg]
  · rfl
  · rcases hs with rfl | ⟨rfl, h8⟩ <;> simp [*]

theorem regFindIn_append (l m : List RegRow) (a : Nat) : regFindIn (l ++ m) a = (regFindIn l a).or (regFindIn m a) := by
  induction l with
  | nil => rfl
  | cons r l ih =>
    simp only [List.cons_append, regFindIn]
    split
    · exact ih
    · split
      · rfl
      · exact ih

theorem regFindIn_append_of_isNone (l m : List RegRow) (a : Nat) (h : (regFindIn l a).isNone = true) :
    regFindIn (l ++ m) a = regFindIn m a := by
  rw [regFindIn_append, Option.isNone_iff_eq_none.1 h, Option.none_or]

theorem regFindIn_append_left (l m : List RegRow) (a : Nat) (h : Hit) (hl : regFindIn l a = some h) :
    regFindIn (l ++ m) a = some h := by
  rw [regFindIn_append, hl, Option.some_or]

theorem regionOf_regs (a : Nat) (h1 : 0x06000000 ≤ a) (h2 : a < 0x06130000) : regionOf a = .regs := by
  unfold regionOf
  repeat rw [if_neg (by omega)]
  rw [if_pos h2]

theorem regionOf_reserved (a : Nat) (h1 : 0x06130000 ≤ a) (h2 : a < 0x08000000) : regionOf a = .reserved := by
  unfold regionOf
  repeat rw [if_neg (by omega)]
  rw [if_pos h2]

theorem mapFault_regs (a size master : Nat) (s : State) (hr : regionOf a = .regs) : mapFault a size master s = 0 := by
  simp [mapFault, hr]

/-- A write that finds its register, and no fault, is the write of that register. -/
theorem busWrite_of_regFind (a size d master : Nat) (s : State) (h : Hit) (hr : regionOf a = .regs) (hc : regFault a size s = 0)
    (hf : regFind (a / 4 * 4) = some h) :
    (busWrite a size d master s).2 =
      (regWrite h (if h.row.width = 64 ∧ a % 8 = 4 then d * 2 ^ 32 else d) (hitMask h a size) master (s.ret 0)).2 := by
  simp [busWrite, mapFault_regs a size master s hr, hr, regBusWrite, hc, hf]

/-- A read at the address of a register, with no fault and no right missing, is the read of that register. -/
theorem busRead_of_regFind (a size master : Nat) (s : State) (h : Hit) (hr : regionOf a = .regs) (hc : regFault a size s = 0)
    (hf : regFind (a / 4 * 4) = some h) (ha : a % 8 ≠ 4) (hd : regDenied false a 0 master s = false) :
    (busRead a size master s).2 =
      (regRead h (hitMask h a size) master s).2.ret
        (if size = 4 then (regRead h (hitMask h a size) master s).1 % 2 ^ 32 else (regRead h (hitMask h a size) master s).1) := by
  simp [busRead, mapFault_regs a size master s hr, hr, regBusRead, hc, hf, ha, hd]

/-! ### SYS_RESET_CAUSE, XMC_FILL_PAT and SAF_CNT -/

/-- SYS_RESET_CAUSE: eight w1c bits. -/
def causeHit : Hit := ⟨⟨0x06120008, 32, [], (List.range 8).map (fun i => ⟨i, 1, .w1c, .hw, fun _ => 0⟩)⟩, 0x06120008, []⟩

/-- XMC_FILL_PAT: one rw field of 64 bits. -/
def fillPatHit : Hit := ⟨⟨0x06070020, 64, [], [⟨0, 64, .rw, .hw, fun _ => 0⟩]⟩, 0x06070020, []⟩

/-- SAF_CNT: four rc counts of 16 bits. -/
def safCntHit : Hit :=
  ⟨⟨0x060C0080, 64, [], [0, 16, 32, 48].map (fun i => ⟨i, 16, .rc, .hw, fun _ => 0⟩)⟩, 0x060C0080, []⟩

theorem regFind_cause : regFind 0x06120008 = some causeHit := by rfl

theorem regFind_fillPat : regFind 0x06070020 = some fillPatHit := by
  unfold regFind regTable
  iterate 16 refine regFindIn_append_left _ _ _ _ ?_
  rw [regFindIn_append_of_isNone _ _ _ (by decide +kernel)]
  rfl

theorem regFind_safCnt : regFind 0x060C0080 = some safCntHit := by
  unfold regFind regTable
  iterate 4 refine regFindIn_append_left _ _ _ _ ?_
  rw [regFindIn_append_of_isNone _ _ _ (by decide +kernel)]
  rfl

theorem regWrite_cause (v mask master : Nat) (s : State) :
    (regWrite causeHit v mask master s).2 = fieldsWrite causeHit (merged causeHit v mask s) s := rfl

theorem regWrite_fillPat (v mask master : Nat) (s : State) :
    (regWrite fillPatHit v mask master s).2 = fieldsWrite fillPatHit (merged fillPatHit v mask s) s := rfl

theorem regCapture_safCnt (mask : Nat) (s : State) : regCapture safCntHit mask s = s := by
  unfold regCapture
  split
  · rfl
  · rfl

theorem regRead_safCnt (mask master : Nat) (s : State) :
    regRead safCntHit mask master s = (rawWord safCntHit s, regClears safCntHit mask s) := by
  have e : regRead safCntHit mask master s =
      (regValue safCntHit master (regCapture safCntHit mask s), regClears safCntHit mask (regCapture safCntHit mask s)) := rfl
  rw [e, regCapture_safCnt]
  rfl

theorem flds_safCnt : safCntHit.flds = [Fd.SAF_CNT_SAFE, Fd.SAF_CNT_LIMITED, Fd.SAF_CNT_REPORT, Fd.SAF_CNT_WDG] := rfl

theorem rawWord_safCnt (s : State) : rawWord safCntHit s = s.rd Fd.SAF_CNT_SAFE + s.rd Fd.SAF_CNT_LIMITED * 2 ^ 16 +
    s.rd Fd.SAF_CNT_REPORT * 2 ^ 32 + s.rd Fd.SAF_CNT_WDG * 2 ^ 48 := by
  have h0 : Fd.SAF_CNT_SAFE.lo = 0 := rfl
  have h1 : Fd.SAF_CNT_LIMITED.lo = 16 := rfl
  have h2 : Fd.SAF_CNT_REPORT.lo = 32 := rfl
  have h3 : Fd.SAF_CNT_WDG.lo = 48 := rfl
  have hs : ∀ a b c d : Nat, [a, b, c, d].sum = a + b + c + d := by simp [Nat.add_assoc]
  rw [rawWord_eq_sum _ s (by decide), flds_safCnt, List.map_cons, List.map_cons, List.map_cons, List.map_cons, List.map_nil, hs,
    h0, h1, h2, h3, pow_zero, Nat.mul_one]

theorem clearsOnly_safCnt : safCntHit.clearsOnly := by
  unfold Hit.clearsOnly
  decide

/-- The low bits of a number, one by one, spell it. -/
theorem foldl_bits (n v : Nat) : (List.range n).foldl (fun a i => a + 2 ^ i * (v / 2 ^ i % 2)) 0 = v % 2 ^ n := by
  induction n with
  | zero => simp [Nat.mod_one]
  | succ n ih => rw [List.range_succ, List.foldl_append, ih, Nat.mod_pow_succ]; rfl

/-- A write to SYS_RESET_CAUSE offers its low byte. -/
theorem merged_cause (v : Nat) (s : State) : merged causeHit v (2 ^ 32 - 1) s = v % 2 ^ 8 := by
  have hm : ∀ i, i ∈ List.range 8 → (2 ^ 32 - 1) / 2 ^ i % 2 = 1 := by decide
  rw [← foldl_bits, merged, causeHit, List.foldl_map]
  refine List.foldl_ext _ _ _ (fun a i hi => ?_)
  simp only [Nat.pow_one, hm i hi, Nat.and_one_is_mod, Nat.mod_mod]

/-- A write of the low `k` bits offers XMC_FILL_PAT those bits, and above them what it holds. -/
theorem merged_fillPat (v k : Nat) (hk : k ≤ 64) (s : State) : merged fillPatHit v (2 ^ k - 1) s % 2 ^ 64 =
    v % 2 ^ k + s.rd Fd.XMC_FILL_PAT_PAT / 2 ^ k % 2 ^ (64 - k) * 2 ^ k := by
  have hm : (2 ^ k - 1) % 2 ^ 64 = 2 ^ k - 1 := Nat.mod_eq_of_lt (by have := Nat.pow_le_pow_right (n := 2) (by decide) hk; omega)
  have e : merged fillPatHit v (2 ^ k - 1) s = 0 + 2 ^ 0 * (v / 2 ^ 0 % 2 ^ 64 &&& (2 ^ k - 1) / 2 ^ 0 % 2 ^ 64 |||
      (s.rd Fd.XMC_FILL_PAT_PAT ^^^ (s.rd Fd.XMC_FILL_PAT_PAT &&& (2 ^ k - 1) / 2 ^ 0 % 2 ^ 64))) := rfl
  rw [e, Nat.pow_zero, Nat.div_one, Nat.div_one, hm, Nat.one_mul, Nat.zero_add]
  exact merged_low_bits v _ k 64 hk

/-! ### A source event leaves the registers of other blocks -/

/-- No source event writes a field: it is neither in the moderation or refire count of a target nor in the wake record. -/
def OffIrq (f : Fld) : Prop :=
  (∀ t, t < 8 → f.key ≠ (Fd.IRQ_TGT_STAT_RELEASED t).key ∧ f.key ≠ (Fd.IRQ_TGT_STAT_TIMER_RUN t).key) ∧
  (∀ t, f.key ≠ (Fd.IRQ_TGT_CNT_REFIRES t).key) ∧
  f.key ≠ Fd.PWR_WAKE_SRC_LATCHED.key ∧ f.key ≠ Fd.PWR_WAKE_SRC_FIRST.key ∧ f.key ≠ Fd.PWR_WAKE_SRC_IRQ_SRC.key

theorem irqTimerStart_rd (s : State) (t : Nat) (f : Fld) (h : f.key ≠ (Fd.IRQ_TGT_STAT_TIMER_RUN t).key) :
    (irqTimerStart s t).rd f = s.rd f := State.rd_wr_ne s _ f 1 h

theorem irqModStep_rd (s : State) (t m0 m1 : Nat) (f : Fld) (hr : f.key ≠ (Fd.IRQ_TGT_STAT_RELEASED t).key)
    (ht : f.key ≠ (Fd.IRQ_TGT_STAT_TIMER_RUN t).key) : (irqModStep s t m0 m1).rd f = s.rd f := by
  have hs := irqTimerStart_rd s t f ht
  unfold irqModStep
  split
  · rw [State.clr, State.rd_wr_ne _ _ _ _ ht]
    split
    · rfl
    · exact State.rd_wr_ne _ _ _ _ hr
  · dsimp only
    split
    · rw [State.clr, State.rd_wr_ne _ _ _ _ ht, State.set1, State.rd_wr_ne _ _ _ _ hr]
      split
      · exact hs
      · rfl
    · split
      · exact hs
      · rfl

theorem irqSetSrc_rd (s : State) (src : SMap IrqSrc) (f : Fld) (h : OffIrq f) : (irqSetSrc s src).rd f = s.rd f := by
  unfold irqSetSrc
  refine List.foldlRecOn (motive := fun u : State => u.rd f = s.rd f) _ _ rfl (fun u hu t ht => ?_)
  obtain ⟨hr, hn⟩ := h.1 t (List.mem_range.1 ht)
  dsimp only
  split
  · exact hu
  · rw [irqModStep_rd _ _ _ _ _ hr hn, hu]

theorem wakeLatch_rd (s : State) (k b c : Nat) (f : Fld) (h : OffIrq f) : (wakeLatch s k b c).rd f = s.rd f := by
  obtain ⟨-, -, hl, hf, hi⟩ := h
  have h1 : ∀ (p : Bool) (v w : Nat), (if p then s.wr Fd.PWR_WAKE_SRC_LATCHED v else s.wr Fd.PWR_WAKE_SRC_LATCHED w).rd f = s.rd f := by
    intro p v w
    split <;> exact State.rd_wr_ne _ _ _ _ hl
  have h2 : ∀ (u : State) (p : Prop) [Decidable p] (g : Fld) (v : Nat), f.key ≠ g.key →
      (if p then u.wr g v else u).rd f = u.rd f := by
    intro u p _ g v hg
    split
    · exact State.rd_wr_ne _ _ _ _ hg
    · rfl
  unfold wakeLatch
  simp only [State.rd_upd_pwr, State.orF, h2 _ _ _ _ hi, h2 _ _ _ _ hf, h1]

theorem irqWake_rd (s : State) (i : Nat) (f : Fld) (h : OffIrq f) : (irqWake s i).rd f = s.rd f := by
  have hw := wakeLatch_rd s 7 Blk.irq i f h
  unfold irqWake
  (repeat' split) <;> simp only [hw]

/-- A source event leaves every field outside the interrupt block's moderation and the wake record. -/
theorem irqEvent_rd (i : Nat) (s : State) (f : Fld) (h : OffIrq f) : (irqEvent i s).rd f = s.rd f := by
  unfold irqEvent
  split
  · split
    · rfl
    · rw [irqWake_rd _ _ _ h, irqSetSrc_rd _ _ _ h]
  · rfl
  · split
    · rfl
    · rw [irqWake_rd _ _ _ h, State.incSat, State.rd_wr_ne _ _ _ _ (h.2.1 _), irqSetSrc_rd _ _ _ h]
  · rfl

/-! ### The capture of a bus error (R16) -/

theorem offIrq_of_sysBlock (f : Fld) (h : 0x06120000 * 64 ≤ f.key) (hl : f.key % 64 ≠ 40) : OffIrq f := by
  simp only [OffIrq, Fd.IRQ_TGT_STAT_RELEASED, Fd.IRQ_TGT_STAT_TIMER_RUN, Fd.IRQ_TGT_CNT_REFIRES, Fd.PWR_WAKE_SRC_LATCHED,
    Fd.PWR_WAKE_SRC_FIRST, Fd.PWR_WAKE_SRC_IRQ_SRC]
  simp only [Fld.key] at h hl ⊢
  refine ⟨fun t ht => ?_, fun t => ?_, ?_⟩ <;> omega

/-- What a bus error captures: its address, master, direction and cause (R16). -/
def errCaptured (cause a : Nat) (write : Bool) (master : Nat) (s : State) : State :=
  ((((s.wr Fd.SYS_BUSERR_ADDR_ADDR a).wr Fd.SYS_BUSERR_INFO_MASTER master).wrB Fd.SYS_BUSERR_INFO_WRITE write).wr
    Fd.SYS_BUSERR_INFO_CAUSE cause).set1 Fd.SYS_BUSERR_INFO_VALID

theorem errCaptured_rd (cause a : Nat) (write : Bool) (master : Nat) (s : State) :
    (errCaptured cause a write master s).rd Fd.SYS_BUSERR_ADDR_ADDR = a % 2 ^ 32 ∧
    (errCaptured cause a write master s).rd Fd.SYS_BUSERR_INFO_CAUSE = cause % 2 ^ 3 ∧
    (errCaptured cause a write master s).rd Fd.SYS_BUSERR_INFO_WRITE = (if write then 1 else 0) % 2 ^ 1 ∧
    (errCaptured cause a write master s).rd Fd.SYS_BUSERR_INFO_MASTER = master % 2 ^ 8 ∧
    (errCaptured cause a write master s).rd Fd.SYS_BUSERR_INFO_VALID = 1 := by
  unfold errCaptured State.set1 State.wrB
  refine ⟨?_, ?_, ?_, ?_, ?_⟩
  all_goals
    simp (disch := decide) only [State.rd_wr_ne, State.rd_wr]
    rfl

/-- A bus error while none is captured leaves what it captures in the SYS block (R16). -/
theorem busError_rd (cause a : Nat) (write : Bool) (master : Nat) (s : State) (f : Fld) (hv : s.rdB Fd.SYS_BUSERR_INFO_VALID = false)
    (hf : 0x06120000 * 64 ≤ f.key ∧ f.key % 64 ≠ 40) :
    (busError cause a write master s).rd f = (errCaptured cause a write master s).rd f := by
  rw [busError, if_neg (by simp [hv]), irqEvent_rd _ _ _ (offIrq_of_sysBlock f hf.1 hf.2), State.retErr_rd]
  rfl

theorem busError_mem (cause a : Nat) (write : Bool) (master : Nat) (s : State) : (busError cause a write master s).mem = s.mem := by
  rw [busError, irqEvent_mem, State.retErr_mem]
  split
  · rfl
  · rfl

/-- A write to a reserved address is a bus error of CAUSE 1 (Table 1.3, R16). -/
theorem busWrite_of_reserved (a size d master : Nat) (s : State) (hr : regionOf a = .reserved) :
    (busWrite a size d master s).2 = busError 1 a true master s := by
  simp [busWrite, mapFault, hr, busFail]

/-! ### The rows of the registers over the system bus -/

section Bus

variable (s : State) (v master : Nat) (hr : railsOff s = false)
include hr

/-- A write of SYS_RESET_CAUSE. -/
theorem busWrite_cause : (busWrite 0x06120008 4 v master s).2 = fieldsWrite causeHit (v % 2 ^ 8) (s.ret 0) := by
  have hc : regFault 0x06120008 4 s = 0 := regFault_of_regFind _ 4 s causeHit hr regFind_cause (by decide) rfl (.inl rfl)
  rw [busWrite_of_regFind _ 4 v master s causeHit (regionOf_regs _ (by decide) (by decide)) hc regFind_cause, if_neg (by decide),
    regWrite_cause]
  exact congrArg (fun m => fieldsWrite causeHit m (s.ret 0)) (merged_cause v (s.ret 0))

/-- A write of all or the low half of XMC_FILL_PAT. -/
theorem busWrite_fillPat (size : Nat) (hs : size = 4 ∨ size = 8) : (busWrite 0x06070020 size v master s).2 =
    fieldsWrite fillPatHit (merged fillPatHit v (2 ^ (8 * size) - 1) (s.ret 0)) (s.ret 0) := by
  have hal : 0x06070020 % size = 0 := by rcases hs with rfl | rfl <;> rfl
  have hc : regFault 0x06070020 size s = 0 :=
    regFault_of_regFind _ size s fillPatHit hr regFind_fillPat (by decide) hal (hs.imp_right (fun e => ⟨e, rfl⟩))
  have hm : hitMask fillPatHit 0x06070020 size = 2 ^ (8 * size) - 1 := by rcases hs with rfl | rfl <;> rfl
  rw [busWrite_of_regFind _ size v master s fillPatHit (regionOf_regs _ (by decide) (by decide)) hc regFind_fillPat, if_neg (by decide),
    regWrite_fillPat, hm]

/-- A read of all or the low half of SAF_CNT. -/
theorem busRead_safCnt (size : Nat) (hs : size = 4 ∨ size = 8) : (busRead 0x060C0080 size master s).2 =
    (regClears safCntHit (2 ^ (8 * size) - 1) s).ret (if size = 4 then rawWord safCntHit s % 2 ^ 32 else rawWord safCntHit s) := by
  have hal : 0x060C0080 % size = 0 := by rcases hs with rfl | rfl <;> rfl
  have hc : regFault 0x060C0080 size s = 0 :=
    regFault_of_regFind _ size s safCntHit hr regFind_safCnt (by decide) hal (hs.imp_right (fun e => ⟨e, rfl⟩))
  have hm : hitMask safCntHit 0x060C0080 size = 2 ^ (8 * size) - 1 := by rcases hs with rfl | rfl <;> rfl
  have hd : regDenied false 0x060C0080 0 master s = false := by simp [regDenied]
  rw [busRead_of_regFind _ size master s safCntHit (regionOf_regs _ (by decide) (by decide)) hc regFind_safCnt (by decide) hd, hm,
    regRead_safCnt]

end Bus

/-- A write of the low byte of SYS_RESET_CAUSE clears exactly the bits written 1. -/
theorem fieldsWrite_cause_rd (v : Nat) (s : State) (f : Fld) (hf : f ∈ causeHit.flds) :
    (fieldsWrite causeHit (v % 2 ^ 8) s).rd f = if v.testBit f.lo then 0 else s.rd f % 2 := by
  obtain ⟨r, hr, rfl⟩ := List.mem_map.1 hf
  have hw := fieldsWrite_rd_w1c causeHit (v % 2 ^ 8) s r (by decide) hr
  obtain ⟨i, hi, rfl⟩ := List.mem_map.1 hr
  have hb : v % 2 ^ 8 / 2 ^ i % 2 = (v.testBit i).toNat := by
    rw [← Nat.toNat_testBit, Nat.testBit_mod_two_pow, decide_eq_true (List.mem_range.1 hi), Bool.true_and]
  refine (hw rfl).trans ?_
  show (_ ^^^ (_ &&& (v % 2 ^ 8 / 2 ^ i % 2 ^ 1))) % 2 ^ 1 = if v.testBit i then 0 else _
  rw [Nat.pow_one, hb]
  cases v.testBit i
  · simp
  · simp only [Bool.toNat_true, Nat.and_one_is_mod, if_true, Nat.xor_mod_two_eq]
    omega

/-- A read of the bits of a mask clears each count of SAF_CNT that it touches. -/
theorem regClears_safCnt_of_touched (mask : Nat) (s : State) (i : Nat) (hi : i ∈ [0, 16, 32, 48])
    (hm : (2 ^ 16 - 1) * 2 ^ i &&& mask ≠ 0) : (regClears safCntHit mask s).rd ⟨0x060C0080, i, 16, 0⟩ = 0 :=
  (regClears_rd safCntHit mask s ⟨i, 16, .rc, .hw, fun _ => 0⟩ clearsOnly_safCnt (by decide) (List.mem_map_of_mem hi)).trans
    (if_pos ⟨rfl, hm⟩)

/-- A read of the bits of a mask leaves each count of SAF_CNT that it does not touch. -/
theorem regClears_safCnt_of_untouched (mask : Nat) (s : State) (i : Nat) (hi : i ∈ [0, 16, 32, 48])
    (hm : (2 ^ 16 - 1) * 2 ^ i &&& mask = 0) :
    (regClears safCntHit mask s).rd ⟨0x060C0080, i, 16, 0⟩ = s.rd ⟨0x060C0080, i, 16, 0⟩ :=
  (regClears_rd safCntHit mask s ⟨i, 16, .rc, .hw, fun _ => 0⟩ clearsOnly_safCnt (by decide) (List.mem_map_of_mem hi)).trans
    (if_neg (fun h => h.2 hm))

/-- A write of the low `k` bits of XMC_FILL_PAT sets those bits and leaves the bits above them. -/
theorem fieldsWrite_fillPat_rd (v k : Nat) (hk : k ≤ 64) (s : State) :
    (fieldsWrite fillPatHit (merged fillPatHit v (2 ^ k - 1) s) s).rd Fd.XMC_FILL_PAT_PAT =
      v % 2 ^ k + s.rd Fd.XMC_FILL_PAT_PAT / 2 ^ k % 2 ^ (64 - k) * 2 ^ k := by
  have e := fieldsWrite_rd_rw fillPatHit (merged fillPatHit v (2 ^ k - 1) s) s ⟨0, 64, .rw, .hw, fun _ => 0⟩ (by decide)
    (List.mem_singleton.2 rfl) rfl
  refine e.trans ?_
  show merged fillPatHit v (2 ^ k - 1) s / 2 ^ 0 % 2 ^ 64 = _
  rw [Nat.pow_zero, Nat.div_one, merged_fillPat v k hk s]

/-- Settles O13: each access is brought to the effect of the access codes on the fields of one register, or to the capture of a bus
error. -/
theorem registerAccessCodes : Obligations.RegisterAccessCodes := by
  intro s v a size master hs
  refine ⟨fun hm => ⟨exec_registerWrite_of_unserved _ _ _ _ s hs hm, exec_rcFieldRead_of_unserved _ _ _ s hs hm⟩, fun hr hm => ?_⟩
  intro causes
  refine ⟨?cause, ?fill, ?fillLow, ?read, ?readLow, ?reserved⟩
  case cause =>
    have hk := fieldsWrite_regsOnly causeHit (v % 2 ^ 8) (s.ret 0)
    refine ⟨_, exec_registerWrite_of_served _ _ _ _ s hs hm, ?_⟩
    rw [busWrite_cause s v master hr]
    exact ⟨hk.frame_of_ret, fieldsWrite_cause_rd v (s.ret 0), hk.2⟩
  case fill =>
    have hk := fieldsWrite_regsOnly fillPatHit (merged fillPatHit v (2 ^ 64 - 1) (s.ret 0)) (s.ret 0)
    refine ⟨_, exec_registerWrite_of_served _ _ _ _ s hs hm, ?_⟩
    rw [busWrite_fillPat s v master hr 8 (.inr rfl)]
    refine ⟨hk.frame_of_ret, ?_, fun f hf => hk.2 f (List.mem_singleton.not.2 hf)⟩
    rw [fieldsWrite_fillPat_rd v 64 (Nat.le_refl _), Nat.sub_self, Nat.pow_zero, Nat.mod_one, Nat.zero_mul, Nat.add_zero]
  case fillLow =>
    have hk := fieldsWrite_regsOnly fillPatHit (merged fillPatHit v (2 ^ 32 - 1) (s.ret 0)) (s.ret 0)
    refine ⟨_, exec_registerWrite_of_served _ _ _ _ s hs hm, ?_⟩
    rw [busWrite_fillPat s v master hr 4 (.inl rfl)]
    exact ⟨hk.frame_of_ret, fieldsWrite_fillPat_rd v 32 (by decide) (s.ret 0)⟩
  case read =>
    have hk := regClears_regsOnly safCntHit (2 ^ (8 * 8) - 1) s clearsOnly_safCnt
    have zero := regClears_safCnt_of_touched (2 ^ (8 * 8) - 1) s
    refine ⟨_, exec_rcFieldRead_of_served _ _ _ s hs hm, ?_⟩
    rw [busRead_safCnt s master hr 8 (.inr rfl), if_neg (by decide), State.ret_rd, State.ret_rd, State.ret_rd, State.ret_rd,
      State.ret_rdData]
    exact ⟨hk.frame_ret _, rawWord_safCnt s, zero 0 (by decide) (by decide), zero 16 (by decide) (by decide),
      zero 32 (by decide) (by decide), zero 48 (by decide) (by decide)⟩
  case readLow =>
    have hk := regClears_regsOnly safCntHit (2 ^ (8 * 4) - 1) s clearsOnly_safCnt
    have zero := regClears_safCnt_of_touched (2 ^ (8 * 4) - 1) s
    have kept := regClears_safCnt_of_untouched (2 ^ (8 * 4) - 1) s
    refine ⟨_, exec_rcFieldRead_of_served _ _ _ s hs hm, ?_⟩
    rw [busRead_safCnt s master hr 4 (.inl rfl), State.ret_rd, State.ret_rd, State.ret_rd, State.ret_rd, State.ret_mem]
    exact ⟨zero 0 (by decide) (by decide), zero 16 (by decide) (by decide), kept 32 (by decide) (by decide),
      kept 48 (by decide) (by decide), hk.mem_eq⟩
  case reserved =>
    intro h1 h2 hv
    obtain ⟨ha, hc, hw, hi, hd⟩ := errCaptured_rd 1 a true master s
    have hb := fun f => busError_rd 1 a true master s f hv
    refine ⟨_, exec_registerWrite_of_served _ _ _ _ s hs hm, ?_⟩
    rw [busWrite_of_reserved a size v master s (regionOf_reserved a h1 h2), hb _ (by decide), hb _ (by decide), hb _ (by decide),
      hb _ (by decide), hb _ (by decide), ha, hc, hw, hi, hd]
    exact ⟨Nat.mod_eq_of_lt (by omega), rfl, rfl, rfl, rfl, busError_mem 1 a true master s⟩

end Sys2Proof.Machine

/-! The reset state (R24, R9). Here and in the parts that follow, as in the tests, proofs are elaborated one after another: the stacks of
Lean's threads count against the check's memory. -/

namespace Sys2Proof.Machine

set_option Elab.async false

open Sys2Proof

/-- A key that no entry of a table lists reads as the default. -/
theorem mapGet_of_not_mem {α : Type} (d : α) (m : SMap α) (k : Nat) (h : k ∉ m.map Prod.fst) : mapGet d m k = d := by
  induction m with
  | nil => rfl
  | cons e r ih =>
    simp only [List.map_cons, List.mem_cons, not_or] at h
    have ih := ih h.2
    simp only [mapGet, mapGet?, if_neg (Ne.symm h.1)] at ih ⊢
    exact ih

/-- The register file of the reset state lists POWER_ON and the checks of retained RAM. -/
theorem reset_regs_keys : State.reset.regs.map Prod.fst =
    [Fd.PWR_RCHK_CRC 0, Fd.PWR_RCHK_CRC 1, Fd.PWR_RCHK_CRC 2, Fd.SYS_RESET_CAUSE_POWER_ON].map Fld.key := by decide

/-- A field that the register file of the reset state does not list holds its value after reset. -/
theorem reset_rd_of_unlisted (f : Fld)
    (h : f.key ∉ [Fd.SYS_RESET_CAUSE_POWER_ON, Fd.PWR_RCHK_CRC 0, Fd.PWR_RCHK_CRC 1, Fd.PWR_RCHK_CRC 2].map Fld.key) :
    State.reset.rd f = f.rst := by
  apply mapGet_of_not_mem
  rw [reset_regs_keys]
  simp only [List.map_cons, List.map_nil, List.mem_cons, List.not_mem_nil, or_false, not_or] at h ⊢
  obtain ⟨hp, h0, h1, h2⟩ := h
  exact ⟨h0, h1, h2, hp⟩

/-- Settles O4: the blocks stand as their fresh records say, and the register file lists four fields. -/
theorem resetState : Obligations.ResetState :=
  ⟨rfl, rfl, rfl, rfl, rfl, rfl, rfl, rfl, rfl, rfl, rfl, rfl, by decide, by decide, by decide, by decide, by decide,
    reset_rd_of_unlisted⟩

end Sys2Proof.Machine

/-! What an operation leaves alone: parts of the state, and fields of the register file by their keys. -/

namespace Sys2Proof.Machine

set_option Elab.async false

open Sys2Proof

/-- The parts of a state, the register file apart. The counter of free values is a part of its own. -/
inductive Part
  | pending | mem | sys | free | mst | xmc | afe | que | nib | chn | scr | fab | cfg | ufl | net | irq | log | pwr | saf | bst | lcs | jtag
  deriving DecidableEq

/-- A part of `t` is as it is in `s`. -/
def Part.kept (s t : State) : Part → Prop
  | .pending => t.pending = s.pending
  | .mem => t.mem = s.mem
  | .sys => { t.sys with free := 0 } = { s.sys with free := 0 }
  | .free => t.sys.free = s.sys.free
  | .mst => t.mst = s.mst
  | .xmc => t.xmc = s.xmc
  | .afe => t.afe = s.afe
  | .que => t.que = s.que
  | .nib => t.nib = s.nib
  | .chn => t.chn = s.chn
  | .scr => t.scr = s.scr
  | .fab => t.fab = s.fab
  | .cfg => t.cfg = s.cfg
  | .ufl => t.ufl = s.ufl
  | .net => t.net = s.net
  | .irq => t.irq = s.irq
  | .log => t.log = s.log
  | .pwr => t.pwr = s.pwr
  | .saf => t.saf = s.saf
  | .bst => t.bst = s.bst
  | .lcs => t.lcs = s.lcs
  | .jtag => t.jtag = s.jtag

/-- Keys of the register file: those of a field, of a block of registers (the high half of their address), of a field that repeats at a stride, of
a range of addresses, or all. -/
inductive Keys
  | one (f : Fld) | blk (b : Nat) | fam (f : Fld) (stride : Nat) | addrs (lo hi : Nat) | all
  deriving DecidableEq

/-- A key is among those of an entry. -/
def Keys.has : Keys → Nat → Bool
  | .one f, k => k == f.key
  | .blk b, k => k / 2 ^ 22 == b
  | .fam f d, k => decide (f.key ≤ k) && (k - f.key) % (64 * d) == 0
  | .addrs lo hi, k => decide (lo ≤ k / 64) && decide (k / 64 < hi)
  | .all, _ => true

/-- The keys of an entry are among those of another, as far as this can be told from the entries. -/
def Keys.within (k l : Keys) : Bool :=
  match k, l with
  | _, .all => true
  | .one f, l => l.has f.key
  | k, l => k == l

theorem Keys.has_of_within {k l : Keys} {n : Nat} (h : k.within l = true) (hn : k.has n = true) : l.has n = true := by
  unfold Keys.within at h
  split at h
  · rfl
  · simp only [Keys.has, beq_iff_eq] at hn
    exact hn ▸ h
  · rw [← beq_iff_eq.1 h]
    exact hn

/-- `t` differs from `s` in listed parts and in register fields of listed keys only. -/
structure Touches (ps : List Part) (ks : List Keys) (s t : State) : Prop where
  part : ∀ p, p ∉ ps → p.kept s t
  rd : ∀ f : Fld, ks.any (·.has f.key) = false → t.rd f = s.rd f

theorem Part.kept_refl (s : State) (p : Part) : p.kept s s := by cases p <;> rfl

theorem Part.kept_trans {s t u : State} {p : Part} (h : p.kept s t) (g : p.kept t u) : p.kept s u := by
  cases p <;> exact Eq.trans g h

namespace Touches

variable {ps qs : List Part} {ks ls : List Keys} {s t u : State}

theorem refl (s : State) : Touches ps ks s s := ⟨fun p _ => p.kept_refl s, fun _ _ => rfl⟩

theorem mono (h : Touches ps ks s t) (hp : ∀ p ∈ ps, p ∈ qs := by decide) (hk : ks.all (fun k => ls.any k.within) = true := by decide) :
    Touches qs ls s t := by
  refine ⟨fun p hq => h.part p (fun hc => hq (hp p hc)), fun f hf => h.rd f ?_⟩
  rw [List.any_eq_false] at hf ⊢
  intro k hc hh
  obtain ⟨l, hl, hw⟩ := List.any_eq_true.1 (List.all_eq_true.1 hk k hc)
  exact hf l hl (Keys.has_of_within hw hh)

theorem trans (h : Touches ps ks s t) (g : Touches ps ks t u) : Touches ps ks s u :=
  ⟨fun p hp => Part.kept_trans (h.part p hp) (g.part p hp), fun f hf => (g.rd f hf).trans (h.rd f hf)⟩

/-- What differs in the register file alone. -/
theorem of_part (h : ∀ p, p ∉ ps → p.kept s t) (hr : t.regs = s.regs) : Touches ps ks s t :=
  ⟨h, fun f _ => by simp only [State.rd, hr]⟩

theorem wr (s : State) (f : Fld) (v : Nat) (hf : ks.any (·.has f.key) = true := by decide) : Touches ps ks s (s.wr f v) :=
  ⟨fun p _ => by cases p <;> rfl, fun g hg => State.rd_wr_ne s f g v (by
    rintro hc
    rw [hc, hf] at hg
    contradiction)⟩

theorem ite {c : Prop} [Decidable c] (ht : c → Touches ps ks s t) (hu : ¬c → Touches ps ks s u) : Touches ps ks s (if c then t else u) := by
  split
  · exact ht ‹_›
  · exact hu ‹_›

theorem forEach_mem {α : Type} (f : α → State → State) (l : List α) (hf : ∀ a, a ∈ l → ∀ t, Touches ps ks t (f a t)) (s : State) :
    Touches ps ks s (forEach l s f) := by
  unfold Machine.forEach
  induction l generalizing s with
  | nil => exact refl s
  | cons a l ih => exact (hf a List.mem_cons_self s).trans (ih (fun b hb => hf b (List.mem_cons_of_mem a hb)) (f a s))

theorem forEach {α : Type} (f : α → State → State) (hf : ∀ a t, Touches ps ks t (f a t)) (l : List α) (s : State) :
    Touches ps ks s (forEach l s f) := forEach_mem f l (fun a _ => hf a) s

end Touches

/-- `u` with a part of `t`. -/
def Part.put (t u : State) : Part → State
  | .pending => { u with pending := t.pending }
  | .mem => { u with mem := t.mem }
  | .sys => { u with sys := { t.sys with free := u.sys.free } }
  | .free => { u with sys := { u.sys with free := t.sys.free } }
  | .mst => { u with mst := t.mst }
  | .xmc => { u with xmc := t.xmc }
  | .afe => { u with afe := t.afe }
  | .que => { u with que := t.que }
  | .nib => { u with nib := t.nib }
  | .chn => { u with chn := t.chn }
  | .scr => { u with scr := t.scr }
  | .fab => { u with fab := t.fab }
  | .cfg => { u with cfg := t.cfg }
  | .ufl => { u with ufl := t.ufl }
  | .net => { u with net := t.net }
  | .irq => { u with irq := t.irq }
  | .log => { u with log := t.log }
  | .pwr => { u with pwr := t.pwr }
  | .saf => { u with saf := t.saf }
  | .bst => { u with bst := t.bst }
  | .lcs => { u with lcs := t.lcs }
  | .jtag => { u with jtag := t.jtag }

/-- `u` with the listed parts of `t`. -/
def Part.puts (ps : List Part) (t u : State) : State := ps.foldl (fun v p => p.put t v) u

theorem Part.put_kept {p q : Part} (t u : State) (h : p ≠ q) : p.kept u (q.put t u) := by
  cases q <;> cases p <;> first | rfl | exact absurd rfl h

theorem Part.put_regs (p : Part) (t u : State) : (p.put t u).regs = u.regs := by cases p <;> rfl

theorem Part.puts_kept {p : Part} (ps : List Part) (t u : State) (h : p ∉ ps) : p.kept u (puts ps t u) := by
  induction ps generalizing u with
  | nil => exact kept_refl u p
  | cons q ps ih =>
    rw [List.mem_cons, not_or] at h
    exact kept_trans (put_kept t u h.1) (ih _ h.2)

theorem Part.puts_regs (ps : List Part) (t u : State) : (puts ps t u).regs = u.regs := by
  induction ps generalizing u with
  | nil => rfl
  | cons q ps ih => exact (ih _).trans (put_regs q t u)

/-- A state that is `s` with listed parts replaced. -/
theorem Touches.of_puts {s t : State} {ps : List Part} {ks : List Keys} (qs : List Part) (h : Part.puts qs t s = t := by rfl)
    (hq : ∀ p ∈ qs, p ∈ ps := by decide) : Touches ps ks s t := by
  rw [← h]
  exact of_part (fun p hp => Part.puts_kept qs t s (fun hc => hp (hq p hc))) (Part.puts_regs qs t s)


/-! ### Interrupt sources -/

/-- The fields a source event can write: those of the interrupt block and the wake record. -/
abbrev irqKeys : List Keys :=
  [.blk 0x060A, .fam (Fd.IRQ_TGT_CNT_REFIRES 0) 32, .one Fd.PWR_WAKE_SRC_LATCHED, .one Fd.PWR_WAKE_SRC_FIRST, .one Fd.PWR_WAKE_SRC_IRQ_SRC]

theorem offIrq_of_irqKeys (f : Fld) (h : irqKeys.any (·.has f.key) = false) : OffIrq f := by
  simp only [List.any_cons, List.any_nil, Keys.has, Bool.or_eq_false_iff, beq_eq_false_iff_ne, Bool.and_eq_false_iff, decide_eq_false_iff_not] at h
  obtain ⟨hb, hr, hl, hf, hi, -⟩ := h
  refine ⟨fun t ht => ?_, fun t => ?_, hl, hf, hi⟩
  · simp only [Fld.key, Fd.IRQ_TGT_STAT_RELEASED, Fd.IRQ_TGT_STAT_TIMER_RUN] at hb ⊢
    omega
  · simp only [Fld.key, Fd.IRQ_TGT_CNT_REFIRES] at hr ⊢
    omega

theorem irqEvent_touches (i : Nat) (s : State) : Touches [.irq, .pwr] irqKeys s (irqEvent i s) := by
  refine ⟨fun p hp => ?_, fun f hf => irqEvent_rd i s f (offIrq_of_irqKeys f hf)⟩
  cases p <;> simp [Part.kept] at hp ⊢

theorem safRaise_touches (i : Nat) (s : State) : Touches [.saf] [] s (safRaise i s) :=
  .ite (fun _ => .refl s) (fun _ => .of_puts [.saf] rfl)

theorem logReq_touches (a b c d e : Nat) (s : State) : Touches [.log] [.blk 0x0610] s (logReq a b c d e s) :=
  .ite (fun _ => .of_puts [.log]) (fun _ => (Touches.wr s Fd.LOG_STAT_LOST 1).trans
    (.trans (.wr _ Fd.LOG_STAT_LOST_CNT _) (.of_puts [.log])))

end Sys2Proof.Machine

/-! What a reset cuts short, and what of the state that reaches. -/

namespace Sys2Proof.Machine

set_option Elab.async false

open Sys2Proof

/-! ### The memories -/

/-- The parts that a read or a write of a memory word reaches. -/
abbrev memParts : List Part := [.mem, .mst, .bst, .irq, .pwr, .saf]

theorem mput_touches (k : Nat) (w : MemWord) (s : State) : Touches memParts [.all] s (s.mput k w) := by
  unfold State.mput
  extract_lets s1
  have h : Touches memParts [.all] s s1 := .ite (fun _ => .wr _ _ _ rfl) (fun _ => .refl s)
  refine h.trans ?_
  clear_value s1
  split
  · split
    · exact .of_puts [.bst]
    · exact .refl _
  · split
    · exact .of_puts [.mst]
    · exact .of_puts [.mem]

theorem mwrite_touches (m i : Nat) (d : W64) (s : State) : Touches memParts [.all] s (s.mwrite m i d) :=
  .trans (.ite (fun _ => .wr _ _ _) (fun _ => .refl s)) (mput_touches _ _ _)

theorem retUnmerge_touches (m i : Nat) (s : State) : Touches memParts [.all] s (retUnmerge m i s) := by
  unfold retUnmerge
  split
  · exact .ite (fun _ => .wr _ _ _ rfl) (fun _ => .refl s)
  · exact .refl s

theorem writeWord_touches (m i : Nat) (d : W64) (s : State) : Touches memParts [.all] s (writeWord m i d s) :=
  ((retUnmerge_touches m i s).trans (.of_puts [.mst])).trans (mwrite_touches _ _ _ _)

theorem mergeStore_touches (k : Nat) (s : State) : Touches memParts [.all] s (mergeStore k s) := by
  unfold mergeStore
  split
  · exact ((retUnmerge_touches _ _ s).trans (.of_puts [.mst])).trans (mput_touches _ _ _)
  · exact .refl s

theorem mergeFlush_touches (m : Nat) (s : State) : Touches memParts [.all] s (mergeFlush m s) := by
  unfold mergeFlush
  split
  · exact mergeStore_touches _ s
  · exact .refl s

theorem memCap_touches (kind m addr master : Nat) (s : State) : Touches [] [.blk 0x0606] s (memCap kind m addr master s) :=
  .ite (fun _ => .trans (.trans (.trans (.trans (.wr _ _ _) (.wr _ _ _)) (.wr _ _ _)) (.wr _ _ _)) (.wr _ _ _)) (fun _ => .refl s)

theorem noteFixed_touches (m i r : Nat) (s : State) : Touches memParts [.all] s (noteFixed m i r s) := by
  unfold noteFixed
  extract_lets s1
  have h : Touches memParts [.all] s s1 := .trans (.trans (.wr _ _ _) (.wr _ _ _ rfl)) (memCap_touches _ _ _ _ _).mono
  refine h.trans ?_
  clear_value s1
  exact .ite (fun _ => .refl _) (fun _ => .ite (fun _ => .of_puts [.mst]) (fun _ => .wr _ _ _))

theorem noteUE_touches (m i r : Nat) (s : State) : Touches memParts [.all] s (noteUE m i r s) :=
  .trans (.trans (.trans (.wr _ _ _ rfl) (.trans (.wr _ _ _) (irqEvent_touches _ _).mono)) (memCap_touches _ _ _ _ _).mono)
    (safRaise_touches _ _).mono

theorem readWord_touches (m i r : Nat) (s : State) : Touches memParts [.all] s (readWord m i r s).2 := by
  unfold readWord
  split
  · exact .refl s
  · exact noteFixed_touches m i r s
  · exact noteUE_touches m i r s

theorem retRead_touches (i : Nat) (s : State) : Touches memParts [.all] s (retRead i s) := readWord_touches 13 i 0 s

theorem retHeader_touches (r magic seq : Nat) (s : State) : Touches memParts [.all] s (retHeader r magic seq s) :=
  .trans (writeWord_touches _ _ _ _) (.wr _ _ _ rfl)

theorem regionPut_touches (off : Nat) (l : List Byte) (s : State) : Touches memParts [.all] s (regionPut off l s) :=
  .forEach _ (fun _ t => .trans (.trans (.trans (retRead_touches _ t) (retRead_touches _ _)) (writeWord_touches _ _ _ _))
    (writeWord_touches _ _ _ _)) _ s

theorem regionSeq_touches (s : State) : Touches memParts [.all] s (regionSeq s) :=
  .trans (retRead_touches 0 s) (retHeader_touches _ _ _ _)

theorem retRewrite_touches (s : State) : Touches (.net :: memParts) [.all] s (retRewrite s) :=
  .trans (retHeader_touches _ _ _ _).mono (.of_puts [.net])

theorem retStop_touches (s : State) : Touches (.net :: memParts) [.all] s (retStop s) := by
  unfold retStop
  split
  · exact .refl s
  · dsimp only
    split
    · exact retRewrite_touches s
    · refine .forEach _ (fun c t => ?_) _ s
      have h : Touches memParts [.all] t (regionSeq (regionPut c.1 c.2 t)) := .trans (regionPut_touches _ _ _) (regionSeq_touches _)
      exact h.mono

theorem planePut_touches (k : Nat) (w : MemWord) (s : State) : Touches [.cfg] [] s (planePut k w s) := by
  unfold planePut
  split
  · exact .ite (fun _ => .of_puts [.cfg]) (fun _ => .refl s)
  · exact .refl s

theorem bstRestore_touches (saved : SMap MemWord) (s : State) : Touches [.mem, .cfg] [] s (bstRestore saved s) :=
  .forEach _ (fun _ t => .ite (fun _ => .of_puts [.mem]) (fun _ => (planePut_touches _ _ t).mono)) _ s

/-! ### What a reset cuts short -/

theorem otpProg_touches (i v : Nat) (s : State) : Touches [.lcs] [] s (otpProg i v s) := .of_puts [.lcs]

theorem otpProgs_touches (l : List (Nat × Nat)) (s : State) : Touches [.lcs] [] s (otpProgs l s) :=
  .forEach (fun e t => otpProg e.1 e.2 t) (fun e t => otpProg_touches e.1 e.2 t) l s

theorem lcsInterrupted_touches (s : State) : Touches [.free, .lcs] [] s (lcsInterrupted s) := by
  unfold lcsInterrupted
  split
  · exact .refl s
  · extract_lets l cut mask _ s1 s2
    have h1 : Touches [.free, .lcs] [] s s1 := .trans (.of_puts [.free]) (otpProgs_touches _ _).mono
    have h2 : Touches [.free, .lcs] [] s1 s2 := by
      dsimp only [s2]
      split
      · exact (otpProg_touches _ _ s1).mono
      · exact .refl s1
    exact (h1.trans h2).trans (.of_puts [.lcs])

theorem setBank_touches (b : Nat) (f : Flash) (s : State) : Touches [.cfg] [] s (s.setBank b f) :=
  .ite (fun _ => .of_puts [.cfg]) (fun _ => .of_puts [.cfg])

theorem cfgInterrupted_touches (s : State) : Touches [.free, .cfg] [.blk 0x0605] s (cfgInterrupted s) := by
  unfold cfgInterrupted
  split
  · exact .refl s
  next c _ =>
    extract_lets seed _ s0 _ nx f s1 s2
    have h0 : Touches [.free, .cfg] [.blk 0x0605] s s0 := .of_puts [.free]
    have h1 : Touches [.free, .cfg] [.blk 0x0605] s s1 := by
      dsimp only [s1]
      split
      · exact .ite (fun _ => h0.trans (setBank_touches _ _ _).mono) (fun _ => .refl s)
      · exact .ite (fun _ => .refl s) (fun _ => h0.trans (.of_puts [.cfg]))
      · exact .ite (fun _ => h0.trans (.of_puts [.cfg])) (fun _ => h0)
      · exact .refl s
    have h2 : Touches [.free, .cfg] [.blk 0x0605] s1 s2 := .ite (fun _ => .trans (.wr _ _ _) (.wr _ _ _)) (fun _ => .refl s1)
    exact (h1.trans h2).trans (.of_puts [.cfg])

theorem uflInterrupted_touches (s : State) : Touches [.free, .ufl] [.blk 0x0608] s (uflInterrupted s) := by
  unfold uflInterrupted
  split
  · exact .refl s
  · extract_lets _ _ s1 s2
    have h1 : Touches [.free, .ufl] [.blk 0x0608] s s1 := .ite (fun _ => .of_puts [.free, .ufl]) (fun _ => .refl s)
    exact (h1.trans (.wr s1 Fd.UFL_CMD_STAT_STATUS _)).trans (.of_puts [.ufl])

theorem exportInterrupted_touches (s : State) : Touches [.free, .ufl, .log] [] s (exportInterrupted s) := by
  unfold exportInterrupted
  split
  · exact .refl s
  · extract_lets p pg f _ _ s1
    have h1 : Touches [.free, .ufl, .log] [] s s1 := .ite (fun _ => .of_puts [.ufl]) (fun _ => .of_puts [.free, .ufl])
    exact (h1.trans (u := { s1 with log := { s1.log with exp := none } }) (.of_puts [.log])).trans (.of_puts [.log])

theorem uflCount_touches (b : Nat) (s : State) : Touches [.ufl, .log] [.blk 0x0608, .blk 0x0610] s (uflCount b s) := by
  unfold uflCount
  extract_lets n _ s1
  have h1 : Touches [.ufl, .log] [.blk 0x0608, .blk 0x0610] s s1 := .of_puts [.ufl]
  exact h1.trans (.ite (fun _ => .trans (.wr s1 _ _) (logReq_touches _ _ _ _ _ _).mono) (fun _ => .refl s1))

theorem uflErased_touches (b : Nat) (s : State) : Touches [.ufl, .log] [.blk 0x0608, .blk 0x0610] s (uflErased b s) :=
  .trans (.of_puts [.ufl]) (uflCount_touches b _)

theorem storeCut_touches (l : List Byte) (s : State) : Touches [.free, .ufl, .log] [.blk 0x0608, .blk 0x0610] s (storeCut l s) := by
  unfold storeCut
  extract_lets n cut _ s1
  split
  next p er _ =>
  have h1 : Touches [.free, .ufl, .log] [.blk 0x0608, .blk 0x0610] s s1 := .of_puts [.free]
  refine h1.trans (.ite (fun _ => .of_puts [.ufl]) (fun _ => .trans ?_ (.of_puts [.ufl])))
  exact .ite (fun _ => (uflErased_touches _ s1).mono) (fun _ => .refl s1)

theorem storeCuts_touches (s : State) : Touches [.free, .ufl, .log] [.blk 0x0608, .blk 0x0610] s (storeCuts s) := by
  unfold storeCuts
  split
  · exact .ite (fun _ => storeCut_touches _ s) (fun _ => .refl s)
  · exact .refl s

/-- What a reset cuts short besides the commands of the configuration flash, the user flash and the life cycle. -/
def laterCuts (s : State) : State :=
  let s2 := storeCuts (exportInterrupted s)
  retStop (mergeFlush 13 (forEach s2.bst.slice s2 (fun (e : Nat × SliceSt) t => bstRestore e.2.saved t)))

theorem resetCuts_eq (s : State) : resetCuts s = laterCuts (lcsInterrupted (uflInterrupted (cfgInterrupted s))) := rfl

theorem laterCuts_touches (s : State) : Touches ([.free, .cfg, .ufl, .log, .net] ++ memParts) [.all] s (laterCuts s) := by
  refine .trans (exportInterrupted_touches s).mono <| .trans (storeCuts_touches _).mono <| .trans (.forEach _ (fun e t => ?_) _ _) <|
    .trans (mergeFlush_touches 13 _).mono (retStop_touches _).mono
  exact (bstRestore_touches e.2.saved t).mono

theorem earlierCuts_touches (s : State) : Touches [.free, .cfg, .ufl] [.all] s (uflInterrupted (cfgInterrupted s)) :=
  .trans (cfgInterrupted_touches s).mono (uflInterrupted_touches _).mono

/-- What a reset cuts short leaves the SDRAM lines, the pins, the queues' block and the rest of the system block alone. -/
theorem resetCuts_touches (s : State) : Touches ([.free, .cfg, .ufl, .lcs, .log, .net] ++ memParts) [.all] s (resetCuts s) :=
  .trans (earlierCuts_touches s).mono <| .trans (lcsInterrupted_touches _).mono (laterCuts_touches _).mono

/-- With no life-cycle command in progress a reset finds the OTP and its buffers as they are. -/
theorem resetCuts_lcs (s : State) (h : s.lcs.cmd = none) : (resetCuts s).lcs = s.lcs := by
  have h1 : (uflInterrupted (cfgInterrupted s)).lcs = s.lcs := (earlierCuts_touches s).part .lcs (by decide)
  have h2 : lcsInterrupted (uflInterrupted (cfgInterrupted s)) = uflInterrupted (cfgInterrupted s) := by
    rw [lcsInterrupted, h1, h]
  have h3 : (laterCuts (uflInterrupted (cfgInterrupted s))).lcs = _ := (laterCuts_touches _).part .lcs (by decide)
  rw [resetCuts_eq, h2, h3, h1]

end Sys2Proof.Machine

/-! The resets (R24, Tables 1.6 and 1.8): what each clears and what it keeps. -/

namespace Sys2Proof.Machine

set_option Elab.async false

open Sys2Proof

/-! ### The register file and the memories after a reset -/

theorem mapGet?_mapKeep {α : Type} (p : Nat → Bool) (m : SMap α) (k : Nat) (h : p k = false) : mapGet? (mapKeep p m) k = none := by
  induction m with
  | nil => rfl
  | cons e r ih =>
    rw [mapKeep, List.filter_cons]
    split
    next hp =>
      rw [mapGet?, if_neg (fun hc => by simp [hc, h] at hp)]
      exact ih
    · exact ih

theorem mapGet_mapKeep {α : Type} (d : α) (p : Nat → Bool) (m : SMap α) (k : Nat) (h : p k = false) : mapGet d (mapKeep p m) k = d := by
  rw [mapGet, mapGet?_mapKeep p m k h, Option.getD_none]

/-- The blocks and the register file that a reset leaves, before it notes its cause. -/
def resetBase (kind : Nat) (s : State) : State := { blocksAfter kind s with regs := regsAfter kind s.regs }

/-- A field that a reset reaches holds its value after reset. -/
theorem resetBase_rd (kind : Nat) (s : State) (f : Fld) (h : (keptFlds kind).any (fun g => g.key == f.key) = false) :
    (resetBase kind s).rd f = f.rst := mapGet_mapKeep f.rst (fun k => (keptFlds kind).any (fun g => g.key == k)) s.regs f.key h

/-- The fields that a reset writes besides its cause. -/
abbrev resetNotes : List Keys := [.one Fd.SYS_MODE_PREV_MODE, .one (Fd.NIB_CNT_COUNT 14), .one Fd.SYS_RESET_CAUSE_FROZEN_EXIT,
  .one Fd.DBG_STAT_BSCAN_REFUSED, .one (Fd.PWR_RCHK_CRC 0), .one (Fd.PWR_RCHK_CRC 1), .one (Fd.PWR_RCHK_CRC 2)]

theorem bscanJudge_touches (s : State) : Touches [.jtag] [.one Fd.DBG_STAT_BSCAN_REFUSED] s (bscanJudge s) :=
  .ite (fun _ => .trans (.wr s Fd.DBG_STAT_BSCAN_REFUSED 1) (.of_puts [.jtag])) (fun _ => .refl s)

/-- What a reset of a kind finds: a power-on reset cuts nothing short. -/
def cutsOf (kind : Nat) (s : State) : State := if kind = 0 then s else resetCuts s

theorem resetTo_touches (kind : Nat) (cause : Fld) (s : State) :
    Touches [.jtag] resetNotes ((resetBase kind (cutsOf kind s)).set1 cause) (resetTo kind cause s) := by
  unfold resetTo
  extract_lets old n s0 _ s1 s2 s3
  have h2 : Touches [.jtag] resetNotes (s1.set1 cause) s2 := .trans (.wr _ _ _) (.wr _ (Fd.NIB_CNT_COUNT 14) _)
  have h3 : Touches [.jtag] resetNotes s2 s3 :=
    .trans (.ite (fun _ => .wr s2 Fd.SYS_RESET_CAUSE_FROZEN_EXIT 1) (fun _ => .refl s2)) (bscanJudge_touches _).mono
  have h4 : Touches [.jtag] resetNotes s3 (forEach (List.range 3) s3 (fun r t => t.wr (Fd.PWR_RCHK_CRC r) (retZeroCrc r))) :=
    .trans (.wr s3 (Fd.PWR_RCHK_CRC 0) _) (.trans (.wr _ (Fd.PWR_RCHK_CRC 1) _) (.wr _ (Fd.PWR_RCHK_CRC 2) _))
  exact (h2.trans h3).trans (.ite (fun _ => h4) (fun _ => .refl s3))

/-- What every reset clears, with all that a command's end could act on. -/
structure Cleared (t : State) : Prop where
  mode : t.mode = Md.load
  que : t.que = queFresh
  nib : t.nib = nibFresh
  pair : t.scr.pair = []
  afe : t.afe = afeFresh
  pins : t.pinsSafe = true
  halted : ∀ p, p < 8 → t.rd (Fd.SCR_PSTAT_STATE p) = 0
  due : t.saf.due = []
  active : t.rd Fd.SAF_ACTIVE_ACTIVE = 0
  net : t.net = netFresh
  awake : t.pwr.sleep = .awake

namespace Cleared

/-- The end of a command leaves a cleared state. -/
theorem finish_eq {t : State} (h : Cleared t) : finish t = t := by
  apply finish_of_calm
  rw [State.calm_iff, State.quiet_iff]
  refine ⟨⟨h.due, h.active, ?_, .inr ?_, ?_, ?_, .inl ?_⟩, h.awake⟩
  · rw [h.net]; rfl
  · rw [h.mode]; decide
  · rw [h.net]; rfl
  · rw [h.net]; rfl
  · rw [h.mode]; rfl

/-- The fields that a cleared state is told by. -/
abbrev flds : List Fld := Fd.SYS_MODE_MODE :: Fd.SAF_ACTIVE_ACTIVE :: (List.range 8).map Fd.SCR_PSTAT_STATE

/-- What touches neither the cleared blocks nor those fields leaves a state cleared. -/
theorem of_touches {s t : State} {ks : List Keys} {ps : List Part} (h : Cleared s) (ht : Touches ps ks s t)
    (hp : ∀ p ∈ ps, p ∈ [.jtag, .log, .sys, .cfg] := by decide)
    (hk : flds.all (fun f => !ks.any (·.has f.key)) = true := by decide) : Cleared t := by
  have ht : Touches [.jtag, .log, .sys, .cfg] ks s t := ⟨fun p h => ht.part p (fun hc => h (hp p hc)), ht.rd⟩
  have rd : ∀ f, f ∈ flds → t.rd f = s.rd f := fun f hf => ht.rd f (by simpa using List.all_eq_true.1 hk f hf)
  have chn : t.chn = s.chn := ht.part .chn (by decide)
  have saf : t.saf = s.saf := ht.part .saf (by decide)
  have pwr : t.pwr = s.pwr := ht.part .pwr (by decide)
  have scr : t.scr = s.scr := ht.part .scr (by decide)
  refine ⟨(rd _ (by decide)).trans h.mode, (ht.part .que (by decide)).trans h.que, (ht.part .nib (by decide)).trans h.nib, ?_,
    (ht.part .afe (by decide)).trans h.afe, ?_, fun p hp => ?_, ?_, (rd _ (by decide)).trans h.active,
    (ht.part .net (by decide)).trans h.net, ?_⟩
  · rw [scr, h.pair]
  · rw [State.pinsSafe, chn]; exact h.pins
  · refine (rd _ ?_).trans (h.halted p hp)
    simp only [List.mem_cons, List.mem_map, List.mem_range]
    exact .inr (.inr ⟨p, hp, rfl⟩)
  · rw [saf, h.due]
  · rw [pwr, h.awake]

end Cleared

theorem resetBase_cleared (kind : Nat) (s : State) (hk : kind < 3) : Cleared (resetBase kind s) := by
  have unkept : ∀ k, k < 3 → Cleared.flds.all (fun f => !(keptFlds k).any (fun g => g.key == f.key)) = true := by decide
  have rd : ∀ f, f ∈ Cleared.flds → (resetBase kind s).rd f = f.rst :=
    fun f hf => resetBase_rd kind s f (by simpa using List.all_eq_true.1 (unkept kind hk) f hf)
  refine ⟨rd _ (by decide), rfl, rfl, rfl, rfl, ?_, fun p hp => ?_, rfl, rd _ (by decide), rfl, rfl⟩
  · simp only [State.pinsSafe, resetBase, blocksAfter]
    split <;> rfl
  · refine rd _ ?_
    simp only [List.mem_cons, List.mem_map, List.mem_range]
    exact .inr (.inr ⟨p, hp, rfl⟩)

/-- The causes of SYS_RESET_CAUSE. -/
abbrev resetCauses : List Fld := [Fd.SYS_RESET_CAUSE_POWER_ON, Fd.SYS_RESET_CAUSE_BROWN_OUT, Fd.SYS_RESET_CAUSE_PIN,
  Fd.SYS_RESET_CAUSE_WARM_CMD, Fd.SYS_RESET_CAUSE_NMT_RESET, Fd.SYS_RESET_CAUSE_LCS_CHANGE]

theorem resetTo_cleared (kind : Nat) (cause : Fld) (s : State) (hk : kind < 3) (hc : cause ∈ resetCauses) :
    Cleared (resetTo kind cause s) := by
  have apart : ∀ c, c ∈ resetCauses → Cleared.flds.all (fun f => !([.one c] : List Keys).any (·.has f.key)) = true := by decide
  have h1 := (resetBase_cleared kind (cutsOf kind s) hk).of_touches (.wr (ps := []) (ks := [.one cause]) _ cause 1 (by simp [Keys.has]))
    (hk := apart cause hc)
  exact h1.of_touches (resetTo_touches kind cause s)

/-- A reset sets its bit of SYS_RESET_CAUSE. -/
theorem resetTo_cause (kind : Nat) (cause : Fld) (s : State) (hc : cause ∈ resetCauses) : (resetTo kind cause s).rd cause = 1 := by
  have apart : ∀ c, c ∈ resetCauses → resetNotes.any (·.has c.key) = false ∧ 1 % 2 ^ c.w = 1 := by decide
  rw [(resetTo_touches kind cause s).rd _ (apart cause hc).1, State.set1, State.rd_wr, (apart cause hc).2]

theorem resetTo_mem (kind : Nat) (cause : Fld) (s : State) : (resetTo kind cause s).mem = (resetBase kind (cutsOf kind s)).mem :=
  (resetTo_touches kind cause s).part .mem (by decide)

theorem resetTo_sys (kind : Nat) (cause : Fld) (s : State) :
    { (resetTo kind cause s).sys with free := 0 } = { (resetBase kind (cutsOf kind s)).sys with free := 0 } :=
  (resetTo_touches kind cause s).part .sys (by decide)

/-- A power-on reset loses every memory word. -/
theorem resetTo_zero_mem (cause : Fld) (s : State) : (resetTo 0 cause s).mem = [] := resetTo_mem 0 cause s

/-- After another reset every memory word but those of retained RAM reads 0. -/
theorem resetTo_mem_zero (kind : Nat) (cause : Fld) (s : State) (k : Nat) (hk : k / 2 ^ 32 ≠ 13) :
    mapGet 0 (resetTo kind cause s).mem k = 0 := by
  rw [resetTo_mem]
  simp only [resetBase, blocksAfter]
  split
  · rfl
  · exact mapGet_mapKeep 0 (fun k => k / 2 ^ 32 == 13) _ k (by simpa using hk)

/-- A reset keeps the level of RESET_N. -/
theorem resetTo_resetLow (kind : Nat) (cause : Fld) (s : State) : (resetTo kind cause s).sys.resetLow = s.sys.resetLow := by
  have h : (cutsOf kind s).sys.resetLow = s.sys.resetLow := by
    unfold cutsOf
    split
    · rfl
    · have e : { (resetCuts s).sys with free := 0 } = { s.sys with free := 0 } := (resetCuts_touches s).part .sys (by decide)
      have h := congrArg SysSt.resetLow e
      exact h
  exact (congrArg SysSt.resetLow (resetTo_sys kind cause s)).trans h

/-- A warm reset keeps the SDRAM lines (Table 1.8). -/
theorem resetTo_two_lines (cause : Fld) (s : State) : (resetTo 2 cause s).xmc.lines = s.xmc.lines := by
  have e : (resetTo 2 cause s).xmc = (resetBase 2 (resetCuts s)).xmc := (resetTo_touches 2 cause s).part .xmc (by decide)
  have h : (resetCuts s).xmc = s.xmc := (resetCuts_touches s).part .xmc (by decide)
  have k : (resetBase 2 (resetCuts s)).xmc.lines = (resetCuts s).xmc.lines := rfl
  rw [e, k, h]

/-! ### The start of the timeline -/

theorem timeline_touches (s : State) : Touches [.sys, .log] [.blk 0x0610] s (timeline s) :=
  .trans (t := { s with sys := { s.sys with phase := .regulators } }) (.of_puts [.sys]) (logReq_touches _ _ _ _ _ _).mono

theorem timeline_phase (s : State) : (timeline s).sys.phase = .regulators := congrArg SysSt.phase (logReq_sys _ _ _ _ _ _)

theorem timelineOrHold_touches (s : State) : Touches [.sys, .log] [.blk 0x0610] s (timelineOrHold s) :=
  .ite (fun _ => .of_puts [.sys]) (fun _ => timeline_touches s)

theorem timelineOrHold_phase (s : State) :
    (timelineOrHold s).sys.phase = if s.sys.resetLow = true ∧ 6 ∉ s.pwr.absent then .resetHeld else .regulators := by
  have e : resetNLow s = true ↔ s.sys.resetLow = true ∧ 6 ∉ s.pwr.absent := by simp [resetNLow]
  unfold timelineOrHold
  simp only [e]
  split
  · rfl
  · exact timeline_phase s

/-! ### The resets of Table 1.6 -/

theorem warmReset_touches (cause : Fld) (s : State) : Touches [.sys, .log] [.blk 0x0610] (resetTo 2 cause s) (warmReset cause s) :=
  timeline_touches _

theorem warmReset_phase (cause : Fld) (s : State) : (warmReset cause s).sys.phase = .regulators := timeline_phase _

theorem warmReset_cleared (cause : Fld) (s : State) (hc : cause ∈ resetCauses) : Cleared (warmReset cause s) :=
  (resetTo_cleared 2 cause s (by decide) hc).of_touches (warmReset_touches cause s)

theorem warmReset_cause (cause : Fld) (s : State) (hc : cause ∈ resetCauses) : (warmReset cause s).rd cause = 1 := by
  have apart : ∀ c, c ∈ resetCauses → [Keys.blk 0x0610].any (·.has c.key) = false := by decide
  rw [(warmReset_touches cause s).rd _ (apart cause hc), resetTo_cause 2 cause s hc]

theorem warmReset_mem_zero (cause : Fld) (s : State) (k : Nat) (hk : k / 2 ^ 32 ≠ 13) : mapGet 0 (warmReset cause s).mem k = 0 := by
  have e : (warmReset cause s).mem = (resetTo 2 cause s).mem := (warmReset_touches cause s).part .mem (by decide)
  rw [e, resetTo_mem_zero 2 cause s k hk]

theorem warmReset_lines (cause : Fld) (s : State) : (warmReset cause s).xmc.lines = s.xmc.lines := by
  have e : (warmReset cause s).xmc = (resetTo 2 cause s).xmc := (warmReset_touches cause s).part .xmc (by decide)
  rw [e, resetTo_two_lines]

/-- What the power-on reset adds to SYS_RESET_CAUSE and SYS_MODE before the timeline begins. -/
def powerOnNoted (s : State) : State :=
  let prev := if s.sys.phase = .noVin then s.rd Fd.SYS_MODE_PREV_MODE else s.mode
  let s1 := (resetTo 0 Fd.SYS_RESET_CAUSE_POWER_ON s).wr Fd.SYS_MODE_PREV_MODE prev
  let s2 := if s.sys.phase = .noVin ∧ s.rdB Fd.SYS_RESET_CAUSE_BROWN_OUT then s1.set1 Fd.SYS_RESET_CAUSE_BROWN_OUT else s1
  if s.sys.phase = .noVin ∧ s.rdB Fd.SYS_RESET_CAUSE_FROZEN_EXIT then s2.set1 Fd.SYS_RESET_CAUSE_FROZEN_EXIT else s2

theorem powerOnReset_eq (s : State) : powerOnReset s = timelineOrHold (powerOnNoted s) := rfl

theorem powerOnNoted_touches (s : State) :
    Touches [] [.one Fd.SYS_MODE_PREV_MODE, .one Fd.SYS_RESET_CAUSE_BROWN_OUT, .one Fd.SYS_RESET_CAUSE_FROZEN_EXIT]
      (resetTo 0 Fd.SYS_RESET_CAUSE_POWER_ON s) (powerOnNoted s) := by
  unfold powerOnNoted
  extract_lets prev s1 s2
  refine .trans (t := s1) (.wr _ Fd.SYS_MODE_PREV_MODE _) (.trans (t := s2) ?_ ?_)
  · exact .ite (fun _ => .wr s1 Fd.SYS_RESET_CAUSE_BROWN_OUT 1) (fun _ => .refl s1)
  · exact .ite (fun _ => .wr s2 Fd.SYS_RESET_CAUSE_FROZEN_EXIT 1) (fun _ => .refl s2)

/-- The power-on reset from its reset on: the system block and the log apart, notes of the cause only. -/
theorem powerOnReset_touches (s : State) :
    Touches [.sys, .log] [.one Fd.SYS_MODE_PREV_MODE, .one Fd.SYS_RESET_CAUSE_BROWN_OUT, .one Fd.SYS_RESET_CAUSE_FROZEN_EXIT, .blk 0x0610]
      (resetTo 0 Fd.SYS_RESET_CAUSE_POWER_ON s) (powerOnReset s) :=
  .trans (powerOnNoted_touches s).mono (timelineOrHold_touches _).mono

theorem powerOnReset_cleared (s : State) : Cleared (powerOnReset s) :=
  (resetTo_cleared 0 _ s (by decide) (by decide)).of_touches (powerOnReset_touches s)

theorem powerOnReset_phase (s : State) :
    (powerOnReset s).sys.phase = if s.sys.resetLow = true ∧ 6 ∉ s.pwr.absent then .resetHeld else .regulators := by
  have hs : { (powerOnNoted s).sys with free := 0 } = { (resetTo 0 Fd.SYS_RESET_CAUSE_POWER_ON s).sys with free := 0 } :=
    (powerOnNoted_touches s).part .sys (by decide)
  have hp : (powerOnNoted s).pwr = (resetTo 0 Fd.SYS_RESET_CAUSE_POWER_ON s).pwr := (powerOnNoted_touches s).part .pwr (by decide)
  have hb : (resetTo 0 Fd.SYS_RESET_CAUSE_POWER_ON s).pwr = (resetBase 0 s).pwr := (resetTo_touches 0 _ s).part .pwr (by decide)
  rw [powerOnReset_eq, timelineOrHold_phase, hp, hb, congrArg SysSt.resetLow hs, resetTo_resetLow]
  rfl

/-- What a brown-out leaves holds no reset's effect back: it is held, and the pins are at their safe-state row values or unsettled. -/
theorem brownOut_eq (s : State) (h : s.sys.phase ≠ .noVin) : brownOut s = pathDrives s (hold .noVin (resetTo 0 Fd.SYS_RESET_CAUSE_BROWN_OUT
    (exportInterrupted (lcsInterrupted (uflInterrupted (cfgInterrupted (storeCuts s))))))) := if_neg h

@[simp] theorem hold_mem (p : Phase) (t : State) : (hold p t).mem = t.mem := rfl
@[simp] theorem hold_rd (p : Phase) (t : State) (f : Fld) : (hold p t).rd f = t.rd f := rfl
@[simp] theorem hold_phase (p : Phase) (t : State) : (hold p t).sys.phase = p := rfl
@[simp] theorem hold_resetLow (p : Phase) (t : State) : (hold p t).sys.resetLow = t.sys.resetLow := rfl
@[simp] theorem pathDrives_mem (s t : State) : (pathDrives s t).mem = t.mem := rfl
@[simp] theorem pathDrives_rd (s t : State) (f : Fld) : (pathDrives s t).rd f = t.rd f := rfl
@[simp] theorem pathDrives_sys (s t : State) : (pathDrives s t).sys = t.sys := rfl

theorem pathDrives_cleared (s t : State) (h : Cleared t) : Cleared (pathDrives s t) := by
  obtain ⟨hm, hq, hn, hp, ha, -, hh, hd, hac, hne, haw⟩ := h
  refine ⟨hm, hq, hn, hp, ha, ?_, hh, hd, hac, hne, haw⟩
  simp only [State.pinsSafe, pathDrives]
  split <;> rfl

theorem hold_cleared (p : Phase) (t : State) (h : Cleared t) : Cleared (hold p t) := h.of_touches (ps := [.sys]) (ks := []) (.of_puts [.sys])

theorem calm_of_touches {s t : State} {ps : List Part} {ks : List Keys} (h : Touches ps ks s t) (hc : s.calm = true)
    (hm : s.mode = Md.load)
    (hp : ∀ p ∈ ps, p ∉ [.saf, .net, .pwr] := by decide)
    (hk : [Fd.SYS_MODE_MODE, Fd.SAF_ACTIVE_ACTIVE].all (fun f => !ks.any (·.has f.key)) = true := by decide) : t.calm = true := by
  have rd : ∀ f, f ∈ [Fd.SYS_MODE_MODE, Fd.SAF_ACTIVE_ACTIVE] → t.rd f = s.rd f :=
    fun f hf => h.rd f (by simpa using List.all_eq_true.1 hk f hf)
  have saf : t.saf = s.saf := h.part .saf (fun hc => hp _ hc (by decide))
  have net : t.net = s.net := h.part .net (fun hc => hp _ hc (by decide))
  have pwr : t.pwr = s.pwr := h.part .pwr (fun hc => hp _ hc (by decide))
  have mode : t.mode = Md.load := (rd _ (by decide)).trans hm
  rw [State.calm_iff, State.quiet_iff] at hc ⊢
  obtain ⟨⟨h1, h2, h3, -, h5, h6, -⟩, h7⟩ := hc
  rw [saf, net, pwr, mode, rd _ (by decide)]
  exact ⟨⟨h1, h2, h3, .inr (by decide), h5, h6, .inl rfl⟩, h7⟩

theorem coldReset_of_absent (s : State) (h : 6 ∈ s.pwr.absent) : coldReset s = { s with sys := { s.sys with resetLow := true } } :=
  if_pos (.inr (by simp [resetNLow, h]))

theorem coldReset_of_running (s : State) (h : 6 ∉ s.pwr.absent) (hv : s.sys.phase ≠ .noVin) (hh : s.sys.phase ≠ .resetHeld) :
    coldReset s = hold .resetHeld (resetTo 1 Fd.SYS_RESET_CAUSE_PIN { s with sys := { s.sys with resetLow := true } }) := by
  unfold coldReset
  rw [if_neg (by simp [resetNLow, h, hv]), if_neg hh]

theorem resetCmd_of_key (v : Nat) (s : State) (hw : warmFrom s = true) (hk : v % 2 ^ 16 = 0x6B5D) (hv : v.testBit 16 = true) :
    resetCmd v s = warmReset Fd.SYS_RESET_CAUSE_WARM_CMD s := if_pos ⟨hk, hv, hw⟩

theorem resetCmd_of_other (v : Nat) (s : State) (h : v % 2 ^ 16 ≠ 0x6B5D ∨ v.testBit 16 = false) : resetCmd v s = s := by
  refine if_neg (fun hc => ?_)
  rcases h with h | h
  · exact h hc.1
  · simp [h] at hc

theorem nmtResetNode_of_warmFrom (s : State) (hw : warmFrom s = true) :
    nmtResetNode s = warmReset Fd.SYS_RESET_CAUSE_NMT_RESET s := by
  have hn : nmtServed s = true := by
    simp only [warmFrom, Bool.or_eq_true, beq_iff_eq] at hw
    simp only [nmtServed]
    rcases hw with ((h | h) | h) | h <;> rw [h] <;> rfl
  simp [nmtResetNode, hn, hw]

/-- What a command that ends in a cleared state answers. -/
theorem Cleared.nx_eq {t : State} (h : Cleared t) : nx t = .next t := by rw [nx, h.finish_eq]

/-- Settles O10: each reset is `resetTo` of its kind, which clears the blocks, and what follows it touches the phase and the log alone. -/
theorem resetsEnterLoad : Obligations.ResetsEnterLoad := by
  intro s v cleared keepsRet
  have told : ∀ u, Cleared u → cleared u := fun u h => ⟨h.mode, h.que, h.nib, h.pair, h.afe, h.pins, h.halted⟩
  refine ⟨?powerOn, fun hv => ?brownOut, fun ha => ?absent, fun ha hv hh => ?resetN, fun hh => ?release, fun hs hw => ⟨fun hk hb => ?warm,
    fun hk => ?otherKey, ?nmt⟩⟩
  case powerOn =>
    have h := powerOnReset_cleared s
    refine ⟨_, h.nx_eq, told _ h, ?_, ?_, powerOnReset_phase s⟩
    · have e : (powerOnReset s).mem = _ := (powerOnReset_touches s).part .mem (by decide)
      rw [e, resetTo_zero_mem]
    · rw [(powerOnReset_touches s).rd _ (by decide), resetTo_cause _ _ _ (by decide)]
  case brownOut =>
    have h := pathDrives_cleared s _ (hold_cleared .noVin _ (resetTo_cleared 0 Fd.SYS_RESET_CAUSE_BROWN_OUT
      (exportInterrupted (lcsInterrupted (uflInterrupted (cfgInterrupted (storeCuts s))))) (by decide) (by decide)))
    rw [← brownOut_eq s hv] at h
    refine ⟨_, h.nx_eq, told _ h, ?_⟩
    rw [brownOut_eq s hv, pathDrives_mem, hold_mem, pathDrives_rd, hold_rd, pathDrives_sys, hold_phase]
    exact ⟨resetTo_zero_mem _ _, resetTo_cause 0 _ _ (by decide), rfl⟩
  case absent => exact congrArg nx (coldReset_of_absent s ha)
  case resetN =>
    have h := hold_cleared .resetHeld _ (resetTo_cleared 1 Fd.SYS_RESET_CAUSE_PIN { s with sys := { s.sys with resetLow := true } }
      (by decide) (by decide))
    rw [← coldReset_of_running s ha hv hh] at h
    refine ⟨_, h.nx_eq, told _ h, ?_⟩
    rw [coldReset_of_running s ha hv hh, hold_rd, hold_phase, hold_resetLow, resetTo_resetLow]
    exact ⟨resetTo_mem_zero 1 _ _, resetTo_cause 1 _ _ (by decide), rfl, rfl⟩
  case release =>
    have e : resetRelease s = timeline { s with sys := { s.sys with resetLow := false } } := if_pos hh
    have ht : Touches [.sys, .log] [.blk 0x0610] s (resetRelease s) := by
      rw [e]
      exact .trans (t := { s with sys := { s.sys with resetLow := false } }) (.of_puts [.sys]) (timeline_touches _)
    refine ⟨resetRelease s, rfl, ?_, ?_, ht.rd _ (by decide), ht.part .mem (by decide), fun hc hm => ?_⟩
    · rw [e, timeline_phase]
    · rw [e, timeline, logReq_sys]
    · exact finish_of_calm _ (calm_of_touches ht hc hm)
  case warm =>
    have h := warmReset_cleared Fd.SYS_RESET_CAUSE_WARM_CMD s (by decide)
    have run : exec (.warmReset v) s = .next (finish (resetCmd v s)) := sysRun_of_sysOn (resetCmd v) s hs
    rw [resetCmd_of_key v s hw hk hb, h.finish_eq] at run
    exact ⟨_, run, told _ h, warmReset_mem_zero _ s, warmReset_cause _ s (by decide), warmReset_phase _ s, warmReset_lines _ s⟩
  case otherKey =>
    have run : exec (.warmReset v) s = .next (finish (resetCmd v s)) := sysRun_of_sysOn (resetCmd v) s hs
    rw [run, resetCmd_of_other v s hk]
  case nmt =>
    have h := warmReset_cleared Fd.SYS_RESET_CAUSE_NMT_RESET s (by decide)
    have run : exec .nmtResetNode s = .next (finish (nmtResetNode s)) := sysRun_of_sysOn nmtResetNode s hs
    rw [nmtResetNode_of_warmFrom s hw, h.finish_eq] at run
    exact ⟨_, run, told _ h, warmReset_mem_zero _ s, warmReset_cause _ s (by decide), warmReset_phase _ s⟩

end Sys2Proof.Machine

/-! The commands of CFG_CMD (R205 to R212, Table 9.7): their admission, their checks and what each does at once. -/

namespace Sys2Proof.Machine

set_option Elab.async false

open Sys2Proof

/-! ### The admission of a command of CFG_CMD -/

section Admission

variable (master op : Nat) (f : State → State) (s : State)

theorem cfgCmd_of_fabric (hm : isFabric master = true) (h : s.rd Fd.CFG_CMD_STAT_BUSY = 1 ∨ cfgCmdMode s = true) :
    cfgCmd master op f s = s.set1 Fd.CFG_STAT_FAB_CMD := by
  unfold cfgCmd
  rw [if_pos hm]
  split
  · rfl
  next hb =>
    have hc : cfgCmdMode s = true := h.resolve_left (fun e => hb (by simp [State.rdB, e]))
    rw [if_neg (by simp [hc])]

theorem cfgCmd_of_busy (hm : isFabric master = false) (h : s.rd Fd.CFG_CMD_STAT_BUSY = 1) :
    cfgCmd master op f s = cfgStatus St.busy s := by
  rw [cfgCmd, if_pos (by simp [State.rdB, h]), if_neg (by simp [hm])]

theorem cfgCmd_of_mode (h : s.rd Fd.CFG_CMD_STAT_BUSY = 0) (hc : cfgCmdMode s = false) :
    cfgCmd master op f s = cfgStatus St.refusedMode (s.wr Fd.CFG_CMD_STAT_OP op) := by
  rw [cfgCmd, if_neg (by simp [State.rdB, h]), if_pos (by simp [hc])]

theorem cfgCmd_of_admitted (hm : isFabric master = false) (h : s.rd Fd.CFG_CMD_STAT_BUSY = 0) (hc : cfgCmdMode s = true) :
    cfgCmd master op f s = f (s.wr Fd.CFG_CMD_STAT_OP op) := by
  rw [cfgCmd, if_neg (by simp [State.rdB, h]), if_neg (by simp [hc]), if_neg (by simp [hm])]

end Admission

/-- A command answers a status and leaves the configuration. -/
def CfgAnswers (s : State) (st : Nat) (u : State) : Prop :=
  u.rd Fd.CFG_CMD_STAT_STATUS = st ∧ u.rd Fd.CFG_CMD_STAT_BUSY = s.rd Fd.CFG_CMD_STAT_BUSY ∧ u.cfg = s.cfg ∧ u.mem = s.mem ∧ u.mode = s.mode

theorem cfgStatus_touches (st : Nat) (s : State) :
    Touches [.irq, .pwr] (.one Fd.CFG_CMD_STAT_STATUS :: irqKeys) s (cfgStatus st s) :=
  .trans (.wr s _ st) (irqEvent_touches 384 _).mono

theorem cfgStatus_rd (st : Nat) (s : State) (h : st < 256) : (cfgStatus st s).rd Fd.CFG_CMD_STAT_STATUS = st := by
  rw [cfgStatus, (irqEvent_touches 384 _).rd _ (by decide), State.rd_wr]
  exact Nat.mod_eq_of_lt h

theorem cfgStatus_answers {s t : State} (st : Nat) (h : Touches [] [.one Fd.CFG_CMD_STAT_OP] s t) (hst : st < 256 := by decide) :
    CfgAnswers s st (cfgStatus st t) := by
  have ht : Touches [.irq, .pwr] (.one Fd.CFG_CMD_STAT_OP :: .one Fd.CFG_CMD_STAT_STATUS :: irqKeys) s (cfgStatus st t) :=
    .trans h.mono (cfgStatus_touches st t).mono
  exact ⟨cfgStatus_rd st t hst, ht.rd _ (by decide), ht.part .cfg (by decide), ht.part .mem (by decide), ht.rd _ (by decide)⟩

/-! ### What a command reads once its op is shown -/

section Op

variable (op : Nat) (s : State)

theorem cfgOp_rd (f : Fld) (h : f.key ≠ Fd.CFG_CMD_STAT_OP.key := by decide) : (s.wr Fd.CFG_CMD_STAT_OP op).rd f = s.rd f :=
  State.rd_wr_ne s _ f op h

theorem bankFld_key_ne_op (b lo w r : Nat) : (⟨0x06050020 + 8 * b, lo, w, r⟩ : Fld).key ≠ Fd.CFG_CMD_STAT_OP.key := by
  simp only [Fld.key, Fd.CFG_CMD_STAT_OP]
  omega

@[simp] theorem cfgOp_addr : (s.wr Fd.CFG_CMD_STAT_OP op).rd Fd.CFG_ADDR_OFFSET = s.rd Fd.CFG_ADDR_OFFSET := cfgOp_rd op s _
@[simp] theorem cfgOp_auth (b : Nat) : (s.wr Fd.CFG_CMD_STAT_OP op).rd (Fd.CFG_BANK_STAT_AUTH b) = s.rd (Fd.CFG_BANK_STAT_AUTH b) :=
  cfgOp_rd op s _ (bankFld_key_ne_op b _ _ _)
@[simp] theorem cfgOp_loaded (b : Nat) :
    (s.wr Fd.CFG_CMD_STAT_OP op).rd (Fd.CFG_BANK_STAT_LOADED b) = s.rd (Fd.CFG_BANK_STAT_LOADED b) :=
  cfgOp_rd op s _ (bankFld_key_ne_op b _ _ _)
@[simp] theorem cfgOp_lcsState : lcsState (s.wr Fd.CFG_CMD_STAT_OP op) = lcsState s := cfgOp_rd op s _
@[simp] theorem cfgOp_mode : (s.wr Fd.CFG_CMD_STAT_OP op).mode = s.mode := cfgOp_rd op s _
@[simp] theorem cfgOp_bankOpen (b : Nat) : bankOpen (s.wr Fd.CFG_CMD_STAT_OP op) b = bankOpen s b := by simp [bankOpen, State.rdB]
@[simp] theorem cfgOp_manifest (b : Nat) : manifest (s.wr Fd.CFG_CMD_STAT_OP op) b = manifest s b := rfl
@[simp] theorem cfgOp_loadedManifest : loadedManifest (s.wr Fd.CFG_CMD_STAT_OP op) = loadedManifest s := by
  simp [loadedManifest, State.rdB]
@[simp] theorem cfgOp_swapReserved (k : Nat) : swapReserved (s.wr Fd.CFG_CMD_STAT_OP op) k = swapReserved s k := rfl
@[simp] theorem cfgOp_rowTarget : rowTarget (s.wr Fd.CFG_CMD_STAT_OP op) = rowTarget s := rfl
@[simp] theorem cfgOp_bank (b : Nat) : (s.wr Fd.CFG_CMD_STAT_OP op).bank b = s.bank b := rfl

end Op

/-! ### What the planes and the banks show -/

/-- The addresses of CFG_BANK_STAT and of CFG_SECT_STAT. -/
abbrev bankKeys : Keys := .addrs 0x06050020 0x06050030
abbrev sectKeys : Keys := .addrs 0x06050100 0x06050200

theorem bankKeys_has (b lo w r : Nat) (hb : b < 2) (hl : lo < 64 := by decide) : bankKeys.has (⟨0x06050020 + 8 * b, lo, w, r⟩ : Fld).key = true := by
  simp only [Keys.has, Bool.and_eq_true, decide_eq_true_eq]
  simp only [Fld.key]
  omega

theorem sectKeys_has (k lo w r : Nat) (hk : k < 32) (hl : lo < 64 := by decide) :
    sectKeys.has (⟨0x06050100 + 8 * k, lo, w, r⟩ : Fld).key = true := by
  simp only [Keys.has, Bool.and_eq_true, decide_eq_true_eq]
  simp only [Fld.key]
  omega

/-- A write of a field of CFG_BANK_STAT. -/
theorem Touches.wr_bank {ps : List Part} (s : State) (b lo w r v : Nat) (hb : b < 2) (hl : lo < 64 := by decide) :
    Touches ps [bankKeys] s (s.wr ⟨0x06050020 + 8 * b, lo, w, r⟩ v) := .wr _ _ _ (by simp [bankKeys_has b lo w r hb hl])

/-- A write of a field of CFG_SECT_STAT. -/
theorem Touches.wr_sect {ps : List Part} (s : State) (k lo w r v : Nat) (hk : k < 32) (hl : lo < 64 := by decide) :
    Touches ps [sectKeys] s (s.wr ⟨0x06050100 + 8 * k, lo, w, r⟩ v) := .wr _ _ _ (by simp [sectKeys_has k lo w r hk hl])

theorem sectShow_touches (k : Nat) (s : State) (hk : k < 32) : Touches [] [sectKeys] s (sectShow k s) := by
  unfold sectShow
  extract_lets s1
  have h1 : Touches [] [sectKeys] s s1 := by
    dsimp only [s1]
    split
    · exact .trans (.trans (.trans (.wr_sect _ k 1 1 _ _ hk) (.wr_sect _ k 2 1 _ _ hk)) (.wr_sect _ k 3 5 _ _ hk)) (.wr_sect _ k 32 16 _ _ hk)
    · exact .refl s
  refine h1.trans ?_
  clear_value s1
  split
  · exact .trans (.trans (.trans (.trans (.wr_sect _ k 8 2 _ _ hk) (.wr_sect _ k 10 1 _ _ hk)) (.wr_sect _ k 11 1 _ _ hk))
      (.wr_sect _ k 12 5 _ _ hk)) (.wr_sect _ k 48 16 _ _ hk)
  · exact .refl s1

theorem sectShowAll_touches (s : State) : Touches [] [sectKeys] s (sectShowAll s) :=
  .forEach_mem _ _ (fun k hk t => sectShow_touches k t (List.mem_range.1 hk)) s

theorem setAuth_touches (b : Nat) (ok : Bool) (s : State) (hb : b < 2) : Touches [] [bankKeys, sectKeys] s (setAuth b ok s) := by
  unfold setAuth
  extract_lets m
  have h : Touches [] [bankKeys] s (((s.wrB (Fd.CFG_BANK_STAT_AUTH b) ok).wr (Fd.CFG_BANK_STAT_SIGNER b) (if ok then mfSigner m else 0)).wr
      (Fd.CFG_BANK_STAT_IMAGE_ID b) (if ok then mfId m else 0)) :=
    .trans (.trans (.wr_bank _ b 0 1 _ _ hb) (.wr_bank _ b 3 1 _ _ hb)) (.wr_bank _ b 32 32 _ _ hb)
  exact h.mono.trans (sectShowAll_touches _).mono

/-- AUTH of a bank as it is set. -/
theorem setAuth_auth (b : Nat) (ok : Bool) (s : State) (hb : b < 2) :
    (setAuth b ok s).rd (Fd.CFG_BANK_STAT_AUTH b) = if ok then 1 else 0 := by
  have hk : [sectKeys].any (·.has (Fd.CFG_BANK_STAT_AUTH b).key) = false := by
    simp only [List.any_cons, List.any_nil, Bool.or_false, Keys.has, Bool.and_eq_false_iff, decide_eq_false_iff_not]
    simp only [Fld.key, Fd.CFG_BANK_STAT_AUTH]
    omega
  have hs : (Fd.CFG_BANK_STAT_AUTH b).key ≠ (Fd.CFG_BANK_STAT_SIGNER b).key := by
    simp [Fld.key, Fd.CFG_BANK_STAT_AUTH, Fd.CFG_BANK_STAT_SIGNER]
  have hi : (Fd.CFG_BANK_STAT_AUTH b).key ≠ (Fd.CFG_BANK_STAT_IMAGE_ID b).key := by
    simp [Fld.key, Fd.CFG_BANK_STAT_AUTH, Fd.CFG_BANK_STAT_IMAGE_ID]
  unfold setAuth
  rw [(sectShowAll_touches _).rd _ hk, State.rd_wr_ne _ _ _ _ hi, State.rd_wr_ne _ _ _ _ hs, State.wrB, State.rd_wr]
  cases ok <;> rfl

theorem bankWritten_touches (b : Nat) (s : State) (hb : b < 2) : Touches [.cfg] [bankKeys, sectKeys] s (bankWritten b s) := by
  unfold bankWritten
  extract_lets mark
  refine .trans ?_ (setAuth_touches b false _ hb).mono
  exact .of_puts [.cfg]

/-! ### A command is taken, and its program or erase begins -/

/-- What the taking of a command, with what it does at once, leaves shown. -/
def CfgTook (op : Nat) (u : State) : Prop :=
  u.rd Fd.CFG_CMD_STAT_BUSY = 1 ∧ u.rd Fd.CFG_CMD_STAT_OP = op ∧ ∃ x, u.cfg.cmd = some x ∧ x.op = op

/-- The program or erase of the command in progress has begun, unless it is held back. -/
def CfgBegun (u : State) (held : Bool) : Prop := ∃ x, u.cfg.cmd = some x ∧ x.started = !held

/-- What a command may touch between the show of its op and its taking. -/
abbrev cfgPrepKeys : List Keys := [bankKeys, sectKeys]

theorem cfgTake_took {s t : State} (op b a sector slot : Nat) (ho : op < 16)
    (h : Touches [.bst, .cfg] cfgPrepKeys (s.wr Fd.CFG_CMD_STAT_OP op) t) : CfgTook op (cfgTake op b a sector slot t) := by
  have hr : t.rd Fd.CFG_CMD_STAT_OP = op := by
    rw [h.rd _ (by decide), State.rd_wr]
    exact Nat.mod_eq_of_lt ho
  refine ⟨State.rd_wr t _ 1, ?_, _, rfl, rfl⟩
  exact (State.rd_wr_ne t _ _ 1 (by decide)).trans hr

theorem cfgTake_rd_ne (op b a sector slot : Nat) (t : State) (f : Fld) (h : f.key ≠ Fd.CFG_CMD_STAT_BUSY.key) :
    (cfgTake op b a sector slot t).rd f = t.rd f := State.rd_wr_ne t Fd.CFG_CMD_STAT_BUSY f 1 h

@[simp] theorem cfgTake_bank (op b a sector slot : Nat) (t : State) (c : Nat) : (cfgTake op b a sector slot t).bank c = t.bank c := rfl

@[simp] theorem setBank_cmd (s : State) (b : Nat) (f : Flash) : (s.setBank b f).cfg.cmd = s.cfg.cmd := by
  unfold State.setBank
  split <;> rfl

@[simp] theorem setBank_bank (s : State) (b : Nat) (f : Flash) : (s.setBank b f).bank b = f := by
  unfold State.setBank State.bank
  by_cases h : b = 0
  · simp [h]
  · simp [h]

/-- The command in progress, marked begun. -/
def cfgStarted (c : CfgCmdSt) (s : State) : State := { s with cfg := { s.cfg with cmd := some { c with started := true } } }

@[simp] theorem cfgStarted_bank (c : CfgCmdSt) (s : State) (b : Nat) : (cfgStarted c s).bank b = s.bank b := rfl

/-- The mark that the program or erase of a command leaves as it begins. -/
def cfgMark (c : CfgCmdSt) (t : State) : State :=
  match c.op with
  | 2 => t.setBank c.bank ((t.bank c.bank).eraseBegin (c.addr / 0x10000))
  | 3 => { t.setBank c.bank ((t.bank c.bank).flagPage (c.addr / 512)) with
      cfg := { (t.setBank c.bank ((t.bank c.bank).flagPage (c.addr / 512))).cfg with pageAt := some t.now } }
  | 10 => { t with cfg := { t.cfg with row := t.cfg.row.eraseBegin c.addr, rowErased := some c.addr } }
  | 11 => { t with cfg := { t.cfg with row := t.cfg.row.flagPage (c.addr / 512) } }
  | _ => t

theorem cfgMark_cmd (c : CfgCmdSt) (t : State) : (cfgMark c t).cfg.cmd = t.cfg.cmd := by
  unfold cfgMark
  split
  · exact setBank_cmd _ _ _
  · exact setBank_cmd _ _ _
  · rfl
  · rfl
  · rfl

section Begin

variable {s : State} {c : CfgCmdSt} (hc : s.cfg.cmd = some c)
include hc

theorem cfgBegin_of_held (hp : paceOpen s c.op = false) : cfgBegin s = s := by
  unfold cfgBegin
  rw [hc]
  exact if_pos (.inr hp)

theorem cfgBegin_of_open (hn : c.started = false) (hp : paceOpen s c.op = true) : cfgBegin s = cfgMark c (cfgStarted c s) := by
  unfold cfgBegin
  rw [hc]
  exact if_neg (by simp [hn, hp])

theorem cfgBegin_cmd (hn : c.started = false) : (cfgBegin s).cfg.cmd = some { c with started := paceOpen s c.op } := by
  cases hp : paceOpen s c.op with
  | false => rw [cfgBegin_of_held hc hp, hc, ← hn]
  | true => rw [cfgBegin_of_open hc hn hp, cfgMark_cmd]; rfl

end Begin

theorem cfgMark_touches (c : CfgCmdSt) (t : State) : Touches [.cfg] [] t (cfgMark c t) := by
  unfold cfgMark
  split
  · exact setBank_touches _ _ _
  · exact .trans (setBank_touches c.bank ((t.bank c.bank).flagPage (c.addr / 512)) t) (.of_puts [.cfg])
  · exact .of_puts [.cfg]
  · exact .of_puts [.cfg]
  · exact .refl t

theorem cfgBegin_touches (s : State) : Touches [.cfg] [] s (cfgBegin s) := by
  cases hc : s.cfg.cmd with
  | none => rw [cfgBegin, hc]; exact .refl s
  | some c =>
    by_cases h : c.started = false ∧ paceOpen s c.op = true
    · rw [cfgBegin_of_open hc h.1 h.2]
      exact .trans (.of_puts [.cfg]) (cfgMark_touches c _)
    · have e : cfgBegin s = s := by
        unfold cfgBegin
        rw [hc]
        refine if_pos ?_
        cases hn : c.started <;> simp_all
      rw [e]
      exact .refl s

theorem cfgMark_erase (c : CfgCmdSt) (t : State) (ho : c.op = 2) :
    (cfgMark c t).bank c.bank = (t.bank c.bank).eraseBegin (c.addr / 0x10000) := by
  simp [cfgMark, ho]

theorem cfgMark_page (c : CfgCmdSt) (t : State) (ho : c.op = 3) :
    (cfgMark c t).bank c.bank = (t.bank c.bank).flagPage (c.addr / 512) := by
  rw [← setBank_bank t c.bank ((t.bank c.bank).flagPage (c.addr / 512))]
  simp only [cfgMark, ho]
  rfl

theorem cfgMark_rowErase (c : CfgCmdSt) (t : State) (ho : c.op = 10) :
    (cfgMark c t).cfg.row = t.cfg.row.eraseBegin c.addr ∧ (cfgMark c t).cfg.rowErased = some c.addr := by
  simp [cfgMark, ho]

theorem cfgMark_rowPage (c : CfgCmdSt) (t : State) (ho : c.op = 11) :
    (cfgMark c t).cfg.row = t.cfg.row.flagPage (c.addr / 512) := by
  simp [cfgMark, ho]

/-- What the write of a bank leaves of the configuration flash and of the pace. -/
theorem bankWritten_cfg (b : Nat) (s : State) (hb : b < 2) :
    (∀ c, (bankWritten b s).bank c = s.bank c) ∧ (bankWritten b s).cfg.pageAt = s.cfg.pageAt := by
  unfold bankWritten
  extract_lets mark
  have h : (setAuth b false { s with cfg := { s.cfg with active := s.cfg.active.map mark, shadow := s.cfg.shadow.map mark } }).cfg = _ :=
    (setAuth_touches b false _ hb).part .cfg (by decide)
  unfold State.bank
  rw [h]
  exact ⟨fun _ => rfl, rfl⟩

theorem bankWritten_auth (b : Nat) (s : State) (hb : b < 2) : (bankWritten b s).rd (Fd.CFG_BANK_STAT_AUTH b) = 0 :=
  setAuth_auth b false _ hb

/-! ### The pace (R206) -/

/-- The pace is that of a state with the same setting, device time and last page program. -/
theorem paceOpen_of_touches {s t : State} {ps : List Part} {ks : List Keys} (h : Touches ps ks s t) (ha : t.cfg.pageAt = s.cfg.pageAt)
    (hk : [Fd.SYS_ARB_CFG_IMGPROG_PACE, Fd.LOG_TIME_TIME].all (fun f => !ks.any (·.has f.key)) = true := by decide) (op : Nat) :
    paceOpen t op = paceOpen s op := by
  have rd : ∀ f, f ∈ [Fd.SYS_ARB_CFG_IMGPROG_PACE, Fd.LOG_TIME_TIME] → t.rd f = s.rd f :=
    fun f hf => h.rd f (by simpa using List.all_eq_true.1 hk f hf)
  unfold paceOpen paced paceTicks State.now
  rw [ha, rd _ (by decide), rd _ (by decide)]

theorem paceOpen_of_ne (s : State) (op : Nat) (h : (op != 3) = true) : paceOpen s op = !paced s := by simp [paceOpen, h]

section Take

variable {s t : State} {op : Nat} (b a : Nat) (ho : op < 16) (h : Touches [.bst, .cfg] cfgPrepKeys (s.wr Fd.CFG_CMD_STAT_OP op) t)
include h

theorem cfgTake_touches (sector slot : Nat) : Touches [.bst, .cfg] [bankKeys, sectKeys, .one Fd.CFG_CMD_STAT_OP, .one Fd.CFG_CMD_STAT_BUSY]
    s (cfgTake op b a sector slot t) := by
  have h1 : Touches [.bst, .cfg] [bankKeys, sectKeys, .one Fd.CFG_CMD_STAT_OP, .one Fd.CFG_CMD_STAT_BUSY] s t :=
    .trans (.wr s Fd.CFG_CMD_STAT_OP op) h.mono
  exact (h1.trans (.wr t Fd.CFG_CMD_STAT_BUSY 1)).trans (.of_puts [.cfg])

variable (ha : t.cfg.pageAt = s.cfg.pageAt)
include ha

theorem cfgTake_paceOpen : paceOpen (cfgTake op b a 0 0 t) op = paceOpen s op :=
  paceOpen_of_touches (cfgTake_touches b a h 0 0) ha (op := op)

include ho

/-- The program or erase of a command that is taken begins as the pace permits. -/
theorem cfgBegin_cfgTake : CfgTook op (cfgBegin (cfgTake op b a 0 0 t)) ∧ CfgBegun (cfgBegin (cfgTake op b a 0 0 t)) (!paceOpen s op) := by
  have hc : (cfgTake op b a 0 0 t).cfg.cmd = some ⟨op, b, a, 0, 0, false, 0, 0⟩ := rfl
  obtain ⟨hb, hop, -⟩ := cfgTake_took op b a 0 0 ho h
  have hk := cfgBegin_touches (cfgTake op b a 0 0 t)
  have hx := cfgBegin_cmd hc rfl
  refine ⟨⟨(hk.rd _ (by decide)).trans hb, (hk.rd _ (by decide)).trans hop, _, hx, rfl⟩, _, hx, ?_⟩
  rw [Bool.not_not]
  exact cfgTake_paceOpen b a h ha

end Take

section BankWrite

variable {s : State} {b a : Nat} (hb : b < 2)
include hb

theorem bankWritten_prep (op : Nat) :
    Touches [.bst, .cfg] cfgPrepKeys (s.wr Fd.CFG_CMD_STAT_OP op) (bankWritten b (s.wr Fd.CFG_CMD_STAT_OP op)) :=
  (bankWritten_touches b _ hb).mono

/-- A command that writes a bank is taken with AUTH of the bank cleared. -/
theorem cfgBegin_bankWritten_auth (op : Nat) :
    (cfgBegin (cfgTake op b a 0 0 (bankWritten b (s.wr Fd.CFG_CMD_STAT_OP op)))).rd (Fd.CFG_BANK_STAT_AUTH b) = 0 := by
  have ne : (Fd.CFG_BANK_STAT_AUTH b).key ≠ Fd.CFG_CMD_STAT_BUSY.key := by
    simp only [Fld.key, Fd.CFG_BANK_STAT_AUTH, Fd.CFG_CMD_STAT_BUSY]
    omega
  rw [(cfgBegin_touches _).rd _ rfl, cfgTake_rd_ne _ _ _ _ _ _ _ ne, bankWritten_auth b _ hb]

theorem cfgBegin_erase_bank : (cfgBegin (cfgTake 2 b a 0 0 (bankWritten b (s.wr Fd.CFG_CMD_STAT_OP 2)))).bank b =
    if !paceOpen s 2 then s.bank b else (s.bank b).eraseBegin (a / 0x10000) := by
  obtain ⟨hk, hp⟩ := bankWritten_cfg b (s.wr Fd.CFG_CMD_STAT_OP 2) hb
  have hc : (cfgTake 2 b a 0 0 (bankWritten b (s.wr Fd.CFG_CMD_STAT_OP 2))).cfg.cmd = some ⟨2, b, a, 0, 0, false, 0, 0⟩ := rfl
  have ho := cfgTake_paceOpen b a (bankWritten_prep hb 2) hp
  rw [← ho]
  split
  next h => rw [cfgBegin_of_held hc (by simpa using h), cfgTake_bank, hk, cfgOp_bank]
  next h => rw [cfgBegin_of_open hc rfl (by simpa using h), cfgMark_erase _ _ rfl, cfgStarted_bank, cfgTake_bank, hk, cfgOp_bank]

theorem cfgBegin_program_bank : (cfgBegin (cfgTake 3 b a 0 0 (bankWritten b (s.wr Fd.CFG_CMD_STAT_OP 3)))).bank b =
    if !paceOpen s 3 then s.bank b else (s.bank b).flagPage (a / 512) := by
  obtain ⟨hk, hp⟩ := bankWritten_cfg b (s.wr Fd.CFG_CMD_STAT_OP 3) hb
  have hc : (cfgTake 3 b a 0 0 (bankWritten b (s.wr Fd.CFG_CMD_STAT_OP 3))).cfg.cmd = some ⟨3, b, a, 0, 0, false, 0, 0⟩ := rfl
  have ho := cfgTake_paceOpen b a (bankWritten_prep hb 3) hp
  rw [← ho]
  split
  next h => rw [cfgBegin_of_held hc (by simpa using h), cfgTake_bank, hk, cfgOp_bank]
  next h => rw [cfgBegin_of_open hc rfl (by simpa using h), cfgMark_page _ _ rfl, cfgStarted_bank, cfgTake_bank, hk, cfgOp_bank]

end BankWrite

theorem cfgBegin_rowErase (s : State) (h : Nat) : let u := cfgBegin (cfgTake 10 0 h 0 0 (s.wr Fd.CFG_CMD_STAT_OP 10))
    u.cfg.rowErased = (if !paceOpen s 10 then s.cfg.rowErased else some h) ∧
    u.cfg.row = if !paceOpen s 10 then s.cfg.row else s.cfg.row.eraseBegin h := by
  have hc : (cfgTake 10 0 h 0 0 (s.wr Fd.CFG_CMD_STAT_OP 10)).cfg.cmd = some ⟨10, 0, h, 0, 0, false, 0, 0⟩ := rfl
  have ho := cfgTake_paceOpen (s := s) (op := 10) 0 h (.refl _) rfl
  rw [← ho]
  split
  next hp =>
    rw [cfgBegin_of_held hc (by simpa using hp)]
    exact ⟨rfl, rfl⟩
  next hp =>
    rw [cfgBegin_of_open hc rfl (by simpa using hp)]
    obtain ⟨hr, he⟩ := cfgMark_rowErase ⟨10, 0, h, 0, 0, false, 0, 0⟩
      (cfgStarted ⟨10, 0, h, 0, 0, false, 0, 0⟩ (cfgTake 10 0 h 0 0 (s.wr Fd.CFG_CMD_STAT_OP 10))) rfl
    exact ⟨he, hr⟩

theorem cfgBegin_rowProgram (s : State) (a : Nat) : (cfgBegin (cfgTake 11 0 a 0 0 (s.wr Fd.CFG_CMD_STAT_OP 11))).cfg.row =
    if !paceOpen s 11 then s.cfg.row else s.cfg.row.flagPage (a / 512) := by
  have hc : (cfgTake 11 0 a 0 0 (s.wr Fd.CFG_CMD_STAT_OP 11)).cfg.cmd = some ⟨11, 0, a, 0, 0, false, 0, 0⟩ := rfl
  have ho := cfgTake_paceOpen (s := s) (op := 11) 0 a (.refl _) rfl
  rw [← ho]
  split
  next h => rw [cfgBegin_of_held hc (by simpa using h)]; rfl
  next h => rw [cfgBegin_of_open hc rfl (by simpa using h), cfgMark_rowPage _ _ rfl]; rfl

/-! ### The shadow plane of a sector -/

/-- The plane that a shadow load shows while it runs. -/
def shadowLoading (b slot : Nat) (m : List Byte) : Plane := ⟨1, b, slot, 0, mfPlLimit m, 0, false, [], 0, [], [], none, false⟩

/-- A slot of a manifest is there, may go to a sector, and has the FPLL settings of the loaded image. -/
def shadowFits (s : State) (man : List Byte) (slot sector : Nat) : Bool :=
  mfPresent man slot && (mfTargets man slot).testBit sector && (match loadedManifest s with | some l => sameFpll man l | none => false)

/-- The shadow of a sector becomes LOADING. -/
def shadowBegin (b slot sector : Nat) (m : List Byte) (t : State) : State :=
  let t1 := bstYield 18 (shadowEmpty sector t)
  sectShow sector { t1 with cfg := { t1.cfg with shadow := mapPut t1.cfg.shadow sector (shadowLoading b slot m) } }

theorem bstYield_touches (t : Nat) (s : State) : Touches [.bst] [] s (bstYield t s) := by
  unfold bstYield
  split
  · exact .of_puts [.bst]
  · exact .refl s

theorem shadowEmpty_touches (k : Nat) (s : State) (hk : k < 32) : Touches [.cfg] [sectKeys] s (shadowEmpty k s) := by
  unfold shadowEmpty
  extract_lets _ s1
  have h1 : Touches [.cfg] [sectKeys] s s1 := .of_puts [.cfg]
  exact h1.trans <| .trans (.wr_sect s1 k 8 2 _ _ hk) <| .trans (.wr_sect _ k 10 1 _ _ hk) <| .trans (.wr_sect _ k 11 1 _ _ hk) <|
    .trans (.wr_sect _ k 12 5 _ _ hk) (.wr_sect _ k 48 16 _ _ hk)

theorem shadowEmpty_state (k : Nat) (s : State) : (shadowEmpty k s).rd (Fd.CFG_SECT_STAT_SHADOW_STATE k) = 0 := by
  have ne : ∀ f, f ∈ [Fd.CFG_SECT_STAT_SHD_REPAIRABLE k, Fd.CFG_SECT_STAT_SHD_SRC_BANK k, Fd.CFG_SECT_STAT_SHD_SRC_SLOT k,
      Fd.CFG_SECT_STAT_SHADOW_ID k] → (Fd.CFG_SECT_STAT_SHADOW_STATE k).key ≠ f.key := by
    simp [Fld.key, Fd.CFG_SECT_STAT_SHADOW_STATE, Fd.CFG_SECT_STAT_SHD_REPAIRABLE, Fd.CFG_SECT_STAT_SHD_SRC_BANK,
      Fd.CFG_SECT_STAT_SHD_SRC_SLOT, Fd.CFG_SECT_STAT_SHADOW_ID]
  simp only [List.forall_mem_cons] at ne
  obtain ⟨h1, h2, h3, h4, -⟩ := ne
  simp only [shadowEmpty, State.clr, State.rd_wr_ne _ _ _ _ h4, State.rd_wr_ne _ _ _ _ h3, State.rd_wr_ne _ _ _ _ h2,
    State.rd_wr_ne _ _ _ _ h1, State.rd_wr, Nat.zero_mod]

@[simp] theorem shadowEmpty_shadow (k : Nat) (s : State) : (shadowEmpty k s).cfg.shadow = mapDel s.cfg.shadow k := rfl
@[simp] theorem shadowEmpty_active (k : Nat) (s : State) : (shadowEmpty k s).cfg.active = s.cfg.active := rfl

theorem shadowBegin_touches (b slot sector : Nat) (m : List Byte) (t : State) (hk : sector < 32) :
    Touches [.bst, .cfg] [sectKeys] t (shadowBegin b slot sector m t) := by
  unfold shadowBegin
  extract_lets t1
  have h1 : Touches [.bst, .cfg] [sectKeys] t t1 := .trans (shadowEmpty_touches sector t hk).mono (bstYield_touches 18 _).mono
  refine h1.trans (.trans ?_ (sectShow_touches sector _ hk).mono)
  exact .of_puts [.cfg]

theorem shadowBegin_shadow (b slot sector : Nat) (m : List Byte) (t : State) (hk : sector < 32) :
    mapGet? (shadowBegin b slot sector m t).cfg.shadow sector = some (shadowLoading b slot m) := by
  unfold shadowBegin
  extract_lets t1
  have h : (sectShow sector { t1 with cfg := { t1.cfg with shadow := mapPut t1.cfg.shadow sector (shadowLoading b slot m) } }).cfg = _ :=
    (sectShow_touches sector _ hk).part .cfg (by decide)
  rw [h]
  exact mapGet?_mapPut_self _ _ _

/-! ### The commands, once they are admitted -/

section Admitted

variable (master b slot sector : Nat) (s : State) (hm : isFabric master = false) (h : s.rd Fd.CFG_CMD_STAT_BUSY = 0)
  (hc : cfgCmdMode s = true)
include hm h hc

theorem cfgErase_eq : cfgErase master b s =
    if !bankOpen s b then cfgStatus St.access (s.wr Fd.CFG_CMD_STAT_OP 2)
    else if s.rd Fd.CFG_ADDR_OFFSET % 0x10000 ≠ 0 ∨ 0x1800000 ≤ s.rd Fd.CFG_ADDR_OFFSET then
      cfgStatus St.range (s.wr Fd.CFG_CMD_STAT_OP 2)
    else cfgBegin (cfgTake 2 b (s.rd Fd.CFG_ADDR_OFFSET) 0 0 (bankWritten b (s.wr Fd.CFG_CMD_STAT_OP 2))) := by
  rw [cfgErase, cfgCmd_of_admitted _ _ _ _ hm h hc]
  simp only [cfgOp_bankOpen, cfgOp_addr]

theorem cfgProgram_eq : cfgProgram master b s =
    if !bankOpen s b then cfgStatus St.access (s.wr Fd.CFG_CMD_STAT_OP 3)
    else if s.rd Fd.CFG_ADDR_OFFSET % 512 ≠ 0 ∨ 0x1800000 ≤ s.rd Fd.CFG_ADDR_OFFSET then
      cfgStatus St.range (s.wr Fd.CFG_CMD_STAT_OP 3)
    else if !(s.bank b).noneAbove 128 (s.rd Fd.CFG_ADDR_OFFSET / 512) then cfgStatus St.order (s.wr Fd.CFG_CMD_STAT_OP 3)
    else if !(s.bank b).pageFree 128 (s.rd Fd.CFG_ADDR_OFFSET / 512) then cfgStatus St.notErased (s.wr Fd.CFG_CMD_STAT_OP 3)
    else cfgBegin (cfgTake 3 b (s.rd Fd.CFG_ADDR_OFFSET) 0 0 (bankWritten b (s.wr Fd.CFG_CMD_STAT_OP 3))) := by
  rw [cfgProgram, cfgCmd_of_admitted _ _ _ _ hm h hc]
  simp only [cfgOp_bankOpen, cfgOp_addr, cfgOp_bank]
  rfl

theorem cfgReadPage_eq : cfgReadPage master b s =
    if s.rd Fd.CFG_ADDR_OFFSET % 512 ≠ 0 ∨ 0x1800000 ≤ s.rd Fd.CFG_ADDR_OFFSET then
      cfgStatus St.range (s.wr Fd.CFG_CMD_STAT_OP 4)
    else cfgTake 4 b (s.rd Fd.CFG_ADDR_OFFSET) 0 0 (s.wr Fd.CFG_CMD_STAT_OP 4) := by
  rw [cfgReadPage, cfgCmd_of_admitted _ _ _ _ hm h hc]
  simp only [cfgOp_addr]

theorem cfgShadowLoad_eq : cfgShadowLoad master b slot sector s =
    match manifest s b with
    | none => cfgStatus St.order (s.wr Fd.CFG_CMD_STAT_OP 6)
    | some m =>
      if !s.rdB (Fd.CFG_BANK_STAT_AUTH b) then cfgStatus St.order (s.wr Fd.CFG_CMD_STAT_OP 6)
      else if !mfPresent m slot ∨ !(mfTargets m slot).testBit sector then cfgStatus St.range (s.wr Fd.CFG_CMD_STAT_OP 6)
      else if !(match loadedManifest s with | some l => sameFpll m l | none => false) then cfgStatus St.range (s.wr Fd.CFG_CMD_STAT_OP 6)
      else if swapReserved s sector ≠ 0 then cfgStatus St.order (s.wr Fd.CFG_CMD_STAT_OP 6)
      else cfgTake 6 b 0 sector slot (shadowBegin b slot sector m (s.wr Fd.CFG_CMD_STAT_OP 6)) := by
  rw [cfgShadowLoad, cfgCmd_of_admitted _ _ _ _ hm h hc]
  simp only [cfgOp_manifest, State.rdB, cfgOp_auth, cfgOp_loadedManifest, cfgOp_swapReserved]
  rfl

/-- SHADOW_LOAD from an authenticated bank: whether the slot fits the sector and the loaded image, then whether a swap is armed. -/
theorem cfgShadowLoad_of_auth {man : List Byte} (hman : manifest s b = some man) (hau : s.rd (Fd.CFG_BANK_STAT_AUTH b) = 1) :
    cfgShadowLoad master b slot sector s =
    if shadowFits s man slot sector = false then cfgStatus St.range (s.wr Fd.CFG_CMD_STAT_OP 6)
    else if swapReserved s sector ≠ 0 then cfgStatus St.order (s.wr Fd.CFG_CMD_STAT_OP 6)
    else cfgTake 6 b 0 sector slot (shadowBegin b slot sector man (s.wr Fd.CFG_CMD_STAT_OP 6)) := by
  rw [cfgShadowLoad_eq master b slot sector s hm h hc, hman]
  dsimp only
  rw [if_neg (by simp [State.rdB, hau])]
  unfold shadowFits
  cases mfPresent man slot with
  | false => rfl
  | true =>
    cases (mfTargets man slot).testBit sector with
    | false => rfl
    | true => cases (match loadedManifest s with | some l => sameFpll man l | none => false) <;> rfl

theorem cfgShadowClear_eq : cfgShadowClear master sector s =
    if swapReserved s sector ≠ 0 then cfgStatus St.order (s.wr Fd.CFG_CMD_STAT_OP 7)
    else cfgStatus St.ok (shadowEmpty sector (bstYield 18 (s.wr Fd.CFG_CMD_STAT_OP 7))) := by
  rw [cfgShadowClear, cfgCmd_of_admitted _ _ _ _ hm h hc]
  simp only [cfgOp_swapReserved]
  rfl

theorem cfgCommit_eq : cfgCommit master b s =
    if !s.rdB (Fd.CFG_BANK_STAT_AUTH b) then cfgStatus St.order (s.wr Fd.CFG_CMD_STAT_OP 8)
    else (cfgTake 8 b 0 0 0 (s.wr Fd.CFG_CMD_STAT_OP 8)).wr Fd.CFG_CMD_STAT_PHASE 1 := by
  rw [cfgCommit, cfgCmd_of_admitted _ _ _ _ hm h hc]
  simp only [State.rdB, cfgOp_auth]
  rfl

theorem cfgRestart_eq : cfgRestart master s =
    if s.mode = Md.standby ∨ s.mode = Md.safe then
      warmReset Fd.SYS_RESET_CAUSE_WARM_CMD ((s.wr Fd.CFG_CMD_STAT_OP 9).wr Fd.CFG_CMD_STAT_STATUS St.ok)
    else cfgStatus St.refusedMode (s.wr Fd.CFG_CMD_STAT_OP 9) := by
  rw [cfgRestart, cfgCmd_of_admitted _ _ _ _ hm h hc]
  simp only [cfgOp_mode]

theorem cfgRowErase_eq : cfgRowErase master s =
    if lcsState s = 3 then cfgStatus St.access (s.wr Fd.CFG_CMD_STAT_OP 10)
    else cfgBegin (cfgTake 10 0 (rowTarget s) 0 0 (s.wr Fd.CFG_CMD_STAT_OP 10)) := by
  rw [cfgRowErase, cfgCmd_of_admitted _ _ _ _ hm h hc]
  simp only [cfgOp_lcsState, cfgOp_rowTarget]

theorem cfgRowProgram_eq : cfgRowProgram master s =
    if lcsState s = 3 then cfgStatus St.access (s.wr Fd.CFG_CMD_STAT_OP 11)
    else if s.cfg.rowErased ≠ some (rowTarget s) then cfgStatus St.order (s.wr Fd.CFG_CMD_STAT_OP 11)
    else if s.rd Fd.CFG_ADDR_OFFSET % 512 ≠ 0 ∨ 0x1000 ≤ s.rd Fd.CFG_ADDR_OFFSET then cfgStatus St.range (s.wr Fd.CFG_CMD_STAT_OP 11)
    else if !s.cfg.row.noneAbove 16 (rowTarget s * 16 + s.rd Fd.CFG_ADDR_OFFSET / 512) then
      cfgStatus St.order (s.wr Fd.CFG_CMD_STAT_OP 11)
    else if !s.cfg.row.pageFree 16 (rowTarget s * 16 + s.rd Fd.CFG_ADDR_OFFSET / 512) then
      cfgStatus St.notErased (s.wr Fd.CFG_CMD_STAT_OP 11)
    else cfgBegin (cfgTake 11 0 (rowTarget s * 0x2000 + s.rd Fd.CFG_ADDR_OFFSET) 0 0 (s.wr Fd.CFG_CMD_STAT_OP 11)) := by
  rw [cfgRowProgram, cfgCmd_of_admitted _ _ _ _ hm h hc]
  simp only [cfgOp_lcsState, cfgOp_rowTarget, cfgOp_addr, State.wr_cfg]
  rfl

end Admitted

/-! ### The obligation -/

/-- The commands of CFG_CMD. -/
abbrev cfgCommands (m b slot sector : Nat) : List Instr :=
  [.authBank m b, .cfgEraseBlock m b, .cfgProgramPage m b, .readPage m b, .hashSlot m b slot, .shadowLoad m b slot sector,
    .shadowClear m sector, .cfgCommit m b, .restart m, .rowErase m, .rowProgram m]

/-- Every command of CFG_CMD is a write of an op by a master. -/
theorem exec_cfgCommand (m b slot sector : Nat) (s : State) (c : Instr) (hc : c ∈ cfgCommands m b slot sector) :
    ∃ op f, exec c s = busRun m (cfgCmd m op f) s := by
  simp only [List.mem_cons, List.not_mem_nil, or_false] at hc
  rcases hc with rfl | rfl | rfl | rfl | rfl | rfl | rfl | rfl | rfl | rfl | rfl <;> exact ⟨_, _, rfl⟩

/-- Settles O49: who gives a command and when is told by `cfgCmd`, and each admitted command by its own equation. -/
theorem configurationCommands : Obligations.ConfigurationCommands := by
  intro s m b slot sector man hs hb hk a all ends held took begun late writable page
  have no : ∀ {x : Bool}, x = false → (!x) = true := fun h => by rw [h]; rfl
  have yes : ∀ {x : Bool}, x = true → ¬(!x) = true := fun h => by rw [h]; decide
  have served : ∀ f : State → State, masterServed s m = true → busRun m f s = .next (finish (f s)) :=
    fun f hm => busRun_of_served m f s hs hm
  have answered : ∀ (c : Instr) (u : State) (st : Nat), exec c s = .next (finish u) → CfgAnswers s st u → ends c st :=
    fun c u st h ha => ⟨u, h, ha⟩
  have opOnly : ∀ op, Touches [] [.one Fd.CFG_CMD_STAT_OP] s (s.wr Fd.CFG_CMD_STAT_OP op) := fun op => .wr s _ op
  refine ⟨fun hm c hc => ?unserved, fun hm => ⟨fun hf hd c hc => ?fabric, fun hf hd c hc => ?busy, fun hd hq c hc => ?mode,
    fun hf hd hq => ?admitted⟩⟩
  case unserved =>
    obtain ⟨op, f, e⟩ := exec_cfgCommand m b slot sector s c hc
    rw [e, busRun_of_unserved m _ s hs hm]
  case fabric =>
    obtain ⟨op, f, e⟩ := exec_cfgCommand m b slot sector s c hc
    rw [e, served _ hm, cfgCmd_of_fabric m op f s hf hd]
  case busy =>
    obtain ⟨op, f, e⟩ := exec_cfgCommand m b slot sector s c hc
    rw [served _ hm, cfgCmd_of_busy m op f s hf hd] at e
    exact answered c _ 1 e (cfgStatus_answers St.busy (.refl s))
  case mode =>
    obtain ⟨op, f, e⟩ := exec_cfgCommand m b slot sector s c hc
    rw [served _ hm, cfgCmd_of_mode m op f s hd hq] at e
    exact answered c _ 2 e (cfgStatus_answers St.refusedMode (opOnly op))
  have status : ∀ (c : Instr) (f : State → State) (op st : Nat), exec c s = busRun m f s → f s = cfgStatus st (s.wr Fd.CFG_CMD_STAT_OP op) →
      st < 256 → ends c st := fun c f op st e he hst =>
    answered c _ st (by rw [e, served _ hm, he]) (cfgStatus_answers st (opOnly op) hst)
  have admits : ∀ (c : Instr) (f : State → State) (P : State → Prop), exec c s = busRun m f s → P (f s) →
      ∃ u, exec c s = .next (finish u) ∧ P u := fun c f P e hp => ⟨f s, by rw [e, served _ hm], hp⟩
  have opened : ∀ op, op ≠ 3 → (!paceOpen s op) = held := fun op ho => by rw [paceOpen_of_ne s op (by simpa using ho), Bool.not_not]
  refine ⟨?auth, ?hash, fun hw => ⟨?eraseAccess, ?programAccess⟩, fun hw ha => ?eraseRange, fun hw ha hl => ?erase, fun ha => ⟨?readRange, fun hw => ?programRange⟩,
    fun ha hl => ⟨?read, fun hw hn => ?programOrder, fun hw hn hp => ?programNotErased, fun hw hn hp => ?program⟩, fun hn => ?loadOrder,
    fun hn hu => ?load, fun hr => ?clearOrder, fun hr => ?clear, fun hu => ?commitOrder, fun hu => ?commit, fun hr => ?restart,
    fun h1 h2 => ?restartMode, fun hl => ⟨?rowEraseAccess, ?rowProgramAccess⟩, fun hl => ⟨?rowErase, fun he => ?rowOrder, fun he =>
      ⟨fun ha => ?rowRange, fun ha h2 hn => ?rowAbove, fun ha h2 hn hp => ?rowNotErased, fun ha h2 hn hp => ?rowProgram⟩⟩⟩
  case auth =>
    refine admits _ (cfgAuthBank m b) (CfgTook 1) rfl ?_
    rw [cfgAuthBank, cfgCmd_of_admitted m 1 _ s hf hd hq]
    exact cfgTake_took 1 b 0 0 0 (by decide) (.refl _)
  case hash =>
    refine admits _ (cfgHashSlot m b slot) (CfgTook 5) rfl ?_
    rw [cfgHashSlot, cfgCmd_of_admitted m 5 _ s hf hd hq]
    exact cfgTake_took 5 b 0 0 slot (by decide) (.refl _)
  case eraseAccess =>
    exact status _ (cfgErase m b) 2 5 rfl (by rw [cfgErase_eq m b s hf hd hq, if_pos (no hw)]; rfl) (by decide)
  case programAccess =>
    exact status _ (cfgProgram m b) 3 5 rfl (by rw [cfgProgram_eq m b s hf hd hq, if_pos (no hw)]; rfl) (by decide)
  case eraseRange =>
    exact status _ (cfgErase m b) 2 9 rfl (by rw [cfgErase_eq m b s hf hd hq, if_neg (yes hw), if_pos ha]; rfl) (by decide)
  case erase =>
    have e : cfgErase m b s = cfgBegin (cfgTake 2 b a 0 0 (bankWritten b (s.wr Fd.CFG_CMD_STAT_OP 2))) := by
      rw [cfgErase_eq m b s hf hd hq, if_neg (yes hw), if_neg (by omega)]
    have hbeg := cfgBegin_cfgTake b a (by decide) (bankWritten_prep hb 2) (bankWritten_cfg b (s.wr Fd.CFG_CMD_STAT_OP 2) hb).2
    rw [opened 2 (by decide)] at hbeg
    refine admits _ (cfgErase m b) (fun u => CfgTook 2 u ∧ CfgBegun u held ∧
      u.bank b = (if held then s.bank b else (s.bank b).eraseBegin (a / 0x10000)) ∧ u.rd (Fd.CFG_BANK_STAT_AUTH b) = 0) rfl ?_
    rw [e]
    refine ⟨hbeg.1, hbeg.2, ?_, cfgBegin_bankWritten_auth hb 2⟩
    rw [cfgBegin_erase_bank hb, opened 2 (by decide)]
  case programRange =>
    exact status _ (cfgProgram m b) 3 9 rfl
      (by rw [cfgProgram_eq m b s hf hd hq, if_neg (yes hw), if_pos ha]; rfl) (by decide)
  case readRange =>
    exact status _ (cfgReadPage m b) 4 9 rfl (by rw [cfgReadPage_eq m b s hf hd hq, if_pos ha]; rfl) (by decide)
  case read =>
    refine admits _ (cfgReadPage m b) (CfgTook 4) rfl ?_
    rw [cfgReadPage_eq m b s hf hd hq, if_neg (by omega)]
    exact cfgTake_took 4 b _ 0 0 (by decide) (.refl _)
  case programOrder =>
    exact status _ (cfgProgram m b) 3 4 rfl (by
      rw [cfgProgram_eq m b s hf hd hq, if_neg (yes hw), if_neg (by omega), if_pos (no hn)]; rfl) (by decide)
  case programNotErased =>
    exact status _ (cfgProgram m b) 3 3 rfl (by
      rw [cfgProgram_eq m b s hf hd hq, if_neg (yes hw), if_neg (by omega), if_neg (yes hn),
        if_pos (no hp)]; rfl) (by decide)
  case program =>
    have e : cfgProgram m b s = cfgBegin (cfgTake 3 b a 0 0 (bankWritten b (s.wr Fd.CFG_CMD_STAT_OP 3))) := by
      rw [cfgProgram_eq m b s hf hd hq, if_neg (yes hw), if_neg (by omega), if_neg (yes hn), if_neg (yes hp)]
    have hbeg := cfgBegin_cfgTake b a (by decide) (bankWritten_prep hb 3) (bankWritten_cfg b (s.wr Fd.CFG_CMD_STAT_OP 3) hb).2
    refine admits _ (cfgProgram m b) (fun u => CfgTook 3 u ∧ CfgBegun u late ∧
      u.bank b = (if late then s.bank b else (s.bank b).flagPage (a / 512)) ∧ u.rd (Fd.CFG_BANK_STAT_AUTH b) = 0) rfl ?_
    rw [e]
    exact ⟨hbeg.1, hbeg.2, cfgBegin_program_bank hb, cfgBegin_bankWritten_auth hb 3⟩
  case loadOrder =>
    refine status _ (cfgShadowLoad m b slot sector) 6 4 rfl ?_ (by decide)
    rw [cfgShadowLoad_eq m b slot sector s hf hd hq]
    split
    · rfl
    next he =>
      have hz := hn.resolve_left (by simp [he])
      exact if_pos (by simp [State.rdB, hz])
  case load =>
    have e := cfgShadowLoad_of_auth m b slot sector s hf hd hq hn hu
    refine ⟨fun (hx : shadowFits s man slot sector = false) => ?_, fun (hx : shadowFits s man slot sector = true) hr => ?_,
      fun (hx : shadowFits s man slot sector = true) hr => ?_⟩
    · exact status _ (cfgShadowLoad m b slot sector) 6 9 rfl (by rw [e, if_pos hx]; rfl) (by decide)
    · exact status _ (cfgShadowLoad m b slot sector) 6 4 rfl (by rw [e, if_neg (by simpa using hx), if_pos hr]; rfl) (by decide)
    · rw [if_neg (by simpa using hx), if_neg (by simpa using hr)] at e
      refine ⟨cfgShadowLoad m b slot sector s, shadowLoading b slot man, served _ hm, ?_⟩
      rw [e]
      exact ⟨cfgTake_took 6 b 0 sector slot (by decide) (shadowBegin_touches b slot sector man _ hk).mono,
        shadowBegin_shadow b slot sector man _ hk, rfl, rfl, rfl⟩
  case clearOrder =>
    exact status _ (cfgShadowClear m sector) 7 4 rfl (by rw [cfgShadowClear_eq m sector s hf hd hq, if_pos hr]; rfl) (by decide)
  case clear =>
    have e : cfgShadowClear m sector s = cfgStatus St.ok (shadowEmpty sector (bstYield 18 (s.wr Fd.CFG_CMD_STAT_OP 7))) := by
      rw [cfgShadowClear_eq m sector s hf hd hq, if_neg (by simpa using hr)]
    have hy : (bstYield 18 (s.wr Fd.CFG_CMD_STAT_OP 7)).cfg = s.cfg := (bstYield_touches 18 _).part .cfg (by decide)
    have off : ∀ k, k < 32 → (Keys.one Fd.CFG_CMD_STAT_STATUS :: irqKeys).any (·.has (Fd.CFG_SECT_STAT_SHADOW_STATE k).key) = false := by
      decide
    have hu : (cfgStatus St.ok (shadowEmpty sector (bstYield 18 (s.wr Fd.CFG_CMD_STAT_OP 7)))).cfg = _ :=
      (cfgStatus_touches St.ok _).part .cfg (by decide)
    refine ⟨cfgShadowClear m sector s, served _ hm, ?_⟩
    rw [e, hu, shadowEmpty_shadow, shadowEmpty_active, hy, mapGet?_mapDel_self, (cfgStatus_touches St.ok _).rd _ (off sector hk),
      shadowEmpty_state]
    exact ⟨cfgStatus_rd St.ok _ (by decide), rfl, rfl, rfl⟩
  case commitOrder =>
    exact status _ (cfgCommit m b) 8 4 rfl (by rw [cfgCommit_eq m b s hf hd hq, if_pos (by simp [State.rdB, hu])]; rfl) (by decide)
  case commit =>
    refine admits _ (cfgCommit m b) (fun u => CfgTook 8 u ∧ u.rd Fd.CFG_CMD_STAT_PHASE = 1) rfl ?_
    rw [cfgCommit_eq m b s hf hd hq, if_neg (by simp [State.rdB, hu])]
    obtain ⟨hb1, hop, hx⟩ := cfgTake_took (s := s) 8 b 0 0 0 (by decide) (.refl _)
    exact ⟨⟨(State.rd_wr_ne _ _ _ 1 (by decide)).trans hb1, (State.rd_wr_ne _ _ _ 1 (by decide)).trans hop, hx⟩, State.rd_wr _ _ 1⟩
  case restart =>
    have e : cfgRestart m s = warmReset Fd.SYS_RESET_CAUSE_WARM_CMD ((s.wr Fd.CFG_CMD_STAT_OP 9).wr Fd.CFG_CMD_STAT_STATUS St.ok) := by
      rw [cfgRestart_eq m s hf hd hq, if_pos hr]
    refine ⟨cfgRestart m s, served _ hm, ?_⟩
    rw [e]
    exact ⟨(warmReset_cleared _ _ (by decide)).mode, warmReset_cause _ _ (by decide)⟩
  case restartMode =>
    exact status _ (cfgRestart m) 9 2 rfl (by rw [cfgRestart_eq m s hf hd hq, if_neg (by simp [h1, h2])]; rfl) (by decide)
  case rowEraseAccess =>
    exact status _ (cfgRowErase m) 10 5 rfl (by rw [cfgRowErase_eq m s hf hd hq, if_pos hl]; rfl) (by decide)
  case rowProgramAccess =>
    exact status _ (cfgRowProgram m) 11 5 rfl (by rw [cfgRowProgram_eq m s hf hd hq, if_pos hl]; rfl) (by decide)
  case rowErase =>
    have hbeg := cfgBegin_cfgTake (s := s) (op := 10) 0 (rowTarget s) (by decide) (.refl _) rfl
    have hrow := cfgBegin_rowErase s (rowTarget s)
    rw [opened 10 (by decide)] at hbeg hrow
    refine admits _ (cfgRowErase m) (fun u => CfgTook 10 u ∧ CfgBegun u held ∧
      u.cfg.rowErased = (if held then s.cfg.rowErased else some (rowTarget s)) ∧
      u.cfg.row = (if held then s.cfg.row else s.cfg.row.eraseBegin (rowTarget s))) rfl ?_
    rw [cfgRowErase_eq m s hf hd hq, if_neg hl]
    exact ⟨hbeg.1, hbeg.2, hrow.1, hrow.2⟩
  case rowOrder =>
    exact status _ (cfgRowProgram m) 11 4 rfl (by rw [cfgRowProgram_eq m s hf hd hq, if_neg hl, if_pos he]; rfl) (by decide)
  case rowRange =>
    exact status _ (cfgRowProgram m) 11 9 rfl
      (by rw [cfgRowProgram_eq m s hf hd hq, if_neg hl, if_neg (by simpa using he), if_pos ha]; rfl) (by decide)
  case rowAbove =>
    exact status _ (cfgRowProgram m) 11 4 rfl (by
      rw [cfgRowProgram_eq m s hf hd hq, if_neg hl, if_neg (by simpa using he), if_neg (by omega), if_pos (no hn)]; rfl)
      (by decide)
  case rowNotErased =>
    exact status _ (cfgRowProgram m) 11 3 rfl (by
      rw [cfgRowProgram_eq m s hf hd hq, if_neg hl, if_neg (by simpa using he), if_neg (by omega), if_neg (yes hn),
        if_pos (no hp)]; rfl) (by decide)
  case rowProgram =>
    have hbeg := cfgBegin_cfgTake (s := s) (op := 11) 0 (rowTarget s * 0x2000 + a) (by decide) (.refl _) rfl
    have hrow := cfgBegin_rowProgram s (rowTarget s * 0x2000 + a)
    have hpage : (rowTarget s * 0x2000 + a) / 512 = page := by omega
    rw [opened 11 (by decide)] at hbeg hrow
    rw [hpage] at hrow
    refine admits _ (cfgRowProgram m) (fun u => CfgTook 11 u ∧ CfgBegun u held ∧
      u.cfg.row = (if held then s.cfg.row else s.cfg.row.flagPage page)) rfl ?_
    rw [cfgRowProgram_eq m s hf hd hq, if_neg hl, if_neg (by simpa using he), if_neg (by omega), if_neg (yes hn), if_neg (yes hp)]
    exact ⟨hbeg.1, hbeg.2, hrow⟩

end Sys2Proof.Machine

/-! The life cycle (R364 to R374, R379): the one-time-programmable memory, LCS_CMD, the ends of its commands, and debug certificates. -/

namespace Sys2Proof.Machine

set_option Elab.async false

open Sys2Proof

/-! ### The one-time-programmable memory (R364) -/

theorem otp_lt (s : State) (i : Nat) : otp s i < 2 ^ 32 := (mapGet 0 s.lcs.otp i).isLt

theorem otp_congr {s t : State} (h : t.lcs.otp = s.lcs.otp) (i : Nat) : otp t i = otp s i := by simp only [otp, h]

theorem otp_otpProg_self (i v : Nat) (s : State) : otp (otpProg i v s) i = otp s i ||| v % 2 ^ 32 := by
  simp [otp, otpProg, mapGet, mapGet?_mapPut_self]

theorem otp_otpProg_ne (i j v : Nat) (s : State) (h : j ≠ i) : otp (otpProg i v s) j = otp s j := by
  simp [otp, otpProg, mapGet, mapGet?_mapPut_ne _ _ _ _ h]

/-- The bits of `a` are among those of `b`, which are among those of `c`. -/
theorem and_eq_left_trans {a b c : Nat} (h : a &&& b = a) (g : b &&& c = b) : a &&& c = a := by
  rw [← h, Nat.land_assoc, g]

theorem otpProg_keeps (i v j : Nat) (s : State) : otp s j &&& otp (otpProg i v s) j = otp s j := by
  by_cases h : j = i
  · rw [h, otp_otpProg_self]
    apply Nat.eq_of_testBit_eq
    intro k
    cases hk : (otp s i).testBit k <;> simp [hk]
  · rw [otp_otpProg_ne _ _ _ _ h, Nat.and_self]

theorem otpProgs_nil (s : State) : otpProgs [] s = s := rfl
theorem otpProgs_cons (e : Nat × Nat) (l : List (Nat × Nat)) (s : State) : otpProgs (e :: l) s = otpProgs l (otpProg e.1 e.2 s) := rfl

/-- Programming clears no bit. -/
theorem otpProgs_keeps (l : List (Nat × Nat)) (i : Nat) (s : State) : otp s i &&& otp (otpProgs l s) i = otp s i := by
  induction l generalizing s with
  | nil => exact Nat.and_self _
  | cons e l ih =>
    rw [otpProgs_cons]
    exact and_eq_left_trans (otpProg_keeps e.1 e.2 i s) (ih _)

/-- Programming sets every bit of a word it names. -/
theorem otpProgs_sets (l : List (Nat × Nat)) (i v : Nat) (s : State) (h : (i, v) ∈ l) :
    otp (otpProgs l s) i &&& v % 2 ^ 32 = v % 2 ^ 32 := by
  induction l generalizing s with
  | nil => simp at h
  | cons e l ih =>
    rw [otpProgs_cons]
    rcases List.mem_cons.1 h with rfl | h
    · rw [Nat.land_comm]
      refine and_eq_left_trans ?_ (otpProgs_keeps l i (otpProg i v s))
      rw [otp_otpProg_self]
      apply Nat.eq_of_testBit_eq
      intro k
      cases hk : (v % 2 ^ 32).testBit k <;> simp only [Nat.testBit_and, Nat.testBit_or, hk, Bool.or_true, Bool.and_self, Bool.false_and]
    · exact ih _ h

/-- Programming leaves the words it does not name. -/
theorem otpProgs_of_not_mem (l : List (Nat × Nat)) (i : Nat) (s : State) (h : ∀ v, (i, v) ∉ l) : otp (otpProgs l s) i = otp s i := by
  induction l generalizing s with
  | nil => rfl
  | cons e l ih =>
    have hne : i ≠ e.1 := fun hc => h e.2 (by rw [hc]; exact List.mem_cons_self)
    rw [otpProgs_cons, ih _ (fun v hv => h v (List.mem_cons_of_mem e hv)), otp_otpProg_ne _ _ _ _ hne]

/-- A word programmed to all ones reads all ones. -/
theorem otpProgs_ones (l : List Nat) (i : Nat) (s : State) (h : i ∈ l) : otp (otpProgs (allOnes l) s) i = 2 ^ 32 - 1 := by
  have hs := otpProgs_sets (allOnes l) i (2 ^ 32 - 1) s (List.mem_map_of_mem h)
  rw [show (2 ^ 32 - 1) % 2 ^ 32 = 2 ^ 32 - 1 from rfl, Nat.and_two_pow_sub_one_eq_mod, Nat.mod_eq_of_lt (otp_lt _ i)] at hs
  exact hs

/-- Programming is on the OTP alone: the life-cycle command and the key buffers stay. -/
theorem otpProgs_lcs (l : List (Nat × Nat)) (s : State) : (otpProgs l s).lcs = { s.lcs with otp := (otpProgs l s).lcs.otp } := by
  induction l generalizing s with
  | nil => rfl
  | cons e l ih => rw [otpProgs_cons, ih]; rfl

/-- What is programmed depends on the OTP alone. -/
theorem otpProgs_otp_congr (l : List (Nat × Nat)) {s t : State} (h : t.lcs.otp = s.lcs.otp) :
    (otpProgs l t).lcs.otp = (otpProgs l s).lcs.otp := by
  induction l generalizing s t with
  | nil => exact h
  | cons e l ih =>
    rw [otpProgs_cons, otpProgs_cons]
    refine ih ?_
    simp only [otpProg, h]

theorem thermo_le (n v : Nat) : thermo n v ≤ n := by
  induction n generalizing v with
  | zero => exact Nat.le_refl 0
  | succ n ih =>
    rw [thermo]
    split
    · have := ih (v / 2)
      omega
    · omega

theorem otpNum_congr {s t : State} (h : t.lcs.otp = s.lcs.otp) (f : Nat → Nat) (n : Nat) : otpNum t f n = otpNum s f n := by
  induction n with
  | zero => rfl
  | succ n ih => rw [otpNum, otpNum, ih, otp_congr h]

theorem otpFloorVal_congr {s t : State} (h : t.lcs.otp = s.lcs.otp) : otpFloorVal t = otpFloorVal s := by
  rw [otpFloorVal, otpFloorVal, otpNum_congr h]

theorem otpCtrVal_congr {s t : State} (h : t.lcs.otp = s.lcs.otp) : otpCtrVal t = otpCtrVal s := by
  rw [otpCtrVal, otpCtrVal, otpNum_congr h]

/-! ### The admission of LCS_CMD (R20, R367) -/

/-- A life-cycle command answers a status; the OTP, the command in progress and the mode stay. -/
def LcsAnswers (s : State) (st : Nat) (u : State) : Prop :=
  u.rd Fd.LCS_CMD_STAT_STATUS = st ∧ u.lcs.otp = s.lcs.otp ∧ u.lcs.cmd = s.lcs.cmd ∧ u.mode = s.mode

/-- A life-cycle command is taken, and nothing is programmed yet. -/
def LcsTook (s : State) (op : Nat) (u : State) : Prop := u.rd Fd.LCS_CMD_STAT_BUSY = 1 ∧
  u.rd Fd.LCS_CMD_STAT_OP = op ∧ (∃ y, u.lcs.cmd = some y ∧ y.op = op) ∧ u.lcs.otp = s.lcs.otp ∧ u.mode = s.mode

theorem lcsStatus_touches (st : Nat) (s : State) :
    Touches [.irq, .pwr] (.one Fd.LCS_CMD_STAT_STATUS :: irqKeys) s (lcsStatus st s) :=
  .trans (.wr s _ st) (irqEvent_touches 399 _).mono

theorem lcsStatus_rd (st : Nat) (s : State) (h : st < 256) : (lcsStatus st s).rd Fd.LCS_CMD_STAT_STATUS = st := by
  rw [lcsStatus, (irqEvent_touches 399 _).rd _ (by decide), State.rd_wr]
  exact Nat.mod_eq_of_lt h

theorem lcsStatus_answers {s t : State} (st : Nat) (h : Touches [] [.one Fd.LCS_CMD_STAT_OP] s t) (hst : st < 256 := by decide) :
    LcsAnswers s st (lcsStatus st t) := by
  have ht : Touches [.irq, .pwr] (.one Fd.LCS_CMD_STAT_OP :: .one Fd.LCS_CMD_STAT_STATUS :: irqKeys) s (lcsStatus st t) :=
    .trans h.mono (lcsStatus_touches st t).mono
  have hl : (lcsStatus st t).lcs = s.lcs := ht.part .lcs (by decide)
  exact ⟨lcsStatus_rd st t hst, congrArg LcsSt.otp hl, congrArg LcsSt.cmd hl, ht.rd _ (by decide)⟩

theorem lcsTake_took (op slot : Nat) (words : List (Nat × Nat)) (s : State) (ho : op < 16 := by decide) :
    LcsTook s op (lcsTake op slot words s) := by
  have hb : (lcsTake op slot words s).rd Fd.LCS_CMD_STAT_BUSY = 1 := by
    refine (State.rd_wr_ne (s.set1 Fd.LCS_CMD_STAT_BUSY) Fd.LCS_CMD_STAT_OP Fd.LCS_CMD_STAT_BUSY op (by decide)).trans ?_
    exact State.rd_wr s Fd.LCS_CMD_STAT_BUSY 1
  have hm : (lcsTake op slot words s).mode = s.mode := by
    refine (State.rd_wr_ne (s.set1 Fd.LCS_CMD_STAT_BUSY) Fd.LCS_CMD_STAT_OP Fd.SYS_MODE_MODE op (by decide)).trans ?_
    exact State.rd_wr_ne s Fd.LCS_CMD_STAT_BUSY Fd.SYS_MODE_MODE 1 (by decide)
  refine ⟨hb, ?_, ⟨_, rfl, rfl⟩, rfl, hm⟩
  exact (State.rd_wr (s.set1 Fd.LCS_CMD_STAT_BUSY) Fd.LCS_CMD_STAT_OP op).trans (Nat.mod_eq_of_lt ho)

/-- The clearing of LCS_KEY_BUF matters to no answer. -/
theorem LcsAnswers.keyBufClear {s u : State} {st : Nat} (h : LcsAnswers s st u) : LcsAnswers s st (keyBufClear u) := h
theorem LcsTook.keyBufClear {s u : State} {op : Nat} (h : LcsTook s op u) : LcsTook s op (keyBufClear u) := h

/-- The modes in which a life-cycle command is taken. -/
def lcsMode (run : Bool) (s : State) : Prop := (s.mode = Md.standby ∨ s.mode = Md.safe) ∨ run = true ∧ driving s.mode = true

theorem lcsMode_iff (run : Bool) (s : State) :
    (s.mode == Md.standby || s.mode == Md.safe || (run && driving s.mode)) = true ↔ lcsMode run s := by
  simp [lcsMode]

section Gate

variable (master key want : Nat) (run : Bool) (f : State → State) (s : State)

theorem lcsCmd_of_fabric (hm : isFabric master = true) : lcsCmd master key want run f s = s.set1 Fd.DBG_STAT_FAB_CMD := if_pos hm

variable (hm : isFabric master = false)
include hm

theorem lcsCmd_of_busy (h : s.rd Fd.LCS_CMD_STAT_BUSY = 1) : lcsCmd master key want run f s = lcsStatus St.busy s := by
  rw [lcsCmd, if_neg (by simp [hm]), if_pos (by simp [State.rdB, h])]

variable (h : s.rd Fd.LCS_CMD_STAT_BUSY = 0)
include h

theorem lcsCmd_of_key (hk : key ≠ want) : lcsCmd master key want run f s = lcsStatus St.range s := by
  rw [lcsCmd, if_neg (by simp [hm]), if_neg (by simp [State.rdB, h]), if_pos hk]

variable (hk : key = want)
include hk

theorem lcsCmd_of_mode (hq : ¬lcsMode run s) : lcsCmd master key want run f s = lcsStatus St.refusedMode s := by
  rw [lcsCmd, if_neg (by simp [hm]), if_neg (by simp [State.rdB, h]), if_neg (by simp [hk]),
    if_pos (by rw [Bool.not_eq_true', ← Bool.not_eq_true, lcsMode_iff]; exact hq)]

theorem lcsCmd_of_vin (hv : s.pwr.vinLow = true) : lcsCmd master key want run f s = lcsStatus St.refusedMode s := by
  by_cases hq : lcsMode run s
  · rw [lcsCmd, if_neg (by simp [hm]), if_neg (by simp [State.rdB, h]), if_neg (by simp [hk]),
      if_neg (by rw [Bool.not_eq_true', Bool.not_eq_false, lcsMode_iff]; exact hq), if_pos hv]
  · exact lcsCmd_of_mode master key want run f s hm h hk hq

theorem lcsCmd_of_ready (hq : lcsMode run s) (hv : s.pwr.vinLow = false) : lcsCmd master key want run f s = f s := by
  rw [lcsCmd, if_neg (by simp [hm]), if_neg (by simp [State.rdB, h]), if_neg (by simp [hk]),
    if_neg (by rw [Bool.not_eq_true', Bool.not_eq_false, lcsMode_iff]; exact hq), if_neg (by simp [hv])]

end Gate

/-! ### The commands, once they are admitted -/

theorem lcsProvision_of_fabric (key slot master : Nat) (s : State) (hm : isFabric master = true) :
    lcsProvision key slot master s = s.set1 Fd.DBG_STAT_FAB_CMD := by
  rw [lcsProvision]
  dsimp only
  rw [if_pos hm, lcsCmd_of_fabric _ _ _ _ _ _ hm]

/-- What PROVISION does once it is admitted. -/
def provisionBody (k : Nat) (t : State) : State :=
  if lcsState t ≠ 0 then lcsStatus St.access t
  else if slotProv t k || (provWords t k).any (fun (e : Nat × Nat) => otp t e.1 &&& e.2 != otp t e.1) then lcsStatus St.order t
  else lcsTake 1 k (provWords t k ++ [(otpSlot k, codeSlot)]) t

theorem lcsProvision_eq (key slot master : Nat) (s : State) (hm : isFabric master = false) :
    lcsProvision key slot master s = keyBufClear (lcsCmd master key 0x9A0C false (provisionBody (slot % 4)) s) := by
  rw [lcsProvision]
  dsimp only
  rw [if_neg (by simp [hm])]
  rfl

/-- What RAISE_FLOOR does once it is admitted. -/
def raiseFloorBody (t : State) : State :=
  if lcsState t = 3 then lcsStatus St.access t
  else if 256 < t.rd Fd.LCS_ARG_FLOOR ∨ loadedVersion t < t.rd Fd.LCS_ARG_FLOOR then lcsStatus St.range t
  else if t.rd Fd.LCS_ARG_FLOOR ≤ otpFloorVal t then lcsStatus St.ok (t.wr Fd.LCS_CMD_STAT_OP 4)
  else lcsTake 4 0 (otpList otpFloor 8 (2 ^ t.rd Fd.LCS_ARG_FLOOR - 1)) t

theorem lcsRaiseFloor_eq (key master : Nat) (s : State) :
    lcsRaiseFloor key master s = lcsCmd master key 0xF100 false raiseFloorBody s := rfl

/-! ### A life-cycle command ends -/

/-- The state in which a command has programmed its words and reported OK. -/
def lcsEnded (c : LcsCmdSt) (s : State) : State :=
  logReq Blk.lcs 0x02 c.op St.ok 0 (lcsStatus St.ok
    ((otpProgs c.words { s with lcs := { s.lcs with cmd := none } }).clr Fd.LCS_CMD_STAT_BUSY))

theorem lcsDone_of_none (s : State) (h : s.lcs.cmd = none) : lcsDone s = s := by rw [lcsDone, h]

theorem lcsDone_of_some (s : State) (c : LcsCmdSt) (h : s.lcs.cmd = some c) : lcsDone s =
    match c.op with
    | 1 => (lcsEnded c s).orF Fd.LCS_KEY_STAT_PROV (2 ^ c.slot)
    | 2 => warmReset Fd.SYS_RESET_CAUSE_LCS_CHANGE (lcsEnded c s)
    | 3 => warmReset Fd.SYS_RESET_CAUSE_LCS_CHANGE (scrapSteps (lcsEnded c s))
    | 4 => (lcsEnded c s).wr Fd.LCS_FLOOR_FLOOR (otpFloorVal (lcsEnded c s))
    | _ => revokeRights ((lcsEnded c s).wr Fd.LCS_DBG_CTR_COUNT (otpCtrVal (lcsEnded c s))) := by
  rw [lcsDone, h]
  rfl

abbrev lcsEndKeys : List Keys := .one Fd.LCS_CMD_STAT_BUSY :: .one Fd.LCS_CMD_STAT_STATUS :: .blk 0x0610 :: irqKeys

theorem lcsEnded_touches (c : LcsCmdSt) (s : State) : Touches [.lcs, .irq, .pwr, .log] lcsEndKeys s (lcsEnded c s) := by
  have h1 : Touches [.lcs, .irq, .pwr, .log] lcsEndKeys s { s with lcs := { s.lcs with cmd := none } } := .of_puts [.lcs]
  refine h1.trans <| .trans (otpProgs_touches c.words _).mono <| .trans (.wr _ Fd.LCS_CMD_STAT_BUSY 0) <|
    .trans (lcsStatus_touches _ _).mono (logReq_touches _ _ _ _ _ _).mono

/-- The OTP as the end of a command leaves it. -/
theorem lcsEnded_lcs (c : LcsCmdSt) (s : State) :
    (lcsEnded c s).lcs = { s.lcs with cmd := none, otp := (otpProgs c.words s).lcs.otp } := by
  have h : (lcsEnded c s).lcs = (otpProgs c.words { s with lcs := { s.lcs with cmd := none } }).lcs := by
    rw [lcsEnded, logReq_lcs]
    exact (lcsStatus_touches _ _).part .lcs (by decide)
  rw [h, otpProgs_lcs, otpProgs_otp_congr c.words (s := s) (t := { s with lcs := { s.lcs with cmd := none } }) rfl]

theorem lcsEnded_cmd (c : LcsCmdSt) (s : State) : (lcsEnded c s).lcs.cmd = none := by rw [lcsEnded_lcs]

theorem lcsEnded_otp (c : LcsCmdSt) (s : State) : (lcsEnded c s).lcs.otp = (otpProgs c.words s).lcs.otp := by rw [lcsEnded_lcs]

theorem lcsEnded_report (c : LcsCmdSt) (s : State) :
    (lcsEnded c s).rd Fd.LCS_CMD_STAT_BUSY = 0 ∧ (lcsEnded c s).rd Fd.LCS_CMD_STAT_STATUS = 0 ∧ (lcsEnded c s).mode = s.mode := by
  refine ⟨?_, ?_, (lcsEnded_touches c s).rd _ (by decide)⟩
  · rw [lcsEnded, (logReq_touches _ _ _ _ _ _).rd _ (by decide), (lcsStatus_touches _ _).rd _ (by decide), State.clr, State.rd_wr]
    rfl
  · rw [lcsEnded, (logReq_touches _ _ _ _ _ _).rd _ (by decide), lcsStatus_rd _ _ (by decide)]
    rfl

theorem loupeRevoke_touches (s : State) : Touches [.fab] [.blk 0x0604] s (loupeRevoke s) := by
  have hk : ∀ k, k < 64 → ∀ f, f ∈ [Fd.FAB_LOUPE_SEL_INDEX k, Fd.FAB_LOUPE_SEL_SRC k, Fd.FAB_LOUPE_SEL_PIN k] →
      [Keys.blk 0x0604].any (·.has f.key) = true := by decide
  unfold loupeRevoke
  extract_lets _ s1
  have h1 : Touches [.fab] [.blk 0x0604] s s1 := .of_puts [.fab]
  refine h1.trans (.forEach_mem _ _ (fun k hm t => ?_) s1)
  have h := hk k (List.mem_range.1 hm)
  exact .trans (.trans (.wr _ _ _ (h _ (by simp))) (.wr _ _ _ (h _ (by simp)))) (.wr _ _ _ (h _ (by simp)))

abbrev revokeKeys : List Keys := .one Fd.DBG_RIGHTS_RIGHTS :: .one Fd.DBG_STAT_BSCAN_REFUSED :: .blk 0x0604 :: irqKeys

theorem revokeRights_touches (s : State) : Touches [.fab, .jtag, .irq, .pwr] revokeKeys s (revokeRights s) :=
  .ite (fun _ => .refl s) (fun _ => .trans (.wr s Fd.DBG_RIGHTS_RIGHTS 0) <| .trans (loupeRevoke_touches _).mono <|
    .trans (bscanJudge_touches _).mono (irqEvent_touches 399 _).mono)

/-- Rights are none after they are revoked, but in OPEN, where they stay. -/
theorem revokeRights_rights (s : State) :
    (revokeRights s).rd Fd.DBG_RIGHTS_RIGHTS = if lcsState s = 0 then s.rd Fd.DBG_RIGHTS_RIGHTS else 0 := by
  unfold revokeRights
  split
  · rfl
  · rw [(irqEvent_touches 399 _).rd _ (by decide), (bscanJudge_touches _).rd _ (by decide), (loupeRevoke_touches _).rd _ (by decide),
      State.clr, State.rd_wr, Nat.zero_mod]

/-! ### Scrapping (R379) -/

/-- Scrapping up to its last step: the key slots, floor and counter, the flash arrays, retained RAM. -/
def scrapBody (s : State) : State :=
  let s1 := otpProgs (allOnes scrapWords) s
  let s2 := scrapBank 0 (scrapBank 1 { s1 with cfg := { s1.cfg with recs := flashZero, row := flashZero, rowErased := none } })
  let s3 := forEach ((List.range 128).filter (fun b => !s2.ufl.main.blank uflU uflP b)) s2 uflErased
  let s4 := { s3 with ufl := { s3.ufl with cal := flashZero } }
  forEach (List.range 3) (retClear 0 (retClear 1 (retClear 2 s4))) (fun r t =>
    (t.wr (Fd.PWR_RCHK_CRC r) (retZeroCrc r)).clr (Fd.PWR_RCHK_SEQ r))

theorem scrapSteps_eq (s : State) : scrapSteps s = otpProgs (allOnes ((List.range 5).map otpCopy))
    (if (List.range 5).any (fun k => otp s (otpCopy k) == 2 ^ 32 - 1) then s else scrapBody s) := by
  unfold scrapSteps scrapBody
  dsimp only
  split
  · rfl
  · rfl

abbrev scrapKeys : List Keys := [bankKeys, sectKeys, .blk 0x0608, .blk 0x0610, .blk 0x060B]

theorem scrapBank_touches (b : Nat) (s : State) (hb : b < 2) : Touches [.cfg] [bankKeys, sectKeys] s (scrapBank b s) :=
  .ite (fun _ => .refl s) (fun _ => .trans (.of_puts [.cfg]) (bankWritten_touches b _ hb))

theorem retClear_touches (r : Nat) (s : State) : Touches [.mem] [] s (retClear r s) := .of_puts [.mem]

/-- All of scrapping but the programming of the OTP leaves the life cycle. -/
theorem scrapBody_lcs (s : State) : (scrapBody s).lcs = (otpProgs (allOnes scrapWords) s).lcs := by
  unfold scrapBody
  extract_lets s1 _ s2 s3 _ s4
  have h2 : Touches [.cfg, .ufl, .log, .mem] scrapKeys s1 s2 :=
    .trans (.trans (.of_puts [.cfg]) (scrapBank_touches 1 _ (by decide)).mono) (scrapBank_touches 0 _ (by decide)).mono
  have h3 : Touches [.cfg, .ufl, .log, .mem] scrapKeys s2 s3 := .forEach uflErased (fun b t => (uflErased_touches b t).mono) _ s2
  have h4 : Touches [.cfg, .ufl, .log, .mem] scrapKeys s3 (retClear 0 (retClear 1 (retClear 2 s4))) :=
    .trans (t := s4) (.of_puts [.ufl]) <| .trans (retClear_touches 2 s4).mono <| .trans (retClear_touches 1 _).mono (retClear_touches 0 _).mono
  have h5 : Touches [.cfg, .ufl, .log, .mem] scrapKeys (retClear 0 (retClear 1 (retClear 2 s4)))
      (forEach (List.range 3) (retClear 0 (retClear 1 (retClear 2 s4))) (fun r t =>
        (t.wr (Fd.PWR_RCHK_CRC r) (retZeroCrc r)).clr (Fd.PWR_RCHK_SEQ r))) := by
    have hk : ∀ r, r < 3 → scrapKeys.any (·.has (Fd.PWR_RCHK_CRC r).key) = true ∧ scrapKeys.any (·.has (Fd.PWR_RCHK_SEQ r).key) = true := by
      decide
    exact .forEach_mem _ _ (fun r hr t => .trans (.wr _ _ _ (hk r (List.mem_range.1 hr)).1) (.wr _ _ _ (hk r (List.mem_range.1 hr)).2)) _
  exact (((h2.trans h3).trans h4).trans h5).part .lcs (by decide)

/-- Scrapping clears no bit of the OTP and leaves the life-cycle command. -/
theorem scrapSteps_keeps (s : State) (i : Nat) : otp s i &&& otp (scrapSteps s) i = otp s i := by
  rw [scrapSteps_eq]
  refine and_eq_left_trans ?_ (otpProgs_keeps _ i _)
  split
  · exact Nat.and_self _
  · rw [otp_congr (congrArg LcsSt.otp (scrapBody_lcs s))]
    exact otpProgs_keeps _ i s

theorem scrapSteps_cmd (s : State) : (scrapSteps s).lcs.cmd = s.lcs.cmd := by
  rw [scrapSteps_eq, otpProgs_lcs]
  dsimp only
  split
  · rfl
  · rw [scrapBody_lcs, otpProgs_lcs]

/-- Scrapping leaves every state copy all ones. -/
theorem scrapSteps_copies (s : State) (k : Nat) (hk : k < 5) : otp (scrapSteps s) (otpCopy k) = 2 ^ 32 - 1 := by
  rw [scrapSteps_eq]
  exact otpProgs_ones _ _ _ (List.mem_map_of_mem (List.mem_range.2 hk))

/-- Where no state copy was all ones before, scrapping leaves the words of every key slot all ones. -/
theorem scrapSteps_slots (s : State) (i : Nat) (h : ∀ k, k < 5 → otp s (otpCopy k) ≠ 2 ^ 32 - 1) (hlo : 64 ≤ i) (hhi : i < 192) :
    otp (scrapSteps s) i = 2 ^ 32 - 1 := by
  have hc : (List.range 5).any (fun k => otp s (otpCopy k) == 2 ^ 32 - 1) = false := by
    rw [List.any_eq_false]
    intro k hk
    simpa using h k (List.mem_range.1 hk)
  have hw : ∀ j, j < 128 → 64 + j ∈ scrapWords := by decide
  have hi : i ∈ scrapWords := by
    have := hw (i - 64) (by omega)
    rwa [Nat.add_sub_cancel' hlo] at this
  have hn : ∀ v, (i, v) ∉ allOnes ((List.range 5).map otpCopy) := by
    intro v hv
    simp only [allOnes, otpCopy, List.mem_map, List.mem_range, Prod.mk.injEq] at hv
    omega
  rw [scrapSteps_eq, if_neg (by rw [hc]; exact Bool.false_ne_true), otpProgs_of_not_mem _ _ _ hn, otp_congr (congrArg LcsSt.otp (scrapBody_lcs s))]
  exact otpProgs_ones _ _ _ hi

/-! ### The warm reset that ends CLOSE and SCRAP -/

/-- A warm reset with no life-cycle command in progress keeps the OTP. -/
theorem warmReset_lcs (cause : Fld) (s : State) (h : s.lcs.cmd = none) :
    (warmReset cause s).lcs.otp = s.lcs.otp ∧ (warmReset cause s).lcs.cmd = none := by
  have h1 : (warmReset cause s).lcs = (resetTo 2 cause s).lcs := (warmReset_touches cause s).part .lcs (by decide)
  have h2 : (resetTo 2 cause s).lcs = (resetBase 2 (resetCuts s)).lcs := (resetTo_touches 2 cause s).part .lcs (by decide)
  have h3 : (resetBase 2 (resetCuts s)).lcs = { (resetCuts s).lcs with keyBuf := [], cert := [], cmd := none } := rfl
  rw [h1, h2, h3, resetCuts_lcs s h]
  exact ⟨rfl, rfl⟩

/-! ### What the end of each command leaves -/

section Done

variable {s : State} {c : LcsCmdSt} (h : s.lcs.cmd = some c)
include h

theorem lcsDone_provision (ho : c.op = 1) : lcsDone s = (lcsEnded c s).orF Fd.LCS_KEY_STAT_PROV (2 ^ c.slot) := by
  rw [lcsDone_of_some s c h, ho]
  rfl

theorem lcsDone_close (ho : c.op = 2) : lcsDone s = warmReset Fd.SYS_RESET_CAUSE_LCS_CHANGE (lcsEnded c s) := by
  rw [lcsDone_of_some s c h, ho]
  rfl

theorem lcsDone_scrap (ho : c.op = 3) : lcsDone s = warmReset Fd.SYS_RESET_CAUSE_LCS_CHANGE (scrapSteps (lcsEnded c s)) := by
  rw [lcsDone_of_some s c h, ho]
  rfl

theorem lcsDone_floor (ho : c.op = 4) : lcsDone s = (lcsEnded c s).wr Fd.LCS_FLOOR_FLOOR (otpFloorVal (lcsEnded c s)) := by
  rw [lcsDone_of_some s c h, ho]
  rfl

theorem lcsDone_bump (h1 : c.op ≠ 1) (h2 : c.op ≠ 2) (h3 : c.op ≠ 3) (h4 : c.op ≠ 4) :
    lcsDone s = revokeRights ((lcsEnded c s).wr Fd.LCS_DBG_CTR_COUNT (otpCtrVal (lcsEnded c s))) := by
  rw [lcsDone_of_some s c h]
  split
  · contradiction
  · contradiction
  · contradiction
  · contradiction
  · rfl

/-- The end of a command without a reset touches what it shows and, with the rights, probes, test port and interrupts. -/
theorem lcsDone_touches (h2 : c.op ≠ 2) (h3 : c.op ≠ 3) : Touches [.fab, .jtag, .irq, .pwr]
    (.one Fd.LCS_KEY_STAT_PROV :: .one Fd.LCS_FLOOR_FLOOR :: .one Fd.LCS_DBG_CTR_COUNT :: revokeKeys) (lcsEnded c s) (lcsDone s) := by
  by_cases h1 : c.op = 1
  · rw [lcsDone_provision h h1]
    exact .wr _ _ _
  · by_cases h4 : c.op = 4
    · rw [lcsDone_floor h h4]
      exact .wr _ _ _
    · rw [lcsDone_bump h h1 h2 h3 h4]
      exact .trans (.wr _ Fd.LCS_DBG_CTR_COUNT _) (revokeRights_touches _).mono

theorem lcsDone_report (h2 : c.op ≠ 2) (h3 : c.op ≠ 3) :
    (lcsDone s).rd Fd.LCS_CMD_STAT_BUSY = 0 ∧ (lcsDone s).rd Fd.LCS_CMD_STAT_STATUS = 0 ∧ (lcsDone s).mode = s.mode := by
  obtain ⟨hb, hs, hm⟩ := lcsEnded_report c s
  have ht := lcsDone_touches h h2 h3
  exact ⟨(ht.rd _ (by decide)).trans hb, (ht.rd _ (by decide)).trans hs, (ht.rd _ (by decide)).trans hm⟩

theorem lcsDone_cmd : (lcsDone s).lcs.cmd = none := by
  have he : (lcsEnded c s).lcs.cmd = none := lcsEnded_cmd c s
  by_cases h2 : c.op = 2
  · rw [lcsDone_close h h2]
    exact (warmReset_lcs _ _ he).2
  · by_cases h3 : c.op = 3
    · rw [lcsDone_scrap h h3]
      exact (warmReset_lcs _ _ ((scrapSteps_cmd _).trans he)).2
    · have hl : (lcsDone s).lcs = (lcsEnded c s).lcs := (lcsDone_touches h h2 h3).part .lcs (by decide)
      rw [hl, he]

/-- But for SCRAP the end of a command leaves the OTP with its words programmed. -/
theorem lcsDone_otp (h3 : c.op ≠ 3) : (lcsDone s).lcs.otp = (otpProgs c.words s).lcs.otp := by
  have hc : (lcsEnded c s).lcs.cmd = none := lcsEnded_cmd c s
  have he : (lcsEnded c s).lcs.otp = (otpProgs c.words s).lcs.otp := lcsEnded_otp c s
  by_cases h2 : c.op = 2
  · rw [lcsDone_close h h2, (warmReset_lcs _ _ hc).1, he]
  · have hl : (lcsDone s).lcs = (lcsEnded c s).lcs := (lcsDone_touches h h2 h3).part .lcs (by decide)
    rw [hl, he]

theorem lcsDone_scrap_otp (h3 : c.op = 3) : (lcsDone s).lcs.otp = (scrapSteps (lcsEnded c s)).lcs.otp := by
  have hc : (lcsEnded c s).lcs.cmd = none := lcsEnded_cmd c s
  rw [lcsDone_scrap h h3, (warmReset_lcs _ _ ((scrapSteps_cmd _).trans hc)).1]

/-- No command clears a bit of the OTP. -/
theorem lcsDone_keeps (i : Nat) : otp s i &&& otp (lcsDone s) i = otp s i := by
  by_cases h3 : c.op = 3
  · have he : (lcsEnded c s).lcs.otp = (otpProgs c.words s).lcs.otp := lcsEnded_otp c s
    rw [otp_congr (lcsDone_scrap_otp h h3)]
    have hk := otpProgs_keeps c.words i s
    rw [← otp_congr he] at hk
    exact and_eq_left_trans hk (scrapSteps_keeps _ i)
  · rw [otp_congr (lcsDone_otp h h3)]
    exact otpProgs_keeps c.words i s

/-- CLOSE and SCRAP end in a warm reset. -/
theorem lcsDone_reset (ho : c.op = 2 ∨ c.op = 3) : (lcsDone s).mode = Md.load ∧ (lcsDone s).sys.phase = .regulators ∧
    (lcsDone s).rd Fd.SYS_RESET_CAUSE_LCS_CHANGE = 1 := by
  have hw : ∃ t, lcsDone s = warmReset Fd.SYS_RESET_CAUSE_LCS_CHANGE t :=
    ho.elim (fun h2 => ⟨_, lcsDone_close h h2⟩) (fun h3 => ⟨_, lcsDone_scrap h h3⟩)
  obtain ⟨t, e⟩ := hw
  rw [e]
  exact ⟨(warmReset_cleared _ t (by decide)).mode, warmReset_phase _ t, warmReset_cause _ t (by decide)⟩

theorem lcsDone_prov (ho : c.op = 1) (hs : c.slot < 4) : ((lcsDone s).rd Fd.LCS_KEY_STAT_PROV).testBit c.slot = true := by
  rw [lcsDone_provision h ho, State.orF, State.rd_wr, Nat.testBit_mod_two_pow, Nat.testBit_or, Nat.testBit_two_pow_self, Bool.or_true,
    Bool.and_true]
  exact decide_eq_true hs

theorem lcsDone_floor_shown (ho : c.op = 4) : (lcsDone s).rd Fd.LCS_FLOOR_FLOOR = otpFloorVal (lcsDone s) := by
  have hl : otpFloorVal (lcsEnded c s) < 2 ^ 9 := Nat.lt_of_le_of_lt (thermo_le 256 _) (by decide)
  rw [lcsDone_floor h ho, State.rd_wr]
  exact Nat.mod_eq_of_lt hl

theorem lcsDone_bump_shown (ho : c.op = 5) : (lcsDone s).rd Fd.LCS_DBG_CTR_COUNT = otpCtrVal (lcsDone s) ∧
    (lcsState s ≠ 0 → (lcsDone s).rd Fd.DBG_RIGHTS_RIGHTS = 0) := by
  have hl : otpCtrVal (lcsEnded c s) < 2 ^ 11 := Nat.lt_of_le_of_lt (thermo_le 1024 _) (by decide)
  have e := lcsDone_bump h (by omega) (by omega) (by omega) (by omega)
  have ho : (lcsDone s).lcs = (lcsEnded c s).lcs := (lcsDone_touches h (by omega) (by omega)).part .lcs (by decide)
  have hst : lcsState ((lcsEnded c s).wr Fd.LCS_DBG_CTR_COUNT (otpCtrVal (lcsEnded c s))) = lcsState s :=
    (State.rd_wr_ne _ _ _ _ (by decide)).trans ((lcsEnded_touches c s).rd _ (by decide))
  refine ⟨?_, fun hne => ?_⟩
  · rw [otpCtrVal_congr (congrArg LcsSt.otp ho), e, (revokeRights_touches _).rd _ (by decide), State.rd_wr]
    exact Nat.mod_eq_of_lt hl
  · rw [e, revokeRights_rights, hst, if_neg hne]

end Done

/-! ### Debug certificates (R373, R374) -/

theorem dbgCmdStatus_touches (st : Nat) (s : State) : Touches [.irq, .pwr] (.one Fd.DBG_STAT_STATUS :: irqKeys) s (dbgCmdStatus st s) :=
  .trans (.wr s _ st) (irqEvent_touches 399 _).mono

theorem dbgCmdStatus_rd (st : Nat) (s : State) (h : st < 256) : (dbgCmdStatus st s).rd Fd.DBG_STAT_STATUS = st := by
  rw [dbgCmdStatus, (irqEvent_touches 399 _).rd _ (by decide), State.rd_wr]
  exact Nat.mod_eq_of_lt h

theorem dbgCmd_of_fabric (master : Nat) (f : State → State) (s : State) (hm : isFabric master = true) :
    dbgCmd master f s = s.set1 Fd.DBG_STAT_FAB_CMD := if_pos hm

theorem dbgCmd_of_busy (master : Nat) (f : State → State) (s : State) (hm : isFabric master = false) (h : s.rd Fd.DBG_STAT_BUSY = 1) :
    dbgCmd master f s = dbgCmdStatus St.busy s := by
  rw [dbgCmd, if_neg (by simp [hm]), if_pos (by simp [State.rdB, h])]

theorem dbgCmd_of_free (master : Nat) (f : State → State) (s : State) (hm : isFabric master = false) (h : s.rd Fd.DBG_STAT_BUSY = 0) :
    dbgCmd master f s = f s := by
  rw [dbgCmd, if_neg (by simp [hm]), if_neg (by simp [State.rdB, h])]

/-- A certificate is refused by one of the codes of R373, or names rights of six bits. -/
theorem certStatus_spec (s : State) : certStatus s < 256 ∧ (certStatus s = 0 → mf (certBytes s) 6 2 < 64) := by
  have code : ∀ n, 0 < n → n < 256 → n < 256 ∧ (n = 0 → mf (certBytes s) 6 2 < 64) := fun n h0 h => ⟨h, fun e => by omega⟩
  unfold certStatus
  extract_lets c bumping
  split
  · exact code _ (by decide) (by decide)
  split
  · exact code _ (by decide) (by decide)
  split
  · exact code _ (by decide) (by decide)
  split
  · exact code _ (by decide) (by decide)
  split
  · exact code _ (by decide) (by decide)
  next hr =>
    have hw : mf c 6 2 < 64 := by
      simp only [not_or] at hr
      obtain ⟨-, -, hr, -⟩ := hr
      omega
    split
    · exact code _ (by decide) (by decide)
    split
    · exact ⟨by decide, fun _ => hw⟩
    · exact code _ (by decide) (by decide)

/-- What the end of a certificate's check leaves besides its report. -/
abbrev certKeys : List Keys := .one Fd.DBG_STAT_STATUS :: .one Fd.DBG_STAT_BSCAN_REFUSED :: .blk 0x0604 :: .blk 0x0610 :: irqKeys

/-- The check of a certificate ends in the grant of its rights. -/
theorem certDone_ok (s : State) (h : s.rd Fd.DBG_STAT_BUSY = 1) (hs : certStatus s = 0) :
    (certDone s).rd Fd.DBG_STAT_BUSY = 0 ∧ (certDone s).rd Fd.DBG_STAT_STATUS = 0 ∧
    (certDone s).rd Fd.DBG_RIGHTS_RIGHTS = mf (certBytes s) 6 2 ∧ (certDone s).rd Fd.DBG_STAT_FAILS = s.rd Fd.DBG_STAT_FAILS := by
  unfold certDone
  extract_lets st s1 r s2 s3
  have hr : r < 2 ^ 6 := (certStatus_spec s).2 hs
  have h3 : Touches [.fab, .jtag, .log, .irq, .pwr] certKeys s2 s3 :=
    .trans (.ite (fun _ => .refl s2) (fun _ => (loupeRevoke_touches s2).mono)) (bscanJudge_touches _).mono
  have h4 := h3.trans (.trans (logReq_touches Blk.lcs 0x03 r (s.rd Fd.LCS_DBG_CTR_COUNT) 0 s3).mono (dbgCmdStatus_touches st _).mono)
  rw [if_neg (by simp [State.rdB, h]), if_pos (show st = St.ok from hs)]
  refine ⟨(h4.rd _ (by decide)).trans ?_, (dbgCmdStatus_rd st _ (certStatus_spec s).1).trans hs, (h4.rd _ (by decide)).trans ?_,
    (h4.rd _ (by decide)).trans ?_⟩
  · exact (State.rd_wr_ne s1 _ _ r (by decide)).trans (State.rd_wr s _ 0)
  · exact (State.rd_wr s1 _ r).trans (Nat.mod_eq_of_lt hr)
  · exact (State.rd_wr_ne s1 _ _ r (by decide)).trans (State.rd_wr_ne s _ _ 0 (by decide))

/-- The check of a certificate ends in a failure, counted toward LOCKOUT. -/
theorem certDone_failed (s : State) (h : s.rd Fd.DBG_STAT_BUSY = 1) (hs : certStatus s ≠ 0) :
    (certDone s).rd Fd.DBG_STAT_BUSY = 0 ∧ (certDone s).rd Fd.DBG_STAT_STATUS = certStatus s ∧
    (certDone s).rd Fd.DBG_RIGHTS_RIGHTS = s.rd Fd.DBG_RIGHTS_RIGHTS ∧
    (certDone s).rd Fd.DBG_STAT_FAILS = min 8 (s.rd Fd.DBG_STAT_FAILS + 1) ∧
    (7 ≤ s.rd Fd.DBG_STAT_FAILS → (certDone s).rd Fd.DBG_STAT_LOCKOUT = 1) := by
  unfold certDone
  extract_lets st s1 r s2' s3' f s2 s3
  have hf : f < 2 ^ 4 := Nat.lt_of_le_of_lt (Nat.min_le_left 8 _) (by decide)
  have h3 : Touches [] [.one Fd.DBG_STAT_LOCKOUT] s2 s3 := .ite (fun _ => .wr s2 _ _) (fun _ => .refl s2)
  have h4 : Touches [.log, .irq, .pwr] certKeys s3 (dbgCmdStatus st (logReq Blk.lcs 0x04 st f 0 s3)) :=
    .trans (logReq_touches Blk.lcs 0x04 st f 0 s3).mono (dbgCmdStatus_touches st _).mono
  rw [if_neg (by simp [State.rdB, h]), if_neg (show ¬st = St.ok from hs)]
  refine ⟨?_, dbgCmdStatus_rd st _ (certStatus_spec s).1, ?_, ?_, fun h7 => ?_⟩
  · rw [h4.rd _ (by decide), h3.rd _ (by decide)]
    exact (State.rd_wr_ne s1 _ _ f (by decide)).trans (State.rd_wr s _ 0)
  · rw [h4.rd _ (by decide), h3.rd _ (by decide)]
    exact (State.rd_wr_ne s1 _ _ f (by decide)).trans (State.rd_wr_ne s _ _ 0 (by decide))
  · rw [h4.rd _ (by decide), h3.rd _ (by decide)]
    exact (State.rd_wr s1 _ f).trans (Nat.mod_eq_of_lt hf)
  · have h8 : f = 8 := by omega
    rw [h4.rd _ (by decide)]
    simp only [s3, if_pos h8]
    exact State.rd_wr s2 Fd.DBG_STAT_LOCKOUT 1

/-! ### The obligation -/

section Clauses

variable (s : State) (key master : Nat) (hs : sysOn s = true)

/-- A command that answers a status, for its effect's end. -/
def LcsEnds (c : Instr) (st : Nat) : Prop := ∃ u, exec c s = .next (finish u) ∧ LcsAnswers s st u

/-- What every command of LCS_CMD does until it is admitted, with the key it wants and the modes it is taken in. -/
def LcsGate (c : Instr) (want : Nat) (run : Bool) : Prop :=
  (masterServed s master = false → exec c s = .next (finish s)) ∧
  (isFabric master = true → masterServed s master = true → ∃ u, exec c s = .next (finish u) ∧ u.rd Fd.DBG_STAT_FAB_CMD = 1 ∧
    RegsOnly [Fd.DBG_STAT_FAB_CMD] s u) ∧
  (isFabric master = false → s.rd Fd.LCS_CMD_STAT_BUSY = 1 → LcsEnds s c 1) ∧
  (isFabric master = false → s.rd Fd.LCS_CMD_STAT_BUSY = 0 → key ≠ want → LcsEnds s c 9) ∧
  (isFabric master = false → s.rd Fd.LCS_CMD_STAT_BUSY = 0 → key = want → ¬lcsMode run s → LcsEnds s c 2) ∧
  (isFabric master = false → s.rd Fd.LCS_CMD_STAT_BUSY = 0 → key = want → s.pwr.vinLow = true → LcsEnds s c 2)

theorem masterServed_of_host (hm : isFabric master = false) : masterServed s master = true := by simp [masterServed, hm]

include hs

/-- The gate of a command whose effect is `w` of `lcsCmd`, where `w` leaves what an answer says. -/
theorem lcsGate (c : Instr) (want : Nat) (run : Bool) (g w f : State → State) (hx : exec c s = busRun master g s)
    (hf : isFabric master = true → g s = s.set1 Fd.DBG_STAT_FAB_CMD)
    (hh : isFabric master = false → g s = w (lcsCmd master key want run f s))
    (hw : ∀ st u, LcsAnswers s st u → LcsAnswers s st (w u)) : LcsGate s key master c want run := by
  have ends : ∀ st, st < 256 → isFabric master = false → lcsCmd master key want run f s = lcsStatus st s → LcsEnds s c st := by
    intro st hst hm e
    refine ⟨g s, by rw [hx, busRun_of_served master g s hs (masterServed_of_host s master hm)], ?_⟩
    rw [hh hm, e]
    exact hw st _ (lcsStatus_answers st (.refl s) hst)
  refine ⟨fun hm => by rw [hx, busRun_of_unserved master g s hs hm], fun hm hv => ?_, fun hm hb => ?_, fun hm hb hk => ?_,
    fun hm hb hk hq => ?_, fun hm hb hk hv => ?_⟩
  · refine ⟨g s, by rw [hx, busRun_of_served master g s hs hv], ?_⟩
    rw [hf hm]
    exact ⟨State.rd_wr s _ 1, RegsOnly.wr s _ 1⟩
  · exact ends 1 (by decide) hm (lcsCmd_of_busy master key want run f s hm hb)
  · exact ends 9 (by decide) hm (lcsCmd_of_key master key want run f s hm hb hk)
  · exact ends 2 (by decide) hm (lcsCmd_of_mode master key want run f s hm hb hk hq)
  · exact ends 2 (by decide) hm (lcsCmd_of_vin master key want run f s hm hb hk hv)

end Clauses

/-- Settles O59: `lcsCmd` tells who gives a life-cycle command and when, `lcsDone` what each leaves, `certDone` how a check ends. -/
theorem lifeCycleCommandsAndCertificates : Obligations.LifeCycleCommandsAndCertificates := by
  intro s key slot master i x hs answers took busy free host idle gate ready st
  have host_run : ∀ (c : Instr) (g : State → State), host → exec c s = busRun master g s → exec c s = .next (finish (g s)) :=
    fun c g hm e => by rw [e, busRun_of_served master g s hs (masterServed_of_host s master hm)]
  have admits : ∀ (c : Instr) (g : State → State) (P : State → Prop), host → exec c s = busRun master g s → P (g s) →
      ∃ u, exec c s = .next (finish u) ∧ P u := fun c g P hm e hp => ⟨g s, host_run c g hm e, hp⟩
  have ends : ∀ (c : Instr) (g : State → State) (n : Nat), host → exec c s = busRun master g s → n < 256 →
      g s = lcsStatus n s → answers c n :=
    fun c g n hm e hn h => admits c g (LcsAnswers s n) hm e (by rw [h]; exact lcsStatus_answers n (.refl s) hn)
  have takes : ∀ (c : Instr) (g : State → State) (op : Nat), host → exec c s = busRun master g s → op < 16 →
      (∃ k l, g s = lcsTake op k l s) → ∃ u, exec c s = .next (finish u) ∧ took u op := by
    rintro c g op hm e ho ⟨k, l, h⟩
    exact admits c g (LcsTook s op) hm e (by rw [h]; exact lcsTake_took op k l s ho)
  have done : exec .lcsCmdDone s = .next (finish (lcsDone s)) := clockedRun_of_clocked lcsDone s (clocked_of_sysOn s hs)
  have cert : exec .certCheckDone s = .next (finish (certDone s)) := clockedRun_of_clocked certDone s (clocked_of_sysOn s hs)
  refine ⟨?gateProvision, ?gateClose, ?gateScrap, ?gateFloor, ?gateBump, ?provision, ?close, ?scrap, ?floor, ?bump, fun h => ?noCommand,
    fun h => ?commandEnds, fun hm => ?dbgUnserved, fun hm hv => ?dbgFabric, fun hm hb => ?dbgBusy, fun hm hb => ?dbgFree,
    fun hb => ?noCheck, fun hb => ?checkEnds⟩
  case gateProvision =>
    exact lcsGate s key master hs _ 0x9A0C false (lcsProvision key slot master) keyBufClear (provisionBody (slot % 4)) rfl
      (lcsProvision_of_fabric key slot master s) (lcsProvision_eq key slot master s) (fun _ _ h => h.keyBufClear)
  case gateClose =>
    exact lcsGate s key master hs _ 0xC105 false (lcsClose key master) id _ rfl (lcsCmd_of_fabric master key _ _ _ s) (fun _ => rfl)
      (fun _ _ h => h)
  case gateScrap =>
    exact lcsGate s key master hs _ 0x5C4A false (lcsScrap key master) id _ rfl (lcsCmd_of_fabric master key _ _ _ s) (fun _ => rfl)
      (fun _ _ h => h)
  case gateFloor =>
    exact lcsGate s key master hs _ 0xF100 false (lcsRaiseFloor key master) id _ rfl (lcsCmd_of_fabric master key _ _ _ s)
      (fun _ => rfl) (fun _ _ h => h)
  case gateBump =>
    exact lcsGate s key master hs _ 0xB0B0 true (lcsBump key master) id _ rfl (lcsCmd_of_fabric master key _ _ _ s) (fun _ => rfl)
      (fun _ _ h => h)
  case provision =>
    rintro ⟨hm, hf, hk, hq, hv⟩ conflict
    have e : lcsProvision key slot master s = keyBufClear (provisionBody (slot % 4) s) := by
      rw [lcsProvision_eq key slot master s hm, lcsCmd_of_ready master key _ _ _ s hm hf hk hq hv]
    refine ⟨fun h0 => admits _ (lcsProvision key slot master) (LcsAnswers s 5) hm rfl ?_,
      fun h0 hc => admits _ (lcsProvision key slot master) (LcsAnswers s 4) hm rfl ?_,
      fun h0 hp hc => admits _ (lcsProvision key slot master) (LcsTook s 1) hm rfl ?_⟩
    · rw [e, provisionBody, if_pos h0]
      exact (lcsStatus_answers St.access (.refl s)).keyBufClear
    · rw [e, provisionBody, if_neg (by simpa using h0), if_pos (by rw [Bool.or_eq_true]; exact hc)]
      exact (lcsStatus_answers St.order (.refl s)).keyBufClear
    · rw [e, provisionBody, if_neg (by simpa using h0), if_neg (by rw [Bool.not_eq_true, Bool.or_eq_false_iff]; exact ⟨hp, hc⟩)]
      exact (lcsTake_took 1 _ _ s).keyBufClear
  case close =>
    rintro ⟨hm, hf, hk, hq, hv⟩
    have e : lcsClose key master s = _ := lcsCmd_of_ready master key _ _ _ s hm hf hk hq hv
    refine ⟨fun h0 => ends _ (lcsClose key master) 5 hm rfl (by decide) ?_, fun h0 hu => ends _ (lcsClose key master) 4 hm rfl (by decide) ?_,
      fun h0 hu => takes _ (lcsClose key master) 2 hm rfl (by decide) ?_⟩
    · rw [e, if_pos h0]; rfl
    · rw [e, if_neg (by simpa using h0), if_pos (by rw [hu]; rfl)]; rfl
    · exact ⟨_, _, by rw [e, if_neg (by simpa using h0), if_neg (by rw [hu]; decide)]⟩
  case scrap =>
    rintro ⟨hm, hf, hk, hq, hv⟩
    have e : lcsScrap key master s = _ := lcsCmd_of_ready master key _ _ _ s hm hf hk hq hv
    refine ⟨fun h1 hr => ends _ (lcsScrap key master) 5 hm rfl (by decide) ?_, fun h => takes _ (lcsScrap key master) 3 hm rfl (by decide) ?_⟩
    · rw [e, if_pos ⟨h1, hr⟩]; rfl
    · exact ⟨_, _, by rw [e, if_neg (fun hc => h.elim (fun h1 => h1 hc.1) (fun hr => hc.2 hr))]⟩
  case floor =>
    rintro ⟨hm, hf, hk, hq, hv⟩ f
    have e := lcsCmd_of_ready master key _ _ (raiseFloorBody) s hm hf hk hq hv
    refine ⟨fun h3 => ends _ (lcsRaiseFloor key master) 5 hm rfl (by decide) ?_, fun h3 hr => ends _ (lcsRaiseFloor key master) 9 hm rfl (by decide) ?_,
      fun h3 h1 h2 hl => ?_, fun h3 h1 h2 hl => takes _ (lcsRaiseFloor key master) 4 hm rfl (by decide) ?_⟩
    · rw [lcsRaiseFloor_eq, e, raiseFloorBody, if_pos h3]; rfl
    · rw [lcsRaiseFloor_eq, e, raiseFloorBody, if_neg h3, if_pos hr]; rfl
    · refine admits _ (lcsRaiseFloor key master) (LcsAnswers s 0) hm rfl ?_
      rw [lcsRaiseFloor_eq, e, raiseFloorBody, if_neg h3, if_neg (by omega), if_pos hl]
      exact lcsStatus_answers St.ok (.wr s _ 4)
    · exact ⟨_, _, by rw [lcsRaiseFloor_eq, e, raiseFloorBody, if_neg h3, if_neg (by omega), if_neg (by omega)]⟩
  case bump =>
    rintro ⟨hm, hf, hk, hq, hv⟩
    have e : lcsBump key master s = _ := lcsCmd_of_ready master key _ _ _ s hm hf hk hq hv
    refine ⟨fun h3 => ends _ (lcsBump key master) 5 hm rfl (by decide) ?_, fun h3 hc => ends _ (lcsBump key master) 9 hm rfl (by decide) ?_,
      fun h3 hc => takes _ (lcsBump key master) 5 hm rfl (by decide) ?_⟩
    · rw [e, if_pos h3]; rfl
    · rw [e, if_neg h3, if_pos hc]; rfl
    · exact ⟨_, _, by rw [e, if_neg h3, if_neg (by omega)]⟩
  case noCommand => rw [done, lcsDone_of_none s h]
  case commandEnds =>
    have he : (lcsEnded x s).lcs.otp = (otpProgs x.words s).lcs.otp := lcsEnded_otp x s
    refine ⟨lcsDone s, done, lcsDone_cmd h, lcsDone_keeps h i, fun h3 => ⟨fun v hv => ?_, fun hv => ?_⟩,
      fun h2 h3 => lcsDone_report h h2 h3, lcsDone_prov h, lcsDone_reset h, fun h3 => ⟨fun k hk => ?_, fun hc hlo hhi => ?_⟩,
      lcsDone_floor_shown h, lcsDone_bump_shown h⟩
    · rw [otp_congr (lcsDone_otp h h3)]
      exact otpProgs_sets _ _ _ _ hv
    · rw [otp_congr (lcsDone_otp h h3)]
      exact otpProgs_of_not_mem _ _ _ hv
    · rw [otp_congr (lcsDone_scrap_otp h h3)]
      exact scrapSteps_copies _ k hk
    · rw [otp_congr (lcsDone_scrap_otp h h3)]
      exact scrapSteps_slots _ i (fun k hk => by rw [otp_congr he]; exact hc k hk) hlo hhi
  case dbgUnserved => exact ⟨busRun_of_unserved master (dbgPresent master) s hs hm, busRun_of_unserved master (dbgRevoke master) s hs hm⟩
  case dbgFabric =>
    have hp : exec (.present master) s = .next (finish (dbgPresent master s)) := busRun_of_served master (dbgPresent master) s hs hv
    have hr : exec (.revoke master) s = .next (finish (dbgRevoke master s)) := busRun_of_served master (dbgRevoke master) s hs hv
    rw [hp, hr, dbgPresent, dbgRevoke, dbgCmd_of_fabric _ _ s hm, dbgCmd_of_fabric _ _ s hm]
    exact ⟨rfl, rfl⟩
  case dbgBusy =>
    have hk := dbgCmdStatus_touches St.busy s
    refine ⟨admits _ (dbgPresent master) _ hm rfl ?_, admits _ (dbgRevoke master) _ hm rfl ?_⟩
    · rw [dbgPresent, dbgCmd_of_busy _ _ s hm hb]
      exact ⟨dbgCmdStatus_rd _ s (by decide), hk.rd _ (by decide)⟩
    · rw [dbgRevoke, dbgCmd_of_busy _ _ s hm hb]
      exact ⟨dbgCmdStatus_rd _ s (by decide), hk.rd _ (by decide)⟩
  case dbgFree =>
    have hp : exec (.present master) s = _ := host_run _ (dbgPresent master) hm rfl
    have hr : exec (.revoke master) s = _ := host_run _ (dbgRevoke master) hm rfl
    rw [dbgPresent, dbgCmd_of_free _ _ s hm hb] at hp
    rw [dbgRevoke, dbgCmd_of_free _ _ s hm hb] at hr
    have hg : (dbgCmdStatus St.ok (revokeRights s)).rd Fd.DBG_RIGHTS_RIGHTS = if st = 0 then s.rd Fd.DBG_RIGHTS_RIGHTS else 0 := by
      rw [(dbgCmdStatus_touches St.ok _).rd _ (by decide), revokeRights_rights]
    exact ⟨hp, _, hr, dbgCmdStatus_rd _ _ (by decide), fun h0 => by rw [hg, if_neg h0], fun h0 => by rw [hg, if_pos h0]⟩
  case noCheck => rw [cert, certDone, if_pos (by simp [State.rdB, hb])]
  case checkEnds =>
    refine ⟨certDone s, cert, ?_⟩
    by_cases h0 : certStatus s = 0
    · obtain ⟨h1, h2, h3, h4⟩ := certDone_ok s hb h0
      exact ⟨h1, h2.trans h0.symm, fun _ => ⟨h3, h4⟩, fun hc => absurd h0 hc⟩
    · obtain ⟨h1, h2, h3, h4, h5⟩ := certDone_failed s hb h0
      exact ⟨h1, h2, fun hc => absurd hc h0, fun _ => ⟨h3, h4, h5⟩⟩

end Sys2Proof.Machine

/-! The change of mode (R21), the entry to SAFE, and the start-up timeline (Table 1.9). -/

namespace Sys2Proof.Machine

set_option Elab.async false

open Sys2Proof

/-! ### The change of mode (R21) -/

/-- The parts that a change of mode reaches. -/
abbrev modeParts : List Part := [.net, .saf, .afe, .chn, .irq, .pwr, .jtag]

/-- The fields that a change of mode writes besides SYS_MODE. -/
abbrev modeKeys : List Keys := [.one Fd.NET_STAT_NMT, .blk 0x060C, .one Fd.AFE_CTRL_SRC, .one Fd.NIB_STAT_SRC_CHANGED,
  .one Fd.DBG_STAT_BSCAN_REFUSED] ++ irqKeys

theorem wdgRestart_touches (s : State) : Touches [.saf] [.blk 0x060C] s (wdgRestart s) :=
  .ite (fun _ => (Touches.wr s Fd.SAF_WDG_STAT_COUNT 0).trans <| .trans (.wr _ Fd.SAF_WDG_STAT_NEXT_KEY 0) <|
    .trans (.wr _ Fd.SAF_WDG_STAT_WINDOW_OPEN _) (.of_puts [.saf])) (fun _ => .of_puts [.saf])

theorem setSrc_touches (k : Nat) (s : State) : Touches modeParts modeKeys s (setSrc k s) :=
  .ite (fun _ => .refl s) (fun _ => (Touches.wr s Fd.AFE_CTRL_SRC k).trans <| .trans (.wr _ Fd.NIB_STAT_SRC_CHANGED 1)
    (irqEvent_touches 177 _).mono)

theorem safRefresh_touches (s : State) : Touches [] [.blk 0x060C] s (safRefresh s) :=
  (Touches.wr s Fd.SAF_STAT_REACTION _).trans <| .trans (.wr _ Fd.SAF_STAT_SAFE_A _) <| .trans (.wr _ Fd.SAF_STAT_SAFE_B _) <|
    .trans (.wr _ Fd.SAF_SRDO_OUT_REACTION _) <| .trans (.wr _ Fd.SAF_SRDO_OUT_SAFE_A _) <| .trans (.wr _ Fd.SAF_SRDO_OUT_SAFE_B _) <|
    .trans (.wr _ Fd.SAF_SRDO_OUT_MODE _) (.wr _ Fd.SAF_SRDO_OUT_LAST_INPUT _)

theorem imagesDue_touches (s : State) : Touches [.chn] [] s (imagesDue s) := .forEach _ (fun _ _ => .of_puts [.chn]) _ s

/-- A list of steps that each leave the pins with who holds them. -/
theorem forEach_pins {α : Type} (f : α → State → State) (hf : ∀ a t, (f a t).chn.pins = t.chn.pins) (l : List α) (s : State) :
    (forEach l s f).chn.pins = s.chn.pins := by
  unfold forEach
  induction l generalizing s with
  | nil => rfl
  | cons a l ih => exact (ih _).trans (hf a s)

theorem imagesDue_pins (s : State) : (imagesDue s).chn.pins = s.chn.pins := by
  unfold imagesDue
  refine forEach_pins _ ?_ _ s
  intro _ _
  rfl

/-- What follows the write of SYS_MODE in a change of mode. -/
theorem setMode_touches (m : Nat) (s : State) :
    Touches modeParts modeKeys ((s.wr Fd.SYS_MODE_PREV_MODE s.mode).wr Fd.SYS_MODE_MODE m) (setMode m s) := by
  unfold setMode
  extract_lets old s1 _ s2 s3 s4 _ s5 _ s6 _ s7 s8 s9
  have h2 : Touches modeParts modeKeys s1 s2 := .of_puts [.net]
  have h3 : Touches modeParts modeKeys s2 s3 := .wr s2 Fd.NET_STAT_NMT _
  have h4 : Touches modeParts modeKeys s3 s4 := .ite (fun _ => .wr s3 Fd.SAF_SRDO_IN_RUN_ENABLE 0) (fun _ => .refl s3)
  have h5 : Touches modeParts modeKeys s4 s5 := .ite (fun _ => (wdgRestart_touches s4).mono) (fun _ => .of_puts [.saf])
  have h6 : Touches modeParts modeKeys s5 s6 := .of_puts [.saf]
  have h7 : Touches modeParts modeKeys s6 s7 := .ite (fun _ => .of_puts [.afe]) (fun _ => .refl s6)
  have h8 : Touches modeParts modeKeys s7 s8 := .ite (fun _ => .of_puts [.chn])
    (fun _ => .ite (fun _ => (imagesDue_touches s7).mono) (fun _ => .refl s7))
  have h9 : Touches modeParts modeKeys s8 s9 := .ite (fun _ => setSrc_touches 0 s8) (fun _ => .refl s8)
  exact ((((((((h2.trans h3).trans h4).trans h5).trans h6).trans h7).trans h8).trans h9).trans (bscanJudge_touches s9).mono).trans <|
    .trans (t := idleRestart (bscanJudge s9)) (.of_puts [.pwr]) <| .trans (safRefresh_touches _).mono (irqEvent_touches 2 _).mono

theorem setMode_mode (m : Nat) (s : State) (hm : m < 8 := by decide) : (setMode m s).mode = m :=
  ((setMode_touches m s).rd Fd.SYS_MODE_MODE (by decide)).trans ((State.rd_wr _ _ _).trans (Nat.mod_eq_of_lt hm))

/-- A field that a change of mode leaves. -/
theorem setMode_rd (m : Nat) (s : State) (f : Fld)
    (h : (Keys.one Fd.SYS_MODE_PREV_MODE :: .one Fd.SYS_MODE_MODE :: modeKeys).any (·.has f.key) = false := by decide) :
    (setMode m s).rd f = s.rd f :=
  have hw : Touches modeParts (.one Fd.SYS_MODE_PREV_MODE :: .one Fd.SYS_MODE_MODE :: modeKeys) s
      ((s.wr Fd.SYS_MODE_PREV_MODE s.mode).wr Fd.SYS_MODE_MODE m) := .trans (.wr s Fd.SYS_MODE_PREV_MODE _) (.wr _ Fd.SYS_MODE_MODE m)
  (hw.trans (setMode_touches m s).mono).rd f h

theorem setMode_phase (m : Nat) (s : State) : (setMode m s).sys.phase = s.sys.phase :=
  (congrArg SysSt.phase ((setMode_touches m s).part .sys (by decide)) : ({ (setMode m s).sys with free := 0 } : SysSt).phase = _)

/-- A mode other than RUN and LIMITED leaves the pins with who holds them. -/
theorem setMode_pins (m : Nat) (s : State) (hm : driving m = false) : (setMode m s).chn.pins = s.chn.pins := by
  unfold setMode
  extract_lets old s1 _ s2 s3 s4 _ s5 _ s6 _ s7 s8 s9
  have h5 : Touches [.saf] modeKeys s4 s5 := .ite (fun _ => (wdgRestart_touches s4).mono) (fun _ => .of_puts [.saf])
  have c4 : s4.chn = s.chn := by
    simp only [s4]
    split <;> rfl
  have c7 : s7.chn = s5.chn := by
    simp only [s7]
    split <;> rfl
  have p8 : s8.chn.pins = s7.chn.pins := by
    simp only [s8, hm, Bool.false_and, Bool.false_eq_true, if_false]
    split
    · exact imagesDue_pins s7
    · rfl
  have c9 : s9.chn = s8.chn := by
    simp only [s9, setSrc]
    split
    · split <;> simp
    · rfl
  have hb : (bscanJudge s9).chn = s9.chn := (bscanJudge_touches s9).part .chn (by decide)
  have hr : (safRefresh (idleRestart (bscanJudge s9))).chn = (bscanJudge s9).chn := (safRefresh_touches _).part .chn (by decide)
  have c5 : s5.chn = s4.chn := h5.part .chn (by decide)
  rw [irqEvent_chn, hr, hb, c9, p8, c7, c5, c4]

/-! ### The pins under the entry to SAFE (R142) -/

theorem recompose_pins (st : Nat) (gone : List Nat) (s : State) : (recompose st gone s).chn.pins = s.chn.pins := by
  unfold recompose
  split
  · rfl
  · split
    · rfl
    · rfl

theorem recomposeAll_pins (gone : List Nat) (s : State) : (recomposeAll gone s).chn.pins = s.chn.pins :=
  forEach_pins _ (fun st t => recompose_pins st gone t) _ s

theorem writeRec_touches (k : Nat) (w : List W32) (s : State) : Touches memParts [.all] s (writeRec k w s) :=
  (writeWord_touches 14 _ _ s).trans (writeWord_touches 14 _ _ _)

theorem retractWhere_pins (p : Nib → Bool) (ctr : Fld) (s : State) : (retractWhere p ctr s).chn.pins = s.chn.pins := by
  unfold retractWhere
  extract_lets gone qs _ _ s1
  split
  · rfl
  · have h : Touches memParts [.all] (s1.addWrap ctr gone.length)
        (forEach (gone.map Prod.fst) (s1.addWrap ctr gone.length) (fun k t => writeRec k [] t)) :=
      .forEach _ (fun k t => writeRec_touches k [] t) _ _
    exact (recomposeAll_pins _ _).trans (congrArg ChnSt.pins (h.part .chn (by decide)))

theorem haltLog_touches (q cause idx : Nat) (s : State) : Touches [.que, .irq, .pwr] [.all] s (haltLog q cause idx s) := by
  refine .ite (fun _ => ?_) (fun _ => .wr s _ 1)
  refine .trans (t := { s with que := { s.que with haltLog := s.que.haltLog ++ [⟨q, cause, idx⟩] } }) (.of_puts [.que]) ?_
  unfold irqJudge
  split
  · exact .ite (fun _ => (irqEvent_touches 160 _).mono) (fun _ => .refl _)
  · exact .refl _

theorem haltCause8_pins (q : Nat) (s : State) : (haltCause8 q s).chn.pins = s.chn.pins := by
  unfold haltCause8
  split
  · rfl
  · have h := fun u : State => congrArg ChnSt.pins ((haltLog_touches q 8 0 u).part .chn (by decide))
    exact (h _).trans (retractWhere_pins _ _ s)

theorem putDesc_touches (q : Nat) (d : Desc) (s : State) : Touches memParts [.all] s (putDesc q d s) :=
  .trans (.ite (fun _ => .refl s) (fun _ => writeWord_touches 1 _ _ s)) (.ite (fun _ => .refl _) (fun _ => writeWord_touches 1 _ _ _))

theorem readDesc_touches (q : Nat) (s : State) : Touches memParts [.all] s (readDesc q s).2 := by
  have h := (readWord_touches 1 (2 * q) 0 s).trans (readWord_touches 1 (2 * q + 1) 0 _)
  unfold readDesc
  dsimp only
  split
  · exact h
  · exact h

theorem withDesc_pins (q : Nat) (f : Desc → State → State) (s : State) (hf : ∀ d t, (f d t).chn.pins = t.chn.pins) :
    (withDesc q f s).chn.pins = s.chn.pins := by
  have h : (readDesc q s).2.chn.pins = s.chn.pins := congrArg ChnSt.pins ((readDesc_touches q s).part .chn (by decide))
  unfold withDesc
  split
  · next d t e =>
    rw [e] at h
    exact (hf d t).trans h
  · next t e =>
    rw [e] at h
    exact (haltCause8_pins q t).trans h

theorem qSetState_pins (q st cause : Nat) (s : State) : (qSetState q st cause s).chn.pins = s.chn.pins :=
  withDesc_pins q _ s (fun _ t => congrArg ChnSt.pins ((putDesc_touches q _ t).part .chn (by decide)))

theorem queuesPause_pins (cause : Nat) (s : State) : (queuesPause cause s).chn.pins = s.chn.pins := by
  unfold queuesPause
  exact forEach_pins _ (fun q t => qSetState_pins q 2 cause t) _ s

theorem pairsStop_touches (s : State) : Touches [.irq, .pwr] [.all] s (pairsStop s) :=
  .forEach _ (fun p t => .ite (fun _ => .trans (.ite (fun _ => .wr t _ 0 rfl) (fun _ => .refl t)) <|
    .trans (.wr _ _ 0 rfl) (irqEvent_touches (192 + p) _).mono) (fun _ => .refl t)) _ s

theorem outputsSafe_pins (s : State) : (outputsSafe s).chn.pins = .safe := imagesDue_pins _

theorem emcy_touches (code origin detail : Nat) (s : State) :
    Touches [.net, .irq, .pwr] (.one Fd.NET_ERR_REG_ER :: irqKeys) s (emcy code origin detail s) := by
  unfold emcy
  extract_lets s1 _ s2
  have h1 : Touches [.net, .irq, .pwr] (.one Fd.NET_ERR_REG_ER :: irqKeys) s s1 :=
    .ite (fun _ => .wr s Fd.NET_ERR_REG_ER 0) (fun _ => .wr s Fd.NET_ERR_REG_ER _)
  exact h1.trans <| .trans (t := s2) (.of_puts [.net]) (irqEvent_touches 391 s2).mono

/-- The entry to SAFE: the mode, the pins and the origin it shows. -/
theorem enterSafe_enters (origin detail : Nat) (s : State) (ho : origin < 256) :
    (enterSafe origin detail s).mode = Md.safe ∧ (enterSafe origin detail s).pinsSafe = true ∧
    (enterSafe origin detail s).rd Fd.SYS_MODE_LAST_CAUSE = origin := by
  unfold enterSafe
  extract_lets s0 s1 s2 s3 s4
  have he := emcy_touches 0xFF02 origin detail s4
  have hm : s4.mode = Md.safe := setMode_mode Md.safe _
  have hc : s4.rd Fd.SYS_MODE_LAST_CAUSE = origin :=
    (setMode_rd Md.safe _ _).trans ((State.rd_wr _ _ _).trans (Nat.mod_eq_of_lt ho))
  have h3 : s3.chn.pins = .safe :=
    calc s3.chn.pins = (queuesPause 3 s2).chn.pins := congrArg ChnSt.pins ((pairsStop_touches _).part .chn (by decide))
      _ = s2.chn.pins := queuesPause_pins 3 s2
      _ = .safe := outputsSafe_pins (clearNibs s1)
  have hp : s4.chn.pins = .safe := by
    rw [show s4 = setMode Md.safe (s3.wr Fd.SYS_MODE_LAST_CAUSE origin) from rfl, setMode_pins _ _ (by decide), State.wr_chn]
    exact h3
  refine ⟨(he.rd Fd.SYS_MODE_MODE (by decide)).trans hm, ?_, (he.rd _ (by decide)).trans hc⟩
  rw [State.pinsSafe, emcy_chn, hp]
  rfl

/-! ### The calibration row (R264) -/

/-- What the calibration row is read into. -/
abbrev calKeys : List Keys := [.blk 0x0600, .blk 0x0608, .blk 0x0610]

theorem wr_calKeys (s : State) (f : Fld) (v : Nat) (h : f.key / 2 ^ 22 = 0x0600) : Touches [] [.blk 0x0600] s (s.wr f v) :=
  .wr s f v (by
    have hb : (Keys.blk 0x0600).has f.key = true := beq_iff_eq.2 h
    rw [List.any_cons, hb, Bool.true_or])

/-- The trims of a calibration row. -/
theorem calTrims_touches (l : List Byte) (s : State) : Touches [] [.blk 0x0600] s
    (forEach (List.range 2) (forEach (List.range 4) s (fun j t =>
      (t.wr (Fd.AFE_ADC_TRIM_FOFF j) (mf l (0x20 + 4 * j) 2)).wr (Fd.AFE_ADC_TRIM_FGAIN j) (mf l (0x22 + 4 * j) 2)))
      (fun p t => t.wr (Fd.AFE_ADC_SKEW_SKEW p) (mf l (0x30 + p) 1))) := by
  have ht : ∀ j, j < 4 → (Fd.AFE_ADC_TRIM_FOFF j).key / 2 ^ 22 = 0x0600 ∧ (Fd.AFE_ADC_TRIM_FGAIN j).key / 2 ^ 22 = 0x0600 := by decide
  have hs : ∀ p, p < 2 → (Fd.AFE_ADC_SKEW_SKEW p).key / 2 ^ 22 = 0x0600 := by decide
  refine .trans (.forEach_mem _ _ (fun j hj t => ?_) s) (.forEach_mem _ _ (fun p hp t => ?_) _)
  · obtain ⟨ho, hg⟩ := ht j (List.mem_range.1 hj)
    exact (wr_calKeys t _ _ ho).trans (wr_calKeys _ _ _ hg)
  · exact wr_calKeys t _ _ (hs p (List.mem_range.1 hp))

theorem calRead_of_row (s : State) (h : calRow s ≠ none) :
    Touches [.saf, .log] calKeys s (calRead s) ∧ (calRead s).rd Fd.UFL_STAT_CAL_VALID = 1 := by
  unfold calRead
  split
  · next c l _ =>
    extract_lets s1 s2
    have h1 : Touches [] [.one Fd.UFL_STAT_CAL_COPY, .one Fd.UFL_SERIAL_SERIAL] (s.set1 Fd.UFL_STAT_CAL_VALID) s1 := .trans (.wr _ _ _) (.wr _ _ _)
    have h2 := calTrims_touches l s1
    exact ⟨.trans (.wr s Fd.UFL_STAT_CAL_VALID 1) (h1.mono.trans h2.mono),
      (h2.rd _ (by decide)).trans ((h1.rd _ (by decide)).trans (State.rd_wr _ _ _))⟩
  · next e => exact absurd e h

theorem calRead_of_none (s : State) (h : calRow s = none) :
    Touches [.saf, .log] calKeys s (calRead s) ∧ (calRead s).rd Fd.AFE_FAULT_CAL_INVALID = 1 ∧ (calRead s).rd Fd.UFL_STAT_CAL_VALID = 0 := by
  unfold calRead
  split
  · next e => exact absurd (e.symm.trans h) (by simp)
  · have ht : Touches [.saf, .log] [.blk 0x0610] ((s.clr Fd.UFL_STAT_CAL_VALID).set1 Fd.AFE_FAULT_CAL_INVALID) _ :=
      .trans (logReq_touches Blk.ufl 0x03 0 0 0 _).mono (safRaise_touches 3 _).mono
    exact ⟨.trans (.trans (.wr s Fd.UFL_STAT_CAL_VALID 0) (.wr _ Fd.AFE_FAULT_CAL_INVALID 1)) ht.mono,
      (ht.rd _ (by decide)).trans (State.rd_wr _ _ _),
      (ht.rd _ (by decide)).trans ((State.rd_wr_ne _ _ _ _ (by decide)).trans (State.rd_wr _ _ _))⟩

theorem logReq_bridge (a b c d e : Nat) (s : State) : (logReq a b c d e s).log.bridge = s.log.bridge := by
  unfold logReq
  split
  · rfl
  · rfl

theorem calRead_bridge (s : State) : (calRead s).log.bridge = s.log.bridge := by
  unfold calRead
  split
  · next c l _ => exact congrArg LogSt.bridge ((calTrims_touches l _).part .log (by decide))
  · rw [safRaise_log, logReq_bridge]
    rfl

/-! ### The phases of the start-up (Table 1.9) -/

/-- PLL_LOCK up to the reading of the calibration row. -/
theorem pllLock_eq (s : State) (hm : s.mode = Md.load) (hp : s.sys.phase = .regulators) :
    pllLock s = afeAwake (calRead (bridgeResume (toPhase .pinSettle s))) := if_pos ⟨hp, hm⟩

@[simp] theorem toPhase_rd (p : Phase) (s : State) (f : Fld) : (toPhase p s).rd f = s.rd f := rfl
@[simp] theorem toPhase_phase (p : Phase) (s : State) : (toPhase p s).sys.phase = p := rfl

theorem pllLock_spec (s : State) (hm : s.mode = Md.load) (hp : s.sys.phase = .regulators) :
    let u := pllLock s
    u.sys.phase = .pinSettle ∧ u.mode = Md.load ∧ u.log.bridge = s.log.bridge.map (fun b => { b with ending := true }) ∧
    (calRow s = none → u.rd Fd.AFE_FAULT_CAL_INVALID = 1 ∧ u.rd Fd.UFL_STAT_CAL_VALID = 0) ∧
    (calRow s ≠ none → u.rd Fd.UFL_STAT_CAL_VALID = 1) := by
  intro u
  have e : u = afeAwake (calRead (bridgeResume (toPhase .pinSettle s))) := pllLock_eq s hm hp
  have hr : calRow (bridgeResume (toPhase .pinSettle s)) = calRow s := rfl
  have hb : u.log.bridge = s.log.bridge.map (fun b => { b with ending := true }) := by
    rw [e]
    exact calRead_bridge _
  have ht : Touches [.saf, .log] calKeys (bridgeResume (toPhase .pinSettle s)) (calRead (bridgeResume (toPhase .pinSettle s))) := by
    by_cases h : calRow s = none
    · exact (calRead_of_none _ (hr.trans h)).1
    · exact (calRead_of_row _ (hr ▸ h)).1
  have hph : ({ (calRead (bridgeResume (toPhase .pinSettle s))).sys with free := 0 } : SysSt).phase = .pinSettle :=
    congrArg SysSt.phase (ht.part .sys (by decide))
  refine ⟨?_, ?_, hb, fun h => ?_, fun h => ?_⟩
  · rw [e]
    exact hph
  · rw [e]
    exact (ht.rd Fd.SYS_MODE_MODE (by decide)).trans hm
  · rw [e]
    exact (calRead_of_none _ (hr.trans h)).2
  · rw [e]
    exact (calRead_of_row _ (hr ▸ h)).2

theorem rowSettle_touches (s : State) : Touches [.cfg] [.one Fd.CFG_STAT_ROW_HALF] s (rowSettle s) := by
  unfold rowSettle
  split
  · exact .of_puts [.cfg]
  · exact .trans (.of_puts [.cfg]) (.wr _ Fd.CFG_STAT_ROW_HALF _)

/-- A field of a state's start-up sequencer other than its counter of free values. -/
theorem Touches.phase {s t : State} {ps : List Part} {ks : List Keys} (h : Touches ps ks s t) (hp : Part.sys ∉ ps := by decide) :
    t.sys.phase = s.sys.phase :=
  (congrArg SysSt.phase (h.part .sys hp) : ({ t.sys with free := 0 } : SysSt).phase = _)

theorem pllRetry_spec (which : Nat) (s : State) (hm : s.mode = Md.load) (hp : s.sys.phase = .regulators) :
    let u := pllRetry which s
    u.sys.phase = .regulators ∧ u.mode = Md.load ∧ u.chn.pins = .safe ∧ u.sys.pllRetries = s.sys.pllRetries + 1 := by
  intro u
  have e : u = _ := if_pos ⟨hp, hm⟩
  have ht : Touches [.log, .cfg] [.blk 0x0610, .one Fd.CFG_STAT_ROW_HALF] s
      (rowSettle (logReq Blk.saf 0x01 which (s.sys.pllRetries + 1) 0 s)) :=
    .trans (logReq_touches _ _ _ _ _ s).mono (rowSettle_touches _).mono
  rw [e]
  exact ⟨ht.phase.trans hp, (ht.rd Fd.SYS_MODE_MODE (by decide)).trans hm, rfl, rfl⟩

theorem pinSettle_spec (s : State) (hm : s.mode = Md.load) (hp : s.sys.phase = .pinSettle) :
    let u := pinSettle s
    u.sys.phase = .vote ∧ u.mode = Md.load ∧ u.chn.pins = .safe ∧ u.mem = s.mem := by
  intro u
  have e : u = _ := if_pos ⟨hp, hm⟩
  have ht := rowSettle_touches (toPhase .vote s)
  rw [e]
  exact ⟨ht.phase, (ht.rd Fd.SYS_MODE_MODE (by decide)).trans hm, rfl, ht.part .mem (by decide)⟩

/-! ### The vote (R365) -/

theorem voteState_lt (s : State) : (voteState s).1 < 4 := by
  unfold voteState
  have h0 : 0 < 4 := by decide
  have h1 : 1 < 4 := by decide
  have h3 : 3 < 4 := by decide
  split
  · exact h3
  · split
    · exact h1
    · split
      · exact h0
      · split
        · exact h1
        · exact h3

theorem keyCheck_touches (k : Nat) (s : State) :
    Touches [.log] [.one Fd.LCS_KEY_STAT_PROV, .one Fd.LCS_KEY_STAT_FAIL, .blk 0x0610] s (keyCheck k s) := by
  refine .ite (fun _ => ?_) (fun _ => .refl s)
  refine .trans (.wr s Fd.LCS_KEY_STAT_PROV _) (.ite (fun _ => .refl _) (fun _ => ?_))
  exact .trans (.wr _ Fd.LCS_KEY_STAT_FAIL _) (logReq_touches _ _ _ _ _ _).mono

/-- The vote puts the voted state in LCS_STATE and the rights of that state in DBG_RIGHTS. -/
theorem lcsVote_shows (s : State) : (lcsVote s).rd Fd.LCS_STATE_STATE = (voteState s).1 ∧
    (lcsVote s).rd Fd.DBG_RIGHTS_RIGHTS = (if (voteState s).1 = 0 then 0x3F else 0) := by
  unfold lcsVote
  extract_lets v t code m s1 s2 s3 s4
  have h1 : (t.wr Fd.LCS_STATE_STATE v.1).rd Fd.LCS_STATE_STATE = v.1 :=
    (State.rd_wr _ _ _).trans (Nat.mod_eq_of_lt (voteState_lt s))
  have hl : Touches [.log] [.blk 0x0610] (s4.wr Fd.DBG_RIGHTS_RIGHTS (if v.1 = 0 then 0x3F else 0)) _ :=
    logReq_touches Blk.lcs 0x01 v.1 m (b2n v.2.1) _
  have h2 : Touches [] [.one Fd.LCS_STATE_MATCH, .one Fd.LCS_STATE_COMPLETED, .one Fd.LCS_STATE_CLOSE_INTENT, .one Fd.LCS_STATE_SCRAP_INTENT]
      (t.wr Fd.LCS_STATE_STATE v.1) s2 := .trans (.trans (.wr _ _ _) (.wr _ _ _)) (.trans (.wr _ _ _) (.wr _ _ _))
  have h3 : Touches [.log] [.one Fd.LCS_KEY_STAT_PROV, .one Fd.LCS_KEY_STAT_FAIL, .blk 0x0610] s2 s3 :=
    .trans (.trans (.wr s2 _ 0) (.wr _ _ 0)) (.forEach _ keyCheck_touches _ _)
  have h4 : Touches [] [.one Fd.LCS_FLOOR_FLOOR, .one Fd.LCS_DBG_CTR_COUNT] s3 s4 := .trans (.wr _ _ _) (.wr _ _ _)
  constructor
  · calc _ = (s4.wr Fd.DBG_RIGHTS_RIGHTS (if v.1 = 0 then 0x3F else 0)).rd Fd.LCS_STATE_STATE := hl.rd _ (by decide)
      _ = s4.rd Fd.LCS_STATE_STATE := State.rd_wr_ne _ _ _ _ (by decide)
      _ = s3.rd Fd.LCS_STATE_STATE := h4.rd _ (by decide)
      _ = s2.rd Fd.LCS_STATE_STATE := h3.rd _ (by decide)
      _ = (t.wr Fd.LCS_STATE_STATE v.1).rd Fd.LCS_STATE_STATE := h2.rd _ (by decide)
      _ = v.1 := h1
  · refine (hl.rd _ (by decide)).trans ((State.rd_wr _ _ _).trans ?_)
    split
    · rfl
    · rfl

theorem showCommitted_touches (s : State) : Touches [] [.blk 0x0605] s (showCommitted s) :=
  (Touches.wr s Fd.CFG_STAT_COMMITTED_BANK _).trans <| .trans (.wr _ (Fd.CFG_BANK_STAT_COMMITTED 0) _) (.wr _ (Fd.CFG_BANK_STAT_COMMITTED 1) _)

theorem voteDone_spec (s : State) (hm : s.mode = Md.load) (hp : s.sys.phase = .vote) :
    let u := voteDone s
    u.sys.phase = .startTest ∧ u.mode = Md.selftest ∧ u.rd Fd.LCS_STATE_STATE = (voteState s).1 ∧
    u.rd Fd.DBG_RIGHTS_RIGHTS = (if (voteState s).1 = 0 then 0x3F else 0) := by
  intro u
  have e : u = setMode Md.selftest (toPhase .startTest (showCommitted (lcsVote s))) := if_pos ⟨hp, hm⟩
  have kept : ∀ f : Fld, (Keys.one Fd.SYS_MODE_PREV_MODE :: .one Fd.SYS_MODE_MODE :: modeKeys).any (·.has f.key) = false →
      [Keys.blk 0x0605].any (·.has f.key) = false → u.rd f = (lcsVote s).rd f := by
    intro f hf hc
    rw [e]
    rw [setMode_rd _ _ f hf, toPhase_rd]
    exact (showCommitted_touches (lcsVote s)).rd f hc
  refine ⟨?_, ?_, (kept _ (by decide) (by decide)).trans (lcsVote_shows s).1, (kept _ (by decide) (by decide)).trans (lcsVote_shows s).2⟩
  · rw [e, setMode_phase, toPhase_phase]
  · rw [e]
    exact setMode_mode Md.selftest _

/-! ### The end of the start-up tests (R21) -/

/-- What the start-up tests report. -/
def startTested (chk : Nat) (s : State) : State :=
  (((((s.wr Fd.MEM_CHK_STAT_FAIL (chk % 65536)).wr Fd.MEM_CHK_STAT_XMC_FAIL (chk / 65536)).set1 Fd.MEM_CHK_STAT_DONE)).wr
    Fd.BST_SU_POS_FRAME ((s.rd Fd.BST_SU_POS_FRAME + 4) % 5632))

theorem startTested_touches (chk : Nat) (s : State) : Touches [] [.blk 0x0606, .one Fd.BST_SU_POS_FRAME] s (startTested chk s) :=
  (Touches.wr s Fd.MEM_CHK_STAT_FAIL _).trans <| .trans (.wr _ Fd.MEM_CHK_STAT_XMC_FAIL _) <| .trans (.wr _ Fd.MEM_CHK_STAT_DONE 1)
    (.wr _ Fd.BST_SU_POS_FRAME _)

theorem startTestEnd_eq (chk : Nat) (march : Bool) (s : State) (hm : s.mode = Md.selftest) (hp : s.sys.phase = .startTest) :
    startTestEnd chk march s =
      if chk ≠ 0 then enterSafe Blk.mem 0xFF (logReq Blk.sys 0x02 Blk.mem 0 0 (memStat Fd.MEM_STAT_CHK_FAIL (startTested chk s)))
      else if march then enterSafe Blk.bst 0xFF (logReq Blk.sys 0x02 Blk.bst 0 0 (startTested chk s))
      else
        let t := setMode Md.load (toPhase .auth ((startTested chk s).set1 Fd.SYS_MODE_STARTUP_DONE))
        { t with cfg := { t.cfg with loadBank := t.rd Fd.CFG_STAT_COMMITTED_BANK } } := if_pos ⟨hp, hm⟩

theorem startTestEnd_pass (s : State) (hm : s.mode = Md.selftest) (hp : s.sys.phase = .startTest) :
    let u := startTestEnd 0 false s
    u.sys.phase = .auth ∧ u.mode = Md.load ∧ u.rd Fd.SYS_MODE_STARTUP_DONE = 1 ∧ u.cfg.loadBank = s.rd Fd.CFG_STAT_COMMITTED_BANK := by
  intro u
  have e : u = _ := startTestEnd_eq 0 false s hm hp
  have hk : ∀ f : Fld, (Keys.one Fd.SYS_MODE_PREV_MODE :: .one Fd.SYS_MODE_MODE :: modeKeys).any (·.has f.key) = false →
      (setMode Md.load (toPhase .auth ((startTested 0 s).set1 Fd.SYS_MODE_STARTUP_DONE))).rd f =
        ((startTested 0 s).set1 Fd.SYS_MODE_STARTUP_DONE).rd f := fun f hf => setMode_rd _ _ f hf
  rw [e]
  refine ⟨setMode_phase _ _, setMode_mode Md.load _, (hk Fd.SYS_MODE_STARTUP_DONE (by decide)).trans (State.rd_wr _ _ _), ?_⟩
  exact (hk Fd.CFG_STAT_COMMITTED_BANK (by decide)).trans
    ((State.rd_wr_ne _ _ _ _ (by decide)).trans ((startTested_touches 0 s).rd _ (by decide)))

theorem startTestEnd_fail (chk : Nat) (march : Bool) (s : State) (hm : s.mode = Md.selftest) (hp : s.sys.phase = .startTest)
    (hf : chk ≠ 0 ∨ march = true) :
    let u := startTestEnd chk march s
    u.mode = Md.safe ∧ u.pinsSafe = true ∧ u.rd Fd.SYS_MODE_LAST_CAUSE = (if chk ≠ 0 then Blk.mem else Blk.bst) := by
  intro u
  have e : u = _ := startTestEnd_eq chk march s hm hp
  rw [e]
  by_cases hc : chk ≠ 0
  · rw [if_pos hc, if_pos hc]
    exact enterSafe_enters _ _ _ (by decide)
  · rw [if_neg hc, if_neg hc, if_pos (hf.resolve_left hc)]
    exact enterSafe_enters _ _ _ (by decide)

/-- Settles O8: each command of the start-up acts in its phase as its own lemma tells. -/
theorem startUpTimelineAdvances : Obligations.StartUpTimelineAdvances := by
  intro s which chk march hc
  have run := fun f => clockedRun_of_clocked f s hc
  refine ⟨fun hm hp => ⟨_, run pllLock, pllLock_spec s hm hp⟩, fun hm hp => ⟨_, run (pllRetry which), pllRetry_spec which s hm hp⟩,
    fun hm hp => ⟨_, run pinSettle, pinSettle_spec s hm hp⟩, fun hm hp => ⟨_, run voteDone, voteDone_spec s hm hp⟩,
    fun hm hp => ⟨fun h0 hf => ?_, fun hf => ⟨_, run (startTestEnd chk march), startTestEnd_fail chk march s hm hp hf⟩⟩⟩
  subst h0 hf
  exact ⟨_, run (startTestEnd 0 false), startTestEnd_pass s hm hp⟩

end Sys2Proof.Machine

/-! The user logic at its clock edges (R172 to R184). -/

namespace Sys2Proof.Machine

set_option Elab.async false

open Sys2Proof

/-! ### Folds over tables -/

/-- A fold that keeps an invariant, and after one of its elements a property. -/
theorem foldl_reaches {σ α : Type} (f : σ → α → σ) (I Q : σ → Prop) (l : List α) (a : α) (ha : a ∈ l)
    (hI : ∀ b, b ∈ l → ∀ t, I t → I (f t b)) (hset : ∀ t, I t → Q (f t a)) (hkeep : ∀ b, b ∈ l → ∀ t, I t → Q t → Q (f t b))
    (s : σ) (h : I s) : Q (l.foldl f s) := by
  obtain ⟨l1, l2, rfl⟩ := List.append_of_mem ha
  rw [List.foldl_append, List.foldl_cons]
  have h1 : I (l1.foldl f s) := List.foldlRecOn l1 f h (fun t ht b hb => hI b (List.mem_append_left _ hb) t ht)
  have h2 : I (f (l1.foldl f s) a) ∧ Q (f (l1.foldl f s) a) := ⟨hI a ha _ h1, hset _ h1⟩
  refine (List.foldlRecOn (motive := fun t => I t ∧ Q t) l2 f h2 (fun t ht b hb => ?_)).2
  have hm : b ∈ l1 ++ a :: l2 := List.mem_append_right _ (List.mem_cons_of_mem a hb)
  exact ⟨hI b hm t ht.1, hkeep b hm t ht.1 ht.2⟩

/-- A fold whose elements all keep what is read. -/
theorem foldl_keeps {σ α β : Type} (f : σ → α → σ) (g : σ → β) (l : List α) (h : ∀ b, b ∈ l → ∀ t, g (f t b) = g t) (s : σ) :
    g (l.foldl f s) = g s :=
  List.foldlRecOn (motive := fun t => g t = g s) l f rfl (fun t ht b hb => (h b hb t).trans ht)

/-- A fold whose element `a` sets what is read to `v`, and whose others keep it there. -/
theorem foldl_sets {σ α β : Type} (f : σ → α → σ) (g : σ → β) (v : β) (l : List α) (a : α) (ha : a ∈ l)
    (hset : ∀ t, g (f t a) = v)
    (hkeep : ∀ b, b ∈ l → ∀ t, g t = v → g (f t b) = v) (s : σ) : g (l.foldl f s) = v :=
  foldl_reaches f (fun _ => True) (fun t => g t = v) l a ha (fun _ _ _ _ => trivial) (fun t _ => hset t) (fun b hb t _ => hkeep b hb t) s trivial

/-! ### A table filled for every active sector -/

section Fill

variable {α : Type} [DecidableEq α] (d : α) (w n : Nat) (c : Nat → Nat → Bool) (v : Nat → Nat → α) (ks : List Nat)

/-- A table in which entry `w k + j` takes `v k j` for every sector of a list and every `j < n` with `c k j`. -/
def mapFill (m : SMap α) : SMap α :=
  ks.foldl (fun m k => (List.range n).foldl (fun m j => if c k j then mapSet d m (w * k + j) (v k j) else m) m) m

variable {d w n c v ks}

/-- Two entries of different sectors or places are different. -/
theorem mul_add_ne {w n k j k' j' : Nat} (hn : n ≤ w) (hj : j < n) (hj' : j' < n) (h : ¬(k' = k ∧ j' = j)) : w * k + j ≠ w * k' + j' := by
  intro e
  have hk : k = k' := by
    have h1 := congrArg (· / w) e
    have hw : 0 < w := by omega
    simpa [Nat.mul_add_div hw, Nat.div_eq_of_lt (Nat.lt_of_lt_of_le hj hn), Nat.div_eq_of_lt (Nat.lt_of_lt_of_le hj' hn)] using h1
  subst hk
  exact h ⟨rfl, by omega⟩

theorem mapFill_get (hn : n ≤ w) (m : SMap α) {k j : Nat} (hk : k ∈ ks) (hj : j < n) :
    mapGet d (mapFill d w n c v ks m) (w * k + j) = if c k j then v k j else mapGet d m (w * k + j) := by
  have other : ∀ k' j', j' < n → ¬(k' = k ∧ j' = j) → ∀ m : SMap α,
      mapGet d (if c k' j' then mapSet d m (w * k' + j') (v k' j') else m) (w * k + j) = mapGet d m (w * k + j) := by
    intro k' j' hj' hne m
    split
    · exact mapGet_mapSet_ne d m _ _ _ (mul_add_ne hn hj hj' hne)
    · rfl
  unfold mapFill
  split
  · next hc =>
    have inner : ∀ k' j', j' < n → ∀ m : SMap α, mapGet d m (w * k + j) = v k j →
        mapGet d (if c k' j' then mapSet d m (w * k' + j') (v k' j') else m) (w * k + j) = v k j := by
      intro k' j' hj' m h
      by_cases e : k' = k ∧ j' = j
      · obtain ⟨rfl, rfl⟩ := e
        rw [if_pos hc, mapGet_mapSet_self]
      · rw [other k' j' hj' e, h]
    refine foldl_sets _ (fun m => mapGet d m (w * k + j)) _ ks k hk (fun t => ?_) (fun k' _ t h => ?_) m
    · refine foldl_sets _ (fun m => mapGet d m (w * k + j)) _ _ j (List.mem_range.2 hj) (fun u => ?_)
        (fun j' hj' u h => inner k j' (List.mem_range.1 hj') u h) t
      rw [if_pos hc, mapGet_mapSet_self]
    · exact List.foldlRecOn (motive := fun m => mapGet d m (w * k + j) = v k j) _ _ h (fun u hu j' hj' => inner k' j' (List.mem_range.1 hj') u hu)
  · next hc =>
    refine foldl_keeps _ (fun m => mapGet d m (w * k + j)) ks (fun k' _ t => ?_) m
    refine foldl_keeps _ (fun m => mapGet d m (w * k + j)) _ (fun j' hj' u => ?_) t
    by_cases e : k' = k ∧ j' = j
    · obtain ⟨rfl, rfl⟩ := e
      rw [if_neg hc]
    · exact other k' j' (List.mem_range.1 hj') e u

end Fill

/-! ### Flip-flops (R172 to R174) -/

theorem ffSet_get (f : Nat → Nat → Bool) (s : State) {k j : Nat} (hk : k ∈ s.cfg.active.map Prod.fst) (hj : j < 24576) :
    mapGet false (ffSet f s).fab.ff (2 ^ 15 * k + j) = f k j :=
  mapFill_get (c := fun _ _ => true) (by decide) s.fab.ff hk hj

/-! ### Chains, ports and probes at an edge -/

theorem chainSample_touches (ch en : Nat) (s : State) : Touches [.saf] [.blk 0x0604] s (chainSample ch en s) := by
  unfold chainSample
  split
  · extract_lets m s1 s2
    refine .ite (fun _ => .refl s) (fun _ => ?_)
    have h1 : Touches [.saf] [.blk 0x0604] s s1 := (Touches.wr s Fd.FAB_CHAIN_CNT_COUNT _).trans (.wr _ Fd.FAB_STAT_CONTENTION 1)
    have h2 : Touches [.saf] [.blk 0x0604] s1 s2 := .ite (fun _ => .refl s1) (fun _ => (Touches.wr s1 Fd.FAB_CHAIN_CAP_CHAIN ch).trans <|
      .trans (.wr _ Fd.FAB_CHAIN_CAP_TAP_A _) <| .trans (.wr _ Fd.FAB_CHAIN_CAP_TAP_B _) <| .trans (.wr _ Fd.FAB_CHAIN_CAP_TIME _)
      (.wr _ Fd.FAB_CHAIN_CAP_VALID 1))
    exact (h1.trans h2).trans (.ite (fun _ => .refl s2) (fun _ => (safRaise_touches 23 s2).mono))
  · exact .refl s

theorem chainEdges_fab (s0 : State) (k : Nat) (s : State) : (chainEdges s0 k s).fab = s.fab :=
  foldl_keeps _ State.fab _ (fun c _ t => (chainSample_touches _ _ t).part .fab (by decide)) s

/-- The registers of the user logic: flip-flops, math blocks and inkwell outputs. -/
def logicOf (s : State) : SMap Bool × SMap MathSt × SMap InkPort := (s.fab.ff, s.fab.math, s.fab.ink)

theorem portEdges_logic (s : State) : logicOf (portEdges s) = logicOf s := by
  unfold portEdges
  extract_lets on _ s1 _ _ s2
  have h2 : logicOf s2 = logicOf s1 := by
    simp only [s2]
    split
    · rfl
    · rfl
  split
  · exact h2
  · exact h2

theorem probeEdges_logic (s0 s : State) : logicOf (probeEdges s0 s) = logicOf s := by
  unfold probeEdges
  split
  · refine foldl_keeps _ logicOf _ ?_ s
    intro _ _ _
    rfl
  · rfl

/-! ### Math blocks at an edge (R180) -/

theorem mathFlagged_fab (f : Fld) (i : Nat) (ev clear : Bool) (s : State) : (mathFlagged f i ev clear s).fab = s.fab := by
  unfold mathFlagged
  split
  · rfl
  · split
    · rfl
    · rfl

/-- The step of one math block at an edge of its clock. -/
def mathStep (s0 : State) (k b : Nat) (t : State) : State :=
  let m := (designOf s0 k).math b
  let r := mathNext s0 k b
  let i := 48 * k + b
  let t1 := { t with fab := { t.fab with math := mapSet mathZero t.fab.math i r.1 } }
  let clear := wireVal s0 k m.clear
  mathFlagged (Fd.FAB_MATH_OVF_FLAG (i / 32)) i (r.2 && !m.cfg.sat) clear
    (mathFlagged (Fd.FAB_MATH_SAT_FLAG (i / 32)) i (r.2 && m.cfg.sat) clear t1)

theorem mathEdges_eq (s0 : State) (k : Nat) (s : State) : mathEdges s0 k s =
    forEach ((List.range 48).filter (fun b => sees s0 k ((designOf s0 k).math b).net true)) s (mathStep s0 k) := rfl

theorem mathStep_fab (s0 : State) (k b : Nat) (t : State) :
    (mathStep s0 k b t).fab = { t.fab with math := mapSet mathZero t.fab.math (48 * k + b) (mathNext s0 k b).1 } := by
  unfold mathStep
  dsimp only
  rw [mathFlagged_fab, mathFlagged_fab]

theorem mathStep_self (s0 : State) (k b : Nat) (t : State) : mathSt (mathStep s0 k b t) k b = (mathNext s0 k b).1 := by
  rw [mathSt, mathStep_fab, mapGet_mapSet_self]

theorem mathStep_ne (s0 t : State) {k b k' b' : Nat} (hb : b < 48) (hb' : b' < 48) (h : ¬(k' = k ∧ b' = b)) :
    mathSt (mathStep s0 k' b' t) k b = mathSt t k b := by
  rw [mathSt, mathStep_fab]
  exact mapGet_mapSet_ne _ _ _ _ _ (mul_add_ne (by decide : 48 ≤ 48) hb hb' h)

/-- A math block after the edge of its sector. -/
theorem mathEdges_self (s0 : State) (k b : Nat) (hb : b < 48) (hs : sees s0 k ((designOf s0 k).math b).net true = true) (s : State) :
    mathSt (mathEdges s0 k s) k b = (mathNext s0 k b).1 := by
  rw [mathEdges_eq]
  refine foldl_sets _ (fun t => mathSt t k b) _ _ b (List.mem_filter.2 ⟨List.mem_range.2 hb, hs⟩) (mathStep_self s0 k b) (fun b' hb' t h => ?_) s
  by_cases e : b' = b
  · rw [e]
    exact mathStep_self s0 k b t
  · exact (mathStep_ne s0 t hb (List.mem_range.1 (List.mem_filter.1 hb').1) (fun c => e c.2)).trans h

/-- A math block that the edges of a sector do not reach. -/
theorem mathEdges_keeps (s0 : State) (k b k' : Nat) (hb : b < 48) (hs : k' = k → sees s0 k ((designOf s0 k).math b).net true = false) (s : State) :
    mathSt (mathEdges s0 k' s) k b = mathSt s k b := by
  rw [mathEdges_eq]
  refine foldl_keeps _ (fun t => mathSt t k b) _ (fun b' hb' t => ?_) s
  obtain ⟨hr, hc⟩ := List.mem_filter.1 hb'
  refine mathStep_ne s0 t hb (List.mem_range.1 hr) (fun c => ?_)
  rw [c.1, c.2, hs c.1] at hc
  exact Bool.false_ne_true hc

/-- The math blocks' edges leave flip-flops and inkwells. -/
theorem mathEdges_others (s0 : State) (k : Nat) (s : State) : (mathEdges s0 k s).fab.ff = s.fab.ff ∧ (mathEdges s0 k s).fab.ink = s.fab.ink := by
  rw [mathEdges_eq]
  exact ⟨foldl_keeps _ (fun t : State => t.fab.ff) _ (fun b _ t => by rw [mathStep_fab]) s,
    foldl_keeps _ (fun t : State => t.fab.ink) _ (fun b _ t => by rw [mathStep_fab]) s⟩

/-! ### Inkwells at an edge (R181, R232) -/

/-- In the fabric, `t` differs from `s` in the ports of inkwell `n` alone. -/
structure InkOnly (n : Nat) (s t : State) : Prop where
  ff : t.fab.ff = s.fab.ff
  math : t.fab.math = s.fab.math
  ink : ∀ i, i / 2 ≠ n → mapGet inkPortZero t.fab.ink i = mapGet inkPortZero s.fab.ink i

namespace InkOnly

variable {n : Nat} {s t u : State}

theorem trans (h : InkOnly n s t) (g : InkOnly n t u) : InkOnly n s u :=
  ⟨g.ff.trans h.ff, g.math.trans h.math, fun i hi => (g.ink i hi).trans (h.ink i hi)⟩

theorem of_fab (h : t.fab = s.fab) : InkOnly n s t := ⟨by rw [h], by rw [h], fun i _ => by rw [h]⟩

theorem of_touches {ps : List Part} {ks : List Keys} (h : Touches ps ks s t) (hp : Part.fab ∉ ps := by decide) : InkOnly n s t :=
  of_fab (h.part .fab hp)

theorem ite {c : Prop} [Decidable c] (ht : InkOnly n s t) (hu : InkOnly n s u) : InkOnly n s (if c then t else u) := by
  split
  · exact ht
  · exact hu

theorem when (c : Bool) (f : State → State) (h : InkOnly n s (f s)) : InkOnly n s (when_ c f s) := .ite h (of_fab rfl)

end InkOnly

theorem updPort_inkOnly (k p : Nat) (f : InkPort → InkPort) (s : State) : InkOnly (36 * k + p / 2) s (updPort k p f s) :=
  ⟨rfl, rfl, fun i hi => mapGet_mapSet_ne _ _ _ _ _ (by
    rintro rfl
    exact hi (by omega))⟩

theorem updInk_inkOnly (side i : Nat) (f : InkPort → InkPort) (s : State) (hs : side < 2) : InkOnly (i / 512) s (updInk side i f s) :=
  ⟨rfl, rfl, fun j hj => mapGet_mapSet_ne _ _ _ _ _ (by
    rintro rfl
    exact hj (by omega))⟩

theorem poisonWord_touches (m i : Nat) (s : State) : Touches memParts [.all] s (poisonWord m i s) := mput_touches _ _ s

theorem narrowBits_touches (side m i : Nat) (d mask : W64) (master : Nat) (s : State) :
    Touches memParts [.all] s (narrowBits side m i d mask master s).2 := by
  have hr := readWord_touches m i master s
  unfold narrowBits
  extract_lets r
  split
  · exact (hr.trans (poisonWord_touches m i _)).trans (memCap_touches _ _ _ _ _).mono
  · next s1 _ old _ =>
    extract_lets new s2
    have h1 : Touches memParts [.all] r.2 s1 := by
      simp only [s1]
      split
      · exact .ite (fun _ => .refl _) (fun _ => mergeStore_touches _ _)
      · exact .refl _
    have h2 : Touches memParts [.all] s1 s2 := .trans (retUnmerge_touches m i s1) <|
      .trans (t := touchWord m i (retUnmerge m i s1)) (.of_puts [.mst]) (.ite (fun _ => .wr _ _ _ rfl) (fun _ => .refl _))
    exact hr.trans <| h1.trans <| h2.trans (.of_puts [.mst])

theorem inkRead_inkOnly (side i : Nat) (s : State) (hs : side < 2) : InkOnly (i / 512) s (inkRead side i s).2 := by
  unfold inkRead
  dsimp only
  exact .trans (.of_touches (readWord_touches 10 i 0 s)) (updInk_inkOnly side i _ _ hs)

theorem inkGet_inkOnly (side : Nat) (a : InkAcc) (s : State) (hs : side < 2) : InkOnly (a.word / 512) s (inkGet side a s) :=
  .ite (.trans (inkRead_inkOnly side a.word s hs) (updInk_inkOnly side a.word _ _ hs)) (.of_fab rfl)

theorem inkWrite_inkOnly (side i : Nat) (d mask : W64) (s : State) (hs : side < 2) : InkOnly (i / 512) s (inkWrite side i d mask s) := by
  have hn := narrowBits_touches side 10 i d mask 0 s
  refine .ite (.of_fab rfl) (.ite (.of_touches (writeWord_touches 10 i d s)) ?_)
  split
  · next t e =>
    rw [e] at hn
    exact .of_touches hn
  · next t e =>
    rw [e] at hn
    exact .trans (.of_touches hn) (updInk_inkOnly side i _ t hs)

theorem inkDrop_inkOnly (i : Nat) (s : State) : InkOnly (i / 512) s (inkDrop i s) := by
  unfold inkDrop
  extract_lets s0 s1
  have h0 : InkOnly (i / 512) s s0 := updInk_inkOnly 1 i _ s (by decide)
  exact h0.trans (.trans (t := s1) (.of_fab rfl) (.ite (.of_fab rfl) (.of_fab rfl)))

theorem inkWrites_inkOnly (i : Nat) (da ma db mb : W64) (s : State) : InkOnly (i / 512) s (inkWrites i da ma db mb s) :=
  .ite (.trans (inkWrite_inkOnly 0 i da ma s (by decide)) (inkDrop_inkOnly i _))
    (.trans (inkWrite_inkOnly 0 i da ma s (by decide)) (inkWrite_inkOnly 1 i db mb _ (by decide)))

theorem inkOne_inkOnly (limusk : Bool) (side : Nat) (a : InkAcc) (s : State) (hs : side < 2) :
    InkOnly (a.word / 512) s (inkOne limusk side a s) :=
  .ite (.trans (inkWrite_inkOnly side a.word _ _ s hs) (inkGet_inkOnly side a _ hs))
    (.trans (inkGet_inkOnly side a s hs) (inkWrite_inkOnly side a.word _ _ _ hs))

/-- An access reaches a word of its own inkwell. -/
theorem inkAcc_word (s : State) (k p : Nat) (a : InkAcc) (h : inkAcc s k p = some a) : a.word / 512 = 36 * k + p / 2 := by
  unfold inkAcc at h
  extract_lets c w width x lo write at h
  split at h
  · obtain rfl := Option.some.inj h
    dsimp only
    omega
  · exact absurd h (by simp)

theorem inkAcc_of_still (s : State) (k p : Nat) (h : sees s k ((designOf s k).ink p).net true = false) : inkAcc s k p = none := by
  unfold inkAcc
  rw [if_neg (by simp [h])]

/-- Inkwell j of sector k at an edge changes its own two ports alone. -/
theorem inkEdge_inkOnly (s0 : State) (k j : Nat) (s : State) : InkOnly (36 * k + j) s (inkEdge s0 k j s) := by
  have port : ∀ c p f t, p / 2 = j → InkOnly (36 * k + j) t (when_ c (updPort k p f) t) := fun c p f t e =>
    .when c _ (e ▸ updPort_inkOnly k p f t)
  have one : ∀ side x t, side < 2 → inkAcc s0 k (2 * j + side) = some x →
      InkOnly (36 * k + j) t (inkOne ((designOf s0 k).limusk j) side x t) := by
    intro side x t hs e
    have := inkOne_inkOnly ((designOf s0 k).limusk j) side x t hs
    rwa [inkAcc_word s0 k _ x e, show (2 * j + side) / 2 = j by omega] at this
  unfold inkEdge
  extract_lets d pa pb edge quiet a b s1 s2 s3 lim
  have h1 : InkOnly (36 * k + j) s s1 := .trans (port _ pa _ s (by omega)) (port _ pb _ _ (by omega))
  have h2 : InkOnly (36 * k + j) s1 s2 := port _ pa _ s1 (by omega)
  have h3 : InkOnly (36 * k + j) s s3 := (h1.trans h2).trans (port _ pb _ s2 (by omega))
  have ea : inkAcc s0 k pa = a := rfl
  have eb : inkAcc s0 k pb = b := rfl
  clear_value s3 a b
  split
  · next x y =>
    have hx : x.word / 512 = 36 * k + j := by
      rw [inkAcc_word s0 k pa x ea]
      omega
    have ga : ∀ t, InkOnly (36 * k + j) t (inkGet 0 x t) := fun t => hx ▸ inkGet_inkOnly 0 x t (by decide)
    have hy : y.word / 512 = 36 * k + j := by
      rw [inkAcc_word s0 k pb y eb]
      omega
    have gb : ∀ t, InkOnly (36 * k + j) t (inkGet 1 y t) := fun t => hy ▸ inkGet_inkOnly 1 y t (by decide)
    have ww : ∀ t, InkOnly (36 * k + j) t (inkWrites x.word x.data x.mask y.data y.mask t) := fun t => hx ▸ inkWrites_inkOnly _ _ _ _ _ t
    refine .ite (.ite ?_ ?_) ?_
    · exact ((h3.trans (ww s3)).trans (ga _)).trans (gb _)
    · exact ((h3.trans (ga s3)).trans (gb _)).trans (ww _)
    · exact (h3.trans (one 0 x s3 (by decide) ea)).trans (one 1 y _ (by decide) eb)
  · next x => exact h3.trans (one 0 x s3 (by decide) ea)
  · next y => exact h3.trans (one 1 y s3 (by decide) eb)
  · exact h3

/-- An inkwell with no edge at either port stays as it is. -/
theorem inkEdge_of_still (s0 : State) (k j : Nat) (s : State) (ha : sees s0 k ((designOf s0 k).ink (2 * j)).net true = false)
    (hb : sees s0 k ((designOf s0 k).ink (2 * j + 1)).net true = false) : inkEdge s0 k j s = s := by
  simp [inkEdge, inkAcc_of_still s0 k _ ha, inkAcc_of_still s0 k _ hb, ha, hb, when_]

/-- A port with an edge and no access, beside one without an edge, shifts its output register. -/
theorem inkEdge_of_idle (s0 : State) (k p o : Nat) (s : State) (hp : p / 2 = o / 2) (hne : p ≠ o)
    (ho : sees s0 k ((designOf s0 k).ink o).net true = false) (he : sees s0 k ((designOf s0 k).ink p).net true = true)
    (ha : inkAcc s0 k p = none) : ∃ f, (∀ x, (f x).q = x.q) ∧ inkEdge s0 k (p / 2) s = inkShift k p (updPort k p f s) := by
  have hn := inkAcc_of_still s0 k o ho
  rcases Nat.mod_two_eq_zero_or_one p with h2 | h2
  · have e1 : 2 * (p / 2) = p := by omega
    have e2 : 2 * (p / 2) + 1 = o := by omega
    refine ⟨fun x => { x with late := false }, fun _ => rfl, ?_⟩
    simp only [inkEdge, e2]
    simp [e1, ha, hn, he, ho, when_]
  · have e1 : 2 * (p / 2) = o := by omega
    have e2 : 2 * (p / 2) + 1 = p := by omega
    refine ⟨fun x => { x with coll := false, late := false }, fun _ => rfl, ?_⟩
    simp only [inkEdge, e2]
    simp [e1, ha, hn, he, ho, when_]

theorem updPort_self (k p : Nat) (f : InkPort → InkPort) (s : State) :
    mapGet inkPortZero (updPort k p f s).fab.ink (72 * k + p) = f (mapGet inkPortZero s.fab.ink (72 * k + p)) := mapGet_mapSet_self _ _ _ _

/-! ### Rising and falling edges -/

/-- What the rising edges do in one sector once the flip-flops have taken their values. -/
def sectorEdges (s0 : State) (k : Nat) (t : State) : State := chainEdges s0 k (forEach (List.range 36) (mathEdges s0 k t) (inkEdge s0 k))

theorem risingEdges_logic (s0 : State) :
    logicOf (risingEdges s0) = logicOf (forEach (s0.cfg.active.map Prod.fst) (ffSet (ffNext s0 true) s0) (sectorEdges s0)) :=
  (probeEdges_logic s0 _).trans (portEdges_logic _)

/-- The inkwells of a sector leave flip-flops and math blocks. -/
theorem inkEdges_others (s0 : State) (k : Nat) (t : State) :
    (forEach (List.range 36) t (inkEdge s0 k)).fab.ff = t.fab.ff ∧ (forEach (List.range 36) t (inkEdge s0 k)).fab.math = t.fab.math :=
  ⟨foldl_keeps _ (fun t : State => t.fab.ff) _ (fun j _ t => (inkEdge_inkOnly s0 k j t).ff) t,
    foldl_keeps _ (fun t : State => t.fab.math) _ (fun j _ t => (inkEdge_inkOnly s0 k j t).math) t⟩

theorem sectorEdges_ff (s0 : State) (k : Nat) (t : State) : (sectorEdges s0 k t).fab.ff = t.fab.ff :=
  (congrArg FabSt.ff (chainEdges_fab s0 k _)).trans ((inkEdges_others s0 k _).1.trans (mathEdges_others s0 k t).1)

theorem sectorEdges_math (s0 : State) (k : Nat) (t : State) : (sectorEdges s0 k t).fab.math = (mathEdges s0 k t).fab.math :=
  (congrArg FabSt.math (chainEdges_fab s0 k _)).trans (inkEdges_others s0 k _).2

theorem sectorEdges_ink (s0 : State) (k : Nat) (t : State) :
    (sectorEdges s0 k t).fab.ink = (forEach (List.range 36) (mathEdges s0 k t) (inkEdge s0 k)).fab.ink :=
  congrArg FabSt.ink (chainEdges_fab s0 k _)

theorem risingEdges_ff (s0 : State) : (risingEdges s0).fab.ff = (ffSet (ffNext s0 true) s0).fab.ff :=
  (congrArg Prod.fst (risingEdges_logic s0)).trans (foldl_keeps _ (fun t : State => t.fab.ff) _ (fun k _ t => sectorEdges_ff s0 k t) _)

/-- A flip-flop after the edges of one direction. -/
theorem risingEdges_ff_get (s : State) {k j : Nat} (hk : k ∈ s.cfg.active.map Prod.fst) (hj : j < 24576) :
    mapGet false (risingEdges s).fab.ff (2 ^ 15 * k + j) = ffNext s true k j := by
  rw [risingEdges_ff]
  exact ffSet_get _ s hk hj

theorem fallingEdges_ff_get (s : State) {k j : Nat} (hk : k ∈ s.cfg.active.map Prod.fst) (hj : j < 24576) :
    mapGet false (fallingEdges s).fab.ff (2 ^ 15 * k + j) = ffNext s false k j := ffSet_get _ s hk hj

/-- A math block after the rising edges (R180). -/
theorem risingEdges_math (s : State) {k j : Nat} (hk : k ∈ s.cfg.active.map Prod.fst) (hj : j < 48) :
    mathSt (risingEdges s) k j = if sees s k ((designOf s k).math j).net true then (mathNext s k j).1 else mathSt s k j := by
  have hr : (risingEdges s).fab.math = _ := congrArg (fun x => x.2.1) (risingEdges_logic s)
  have hm : ∀ k' t, mathSt (sectorEdges s k' t) k j = mathSt (mathEdges s k' t) k j := fun k' t => by
    rw [mathSt, mathSt, sectorEdges_math]
  rw [mathSt, hr]
  split
  · next hs =>
    refine foldl_sets _ (fun t => mathSt t k j) _ _ k hk (fun t => ?_) (fun k' _ t h => ?_) _
    · exact (hm k t).trans (mathEdges_self s k j hj hs t)
    · by_cases e : k' = k
      · rw [e]
        exact (hm k t).trans (mathEdges_self s k j hj hs t)
      · exact (hm k' t).trans ((mathEdges_keeps s k j k' hj (fun c => absurd c e) t).trans h)
  · next hs =>
    refine foldl_keeps _ (fun t => mathSt t k j) _ (fun k' _ t => ?_) _
    exact (hm k' t).trans (mathEdges_keeps s k j k' hj (fun _ => by simpa using hs) t)

section Ink

variable {s : State} {k p o : Nat}

/-- Port p of sector k. -/
def portOf (k p : Nat) (s : State) : InkPort := mapGet inkPortZero s.fab.ink (72 * k + p)

theorem risingEdges_port (s : State) (k p : Nat) : portOf k p (risingEdges s) =
    portOf k p (forEach (s.cfg.active.map Prod.fst) (ffSet (ffNext s true) s) (sectorEdges s)) :=
  congrArg (fun x : SMap Bool × SMap MathSt × SMap InkPort => mapGet inkPortZero x.2.2 (72 * k + p)) (risingEdges_logic s)

/-- An inkwell other than the port's leaves the port. -/
theorem inkEdge_port_ne (s0 t : State) {k' j : Nat} (hp : p < 72) (hj : j < 36) (h : ¬(k' = k ∧ j = p / 2)) :
    portOf k p (inkEdge s0 k' j t) = portOf k p t :=
  (inkEdge_inkOnly s0 k' j t).ink _ (by
    have := mul_add_ne (w := 36) (by decide) (by omega : p / 2 < 36) hj h
    omega)

/-- A property of a port that the edges of its own inkwell keep holds after the sector's edges, if it held before. -/
theorem sectorEdges_port (hp : p < 72) (P : InkPort → Prop) (k' : Nat)
    (h : ∀ t, P (portOf k p t) → P (portOf k p (inkEdge s k (p / 2) t))) (t : State) (ht : P (portOf k p t)) :
    P (portOf k p (sectorEdges s k' t)) := by
  have hm : portOf k p (mathEdges s k' t) = portOf k p t := by rw [portOf, portOf, (mathEdges_others s k' t).2]
  rw [portOf, sectorEdges_ink]
  refine List.foldlRecOn (motive := fun t => P (portOf k p t)) _ _ (hm ▸ ht) (fun u hu j hj => ?_)
  by_cases e : k' = k ∧ j = p / 2
  · rw [e.1, e.2]
    exact h u hu
  · rw [inkEdge_port_ne s u hp (List.mem_range.1 hj) e]
    exact hu

/-- A port whose inkwell sees no edge is unchanged (R232). -/
theorem risingEdges_port_still (hp : p < 72) (h2 : p / 2 = o / 2) (hne : p ≠ o) (ho : sees s k ((designOf s k).ink o).net true = false)
    (he : sees s k ((designOf s k).ink p).net true = false) : portOf k p (risingEdges s) = portOf k p s := by
  have still : ∀ t, inkEdge s k (p / 2) t = t := by
    intro t
    rcases Nat.mod_two_eq_zero_or_one p with hm | hm
    · have e1 : 2 * (p / 2) = p := by omega
      have e2 : 2 * (p / 2) + 1 = o := by omega
      exact inkEdge_of_still s k _ t (by rwa [e1]) (by rwa [e2])
    · have e1 : 2 * (p / 2) = o := by omega
      have e2 : 2 * (p / 2) + 1 = p := by omega
      exact inkEdge_of_still s k _ t (by rwa [e1]) (by rwa [e2])
  rw [risingEdges_port]
  refine List.foldlRecOn (motive := fun t => portOf k p t = portOf k p s) _ _ rfl (fun u hu k' _ => ?_)
  exact sectorEdges_port hp (fun x => x = portOf k p s) k' (fun t ht => by rw [still t, ht]) u hu

/-- A port with an edge and no access, whose fellow has no edge, shifts its output register (R181). -/
theorem risingEdges_port_idle (hk : k ∈ s.cfg.active.map Prod.fst) (hp : p < 72) (h2 : p / 2 = o / 2) (hne : p ≠ o)
    (ho : sees s k ((designOf s k).ink o).net true = false) (he : sees s k ((designOf s k).ink p).net true = true)
    (ha : inkAcc s k p = none) : (portOf k p (risingEdges s)).q = (portOf k p s).q ∧ (portOf k p (risingEdges s)).q2 = (portOf k p s).q := by
  have shift : ∀ t, (portOf k p t).q = (portOf k p s).q → (portOf k p (inkEdge s k (p / 2) t)).q = (portOf k p s).q ∧
      (portOf k p (inkEdge s k (p / 2) t)).q2 = (portOf k p s).q := by
    intro t ht
    obtain ⟨f, hf, e⟩ := inkEdge_of_idle s k p o t h2 hne ho he ha
    have hq : portOf k p (inkEdge s k (p / 2) t) = { f (portOf k p t) with q2 := (f (portOf k p t)).q } := by
      rw [e, inkShift, portOf, updPort_self, updPort_self]
      rfl
    rw [hq]
    exact ⟨(hf _).trans ht, (hf _).trans ht⟩
  rw [risingEdges_port]
  refine foldl_reaches _ (fun t => (portOf k p t).q = (portOf k p s).q)
    (fun t => (portOf k p t).q = (portOf k p s).q ∧ (portOf k p t).q2 = (portOf k p s).q) _ k hk (fun k' _ t ht => ?_) (fun t ht => ?_)
    (fun k' _ t _ hq => ?_) _ rfl
  · exact sectorEdges_port hp (fun x => x.q = (portOf k p s).q) k' (fun t ht => (shift t ht).1) t ht
  · have hm : portOf k p (mathEdges s k t) = portOf k p t := by rw [portOf, portOf, (mathEdges_others s k t).2]
    have hs : portOf k p (sectorEdges s k t) = portOf k p (forEach (List.range 36) (mathEdges s k t) (inkEdge s k)) := by
      rw [portOf, sectorEdges_ink, portOf]
    rw [hs]
    refine foldl_reaches _ (fun t => (portOf k p t).q = (portOf k p s).q)
      (fun t => (portOf k p t).q = (portOf k p s).q ∧ (portOf k p t).q2 = (portOf k p s).q) _ (p / 2) (List.mem_range.2 (by omega))
      (fun j hj u hu => ?_) shift (fun j hj u _ hu => ?_) _ (hm ▸ ht)
    · by_cases e : j = p / 2
      · exact e ▸ (shift u hu).1
      · rw [inkEdge_port_ne s u hp (List.mem_range.1 hj) (fun c => e c.2)]
        exact hu
    · by_cases e : j = p / 2
      · exact e ▸ shift u hu.1
      · rw [inkEdge_port_ne s u hp (List.mem_range.1 hj) (fun c => e c.2)]
        exact hu
  · exact sectorEdges_port hp (fun x => x.q = (portOf k p s).q ∧ x.q2 = (portOf k p s).q) k' (fun t ht => shift t ht.1) t hq

end Ink

/-! ### The end of a half tick -/

/-- What the end of a half tick leaves in the keeper of a chain (R177). -/
theorem fabSettle_keeper (s : State) {k j : Nat} (hk : k ∈ s.cfg.active.map Prod.fst) (hj : j < 112) :
    mapGet false (fabSettle s).fab.keeper (128 * k + j) =
      if sectorUp s k = true ∧ chainEnables s (128 * k + j) ≠ 0 then chainVal s (128 * k + j) else mapGet false s.fab.keeper (128 * k + j) := by
  have h := mapFill_get (d := false) (w := 128) (n := 112) (c := fun k j => sectorUp s k && chainEnables s (128 * k + j) != 0)
    (v := fun k j => chainVal s (128 * k + j)) (by decide) s.fab.keeper hk hj
  simp only [Bool.and_eq_true, bne_iff_ne] at h
  exact h

/-- A table of the values that a function gives the numbers of a list. -/
theorem mapGet?_filterMap {α β : Type} (f : Nat → Option β) (g : β → α) (l : List Nat) (p : Nat) :
    mapGet? (l.filterMap (fun q => (f q).map (fun b => (q, g b)))) p = if p ∈ l then (f p).map g else none := by
  induction l with
  | nil => rfl
  | cons q l ih =>
    by_cases e : q = p
    · subst e
      rw [if_pos List.mem_cons_self]
      rcases hq : f q with _ | v
      · rw [List.filterMap_cons_none (by rw [hq]; rfl), ih, hq, Option.map_none, ite_self]
      · rw [List.filterMap_cons_some (by rw [hq]; rfl), mapGet?, if_pos rfl]
        rfl
    · have hm : p ∈ q :: l ↔ p ∈ l := by rw [List.mem_cons, or_iff_right (fun c => e c.symm)]
      rw [if_congr hm rfl rfl, ← ih]
      rcases hq : f q with _ | v
      · rw [List.filterMap_cons_none (by rw [hq]; rfl)]
      · rw [List.filterMap_cons_some (by rw [hq]; rfl), mapGet?, if_neg e]

theorem fabSettle_pad (s : State) {p : Nat} (hp : p < 512) :
    mapGet? (fabSettle s).fab.pad p = (pinDrive s p (8 * s.fab.half + 7)).map b2n := by
  unfold fabSettle
  dsimp only
  exact (mapGet?_filterMap (fun q => pinDrive s q (8 * s.fab.half + 7)) b2n (List.range 512) p).trans (if_pos (List.mem_range.2 hp))

/-! ### The user logic in a tick -/

/-- A flip-flop in half a tick: the asynchronous set/reset (R173), and the edges of one direction. -/
theorem flipFlop_edges (s : State) (k j : Nat) (hk : k ∈ s.cfg.active.map Prod.fst) (hj : j < 24576) :
    let f : FfCfg := if j % 2 = 0 then ((designOf s k).bead (j / 2)).ff0 else ((designOf s k).bead (j / 2)).ff1
    let g := (designOf s k).strand (j / 16)
    let old : Bool := mapGet false s.fab.ff (2 ^ 15 * k + j)
    let forced : Bool := f.useSr && wireVal s k g.sr
    let edge : Bool := sees s k (if g.useB then g.netB else g.netA) (!g.falling)
    let after : State := if g.falling then fallingEdges s else risingEdges s
    let other : State := if g.falling then risingEdges s else fallingEdges s
    mapGet false (ffSet (ffAsync s) s).fab.ff (2 ^ 15 * k + j) =
      (if g.async = true ∧ sectorUp s k = true ∧ swapping s k = false ∧ forced = true then f.srSets else old) ∧
    mapGet false other.fab.ff (2 ^ 15 * k + j) = old ∧ (edge = false → mapGet false after.fab.ff (2 ^ 15 * k + j) = old) ∧
    (edge = true → forced = true → mapGet false after.fab.ff (2 ^ 15 * k + j) = f.srSets) ∧
    (edge = true → forced = false → mapGet false after.fab.ff (2 ^ 15 * k + j) =
      (if f.useCe = true ∧ wireVal s k g.ce = false then old else ffData s k (j / 2) f)) := by
  intro f g old forced edge after other
  have hb : j / 2 / 8 = j / 16 := Nat.div_div_eq_div_mul j 2 8
  have hasync : ffAsync s k j = (if g.async && sectorUp s k && !swapping s k && forced then f.srSets else old) := by
    simp only [ffAsync, ffForced, hb, f, g, old, forced]
  have hnext : ∀ rise, ffNext s rise k j = (if rise != g.falling && sees s k (if g.useB then g.netB else g.netA) rise then
      if forced then f.srSets else if f.useCe && !wireVal s k g.ce then old else ffData s k (j / 2) f else old) := by
    intro rise
    simp only [ffNext, ffForced, hb, f, g, old, forced]
  have hafter : mapGet false after.fab.ff (2 ^ 15 * k + j) = ffNext s (!g.falling) k j := by
    simp only [after]
    cases g.falling
    · exact risingEdges_ff_get s hk hj
    · exact fallingEdges_ff_get s hk hj
  have hother : mapGet false other.fab.ff (2 ^ 15 * k + j) = ffNext s g.falling k j := by
    simp only [other]
    cases g.falling
    · exact fallingEdges_ff_get s hk hj
    · exact risingEdges_ff_get s hk hj
  have hedge : ffNext s (!g.falling) k j = (if edge then
      if forced then f.srSets else if f.useCe && !wireVal s k g.ce then old else ffData s k (j / 2) f else old) := by
    rw [hnext, Bool.not_bne_self, Bool.true_and]
  refine ⟨?_, ?_, fun he => ?_, fun he hf => ?_, fun he hf => ?_⟩
  · rw [ffSet_get _ s hk hj, hasync]
    simp only [Bool.and_eq_true, Bool.not_eq_true', and_assoc]
  · rw [hother, hnext, bne_self_eq_false, Bool.false_and, if_neg Bool.false_ne_true]
  · rw [hafter, hedge, he, if_neg Bool.false_ne_true]
  · rw [hafter, hedge, if_pos he, if_pos hf]
  · rw [hafter, hedge, if_pos he, hf, if_neg Bool.false_ne_true]
    simp only [Bool.and_eq_true, Bool.not_eq_true']

end Sys2Proof.Machine

/-! Chain monitors, fabric PLLs, fault lines, the fabric window and the loupe (R16, R178, R182, R187, R189). -/

namespace Sys2Proof.Machine

set_option Elab.async false

open Sys2Proof

/-! ### Counters, masks and raised inputs -/

/-- A counter that has counted up, stopping at its largest value. -/
theorem State.rd_incSat (s : State) (f : Fld) : (s.incSat f).rd f = min (2 ^ f.w - 1) (s.rd f + 1) := by
  have hw : 0 < 2 ^ f.w := Nat.two_pow_pos f.w
  rw [State.incSat, State.rd_wr, Nat.min_comm]
  exact Nat.mod_eq_of_lt (by omega)

/-- A write of a field by a value within its width. -/
theorem State.rd_wr_lt (s : State) (f : Fld) (v : Nat) (h : v < 2 ^ f.w) : (s.wr f v).rd f = v :=
  (State.rd_wr s f v).trans (Nat.mod_eq_of_lt h)

/-- Bits of a mask are cleared (R7). -/
theorem State.testBit_w1c (s : State) (f : Fld) (m i : Nat) (h : m.testBit i = true) : ((s.w1c f m).rd f).testBit i = false := by
  rw [State.w1c, State.rd_wr, Nat.testBit_mod_two_pow, Nat.testBit_xor, Nat.testBit_and, h, Bool.and_true, Bool.xor_self, Bool.and_false]

theorem safRaise_due (i : Nat) (s : State) : (safRaise i s).saf.due.contains i = true := by
  unfold safRaise
  split
  · next h => exact List.contains_iff_mem.2 h
  · exact List.contains_iff_mem.2 (List.mem_append_right _ List.mem_cons_self)

/-- The mask of the numbers below `n` with a property. -/
theorem testBit_maskOf (c : Nat → Prop) [DecidablePred c] (n i : Nat) (hi : i < n) (hc : c i) :
    ((List.range n).foldl (fun a k => if c k then a + 2 ^ k else a) 0).testBit i = true := by
  have bound : ∀ n, (List.range n).foldl (fun a k => if c k then a + 2 ^ k else a) 0 < 2 ^ n := by
    intro n
    induction n with
    | zero => exact Nat.one_pos
    | succ n ih =>
      rw [List.range_succ, List.foldl_append, List.foldl_cons, List.foldl_nil, Nat.pow_succ]
      split
      · omega
      · omega
  induction n with
  | zero => exact absurd hi (Nat.not_lt_zero i)
  | succ n ih =>
    have hb := bound n
    rw [List.range_succ, List.foldl_append, List.foldl_cons, List.foldl_nil]
    by_cases e : i = n
    · rw [← e, if_pos hc, Nat.add_comm, Nat.testBit_two_pow_add_eq, Nat.testBit_lt_two_pow (e ▸ hb), Bool.not_false]
    · have ht := ih (by omega)
      split
      · rw [Nat.add_comm, Nat.testBit_two_pow_add_gt (by omega), ht]
      · exact ht

/-! ### Chain monitors (R178) -/

/-- A monitor notes contention of taps a and b: the count, and the capture where none is held. -/
def chainNoted (ch a b : Nat) (s : State) : State :=
  let s1 := (s.incSat Fd.FAB_CHAIN_CNT_COUNT).set1 Fd.FAB_STAT_CONTENTION
  if s.rdB Fd.FAB_CHAIN_CAP_VALID then s1
  else ((((s1.wr Fd.FAB_CHAIN_CAP_CHAIN ch).wr Fd.FAB_CHAIN_CAP_TAP_A a).wr Fd.FAB_CHAIN_CAP_TAP_B b).wr
    Fd.FAB_CHAIN_CAP_TIME s.now).set1 Fd.FAB_CHAIN_CAP_VALID

/-- Contention under a monitor that is on. -/
theorem chainSample_of_two {ch en a b : Nat} {l : List Nat} {s : State} (h : tapsOf (en % 2 ^ chainTaps (ch % 128)) = a :: b :: l)
    (hm : chainCmode s ch ≠ 0) (hn : netOn s (chainNet s ch) = true) :
    chainSample ch en s = if chainCmode s ch = 1 then chainNoted ch a b s else safRaise 23 (chainNoted ch a b s) := by
  unfold chainSample
  rw [h]
  dsimp only
  rw [if_neg (by simp [hm, hn])]
  rfl

theorem chainSample_of_none {ch en a : Nat} {s : State} (h : tapsOf (en % 2 ^ chainTaps (ch % 128)) = [] ∨
    tapsOf (en % 2 ^ chainTaps (ch % 128)) = [a] ∨ chainCmode s ch = 0 ∨ netOn s (chainNet s ch) = false) : chainSample ch en s = s := by
  unfold chainSample
  split
  · next e =>
    rw [e] at h
    have hm : chainCmode s ch = 0 ∨ (!netOn s (chainNet s ch)) = true := by simpa using h
    exact if_pos hm
  · rfl

theorem chainNoted_saf (ch a b : Nat) (s : State) : (chainNoted ch a b s).saf = s.saf := by
  unfold chainNoted
  extract_lets s1
  split
  · rfl
  · rfl

theorem chainNoted_shows (ch a b : Nat) (s : State) : (chainNoted ch a b s).rd Fd.FAB_STAT_CONTENTION = 1 ∧
    (chainNoted ch a b s).rd Fd.FAB_CHAIN_CNT_COUNT = min (2 ^ 32 - 1) (s.rd Fd.FAB_CHAIN_CNT_COUNT + 1) := by
  unfold chainNoted
  extract_lets s1
  have hs : s1.rd Fd.FAB_STAT_CONTENTION = 1 := State.rd_wr _ _ _
  have hc : s1.rd Fd.FAB_CHAIN_CNT_COUNT = min (2 ^ 32 - 1) (s.rd Fd.FAB_CHAIN_CNT_COUNT + 1) :=
    (State.rd_wr_ne _ _ _ _ (by decide)).trans (State.rd_incSat s _)
  split
  · exact ⟨hs, hc⟩
  · have ht : Touches [] [.one Fd.FAB_CHAIN_CAP_CHAIN, .one Fd.FAB_CHAIN_CAP_TAP_A, .one Fd.FAB_CHAIN_CAP_TAP_B, .one Fd.FAB_CHAIN_CAP_TIME,
        .one Fd.FAB_CHAIN_CAP_VALID] s1 _ := (Touches.wr s1 Fd.FAB_CHAIN_CAP_CHAIN ch).trans <| .trans (.wr _ Fd.FAB_CHAIN_CAP_TAP_A a) <|
      .trans (.wr _ Fd.FAB_CHAIN_CAP_TAP_B b) <| .trans (.wr _ Fd.FAB_CHAIN_CAP_TIME s.now) (.wr _ Fd.FAB_CHAIN_CAP_VALID 1)
    exact ⟨(ht.rd _ (by decide)).trans hs, (ht.rd _ (by decide)).trans hc⟩

/-- The first contention is captured with its taps. -/
theorem chainNoted_captures (ch a b : Nat) (s : State) (h : s.rd Fd.FAB_CHAIN_CAP_VALID = 0) :
    (chainNoted ch a b s).rd Fd.FAB_CHAIN_CAP_CHAIN = ch % 4096 ∧ (chainNoted ch a b s).rd Fd.FAB_CHAIN_CAP_TAP_A = a % 32 ∧
    (chainNoted ch a b s).rd Fd.FAB_CHAIN_CAP_TAP_B = b % 32 ∧ (chainNoted ch a b s).rd Fd.FAB_CHAIN_CAP_VALID = 1 := by
  unfold chainNoted
  extract_lets s1
  rw [if_neg (by simp [State.rdB, h])]
  have ne : ∀ (t : State) (f g : Fld) (v : Nat), g.key ≠ f.key → (t.wr f v).rd g = t.rd g := State.rd_wr_ne
  refine ⟨?_, ?_, ?_, State.rd_wr _ _ _⟩
  · exact (ne _ _ _ _ (by decide)).trans <| (ne _ _ _ _ (by decide)).trans <| (ne _ _ _ _ (by decide)).trans <|
      (ne _ _ _ _ (by decide)).trans (State.rd_wr s1 Fd.FAB_CHAIN_CAP_CHAIN ch)
  · exact (ne _ _ _ _ (by decide)).trans <| (ne _ _ _ _ (by decide)).trans <| (ne _ _ _ _ (by decide)).trans
      (State.rd_wr _ Fd.FAB_CHAIN_CAP_TAP_A a)
  · exact (ne _ _ _ _ (by decide)).trans <| (ne _ _ _ _ (by decide)).trans (State.rd_wr _ Fd.FAB_CHAIN_CAP_TAP_B b)

/-- A monitor that finds contention counts it, captures it once and raises input 23 under CMODE 2 and 3. -/
theorem chainSample_spec {ch en a b : Nat} {l : List Nat} {s : State} (h : tapsOf (en % 2 ^ chainTaps (ch % 128)) = a :: b :: l)
    (hm : chainCmode s ch ≠ 0) (hn : netOn s (chainNet s ch) = true) :
    let u := chainSample ch en s
    u.rd Fd.FAB_STAT_CONTENTION = 1 ∧ u.rd Fd.FAB_CHAIN_CNT_COUNT = min (2 ^ 32 - 1) (s.rd Fd.FAB_CHAIN_CNT_COUNT + 1) ∧
    (s.rd Fd.FAB_CHAIN_CAP_VALID = 0 → u.rd Fd.FAB_CHAIN_CAP_CHAIN = ch % 4096 ∧ u.rd Fd.FAB_CHAIN_CAP_TAP_A = a % 32 ∧
      u.rd Fd.FAB_CHAIN_CAP_TAP_B = b % 32 ∧ u.rd Fd.FAB_CHAIN_CAP_VALID = 1) ∧
    (chainCmode s ch = 1 → u.saf = s.saf) ∧ (chainCmode s ch ≠ 1 → u.saf.due.contains 23 = true) := by
  intro u
  have hr : ∀ f : Fld, u.rd f = (chainNoted ch a b s).rd f := by
    intro f
    simp only [u]
    rw [chainSample_of_two h hm hn]
    split
    · rfl
    · exact (safRaise_touches 23 _).rd f rfl
  obtain ⟨h1, h2⟩ := chainNoted_shows ch a b s
  refine ⟨(hr _).trans h1, (hr _).trans h2, fun hv => ?_, fun h1 => ?_, fun h1 => ?_⟩
  · obtain ⟨c1, c2, c3, c4⟩ := chainNoted_captures ch a b s hv
    exact ⟨(hr _).trans c1, (hr _).trans c2, (hr _).trans c3, (hr _).trans c4⟩
  · simp only [u]
    rw [chainSample_of_two h hm hn, if_pos h1]
    exact chainNoted_saf ch a b s
  · simp only [u]
    rw [chainSample_of_two h hm hn, if_neg h1]
    exact safRaise_due 23 _

/-! ### Fabric PLLs and fault lines (R182, R189) -/

theorem mem_setIns (l : List Nat) (k : Nat) : k ∈ setIns l k := by
  induction l with
  | nil => exact List.mem_cons_self
  | cons e r ih =>
    unfold setIns
    split
    · exact List.mem_cons_self
    · split
      · next h => exact h ▸ List.mem_cons_self
      · exact List.mem_cons_of_mem e ih

theorem fpllLoss_spec (m : Nat) (s : State) (hr : s.fab.released = true) :
    let u := fpllLoss m s
    u.rd Fd.FAB_STAT_FPLL_LOSS = 1 ∧ (u.rd Fd.FAB_CLK_STAT_FPLL_LOCK).testBit m = false ∧ u.saf.due.contains 32 = true ∧
    u.fab.fpllOut.contains m = true ∧
    ∀ i, i < 24 → (Config.netSource (activeData s) i).toNat = m → (u.rd Fd.FAB_CLK_STAT_NET_RUN).testBit i = false := by
  intro u
  have e : u = _ := if_neg (by rw [hr]; decide)
  rw [e]
  extract_lets d nets s1 s2
  have ht := safRaise_touches 32 { s2 with fab := { s2.fab with fpllOut := setIns s2.fab.fpllOut m } }
  have h1 : s2.rd Fd.FAB_STAT_FPLL_LOSS = 1 := (State.rd_wr_ne _ _ _ _ (by decide)).trans
    ((State.rd_wr_ne _ _ _ _ (by decide)).trans (State.rd_wr s _ 1))
  have h2 : (s2.rd Fd.FAB_CLK_STAT_FPLL_LOCK).testBit m = false := by
    rw [show s2.rd Fd.FAB_CLK_STAT_FPLL_LOCK = s1.rd Fd.FAB_CLK_STAT_FPLL_LOCK from State.rd_wr_ne _ _ _ _ (by decide)]
    exact State.testBit_w1c _ _ _ m Nat.testBit_two_pow_self
  refine ⟨(ht.rd _ rfl).trans h1, ?_, safRaise_due 32 _, ?_, fun i hi hs => ?_⟩
  · rw [ht.rd _ rfl]
    exact h2
  · rw [show (safRaise 32 { s2 with fab := { s2.fab with fpllOut := setIns s2.fab.fpllOut m } }).fab = _ from ht.part .fab (by decide)]
    exact List.contains_iff_mem.2 (mem_setIns _ m)
  · rw [ht.rd _ rfl]
    exact State.testBit_w1c s1 _ nets i (testBit_maskOf (fun n => (Config.netSource (activeData s) n).toNat = m) 24 i hi hs)

theorem faultLine_spec (n : Nat) (s : State) (hn : n < 8) :
    let u := faultLine n true s
    u.fab.faultLine.getLsbD n = true ∧ (s.fab.connected = true → u.saf.due.contains (24 + n) = true) ∧
    (s.fab.connected = false → u.saf = s.saf) := by
  intro u
  have hb : (s.fab.faultLine ||| BitVec.ofNat 8 (2 ^ n)).getLsbD n = true := by
    rw [BitVec.getLsbD_or, BitVec.getLsbD_ofNat, Nat.testBit_two_pow_self, decide_eq_true hn]
    exact Bool.or_true _
  cases hc : s.fab.connected with
  | false =>
    have e : u = { s with fab := { s.fab with faultLine := s.fab.faultLine ||| BitVec.ofNat 8 (2 ^ n) } } := by
      simp [u, faultLine, hc]
    rw [e]
    exact ⟨hb, fun h => absurd h Bool.false_ne_true, fun _ => rfl⟩
  | true =>
    have e : u = safRaise (24 + n) { s with fab := { s.fab with faultLine := s.fab.faultLine ||| BitVec.ofNat 8 (2 ^ n) } } := by
      simp [u, faultLine, hc]
    rw [e]
    refine ⟨?_, fun _ => safRaise_due _ _, fun h => absurd h.symm Bool.false_ne_true⟩
    rw [show (safRaise (24 + n) _).fab = _ from (safRaise_touches (24 + n) _).part .fab (by decide)]
    exact hb

theorem faultLine_off (n : Nat) (s : State) (hn : n < 8) :
    let u := faultLine n false s
    u.fab.faultLine.getLsbD n = false ∧ u.saf = s.saf ∧ u.regs = s.regs := by
  refine ⟨?_, rfl, rfl⟩
  show (s.fab.faultLine &&& ~~~(BitVec.ofNat 8 (2 ^ n))).getLsbD n = false
  rw [BitVec.getLsbD_and, BitVec.getLsbD_not, BitVec.getLsbD_ofNat, Nat.testBit_two_pow_self, decide_eq_true hn]
  exact Bool.and_false _

/-! ### The fabric window (R16, R189) -/

theorem windowAck_of_off (d : W64) (s : State) (h : portOn s 18 = false) : windowAck d s = s := if_pos (by rw [h]; rfl)

theorem windowAck_of_none (d : W64) (s : State) (h : s.fab.acc = []) : windowAck d s = s := by
  unfold windowAck
  rw [h]
  exact ite_self _

theorem windowLate_of_none (s : State) (h : s.fab.acc = []) : windowLate s = s := by
  unfold windowLate
  rw [h]

theorem busError_fab (cause a : Nat) (w : Bool) (m : Nat) (s : State) : (busError cause a w m s).fab = s.fab := by
  unfold busError
  extract_lets s1
  rw [irqEvent_fab]
  show s1.fab = s.fab
  simp only [s1]
  split
  · rfl
  · rfl

/-- A bus error with no other held is captured (R16). -/
theorem busError_captures (cause a : Nat) (w : Bool) (m : Nat) (s : State) (hv : s.rd Fd.SYS_BUSERR_INFO_VALID = 0) (hc : cause < 8) :
    let u := busError cause a w m s
    u.sys.rdErr = 1 ∧ u.rd Fd.SYS_BUSERR_ADDR_ADDR = a % 2 ^ 32 ∧ u.rd Fd.SYS_BUSERR_INFO_CAUSE = cause ∧
    u.rd Fd.SYS_BUSERR_INFO_MASTER = m % 256 ∧ u.rd Fd.SYS_BUSERR_INFO_VALID = 1 := by
  intro u
  have e : u = irqEvent 1 ((((((s.wr Fd.SYS_BUSERR_ADDR_ADDR a).wr Fd.SYS_BUSERR_INFO_MASTER m).wrB Fd.SYS_BUSERR_INFO_WRITE w).wr
      Fd.SYS_BUSERR_INFO_CAUSE cause).set1 Fd.SYS_BUSERR_INFO_VALID).retErr 1) := by
    simp only [u, busError]
    rw [if_neg (by simp [State.rdB, hv])]
  have ne : ∀ (t : State) (f g : Fld) (v : Nat), g.key ≠ f.key → (t.wr f v).rd g = t.rd g := State.rd_wr_ne
  rw [e]
  refine ⟨?_, ?_, ?_, ?_, ?_⟩
  · rw [irqEvent_sys]
    rfl
  · rw [(irqEvent_touches 1 _).rd Fd.SYS_BUSERR_ADDR_ADDR (by decide), State.retErr_rd]
    exact (ne _ _ _ _ (by decide)).trans <| (ne _ _ _ _ (by decide)).trans <| (ne _ _ _ _ (by decide)).trans <|
      (ne _ _ _ _ (by decide)).trans (State.rd_wr _ Fd.SYS_BUSERR_ADDR_ADDR _)
  · rw [(irqEvent_touches 1 _).rd Fd.SYS_BUSERR_INFO_CAUSE (by decide), State.retErr_rd]
    exact (ne _ _ _ _ (by decide)).trans (State.rd_wr_lt _ Fd.SYS_BUSERR_INFO_CAUSE cause hc)
  · rw [(irqEvent_touches 1 _).rd Fd.SYS_BUSERR_INFO_MASTER (by decide), State.retErr_rd]
    exact (ne _ _ _ _ (by decide)).trans <| (ne _ _ _ _ (by decide)).trans <| (ne _ _ _ _ (by decide)).trans
      (State.rd_wr _ Fd.SYS_BUSERR_INFO_MASTER _)
  · rw [(irqEvent_touches 1 _).rd Fd.SYS_BUSERR_INFO_VALID (by decide), State.retErr_rd]
    exact State.rd_wr _ Fd.SYS_BUSERR_INFO_VALID 1

section Window

variable {s : State} {x : FabAcc} {l : List FabAcc} (hx : s.fab.acc = x :: l) (hm : x.master ≠ 3) (ho : s.net.spiOp = none)
include hx hm ho

theorem windowAck_spec (d : W64) (hp : portOn s 18 = true) :
    let u := windowAck d s
    u.fab.acc = turnFront FabAcc.master x.master l ∧ u.sys.rdErr = 0 ∧ u.sys.rdData = (if x.write then 0 else d.toNat) ∧ u.regs = s.regs := by
  intro u
  have e : u = { s with fab := { s.fab with acc := turnFront FabAcc.master x.master l } }.ret (if x.write then 0 else d.toNat) := by
    simp only [u, windowAck, hp, Bool.not_true, Bool.false_eq_true, if_false, hx]
    rw [if_neg hm, fabricAckSpi, hx, ho, fabricAck, hx]
  rw [e]
  exact ⟨rfl, rfl, rfl, rfl⟩

theorem windowLate_spec (hv : s.rd Fd.SYS_BUSERR_INFO_VALID = 0) :
    let u := windowLate s
    u.fab.acc = turnFront FabAcc.master x.master l ∧ u.sys.rdErr = 1 ∧ u.rd Fd.SYS_BUSERR_ADDR_ADDR = x.addr % 2 ^ 32 ∧
    u.rd Fd.SYS_BUSERR_INFO_CAUSE = 5 ∧ u.rd Fd.SYS_BUSERR_INFO_MASTER = x.master % 256 ∧ u.rd Fd.SYS_BUSERR_INFO_VALID = 1 := by
  intro u
  have e : u = busError 5 x.addr x.write x.master { s with fab := { s.fab with acc := turnFront FabAcc.master x.master l } } := by
    simp only [u, windowLate, hx]
    rw [if_neg hm, fabricLateSpi, hx, ho, fabricLate, hx]
  rw [e]
  exact ⟨congrArg FabSt.acc (busError_fab _ _ _ _ _), busError_captures 5 x.addr x.write x.master _ hv (by decide)⟩

end Window

/-! ### Loupe probes (R187) -/

theorem loupeWrite_of_noRight (reg : Option Nat) (v : Nat) (s : State) (h : (s.rd Fd.DBG_RIGHTS_RIGHTS).testBit 1 = false) :
    loupeWrite reg v s = (s.set1 Fd.FAB_STAT_LOUPE_REFUSED).wr Fd.FAB_LOUPE_CTRL_STATUS St.access :=
  if_pos (by rw [loupeRight, hasRight, h]; rfl)

theorem loupeRefused_shows (s : State) : let u := (s.set1 Fd.FAB_STAT_LOUPE_REFUSED).wr Fd.FAB_LOUPE_CTRL_STATUS St.access
    u.rd Fd.FAB_STAT_LOUPE_REFUSED = 1 ∧ u.rd Fd.FAB_LOUPE_CTRL_STATUS = 5 ∧ u.fab = s.fab ∧
    u.rd Fd.FAB_LOUPE_CTRL_EN = s.rd Fd.FAB_LOUPE_CTRL_EN :=
  ⟨(State.rd_wr_ne _ _ _ _ (by decide)).trans (State.rd_wr _ _ _), State.rd_wr _ _ _, rfl,
    (State.rd_wr_ne _ _ _ _ (by decide)).trans (State.rd_wr_ne _ _ _ _ (by decide))⟩

section Loupe

variable {s : State} (h : (s.rd Fd.DBG_RIGHTS_RIGHTS).testBit 1 = true) (v : Nat)
include h

theorem loupeWrite_ctrl : let u := loupeWrite none v s
    u.rd Fd.FAB_LOUPE_CTRL_EN = v % 2 ∧ u.rd Fd.FAB_LOUPE_CTRL_CLK = v / 16 % 32 ∧ u.rd Fd.FAB_LOUPE_CTRL_STATUS = 0 := by
  intro u
  have e : u = ((s.wr Fd.FAB_LOUPE_CTRL_EN v).wr Fd.FAB_LOUPE_CTRL_CLK (v / 16)).wr Fd.FAB_LOUPE_CTRL_STATUS St.ok :=
    if_neg (by rw [loupeRight, hasRight, h]; decide)
  rw [e]
  exact ⟨(State.rd_wr_ne _ _ _ _ (by decide)).trans ((State.rd_wr_ne _ _ _ _ (by decide)).trans (State.rd_wr _ _ _)),
    (State.rd_wr_ne _ _ _ _ (by decide)).trans (State.rd_wr _ _ _), State.rd_wr _ _ _⟩

/-- A selection that FAB_LOUPE_SEL does not take (R187). -/
def loupeBad (s : State) (v : Nat) : Bool :=
  loupeSrcOn (v / 2 ^ 20 % 8) && (!loupeIndexOk (v / 2 ^ 20 % 8) (v % 2 ^ 20) || s.rdB (Fd.FAB_IOCFG_FAB_OUT (v / 2 ^ 23 % 512)) ||
    pinTaken s 512 32 (v / 2 ^ 23 % 512))

theorem loupeWrite_sel (k : Nat) : loupeWrite (some k) v s =
    if loupeBad s v then s.wr Fd.FAB_LOUPE_CTRL_STATUS St.range
    else
      let s1 := ((s.wr (Fd.FAB_LOUPE_SEL_INDEX k) v).wr (Fd.FAB_LOUPE_SEL_SRC k) (v / 2 ^ 20 % 8)).wr (Fd.FAB_LOUPE_SEL_PIN k) (v / 2 ^ 23 % 512)
      let s2 := { s1 with fab := { s1.fab with loupeOn := mapSet false s1.fab.loupeOn k (loupeSrcOn (v / 2 ^ 20 % 8)) } }
      s2.wr Fd.FAB_LOUPE_CTRL_STATUS St.ok :=
  if_neg (by rw [loupeRight, hasRight, h]; decide)

theorem loupeWrite_taken (k : Nat) (hk : k < 64) (hb : loupeBad s v = false) :
    let u := loupeWrite (some k) v s
    u.rd Fd.FAB_LOUPE_CTRL_STATUS = 0 ∧ u.rd (Fd.FAB_LOUPE_SEL_INDEX k) = v % 2 ^ 20 ∧ u.rd (Fd.FAB_LOUPE_SEL_SRC k) = v / 2 ^ 20 % 8 ∧
    u.rd (Fd.FAB_LOUPE_SEL_PIN k) = v / 2 ^ 23 % 512 ∧ mapGet false u.fab.loupeOn k = loupeSrcOn (v / 2 ^ 20 % 8) := by
  intro u
  have e : u = _ := (loupeWrite_sel h v k).trans (if_neg (by rw [hb]; exact Bool.false_ne_true))
  have keys : (Fd.FAB_LOUPE_SEL_INDEX k).key ≠ (Fd.FAB_LOUPE_SEL_SRC k).key ∧ (Fd.FAB_LOUPE_SEL_INDEX k).key ≠ (Fd.FAB_LOUPE_SEL_PIN k).key ∧
      (Fd.FAB_LOUPE_SEL_SRC k).key ≠ (Fd.FAB_LOUPE_SEL_PIN k).key ∧ (Fd.FAB_LOUPE_SEL_INDEX k).key ≠ Fd.FAB_LOUPE_CTRL_STATUS.key ∧
      (Fd.FAB_LOUPE_SEL_SRC k).key ≠ Fd.FAB_LOUPE_CTRL_STATUS.key ∧ (Fd.FAB_LOUPE_SEL_PIN k).key ≠ Fd.FAB_LOUPE_CTRL_STATUS.key := by
    simp only [Fld.key, Fd.FAB_LOUPE_SEL_INDEX, Fd.FAB_LOUPE_SEL_SRC, Fd.FAB_LOUPE_SEL_PIN, Fd.FAB_LOUPE_CTRL_STATUS]
    omega
  obtain ⟨k1, k2, k3, k4, k5, k6⟩ := keys
  rw [e]
  refine ⟨State.rd_wr _ _ _, ?_, ?_, ?_, mapGet_mapSet_self _ _ _ _⟩
  · exact (State.rd_wr_ne _ _ _ _ k4).trans ((State.rd_wr_ne _ _ _ _ k2).trans ((State.rd_wr_ne _ _ _ _ k1).trans (State.rd_wr s _ v)))
  · exact (State.rd_wr_ne _ _ _ _ k5).trans ((State.rd_wr_ne _ _ _ _ k3).trans ((State.rd_wr _ (Fd.FAB_LOUPE_SEL_SRC k) _).trans (Nat.mod_mod _ _)))
  · exact (State.rd_wr_ne _ _ _ _ k6).trans ((State.rd_wr _ (Fd.FAB_LOUPE_SEL_PIN k) _).trans (Nat.mod_mod _ _))

end Loupe

end Sys2Proof.Machine

/-! The dictionary port (R192, R300), and the fabric's ports and user logic together. -/

namespace Sys2Proof.Machine

set_option Elab.async false

open Sys2Proof

/-! ### The engine's next access (R273) -/

/-- The fuel of `dictGo`. -/
def dictFuel (s : State) : Nat :=
  s.net.work.length + 2 * s.fab.wait.length + (match s.ufl.store with | some x => x.todo.length | none => 0) + 1

/-- The frames of an earlier command leave before an access that waited is made. -/
def dictReady (s : State) : State := when_ (s.fab.req.isNone && s.net.work.any (fun w => w.client.isNone)) (netSend []) s

theorem dictGo_eq (s : State) : dictGo s = dictNext (dictFuel s + 1) (dictReady s) := rfl

theorem dictReady_of_work {s : State} (h : s.net.work = []) : dictReady s = s := by
  rw [dictReady, h, List.any_nil, Bool.and_false]
  rfl

/-- What is ready to go on differs in the frames alone. -/
theorem dictReady_parts (s : State) : (dictReady s).fab = s.fab ∧ (dictReady s).net.work = s.net.work ∧ (dictReady s).regs = s.regs := by
  unfold dictReady when_
  split
  · exact ⟨rfl, rfl, rfl⟩
  · exact ⟨rfl, rfl, rfl⟩

theorem dictNext_of_busy (n : Nat) {s : State} {r : FabReq} (h : s.fab.req = some r) : dictNext n s = s := by
  cases n with
  | zero => rfl
  | succ n => rw [dictNext, if_pos (by rw [h]; rfl)]

theorem dictGo_of_busy {s : State} {r : FabReq} (h : s.fab.req = some r) : dictGo s = s := by
  have e : dictReady s = s := by
    rw [dictReady, h]
    rfl
  rw [dictGo_eq, e, dictNext_of_busy _ h]

theorem storeAsk_of_none {s : State} (h : s.ufl.store = none) : storeAsk s = none := by rw [storeAsk, h]

theorem workFirst_of_nil {s : State} (h : s.net.work = []) : workFirst s = none := by
  simp only [workFirst, h, List.find?_nil]
  rfl

/-- Nothing waits: the engine stays as it is. -/
theorem dictGo_of_idle {s : State} (hq : s.fab.req = none) (hw : s.net.work = []) (hf : s.fab.wait = []) (hs : s.ufl.store = none) :
    dictGo s = s := by
  rw [dictGo_eq, dictReady_of_work hw, dictNext, if_neg (by rw [hq]; decide)]
  dsimp only
  rw [workFirst_of_nil hw, hf, storeAsk_of_none hs]

theorem anySector_congr {s t : State} (h : t.regs = s.regs) : anySector t = anySector s := by simp only [anySector, State.rdB, State.rd, h]

theorem anySector_of_touches {s t : State} {ps : List Part} {ks : List Keys} (h : Touches ps ks s t)
    (hk : ∀ k, k < 32 → ks.any (·.has (Fd.CFG_SECT_STAT_ACTIVE k).key) = false) : anySector t = anySector s := by
  rw [Bool.eq_iff_iff, anySector, anySector, List.any_eq_true, List.any_eq_true]
  refine exists_congr (fun k => and_congr_right (fun hm => ?_))
  rw [State.rdB, State.rdB, h.rd _ (hk k (List.mem_range.1 hm))]

/-- A default that waits goes before a waiting access to the fabric, and before none at all. -/
theorem dictGo_default {s : State} {q : FabReq} {qs : List FabReq} (hq : s.fab.req = none) (hf : s.fab.wait = q :: qs)
    (hw : (workFirst s).any (fun x => !x.fabric) = false) (ha : anySector s = true) :
    (dictGo s).fab.req = some q ∧ (dictGo s).fab.wait = qs ∧ (dictGo s).net.work = s.net.work := by
  obtain ⟨h1, h2, h3⟩ := dictReady_parts s
  have hw' : workFirst (dictReady s) = workFirst s := by simp only [workFirst, h2]
  have ha' : anySector { dictReady s with fab := { (dictReady s).fab with wait := qs } } = true := (anySector_congr h3).trans ha
  have e : dictGo s = portTake q { dictReady s with fab := { (dictReady s).fab with wait := qs } } := by
    rw [dictGo_eq, dictNext, if_neg (by rw [h1, hq]; decide)]
    dsimp only
    rw [hw', h1, hf]
    cases hx : workFirst s with
    | none =>
      dsimp only
      rw [Option.any_none, if_neg Bool.false_ne_true, ← h1, if_pos ha']
    | some x =>
      dsimp only
      rw [← hx, hw, if_neg Bool.false_ne_true, ← h1, if_pos ha']
  rw [e]
  exact ⟨rfl, rfl, h2⟩

/-- The access that comes first, taken from those that wait. -/
def workTaken (x : DictWork) (s : State) : State := { s with net := { s.net with work := s.net.work.erase x } }

theorem dictNext_work (n : Nat) {s : State} {x : DictWork} (hq : s.fab.req = none) (hf : s.fab.wait = []) (hw : workFirst s = some x) :
    dictNext (n + 1) s = dictNext n (x.run (workTaken x s)) := by
  rw [dictNext, if_neg (by rw [hq]; decide)]
  dsimp only
  rw [hw, hf]
  rfl

/-- With no default, a waiting read of a fabric object is carried next. -/
theorem dictGo_read {s : State} {c i sub off num : Nat} (hq : s.fab.req = none) (hf : s.fab.wait = []) (hi : inFabric i = true)
    (hw : workFirst s = some (.read c i sub off num false)) (ha : anySector s = true) :
    (dictGo s).fab.req = some ⟨i, sub, off, false, [], num, [], c, 0⟩ ∧
    (dictGo s).net.work = s.net.work.erase (.read c i sub off num false) := by
  obtain ⟨h1, h2, h3⟩ := dictReady_parts s
  have hw' : workFirst (dictReady s) = some (.read c i sub off num false) := by
    rw [← hw]
    simp only [workFirst, h2]
  have hr : DictWork.run (.read c i sub off num false) (workTaken (.read c i sub off num false) (dictReady s)) =
      portTake ⟨i, sub, off, false, [], num, [], c, 0⟩ (workTaken (.read c i sub off num false) (dictReady s)) := by
    have ht : (workTaken (.read c i sub off num false) (dictReady s)).fab.req = none := h1 ▸ hq
    have ha' : anySector (workTaken (.read c i sub off num false) (dictReady s)) = true := (anySector_congr h3).trans ha
    rw [DictWork.run, if_neg Bool.false_ne_true, dictRead, if_pos hi, dictGive, DictEnd.give, fabAsk, ha', Bool.not_true,
      if_neg Bool.false_ne_true, ht]
  have e : dictGo s = portTake ⟨i, sub, off, false, [], num, [], c, 0⟩ (workTaken (.read c i sub off num false) (dictReady s)) := by
    rw [dictGo_eq, dictNext_work _ (h1 ▸ hq) (h1 ▸ hf) hw', hr]
    exact dictNext_of_busy _ rfl
  rw [e]
  exact ⟨rfl, congrArg (fun l => List.erase l _) h2⟩

/-! ### The answer to the host SPI port (R296) -/

theorem tagAdd_touches (c tag st : Nat) (s : State) : Touches [.net] [] s (tagAdd c tag st s) := .ite (fun _ => .refl s) (fun _ => .of_puts [.net])

theorem tagAdd_net (c tag st : Nat) (s : State) : (tagAdd c tag st s).net = { s.net with tags := (tagAdd c tag st s).net.tags } := by
  unfold tagAdd
  split
  · rfl
  · rfl

/-- The end of a host SPI request. -/
theorem answer_spi (tag : Nat) (o : Out) (data : List Byte) (s : State) (ho : o.st < 256) :
    Touches [.net] [.one Fd.HSP_STAT_LAST_STATUS] s (answer 0 tag o data s) ∧ (answer 0 tag o data s).net.work = s.net.work ∧
    (answer 0 tag o data s).rd Fd.HSP_STAT_LAST_STATUS = o.st ∧
    (s.net.spiBusy = true → (answer 0 tag o data s).net.spiOut = spiFrame o.st s.net.spiTag data) := by
  let t : State := tagAdd 0 (tag / 2 ^ 16) o.st (tagAdd 0 (tag % 2 ^ 16) o.st s)
  have e : answer 0 tag o data s = spiDone o data t := rfl
  have ht : Touches [.net] [.one Fd.HSP_STAT_LAST_STATUS] s t := .trans (tagAdd_touches 0 _ _ s).mono (tagAdd_touches 0 _ _ _).mono
  have hn : t.net = { s.net with tags := t.net.tags } := by
    have h := tagAdd_net 0 (tag / 2 ^ 16) o.st (tagAdd 0 (tag % 2 ^ 16) o.st s)
    rw [tagAdd_net 0 (tag % 2 ^ 16) o.st s] at h
    exact h
  have hl : (t.wr Fd.HSP_STAT_LAST_STATUS o.st).rd Fd.HSP_STAT_LAST_STATUS = o.st := State.rd_wr_lt _ _ _ ho
  have hb : t.net.spiBusy = s.net.spiBusy := by rw [hn]
  have hg : t.net.spiTag = s.net.spiTag := by rw [hn]
  have hk : t.net.work = s.net.work := by rw [hn]
  have hw : Touches [.net] [.one Fd.HSP_STAT_LAST_STATUS] t (t.wr Fd.HSP_STAT_LAST_STATUS o.st) := .wr t _ _
  rw [e, spiDone]
  extract_lets u
  split
  · exact ⟨ht.trans (hw.trans (.of_puts [.net])), hk, hl, fun _ => by rw [← hg]⟩
  · next h => exact ⟨ht.trans hw, hk, hl, fun c => absurd (hb.trans c) h⟩

/-! ### The dictionary port (R192, R300) -/

/-- The port with its request withdrawn. -/
def portFreed (s : State) : State := { s with fab := { s.fab with req := none } }

theorem fabAnswer_of_none (a : DictAns) (d : W64) {s : State} (h : s.fab.req = none) : fabAnswer a d s = s := by rw [fabAnswer, h]

theorem fabTimeout_of_none {s : State} (h : s.fab.req = none) : fabTimeout s = s := by rw [fabTimeout, h]

section Port

variable {s : State} {r : FabReq} (hr : s.fab.req = some r)
include hr

theorem fabAnswer_of_late (resp : Nat) (d : W64) : fabAnswer ⟨resp, true⟩ d s = s := by
  rw [fabAnswer, hr]
  rfl

theorem fabAnswer_of_off (a : DictAns) (d : W64) (h : portOn s 19 = false) : fabAnswer a d s = s := by
  rw [fabAnswer, hr]
  exact if_pos (by rw [h, Bool.not_false, Bool.or_true])

/-- A refusal ends the request. -/
theorem fabAnswer_refused (resp : Nat) (d : W64) (h : portOn s 19 = true) (h0 : resp % 4 ≠ 0) :
    fabAnswer ⟨resp, false⟩ d s = fabEnd { r with got := [] } (respOut (resp % 4)) (portFreed s) := by
  rw [fabAnswer, hr]
  dsimp only
  rw [if_neg (by rw [h]; decide), if_pos h0]
  rfl

/-- What is left of a request once its next bytes have been answered. -/
def FabReq.rest (r : FabReq) (d : W64) : FabReq :=
  { r with offset := r.offset + min 8 r.size, size := r.size - min 8 r.size, data := r.data.drop (min 8 r.size),
           got := if r.write then [] else r.got ++ (toBytes 8 d.toNat).take (min 8 r.size) }

/-- The last answer ends the request. -/
theorem fabAnswer_last (resp : Nat) (d : W64) (h : portOn s 19 = true) (h0 : resp % 4 = 0) (hz : r.size ≤ 8) :
    fabAnswer ⟨resp, false⟩ d s = fabEnd (r.rest d) Out.done (portFreed s) := by
  rw [fabAnswer, hr]
  dsimp only
  rw [if_neg (by rw [h]; decide), if_neg (not_not_intro h0), if_pos (by omega)]
  rfl

/-- An answer before the last asks for the next bytes. -/
theorem fabAnswer_more (resp : Nat) (d : W64) (h : portOn s 19 = true) (h0 : resp % 4 = 0) (hz : 8 < r.size) :
    fabAnswer ⟨resp, false⟩ d s = portTake (r.rest d) (portFreed s) := by
  rw [fabAnswer, hr]
  dsimp only
  rw [if_neg (by rw [h]; decide), if_neg (not_not_intro h0), if_neg (by omega)]
  rfl

theorem fabTimeout_eq : fabTimeout s =
    fabEnd { r with got := [] } Out.unanswered (((portFreed s).incSat Fd.FAB_DICT_STAT_TMO_CNT).set1 Fd.FAB_STAT_DICT_TMO) := by
  rw [fabTimeout, hr]
  rfl

end Port

theorem fabEnd_spi {r : FabReq} (hc : r.client = 0) (o : Out) (s : State) : fabEnd r o s = answer 0 r.tag o r.got s := by
  rw [fabEnd, FabReq.isDefault, hc]
  rfl

theorem fabEnd_manifest {r : FabReq} (hc : r.client = 255) (o : Out) (s : State) : fabEnd r o s = defaultTake r o s := by
  rw [fabEnd, FabReq.isDefault, hc]
  rfl

/-- The end of an SPI request over the port: the port is free, what waits still waits. -/
structure PortEnded (s t : State) : Prop where
  fab : t.fab = { s.fab with req := none }
  work : t.net.work = s.net.work
  store : t.ufl.store = s.ufl.store
  sectors : anySector t = anySector s

theorem PortEnded.of_freed {s t : State} (hf : t.fab = { s.fab with req := none }) (hn : t.net = s.net) (hu : t.ufl = s.ufl)
    (ha : anySector t = anySector s) (tag : Nat) (o : Out) (data : List Byte) (ho : o.st < 256) : PortEnded s (answer 0 tag o data t) := by
  obtain ⟨h1, h2, _, _⟩ := answer_spi tag o data t ho
  have hfab : (answer 0 tag o data t).fab = t.fab := h1.part .fab (by decide)
  have hufl : (answer 0 tag o data t).ufl = t.ufl := h1.part .ufl (by decide)
  refine ⟨hfab.trans hf, h2.trans (congrArg NetSt.work hn), congrArg UflSt.store (hufl.trans hu), (anySector_of_touches h1 ?_).trans ha⟩
  decide

/-- With nothing else waiting the engine rests once a request has ended. -/
theorem PortEnded.idle {s t : State} (h : PortEnded s t) (hf : s.fab.wait = []) (hw : s.net.work = []) (hs : s.ufl.store = none) :
    dictGo t = t ∧ t.fab.req = none := by
  have hq : t.fab.req = none := congrArg FabSt.req h.fab
  exact ⟨dictGo_of_idle hq (h.work.trans hw) ((congrArg FabSt.wait h.fab).trans hf) (h.store.trans hs), hq⟩

theorem respOut_lt (n : Nat) : (respOut n).st < 256 := by
  unfold respOut
  split
  · decide
  · split
    · decide
    · split
      · decide
      · decide

theorem respOut_status (n : Nat) (h : n ≠ 0) : (respOut n).st = if n = 1 then 5 else 9 := by
  unfold respOut
  rw [if_neg h]
  split
  · rfl
  · split
    · rfl
    · rfl

section Spi

variable {s : State} {r : FabReq} (hr : s.fab.req = some r) (hc : r.client = 0)
include hr hc

theorem fabAnswer_refused_spi (resp : Nat) (d : W64) (hp : portOn s 19 = true) (h0 : resp % 4 ≠ 0) :
    PortEnded s (fabAnswer ⟨resp, false⟩ d s) ∧
    (fabAnswer ⟨resp, false⟩ d s).rd Fd.HSP_STAT_LAST_STATUS = (if resp % 4 = 1 then 5 else 9) := by
  have e : fabAnswer ⟨resp, false⟩ d s = answer 0 r.tag (respOut (resp % 4)) [] (portFreed s) :=
    (fabAnswer_refused hr resp d hp h0).trans (fabEnd_spi (r := { r with got := [] }) hc _ _)
  rw [e, ← respOut_status _ h0]
  obtain ⟨_, _, h3, _⟩ := answer_spi r.tag (respOut (resp % 4)) [] (portFreed s) (respOut_lt _)
  exact ⟨.of_freed (t := portFreed s) rfl rfl rfl rfl _ _ _ (respOut_lt _), h3⟩

theorem fabAnswer_last_spi (resp : Nat) (d : W64) (hp : portOn s 19 = true) (h0 : resp % 4 = 0) (hz : r.size ≤ 8) :
    PortEnded s (fabAnswer ⟨resp, false⟩ d s) ∧ (fabAnswer ⟨resp, false⟩ d s).rd Fd.HSP_STAT_LAST_STATUS = 0 ∧
    (s.net.spiBusy = true → r.write = false →
      (fabAnswer ⟨resp, false⟩ d s).net.spiOut = spiFrame 0 s.net.spiTag (r.got ++ (toBytes 8 d.toNat).take r.size)) := by
  have e : fabAnswer ⟨resp, false⟩ d s = answer 0 r.tag Out.done (r.rest d).got (portFreed s) :=
    (fabAnswer_last hr resp d hp h0 hz).trans (fabEnd_spi (r := r.rest d) hc _ _)
  rw [e]
  obtain ⟨_, _, h3, h4⟩ := answer_spi r.tag Out.done (r.rest d).got (portFreed s) (by decide)
  refine ⟨.of_freed (t := portFreed s) rfl rfl rfl rfl _ _ _ (by decide), h3, fun hb hw => ?_⟩
  have hg : (r.rest d).got = r.got ++ (toBytes 8 d.toNat).take r.size := by
    rw [FabReq.rest, hw, Nat.min_eq_right hz]
    rfl
  rw [h4 hb, hg]
  rfl

theorem fabTimeout_spi : PortEnded s (fabTimeout s) ∧ (fabTimeout s).rd Fd.FAB_STAT_DICT_TMO = 1 ∧
    (fabTimeout s).rd Fd.FAB_DICT_STAT_TMO_CNT = min 65535 (s.rd Fd.FAB_DICT_STAT_TMO_CNT + 1) ∧
    (fabTimeout s).rd Fd.HSP_STAT_LAST_STATUS = 10 := by
  let t : State := ((portFreed s).incSat Fd.FAB_DICT_STAT_TMO_CNT).set1 Fd.FAB_STAT_DICT_TMO
  have e : fabTimeout s = answer 0 r.tag Out.unanswered [] t := (fabTimeout_eq hr).trans (fabEnd_spi (r := { r with got := [] }) hc _ _)
  have ht : Touches [] [.one Fd.FAB_DICT_STAT_TMO_CNT, .one Fd.FAB_STAT_DICT_TMO] (portFreed s) t := .trans (.wr _ _ _) (.wr _ _ _)
  have ha : anySector t = anySector (portFreed s) := anySector_of_touches ht (by decide)
  obtain ⟨h1, _, h3, _⟩ := answer_spi r.tag Out.unanswered [] t (by decide)
  rw [e]
  refine ⟨.of_freed (t := t) rfl rfl rfl ha _ _ _ (by decide), ?_, ?_, h3⟩
  · exact (h1.rd _ (by decide)).trans (State.rd_wr _ _ _)
  · exact (h1.rd _ (by decide)).trans ((State.rd_wr_ne _ _ _ _ (by decide)).trans (State.rd_incSat _ _))

end Spi

theorem fabAnswer_more_spec {s : State} {r : FabReq} (hr : s.fab.req = some r) (resp : Nat) (d : W64) (hp : portOn s 19 = true)
    (h0 : resp % 4 = 0) (hz : 8 < r.size) : let u := fabAnswer ⟨resp, false⟩ d s
    dictGo u = u ∧ u.fab.req = some (r.rest d) ∧ (r.rest d).offset = r.offset + 8 ∧ (r.rest d).size = r.size - 8 ∧
    u.rd Fd.FAB_DICT_STAT_REQ_CNT = min 65535 (s.rd Fd.FAB_DICT_STAT_REQ_CNT + 1) := by
  intro u
  have e : u = portTake (r.rest d) (portFreed s) := fabAnswer_more hr resp d hp h0 hz
  have hm : min 8 r.size = 8 := Nat.min_eq_left (Nat.le_of_lt hz)
  have hq : u.fab.req = some (r.rest d) := by
    rw [e]
    rfl
  refine ⟨dictGo_of_busy hq, hq, ?_, ?_, ?_⟩
  · rw [FabReq.rest, hm]
  · rw [FabReq.rest, hm]
  · rw [e]
    exact State.rd_incSat _ _

/-! ### Defaults of the manifest (R276, R279) -/

theorem emcy_work (code origin detail : Nat) (s : State) : (emcy code origin detail s).net.work = s.net.work := by
  rw [emcy, irqEvent_net]
  dsimp only
  split
  · rfl
  · rfl

/-- A record that fails is counted, and NET_STAT shows it. -/
theorem defLate_spec (index sub : Nat) (s : State) : let u := defLate index sub s
    u.fab = s.fab ∧ u.ufl = s.ufl ∧ u.net.work = s.net.work ∧
    u.rd Fd.NET_DEF_STAT_REFUSED = min 65535 (s.rd Fd.NET_DEF_STAT_REFUSED + 1) ∧ u.rd Fd.NET_STAT_DEF_REFUSED = 1 := by
  intro u
  let s1 : State := if s.rd Fd.NET_DEF_STAT_REFUSED = 0 then (s.wr Fd.NET_DEF_STAT_FIRST_INDEX index).wr Fd.NET_DEF_STAT_FIRST_SUB sub else s
  let t : State := (s1.incSat Fd.NET_DEF_STAT_REFUSED).set1 Fd.NET_STAT_DEF_REFUSED
  have h1 : Touches [] [.one Fd.NET_DEF_STAT_FIRST_INDEX, .one Fd.NET_DEF_STAT_FIRST_SUB] s s1 :=
    .ite (fun _ => .trans (.wr _ _ _) (.wr _ _ _)) (fun _ => .refl s)
  have ht : Touches [] [.one Fd.NET_DEF_STAT_REFUSED, .one Fd.NET_STAT_DEF_REFUSED] s1 t := .trans (.wr _ _ _) (.wr _ _ _)
  have hu : Touches [.net, .irq, .pwr] (.one Fd.NET_ERR_REG_ER :: irqKeys) t u :=
    .ite (fun _ => emcy_touches _ _ _ t) (fun _ => .refl t)
  have hw : u.net.work = t.net.work := by
    simp only [u, defLate]
    split
    · exact emcy_work _ _ _ _
    · rfl
  have hn : t.net = s.net := (ht.part .net (by decide)).trans (h1.part .net (by decide))
  have hf : t.fab = s.fab := (ht.part .fab (by decide)).trans (h1.part .fab (by decide))
  have hl : t.ufl = s.ufl := (ht.part .ufl (by decide)).trans (h1.part .ufl (by decide))
  have hc : (s1.incSat Fd.NET_DEF_STAT_REFUSED).rd Fd.NET_DEF_STAT_REFUSED = min 65535 (s1.rd Fd.NET_DEF_STAT_REFUSED + 1) :=
    State.rd_incSat _ _
  rw [h1.rd _ (by decide)] at hc
  exact ⟨(hu.part .fab (by decide)).trans hf, (hu.part .ufl (by decide)).trans hl, hw.trans (congrArg NetSt.work hn),
    (hu.rd _ (by decide)).trans ((State.rd_wr_ne _ _ _ _ (by decide)).trans hc), (hu.rd _ (by decide)).trans (State.rd_wr _ _ _)⟩

/-- The answer to a default of the manifest, with nothing else waiting: its source is used, or its record counts as refused. -/
theorem fabAnswer_manifest {s : State} {r : FabReq} (hr : s.fab.req = some r) (hc : r.client = 255) (resp : Nat) (d : W64)
    (hp : portOn s 19 = true) (hf : s.fab.wait = []) (hw : s.net.work = []) (hs : s.ufl.store = none) (hz : r.size ≤ 8) :
    let u := fabAnswer ⟨resp, false⟩ d s
    dictGo u = u ∧ u.fab.req = none ∧ (resp % 4 = 0 → u.rd Fd.NET_DEF_STAT_MANIFEST_USED = 1) ∧
    (resp % 4 ≠ 0 → u.rd Fd.NET_DEF_STAT_REFUSED = min 65535 (s.rd Fd.NET_DEF_STAT_REFUSED + 1) ∧ u.rd Fd.NET_STAT_DEF_REFUSED = 1) := by
  intro u
  by_cases h0 : resp % 4 = 0
  · have e : u = (portFreed s).set1 Fd.NET_DEF_STAT_MANIFEST_USED := by
      rw [show u = _ from (fabAnswer_last hr resp d hp h0 hz).trans (fabEnd_manifest (r := r.rest d) hc _ _), defaultTake,
        if_pos (by decide), if_neg (by rw [FabReq.rest, hc]; decide)]
    rw [e]
    exact ⟨dictGo_of_idle rfl hw hf hs, rfl, fun _ => State.rd_wr _ _ _, fun h => absurd h0 h⟩
  · have e : u = defLate r.index r.sub (portFreed s) := by
      have hst : (respOut (resp % 4)).st ≠ St.ok := by
        rw [respOut_status _ h0]
        split
        · decide
        · decide
      rw [show u = _ from (fabAnswer_refused hr resp d hp h0).trans (fabEnd_manifest (r := { r with got := [] }) hc _ _), defaultTake,
        if_neg hst]
      exact if_neg (by rw [hc]; decide)
    obtain ⟨h1, h2, h3, h4, h5⟩ := defLate_spec r.index r.sub (portFreed s)
    rw [e]
    exact ⟨dictGo_of_idle (congrArg FabSt.req h1) (h3.trans hw) ((congrArg FabSt.wait h1).trans hf) ((congrArg UflSt.store h2).trans hs),
      congrArg FabSt.req h1, fun h => absurd h h0, fun _ => ⟨h4, h5⟩⟩

/-- Settles O47: the ports by a lemma for each command and each outcome, the user logic by a lemma for each kind of register. -/
theorem fabricPorts : Obligations.FabricPorts := by
  refine ⟨fun s ch en m n resp v k a b d taps r x l q qs hs => ?_, fun s n h k j p o rise => ?_⟩
  · have sys := fun f => sysRun_of_sysOn f s hs
    have eng := fun f => engRun_of_engOn f s (engOn_of_sysOn s hs)
    have answered : ∀ a, exec (.fabricDictAnswer a d) s = .next (finish (dictGo (fabAnswer a d s))) := fun a =>
      sys (fun s => dictGo (fabAnswer a d s))
    have timedOut : exec .fabricDictTimeout s = .next (finish (dictGo (fabTimeout s))) := sys (fun s => dictGo (fabTimeout s))
    refine ⟨?calm, ?contention, ?unreleased, ?loss, ?raised, ?lowered, ?nothing, ?withdrawn, ?next, ?manifest, ?spi, ?noAccess, ?noClock,
      ?window, ?loupe⟩
    case calm => exact fun h => (sys _).trans (by rw [chainSample_of_none h])
    case contention => exact fun h hm hn => ⟨_, sys _, chainSample_spec h hm hn⟩
    case unreleased => exact fun _ hr => (eng _).trans (by rw [fpllLoss, hr]; rfl)
    case loss => exact fun _ hr => ⟨_, eng _, fpllLoss_spec m s hr⟩
    case raised => exact fun hn => ⟨_, eng _, faultLine_spec n s hn⟩
    case lowered => exact fun hn => ⟨_, eng _, faultLine_off n s hn⟩
    case nothing =>
      intro hq hw hf hu
      rw [answered, timedOut, fabAnswer_of_none _ d hq, fabTimeout_of_none hq, dictGo_of_idle hq hw hf hu]
      exact ⟨rfl, rfl⟩
    case withdrawn =>
      refine fun hq => ⟨?_, fun hp => ?_⟩
      · rw [answered, fabAnswer_of_late hq, dictGo_of_busy hq]
      · rw [answered, fabAnswer_of_off hq _ d hp, dictGo_of_busy hq]
    case next =>
      intro hq hc hp ha h0
      obtain ⟨ht, _⟩ := fabAnswer_refused_spi hq hc resp d hp h0
      have hreq := congrArg FabSt.req ht.fab
      have hwait := congrArg FabSt.wait ht.fab
      have hany := ht.sectors.trans ha
      refine ⟨fun hf hw => ?_, fun c i sub off num hi hw => ⟨fun hf => ?_, fun hf => ?_⟩⟩
      · obtain ⟨h1, h2, _⟩ := dictGo_default hreq (hwait.trans hf) (by rw [workFirst_of_nil (ht.work.trans hw)]; rfl) hany
        exact ⟨_, answered _, h1, h2⟩
      · have hw' : workFirst (fabAnswer ⟨resp, false⟩ d s) = some (.read c i sub off num false) := by
          rw [← hw]
          simp only [workFirst, ht.work]
        obtain ⟨h1, _, h3⟩ := dictGo_default hreq (hwait.trans hf) (by rw [hw']; simp [DictWork.fabric, hi]) hany
        exact ⟨_, answered _, h1, h3.trans ht.work⟩
      · have hw' : workFirst (fabAnswer ⟨resp, false⟩ d s) = some (.read c i sub off num false) := by
          rw [← hw]
          simp only [workFirst, ht.work]
        obtain ⟨h1, h2⟩ := dictGo_read hreq (hwait.trans hf) hi hw' hany
        exact ⟨_, answered _, h1, h2.trans (by rw [ht.work])⟩
    case manifest =>
      intro hq hc hp hf hw hu hz
      obtain ⟨h1, h2⟩ := fabAnswer_manifest hq hc resp d hp hf hw hu hz
      exact ⟨_, (answered _).trans (by rw [h1]), h2⟩
    case spi =>
      intro hq hc hp hf hw hu
      refine ⟨fun h0 => ?_, fun h0 hz => ?_, fun h0 hz => ?_, ?_⟩
      · obtain ⟨ht, h1⟩ := fabAnswer_refused_spi hq hc resp d hp h0
        obtain ⟨hi, hn⟩ := ht.idle hf hw hu
        exact ⟨_, (answered _).trans (by rw [hi]), hn, h1⟩
      · obtain ⟨ht, h1, h2⟩ := fabAnswer_last_spi hq hc resp d hp h0 hz
        obtain ⟨hi, hn⟩ := ht.idle hf hw hu
        exact ⟨_, (answered _).trans (by rw [hi]), hn, h1, h2⟩
      · obtain ⟨hi, h1, h2, h3, h4⟩ := fabAnswer_more_spec hq resp d hp h0 hz
        exact ⟨_, _, (answered _).trans (by rw [hi]), h1, h2, h3, rfl, rfl, rfl, h4⟩
      · obtain ⟨ht, h1⟩ := fabTimeout_spi hq hc
        obtain ⟨hi, hn⟩ := ht.idle hf hw hu
        exact ⟨_, timedOut.trans (by rw [hi]), hn, h1⟩
    case noAccess =>
      exact fun hx => ⟨(sys _).trans (by rw [windowAck_of_none d s hx]), (sys _).trans (by rw [windowLate_of_none s hx])⟩
    case noClock => exact fun hp => (sys _).trans (by rw [windowAck_of_off d s hp])
    case window =>
      exact fun hx hm ho => ⟨fun hp => ⟨_, sys _, windowAck_spec hx hm ho d hp⟩, fun hv => ⟨_, sys _, windowLate_spec hx hm ho hv⟩⟩
    case loupe =>
      refine ⟨fun hr _ => ?_, fun hr => ⟨_, sys _, loupeWrite_ctrl hr v⟩, fun hr hk hb => ?_, fun hr hk hb => ?_⟩
      · obtain ⟨h1, h2, h3, h4⟩ := loupeRefused_shows s
        exact ⟨_, h1, h2, h3, h4, (sys _).trans (by rw [loupeWrite_of_noRight none v s hr]),
          (sys _).trans (by rw [loupeWrite_of_noRight (some k) v s hr])⟩
      · have e : loupeWrite (some k) v s = s.wr Fd.FAB_LOUPE_CTRL_STATUS St.range := (loupeWrite_sel hr v k).trans (if_pos hb)
        exact ⟨s.wr Fd.FAB_LOUPE_CTRL_STATUS St.range, (sys _).trans (by rw [e]), State.rd_wr _ _ _, rfl⟩
      · exact ⟨_, sys _, loupeWrite_taken hr v k hk hb⟩
  · refine ⟨fun hc => ?_, fun hn => ?_, fun hn hs => ?_, flipFlop_edges s k j, risingEdges_math s,
      fun hk hp h2 hne ho => ⟨fun he => ?_, fun he ha => ?_⟩, fabSettle_keeper s, fabSettle_pad s, rfl⟩
    · rw [fabTick, hc]
      rfl
    · rw [netEdge, hn, Bool.false_and]
    · rw [netEdge, hn, hs, Bool.true_and]
      rfl
    · exact risingEdges_port_still hp h2 hne ho he
    · exact risingEdges_port_idle hk hp h2 hne ho he ha

end Sys2Proof.Machine

/-! What the operations beside the angle front end leave of it: its channels, the values held until the next update tick, and the
registers of the AFE block. -/

namespace Sys2Proof.Machine

set_option Elab.async false

open Sys2Proof

/-- The keys of the AFE block's registers lie below this one, those of every other block at or above it (Table 1.1). -/
abbrev afeEnd : Nat := 0x06010000 * 64

/-- `t` has the angle channels of `s` but for listed ones, the values held until the next update, and the AFE registers but for those
of listed keys. -/
structure AfeKept (cs : List Nat) (ks : List Keys) (s t : State) : Prop where
  ach : ∀ j, j < 2 → j ∉ cs → t.ach j = s.ach j
  held : t.afe.held = s.afe.held
  rd : ∀ f : Fld, f.key < afeEnd → ks.any (·.has f.key) = false → t.rd f = s.rd f

/-- `t` has the angle front end of `s`. -/
abbrev OffAfe (s t : State) : Prop := AfeKept [] [] s t

/-- No key of an entry is one of the AFE block. -/
def Keys.offAfe : Keys → Bool
  | .one f => decide (afeEnd ≤ f.key)
  | .blk b => decide (0x0601 ≤ b)
  | .fam f _ => decide (afeEnd ≤ f.key)
  | .addrs lo _ => decide (0x06010000 ≤ lo)
  | .all => false

theorem Keys.not_has_of_offAfe {k : Keys} {n : Nat} (h : k.offAfe = true) (hn : n < afeEnd) : k.has n = false := by
  cases k with
  | all => simp [Keys.offAfe] at h
  | one f | blk b | fam f d | addrs lo hi =>
    simp only [Keys.offAfe, decide_eq_true_eq] at h
    simp only [Keys.has, beq_eq_false_iff_ne, Bool.and_eq_false_iff, decide_eq_false_iff_not, afeEnd] at hn h ⊢
    omega

namespace AfeKept

variable {cs ds : List Nat} {ks ls : List Keys} {s t u : State}

theorem refl (s : State) : AfeKept cs ks s s := ⟨fun _ _ _ => rfl, rfl, fun _ _ _ => rfl⟩

theorem trans (h : AfeKept cs ks s t) (g : AfeKept cs ks t u) : AfeKept cs ks s u :=
  ⟨fun j hj hc => (g.ach j hj hc).trans (h.ach j hj hc), g.held.trans h.held, fun f hf hk => (g.rd f hf hk).trans (h.rd f hf hk)⟩

theorem mono (h : AfeKept cs ks s t) (hc : cs ⊆ ds) (hk : ks ⊆ ls) : AfeKept ds ls s t :=
  ⟨fun j hj hd => h.ach j hj (fun hm => hd (hc hm)), h.held, fun f hf hl => h.rd f hf (by
    rw [List.any_eq_false] at hl ⊢
    exact fun k hm => hl k (hk hm))⟩

/-- What leaves the front end alone keeps it but for any list. -/
theorem off (h : OffAfe s t) : AfeKept cs ks s t := h.mono (List.nil_subset _) (List.nil_subset _)

theorem of_afe (ha : t.afe = s.afe) (hr : ∀ f : Fld, f.key < afeEnd → t.rd f = s.rd f) : AfeKept cs ks s t :=
  ⟨fun j _ _ => by simp only [State.ach, ha], congrArg AfeSt.held ha, fun f hf _ => hr f hf⟩

/-- An update of other parts of the state. -/
theorem of_regs (ha : t.afe = s.afe) (hr : t.regs = s.regs) : AfeKept cs ks s t :=
  of_afe ha (fun f _ => by simp only [State.rd, hr])

theorem of_touches {ps : List Part} (h : Touches ps ls s t) (hp : Part.afe ∉ ps := by decide)
    (hk : ls.all Keys.offAfe = true := by decide) : AfeKept cs ks s t := by
  refine of_afe (h.part .afe hp) (fun f hf => h.rd f ?_)
  rw [List.any_eq_false]
  intro k hm
  simp [Keys.not_has_of_offAfe (List.all_eq_true.1 hk k hm) hf]

/-- A write of a register of another block. -/
theorem wr (s : State) (f : Fld) (v : Nat) (h : 0x06010000 ≤ f.addr := by decide) : AfeKept cs ks s (s.wr f v) :=
  of_afe rfl (fun g hg => State.rd_wr_ne s f g v (by
    unfold Fld.key afeEnd at *
    omega))

/-- A write of a listed register of the AFE block. -/
theorem wr_of_mem (s : State) (f : Fld) (v : Nat) (h : Keys.one f ∈ ks) : AfeKept cs ks s (s.wr f v) := by
  refine ⟨fun _ _ _ => rfl, rfl, fun g _ hk => State.rd_wr_ne s f g v (fun he => ?_)⟩
  rw [List.any_eq_false] at hk
  exact hk _ h (by simp [Keys.has, he])

theorem ite {c : Prop} [Decidable c] (ht : c → AfeKept cs ks s t) (hu : ¬c → AfeKept cs ks s u) : AfeKept cs ks s (if c then t else u) := by
  split
  · exact ht ‹_›
  · exact hu ‹_›

theorem forEach {α : Type} (f : α → State → State) (hf : ∀ a t, AfeKept cs ks t (f a t)) (l : List α) (s : State) :
    AfeKept cs ks s (forEach l s f) :=
  List.foldlRecOn (motive := AfeKept cs ks s) l _ (refl s) (fun t ht a _ => ht.trans (hf a t))

/-- A field of a channel's registers that the listed keys leave out. -/
theorem reads {k : Nat} (ls : Nat → List Keys) (F : Nat → Fld) (h : AfeKept cs (ls k) s t) (hk : k < 2)
    (hF : ∀ j < 2, (F j).key < afeEnd ∧ (ls j).any (·.has (F j).key) = false := by decide) : t.rd (F k) = s.rd (F k) :=
  h.rd _ (hF k hk).1 (hF k hk).2

end AfeKept

/-! ### Sources, inputs and the memories -/

theorem irqEvent_offAfe (i : Nat) (s : State) : OffAfe s (irqEvent i s) := .of_touches (irqEvent_touches i s)

theorem safRaise_offAfe (i : Nat) (s : State) : OffAfe s (safRaise i s) := .of_touches (safRaise_touches i s)

theorem retTrack_offAfe (i delta : Nat) (s : State) : OffAfe s (s.retTrack i delta) :=
  .wr s _ _ (Nat.le_add_right_of_le (by decide))

theorem mput_offAfe (k : Nat) (w : MemWord) (s : State) : OffAfe s (s.mput k w) := by
  unfold State.mput
  extract_lets s1
  have h : OffAfe s s1 := .ite (fun _ => retTrack_offAfe _ _ s) (fun _ => .refl s)
  refine h.trans ?_
  clear_value s1
  split
  · split
    · exact .of_regs rfl rfl
    · exact .refl _
  · split
    · exact .of_regs rfl rfl
    · exact .of_regs rfl rfl

theorem mwrite_offAfe (m i : Nat) (d : W64) (s : State) : OffAfe s (s.mwrite m i d) :=
  .trans (.ite (fun _ => .wr s _ _) (fun _ => .refl s)) (mput_offAfe _ _ _)

theorem retUnmerge_offAfe (m i : Nat) (s : State) : OffAfe s (retUnmerge m i s) := by
  unfold retUnmerge
  split
  · exact .ite (fun _ => retTrack_offAfe _ _ s) (fun _ => .refl s)
  · exact .refl s

theorem writeWord_offAfe (m i : Nat) (d : W64) (s : State) : OffAfe s (writeWord m i d s) :=
  .trans (retUnmerge_offAfe m i s) <| .trans (.of_regs (t := touchWord m i (retUnmerge m i s)) rfl rfl) (mwrite_offAfe _ _ _ _)

theorem memCap_offAfe (kind m addr master : Nat) (s : State) : OffAfe s (memCap kind m addr master s) :=
  .of_touches (memCap_touches kind m addr master s)

theorem noteFixed_offAfe (m i r : Nat) (s : State) : OffAfe s (noteFixed m i r s) := by
  unfold noteFixed
  extract_lets s1
  have h : OffAfe s s1 := .trans (.trans (.wr s Fd.MEM_STAT_CE 1) (.wr _ (Fd.MEM_ECNT_CORRECTED m) _ (Nat.le_add_right_of_le (by decide))))
    (memCap_offAfe _ _ _ _ _)
  exact h.trans (.ite (fun _ => .refl _) (fun _ => .ite (fun _ => .of_regs rfl rfl) (fun _ => .wr _ Fd.MEM_STAT_WB_DROP 1)))

theorem noteUE_offAfe (m i r : Nat) (s : State) : OffAfe s (noteUE m i r s) :=
  .trans (.wr s (Fd.MEM_ECNT_UNCORR m) _ (Nat.le_add_right_of_le (by decide))) <| .trans (.wr _ Fd.MEM_STAT_UE 1) <|
    .trans (irqEvent_offAfe 388 _) <| .trans (memCap_offAfe _ _ _ _ _) (safRaise_offAfe 18 _)

theorem readWord_offAfe (m i r : Nat) (s : State) : OffAfe s (readWord m i r s).2 := by
  unfold readWord
  split
  · exact .refl s
  · exact noteFixed_offAfe m i r s
  · exact noteUE_offAfe m i r s

theorem slotRead_offAfe (j : Nat) (s : State) : OffAfe s (slotRead j s).2 := readWord_offAfe 14 (j / 2) 0 s

/-! ### Queues -/

theorem putDesc_offAfe (q : Nat) (d : Desc) (s : State) : OffAfe s (putDesc q d s) :=
  .trans (.ite (fun _ => .refl s) (fun _ => writeWord_offAfe 1 _ _ s)) (.ite (fun _ => .refl _) (fun _ => writeWord_offAfe 1 _ _ _))

theorem readDesc_offAfe (q : Nat) (s : State) : OffAfe s (readDesc q s).2 := by
  have h : OffAfe s (readWord 1 (2 * q + 1) 0 (readWord 1 (2 * q) 0 s).2).2 := .trans (readWord_offAfe _ _ _ s) (readWord_offAfe _ _ _ _)
  unfold readDesc
  dsimp only
  split
  · exact h
  · exact h

theorem haltLog_offAfe (q cause idx : Nat) (s : State) : OffAfe s (haltLog q cause idx s) := by
  refine .ite (fun _ => ?_) (fun _ => .wr s Fd.QUE_STAT_HALT_LOG_OVR 1)
  refine .trans (t := { s with que := { s.que with haltLog := s.que.haltLog ++ [⟨q, cause, idx⟩] } }) (.of_regs rfl rfl) ?_
  unfold irqJudge
  split
  · exact .ite (fun _ => irqEvent_offAfe 160 _) (fun _ => .refl _)
  · exact .refl _

theorem outcome_offAfe (q : Nat) (d : Desc) (oc phase : Nat) (w3 : W32) (time : Nat) (s : State) :
    OffAfe s (outcome q d oc phase w3 time s) := by
  have hc : ∀ j, OffAfe s (s.incWrap (Fd.QUE_GRP_CNT_COUNT d.group j)) := fun j =>
    .wr s _ _ (Nat.le_add_right_of_le (Nat.le_add_right_of_le (by decide)))
  unfold outcome
  extract_lets s1
  have h : OffAfe s s1 := .ite (fun _ => hc 0) (fun _ => .ite (fun _ => hc 1) (fun _ => .ite (fun _ => hc 2) (fun _ =>
    .ite (fun _ => hc 3) (fun _ => .refl s))))
  exact h.trans (.ite (fun _ => .refl _) (fun _ => .of_regs rfl rfl))

theorem haltQueue_offAfe (q cause : Nat) (d : Desc) (idx : Nat) (s : State) : OffAfe s (haltQueue q cause d idx s) := by
  unfold haltQueue
  extract_lets i s1
  have h : OffAfe s s1 := .trans (putDesc_offAfe q _ s) <| .trans (.of_regs (t := setHaltAt q cause i _) rfl rfl) (haltLog_offAfe _ _ _ _)
  exact h.trans (.ite (fun _ => outcome_offAfe _ _ _ _ _ _ _) (fun _ => .refl _))

/-! ### Nibs -/

theorem writeRec_offAfe (k : Nat) (w : List W32) (s : State) : OffAfe s (writeRec k w s) :=
  (writeWord_offAfe 14 _ _ s).trans (writeWord_offAfe 14 _ _ _)

theorem putNib_offAfe (k : Nat) (n : Nib) (s : State) : OffAfe s (putNib k n s) :=
  .trans (.of_regs (t := { s with nib := { s.nib with nibs := mapPut s.nib.nibs k n } }) rfl rfl) (writeRec_offAfe _ _ _)

theorem recompose_offAfe (st : Nat) (gone : List Nat) (s : State) : OffAfe s (recompose st gone s) := by
  unfold recompose
  split
  · exact .refl s
  · exact .ite (fun _ => .refl s) (fun _ => .trans (t := s.setStr st _) (.of_regs rfl rfl) (.wr _ (Fd.CHN_CNT_COUNT 1) _))

theorem recomposeAll_offAfe (gone : List Nat) (s : State) : OffAfe s (recomposeAll gone s) :=
  .forEach _ (fun st t => recompose_offAfe st gone t) _ s

/-- The counter of a retraction lies beyond the AFE block. -/
theorem retractWhere_offAfe (p : Nib → Bool) (ctr : Fld) (s : State) (h : 0x06010000 ≤ ctr.addr := by decide) :
    OffAfe s (retractWhere p ctr s) := by
  unfold retractWhere
  extract_lets gone qs _ _ s1
  have h1 : OffAfe s s1 := .of_regs rfl rfl
  exact .ite (fun _ => .refl s) (fun _ => h1.trans <| .trans (.wr s1 ctr _ h) <|
    .trans (.forEach _ (fun k t => writeRec_offAfe k [] t) _ _) (recomposeAll_offAfe _ _))

theorem retractFrom_offAfe (n : Nib) (ctr : Fld) (s : State) (h : 0x06010000 ≤ ctr.addr := by decide) :
    OffAfe s (retractFrom n ctr s) := retractWhere_offAfe (fun m => m.queue == n.queue && decide (ringPos s n ≤ ringPos s m)) ctr s h

theorem withdrawWhere_offAfe (p : Nat → Bool) (s : State) : OffAfe s (withdrawWhere p s) := .of_regs rfl rfl

theorem retractInvalid_offAfe (s : State) : OffAfe s (retractInvalid s) :=
  (retractWhere_offAfe _ (Fd.NIB_CNT_COUNT 15) s).trans (withdrawWhere_offAfe _ _)

theorem retractDir_offAfe (q : Nat) (s : State) : OffAfe s (retractDir q s) := by
  unfold retractDir
  dsimp only
  split
  · exact retractFrom_offAfe _ _ s
  · exact .refl s

theorem retractSwap_offAfe (n : Nib) (s : State) : OffAfe s (retractSwap n s) :=
  (retractFrom_offAfe n (Fd.NIB_CNT_COUNT 12) s).trans (.of_regs rfl rfl)

theorem haltCause8_offAfe (q : Nat) (s : State) : OffAfe s (haltCause8 q s) := by
  unfold haltCause8
  refine .ite (fun _ => .wr s Fd.QUE_STAT_DESC_UE 1) (fun _ => ?_)
  extract_lets s1 l s2
  have h : OffAfe s (setHaltAt q 8 0 s2) := .trans (retractWhere_offAfe _ (Fd.NIB_CNT_COUNT 10) s) (.of_regs rfl rfl)
  exact .trans h <| .trans (.wr _ Fd.QUE_STAT_DESC_UE 1) (haltLog_offAfe q 8 0 _)

theorem withDesc_offAfe (q : Nat) (f : Desc → State → State) (s : State) (hf : ∀ d t, OffAfe t (f d t)) : OffAfe s (withDesc q f s) := by
  have h := readDesc_offAfe q s
  unfold withDesc
  split
  · next d t e =>
    rw [e] at h
    exact h.trans (hf d t)
  · next t e =>
    rw [e] at h
    exact h.trans (haltCause8_offAfe q t)

theorem zeroArmed_offAfe (q : Nat) (s : State) : OffAfe s (zeroArmed q s) :=
  withDesc_offAfe q _ s (fun _ t => .ite (fun _ => .refl t) (fun _ => putDesc_offAfe q _ t))

theorem clearNibs_offAfe (s : State) : OffAfe s (clearNibs s) := by
  unfold clearNibs
  extract_lets _ s1 _ _ s2
  have h : OffAfe s s2 := .trans (.wr s (Fd.NIB_CNT_COUNT 14) _) (.of_regs rfl rfl)
  exact h.trans <| .trans (.forEach _ (fun k t => writeRec_offAfe k [] t) _ _) (.forEach _ zeroArmed_offAfe _ _)

theorem passOver_offAfe (k t : Nat) (s : State) : OffAfe s (passOver k t s) := by
  unfold passOver
  split
  · exact .refl s
  · refine .trans (.wr s (Fd.NIB_CNT_COUNT 6) _) (withDesc_offAfe _ _ _ (fun d u => ?_))
    exact .ite (fun _ => putNib_offAfe _ _ u) (fun _ => .ite (fun _ => putNib_offAfe _ _ u) (fun _ =>
      .trans (retractFrom_offAfe _ _ u) (withDesc_offAfe _ _ _ (fun _ v => haltQueue_offAfe _ _ _ _ v))))

theorem lockNib_offAfe (k : Nat) (n : Nib) (s : State) : OffAfe s (lockNib k n s) :=
  .trans (putNib_offAfe k _ s) <| .trans (.wr _ (Fd.NIB_CNT_COUNT 2) _) (.wr _ Fd.NIB_SPEC_MAX_SHIFT _)

/-! ### Crossing mode -/

theorem crossLock_offAfe (ready k : Nat) (passed : List Nat) (s : State) : OffAfe s (crossLock ready k passed s).2 := by
  unfold crossLock
  split
  · exact .refl s
  next n _ =>
    extract_lets t own f m
    split
    · exact .refl s
    · split
      · exact retractFrom_offAfe n _ s
      · split
        · exact retractInvalid_offAfe s
        · split
          · exact retractDir_offAfe _ s
          · split
            · exact putNib_offAfe _ _ s
            · split
              · exact retractSwap_offAfe n s
              · have hp : OffAfe s (putNib k m s) := putNib_offAfe k m s
                have ho : OffAfe s (passOver k t (putNib k m s)) := hp.trans (passOver_offAfe k t _)
                split
                · exact ho
                · split
                  · exact hp
                  · split
                    · exact ho
                    · exact lockNib_offAfe k m s

theorem crossMeasure_offAfe (ready before theta : Nat) (s : State) : OffAfe s (crossMeasure ready before theta s) := by
  unfold crossMeasure
  refine .ite (fun _ => .refl s) (fun _ => .ite (fun _ => .refl s) (fun _ => .ite (fun _ => clearNibs_offAfe s) (fun _ => ?_)))
  exact List.foldlRecOn (motive := fun a : List Nat × State => OffAfe s a.2) _ _ (.refl s)
    (fun a ha k _ => ha.trans (crossLock_offAfe ready k a.1 a.2))

theorem crossingStep_offAfe (s : State) : OffAfe s (crossingStep s) := by
  unfold crossingStep
  extract_lets v vmin stopped s1 reach beyond s2 far s3 _ s4
  have h2 : OffAfe s s2 := by
    refine .trans (.trans (.wr s Fd.NIB_STAT_CROSSING 1) (irqEvent_offAfe 176 _)) (.forEach _ (fun e t => ?_) _ s1)
    split
    · exact retractFrom_offAfe _ _ t
    · exact .refl t
  have h4 : OffAfe s s4 := h2.trans (.trans (t := s3) (withdrawWhere_offAfe _ s2) (.of_regs rfl rfl))
  refine .ite (fun _ => .ite (fun _ => ?_) (fun _ => .refl s)) (fun _ => .ite (fun _ => ?_) (fun _ => .refl s))
  · exact h4.trans (.forEach _ (fun e t => putNib_offAfe _ _ t) _ s4)
  · exact .trans (.wr s Fd.NIB_STAT_CROSSING 0) (irqEvent_offAfe 176 _)

/-! ### The candidates examined since the last update (R110) -/

/-- A view that each update of a list leaves alone. -/
theorem forEach_view {α β : Type} (g : State → β) (f : α → State → State) (hf : ∀ a t, g (f a t) = g t) (l : List α) (s : State) :
    g (forEach l s f) = g s := foldl_keeps (fun t a => f a t) g l (fun a _ t => hf a t) s

theorem writeRec_examined (k : Nat) (w : List W32) (s : State) : (writeRec k w s).nib.examined = s.nib.examined :=
  congrArg NibSt.examined ((writeRec_touches k w s).part .nib (by decide))

theorem putNib_examined (k : Nat) (n : Nib) (s : State) : (putNib k n s).nib.examined = s.nib.examined := writeRec_examined k _ _

theorem recompose_examined (st : Nat) (gone : List Nat) (s : State) : (recompose st gone s).nib.examined = s.nib.examined := by
  unfold recompose
  split
  · rfl
  · split
    · rfl
    · rfl

theorem retractWhere_examined (p : Nib → Bool) (ctr : Fld) (s : State) : (retractWhere p ctr s).nib.examined = s.nib.examined := by
  have hv := fun {α : Type} => @forEach_view α _ (fun t => t.nib.examined)
  unfold retractWhere
  extract_lets gone qs _ _ s1
  split
  · rfl
  · exact (hv _ (fun st t => recompose_examined st _ t) _ _).trans (hv _ (fun k t => writeRec_examined k [] t) _ _)

theorem retractInvalid_examined (s : State) : (retractInvalid s).nib.examined = s.nib.examined := retractWhere_examined _ _ s

theorem crossingStep_examined (s : State) : (crossingStep s).nib.examined = s.nib.examined := by
  have hq : ∀ t : State, (irqEvent 176 t).nib.examined = t.nib.examined := fun t => congrArg NibSt.examined (irqEvent_nib t 176)
  unfold crossingStep
  extract_lets v vmin stopped s1 reach beyond s2 far s3 _ s4
  have h2 : s2.nib.examined = s.nib.examined := by
    refine (forEach_view (fun t => t.nib.examined) _ (fun e t => ?_) _ s1).trans (hq _)
    split
    · exact retractWhere_examined _ _ t
    · rfl
  split
  · split
    · exact (forEach_view (fun t => t.nib.examined) _ (fun e t => putNib_examined _ _ t) _ s4).trans h2
    · rfl
  · split
    · exact hq _
    · rfl

end Sys2Proof.Machine

/-! The operations that the commands of the angle front end share: channel faults, learning runs, measurements and the movement of the
count (R46 to R54, R70). -/

namespace Sys2Proof.Machine

set_option Elab.async false

open Sys2Proof

/-! ### Channels and values in force -/

@[simp] theorem State.ach_updAch_self (s : State) (k : Nat) (f : AfeCh → AfeCh) : (s.updAch k f).ach k = f (s.ach k) := by
  unfold State.updAch State.setAch State.ach
  split
  · rfl
  · rfl

@[simp] theorem State.regs_updAch (s : State) (k : Nat) (f : AfeCh → AfeCh) : (s.updAch k f).regs = s.regs := by
  unfold State.updAch State.setAch
  split
  · rfl
  · rfl

@[simp] theorem State.mem_updAch (s : State) (k : Nat) (f : AfeCh → AfeCh) : (s.updAch k f).mem = s.mem := by
  unfold State.updAch State.setAch
  split
  · rfl
  · rfl

@[simp] theorem State.saf_updAch (s : State) (k : Nat) (f : AfeCh → AfeCh) : (s.updAch k f).saf = s.saf := by
  unfold State.updAch State.setAch
  split
  · rfl
  · rfl

@[simp] theorem State.held_updAch (s : State) (k : Nat) (f : AfeCh → AfeCh) : (s.updAch k f).afe.held = s.afe.held := by
  unfold State.updAch State.setAch
  split
  · rfl
  · rfl

@[simp] theorem State.rd_updAch (s : State) (k : Nat) (f : AfeCh → AfeCh) (g : Fld) : (s.updAch k f).rd g = s.rd g := by
  simp only [State.rd, State.regs_updAch]

@[simp] theorem State.now_updAch (s : State) (k : Nat) (f : AfeCh → AfeCh) : (s.updAch k f).now = s.now := State.rd_updAch s k f _

@[simp] theorem State.afeRd_updAch (s : State) (k : Nat) (f : AfeCh → AfeCh) (g : Fld) : (s.updAch k f).afeRd g = s.afeRd g := by
  simp only [State.afeRd, State.rd_updAch, State.held_updAch]

@[simp] theorem afeCpr_updAch (s : State) (k : Nat) (f : AfeCh → AfeCh) (j : Nat) : afeCpr (s.updAch k f) j = afeCpr s j :=
  State.rd_updAch s k f _

@[simp] theorem afeZMode_updAch (s : State) (k : Nat) (f : AfeCh → AfeCh) (j : Nat) : afeZMode (s.updAch k f) j = afeZMode s j := by
  simp only [afeZMode, State.rd_updAch]

@[simp] theorem State.ach_wr (s : State) (f : Fld) (v k : Nat) : (s.wr f v).ach k = s.ach k := rfl
@[simp] theorem State.ach_set1 (s : State) (f : Fld) (k : Nat) : (s.set1 f).ach k = s.ach k := rfl
@[simp] theorem State.ach_clr (s : State) (f : Fld) (k : Nat) : (s.clr f).ach k = s.ach k := rfl
@[simp] theorem State.ach_incSat (s : State) (f : Fld) (k : Nat) : (s.incSat f).ach k = s.ach k := rfl

theorem State.rd_set1 (s : State) (f : Fld) (h : 0 < f.w := by decide) : (s.set1 f).rd f = 1 :=
  State.rd_wr_lt s f 1 (Nat.one_lt_two_pow (Nat.ne_of_gt h))

theorem State.rd_clr (s : State) (f : Fld) : (s.clr f).rd f = 0 := (State.rd_wr s f 0).trans (Nat.zero_mod _)

namespace AfeKept

variable {cs : List Nat} {ks : List Keys} {s t : State}

theorem updAch (s : State) {k : Nat} (hk : k < 2) (f : AfeCh → AfeCh) (h : k ∈ cs := by simp) : AfeKept cs ks s (s.updAch k f) := by
  refine ⟨fun j hj hc => ?_, State.held_updAch s k f, fun g _ _ => State.rd_updAch s k f g⟩
  have hne : j ≠ k := fun e => hc (e ▸ h)
  unfold State.updAch State.setAch State.ach
  split
  · rw [if_neg (by omega), if_neg (by omega)]
  · rw [if_pos (by omega), if_pos (by omega)]

/-- An update of the other parts of the AFE's record. -/
theorem of_runs (h0 : t.afe.ch0 = s.afe.ch0) (h1 : t.afe.ch1 = s.afe.ch1) (hh : t.afe.held = s.afe.held) (hr : t.regs = s.regs) :
    AfeKept cs ks s t :=
  ⟨fun _ _ _ => by simp only [State.ach, h0, h1], hh, fun f _ _ => by simp only [State.rd, hr]⟩

theorem afeRd (h : AfeKept cs ks s t) (f : Fld) (hf : f.key < afeEnd) (hk : ks.any (·.has f.key) = false) : t.afeRd f = s.afeRd f := by
  simp only [State.afeRd, h.held, h.rd f hf hk]

end AfeKept

/-! ### Learning runs (R70) -/

/-- The fields that report the state of a learning run. -/
abbrev learnKeys : List Keys := [.one Fd.AFE_LEARN_CTRL_BUSY, .one Fd.AFE_LEARN_CTRL_DONE, .one Fd.AFE_LEARN_CTRL_ABORTED]

theorem learnEnd_kept (f : Fld) (s : State) (h : Keys.one f ∈ learnKeys := by decide) : AfeKept [] learnKeys s (learnEnd f s) :=
  .trans (t := { s with afe := { s.afe with learn := none } }) (.of_runs rfl rfl rfl rfl) <| .trans (.wr_of_mem _ f 1 h) <|
    .trans (.wr_of_mem _ Fd.AFE_LEARN_CTRL_BUSY 0 (by decide)) (irqEvent_offAfe 19 _).off

theorem learnAbort_kept (k : Nat) (s : State) : AfeKept [] learnKeys s (learnAbort k s) := by
  unfold learnAbort
  split
  · exact .ite (fun _ => learnEnd_kept _ s) (fun _ => .refl s)
  · exact .refl s

theorem learnTurn_kept (k : Nat) (s : State) : AfeKept [] learnKeys s (learnTurn k s) := by
  unfold learnTurn
  split
  · exact .refl s
  · exact .ite (fun _ => .refl s) (fun _ => .ite (fun _ => .of_runs rfl rfl rfl rfl) (fun _ =>
      .ite (fun _ => learnEnd_kept _ s) (fun _ => .of_runs rfl rfl rfl rfl)))

theorem learnBin_kept (k theta tm : Nat) (s : State) : AfeKept [] [] s (learnBin k theta tm s) := by
  unfold learnBin
  split
  · exact .refl s
  · split
    · exact .refl s
    · split
      · exact .refl s
      · dsimp only
        split
        · exact .refl s
        · exact .of_runs rfl rfl rfl rfl

/-! ### Channel faults (Table 3.4) -/

/-- What a channel writes when it loses its reference. -/
abbrev refKeys (k : Nat) : List Keys := .one (Fd.AFE_CH_STAT_VALID k) :: .one (Fd.AFE_CH_STAT_REFERENCED k) :: learnKeys

/-- What a fault of a channel writes. -/
abbrev faultKeys (k : Nat) : List Keys := .one (faultFld k) :: refKeys k

theorem unReference_kept (k : Nat) (s : State) : AfeKept [] (refKeys k) s (unReference k s) := by
  unfold unReference
  extract_lets s1 s2
  have h1 : AfeKept [] (refKeys k) s s1 := .wr_of_mem s _ 0 (by simp)
  have h2 : AfeKept [] (refKeys k) s1 s2 := .ite (fun _ => .refl s1) (fun _ => .wr_of_mem s1 _ 0 (by simp))
  exact h1.trans <| h2.trans <| (learnAbort_kept k s2).mono (List.Subset.refl _) (by simp)

theorem unReference_referenced {k : Nat} (hk : k < 2) (s : State) : (unReference k s).rd (Fd.AFE_CH_STAT_REFERENCED k) = 0 := by
  unfold unReference
  extract_lets s1 s2
  have h2 : s2.rd (Fd.AFE_CH_STAT_REFERENCED k) = s1.rd (Fd.AFE_CH_STAT_REFERENCED k) := by
    have h : AfeKept [] [.one (Fd.AFE_CH_STAT_VALID k)] s1 s2 := .ite (fun _ => .refl s1) (fun _ => .wr_of_mem s1 _ 0 (by simp))
    exact h.reads (fun j => [.one (Fd.AFE_CH_STAT_VALID j)]) Fd.AFE_CH_STAT_REFERENCED hk
  exact ((learnAbort_kept k s2).reads (fun _ => learnKeys) Fd.AFE_CH_STAT_REFERENCED hk).trans (h2.trans (State.rd_clr s _))

theorem unReference_valid {k : Nat} (hk : k < 2) (s : State) (h : s.rd (Fd.AFE_CH_STAT_VALID k) = 0) :
    (unReference k s).rd (Fd.AFE_CH_STAT_VALID k) = 0 := by
  unfold unReference
  extract_lets s1 s2
  have h1 : s1.rd (Fd.AFE_CH_STAT_VALID k) = s.rd (Fd.AFE_CH_STAT_VALID k) := by
    have h : AfeKept [] [.one (Fd.AFE_CH_STAT_REFERENCED k)] s s1 := .wr_of_mem s _ 0 (by simp)
    exact h.reads (fun j => [.one (Fd.AFE_CH_STAT_REFERENCED j)]) Fd.AFE_CH_STAT_VALID hk
  have h2 : s2.rd (Fd.AFE_CH_STAT_VALID k) = 0 := by
    dsimp only [s2]
    split
    · exact h1.trans h
    · exact State.rd_clr s1 _
  exact ((learnAbort_kept k s2).reads (fun _ => learnKeys) Fd.AFE_CH_STAT_VALID hk).trans h2

/-- The fault bit is latched and reported. -/
def faultNoted (k b : Nat) (s : State) : State :=
  if (s.rd (faultFld k)).testBit b then s else safRaise k (irqEvent (16 + k) (s.orF (faultFld k) (2 ^ b)))

/-- A latched fault ends a run that learns the channel, and VALID. -/
def faultEnds (k : Nat) (s : State) : State := learnAbort k (s.clr (Fd.AFE_CH_STAT_VALID k))

theorem afeFault_eq (k b : Nat) (s : State) : afeFault k b s =
    if b = 1 then faultEnds k (faultNoted k b s) else unReference k (faultEnds k (faultNoted k b s)) := rfl

theorem faultNoted_kept (k b : Nat) (s : State) : AfeKept [] [.one (faultFld k)] s (faultNoted k b s) :=
  .ite (fun _ => .refl s) (fun _ => .trans (.wr_of_mem s _ _ (by simp)) <| .trans (irqEvent_offAfe _ _).off (safRaise_offAfe _ _).off)

theorem faultEnds_kept (k : Nat) (s : State) : AfeKept [] (refKeys k) s (faultEnds k s) :=
  .trans (.wr_of_mem s _ 0 (by simp)) ((learnAbort_kept k _).mono (List.Subset.refl _) (by simp))

theorem faultEnds_valid {k : Nat} (hk : k < 2) (s : State) : (faultEnds k s).rd (Fd.AFE_CH_STAT_VALID k) = 0 :=
  ((learnAbort_kept k _).reads (fun _ => learnKeys) Fd.AFE_CH_STAT_VALID hk).trans (State.rd_clr s _)

theorem afeFault_kept (k b : Nat) (s : State) : AfeKept [] (faultKeys k) s (afeFault k b s) := by
  have h1 : AfeKept [] (faultKeys k) s (faultNoted k b s) := (faultNoted_kept k b s).mono (List.Subset.refl _) (by simp)
  have h2 := fun t => (faultEnds_kept k t).mono (ls := faultKeys k) (List.Subset.refl _) (by simp)
  rw [afeFault_eq]
  exact .ite (fun _ => h1.trans (h2 _)) (fun _ => h1.trans <| (h2 _).trans <| (unReference_kept k _).mono (List.Subset.refl _) (by simp))

theorem afeFault_valid {k : Nat} (hk : k < 2) (b : Nat) (s : State) : (afeFault k b s).rd (Fd.AFE_CH_STAT_VALID k) = 0 := by
  have h := faultEnds_valid hk (faultNoted k b s)
  rw [afeFault_eq]
  split
  · exact h
  · exact unReference_valid hk _ h

theorem afeFault_referenced {k : Nat} (hk : k < 2) {b : Nat} (hb : b ≠ 1) (s : State) :
    (afeFault k b s).rd (Fd.AFE_CH_STAT_REFERENCED k) = 0 := by
  rw [afeFault_eq, if_neg hb]
  exact unReference_referenced hk _

theorem faultFld_w (k : Nat) : (faultFld k).w = 8 := by
  unfold faultFld
  split
  · rfl
  · rfl

theorem faultNoted_testBit {k : Nat} (hk : k < 2) (b : Nat) {i : Nat} (hi : i < 8) (s : State) :
    ((faultNoted k b s).rd (faultFld k)).testBit i = ((s.rd (faultFld k)).testBit i || decide (i = b)) := by
  unfold faultNoted
  split
  next h =>
    by_cases hib : i = b
    · simp [hib, h]
    · simp [hib]
  next =>
    have h1 := fun t => (safRaise_offAfe k t).reads (fun _ => []) faultFld hk
    have h2 := fun t => (irqEvent_offAfe (16 + k) t).reads (fun _ => []) faultFld hk
    rw [h1, h2, State.orF, State.rd_wr, faultFld_w, Nat.testBit_mod_two_pow, Nat.testBit_or, Nat.testBit_two_pow]
    simp [hi, eq_comm]

/-- A fault latches its bit of AFE_FAULT and leaves the others. -/
theorem afeFault_testBit {k : Nat} (hk : k < 2) (b : Nat) {i : Nat} (hi : i < 8) (s : State) :
    ((afeFault k b s).rd (faultFld k)).testBit i = ((s.rd (faultFld k)).testBit i || decide (i = b)) := by
  have h := (faultEnds_kept k (faultNoted k b s)).reads refKeys faultFld hk
  have h' := fun t => (unReference_kept k t).reads refKeys faultFld hk
  rw [← faultNoted_testBit hk b hi, ← h, afeFault_eq]
  split
  · rfl
  · rw [h']

/-- What a latched fault shows: its bit, and a channel neither VALID nor REFERENCED. -/
theorem afeFault_shows {k : Nat} (hk : k < 2) {b : Nat} (hb : b < 8) (h1 : b ≠ 1) (s : State) :
    ((afeFault k b s).rd (faultFld k)).testBit b = true ∧ (afeFault k b s).rd (Fd.AFE_CH_STAT_VALID k) = 0 ∧
    (afeFault k b s).rd (Fd.AFE_CH_STAT_REFERENCED k) = 0 :=
  ⟨by simp [afeFault_testBit hk b hb], afeFault_valid hk b s, afeFault_referenced hk h1 s⟩

/-- A further fault leaves a latched bit latched. -/
theorem afeFault_latched {k : Nat} (hk : k < 2) (b : Nat) {i : Nat} (hi : i < 8) {s : State} (h : (s.rd (faultFld k)).testBit i = true) :
    ((afeFault k b s).rd (faultFld k)).testBit i = true := by
  rw [afeFault_testBit hk b hi, h, Bool.true_or]

/-! ### Measurements (R53) -/

/-- The table stage leaves a state alone, or reads two entries of the table, of which an unreadable one is fault 7. -/
theorem tblCorrect_state (k theta : Nat) (s : State) : (tblCorrect k theta s).2 = s ∨
    ∃ t, OffAfe s t ∧ ((tblCorrect k theta s).2 = t ∨ (tblCorrect k theta s).2 = afeFault k 7 t) := by
  unfold tblCorrect tblEntry
  generalize (if k = 0 then Fd.AFE_TBL_CTRL_EN0 else Fd.AFE_TBL_CTRL_EN1) = en
  split
  · extract_lets p i f b x r
    refine .inr ⟨_, .trans (slotRead_offAfe (slotTbl k b i) s) (slotRead_offAfe (slotTbl k b ((i + 1) % 1024)) _), ?_⟩
    split
    · exact .inl rfl
    · exact .inr rfl
  · exact .inl rfl

theorem tblCorrect_kept (k theta : Nat) (s : State) : AfeKept [] (faultKeys k) s (tblCorrect k theta s).2 := by
  obtain h | ⟨t, ht, h | h⟩ := tblCorrect_state k theta s
  · rw [h]
    exact .refl s
  · rw [h]
    exact ht.off
  · rw [h]
    exact ht.off.trans (afeFault_kept k 7 t)

/-- With ENk 0 an angle passes the table stage as it is. -/
theorem tblCorrect_of_off (k theta : Nat) (s : State) (h : s.afeRd (if k = 0 then Fd.AFE_TBL_CTRL_EN0 else Fd.AFE_TBL_CTRL_EN1) = 0) :
    tblCorrect k theta s = (theta, s) := by
  simp [tblCorrect, State.afeRdB, h]

theorem tblCorrect_latched {k : Nat} (hk : k < 2) (theta : Nat) {i : Nat} (hi : i < 8) {s : State}
    (h : (s.rd (faultFld k)).testBit i = true) : ((tblCorrect k theta s).2.rd (faultFld k)).testBit i = true := by
  obtain e | ⟨t, ht, e | e⟩ := tblCorrect_state k theta s
  · rw [e, h]
  · rw [e, ht.reads (fun _ => []) faultFld hk, h]
  · rw [e]
    exact afeFault_latched hk 7 hi (by rw [ht.reads (fun _ => []) faultFld hk, h])

/-- A measured angle, corrected as the table stage stands. -/
def correctedNow (k theta tm : Nat) (s : State) : Nat × State := tblCorrect k theta (learnBin k theta tm s)

/-- A channel with a measurement on its way. -/
def AfeCh.measured (c : AfeCh) (theta th tm enter : Nat) (rev : Bool) : AfeCh :=
  { c with meas := c.meas ++ [⟨theta, th, tm, enter, (enter + 2) % 2 ^ 64, rev⟩], lastRaw := theta, lastTheta := th }

/-- The state that a measurement leaves before the crossing nibs are judged at it. -/
def measTaken (k theta tm enter : Nat) (rev : Bool) (s : State) : State :=
  (correctedNow k theta tm s).2.updAch k (fun c => c.measured theta (correctedNow k theta tm s).1 tm enter rev)

theorem measure_offAfe (k theta tm enter : Nat) (rev : Bool) (s : State) :
    OffAfe (measTaken k theta tm enter rev s) (measure k theta tm enter rev s) :=
  .ite (fun _ => crossMeasure_offAfe _ _ _ _) (fun _ => .refl _)

theorem correctedNow_kept (k theta tm : Nat) (s : State) : AfeKept [] (faultKeys k) s (correctedNow k theta tm s).2 :=
  (learnBin_kept k theta tm s).off.trans (tblCorrect_kept k theta _)

theorem measure_kept {k : Nat} (hk : k < 2) (theta tm enter : Nat) (rev : Bool) (s : State) :
    AfeKept [k] (faultKeys k) s (measure k theta tm enter rev s) :=
  .trans ((correctedNow_kept k theta tm s).mono (List.nil_subset _) (List.Subset.refl _)) <|
    .trans (.updAch _ hk _) (measure_offAfe k theta tm enter rev s).off

theorem measure_ach {k : Nat} (hk : k < 2) (theta tm enter : Nat) (rev : Bool) (s : State) :
    (measure k theta tm enter rev s).ach k = (s.ach k).measured theta (correctedNow k theta tm s).1 tm enter rev := by
  rw [(measure_offAfe k theta tm enter rev s).ach k hk (by simp), measTaken, State.ach_updAch_self,
    (correctedNow_kept k theta tm s).ach k hk (by simp)]

theorem tblEn_off {k : Nat} (hk : k < 2) {s t : State} {cs : List Nat} (ls : Nat → List Keys) (h : AfeKept cs (ls k) s t)
    (hl : ∀ j < 2, (ls j).any (·.has (if j = 0 then Fd.AFE_TBL_CTRL_EN0 else Fd.AFE_TBL_CTRL_EN1).key) = false := by decide) :
    t.afeRd (if k = 0 then Fd.AFE_TBL_CTRL_EN0 else Fd.AFE_TBL_CTRL_EN1) =
      s.afeRd (if k = 0 then Fd.AFE_TBL_CTRL_EN0 else Fd.AFE_TBL_CTRL_EN1) :=
  h.afeRd _ (by split <;> decide) (hl k hk)

theorem correctedNow_of_off {k : Nat} (hk : k < 2) (theta tm : Nat) (s : State)
    (h : s.afeRd (if k = 0 then Fd.AFE_TBL_CTRL_EN0 else Fd.AFE_TBL_CTRL_EN1) = 0) : (correctedNow k theta tm s).1 = theta := by
  rw [correctedNow, tblCorrect_of_off]
  rw [tblEn_off hk (fun _ => []) (learnBin_kept k theta tm s), h]

theorem measure_latched {k : Nat} (hk : k < 2) (theta tm enter : Nat) (rev : Bool) {i : Nat} (hi : i < 8) {s : State}
    (h : (s.rd (faultFld k)).testBit i = true) : ((measure k theta tm enter rev s).rd (faultFld k)).testBit i = true := by
  rw [(measure_offAfe k theta tm enter rev s).reads (fun _ => []) faultFld hk, measTaken, State.rd_updAch]
  refine tblCorrect_latched hk theta hi ?_
  rw [(learnBin_kept k theta tm s).reads (fun _ => []) faultFld hk]
  exact h

/-! ### The movement of the count (R48, R49) -/

theorem zMissing_kept (k : Nat) (s : State) :
    AfeKept [] (.one (Fd.AFE_CH_ERRCNT_ZMISS_CNT k) :: faultKeys k) s (zMissing k s) :=
  .ite (fun _ => .trans (.wr_of_mem s _ _ (by simp)) ((afeFault_kept k 3 _).mono (List.Subset.refl _) (by simp))) (fun _ => .refl s)

theorem zMissing_latched {k : Nat} (hk : k < 2) {i : Nat} (hi : i < 8) {s : State}
    (h : (s.rd (faultFld k)).testBit i = true) : ((zMissing k s).rd (faultFld k)).testBit i = true := by
  unfold zMissing
  split
  · refine afeFault_latched hk 3 hi ?_
    have e : AfeKept [] [.one (Fd.AFE_CH_ERRCNT_ZMISS_CNT k)] s (s.incSat (Fd.AFE_CH_ERRCNT_ZMISS_CNT k)) := .wr_of_mem s _ _ (by simp)
    rw [e.reads (fun j => [.one (Fd.AFE_CH_ERRCNT_ZMISS_CNT j)]) faultFld hk]
    exact h
  · exact h

/-- A channel whose count or period moves by `d`, at `n` a revolution. -/
def AfeCh.cellMoved (n : Nat) (d : Int) (c : AfeCh) : AfeCh :=
  let x : Int := (c.cell : Int) + d
  { c with
    cell := (x % (n : Int)).toNat
    rev := if x < 0 then (c.rev + 255) % 256 else if (n : Int) ≤ x then (c.rev + 1) % 256 else c.rev
    sinceZ := c.sinceZ + d }

/-- The state in which the count has moved, before a learning run takes note of the carry. -/
def cellMoved (k : Nat) (d : Int) (s : State) : State :=
  (s.updAch k (AfeCh.cellMoved (afeCpr s k) d)).wr (Fd.AFE_CH_COUNT_CELL k) ((s.ach k).cellMoved (afeCpr s k) d).cell

theorem moveCell_of_cellMoved (k : Nat) (d : Int) (s : State) : AfeKept [] learnKeys (cellMoved k d s) (moveCell k d s) := by
  have e : moveCell k d s = if (decide (((s.ach k).cell : Int) + d < 0) || decide ((afeCpr s k : Int) ≤ ((s.ach k).cell : Int) + d)) &&
      (cellMoved k d s).afeRdB Fd.AFE_LEARN_CTRL_REF then learnTurn k (cellMoved k d s) else cellMoved k d s := by
    unfold moveCell cellMoved
    simp only [State.ach_updAch_self]
    rfl
  rw [e]
  exact .ite (fun _ => learnTurn_kept k _) (fun _ => .refl _)

/-- What the movement of the count writes. -/
abbrev moveKeys (k : Nat) : List Keys := .one (Fd.AFE_CH_COUNT_CELL k) :: learnKeys

theorem moveCell_kept {k : Nat} (hk : k < 2) (d : Int) (s : State) : AfeKept [k] (moveKeys k) s (moveCell k d s) :=
  .trans (.updAch s hk _) <| .trans (.wr_of_mem _ _ _ (by simp)) ((moveCell_of_cellMoved k d s).mono (List.nil_subset _) (by simp))

theorem moveCell_ach {k : Nat} (hk : k < 2) (d : Int) (s : State) : (moveCell k d s).ach k = (s.ach k).cellMoved (afeCpr s k) d := by
  rw [(moveCell_of_cellMoved k d s).ach k hk (by simp), cellMoved, State.ach_wr, State.ach_updAch_self]

/-- The channel of a counting register's width shows the cell it moved to. -/
theorem moveCell_count {k : Nat} (hk : k < 2) (d : Int) (s : State) (h0 : 0 < afeCpr s k) (hn : afeCpr s k < 2 ^ 21) :
    (moveCell k d s).rd (Fd.AFE_CH_COUNT_CELL k) = ((s.ach k).cellMoved (afeCpr s k) d).cell := by
  have hc : ((s.ach k).cellMoved (afeCpr s k) d).cell < afeCpr s k := by
    show (((s.ach k).cell + d) % (afeCpr s k : Int)).toNat < afeCpr s k
    have := Int.emod_nonneg ((s.ach k).cell + d) (b := (afeCpr s k : Int)) (by omega)
    have := Int.emod_lt_of_pos ((s.ach k).cell + d) (b := (afeCpr s k : Int)) (by omega)
    omega
  rw [(moveCell_of_cellMoved k d s).reads (fun _ => learnKeys) Fd.AFE_CH_COUNT_CELL hk]
  exact State.rd_wr_lt _ _ _ (show _ < 2 ^ 21 by omega)

theorem firstCell_kept {k : Nat} (hk : k < 2) (s : State) : AfeKept [k] (moveKeys k) s (firstCell k s) :=
  .ite (fun _ => .trans (.updAch s hk _) (.wr_of_mem _ _ _ (by simp))) (fun _ => .refl s)

end Sys2Proof.Machine

/-! Incremental edges, the index signal and loss of signal on a channel (R46 to R49, Table 3.4). -/

namespace Sys2Proof.Machine

set_option Elab.async false

open Sys2Proof

/-! ### Accepted levels (R47, R48) -/

/-- The channel has taken new levels of A and B. -/
def levelsTaken (k : Nat) (a b : Bool) (s : State) : State := s.updAch k (fun c => { c with lvA := a, lvB := b, seen := true })

section Edge

variable {s : State} {k : Nat} {a b : Bool}

theorem encoderEdge_of_type (h : s.rd (Fd.AFE_CH_CFG_TYPE k) ≠ 1) : encoderEdge k a b s = s := if_pos h

theorem encoderEdge_of_first (ht : s.rd (Fd.AFE_CH_CFG_TYPE k) = 1) (hs : (s.ach k).seen = false) :
    encoderEdge k a b s = firstCell k (levelsTaken k a b s) := by
  simp [encoderEdge, ht, hs, levelsTaken]

theorem encoderEdge_of_both (ht : s.rd (Fd.AFE_CH_CFG_TYPE k) = 1) (hs : (s.ach k).seen = true) (ha : a ≠ (s.ach k).lvA)
    (hb : b ≠ (s.ach k).lvB) : encoderEdge k a b s = afeFault k 0 ((levelsTaken k a b s).incSat (Fd.AFE_CH_ERRCNT_ILLEGAL_CNT k)) := by
  simp [encoderEdge, ht, hs, ha, hb, levelsTaken]

theorem encoderEdge_of_none (ht : s.rd (Fd.AFE_CH_CFG_TYPE k) = 1) (hs : (s.ach k).seen = true) (ha : a = (s.ach k).lvA)
    (hb : b = (s.ach k).lvB) : encoderEdge k a b s = levelsTaken k a b s := by
  simp [encoderEdge, ht, hs, ← ha, ← hb, levelsTaken]

/-- The count of a transition as DECODE and INVERT_DIR have it. -/
def edgeCount (k : Nat) (a b : Bool) (s : State) : Int :=
  let d := quadCount (s.rd (Fd.AFE_CH_CFG_DECODE k)) (quadOf (s.ach k).lvA (s.ach k).lvB) (quadOf a b)
  if s.rdB (Fd.AFE_CH_CFG_INVERT_DIR k) then -d else d

theorem edgeCount_eq_zero : edgeCount k a b s = 0 ↔
    quadCount (s.rd (Fd.AFE_CH_CFG_DECODE k)) (quadOf (s.ach k).lvA (s.ach k).lvB) (quadOf a b) = 0 := by
  unfold edgeCount
  dsimp only
  split
  · exact neg_eq_zero
  · rfl

/-- A transition of one input moves the count, if the channel has one and DECODE counts it. -/
theorem encoderEdge_of_one (ht : s.rd (Fd.AFE_CH_CFG_TYPE k) = 1) (hs : (s.ach k).seen = true)
    (h : (a = (s.ach k).lvA ∧ b ≠ (s.ach k).lvB) ∨ (a ≠ (s.ach k).lvA ∧ b = (s.ach k).lvB)) : encoderEdge k a b s =
    if afeCpr s k = 0 then levelsTaken k a b s
    else if edgeCount k a b s = 0 then levelsTaken k a b s else countEdge k (edgeCount k a b s) (levelsTaken k a b s) := by
  have h1 : (a != (s.ach k).lvA && b != (s.ach k).lvB) = false := by
    rcases h with ⟨e, -⟩ | ⟨-, e⟩ <;> simp [e]
  have h2 : (a == (s.ach k).lvA && b == (s.ach k).lvB) = false := by
    rcases h with ⟨-, e⟩ | ⟨e, -⟩ <;> simp [e]
  unfold encoderEdge
  rw [if_neg (not_not_intro ht)]
  simp only [hs, h1, h2, Bool.not_true, Bool.false_eq_true, if_false]
  rfl

end Edge

/-! ### A counted transition (R48) -/

/-- The direction of a count: 0 increasing, 1 decreasing. -/
def countDir (d : Int) : Nat := if 0 ≤ d then 0 else 1

/-- The boundary angle of an edge (R48). -/
def edgeAngle (c : AfeCh) (n : Nat) (d : Int) : Nat :=
  enc 40 (rne ((c.rev * 2 ^ 64 + (if 0 ≤ d then c.cell + 1 else c.cell) * scaleOf n : Nat) : Int) 32)

/-- The state in which an edge has moved the count and shown its direction. -/
def edgeCounted (k : Nat) (d : Int) (s : State) : State :=
  ((((moveCell k d s).wr (Fd.AFE_CH_STAT_DIR k) (countDir d)).clr (Fd.AFE_CH_STAT_STOPPED k)).clr (Fd.AFE_CH_STAT_SILENCE k)).updAch k
    (fun c => { c with lastEdge := s.now, moved := true })

/-- The state in which the estimator has the measurement of an edge. -/
def edgeMeasured (k : Nat) (d : Int) (s : State) : State :=
  measure k (edgeAngle (s.ach k) (afeCpr s k) d) (edgeStamp s k) ((s.now + 1) % 2 ^ 64)
    ((s.ach k).moved && s.rd (Fd.AFE_CH_STAT_DIR k) != countDir d) (edgeCounted k d s)

theorem countEdge_eq (k : Nat) (d : Int) (s : State) : countEdge k d s = zMissing k (edgeMeasured k d s) := rfl

/-- What a counted transition writes before it is measured. -/
abbrev edgeKeys (k : Nat) : List Keys :=
  .one (Fd.AFE_CH_STAT_DIR k) :: .one (Fd.AFE_CH_STAT_STOPPED k) :: .one (Fd.AFE_CH_STAT_SILENCE k) :: moveKeys k

theorem edgeCounted_kept {k : Nat} (hk : k < 2) (d : Int) (s : State) : AfeKept [k] (edgeKeys k) s (edgeCounted k d s) :=
  .trans ((moveCell_kept hk d s).mono (List.Subset.refl _) (by simp)) <| .trans (.wr_of_mem _ _ _ (by simp)) <|
    .trans (.wr_of_mem _ _ 0 (by simp)) <| .trans (.wr_of_mem _ _ 0 (by simp)) (.updAch _ hk _)

theorem edgeCounted_ach {k : Nat} (hk : k < 2) (d : Int) (s : State) : (edgeCounted k d s).ach k =
    { (s.ach k).cellMoved (afeCpr s k) d with lastEdge := s.now, moved := true } := by
  rw [edgeCounted, State.ach_updAch_self, State.ach_clr, State.ach_clr, State.ach_wr, moveCell_ach hk]

/-- What a measurement and a missing Z may write after the count has moved. -/
theorem countEdge_kept {k : Nat} (hk : k < 2) (d : Int) (s : State) :
    AfeKept [k] (.one (Fd.AFE_CH_ERRCNT_ZMISS_CNT k) :: faultKeys k) (edgeCounted k d s) (countEdge k d s) := by
  rw [countEdge_eq]
  exact .trans ((measure_kept hk _ _ _ _ _).mono (List.Subset.refl _) (by simp)) ((zMissing_kept k _).mono (List.nil_subset _) (List.Subset.refl _))

theorem countEdge_ach {k : Nat} (hk : k < 2) (d : Int) (s : State) : ∃ th, (countEdge k d s).ach k =
      ((edgeCounted k d s).ach k).measured (edgeAngle (s.ach k) (afeCpr s k) d) th (edgeStamp s k) ((s.now + 1) % 2 ^ 64)
        ((s.ach k).moved && s.rd (Fd.AFE_CH_STAT_DIR k) != countDir d) ∧
    (s.afeRd (if k = 0 then Fd.AFE_TBL_CTRL_EN0 else Fd.AFE_TBL_CTRL_EN1) = 0 → th = edgeAngle (s.ach k) (afeCpr s k) d) := by
  refine ⟨(correctedNow k (edgeAngle (s.ach k) (afeCpr s k) d) (edgeStamp s k) (edgeCounted k d s)).1,
    ((zMissing_kept k _).ach k hk (by simp)).trans (measure_ach hk _ _ _ _ _), fun h => correctedNow_of_off hk _ _ _ ?_⟩
  rw [tblEn_off hk edgeKeys (edgeCounted_kept hk d s), h]

theorem countEdge_count {k : Nat} (hk : k < 2) (d : Int) (s : State) (h0 : 0 < afeCpr s k) (hn : afeCpr s k < 2 ^ 21) :
    (countEdge k d s).rd (Fd.AFE_CH_COUNT_CELL k) = ((s.ach k).cellMoved (afeCpr s k) d).cell := by
  have h : AfeKept [k] [.one (Fd.AFE_CH_STAT_DIR k), .one (Fd.AFE_CH_STAT_STOPPED k), .one (Fd.AFE_CH_STAT_SILENCE k)] (moveCell k d s)
      (edgeCounted k d s) :=
    .trans (.wr_of_mem _ _ _ (by simp)) <| .trans (.wr_of_mem _ _ 0 (by simp)) <| .trans (.wr_of_mem _ _ 0 (by simp)) (.updAch _ hk _)
  rw [(countEdge_kept hk d s).reads (fun j => .one (Fd.AFE_CH_ERRCNT_ZMISS_CNT j) :: faultKeys j) Fd.AFE_CH_COUNT_CELL hk,
    h.reads (fun j => [.one (Fd.AFE_CH_STAT_DIR j), .one (Fd.AFE_CH_STAT_STOPPED j), .one (Fd.AFE_CH_STAT_SILENCE j)])
      Fd.AFE_CH_COUNT_CELL hk, moveCell_count hk d s h0 hn]

theorem countEdge_dir {k : Nat} (hk : k < 2) (d : Int) (s : State) : (countEdge k d s).rd (Fd.AFE_CH_STAT_DIR k) = countDir d := by
  have h : ∀ t : State, ((((t.wr (Fd.AFE_CH_STAT_DIR k) (countDir d)).clr (Fd.AFE_CH_STAT_STOPPED k)).clr
      (Fd.AFE_CH_STAT_SILENCE k)).rd (Fd.AFE_CH_STAT_DIR k)) = countDir d := fun t => by
    have e : AfeKept [k] [.one (Fd.AFE_CH_STAT_STOPPED k), .one (Fd.AFE_CH_STAT_SILENCE k)] (t.wr (Fd.AFE_CH_STAT_DIR k) (countDir d)) _ :=
      .trans (.wr_of_mem _ (Fd.AFE_CH_STAT_STOPPED k) 0 (by simp)) (.wr_of_mem _ (Fd.AFE_CH_STAT_SILENCE k) 0 (by simp))
    refine (e.reads (fun j => [.one (Fd.AFE_CH_STAT_STOPPED j), .one (Fd.AFE_CH_STAT_SILENCE j)]) Fd.AFE_CH_STAT_DIR hk).trans ?_
    refine State.rd_wr_lt _ _ _ (show countDir d < 2 from ?_)
    unfold countDir
    split <;> decide
  rw [(countEdge_kept hk d s).reads (fun j => .one (Fd.AFE_CH_ERRCNT_ZMISS_CNT j) :: faultKeys j) Fd.AFE_CH_STAT_DIR hk, edgeCounted,
    State.rd_updAch, h]

theorem countEdge_stopped {k : Nat} (hk : k < 2) (d : Int) (s : State) : (countEdge k d s).rd (Fd.AFE_CH_STAT_STOPPED k) = 0 := by
  have h : ∀ t : State, ((t.clr (Fd.AFE_CH_STAT_STOPPED k)).clr (Fd.AFE_CH_STAT_SILENCE k)).rd (Fd.AFE_CH_STAT_STOPPED k) = 0 :=
    fun t => by
      have e : AfeKept [] [.one (Fd.AFE_CH_STAT_SILENCE k)] (t.clr (Fd.AFE_CH_STAT_STOPPED k)) _ :=
        .wr_of_mem _ (Fd.AFE_CH_STAT_SILENCE k) 0 (by simp)
      exact (e.reads (fun j => [.one (Fd.AFE_CH_STAT_SILENCE j)]) Fd.AFE_CH_STAT_STOPPED hk).trans (State.rd_clr _ _)
  rw [(countEdge_kept hk d s).reads (fun j => .one (Fd.AFE_CH_ERRCNT_ZMISS_CNT j) :: faultKeys j) Fd.AFE_CH_STAT_STOPPED hk, edgeCounted,
    State.rd_updAch, h]

/-! ### The index signal (R49) -/

theorem zNote_kept {k : Nat} (hk : k < 2) (s : State) : AfeKept [k] learnKeys s (zNote k s) := by
  unfold zNote
  extract_lets c t per bad s1
  have h1 : AfeKept [k] learnKeys s s1 := .updAch s hk _
  have he := (learnEnd_kept Fd.AFE_LEARN_CTRL_ABORTED s1).mono (ds := [k]) (List.nil_subset _) (List.Subset.refl _)
  have ht := (learnTurn_kept k s1).mono (ds := [k]) (List.nil_subset _) (List.Subset.refl _)
  split
  · exact .ite (fun _ => h1) (fun _ => .ite (fun _ => h1.trans he) (fun _ => h1.trans ht))
  · exact h1

/-- A gated Z takes its stamp and the travel since it. -/
theorem zNote_ach {k : Nat} (hk : k < 2) (s : State) :
    ∃ z p r, (zNote k s).ach k = { s.ach k with zAt := z, zPer := p, zRev := r, sinceZ := 0 } := by
  unfold zNote
  extract_lets c t per bad s1
  have h1 : s1.ach k = { s.ach k with zAt := some t, zPer := if per = 0 then c.zPer else per, zRev := zRevOf s k, sinceZ := 0 } :=
    State.ach_updAch_self s k _
  have he := (learnEnd_kept Fd.AFE_LEARN_CTRL_ABORTED s1).ach k hk (by simp)
  have ht := (learnTurn_kept k s1).ach k hk (by simp)
  refine ⟨_, _, _, Eq.trans ?_ h1⟩
  split
  · split
    · rfl
    · split
      · exact he
      · exact ht
  · rfl

theorem zReference_ach (k : Nat) (s : State) : (zReference k s).ach k =
    { s.ach k with cell := s.rd (Fd.AFE_CH_ZCFG_ZOFS k) % max 1 (afeCpr s k), rev := 0, meas := [], restart := true } := by
  simp [zReference, restartEst]

theorem zReference_rd {k : Nat} (hk : k < 2) (s : State) (h0 : afeCpr s k ≠ 0) (hn : afeCpr s k < 2 ^ 21) :
    (zReference k s).rd (Fd.AFE_CH_COUNT_CELL k) = s.rd (Fd.AFE_CH_ZCFG_ZOFS k) % afeCpr s k ∧
    (zReference k s).rd (Fd.AFE_CH_STAT_REFERENCED k) = 1 := by
  have hm : max 1 (afeCpr s k) = afeCpr s k := by omega
  have hz : s.rd (Fd.AFE_CH_ZCFG_ZOFS k) % afeCpr s k < 2 ^ 21 := (Nat.mod_lt _ (by omega)).trans hn
  have h : ∀ t : State, AfeKept [] [.one (Fd.AFE_CH_STAT_REFERENCED k)] t (t.set1 (Fd.AFE_CH_STAT_REFERENCED k)) := fun t =>
    .wr_of_mem t _ 1 (by simp)
  simp only [zReference, restartEst, State.rd_updAch]
  refine ⟨?_, State.rd_set1 _ (Fd.AFE_CH_STAT_REFERENCED k) Nat.one_pos⟩
  rw [(h _).reads (fun j => [.one (Fd.AFE_CH_STAT_REFERENCED j)]) Fd.AFE_CH_COUNT_CELL hk, hm]
  exact State.rd_wr_lt _ _ _ hz

section Index

variable {s : State} {k : Nat}

/-- A Z is of no use to the channel. -/
def zOff (s : State) (k : Nat) : Prop :=
  s.rd (Fd.AFE_CH_CFG_TYPE k) = 0 ∨ s.rd (Fd.AFE_CH_CPR_CPR k) = 0 ∨ s.rd (Fd.AFE_CH_CFG_Z_MODE k) = 0 ∨ zGate s k = false

/-- A Z lies further from ZOFS than ZTOL allows. -/
def zFar (s : State) (k : Nat) : Prop :=
  min 2 (s.rd (Fd.AFE_CH_CFG_Z_MODE k)) = 2 ∧ s.rd (Fd.AFE_CH_ZCFG_ZTOL k) <
    cellDist (s.rd (Fd.AFE_CH_CPR_CPR k)) (s.ach k).cell (s.rd (Fd.AFE_CH_ZCFG_ZOFS k) % s.rd (Fd.AFE_CH_CPR_CPR k))

theorem zOff_iff : (s.rd (Fd.AFE_CH_CFG_TYPE k) = 0 ∨ afeCpr s k = 0 ∨ afeZMode s k = 0 ∨ (!zGate s k) = true) ↔ zOff s k := by
  have hz : afeZMode s k = 0 ↔ s.rd (Fd.AFE_CH_CFG_Z_MODE k) = 0 := by
    unfold afeZMode
    omega
  unfold zOff afeCpr
  rw [hz, Bool.not_eq_true']

theorem zIndex_of_off (h : zOff s k) : zIndex k s = s := if_pos (zOff_iff.2 h)

theorem zIndex_of_unreferenced (h : ¬zOff s k) (hr : s.rd (Fd.AFE_CH_STAT_REFERENCED k) = 0) : zIndex k s = zNote k (zReference k s) := by
  refine (if_neg (mt zOff_iff.1 h)).trans (if_pos ?_)
  simp [State.rdB, hr]

theorem zIndex_of_referenced (h : ¬zOff s k) (hr : s.rd (Fd.AFE_CH_STAT_REFERENCED k) = 1) :
    (zFar s k → zIndex k s = afeFault k 3 ((zNote k s).incSat (Fd.AFE_CH_ERRCNT_ZMISS_CNT k))) ∧
    (¬zFar s k → zIndex k s = zNote k s) := by
  have hb : ¬(!s.rdB (Fd.AFE_CH_STAT_REFERENCED k)) = true := by simp [State.rdB, hr]
  have e : zIndex k s = if afeZMode s k = 2 ∧ s.rd (Fd.AFE_CH_ZCFG_ZTOL k) <
      cellDist (afeCpr s k) (s.ach k).cell (s.rd (Fd.AFE_CH_ZCFG_ZOFS k) % afeCpr s k) then
        afeFault k 3 ((zNote k s).incSat (Fd.AFE_CH_ERRCNT_ZMISS_CNT k)) else zNote k s := (if_neg (mt zOff_iff.1 h)).trans (if_neg hb)
  exact ⟨fun hf => e.trans (if_pos hf), fun hf => e.trans (if_neg hf)⟩

end Index

/-! ### Loss of signal (R46) -/

/-- The number of a differential input within its channel. -/
def encSig : EncIn → Nat
  | .a _ => 0
  | .b _ => 1
  | .z _ => 2

/-- The input reads as lost, or as present again. -/
def lossTaken (e : EncIn) (lost : Bool) (s : State) : State :=
  s.updAch e.chan (fun c => { c with lost := if lost then c.lost ||| 2 ^ encSig e else c.lost ^^^ (c.lost &&& 2 ^ encSig e) })

theorem lossOfSignal_eq (e : EncIn) (lost : Bool) (s : State) : lossOfSignal e lost s =
    if lost && (losWatched s e.chan).testBit (encSig e) then afeFault e.chan 2 (lossTaken e lost s) else lossTaken e lost s := rfl

theorem lossTaken_lost (e : EncIn) (lost : Bool) (s : State) :
    ((lossTaken e lost s).ach e.chan).lost.testBit (encSig e) = lost := by
  rw [lossTaken, State.ach_updAch_self]
  cases lost <;> simp

/-- The loss of an input that the channel watches. -/
theorem lossOfSignal_of_watched {e : EncIn} (hk : e.chan < 2) (s : State) (h : (losWatched s e.chan).testBit (encSig e) = true) :
    let u := lossOfSignal e true s
    ((u.rd (faultFld e.chan)).testBit 2 = true ∧ u.rd (Fd.AFE_CH_STAT_VALID e.chan) = 0 ∧ u.rd (Fd.AFE_CH_STAT_REFERENCED e.chan) = 0) ∧
    (u.ach e.chan).lost.testBit (encSig e) = true := by
  intro u
  have e1 : u = afeFault e.chan 2 (lossTaken e true s) := (lossOfSignal_eq e true s).trans (if_pos (by rw [h]; rfl))
  rw [e1, (afeFault_kept e.chan 2 _).ach _ hk (by simp), lossTaken_lost]
  exact ⟨afeFault_shows hk (by decide) (by decide) _, rfl⟩

/-- Where the channel does not watch an input, its loss and its end change nothing but what the channel knows of it. -/
theorem lossOfSignal_of_unwatched {e : EncIn} {lost : Bool} (s : State) (h : (lost && (losWatched s e.chan).testBit (encSig e)) = false) :
    let u := lossOfSignal e lost s
    (u.ach e.chan).lost.testBit (encSig e) = lost ∧ u.regs = s.regs ∧ u.saf = s.saf ∧ u.mem = s.mem := by
  intro u
  have e1 : u = lossTaken e lost s := (lossOfSignal_eq e lost s).trans (if_neg (by simp [h]))
  rw [e1, lossTaken_lost]
  exact ⟨rfl, State.regs_updAch s _ _, State.saf_updAch s _ _, State.mem_updAch s _ _⟩

section Watched

variable {s : State} {k : Nat}

theorem losWatched_ab (ht : s.rd (Fd.AFE_CH_CFG_TYPE k) = 1) (ho : s.rd (Fd.AFE_CH_CFG_SINGLE_ENDED k) = 0) :
    (losWatched s k).testBit 0 = true ∧ (losWatched s k).testBit 1 = true := by
  simp only [losWatched, ht, State.rdB, ho, bne_self_eq_false, Bool.false_eq_true, Nat.one_ne_zero, or_self, if_false, if_true]
  split <;> decide

theorem losWatched_z (ht : s.rd (Fd.AFE_CH_CFG_TYPE k) ≠ 0) (ho : s.rd (Fd.AFE_CH_CFG_SINGLE_ENDED k) = 0)
    (hz : s.rd (Fd.AFE_CH_CFG_Z_MODE k) ≠ 0) : (losWatched s k).testBit 2 = true := by
  have h : afeZMode s k ≠ 0 := by
    unfold afeZMode
    omega
  simp only [losWatched, State.rdB, ho, ht, h, bne_self_eq_false, Bool.false_eq_true, or_self, if_false]
  split <;> decide

theorem losWatched_not_z (h : s.rd (Fd.AFE_CH_CFG_TYPE k) = 0 ∨ ¬s.rd (Fd.AFE_CH_CFG_SINGLE_ENDED k) = 0 ∨
    s.rd (Fd.AFE_CH_CFG_Z_MODE k) = 0) : (losWatched s k).testBit 2 = false := by
  unfold losWatched
  dsimp only
  split
  · decide
  next hn =>
    have hz : afeZMode s k = 0 := by
      simp only [State.rdB, bne_iff_ne] at hn
      unfold afeZMode
      omega
    rw [if_pos hz]
    split <;> decide

end Watched

/-! ### The obligation -/

/-- Settles O21: each row is brought to the branch of its operation that the clause names, and what the branch makes of the channel and of
its registers is read off there. -/
theorem encoderEdgesAndIndex : Obligations.EncoderEdgesAndIndex := by
  intro s k a b he hk c n en fault d0 d x dir tm bnd levels
  have hedge : exec (.encoderEdge k a b) s = .next (finish (encoderEdge k a b s)) := engRun_of_engOn (encoderEdge k a b) s he
  have hindex : exec (.zIndex k) s = .next (finish (zIndex k s)) := engRun_of_engOn (zIndex k) s he
  have hloss : ∀ e l, exec (.lossOfSignal e l) s = .next (finish (lossOfSignal e l s)) := fun e l => engRun_of_engOn (lossOfSignal e l) s he
  refine ⟨fun ht => hedge.trans (by rw [encoderEdge_of_type ht]), fun ht => ⟨fun hs h => ?still, fun hs hz => ?first, fun hs hz => ?zero,
    fun hs ha hb => ?illegal, fun hs h h0 hn hd => ?counted⟩, ⟨fun h => ?off, fun h hn hr => ?reference, fun h hr => ?check⟩,
    ⟨fun ht ho => ?ab, fun ht hz ho => ?z, fun h => ?unused, ?end_⟩⟩
  case still =>
    rw [hedge]
    by_cases hb : a = c.lvA ∧ b = c.lvB
    · rw [encoderEdge_of_none ht hs hb.1 hb.2]
      rfl
    · have h1 : (a = c.lvA ∧ b ≠ c.lvB) ∨ (a ≠ c.lvA ∧ b = c.lvB) := by tauto
      rw [encoderEdge_of_one ht hs h1]
      have h2 : n = 0 ∨ d0 = 0 := by tauto
      split
      · rfl
      next hn => rw [if_pos (edgeCount_eq_zero.2 (h2.resolve_left hn))]; rfl
  case first =>
    have hm : afeZMode (levelsTaken k a b s) k ≠ 0 := by
      rw [levelsTaken, afeZMode_updAch, afeZMode]
      omega
    rw [hedge, encoderEdge_of_first ht hs, firstCell, if_neg hm]
    rfl
  case zero =>
    have hm : afeZMode (levelsTaken k a b s) k = 0 := by
      rw [levelsTaken, afeZMode_updAch, afeZMode, hz]
      rfl
    refine ⟨_, hedge, ?_⟩
    rw [encoderEdge_of_first ht hs, firstCell, if_pos hm, State.ach_wr, State.ach_updAch_self, levelsTaken, State.ach_updAch_self]
    exact ⟨rfl, State.rd_clr _ _⟩
  case illegal =>
    refine ⟨_, hedge, ?_⟩
    rw [encoderEdge_of_both ht hs ha hb]
    refine ⟨afeFault_shows hk (by decide) (by decide) _, ?_, ?_⟩
    · rw [(afeFault_kept k 0 _).ach k hk (by simp), State.ach_incSat, levelsTaken, State.ach_updAch_self]
    · rw [(afeFault_kept k 0 _).reads faultKeys Fd.AFE_CH_ERRCNT_ILLEGAL_CNT hk, State.rd_incSat, levelsTaken, State.rd_updAch]
      rfl
  case counted =>
    have hd' : edgeCount k a b s ≠ 0 := mt edgeCount_eq_zero.1 hd
    have hn0 : afeCpr s k ≠ 0 := Nat.ne_of_gt h0
    have e : encoderEdge k a b s = countEdge k (edgeCount k a b s) (levelsTaken k a b s) := by
      rw [encoderEdge_of_one ht hs h, if_neg hn0, if_neg hd']
    obtain ⟨th, hach, hth⟩ := countEdge_ach hk (edgeCount k a b s) (levelsTaken k a b s)
    have hl : (levelsTaken k a b s).ach k = { c with lvA := a, lvB := b, seen := true } := State.ach_updAch_self s k _
    have hc : afeCpr (levelsTaken k a b s) k = n := afeCpr_updAch s k _ k
    have hnow : (levelsTaken k a b s).now = s.now := State.now_updAch s k _
    have hst : edgeStamp (levelsTaken k a b s) k = tm := by
      simp only [edgeStamp, afeFilt, levelsTaken, State.now_updAch, State.rd_updAch]
      rfl
    have hdir : (levelsTaken k a b s).rd (Fd.AFE_CH_STAT_DIR k) = s.rd (Fd.AFE_CH_STAT_DIR k) := State.rd_updAch s k _ _
    rw [edgeCounted_ach hk, hl, hc, hnow, hst, hdir] at hach
    have hcount := countEdge_count hk (edgeCount k a b s) (levelsTaken k a b s) (by rw [hc]; exact h0) (by rw [hc]; exact hn)
    rw [hl, hc] at hcount hth
    refine ⟨_, hedge, ?_⟩
    rw [e, hcount, countEdge_dir hk, countEdge_stopped hk, hach]
    refine ⟨rfl, rfl, Int.toNat_of_nonneg (Int.emod_nonneg _ (by omega)), rfl, rfl, rfl, rfl, rfl, fun hen => ?_⟩
    rw [hth (by rw [levelsTaken, State.afeRd_updAch]; exact hen)]
    have h3 : ((s.now + 1) % 2 ^ 64 + 2) % 2 ^ 64 = (s.now + 3) % 2 ^ 64 := by omega
    show c.meas ++ [(⟨_, _, _, _, ((s.now + 1) % 2 ^ 64 + 2) % 2 ^ 64, _⟩ : Meas)] = _
    rw [h3]
    rfl
  case off => rw [hindex, zIndex_of_off h]
  case reference =>
    have h0 : afeCpr s k ≠ 0 := fun e => h (.inr (.inl e))
    obtain ⟨z, p, r, hz⟩ := zNote_ach hk (zReference k s)
    obtain ⟨hc, h1⟩ := zReference_rd hk s h0 hn
    have hm : max 1 (afeCpr s k) = afeCpr s k := by omega
    refine ⟨_, hindex, ?_⟩
    rw [zIndex_of_unreferenced h hr, hz, (zNote_kept hk _).reads (fun _ => learnKeys) Fd.AFE_CH_COUNT_CELL hk,
      (zNote_kept hk _).reads (fun _ => learnKeys) Fd.AFE_CH_STAT_REFERENCED hk, hc, h1, zReference_ach, hm]
    exact ⟨rfl, rfl, rfl, rfl, rfl, rfl, rfl⟩
  case check =>
    obtain ⟨z, p, r, hz⟩ := zNote_ach hk s
    obtain ⟨hfar, hnear⟩ := zIndex_of_referenced h hr
    refine ⟨_, hindex, ?_⟩
    by_cases hf : zFar s k
    · rw [hfar hf, (afeFault_kept k 3 _).ach k hk (by simp), State.ach_incSat, hz]
      refine ⟨rfl, rfl, rfl, fun _ => ⟨afeFault_shows hk (by decide) (by decide) _, ?_⟩, fun hn => absurd hf hn⟩
      rw [(afeFault_kept k 3 _).reads faultKeys Fd.AFE_CH_ERRCNT_ZMISS_CNT hk, State.rd_incSat,
        (zNote_kept hk s).reads (fun _ => learnKeys) Fd.AFE_CH_ERRCNT_ZMISS_CNT hk]
      rfl
    · rw [hnear hf, hz]
      refine ⟨rfl, rfl, rfl, fun hc => absurd hc hf, fun _ => ⟨?_, (zNote_kept hk s).reads (fun _ => learnKeys) faultFld hk⟩⟩
      rw [(zNote_kept hk s).reads (fun _ => learnKeys) Fd.AFE_CH_STAT_REFERENCED hk, hr]
  case ab =>
    obtain ⟨wa, wb⟩ := losWatched_ab ht ho
    exact ⟨⟨_, hloss _ _, lossOfSignal_of_watched (e := .a k) hk s wa⟩, ⟨_, hloss _ _, lossOfSignal_of_watched (e := .b k) hk s wb⟩⟩
  case z => exact ⟨_, hloss _ _, lossOfSignal_of_watched (e := .z k) hk s (losWatched_z ht ho hz)⟩
  case unused =>
    obtain ⟨hl, hg, hsaf, -⟩ := lossOfSignal_of_unwatched (e := .z k) (lost := true) s (losWatched_not_z h)
    exact ⟨_, hloss _ _, hl, hg, hsaf⟩
  case end_ =>
    obtain ⟨hl, hg, -, hm⟩ := lossOfSignal_of_unwatched (e := .z k) (lost := false) s rfl
    exact ⟨_, hloss _ _, Bool.eq_false_iff.1 hl, hg, hm⟩

end Sys2Proof.Machine

/-! Sin/cos samples, the stop time-out and the snapshot of an estimate (R50 to R52, R57, R59). -/

namespace Sys2Proof.Machine

set_option Elab.async false

open Sys2Proof

/-! ### The strobe (R50) -/

/-- A raw code at full scale. -/
def fullScale (v : Int) : Prop := v = -32768 ∨ v = 32767

theorem adcSample_of_off (k sn cs : Nat) (s : State) (h : s.rd (Fd.AFE_CH_CFG_TYPE k) ≠ 2 ∨ s.pwr.sleep.resting = some 2) :
    adcSample k sn cs s = s := if_pos h

theorem adcSample_of_on (k sn cs : Nat) (s : State) (ht : s.rd (Fd.AFE_CH_CFG_TYPE k) = 2) (hr : s.pwr.sleep.resting ≠ some 2) :
    let s1 := s.updAch k (fun c => { c with conv := some (sx 16 sn, sx 16 cs, s.now) })
    (fullScale (sx 16 sn) ∨ fullScale (sx 16 cs) → adcSample k sn cs s = afeFault k 6 s1) ∧
    (¬fullScale (sx 16 sn) → ¬fullScale (sx 16 cs) → adcSample k sn cs s = s1) := by
  have e : adcSample k sn cs s = if sx 16 sn = -32768 ∨ sx 16 sn = 32767 ∨ sx 16 cs = -32768 ∨ sx 16 cs = 32767 then
      afeFault k 6 (s.updAch k (fun c => { c with conv := some (sx 16 sn, sx 16 cs, s.now) }))
      else s.updAch k (fun c => { c with conv := some (sx 16 sn, sx 16 cs, s.now) }) :=
    if_neg (by simp [ht, hr])
  unfold fullScale
  refine ⟨fun h => e.trans (if_pos (by tauto)), fun h1 h2 => e.trans (if_neg (by tauto))⟩

/-! ### A conversion completes (R51, R52) -/

/-- The trimmed sine of a raw pair, and its cosine after the quadrature correction. -/
def trimmedSin (k : Nat) (s : State) (x : Int) : Int :=
  trimStep (trimFactory s (2 * k) x) (s.afeRdI (Fd.AFE_CH_UOFF_S_UOFF k)) (s.afeRd (Fd.AFE_CH_UGAIN_GAIN_S k))

def trimmedCos (k : Nat) (s : State) (x y : Int) : Int :=
  let y2 := trimStep (trimFactory s (2 * k + 1) y) (s.afeRdI (Fd.AFE_CH_UOFF_C_UOFF k)) (s.afeRd (Fd.AFE_CH_UGAIN_GAIN_C k))
  satI 22 (rne (y2 * (s.afeRd (Fd.AFE_CH_QUAD_QK1 k) : Int) + trimmedSin k s x * s.afeRdI (Fd.AFE_CH_QUAD_QK2 k)) 15)

/-- The amplitude of a trimmed pair as AMP shows it. -/
def ampOf (x y : Int) : Nat := min 65535 (amplitude x y)

/-- The phase of a trimmed pair. -/
def phaseOf (x y : Int) : Nat :=
  let pick := Config.cordicPick x y
  if x = 0 ∧ y = 0 then pick % 2 ^ 20 else nth 0 (phaseChoices x y) (pick % (phaseChoices x y).length)

/-- The amplitude lies outside its bounds. -/
def ampOut (k : Nat) (s : State) (amp : Nat) : Bool :=
  decide (amp < s.afeRd (Fd.AFE_CH_AMP_AMP_MIN k)) || decide (s.afeRd (Fd.AFE_CH_AMP_AMP_MAX k) < amp)

/-- The state in which a conversion has shown its amplitude. -/
def ampShown (k : Nat) (x1 y1 : Int) (amp : Nat) (bad : Bool) (s : State) : State :=
  ((statTake k x1 y1 (s.updAch k (fun c => { c with conv := none }))).wr (Fd.AFE_CH_STAT_AMP k) amp).updAch k
    (fun c => { c with ampBad := bad })

/-- The state in which a conversion has latched what its amplitude and its phase step call for. -/
def phaseTaken (k : Nat) (x1 y1 : Int) (amp ph : Nat) (bad jump : Bool) (s : State) : State :=
  let s2 := ampShown k x1 y1 amp bad s
  let s3 := if bad then afeFault k 4 s2 else s2
  let s4 := if jump then afeFault k 5 s3 else s3
  s4.updAch k (fun c => { c with phase := ph, phaseOk := true })

/-- The state in which the period index has followed the phase. -/
def periodMoved (k : Nat) (c : AfeCh) (ph : Nat) (s : State) : State :=
  if !c.phaseOk then firstCell k s
  else if c.phase / 2 ^ 18 = 3 ∧ ph / 2 ^ 18 = 0 then moveCell k 1 s
  else if c.phase / 2 ^ 18 = 0 ∧ ph / 2 ^ 18 = 3 then moveCell k (-1) s
  else s

/-- The measured angle of a sin/cos channel (R52). -/
def phaseAngle (k n ph : Nat) (s : State) : Nat :=
  enc 40 (rne ((((s.ach k).cell * 2 ^ 20 + ph) * scaleOf n : Nat) : Int) 52 + ((s.ach k).rev : Int) * 2 ^ 32)

/-- The state that a conversion leaves, from the one in which its phase is taken. -/
def phaseMeasured (k n tm ph : Nat) (c : AfeCh) (s : State) : State :=
  zMissing k (measure k (phaseAngle k n ph (periodMoved k c ph s)) tm ((tm + 146) % 2 ^ 64) false (periodMoved k c ph s))

theorem adcDone_of_none (k : Nat) (s : State) (h : (s.ach k).conv = none) : adcDone k s = s := by
  rw [adcDone, h]

theorem adcDone_of_some {k : Nat} {s : State} {x y : Int} {tm : Nat} (h : (s.ach k).conv = some (x, y, tm)) :
    ∃ x1 y1 jump, let x2 := trimmedSin k s x
      let y3 := trimmedCos k s x y
      let s5 := phaseTaken k x1 y1 (ampOf x2 y3) (phaseOf x2 y3) (ampOut k s (ampOf x2 y3)) jump s
      adcDone k s = if afeCpr s k = 0 then s5 else phaseMeasured k (afeCpr s k) tm (phaseOf x2 y3) (s.ach k) s5 := by
  refine ⟨trimFactory s (2 * k) x, trimFactory s (2 * k + 1) y, (s.ach k).phaseOk &&
    decide (2 ^ 18 ≤ (diffS 20 (phaseOf (trimmedSin k s x) (trimmedCos k s x y)) (s.ach k).phase).natAbs), ?_⟩
  unfold adcDone
  rw [h]
  rfl

/-- The sums of the statistics function. -/
abbrev statKeys : List Keys := [.one Fd.AFE_STAT_SUM_S_SUM, .one Fd.AFE_STAT_SUM_C_SUM, .one Fd.AFE_STAT_SUM_SS_SUM,
  .one Fd.AFE_STAT_SUM_CC_SUM, .one Fd.AFE_STAT_SUM_SC_SUM]

theorem statTake_kept (k : Nat) (x y : Int) (s : State) : AfeKept [] statKeys s (statTake k x y s) := by
  unfold statTake
  refine .ite (fun _ => .refl s) (fun _ => ?_)
  extract_lets add t
  have hadd : ∀ (f : Fld) (v : Int) (u : State), Keys.one f ∈ statKeys → AfeKept [] statKeys u (add f v u) := fun f v u h =>
    .wr_of_mem u f _ h
  have ht : AfeKept [] statKeys s t := .trans (hadd _ _ _ (by decide)) <| .trans (hadd _ _ _ (by decide)) <|
    .trans (hadd _ _ _ (by decide)) <| .trans (hadd _ _ _ (by decide)) (hadd _ _ _ (by decide))
  exact ht.trans (.of_runs rfl rfl rfl rfl)

/-- What the amplitude of a conversion and the statistics write. -/
abbrev ampKeys (k : Nat) : List Keys := .one (Fd.AFE_CH_STAT_AMP k) :: statKeys

section Conversion

variable {k : Nat} (hk : k < 2) (x1 y1 : Int) (amp ph : Nat) (bad jump : Bool) (c : AfeCh) (s : State)
include hk

theorem ampShown_kept : AfeKept [k] (ampKeys k) s (ampShown k x1 y1 amp bad s) :=
  .trans (.updAch s hk _) <| .trans ((statTake_kept k x1 y1 _).mono (List.nil_subset _) (by simp)) <|
    .trans (.wr_of_mem _ _ _ (by simp)) (.updAch _ hk _)

theorem ampShown_ach : (ampShown k x1 y1 amp bad s).ach k = { s.ach k with conv := none, ampBad := bad } := by
  rw [ampShown, State.ach_updAch_self, State.ach_wr, (statTake_kept k x1 y1 _).ach k hk (by simp), State.ach_updAch_self]

theorem phaseTaken_kept : AfeKept [k] (faultKeys k) (ampShown k x1 y1 amp bad s) (phaseTaken k x1 y1 amp ph bad jump s) := by
  have h : ∀ (b : Bool) (i : Nat) (t : State), AfeKept [k] (faultKeys k) t (if b then afeFault k i t else t) := fun b i t =>
    .ite (fun _ => (afeFault_kept k i t).mono (List.nil_subset _) (List.Subset.refl _)) (fun _ => .refl t)
  unfold phaseTaken
  exact .trans (h bad 4 _) (.trans (h jump 5 _) (.updAch _ hk _))

theorem phaseTaken_ach : (phaseTaken k x1 y1 amp ph bad jump s).ach k =
    { s.ach k with conv := none, ampBad := bad, phase := ph, phaseOk := true } := by
  have h : ∀ (b : Bool) (i : Nat) (t : State), (if b then afeFault k i t else t).ach k = t.ach k := fun b i t => by
    split
    · exact (afeFault_kept k i t).ach k hk (by simp)
    · rfl
  simp only [phaseTaken, State.ach_updAch_self, h, ampShown_ach hk]

theorem phaseTaken_amp (h : amp < 65536) : (phaseTaken k x1 y1 amp ph bad jump s).rd (Fd.AFE_CH_STAT_AMP k) = amp := by
  rw [(phaseTaken_kept hk x1 y1 amp ph bad jump s).reads faultKeys Fd.AFE_CH_STAT_AMP hk, ampShown, State.rd_updAch]
  exact State.rd_wr_lt _ _ _ h

/-- An amplitude out of bounds is fault 4, which a phase step leaves latched. -/
theorem phaseTaken_latched : ((phaseTaken k x1 y1 amp ph true jump s).rd (faultFld k)).testBit 4 = true := by
  have h : ∀ t, ((afeFault k 4 t).rd (faultFld k)).testBit 4 = true := fun t => by
    simp [afeFault_testBit hk 4 (show 4 < 8 by decide)]
  simp only [phaseTaken, State.rd_updAch, if_true]
  split
  · exact afeFault_latched hk 5 (by decide) (h _)
  · exact h _

theorem periodMoved_kept : AfeKept [k] (moveKeys k) s (periodMoved k c ph s) :=
  .ite (fun _ => firstCell_kept hk s) (fun _ => .ite (fun _ => moveCell_kept hk 1 s) (fun _ =>
    .ite (fun _ => moveCell_kept hk (-1) s) (fun _ => .refl s)))

/-- The period index moves, and nothing else that a channel knows. -/
theorem periodMoved_ach : ∃ cell rev z, (periodMoved k c ph s).ach k = { s.ach k with cell := cell, rev := rev, sinceZ := z } := by
  unfold periodMoved
  split
  · unfold firstCell
    split
    · exact ⟨0, _, _, by rw [State.ach_wr, State.ach_updAch_self]⟩
    · exact ⟨_, _, _, rfl⟩
  · split
    · exact ⟨_, _, _, moveCell_ach hk 1 s⟩
    · split
      · exact ⟨_, _, _, moveCell_ach hk (-1) s⟩
      · exact ⟨_, _, _, rfl⟩

/-- What a measured phase writes. -/
abbrev phaseKeys (k : Nat) : List Keys := .one (Fd.AFE_CH_ERRCNT_ZMISS_CNT k) :: .one (Fd.AFE_CH_COUNT_CELL k) :: faultKeys k

variable (n tm : Nat)

theorem phaseMeasured_kept : AfeKept [k] (phaseKeys k) s (phaseMeasured k n tm ph c s) :=
  .trans ((periodMoved_kept hk ph c s).mono (List.Subset.refl _) (by simp)) <|
    .trans ((measure_kept hk _ _ _ _ _).mono (List.Subset.refl _) (by simp)) ((zMissing_kept k _).mono (List.nil_subset _) (by simp))

/-- The estimator gets one measurement with the strobe's stamp, which with ENk 0 is the measured angle. -/
theorem phaseMeasured_ach : ∃ th raw cell rev z, (phaseMeasured k n tm ph c s).ach k =
      ({ s.ach k with cell := cell, rev := rev, sinceZ := z } : AfeCh).measured raw th tm ((tm + 146) % 2 ^ 64) false ∧
    (s.afeRd (if k = 0 then Fd.AFE_TBL_CTRL_EN0 else Fd.AFE_TBL_CTRL_EN1) = 0 → th = raw) := by
  obtain ⟨cell, rev, z, e⟩ := periodMoved_ach hk ph c s
  refine ⟨_, phaseAngle k n ph (periodMoved k c ph s), cell, rev, z, ?_, fun h => correctedNow_of_off hk _ tm (periodMoved k c ph s) ?_⟩
  · rw [phaseMeasured, (zMissing_kept k _).ach k hk (by simp), measure_ach hk, e]
  · rw [tblEn_off hk moveKeys (periodMoved_kept hk ph c s), h]

theorem phaseMeasured_latched (h : (s.rd (faultFld k)).testBit 4 = true) :
    ((phaseMeasured k n tm ph c s).rd (faultFld k)).testBit 4 = true := by
  refine zMissing_latched hk (by decide) (measure_latched hk _ _ _ _ (by decide) ?_)
  rw [(periodMoved_kept hk ph c s).reads moveKeys faultFld hk, h]

end Conversion

/-- What ADC_CONVERSION_DONE leaves (R51, R52). -/
theorem adcDone_shows {k : Nat} (hk : k < 2) {s : State} {x y : Int} {tm : Nat} (h : (s.ach k).conv = some (x, y, tm)) :
    let u := adcDone k s
    let amp := ampOf (trimmedSin k s x) (trimmedCos k s x y)
    (u.ach k).conv = none ∧ (u.ach k).phaseOk = true ∧ u.rd (Fd.AFE_CH_STAT_AMP k) = amp ∧
    (amp < s.afeRd (Fd.AFE_CH_AMP_AMP_MIN k) ∨ s.afeRd (Fd.AFE_CH_AMP_AMP_MAX k) < amp → (u.rd (faultFld k)).testBit 4 = true) ∧
    (s.rd (Fd.AFE_CH_CPR_CPR k) = 0 → (u.ach k).meas = (s.ach k).meas) ∧
    (s.rd (Fd.AFE_CH_CPR_CPR k) ≠ 0 → s.afeRd (if k = 0 then Fd.AFE_TBL_CTRL_EN0 else Fd.AFE_TBL_CTRL_EN1) = 0 → ∃ th,
      (u.ach k).meas = (s.ach k).meas ++ [⟨th, th, tm, (tm + 146) % 2 ^ 64, (tm + 148) % 2 ^ 64, false⟩]) := by
  obtain ⟨x1, y1, jump, e⟩ := adcDone_of_some h
  intro u amp
  have ha : amp < 65536 := by
    have : amp ≤ 65535 := Nat.min_le_left _ _
    omega
  set ph := phaseOf (trimmedSin k s x) (trimmedCos k s x y)
  set s5 := phaseTaken k x1 y1 amp ph (ampOut k s amp) jump s with hs5
  have hach : s5.ach k = _ := phaseTaken_ach hk x1 y1 amp ph (ampOut k s amp) jump s
  have hamp : s5.rd (Fd.AFE_CH_STAT_AMP k) = amp := phaseTaken_amp hk x1 y1 amp ph (ampOut k s amp) jump s ha
  have hbad : amp < s.afeRd (Fd.AFE_CH_AMP_AMP_MIN k) ∨ s.afeRd (Fd.AFE_CH_AMP_AMP_MAX k) < amp →
      (s5.rd (faultFld k)).testBit 4 = true := fun hb => by
    rw [hs5, show ampOut k s amp = true by simpa [ampOut] using hb]
    exact phaseTaken_latched hk x1 y1 amp ph jump s
  have e' : u = if afeCpr s k = 0 then s5 else phaseMeasured k (afeCpr s k) tm ph (s.ach k) s5 := e
  by_cases hn : afeCpr s k = 0
  · rw [if_pos hn] at e'
    rw [e', hach]
    exact ⟨rfl, rfl, hamp, hbad, fun _ => rfl, fun h0 => absurd hn h0⟩
  · rw [if_neg hn] at e'
    obtain ⟨th, raw, cell, rev, z, hm, hen⟩ := phaseMeasured_ach hk ph (s.ach k) s5 (afeCpr s k) tm
    rw [e', hm, hach, (phaseMeasured_kept hk ph (s.ach k) s5 (afeCpr s k) tm).reads phaseKeys Fd.AFE_CH_STAT_AMP hk]
    refine ⟨rfl, rfl, hamp, fun hb => phaseMeasured_latched hk ph _ s5 _ tm (hbad hb), fun h0 => absurd h0 hn, fun _ h0 => ⟨raw, ?_⟩⟩
    have h5 := (ampShown_kept hk x1 y1 amp (ampOut k s amp) s)
    have h6 := phaseTaken_kept hk x1 y1 amp ph (ampOut k s amp) jump s
    have hth : th = raw := hen (by rw [tblEn_off hk faultKeys h6, tblEn_off hk ampKeys h5, h0])
    have h3 : ((tm + 146) % 2 ^ 64 + 2) % 2 ^ 64 = (tm + 148) % 2 ^ 64 := by omega
    show (s.ach k).meas ++ [(⟨raw, th, tm, _, ((tm + 146) % 2 ^ 64 + 2) % 2 ^ 64, false⟩ : Meas)] = _
    rw [h3, hth]

/-! ### The stop time-out and the snapshot of an estimate (R57, R59) -/

section Stop

variable {k : Nat} {s : State}

/-- STOP × 1,024 ticks have passed since the last motion. -/
theorem stopDue_iff : stopDue k s.now s = true ↔
    ((s.afeRd (Fd.AFE_CH_STOP_STOP k) * 1024 : Nat) : Int) ≤ diffS 64 s.now (s.ach k).lastEdge := decide_eq_true_iff

theorem stopTimeout_of_not_due (h : stopDue k s.now s = false) : stopTimeout k s = s := if_pos (.inr (.inl (by rw [h]; rfl)))

theorem stopTimeout_of_incremental (ht : s.rd (Fd.AFE_CH_CFG_TYPE k) = 1) (h : stopDue k s.now s = true) : stopTimeout k s =
    (s.set1 (Fd.AFE_CH_STAT_STOPPED k)).updAch k (fun c => { c with v := 0, a := 0, pubV := 0, pubA := 0 }) :=
  (if_neg (by simp [ht, h])).trans (if_pos ht)

theorem stopTimeout_of_sinCos (ht : s.rd (Fd.AFE_CH_CFG_TYPE k) = 2) (hd : s.afeRd (Fd.AFE_CH_DIRCFG_DIR_HYST k) ≠ 0)
    (h : stopDue k s.now s = true) : stopTimeout k s = s.set1 (Fd.AFE_CH_STAT_STOPPED k) :=
  (if_neg (by simp [ht, hd, h])).trans (if_neg (by simp [ht]))

end Stop

/-- AFE_CH_FINE: the fine angle of a channel. -/
def fineHit (k : Nat) : Hit :=
  ⟨⟨0x06000148, 64, [(0, 2, 256)], [⟨0, 40, .ro, .hw, fun _ => 0⟩]⟩, 0x06000148 + 256 * k, [k]⟩

theorem regFind_fine {k : Nat} (hk : k < 2) : regFind ((Fd.AFE_CH_FINE_FINE k).addr / 4 * 4) = some (fineHit k) := by
  obtain rfl | rfl : k = 0 ∨ k = 1 := by omega
  · rfl
  · rfl

theorem regRead_fine {k : Nat} (hk : k < 2) (master : Nat) (s : State) :
    regRead (fineHit k) (2 ^ 32 - 1) master s = ((s.ach k).pubP / 2 ^ 32 % 2 ^ 40, fineSnap k s) := by
  obtain rfl | rfl : k = 0 ∨ k = 1 := by omega
  · rfl
  · rfl

/-- A read of the low word of FINE returns the fine angle and captures the rest of its update. -/
theorem busRead_fine {k : Nat} (hk : k < 2) (master : Nat) (s : State) (hr : railsOff s = false) :
    (busRead (Fd.AFE_CH_FINE_FINE k).addr 4 master s).2 = (fineSnap k s).ret ((s.ach k).pubP / 2 ^ 32 % 2 ^ 32) := by
  have ha : (Fd.AFE_CH_FINE_FINE k).addr = 0x06000148 + 256 * k := rfl
  have hreg : regionOf (Fd.AFE_CH_FINE_FINE k).addr = .regs := regionOf_regs _ (by omega) (by omega)
  have h8 : (Fd.AFE_CH_FINE_FINE k).addr % 8 ≠ 4 := by omega
  have hc := regFault_of_regFind _ 4 s (fineHit k) hr (regFind_fine hk) (show 64 / 8 ≠ 0 by decide) (by omega) (.inl rfl)
  have hm : hitMask (fineHit k) (Fd.AFE_CH_FINE_FINE k).addr 4 = 2 ^ 32 - 1 := by
    obtain rfl | rfl : k = 0 ∨ k = 1 := by omega
    · rfl
    · rfl
  have hd : regDenied false (Fd.AFE_CH_FINE_FINE k).addr 0 master s = false := by
    have hlo : ¬0x06030400 ≤ (Fd.AFE_CH_FINE_FINE k).addr ∧ ¬0x06040400 ≤ (Fd.AFE_CH_FINE_FINE k).addr := by omega
    simp [regDenied, hlo]
  rw [busRead_of_regFind _ 4 master s (fineHit k) hreg hc (regFind_fine hk) h8 hd, hm, regRead_fine hk, if_pos rfl]
  congr 1
  omega

end Sys2Proof.Machine

/-! The estimate update of a channel, and what the update of both leaves (R54 to R58, R61, R403). -/

namespace Sys2Proof.Machine

set_option Elab.async false

open Sys2Proof

/-! ### Values held until the update (R54, R65) -/

/-- The values held until the next update tick are in force. -/
def dropHeld (s : State) : State := { s with afe := { s.afe with held := [] } }

theorem AfeKept.dropHeld {cs : List Nat} {ks : List Keys} {s t : State} (h : AfeKept cs ks s t) :
    AfeKept cs ks (dropHeld s) (dropHeld t) := ⟨h.ach, rfl, h.rd⟩

theorem afeRd_of_released {s : State} (h : s.afe.held = []) (f : Fld) : s.afeRd f = s.rd f := by
  rw [State.afeRd, h]
  rfl

/-! ### The table stage (R54) -/

/-- The bank exchange of channel k, requested and done. -/
abbrev pendFld (k : Nat) : Fld := if k = 0 then Fd.AFE_TBL_CTRL_PENDING0 else Fd.AFE_TBL_CTRL_PENDING1
abbrev actFld (k : Nat) : Fld := if k = 0 then Fd.AFE_TBL_CTRL_ACTIVE0 else Fd.AFE_TBL_CTRL_ACTIVE1

/-- What the table stage of a channel writes at an update tick. -/
abbrev tblKeys (k : Nat) : List Keys := .one (actFld k) :: .one (pendFld k) :: faultKeys k

theorem tblSwap_kept (k : Nat) (s : State) : AfeKept [] (tblKeys k) s (tblSwap k s) :=
  .ite (fun _ => .trans (.wr_of_mem s (actFld k) _ (by simp)) <| .trans (.wr_of_mem _ (pendFld k) 0 (by simp)) (irqEvent_offAfe 21 _).off)
    (fun _ => .refl s)

theorem reCorrect_kept {k : Nat} (hk : k < 2) (tu : Nat) (m : Meas) (s : State) : AfeKept [k] (faultKeys k) s (reCorrect k tu m s) :=
  .ite (fun _ => .refl s) (fun _ => .trans ((tblCorrect_kept k _ s).mono (List.nil_subset _) (List.Subset.refl _)) (.updAch _ hk _))

/-- A measurement that has entered the table stage stays as it is. -/
theorem reCorrect_of_entered (k tu : Nat) {m : Meas} (h : diffS 64 m.enter tu < 0) (s : State) : reCorrect k tu m s = s := if_pos h

/-- The measurements of channel k are corrected anew. -/
def tblAgain (k tu : Nat) (s : State) : State := forEach (s.ach k).meas s (fun m u => reCorrect k tu m u)

theorem tblAgain_kept {k : Nat} (hk : k < 2) (tu : Nat) (s : State) : AfeKept [k] (faultKeys k) s (tblAgain k tu s) :=
  .forEach _ (fun m t => reCorrect_kept hk tu m t) _ s

theorem tblAgain_of_entered (k tu : Nat) (s : State) (h : ∀ m ∈ (s.ach k).meas, diffS 64 m.enter tu < 0) : tblAgain k tu s = s :=
  foldl_keep _ _ s (fun m hm => reCorrect_of_entered k tu (h m hm) s)

/-- The table stage is its exchange and what the exchange or a write of ENk corrects anew. -/
theorem tblStep_cases (k tu : Nat) (s : State) : (tblStep k tu s = s ∧ s.rd (pendFld k) = 0) ∨
    ∃ t, dropHeld t = dropHeld (tblSwap k s) ∧ tblStep k tu s = tblAgain k tu t := by
  by_cases h : tblChanges k s = true
  · exact .inr ⟨{ tblSwap k s with afe := { (tblSwap k s).afe with
      held := mapDel (tblSwap k s).afe.held (if k = 0 then Fd.AFE_TBL_CTRL_EN0 else Fd.AFE_TBL_CTRL_EN1).key } }, rfl, if_pos h⟩
  · refine .inl ⟨if_neg h, ?_⟩
    simp only [tblChanges, Bool.or_eq_true, not_or] at h
    simpa [State.rdB] using h.1

section Table

variable {k : Nat} (hk : k < 2) (tu : Nat) (s : State)
include hk

/-- The table stage after its exchange, but for the values held. -/
theorem tblStep_of_tblSwap : AfeKept [k] (faultKeys k) (dropHeld (tblSwap k s)) (dropHeld (tblStep k tu s)) := by
  obtain ⟨e, h0⟩ | ⟨t, ht, e⟩ := tblStep_cases k tu s
  · rw [e, show tblSwap k s = s from if_neg (by simp [State.rdB, h0])]
    exact .refl _
  · rw [e, ← ht]
    exact (tblAgain_kept hk tu t).dropHeld

theorem tblStep_kept : AfeKept [k] (tblKeys k) (dropHeld s) (dropHeld (tblStep k tu s)) :=
  .trans ((tblSwap_kept k s).dropHeld.mono (List.nil_subset _) (List.Subset.refl _)) <|
    (tblStep_of_tblSwap hk tu s).mono (List.Subset.refl _) (by simp)

theorem tblStep_ach (h : ∀ m ∈ (s.ach k).meas, diffS 64 m.enter tu < 0) : (tblStep k tu s).ach k = s.ach k := by
  have hs : (tblSwap k s).ach k = s.ach k := (tblSwap_kept k s).ach k hk (by simp)
  obtain ⟨e, -⟩ | ⟨t, ht, e⟩ := tblStep_cases k tu s
  · rw [e]
  · have h1 : t.ach k = s.ach k := (congrArg (State.ach · k) ht).trans hs
    rw [e, tblAgain_of_entered k tu t (fun m hm => h m (by rw [← h1]; exact hm)), h1]

theorem tblStep_of_pending (h : s.rd (pendFld k) = 1) (ha : s.rd (actFld k) < 2) :
    (tblStep k tu s).rd (actFld k) = 1 - s.rd (actFld k) ∧ (tblStep k tu s).rd (pendFld k) = 0 := by
  have e : tblSwap k s = irqEvent 21 ((s.wr (actFld k) (1 - s.rd (actFld k))).clr (pendFld k)) := if_pos (by simp [State.rdB, h])
  have hw : (actFld k).w = 1 := by
    unfold actFld
    split <;> rfl
  have h1 : AfeKept [] [.one (pendFld k)] (s.wr (actFld k) (1 - s.rd (actFld k))) (tblSwap k s) := by
    rw [e]
    exact .trans (.wr_of_mem _ _ 0 (by simp)) (irqEvent_offAfe 21 _).off
  have h2 := tblStep_of_tblSwap hk tu s
  refine ⟨(h2.reads faultKeys actFld hk).trans <| (h1.reads (fun j => [.one (pendFld j)]) actFld hk).trans <|
    State.rd_wr_lt _ _ _ (by rw [hw]; omega), (h2.reads faultKeys pendFld hk).trans ?_⟩
  show (tblSwap k s).rd (pendFld k) = 0
  rw [e, (irqEvent_offAfe 21 _).reads (fun _ => []) pendFld hk, State.rd_clr]

theorem tblStep_of_not_pending (h : s.rd (pendFld k) = 0) : (tblStep k tu s).rd (actFld k) = s.rd (actFld k) := by
  refine ((tblStep_of_tblSwap hk tu s).reads faultKeys actFld hk).trans ?_
  rw [show tblSwap k s = s from if_neg (by simp [State.rdB, h])]
  rfl

end Table

/-! ### The measurement taken (R56, R58, R403) -/

/-- What a correction writes. -/
abbrev takeKeys (k : Nat) : List Keys := .one Fd.AFE_EST_STAT_RESID_SAT :: .one Fd.AFE_EST_STAT_ACC_SAT :: faultKeys k

theorem correctEst_kept {k : Nat} (hk : k < 2) (tu : Nat) (m : Meas) (e : Est) (s : State) :
    AfeKept [k] (takeKeys k) s (correctEst k tu m e s).2 := by
  unfold correctEst
  extract_lets c delta dm s0 back x r s1 rho v0 v a0 a
  have h0 : AfeKept [k] (takeKeys k) s s0 := .updAch s hk _
  have h1 : AfeKept [k] (takeKeys k) s s1 := by
    dsimp only [s1]
    split
    · exact h0
    · exact h0.trans (.wr_of_mem s0 _ 1 (by simp))
  split
  · exact h1.trans ((afeFault_kept k 5 s1).mono (List.nil_subset _) (by simp))
  · dsimp only
    split
    · exact h1
    · exact h1.trans (.wr_of_mem s1 _ 1 (by simp))

theorem correctEst_ach {k : Nat} (hk : k < 2) (tu : Nat) (m : Meas) (e : Est) (s : State) :
    (correctEst k tu m e s).2.ach k = { s.ach k with tLast := m.tm } := by
  unfold correctEst
  extract_lets c delta dm s0 back x r s1 rho v0 v a0 a
  have h0 : s0.ach k = { s.ach k with tLast := m.tm } := State.ach_updAch_self s k _
  have h1 : s1.ach k = s0.ach k := by
    dsimp only [s1]
    split
    · rfl
    · rfl
  refine Eq.trans ?_ (h1.trans h0)
  clear_value a a0 s1
  split
  · exact (afeFault_kept k 5 s1).ach k hk (by simp)
  · dsimp only
    split
    · rfl
    · exact State.ach_set1 s1 _ k

theorem takeMeas_kept {k : Nat} (hk : k < 2) (tu : Nat) (e : Est) (s : State) : AfeKept [k] (takeKeys k) s (takeMeas k tu e s).2 := by
  unfold takeMeas
  extract_lets c ready s1
  split
  · exact .refl s
  · have h1 : AfeKept [k] (takeKeys k) s s1 := .updAch s hk _
    split
    · dsimp only
      exact h1.trans (.updAch s1 hk _)
    · split
      · extract_lets e1 s2
        have h2 : AfeKept [k] (takeKeys k) s s2 := h1.trans (.updAch s1 hk _)
        split
        · exact h2
        · exact h2.trans (correctEst_kept hk tu _ _ s2)
      · exact h1.trans (correctEst_kept hk tu _ _ s1)

/-- What a channel knows beside its measurements stays as it is. -/
theorem takeMeas_ach {k : Nat} (hk : k < 2) (tu : Nat) (e : Est) (s : State) :
    ∃ l b z, (takeMeas k tu e s).2.ach k = { s.ach k with meas := l, restart := b, tLast := z } := by
  unfold takeMeas
  extract_lets c ready s1
  split
  · exact ⟨_, _, _, rfl⟩
  · have h1 : s1.ach k = _ := State.ach_updAch_self s k _
    split
    · exact ⟨_, _, _, by rw [State.ach_updAch_self, h1]⟩
    · split
      · extract_lets e1 s2
        have h2 : s2.ach k = _ := State.ach_updAch_self s1 k _
        split
        · exact ⟨_, _, _, by rw [h2, h1]⟩
        · exact ⟨_, _, _, by rw [correctEst_ach hk, h2, h1]⟩
      · exact ⟨_, _, _, by rw [correctEst_ach hk, h1]⟩

theorem takeMeas_of_none (k tu : Nat) (e : Est) (s : State) (h : (s.ach k).meas = []) : takeMeas k tu e s = (e, s) := by
  simp [takeMeas, h]

section One

variable {k tu : Nat} {e : Est} {s : State} {m : Meas} (hm : (s.ach k).meas = [m]) (hr : 0 ≤ diffS 64 tu m.ready)
include hm hr

/-- A restart takes P from the measurement, and keeps V and A (R403). -/
theorem takeMeas_of_restart (h : (s.ach k).restart = true) :
    (takeMeas k tu e s).1 = ⟨enc 72 ((m.theta * 2 ^ 32 : Nat) + diffS 64 tu m.tm * e.v), e.v, e.a, e.sat⟩ := by
  simp [takeMeas, hm, hr, h]

/-- At a reversal the estimate starts anew at the boundary (R58). -/
theorem takeMeas_of_reversal (h : (s.ach k).restart = false) (hv : m.rev = true) :
    (takeMeas k tu e s).1 = ⟨m.theta * 2 ^ 32, 0, 0, e.sat⟩ := by
  simp [takeMeas, hm, hr, h, hv]

/-- Any other measurement corrects the estimate (R56). -/
theorem takeMeas_of_correct (h : (s.ach k).restart = false) (hv : m.rev = false) :
    ∃ f : AfeCh → List Meas, takeMeas k tu e s = correctEst k tu m e (s.updAch k (fun c => { c with meas := f c })) :=
  ⟨fun c => c.meas.filter (fun m => decide (diffS 64 tu m.ready < 0)), by simp [takeMeas, hm, hr, h, hv]⟩

end One

/-- The residual of a measurement (R56). -/
def estResidual (tu : Nat) (m : Meas) (e : Est) : Int :=
  clampI (-2147483648) 2147483648 (rne (sx 72 (enc 72 ((m.theta * 2 ^ 32 : Nat) - ((e.p : Int) - diffS 64 tu m.tm * e.v)))) 32)

/-- The interval of a correction (R56). -/
def estInterval (c : AfeCh) (m : Meas) : Nat := (clampI 16 4294967295 (diffS 64 m.tm c.tLast)).toNat

theorem correctEst_of_beyond {k tu : Nat} {m : Meas} {e : Est} {s : State}
    (h : s.rd (Fd.AFE_CH_RESID_RESID_MAX k) * 256 < (estResidual tu m e).natAbs) : (correctEst k tu m e s).1 = e :=
  congrArg Prod.fst (if_pos h)

theorem correctEst_of_within {k tu : Nat} {m : Meas} {e : Est} {s : State}
    (h : (estResidual tu m e).natAbs ≤ s.rd (Fd.AFE_CH_RESID_RESID_MAX k) * 256) :
    let rho := rhoOf (estInterval (s.ach k) m) (s.rd (Fd.AFE_CH_TAU_TAU k))
    let r := estResidual tu m e
    let d := estInterval (s.ach k) m
    ∃ b, (correctEst k tu m e s).1 = ⟨enc 72 ((e.p : Int) + alphaOf rho * r), satI 48 (e.v + divRne (betaOf rho * r) (d : Int)),
      satI 41 (e.a + divRne (2 * gammaOf rho * r) ((d * d : Nat) : Int)), b⟩ :=
  ⟨_, congrArg Prod.fst (if_neg (Nat.not_lt.2 h))⟩

end Sys2Proof.Machine

/-! What an estimate update publishes of a channel, and how it stands at the end of the update of both (R55 to R58, R61 to R64). -/

namespace Sys2Proof.Machine

set_option Elab.async false

open Sys2Proof

/-! ### The silence bound and the stop (R57) -/

/-- The boundary ahead of a channel at `n` counts a revolution. -/
def boundAhead (c : AfeCh) (n : Nat) (e : Est) : Nat :=
  (c.rev * 2 ^ 64 + (if 0 < e.v then c.cell + 1 else c.cell) * scaleOf n) % 2 ^ 72

/-- The estimate has passed the boundary ahead. -/
def EstBeyond (c : AfeCh) (n : Nat) (e : Est) : Prop :=
  n ≠ 0 ∧ ((0 < e.v ∧ 0 < diffS 72 e.p (boundAhead c n e)) ∨ (e.v < 0 ∧ diffS 72 e.p (boundAhead c n e) < 0))

/-- The estimate held at the boundary ahead, and no faster than the silence since the last edge allows. -/
def estBounded (c : AfeCh) (n tu : Nat) (e : Est) : Est :=
  let lim := divRne (scaleOf n : Int) (max 1 (diffS 64 tu c.lastEdge))
  ⟨boundAhead c n e, if 0 < e.v then min e.v lim else max e.v (-lim), if (0 < e.v ∧ 0 < e.a) ∨ (e.v < 0 ∧ e.a < 0) then 0 else e.a, e.sat⟩

/-- The estimate of a channel that stands still. -/
def estStopped (e : Est) : Est := ⟨e.p, 0, 0, e.sat⟩

section Silence

variable {k tu : Nat} {e : Est} {s : State}

theorem silence_of_type (h : s.rd (Fd.AFE_CH_CFG_TYPE k) ≠ 1) : silence k tu e s = (e, s) := if_pos (.inl h)

theorem silence_of_within (h : ¬EstBeyond (s.ach k) (afeCpr s k) e) : silence k tu e s = (e, s) := by
  unfold silence
  split
  · rfl
  next hn => exact if_neg (fun hb => h ⟨fun h0 => hn (.inr (.inl h0)), hb⟩)

theorem silence_of_beyond (ht : s.rd (Fd.AFE_CH_CFG_TYPE k) = 1) (h : EstBeyond (s.ach k) (afeCpr s k) e) :
    silence k tu e s = (estBounded (s.ach k) (afeCpr s k) tu e, s.set1 (Fd.AFE_CH_STAT_SILENCE k)) := by
  obtain ⟨hn, hb⟩ := h
  have hv : e.v ≠ 0 := by omega
  exact (if_neg (by simp [ht, hn, hv])).trans (if_pos hb)

theorem silence_kept (k tu : Nat) (e : Est) (s : State) : AfeKept [] [.one (Fd.AFE_CH_STAT_SILENCE k)] s (silence k tu e s).2 := by
  by_cases ht : s.rd (Fd.AFE_CH_CFG_TYPE k) = 1
  · by_cases hb : EstBeyond (s.ach k) (afeCpr s k) e
    · rw [silence_of_beyond ht hb]
      exact .wr_of_mem s _ 1 (by simp)
    · rw [silence_of_within hb]
      exact .refl s
  · rw [silence_of_type ht]
    exact .refl s

theorem stopJudge_of_due (ht : s.rd (Fd.AFE_CH_CFG_TYPE k) = 1) (h : stopDue k tu s = true) :
    stopJudge k tu e s = (estStopped e, s.set1 (Fd.AFE_CH_STAT_STOPPED k)) := (if_neg (by simp [ht])).trans (if_pos ⟨ht, h⟩)

theorem stopJudge_of_moving (ht : s.rd (Fd.AFE_CH_CFG_TYPE k) = 1) (h : stopDue k tu s = false) : stopJudge k tu e s = (e, s) :=
  (if_neg (by simp [ht])).trans (if_neg (by simp [h]))

/-- Only an incremental channel's estimate is stopped. -/
theorem stopJudge_of_type (ht : s.rd (Fd.AFE_CH_CFG_TYPE k) ≠ 1) : (stopJudge k tu e s).1 = e := by
  unfold stopJudge
  split
  · dsimp only
    split
    · rfl
    · split
      · rfl
      · rfl
  · rw [if_neg (fun h => ht h.1)]

theorem stopJudge_kept {k : Nat} (hk : k < 2) (tu : Nat) (e : Est) (s : State) :
    AfeKept [k] [.one (Fd.AFE_CH_STAT_STOPPED k)] s (stopJudge k tu e s).2 := by
  unfold stopJudge
  split
  · dsimp only
    split
    · exact .trans (.updAch s hk _) (.wr_of_mem _ _ 0 (by simp))
    · split
      · exact .wr_of_mem s _ 1 (by simp)
      · exact .refl s
  · split
    · exact .wr_of_mem s _ 1 (by simp)
    · exact .refl s

theorem stopDue_of_kept {t : State} (hk : k < 2) (h : AfeKept [] [.one (Fd.AFE_CH_STAT_SILENCE k)] s t) : stopDue k tu t = stopDue k tu s := by
  obtain rfl | rfl : k = 0 ∨ k = 1 := by omega
  · simp only [stopDue, h.ach 0 hk (by simp), h.afeRd (Fd.AFE_CH_STOP_STOP 0) (by decide) (by decide)]
  · simp only [stopDue, h.ach 1 hk (by simp), h.afeRd (Fd.AFE_CH_STOP_STOP 1) (by decide) (by decide)]

theorem stopDue_of_released (h : s.afe.held = []) : stopDue k tu s = true ↔
    ((s.rd (Fd.AFE_CH_STOP_STOP k) * 1024 : Nat) : Int) ≤ diffS 64 tu (s.ach k).lastEdge := by
  rw [stopDue, afeRd_of_released h, decide_eq_true_iff]

end Silence

/-! ### The estimate published (R58, R61) -/

/-- The state in which what an estimate saturates, its direction and the conditions that hold have been noted. -/
def estNoted (k : Nat) (e : Est) (s : State) : State :=
  let s1 := if velWord e.v = rne e.v 24 ∧ e.sat = false then s else s.set1 Fd.AFE_EST_STAT_VEL_SAT
  let s2 := if satI 25 (rne e.a 16) = rne e.a 16 then s1 else s1.set1 Fd.AFE_EST_STAT_ACC_SAT
  condJudge k (velWord e.v) (dirJudge k (e.p / 2 ^ 32) s2)

/-- A new estimate of channel k is noted and published. -/
def estPut (k tu : Nat) (e : Est) (s : State) : State :=
  let s3 := estNoted k e s
  ((s3.wrB (Fd.AFE_CH_STAT_VALID k) (validNow s3 k)).updAch k (fun c =>
    { c with p := e.p, v := e.v, a := e.a, pubP := e.p, pubV := e.v, pubA := e.a, tU := tu, pubCell := c.cell })).wr
    (Fd.AFE_CH_FINE_FINE k) (e.p / 2 ^ 32)

/-- The estimate of an update and its state, from the measurement taken. -/
def estJudged (k tu : Nat) (r : Est × State) : Est × State :=
  stopJudge k tu (silence k tu r.1 r.2).1 (silence k tu r.1 r.2).2

/-- The estimate propagated and the measurement taken (R55, R56). -/
def estTaken (k tu : Nat) (s : State) : Est × State := takeMeas k tu (propagate ⟨(s.ach k).p, (s.ach k).v, (s.ach k).a, false⟩) s

theorem chUpdate_eq (k tu : Nat) (s : State) :
    chUpdate k tu s = estPut k tu (estJudged k tu (estTaken k tu s)).1 (estJudged k tu (estTaken k tu s)).2 := rfl

/-- What channel k shows of an estimate. -/
def EstShown (k tu : Nat) (e : Est) (u : State) : Prop :=
  (u.ach k).pubP = e.p ∧ (u.ach k).pubV = e.v ∧ (u.ach k).pubA = e.a ∧ (u.ach k).p = e.p ∧ (u.ach k).tU = tu ∧
  u.rd (Fd.AFE_CH_FINE_FINE k) = e.p / 2 ^ 32 % 2 ^ 40

theorem estPut_shown (k tu : Nat) (e : Est) (s : State) : EstShown k tu e (estPut k tu e s) := by
  refine ⟨?_, ?_, ?_, ?_, ?_, State.rd_wr _ _ _⟩
  all_goals
    unfold estPut
    rw [State.ach_wr, State.ach_updAch_self]

/-- What the judgement of an estimate and its publication write. -/
abbrev putKeys (k : Nat) : List Keys := .one (Fd.AFE_CH_FINE_FINE k) :: .one (Fd.AFE_CH_STAT_DIR k) :: .one Fd.AFE_EST_STAT_VEL_SAT ::
  .one Fd.AFE_EST_STAT_ACC_SAT :: faultKeys k

theorem dirJudge_kept {k : Nat} (hk : k < 2) (fine : Nat) (s : State) :
    AfeKept [k] [.one (Fd.AFE_CH_STAT_DIR k)] s (dirJudge k fine s) :=
  .ite (fun _ => .refl s) (fun _ => .ite (fun _ => .updAch s hk _) (fun _ =>
    .ite (fun _ => .trans (.updAch s hk _) (.wr_of_mem _ _ _ (by simp))) (fun _ => .refl s)))

theorem condJudge_kept (k : Nat) (vw : Int) (s : State) : AfeKept [] (faultKeys k) s (condJudge k vw s) :=
  .trans (.ite (fun _ => afeFault_kept k 2 s) (fun _ => .refl s)) <|
    .trans (.ite (fun _ => afeFault_kept k 4 _) (fun _ => .refl _)) (.ite (fun _ => afeFault_kept k 1 _) (fun _ => .refl _))

theorem State.rd_wrB (s : State) (f : Fld) (b : Bool) (h : 0 < f.w) : (s.wrB f b).rd f = b2n b := by
  cases b
  · exact State.rd_clr s f
  · exact State.rd_set1 s f h

section Put

variable {k : Nat} (hk : k < 2) (tu : Nat) (e : Est) (s : State)
include hk

theorem estNoted_kept : AfeKept [k] (putKeys k) s (estNoted k e s) :=
  .trans (.ite (fun _ => .refl s) (fun _ => .wr_of_mem s _ 1 (by simp))) <|
    .trans (.ite (fun _ => .refl _) (fun _ => .wr_of_mem _ _ 1 (by simp))) <|
      .trans ((dirJudge_kept hk _ _).mono (List.Subset.refl _) (by simp)) ((condJudge_kept k _ _).mono (List.nil_subset _) (by simp))

theorem estPut_kept : AfeKept [k] (putKeys k) s (estPut k tu e s) :=
  .trans (estNoted_kept hk e s) <| .trans (.wr_of_mem _ _ _ (by simp)) <| .trans (.updAch _ hk _) (.wr_of_mem _ _ _ (by simp))

/-- A channel of TYPE 0 is not VALID (R61). -/
theorem estPut_valid (h : s.rd (Fd.AFE_CH_CFG_TYPE k) = 0) : (estPut k tu e s).rd (Fd.AFE_CH_STAT_VALID k) = 0 := by
  have hv : validNow (estNoted k e s) k = false := by
    simp [validNow, (estNoted_kept hk e s).reads putKeys Fd.AFE_CH_CFG_TYPE hk, h]
  have h1 : AfeKept [] [.one (Fd.AFE_CH_FINE_FINE k)] _ (estPut k tu e s) := .wr_of_mem _ _ _ (by simp)
  rw [h1.reads (fun j => [.one (Fd.AFE_CH_FINE_FINE j)]) Fd.AFE_CH_STAT_VALID hk, State.rd_updAch]
  exact (State.rd_wrB _ _ _ Nat.one_pos).trans (by rw [hv]; rfl)

end Put

end Sys2Proof.Machine

/-! The estimate update of both channels (R54 to R64, R110, R403), and the samples of a channel. -/

namespace Sys2Proof.Machine

set_option Elab.async false

open Sys2Proof

/-! ### The update of a channel -/

/-- What the update of a channel writes. -/
abbrev updKeys (k : Nat) : List Keys :=
  .one (Fd.AFE_CH_STAT_SILENCE k) :: .one (Fd.AFE_CH_STAT_STOPPED k) :: .one Fd.AFE_EST_STAT_RESID_SAT :: putKeys k

theorem estJudged_kept {k : Nat} (hk : k < 2) (tu : Nat) (r : Est × State) :
    AfeKept [k] [.one (Fd.AFE_CH_STAT_SILENCE k), .one (Fd.AFE_CH_STAT_STOPPED k)] r.2 (estJudged k tu r).2 :=
  .trans ((silence_kept k tu r.1 r.2).mono (List.nil_subset _) (by simp)) ((stopJudge_kept hk tu _ _).mono (List.Subset.refl _) (by simp))

theorem chUpdate_kept {k : Nat} (hk : k < 2) (tu : Nat) (s : State) : AfeKept [k] (updKeys k) s (chUpdate k tu s) := by
  rw [chUpdate_eq]
  exact .trans ((takeMeas_kept hk tu _ s).mono (List.Subset.refl _) (by simp)) <|
    .trans ((estJudged_kept hk tu _).mono (List.Subset.refl _) (by simp)) ((estPut_kept hk tu _ _).mono (List.Subset.refl _) (by simp))

/-- What an update that has come to estimate `e` shows of an incremental channel, by the silence bound and the stop (R57). -/
def EstGoes (k tu : Nat) (c : AfeCh) (n : Nat) (still : Prop) (e : Est) (u : State) : Prop :=
  (¬still → ¬EstBeyond c n e → EstShown k tu e u) ∧
  (¬still → EstBeyond c n e → EstShown k tu (estBounded c n tu e) u ∧ u.rd (Fd.AFE_CH_STAT_SILENCE k) = 1) ∧
  (still → ¬EstBeyond c n e → EstShown k tu (estStopped e) u ∧ u.rd (Fd.AFE_CH_STAT_STOPPED k) = 1) ∧
  (still → EstBeyond c n e → EstShown k tu (estStopped (estBounded c n tu e)) u ∧ u.rd (Fd.AFE_CH_STAT_STOPPED k) = 1 ∧
    u.rd (Fd.AFE_CH_STAT_SILENCE k) = 1)

section Judged

variable {k : Nat} (hk : k < 2) (tu : Nat)
include hk

theorem estPut_silence (e : Est) (s : State) :
    (estPut k tu e s).rd (Fd.AFE_CH_STAT_SILENCE k) = s.rd (Fd.AFE_CH_STAT_SILENCE k) :=
  (estPut_kept hk tu e s).reads putKeys Fd.AFE_CH_STAT_SILENCE hk

theorem estPut_stopped (e : Est) (s : State) :
    (estPut k tu e s).rd (Fd.AFE_CH_STAT_STOPPED k) = s.rd (Fd.AFE_CH_STAT_STOPPED k) :=
  (estPut_kept hk tu e s).reads putKeys Fd.AFE_CH_STAT_STOPPED hk

/-- The stop follows on the silence bound, which leaves the type of the channel and its interval. -/
theorem estGoes_of_incremental (r : Est × State) (ht : r.2.rd (Fd.AFE_CH_CFG_TYPE k) = 1) :
    EstGoes k tu (r.2.ach k) (afeCpr r.2 k) (stopDue k tu r.2 = true) r.1
      (estPut k tu (estJudged k tu r).1 (estJudged k tu r).2) := by
  obtain ⟨e, s⟩ := r
  have hput := fun e' t => estPut_shown k tu e' t
  have hsil : AfeKept [] [.one (Fd.AFE_CH_STAT_SILENCE k)] s (s.set1 (Fd.AFE_CH_STAT_SILENCE k)) := .wr_of_mem s _ 1 (by simp)
  have ht' : (s.set1 (Fd.AFE_CH_STAT_SILENCE k)).rd (Fd.AFE_CH_CFG_TYPE k) = 1 :=
    (hsil.reads (fun j => [.one (Fd.AFE_CH_STAT_SILENCE j)]) Fd.AFE_CH_CFG_TYPE hk).trans ht
  have hdue : stopDue k tu (s.set1 (Fd.AFE_CH_STAT_SILENCE k)) = stopDue k tu s := stopDue_of_kept hk hsil
  have h1 := fun t => State.rd_set1 t (Fd.AFE_CH_STAT_STOPPED k) Nat.one_pos
  have h2 := State.rd_set1 s (Fd.AFE_CH_STAT_SILENCE k) Nat.one_pos
  have h3 : ∀ t : State, (t.set1 (Fd.AFE_CH_STAT_STOPPED k)).rd (Fd.AFE_CH_STAT_SILENCE k) = t.rd (Fd.AFE_CH_STAT_SILENCE k) := fun t =>
    (AfeKept.wr_of_mem (cs := []) (ks := [.one (Fd.AFE_CH_STAT_STOPPED k)]) t _ 1 (by simp)).reads
      (fun j => [.one (Fd.AFE_CH_STAT_STOPPED j)]) Fd.AFE_CH_STAT_SILENCE hk
  have hnot : ¬stopDue k tu s = true → stopDue k tu s = false := Bool.eq_false_iff.2
  refine ⟨fun hd hb => ?_, fun hd hb => ?_, fun hd hb => ?_, fun hd hb => ?_⟩
  · rw [estJudged, silence_of_within hb, stopJudge_of_moving ht (hnot hd)]
    exact hput e s
  · rw [estJudged, silence_of_beyond ht hb, stopJudge_of_moving ht' (hdue.trans (hnot hd)), estPut_silence hk]
    exact ⟨hput _ _, h2⟩
  · rw [estJudged, silence_of_within hb, stopJudge_of_due ht hd, estPut_stopped hk]
    exact ⟨hput _ _, h1 s⟩
  · rw [estJudged, silence_of_beyond ht hb, stopJudge_of_due ht' (hdue.trans hd), estPut_stopped hk, estPut_silence hk]
    exact ⟨hput _ _, h1 _, (h3 _).trans h2⟩

end Judged

/-- Where the channel is not incremental, neither applies. -/
theorem estJudged_of_type {k : Nat} (tu : Nat) (r : Est × State) (ht : r.2.rd (Fd.AFE_CH_CFG_TYPE k) ≠ 1) : (estJudged k tu r).1 = r.1 := by
  rw [estJudged, silence_of_type ht, stopJudge_of_type ht]

/-! ### The end of an update (R62 to R64, R110, R191, R351) -/

/-- What the end of an update writes of the front end. -/
abbrev tailKeys : List Keys := [.one Fd.AFE_CTRL_SRC, .one Fd.AFE_PLAUS_DIFF_DIFF, .one Fd.AFE_PLAUS_STAT_ANG_VIOL,
  .one Fd.AFE_PLAUS_STAT_VEL_VIOL, .one Fd.AFE_PLAUS_STAT_DIR_VIOL, .one Fd.AFE_PLAUS_STAT_VCOUNT, .one Fd.AFE_FAULT_PLAUS_ANG,
  .one Fd.AFE_FAULT_PLAUS_VEL, .one Fd.AFE_FAULT_PLAUS_DIR]

/-- What follows on the updates of the two channels. -/
def updateEnds (s : State) : State :=
  let s2 := speedCheck (srcMove (plausJudge s))
  let s3 := { s2 with nib := { s2.nib with examined := [], horizon := s2.rd Fd.NIB_HORIZON_H } }
  let s4 := if engValid s3 then s3 else retractInvalid s3
  estPublish (crossingStep (s4.wr Fd.NIB_REACH_REACH (reachOf s4)))

theorem estimateUpdate_eq (s : State) : estimateUpdate s =
    updateEnds (chUpdate 1 s.now (chUpdate 0 s.now (dropHeld (tblStep 1 s.now (tblStep 0 s.now s))))) := by
  unfold estimateUpdate updateEnds dropHeld
  rfl

theorem plausJudge_kept (s : State) : AfeKept [] tailKeys s (plausJudge s) := by
  have hset : ∀ (b : Bool) (f : Fld) (t : State), Keys.one f ∈ tailKeys → AfeKept [] tailKeys t (when_ b (fun u => u.set1 f) t) :=
    fun b f t h => .ite (fun _ => .wr_of_mem t f 1 h) (fun _ => .refl t)
  unfold plausJudge
  refine .ite (fun _ => .refl s) (fun _ => ?_)
  extract_lets d v0 v1 win va vv vd any n cnt s1 s2 s3 s4 s5
  have hw : ∀ (f : Fld) (x : Nat) (t : State), Keys.one f ∈ tailKeys → AfeKept [] tailKeys t (t.wr f x) := fun f x t h => .wr_of_mem t f x h
  have h2 : AfeKept [] tailKeys s s2 := .trans (hw Fd.AFE_PLAUS_DIFF_DIFF _ s (by decide)) <|
    .trans (hw Fd.AFE_PLAUS_STAT_ANG_VIOL _ _ (by decide)) <| .trans (hw Fd.AFE_PLAUS_STAT_VEL_VIOL _ _ (by decide)) <|
      .trans (hw Fd.AFE_PLAUS_STAT_DIR_VIOL _ _ (by decide)) (hw Fd.AFE_PLAUS_STAT_VCOUNT _ _ (by decide))
  have h5 : AfeKept [] tailKeys s2 s5 := .trans (hset va _ s2 (by decide)) <| .trans (hset vv _ s3 (by decide)) (hset vd _ s4 (by decide))
  exact h2.trans (.ite (fun _ => h5.trans <| .trans (irqEvent_offAfe 18 s5).off (safRaise_offAfe 2 _).off) (fun _ => .refl s2))

theorem srcMove_kept (s : State) : AfeKept [] tailKeys s (srcMove s) := by
  unfold srcMove setSrc
  refine .ite (fun _ => ?_) (fun _ => .refl s)
  extract_lets _ s1
  have h1 : AfeKept [] tailKeys s s1 := .of_runs rfl rfl rfl rfl
  exact .ite (fun _ => h1.trans (.ite (fun _ => .refl s1) (fun _ => .trans (.wr_of_mem s1 Fd.AFE_CTRL_SRC 1 (by decide)) <|
    .trans (.wr _ Fd.NIB_STAT_SRC_CHANGED 1) (irqEvent_offAfe 177 _).off))) (fun _ => h1)

theorem speedCheck_offAfe (s : State) : OffAfe s (speedCheck s) := by
  unfold speedCheck
  refine .ite (fun _ => ?_) (fun _ => .refl s)
  extract_lets ovr n _ s1
  have h1 : OffAfe s s1 := .of_runs rfl rfl rfl rfl
  exact .ite (fun _ => h1.trans (safRaise_offAfe 40 s1)) (fun _ => h1)

theorem updateEnds_kept (s : State) : AfeKept [] tailKeys s (updateEnds s) := by
  unfold updateEnds
  extract_lets s2 _ s3 s4
  have h2 : AfeKept [] tailKeys s s2 := .trans (plausJudge_kept s) <| .trans (srcMove_kept _) (speedCheck_offAfe _).off
  have h4 : OffAfe s2 s4 := .trans (t := s3) (.of_regs rfl rfl) (.ite (fun _ => .refl s3) (fun _ => retractInvalid_offAfe s3))
  have h5 : OffAfe s4 (crossingStep (s4.wr Fd.NIB_REACH_REACH (reachOf s4))) := .trans (.wr s4 _ _) (crossingStep_offAfe _)
  exact h2.trans <| h4.off.trans <| h5.off.trans (.ite (fun _ => .of_regs rfl rfl) (fun _ => .refl _))

theorem updateEnds_examined (s : State) : (updateEnds s).nib.examined = [] := by
  unfold updateEnds
  extract_lets s2 _ s3 s4
  have h4 : s4.nib.examined = [] := by
    dsimp only [s4]
    split
    · rfl
    · exact retractInvalid_examined s3
  have he : ∀ t, (estPublish t).nib.examined = t.nib.examined := fun t => by
    unfold estPublish
    split
    · rfl
    · rfl
  exact (he _).trans ((crossingStep_examined _).trans h4)

/-! ### The update of both channels -/

/-- An operation on each of the two channels, seen from one of them: the other's goes before or after it. -/
theorem AfeKept.both {ks : Nat → List Keys} (f : Nat → State → State) (g : State → State)
    (hf : ∀ j < 2, ∀ s, AfeKept [j] (ks j) (g s) (g (f j s))) {k : Nat} (hk : k < 2) (s : State) :
    ∃ t, AfeKept [1 - k] (ks (1 - k)) (g s) (g t) ∧ AfeKept [1 - k] (ks (1 - k)) (g (f k t)) (g (f 1 (f 0 s))) := by
  obtain rfl | rfl : k = 0 ∨ k = 1 := by omega
  · exact ⟨s, .refl _, hf 1 (by omega) _⟩
  · exact ⟨f 0 s, hf 0 (by omega) s, .refl _⟩

/-- What an estimate update writes beside what it writes for channel k. -/
abbrev endKeys (k : Nat) : List Keys := tblKeys (1 - k) ++ (updKeys (1 - k) ++ tailKeys)

/-- `t` is the state from which an estimate update of `s` updates channel k. -/
structure UpdatesFrom (k : Nat) (s t : State) : Prop where
  held : t.afe.held = []
  kept : AfeKept [k, 1 - k] (tblKeys k ++ endKeys k) (dropHeld s) t
  ach : (∀ m ∈ (s.ach k).meas, diffS 64 m.enter s.now < 0) → t.ach k = s.ach k
  swapped : s.rd (pendFld k) = 1 → s.rd (actFld k) < 2 → t.rd (actFld k) = 1 - s.rd (actFld k) ∧ t.rd (pendFld k) = 0
  unswapped : s.rd (pendFld k) = 0 → t.rd (actFld k) = s.rd (actFld k)
  ends : AfeKept [1 - k] (endKeys k) (chUpdate k s.now t) (estimateUpdate s)

theorem exists_updatesFrom {k : Nat} (hk : k < 2) (s : State) : ∃ t, UpdatesFrom k s t := by
  obtain ⟨t1, ha, hb⟩ := AfeKept.both (fun j => tblStep j s.now) dropHeld (fun j hj u => tblStep_kept hj s.now u) hk s
  obtain ⟨t2, hc, hd⟩ := AfeKept.both (fun j => chUpdate j s.now) id (fun j hj u => chUpdate_kept hj s.now u) hk
    (dropHeld (tblStep 1 s.now (tblStep 0 s.now s)))
  have hne : k ∉ [1 - k] := by
    rw [List.mem_singleton]
    omega
  have hach1 : t1.ach k = s.ach k := ha.ach k hk hne
  have hbc : AfeKept [1 - k] (tblKeys (1 - k) ++ updKeys (1 - k)) (dropHeld (tblStep k s.now t1)) t2 :=
    .trans (hb.mono (List.Subset.refl _) (List.subset_append_left _ _)) (hc.mono (List.Subset.refl _) (List.subset_append_right _ _))
  have hpend : t1.rd (pendFld k) = s.rd (pendFld k) := ha.reads (fun j => tblKeys (1 - j)) pendFld hk
  have hact : t1.rd (actFld k) = s.rd (actFld k) := ha.reads (fun j => tblKeys (1 - j)) actFld hk
  have hact2 : t2.rd (actFld k) = (tblStep k s.now t1).rd (actFld k) :=
    hbc.reads (fun j => tblKeys (1 - j) ++ updKeys (1 - j)) actFld hk
  have hpend2 : t2.rd (pendFld k) = (tblStep k s.now t1).rd (pendFld k) :=
    hbc.reads (fun j => tblKeys (1 - j) ++ updKeys (1 - j)) pendFld hk
  refine ⟨t2, hbc.held, ?_, fun h => ?_, fun hp hq => ?_, fun hp => ?_, ?_⟩
  · have hi : tblKeys (1 - k) ++ updKeys (1 - k) ⊆ tblKeys k ++ endKeys k := fun x hx => by
      simp only [endKeys, List.mem_append] at hx ⊢
      tauto
    have hj : [1 - k] ⊆ [k, 1 - k] := List.subset_cons_self k _
    exact .trans (ha.mono hj (List.Subset.trans (List.subset_append_left _ _) hi)) <|
      .trans ((tblStep_kept hk s.now t1).mono (by simp) (List.subset_append_left _ _)) (hbc.mono hj hi)
  · exact (hbc.ach k hk hne).trans ((tblStep_ach hk s.now t1 (by rwa [hach1])).trans hach1)
  · obtain ⟨e1, e2⟩ := tblStep_of_pending hk s.now t1 (hpend.trans hp) (by rwa [hact])
    exact ⟨by rw [hact2, e1, hact], by rw [hpend2, e2]⟩
  · rw [hact2, tblStep_of_not_pending hk s.now t1 (hpend.trans hp), hact]
  · rw [estimateUpdate_eq]
    exact .trans (hd.mono (List.Subset.refl _) (fun x hx => List.mem_append_right _ (List.mem_append_left _ hx)))
      ((updateEnds_kept _).mono (List.nil_subset _) (fun x hx => List.mem_append_right _ (List.mem_append_right _ hx)))

end Sys2Proof.Machine

/-! What an estimate update of both channels shows of one of them, and the obligation on samples and estimates. -/

namespace Sys2Proof.Machine

set_option Elab.async false

open Sys2Proof

namespace UpdatesFrom

variable {k : Nat} {s t : State} (h : UpdatesFrom k s t) (hk : k < 2)
include h

/-- What reads the same where the channel's own update starts. -/
theorem reads (F : Nat → Fld) (hk : k < 2)
    (hF : ∀ j < 2, (F j).key < afeEnd ∧ (tblKeys j ++ endKeys j).any (·.has (F j).key) = false := by decide) :
    t.rd (F k) = s.rd (F k) := h.kept.reads (fun j => tblKeys j ++ endKeys j) F hk hF

/-- What the channel's own update leaves stands at the end of the update of both. -/
theorem ends_reads (F : Nat → Fld) (hk : k < 2)
    (hF : ∀ j < 2, (F j).key < afeEnd ∧ (endKeys j).any (·.has (F j).key) = false := by decide) :
    (estimateUpdate s).rd (F k) = (chUpdate k s.now t).rd (F k) := h.ends.reads endKeys F hk hF

include hk

theorem ends_ach : (estimateUpdate s).ach k = (chUpdate k s.now t).ach k := h.ends.ach k hk (by rw [List.mem_singleton]; omega)

theorem shown {e : Est} (hs : EstShown k s.now e (chUpdate k s.now t)) : EstShown k s.now e (estimateUpdate s) := by
  unfold EstShown at hs ⊢
  rw [h.ends_ach hk, h.ends_reads Fd.AFE_CH_FINE_FINE hk]
  exact hs

/-- The type, the counts, the interval and the edges that the silence bound and the stop read. -/
theorem taken (ha : t.ach k = s.ach k) : (estTaken k s.now t).2.rd (Fd.AFE_CH_CFG_TYPE k) = s.rd (Fd.AFE_CH_CFG_TYPE k) ∧
    afeCpr (estTaken k s.now t).2 k = s.rd (Fd.AFE_CH_CPR_CPR k) ∧
    (stopDue k s.now (estTaken k s.now t).2 = true ↔
      ((s.rd (Fd.AFE_CH_STOP_STOP k) * 1024 : Nat) : Int) ≤ diffS 64 s.now (s.ach k).lastEdge) ∧
    ∃ l b z, (estTaken k s.now t).2.ach k = { s.ach k with meas := l, restart := b, tLast := z } := by
  have hkept := takeMeas_kept hk s.now (propagate ⟨(t.ach k).p, (t.ach k).v, (t.ach k).a, false⟩) t
  have hheld : (estTaken k s.now t).2.afe.held = [] := hkept.held.trans h.held
  obtain ⟨l, b, z, e⟩ : ∃ l b z, (estTaken k s.now t).2.ach k = { t.ach k with meas := l, restart := b, tLast := z } := takeMeas_ach hk _ _ _
  rw [ha] at e
  refine ⟨(hkept.reads takeKeys Fd.AFE_CH_CFG_TYPE hk).trans (h.reads Fd.AFE_CH_CFG_TYPE hk),
    (hkept.reads takeKeys Fd.AFE_CH_CPR_CPR hk).trans (h.reads Fd.AFE_CH_CPR_CPR hk), ?_, l, b, z, e⟩
  rw [stopDue_of_released hheld, e, show (estTaken k s.now t).2.rd (Fd.AFE_CH_STOP_STOP k) = s.rd (Fd.AFE_CH_STOP_STOP k) from
    (hkept.reads takeKeys Fd.AFE_CH_STOP_STOP hk).trans (h.reads Fd.AFE_CH_STOP_STOP hk)]

theorem incremental (ha : t.ach k = s.ach k) (ht : s.rd (Fd.AFE_CH_CFG_TYPE k) = 1) :
    EstGoes k s.now (s.ach k) (s.rd (Fd.AFE_CH_CPR_CPR k))
      (((s.rd (Fd.AFE_CH_STOP_STOP k) * 1024 : Nat) : Int) ≤ diffS 64 s.now (s.ach k).lastEdge) (estTaken k s.now t).1 (estimateUpdate s) := by
  obtain ⟨h1, h2, h3, l, b, z, h4⟩ := h.taken hk ha
  have hg := estGoes_of_incremental hk s.now (estTaken k s.now t) (h1.trans ht)
  rw [h2, h4, h3, ← chUpdate_eq] at hg
  obtain ⟨g1, g2, g3, g4⟩ := hg
  have hsil := h.ends_reads Fd.AFE_CH_STAT_SILENCE hk
  have hstop := h.ends_reads Fd.AFE_CH_STAT_STOPPED hk
  refine ⟨fun hs hb => h.shown hk (g1 hs hb), fun hs hb => ?_, fun hs hb => ?_, fun hs hb => ?_⟩
  · obtain ⟨a1, a2⟩ := g2 hs hb
    exact ⟨h.shown hk a1, hsil.trans a2⟩
  · obtain ⟨a1, a2⟩ := g3 hs hb
    exact ⟨h.shown hk a1, hstop.trans a2⟩
  · obtain ⟨a1, a2, a3⟩ := g4 hs hb
    exact ⟨h.shown hk a1, hstop.trans a2, hsil.trans a3⟩

theorem sinCos (ha : t.ach k = s.ach k) (ht : s.rd (Fd.AFE_CH_CFG_TYPE k) = 2) :
    EstShown k s.now (estTaken k s.now t).1 (estimateUpdate s) := by
  obtain ⟨h1, -⟩ := h.taken hk ha
  refine h.shown hk ?_
  rw [← estJudged_of_type s.now (estTaken k s.now t) (by rw [h1, ht]; decide), chUpdate_eq]
  exact estPut_shown k s.now _ _

/-- A channel of TYPE 0 is not VALID after an update (R61). -/
theorem valid (ht : s.rd (Fd.AFE_CH_CFG_TYPE k) = 0) : (estimateUpdate s).rd (Fd.AFE_CH_STAT_VALID k) = 0 := by
  have h1 : (estJudged k s.now (estTaken k s.now t)).2.rd (Fd.AFE_CH_CFG_TYPE k) = 0 := by
    rw [(estJudged_kept hk s.now _).reads (fun j => [.one (Fd.AFE_CH_STAT_SILENCE j), .one (Fd.AFE_CH_STAT_STOPPED j)]) Fd.AFE_CH_CFG_TYPE hk]
    exact ((takeMeas_kept hk s.now _ t).reads takeKeys Fd.AFE_CH_CFG_TYPE hk).trans ((h.reads Fd.AFE_CH_CFG_TYPE hk).trans ht)
  rw [h.ends_reads Fd.AFE_CH_STAT_VALID hk, chUpdate_eq, estPut_valid hk _ _ _ h1]

/-- An exchange of table banks stands at the end of the update (R54). -/
theorem banks : (estimateUpdate s).rd (actFld k) = t.rd (actFld k) ∧ (estimateUpdate s).rd (pendFld k) = t.rd (pendFld k) :=
  ⟨(h.ends_reads actFld hk).trans ((chUpdate_kept hk s.now t).reads updKeys actFld hk),
    (h.ends_reads pendFld hk).trans ((chUpdate_kept hk s.now t).reads updKeys pendFld hk)⟩

end UpdatesFrom

/-! ### The estimate that an update comes to -/

/-- The estimate of a channel propagated over 16 ticks (R55). -/
def estNext (c : AfeCh) : Est := propagate ⟨c.p, c.v, c.a, false⟩

theorem estTaken_of_none {k tu : Nat} {t : State} (h : (t.ach k).meas = []) : (estTaken k tu t).1 = estNext (t.ach k) := by
  rw [estTaken, takeMeas_of_none k tu _ t h]
  rfl

section Within

variable {k tu : Nat} {t : State} {m : Meas} (hm : (t.ach k).meas = [m]) (hr : 0 ≤ diffS 64 tu m.ready)
  (hs : (t.ach k).restart = false) (hv : m.rev = false)
include hm hr hs hv

theorem estTaken_of_beyond (h : t.rd (Fd.AFE_CH_RESID_RESID_MAX k) * 256 < (estResidual tu m (estNext (t.ach k))).natAbs) :
    (estTaken k tu t).1 = estNext (t.ach k) := by
  obtain ⟨f, e⟩ := takeMeas_of_correct (e := estNext (t.ach k)) hm hr hs hv
  exact (congrArg Prod.fst e).trans (correctEst_of_beyond (by rwa [State.rd_updAch]))

theorem estTaken_of_within (h : (estResidual tu m (estNext (t.ach k))).natAbs ≤ t.rd (Fd.AFE_CH_RESID_RESID_MAX k) * 256) :
    let d := estInterval (t.ach k) m
    let rho := rhoOf d (t.rd (Fd.AFE_CH_TAU_TAU k))
    let e := estNext (t.ach k)
    let r := estResidual tu m e
    ∃ b, (estTaken k tu t).1 = ⟨enc 72 ((e.p : Int) + alphaOf rho * r), satI 48 (e.v + divRne (betaOf rho * r) (d : Int)),
      satI 41 (e.a + divRne (2 * gammaOf rho * r) ((d * d : Nat) : Int)), b⟩ := by
  intro d rho e r
  obtain ⟨f, ef⟩ := takeMeas_of_correct (e := e) hm hr hs hv
  obtain ⟨b, eb⟩ := correctEst_of_within (s := t.updAch k (fun c => { c with meas := f c })) (by rwa [State.rd_updAch])
  rw [State.rd_updAch, State.ach_updAch_self] at eb
  exact ⟨b, (congrArg Prod.fst ef).trans eb⟩

end Within

/-! ### The obligation -/

/-- Settles O22: a sample and a conversion are followed through their faults and their measurement; the update of both channels is seen
from one of them (`UpdatesFrom`), whose estimate is propagated, meets its measurement, and goes through the silence bound and the stop. -/
theorem samplesAndEstimates : Obligations.SamplesAndEstimates := by
  intro s k sn cs tau master x y m he hk c fault clip en pend act x2 y2 y3 amp
  have hsample : exec (.adcSample k sn cs) s = .next (finish (adcSample k sn cs s)) := engRun_of_engOn (adcSample k sn cs) s he
  have hdone : exec (.adcConversionDone k) s = .next (finish (adcDone k s)) := engRun_of_engOn (adcDone k) s he
  have hupd : exec .estimateUpdate s = .next (finish (estimateUpdate s)) := engRun_of_engOn estimateUpdate s he
  have hstop : exec (.stopTimeout k) s = .next (finish (stopTimeout k s)) := engRun_of_engOn (stopTimeout k) s he
  have hread : exec (.fineSnapshot k master) s = busRun master (fun u => (busRead (Fd.AFE_CH_FINE_FINE k).addr 4 master u).2) s := rfl
  obtain ⟨t, hU⟩ := exists_updatesFrom hk s
  refine ⟨fun h => hsample.trans (by rw [adcSample_of_off k sn cs s h]), fun ht hr => ?sample, fun h => hdone.trans (by rw [adcDone_of_none k s h]),
    fun h => ⟨_, hdone, adcDone_shows hk h⟩, ?update, fun ht hd => ?stopIncremental, fun ht hd hh => ?stopSinCos, fun hd => ?running,
    fun hs hm => hread.trans (busRun_of_unserved master _ s hs hm), fun hs hm hr => ?snapshot⟩
  case sample =>
    obtain ⟨hclip, hclear⟩ := adcSample_of_on k sn cs s ht hr
    refine ⟨_, hsample, ?_⟩
    by_cases hc : fullScale (sx 16 sn) ∨ fullScale (sx 16 cs)
    · rw [hclip hc, (afeFault_kept k 6 _).ach k hk (by simp), State.ach_updAch_self]
      exact ⟨rfl, fun _ => afeFault_shows hk (by decide) (by decide) _, fun h1 h2 => absurd hc (not_or.2 ⟨h1, h2⟩)⟩
    · obtain ⟨h1, h2⟩ := not_or.1 hc
      rw [hclear h1 h2, State.ach_updAch_self]
      exact ⟨rfl, fun h => absurd h hc, fun _ _ => State.regs_updAch s k _⟩
  case update =>
    intro e0 e1 dm r rho e2 shows publishes n still bnd beyond lim bound goes due
    have hpub : ∀ e, EstShown k s.now e (estimateUpdate s) → publishes e := fun e ⟨h1, h2, h3, h4, h5, h6⟩ =>
      ⟨_, hupd, h1, h2, h3, h4, h5, h6, trivial⟩
    have hshow : ∀ e more, EstShown k s.now e (estimateUpdate s) → more (estimateUpdate s) → shows e more :=
      fun e more ⟨h1, h2, h3, h4, h5, h6⟩ hm => ⟨_, hupd, h1, h2, h3, h4, h5, h6, hm⟩
    have hgoes : ∀ e, EstGoes k s.now c n still e (estimateUpdate s) → goes e := fun e ⟨g1, g2, g3, g4⟩ =>
      ⟨fun h1 h2 => hpub e (g1 h1 h2), fun h1 h2 => hshow _ _ (g2 h1 h2).1 (g2 h1 h2).2,
        fun h1 h2 => hshow _ _ (g3 h1 h2).1 (g3 h1 h2).2, fun h1 h2 => hshow _ _ (g4 h1 h2).1 (g4 h1 h2).2⟩
    have hnone : c.meas = [] → t.ach k = c := fun h0 => hU.ach (fun m' hm' => by
      rw [show (s.ach k).meas = [] from h0] at hm'
      cases hm')
    have hone : c.meas = [m] → due → t.ach k = c := fun h0 hd => hU.ach (fun m' hm' => by
      rw [show (s.ach k).meas = [m] from h0, List.mem_singleton] at hm'
      rw [hm']
      exact hd.2)
    have hres : t.rd (Fd.AFE_CH_RESID_RESID_MAX k) = s.rd (Fd.AFE_CH_RESID_RESID_MAX k) := hU.reads Fd.AFE_CH_RESID_RESID_MAX hk
    have htau : t.rd (Fd.AFE_CH_TAU_TAU k) = s.rd (Fd.AFE_CH_TAU_TAU k) := hU.reads Fd.AFE_CH_TAU_TAU hk
    have hfree : c.meas = [] → (estTaken k s.now t).1 = estNext c := fun h0 => by
      rw [estTaken_of_none (by rw [hnone h0]; exact h0), hnone h0]
    have hrestart : c.meas = [m] → due → c.restart = true → ∃ b, (estTaken k s.now t).1 = ⟨e1.p, e1.v, e1.a, b⟩ := fun h0 hd hr => by
      have ha := hone h0 hd
      refine ⟨(estNext c).sat, (takeMeas_of_restart (by rw [ha]; exact h0) hd.1 (by rw [ha]; exact hr)).trans ?_⟩
      rw [ha]
      rfl
    have hwithin : c.meas = [m] → due → c.restart = false → m.rev = false → r.natAbs ≤ s.rd (Fd.AFE_CH_RESID_RESID_MAX k) * 256 →
        ∃ b, (estTaken k s.now t).1 = ⟨e2.p, e2.v, e2.a, b⟩ := fun h0 hd hr hv hw => by
      have ha := hone h0 hd
      obtain ⟨b, e⟩ := estTaken_of_within (tu := s.now) (by rw [ha]; exact h0) hd.1 (by rw [ha]; exact hr) hv (by rw [ha, hres]; exact hw)
      rw [ha, htau] at e
      exact ⟨b, e⟩
    refine ⟨fun ht => ⟨fun h0 => ?_, fun h0 hd hr => ?_, fun h0 hd hr hv hw => ?_, fun h0 hd hr hv => ?_⟩, fun ht h0 => ?_,
      fun ht h0 hd hr => ?_, fun ht h0 hd hr hv => ⟨fun hw => ?_, fun hw => ?_⟩, ?_⟩
    · have hg := hU.incremental hk (hnone h0) ht
      rw [hfree h0] at hg
      exact hgoes _ hg
    · have hg := hU.incremental hk (hone h0 hd) ht
      obtain ⟨b, e⟩ := hrestart h0 hd hr
      rw [e] at hg
      exact hgoes _ hg
    · have hg := hU.incremental hk (hone h0 hd) ht
      obtain ⟨b, e⟩ := hwithin h0 hd hr hv hw
      rw [e] at hg
      exact hgoes _ hg
    · have ha := hone h0 hd
      have hg := hU.incremental hk ha ht
      rw [estTaken, takeMeas_of_reversal (by rw [ha]; exact h0) hd.1 (by rw [ha]; exact hr) hv] at hg
      exact hgoes _ hg
    · have hg := hU.sinCos hk (hnone h0) ht
      rw [hfree h0] at hg
      exact hpub _ hg
    · have hg := hU.sinCos hk (hone h0 hd) ht
      obtain ⟨b, e⟩ := hrestart h0 hd hr
      rw [e] at hg
      exact hpub _ hg
    · have hg := hU.sinCos hk (hone h0 hd) ht
      obtain ⟨b, e⟩ := hwithin h0 hd hr hv hw
      rw [e] at hg
      exact hpub _ hg
    · have ha := hone h0 hd
      have hg := hU.sinCos hk ha ht
      rw [estTaken_of_beyond (tu := s.now) (by rw [ha]; exact h0) hd.1 (by rw [ha]; exact hr) hv (by rw [ha, hres]; exact hw), ha] at hg
      exact hpub _ hg
    · obtain ⟨ba, bp⟩ := hU.banks hk
      refine ⟨_, hupd, ?_, hU.valid hk, fun hp ha => ?_, fun hp => ba.trans (hU.unswapped hp)⟩
      · rw [estimateUpdate_eq, updateEnds_examined]
      · obtain ⟨e1, e2⟩ := hU.swapped hp ha
        exact ⟨ba.trans e1, bp.trans e2⟩
  case stopIncremental =>
    refine ⟨_, hstop, ?_⟩
    rw [stopTimeout_of_incremental ht (stopDue_iff.2 hd), State.rd_updAch, State.ach_updAch_self]
    exact ⟨State.rd_set1 s _ Nat.one_pos, rfl, rfl, rfl, rfl, rfl⟩
  case stopSinCos => rw [hstop, stopTimeout_of_sinCos ht hh (stopDue_iff.2 hd)]
  case running =>
    rw [hstop, stopTimeout_of_not_due (Bool.eq_false_iff.2 (fun h => absurd (stopDue_iff.1 h) (Int.not_le.2 hd)))]
  case snapshot =>
    refine ⟨_, hread.trans (busRun_of_served master _ s hs hm), ?_⟩
    rw [busRead_fine hk master s hr]
    have ha : ((fineSnap k s).ret ((s.ach k).pubP / 2 ^ 32 % 2 ^ 32)).ach k = { s.ach k with
        snapV := (s.ach k).pubV, snapA := (s.ach k).pubA, snapTime := (s.ach k).tU, snapCount := (s.ach k).pubCell } :=
      State.ach_updAch_self s k _
    rw [ha]
    exact ⟨rfl, rfl, rfl, rfl, rfl, State.regs_updAch s k _, State.mem_updAch s k _⟩

end Sys2Proof.Machine

/-! Writes of the angle front end's configuration, table exchange requests, learning and statistics runs, and the alignment (R54, R63,
R65, R66, R69 to R71). -/

namespace Sys2Proof.Machine

set_option Elab.async false

open Sys2Proof

/-! ### Writes that are held until the next update (R65) -/

/-- `t` differs from `s` in listed registers and in the values held until the next update tick alone. -/
structure Puts (ks : List Keys) (s t : State) : Prop where
  mem : t.mem = s.mem
  afe : { t.afe with held := s.afe.held } = s.afe
  rd : ∀ f : Fld, ks.any (·.has f.key) = false → t.rd f = s.rd f

namespace Puts

variable {ks : List Keys} {s t u : State}

theorem refl (s : State) : Puts ks s s := ⟨rfl, rfl, fun _ _ => rfl⟩

theorem trans (h : Puts ks s t) (g : Puts ks t u) : Puts ks s u :=
  ⟨g.mem.trans h.mem, (congrArg (fun a : AfeSt => { a with held := s.afe.held }) g.afe).trans h.afe, fun f hf => (g.rd f hf).trans (h.rd f hf)⟩

theorem wr (s : State) (f : Fld) (v : Nat) (h : Keys.one f ∈ ks) : Puts ks s (s.wr f v) := by
  refine ⟨rfl, rfl, fun g hk => State.rd_wr_ne s f g v (fun he => ?_)⟩
  rw [List.any_eq_false] at hk
  exact hk _ h (by simp [Keys.has, he])

end Puts

theorem afeHold_puts {ks : List Keys} (f : Fld) (s : State) : Puts ks s (afeHold f s) := by
  unfold afeHold
  split
  · exact .refl s
  · exact ⟨rfl, rfl, fun _ _ => rfl⟩

theorem afePut_puts {ks : List Keys} (f : Fld) (v : Nat) (s : State) (h : Keys.one f ∈ ks) : Puts ks s (afePut f v s) :=
  (afeHold_puts f s).trans (.wr _ f v h)

theorem afePut_rd (f : Fld) (v : Nat) (s : State) : (afePut f v s).rd f = v % 2 ^ f.w := State.rd_wr _ f v

theorem afePut_rd_ne (f g : Fld) (v : Nat) (s : State) (h : g.key ≠ f.key) : (afePut f v s).rd g = s.rd g :=
  (State.rd_wr_ne _ f g v h).trans ((afeHold_puts (ks := []) f s).rd g rfl)

/-! ### What is refused (R65) -/

/-- A command of channel k was ignored with CFG_REFUSED. -/
def AfeRefused (k : Nat) (s u : State) : Prop :=
  u.rd Fd.AFE_EST_STAT_CFG_REFUSED = 1 ∧ u.mem = s.mem ∧ { u.afe with held := s.afe.held } = s.afe ∧
  u.rd (Fd.AFE_CH_CPR_CPR k) = s.rd (Fd.AFE_CH_CPR_CPR k) ∧ u.rd Fd.AFE_PLAUS_CFG_PLAUS_N = s.rd Fd.AFE_PLAUS_CFG_PLAUS_N ∧
  u.rd Fd.AFE_CHK_OFFSET_OFFSET = s.rd Fd.AFE_CHK_OFFSET_OFFSET ∧ u.rd Fd.AFE_LEARN_CTRL_BUSY = s.rd Fd.AFE_LEARN_CTRL_BUSY ∧
  u.rd Fd.AFE_STAT_CTRL_BUSY = s.rd Fd.AFE_STAT_CTRL_BUSY

/-- The fields that a START sets beside its run. -/
abbrev runFields : List Keys :=
  [.one Fd.AFE_LEARN_CTRL_CH, .one Fd.AFE_LEARN_CTRL_REF, .one Fd.AFE_LEARN_CTRL_REVS, .one Fd.AFE_STAT_CTRL_CH, .one Fd.AFE_STAT_CTRL_LOG2N]

theorem afeRefused_of_puts {k : Nat} (hk : k < 2) {s t : State} (h : Puts runFields s t) (st : Nat) : AfeRefused k s (afeRefuse st t).2 := by
  have hp : Puts (.one Fd.AFE_EST_STAT_CFG_REFUSED :: runFields) s (afeRefuse st t).2 := .trans
    ⟨h.mem, h.afe, fun f hf => h.rd f (Bool.or_eq_false_iff.1 hf).2⟩ (.wr t Fd.AFE_EST_STAT_CFG_REFUSED 1 (by simp))
  refine ⟨State.rd_set1 t _, hp.mem, hp.afe, hp.rd _ ?_, hp.rd _ (by decide), hp.rd _ (by decide), hp.rd _ (by decide), hp.rd _ (by decide)⟩
  obtain rfl | rfl : k = 0 ∨ k = 1 := by omega
  · decide
  · decide

theorem afeRefused_self {k : Nat} (hk : k < 2) (s : State) (st : Nat) : AfeRefused k s (afeRefuse st s).2 :=
  afeRefused_of_puts hk (.refl s) st

/-! ### CPR (R66, R403) -/

section Cpr

variable {k cpr : Nat} {s : State}

theorem cprWrite_of_mode (h : afeCfgOk s = false) : (cprWrite k cpr s).2 = (afeRefuse St.refusedMode s).2 :=
  congrArg Prod.snd (if_pos (by simp [h]))

theorem cprWrite_of_range (h : afeCfgOk s = true) (hc : cprOk (s.rd (Fd.AFE_CH_CFG_TYPE k)) cpr = false) :
    (cprWrite k cpr s).2 = (afeRefuse St.range s).2 := congrArg Prod.snd ((if_neg (by simp [h])).trans (if_pos (by simp [hc])))

/-- The state in which a channel has its new CPR and has restarted. -/
def cprTaken (k cpr : Nat) (s : State) : State := typeRestart k (setCpr k cpr s)

theorem cprWrite_of_ok (h : afeCfgOk s = true) (hc : cprOk (s.rd (Fd.AFE_CH_CFG_TYPE k)) cpr = true) : (cprWrite k cpr s).2 =
    if validNow (cprTaken k cpr s) k then cprTaken k cpr s else (cprTaken k cpr s).clr (Fd.AFE_CH_STAT_VALID k) :=
  congrArg Prod.snd ((if_neg (by simp [h])).trans (if_neg (by simp [hc])))

/-- The ranges of R66. -/
theorem cprOk_iff (ty cpr : Nat) : cprOk ty cpr = true ↔
    cpr = 0 ∨ (ty = 1 ∧ 4 ≤ cpr ∧ cpr ≤ 1048576) ∨ (ty = 2 ∧ cpr ≤ 65536) ∨ (ty ≠ 1 ∧ ty ≠ 2 ∧ cpr ≤ 1048576) := by
  unfold cprOk
  rw [Bool.or_eq_true, beq_iff_eq]
  split
  next h => simp [h]
  next h =>
    split
    next h2 => simp [h2]
    next h2 => simp [h, h2]

theorem typeRestart_ach (k : Nat) (s : State) : ∃ c, (typeRestart k s).ach k =
    { s.ach k with meas := [], restart := true, v := 0, a := 0, moved := false, lastEdge := s.now, phaseOk := false, cell := c } := by
  unfold typeRestart restartEst
  simp only [State.ach_wr, State.ach_updAch_self]
  exact ⟨_, rfl⟩

theorem typeRestart_kept (hk : k < 2) (s : State) : AfeKept [k] [.one (Fd.AFE_CH_COUNT_CELL k)] s (typeRestart k s) :=
  .trans (.updAch s hk _) <| .trans (.updAch _ hk _) (.wr_of_mem _ _ _ (by simp))

/-- What the registers show of a channel with its new CPR. -/
theorem cprTaken_rd (hk : k < 2) (h : cpr < 2 ^ 21) : (cprTaken k cpr s).rd (Fd.AFE_CH_CPR_CPR k) = cpr ∧
    (cprTaken k cpr s).rd (Fd.AFE_CH_SCALE_S k) = scaleOf cpr % 2 ^ 64 := by
  have hr := typeRestart_kept hk (setCpr k cpr s)
  have hs : AfeKept [] [.one (Fd.AFE_CH_SCALE_S k)] (s.wr (Fd.AFE_CH_CPR_CPR k) cpr) (setCpr k cpr s) := .wr_of_mem _ _ _ (by simp)
  constructor
  · exact (hr.reads (fun j => [.one (Fd.AFE_CH_COUNT_CELL j)]) Fd.AFE_CH_CPR_CPR hk).trans <|
      (hs.reads (fun j => [.one (Fd.AFE_CH_SCALE_S j)]) Fd.AFE_CH_CPR_CPR hk).trans (State.rd_wr_lt _ _ _ h)
  · exact (hr.reads (fun j => [.one (Fd.AFE_CH_COUNT_CELL j)]) Fd.AFE_CH_SCALE_S hk).trans (State.rd_wr _ _ _)

theorem cprWrite_shows (hk : k < 2) (h : afeCfgOk s = true) (hc : cprOk (s.rd (Fd.AFE_CH_CFG_TYPE k)) cpr = true) :
    let u := (cprWrite k cpr s).2
    u.rd (Fd.AFE_CH_CPR_CPR k) = cpr ∧ u.rd (Fd.AFE_CH_SCALE_S k) = scaleOf cpr % 2 ^ 64 ∧ (u.ach k).restart = true ∧
    (u.ach k).meas = [] ∧ (u.ach k).v = 0 ∧ (u.ach k).a = 0 ∧ (cpr = 0 → u.rd (Fd.AFE_CH_STAT_VALID k) = 0) := by
  intro u
  have hlt : cpr < 2 ^ 21 := by
    have := (cprOk_iff _ _).1 hc
    omega
  obtain ⟨h1, h2⟩ := cprTaken_rd (s := s) hk hlt
  obtain ⟨c, h3⟩ := typeRestart_ach k (setCpr k cpr s)
  have hclr : AfeKept [] [.one (Fd.AFE_CH_STAT_VALID k)] (cprTaken k cpr s) ((cprTaken k cpr s).clr (Fd.AFE_CH_STAT_VALID k)) :=
    .wr_of_mem _ _ 0 (by simp)
  have hu : AfeKept [] [.one (Fd.AFE_CH_STAT_VALID k)] (cprTaken k cpr s) u := by
    rw [show u = _ from cprWrite_of_ok h hc]
    exact .ite (fun _ => .refl _) (fun _ => hclr)
  have ha : u.ach k = _ := (hu.ach k hk (by simp)).trans h3
  rw [hu.reads (fun j => [.one (Fd.AFE_CH_STAT_VALID j)]) Fd.AFE_CH_CPR_CPR hk,
    hu.reads (fun j => [.one (Fd.AFE_CH_STAT_VALID j)]) Fd.AFE_CH_SCALE_S hk, ha]
  refine ⟨h1, h2, rfl, rfl, rfl, rfl, fun h0 => ?_⟩
  have hn : afeCpr (cprTaken k cpr s) k = 0 := h1.trans h0
  have hv : validNow (cprTaken k cpr s) k = false := by simp [validNow, hn]
  rw [show u = _ from cprWrite_of_ok h hc, hv]
  exact State.rd_clr _ _

end Cpr

/-! ### AFE_PLAUS_CFG (R63) -/

/-- AFE_PLAUS_CFG: one rw field of 14 bits. -/
def plausHit : Hit := ⟨⟨0x0600000C, 32, [], [⟨0, 14, .rw, .img, fun _ => 15624⟩]⟩, 0x0600000C, []⟩

theorem regFind_plaus : regFind 0x0600000C = some plausHit := by rfl

/-- A write of the word offers PLAUS_N its low 14 bits. -/
theorem bits_merged_plaus (v : Nat) (s : State) : bits (merged plausHit v (2 ^ 32 - 1) s) 13 0 = v % 16384 := by
  have e : merged plausHit v (2 ^ 32 - 1) s = 0 + 2 ^ 0 * (v / 2 ^ 0 % 2 ^ 14 &&& (2 ^ 14 - 1) |||
      (s.rd Fd.AFE_PLAUS_CFG_PLAUS_N ^^^ (s.rd Fd.AFE_PLAUS_CFG_PLAUS_N &&& (2 ^ 14 - 1)))) := rfl
  have h := merged_low_bits v (s.rd Fd.AFE_PLAUS_CFG_PLAUS_N) 14 14 (Nat.le_refl _)
  rw [bits, e, Nat.pow_zero, Nat.div_one, Nat.div_one, Nat.one_mul, Nat.zero_add]
  refine h.trans ?_
  rw [Nat.sub_self, Nat.pow_zero, Nat.mod_one]
  omega

theorem busWrite_plaus (s : State) (v master : Nat) (hr : railsOff s = false) :
    (busWrite 0x0600000C 4 v master s).2 = (plausNWrite (v % 16384) (s.ret 0)).2 := by
  have hc : regFault 0x0600000C 4 s = 0 := regFault_of_regFind _ 4 s plausHit hr regFind_plaus (by decide) rfl (.inl rfl)
  have e : ∀ t, regWrite plausHit v (2 ^ 32 - 1) master t = plausNWrite (bits (merged plausHit v (2 ^ 32 - 1) t) 13 0) t := fun _ => rfl
  rw [busWrite_of_regFind _ 4 v master s plausHit (regionOf_regs _ (by decide) (by decide)) hc regFind_plaus, if_neg (by decide)]
  exact congrArg Prod.snd ((e _).trans (by rw [bits_merged_plaus]))

section Plaus

variable {n : Nat} {s : State}

theorem plausNWrite_of_mode (h : afeCfgOk s = false) : (plausNWrite n s).2 = (afeRefuse St.refusedMode s).2 :=
  congrArg Prod.snd (if_pos (by simp [h]))

theorem plausNWrite_of_range (h : afeCfgOk s = true) (hn : n = 0 ∨ 15624 < n) : (plausNWrite n s).2 = (afeRefuse St.range s).2 :=
  congrArg Prod.snd ((if_neg (by simp [h])).trans (if_pos hn))

theorem plausNWrite_of_ok (h : afeCfgOk s = true) (hn : ¬(n = 0 ∨ 15624 < n)) : (plausNWrite n s).2 = s.wr Fd.AFE_PLAUS_CFG_PLAUS_N n :=
  congrArg Prod.snd ((if_neg (by simp [h])).trans (if_neg hn))

end Plaus

end Sys2Proof.Machine

/-! Learning and statistics runs, the alignment, and the obligation on the configuration and the runs of the angle front end. -/

namespace Sys2Proof.Machine

set_option Elab.async false

open Sys2Proof

/-! ### Learning (R70) -/

/-- The other fields of a START of the learning function. -/
def learnPut (k ref n : Nat) (s : State) : State :=
  afePut Fd.AFE_LEARN_CTRL_REVS n (afePut Fd.AFE_LEARN_CTRL_REF ref (afePut Fd.AFE_LEARN_CTRL_CH k s))

theorem learnPut_puts (k ref n : Nat) (s : State) : Puts runFields s (learnPut k ref n s) :=
  .trans (afePut_puts _ _ s (by simp)) <| .trans (afePut_puts _ _ _ (by simp)) (afePut_puts _ _ _ (by simp))

theorem learnPut_rd {k : Nat} (hk : k < 2) (ref n : Nat) (s : State) : (learnPut k ref n s).rd Fd.AFE_LEARN_CTRL_CH = k ∧
    (learnPut k ref n s).rd Fd.AFE_LEARN_CTRL_REF = ref % 2 ∧
    (learnPut k ref n s).rd Fd.AFE_LEARN_CTRL_REVS = n % 2 ^ Fd.AFE_LEARN_CTRL_REVS.w := by
  unfold learnPut
  refine ⟨?_, ?_, afePut_rd _ _ _⟩
  · rw [afePut_rd_ne _ _ _ _ (by decide), afePut_rd_ne _ _ _ _ (by decide), afePut_rd]
    exact Nat.mod_eq_of_lt hk
  · rw [afePut_rd_ne _ _ _ _ (by decide), afePut_rd]
    rfl

section Learn

variable {k ref n : Nat} {s : State}

/-- A START while BUSY, or of a channel that is not REFERENCED, is ignored. -/
theorem learnStart_of_refused (h : s.rd Fd.AFE_LEARN_CTRL_BUSY = 1 ∨ s.rd (Fd.AFE_CH_STAT_REFERENCED k) = 0) :
    ∃ st, (learnStart k ref n s).2 = (afeRefuse st (learnPut k ref n s)).2 := by
  by_cases hb : s.rdB Fd.AFE_LEARN_CTRL_BUSY = true
  · exact ⟨_, congrArg Prod.snd (if_pos hb)⟩
  · have hr : s.rd (Fd.AFE_CH_STAT_REFERENCED k) = 0 := h.resolve_left (fun h1 => hb (by simp [State.rdB, h1]))
    exact ⟨_, congrArg Prod.snd ((if_neg hb).trans (if_pos (by simp [State.rdB, hr])))⟩

/-- The state of a run that has begun. -/
def learnBegun (k ref n : Nat) (s : State) : State :=
  let s0 := afeTakes Fd.AFE_LEARN_CTRL_REF (learnPut k ref n s)
  { s0.set1 Fd.AFE_LEARN_CTRL_BUSY with afe := { s0.afe with learn := some ⟨k, 2 ^ min n 8, false⟩, bins := [] } }

theorem learnStart_of_ok (hb : s.rd Fd.AFE_LEARN_CTRL_BUSY = 0) (hr : s.rd (Fd.AFE_CH_STAT_REFERENCED k) = 1) :
    (learnStart k ref n s).2 = learnBegun k ref n s :=
  congrArg Prod.snd ((if_neg (by simp [State.rdB, hb])).trans (if_neg (by simp [State.rdB, hr])))

theorem learnBegun_rd (f : Fld) (h : f.key ≠ Fd.AFE_LEARN_CTRL_BUSY.key) : (learnBegun k ref n s).rd f = (learnPut k ref n s).rd f :=
  State.rd_wr_ne (learnPut k ref n s) Fd.AFE_LEARN_CTRL_BUSY f 1 h

theorem learnDone_of_none (h : s.afe.learn = none) : learnDone s = s := by
  rw [learnDone, h]

theorem learnDone_of_complete {l : LearnSt} (h : s.afe.learn = some l) (hs : l.started = true) (h0 : l.left = 0) :
    learnDone s = learnEnd Fd.AFE_LEARN_CTRL_DONE s := by
  simp only [learnDone, h, hs, h0, and_self, if_true]

/-- The end of a complete run. -/
theorem learnEnd_shows (s : State) : let u := learnEnd Fd.AFE_LEARN_CTRL_DONE s
    u.afe.learn = none ∧ u.rd Fd.AFE_LEARN_CTRL_BUSY = 0 ∧ u.rd Fd.AFE_LEARN_CTRL_DONE = 1 ∧ u.afe.bins = s.afe.bins := by
  intro u
  have ha : u.afe = { s.afe with learn := none } := irqEvent_afe _ 19
  have hr := fun f hf => (irqEvent_offAfe 19 (({ s with afe := { s.afe with learn := none } }.set1 Fd.AFE_LEARN_CTRL_DONE).clr
    Fd.AFE_LEARN_CTRL_BUSY)).rd f hf rfl
  refine ⟨by rw [ha], (hr _ (by decide)).trans (State.rd_clr _ _), (hr _ (by decide)).trans ?_, by rw [ha]⟩
  exact (State.rd_wr_ne _ Fd.AFE_LEARN_CTRL_BUSY Fd.AFE_LEARN_CTRL_DONE 0 (by decide)).trans (State.rd_set1 _ _)

end Learn

/-! ### Statistics (R69) -/

/-- The other fields of a START of the statistics function. -/
def statPut (k n : Nat) (s : State) : State := afePut Fd.AFE_STAT_CTRL_LOG2N n (afePut Fd.AFE_STAT_CTRL_CH k s)

theorem statPut_puts (k n : Nat) (s : State) : Puts runFields s (statPut k n s) :=
  .trans (afePut_puts _ _ s (by simp)) (afePut_puts _ _ _ (by simp))

theorem statPut_rd {k : Nat} (hk : k < 2) (n : Nat) (s : State) : (statPut k n s).rd Fd.AFE_STAT_CTRL_CH = k ∧
    (statPut k n s).rd Fd.AFE_STAT_CTRL_LOG2N = n % 2 ^ Fd.AFE_STAT_CTRL_LOG2N.w := by
  unfold statPut
  refine ⟨?_, afePut_rd _ _ _⟩
  rw [afePut_rd_ne _ _ _ _ (by decide), afePut_rd]
  exact Nat.mod_eq_of_lt hk

section Stat

variable {k n : Nat} {s : State}

/-- A START while BUSY, of a channel that is not a sin/cos channel, or of a length out of range is ignored. -/
theorem statStart_of_refused (h : s.rd Fd.AFE_STAT_CTRL_BUSY = 1 ∨ s.rd (Fd.AFE_CH_CFG_TYPE k) ≠ 2 ∨ n < 10 ∨ 20 < n) :
    ∃ st, (statStart k n s).2 = (afeRefuse st (statPut k n s)).2 := by
  by_cases hb : s.rdB Fd.AFE_STAT_CTRL_BUSY = true
  · exact ⟨_, congrArg Prod.snd (if_pos hb)⟩
  · have hr := h.resolve_left (fun h1 => hb (by simp [State.rdB, h1]))
    exact ⟨_, congrArg Prod.snd ((if_neg hb).trans (if_pos hr))⟩

/-- The sums of a run that has begun. -/
def statCleared (k n : Nat) (s : State) : State :=
  (((((afeTakes Fd.AFE_STAT_CTRL_CH (statPut k n s)).clr Fd.AFE_STAT_SUM_S_SUM).clr Fd.AFE_STAT_SUM_C_SUM).clr
    Fd.AFE_STAT_SUM_SS_SUM).clr Fd.AFE_STAT_SUM_CC_SUM).clr Fd.AFE_STAT_SUM_SC_SUM

/-- The state of a run that has begun. -/
def statBegun (k n : Nat) (s : State) : State :=
  { (statCleared k n s).set1 Fd.AFE_STAT_CTRL_BUSY with afe := { (statCleared k n s).afe with statLeft := 2 ^ n } }

theorem statStart_of_ok (hb : s.rd Fd.AFE_STAT_CTRL_BUSY = 0) (ht : s.rd (Fd.AFE_CH_CFG_TYPE k) = 2) (h1 : 10 ≤ n) (h2 : n ≤ 20) :
    (statStart k n s).2 = statBegun k n s :=
  congrArg Prod.snd ((if_neg (by simp [State.rdB, hb])).trans (if_neg (by omega)))

theorem statBegun_rd : (statBegun k n s).rd Fd.AFE_STAT_SUM_S_SUM = 0 ∧ (statBegun k n s).rd Fd.AFE_STAT_SUM_C_SUM = 0 ∧
    (statBegun k n s).rd Fd.AFE_STAT_SUM_SS_SUM = 0 ∧ (statBegun k n s).rd Fd.AFE_STAT_SUM_CC_SUM = 0 ∧
    (statBegun k n s).rd Fd.AFE_STAT_SUM_SC_SUM = 0 := by
  have h : ∀ f, (statBegun k n s).rd f = ((statCleared k n s).set1 Fd.AFE_STAT_CTRL_BUSY).rd f := fun _ => rfl
  unfold statCleared State.clr State.set1 at h
  refine ⟨?_, ?_, ?_, ?_, ?_⟩
  all_goals
    simp (disch := decide) only [h, State.rd_wr_ne, State.rd_wr]
    rfl

theorem statDone_of_running (h : s.afe.statLeft ≠ 0) : statDone s = s := if_neg (fun hn => h hn.1)

/-- The end of a run whose last sample has been taken. -/
theorem statDone_shows (h0 : s.afe.statLeft = 0) (hb : s.rd Fd.AFE_STAT_CTRL_BUSY = 1) :
    (statDone s).rd Fd.AFE_STAT_CTRL_BUSY = 0 ∧ (statDone s).rd Fd.AFE_STAT_CTRL_DONE = 1 := by
  have e : statDone s = irqEvent 20 ((s.clr Fd.AFE_STAT_CTRL_BUSY).set1 Fd.AFE_STAT_CTRL_DONE) := if_pos ⟨h0, by simp [State.rdB, hb]⟩
  have hr := fun f hf => (irqEvent_offAfe 20 ((s.clr Fd.AFE_STAT_CTRL_BUSY).set1 Fd.AFE_STAT_CTRL_DONE)).rd f hf rfl
  rw [e, hr _ (by decide), hr _ (by decide)]
  exact ⟨(State.rd_wr_ne _ Fd.AFE_STAT_CTRL_DONE Fd.AFE_STAT_CTRL_BUSY 1 (by decide)).trans (State.rd_clr _ _), State.rd_set1 _ _⟩

end Stat

/-! ### Alignment (R71) -/

theorem enc_lt (n : Nat) (x : Int) : enc n x < 2 ^ n := by
  have h0 : (0 : Int) < ((2 ^ n : Nat) : Int) := by positivity
  have := Int.emod_lt_of_pos x h0
  have := Int.emod_nonneg x (Int.ne_of_gt h0)
  rw [enc]
  omega

section Align

variable {s : State}

/-- ALIGN is admitted. -/
def alignReady (s : State) : Prop := s.mode = Md.standby ∧ s.rd (Fd.AFE_CH_STAT_VALID 0) = 1 ∧ s.rd (Fd.AFE_CH_STAT_VALID 1) = 1

theorem alignCmd_of_ready (h : alignReady s) : (alignCmd s).2 =
    s.wr Fd.AFE_CHK_OFFSET_OFFSET (enc 40 (((s.ach 0).pubP / 2 ^ 32 : Nat) - ((s.ach 1).pubP / 2 ^ 32 : Nat))) := by
  obtain ⟨hm, h0, h1⟩ := h
  exact congrArg Prod.snd (if_pos ⟨hm, by simp [State.rdB, h0], by simp [State.rdB, h1]⟩)

theorem alignCmd_of_not_ready (h : ¬alignReady s) (h0 : s.rd (Fd.AFE_CH_STAT_VALID 0) < 2) (h1 : s.rd (Fd.AFE_CH_STAT_VALID 1) < 2) :
    (alignCmd s).2 = (afeRefuse St.refusedMode s).2 := by
  refine congrArg Prod.snd (if_neg (fun hr => h ?_))
  obtain ⟨hm, e0, e1⟩ := hr
  rw [State.rdB, bne_iff_ne] at e0 e1
  exact ⟨hm, by omega, by omega⟩

end Align

/-! ### The obligation -/

/-- Settles O23: each row is brought to its refusal or to the state that its acceptance leaves. -/
theorem angleConfigurationAndRuns : Obligations.AngleConfigurationAndRuns := by
  intro s k cpr ref n v master hs hk setUp refused ty inRange
  have he : engOn s = true := engOn_of_sysOn s hs
  have hcpr : exec (.cprWrite k cpr) s = .next (finish (cprWrite k cpr s).2) := sysRun_of_sysOn (fun t => (cprWrite k cpr t).2) s hs
  have hlearn : exec (.learnStart k ref n) s = .next (finish (learnStart k ref n s).2) :=
    sysRun_of_sysOn (fun t => (learnStart k ref n t).2) s hs
  have hstat : exec (.statStart k n) s = .next (finish (statStart k n s).2) := sysRun_of_sysOn (fun t => (statStart k n t).2) s hs
  have hlDone : exec .learnDone s = .next (finish (learnDone s)) := engRun_of_engOn learnDone s he
  have hsDone : exec .statDone s = .next (finish (statDone s)) := engRun_of_engOn statDone s he
  have halign : exec .alignChk s = .next (finish (alignCmd s).2) := sysRun_of_sysOn (fun t => (alignCmd t).2) s hs
  have hcfg : exec (.afeCfgWrite 0x0C v master) s = busRun master (fun t => (busWrite 0x0600000C 4 v master t).2) s := rfl
  have hplaus : railsOff s = false → masterServed s master = true →
      exec (.afeCfgWrite 0x0C v master) s = .next (finish (plausNWrite (v % 16384) (s.ret 0)).2) := fun hr hm => by
    rw [hcfg, busRun_of_served master _ s hs hm, busWrite_plaus s v master hr]
  have hrefuse : ∀ c u, exec c s = .next (finish u) → AfeRefused k s u → refused c := fun c u h hu => ⟨u, h, hu⟩
  have hself : ∀ st, AfeRefused k s (afeRefuse st s).2 := afeRefused_self hk s
  have hret : ∀ st, AfeRefused k s (afeRefuse st (s.ret 0)).2 := afeRefused_self hk (s.ret 0)
  have hrange : cprOk ty cpr = true ↔ inRange := cprOk_iff ty cpr
  refine ⟨fun hm => hcfg.trans (busRun_of_unserved master _ s hs hm), fun hu => ⟨?mode, fun hr hm => ?plausMode⟩, fun hu hn => ?range,
    fun hu hn => ⟨_, hcpr, cprWrite_shows hk hu (hrange.2 hn)⟩, fun hu hr hm => ⟨fun hn => ?plausRange, fun h0 h1 => ?plaus⟩, ?swap,
    fun h => ?learnRefused, fun hb hr => ?learnStarts, fun l hl hst h0 => ⟨_, hlDone, ?learned⟩, fun h => hlDone.trans (by rw [learnDone_of_none h]),
    fun h => ?statRefused, fun hb ht h1 h2 => ?statStarts, fun h0 hb => ⟨_, hsDone, statDone_shows h0 hb⟩,
    fun h => hsDone.trans (by rw [statDone_of_running h]), fun h => ?aligned, fun h h0 h1 => ?alignRefused⟩
  case mode => exact hrefuse _ _ hcpr (by rw [cprWrite_of_mode hu]; exact hself _)
  case plausMode => exact hrefuse _ _ (hplaus hr hm) (by rw [plausNWrite_of_mode (s := s.ret 0) hu]; exact hret _)
  case range =>
    refine hrefuse _ _ hcpr ?_
    rw [cprWrite_of_range hu (Bool.eq_false_iff.2 (mt hrange.1 hn))]
    exact hself _
  case plausRange => exact hrefuse _ _ (hplaus hr hm) (by rw [plausNWrite_of_range (s := s.ret 0) hu hn]; exact hret _)
  case plaus =>
    refine ⟨_, hplaus hr hm, ?_⟩
    rw [plausNWrite_of_ok (s := s.ret 0) hu (by omega)]
    exact ⟨State.rd_wr_lt _ _ _ (Nat.mod_lt v (by decide)), rfl, rfl⟩
  case swap => exact ⟨_, sysRun_of_sysOn (swapReq k) s hs, State.rd_set1 s _ (by split <;> decide), rfl, rfl⟩
  case learnRefused =>
    obtain ⟨st, e⟩ := learnStart_of_refused (ref := ref) (n := n) h
    have hp := learnPut_puts k ref n s
    obtain ⟨h1, h2, h3⟩ := learnPut_rd hk ref n s
    have hr := fun (f : Fld) (hf : f.key ≠ _) => State.rd_wr_ne (learnPut k ref n s) Fd.AFE_EST_STAT_CFG_REFUSED f 1 hf
    rw [e] at hlearn
    exact ⟨hrefuse _ _ hlearn (afeRefused_of_puts hk hp st), _, hlearn, (hr _ (by decide)).trans h1, (hr _ (by decide)).trans h2,
      (hr _ (by decide)).trans h3⟩
  case learnStarts =>
    obtain ⟨h1, h2, -⟩ := learnPut_rd hk ref n s
    refine ⟨_, hlearn, ?_⟩
    rw [learnStart_of_ok hb hr]
    exact ⟨State.rd_set1 _ Fd.AFE_LEARN_CTRL_BUSY, rfl, rfl, (learnBegun_rd _ (by decide)).trans h1, (learnBegun_rd _ (by decide)).trans h2⟩
  case statRefused =>
    obtain ⟨st, e⟩ := statStart_of_refused h
    obtain ⟨h1, h2⟩ := statPut_rd hk n s
    have hr := fun (f : Fld) (hf : f.key ≠ _) => State.rd_wr_ne (statPut k n s) Fd.AFE_EST_STAT_CFG_REFUSED f 1 hf
    rw [e] at hstat
    exact ⟨hrefuse _ _ hstat (afeRefused_of_puts hk (statPut_puts k n s) st), _, hstat, (hr _ (by decide)).trans h1,
      (hr _ (by decide)).trans h2⟩
  case statStarts =>
    refine ⟨_, hstat, ?_⟩
    rw [statStart_of_ok hb ht h1 h2]
    exact ⟨State.rd_set1 _ Fd.AFE_STAT_CTRL_BUSY, rfl, statBegun_rd⟩
  case aligned =>
    refine ⟨_, halign, ?_⟩
    rw [alignCmd_of_ready h]
    exact ⟨rfl, State.rd_wr_lt _ _ _ (enc_lt 40 _)⟩
  case alignRefused => exact hrefuse _ _ halign (by rw [alignCmd_of_not_ready h h0 h1]; exact hself _)
  case learned =>
    rw [learnDone_of_complete hl hst h0]
    exact learnEnd_shows s

end Sys2Proof.Machine

/-! What a requester's writes leave in plain memory: the words written read back as written, every other word reads as it did, and
the rest of the device is as it was (R218 to R222, R231). -/

namespace Sys2Proof.Machine

set_option Elab.async false

open Sys2Proof

/-! ### The code of a word (R219, R220) -/

theorem eccAux_lt (l : List Nat) (d acc : Nat) (hl : ∀ c ∈ l, c < 2 ^ 8) (ha : acc < 2 ^ 8) : eccAux l d acc < 2 ^ 8 := by
  induction l generalizing d acc with
  | nil => exact ha
  | cons c r ih =>
    refine ih _ _ (fun x hx => hl x (List.mem_cons_of_mem c hx)) ?_
    split
    · exact Nat.xor_lt_two_pow ha (hl c List.mem_cons_self)
    · exact ha

theorem eccCheck_lt (d : Nat) : eccCheck d < 2 ^ 8 := eccAux_lt eccCols d 0 (by decide) (by decide)

/-- A word with fresh check bits decodes clean. -/
@[simp] theorem eccDecode_eccEncode (d : W64) : eccDecode (eccEncode d) = .clean d := by
  have hc := eccCheck_lt d.toNat
  have hd := d.isLt
  have hw : (eccEncode d).toNat = d.toNat + eccCheck d.toNat * 2 ^ 64 := by
    rw [eccEncode, BitVec.toNat_ofNat]
    omega
  have hlo : (eccEncode d).toNat % 2 ^ 64 = d.toNat := by omega
  have hhi : (eccEncode d).toNat / 2 ^ 64 = eccCheck d.toNat := by omega
  unfold eccDecode
  simp only [hlo, hhi, Nat.xor_self, if_true, BitVec.ofNat_toNat, BitVec.setWidth_eq]

/-! ### Words of plain memory -/

/-- Words whose keys agree as every port sees them read alike. -/
theorem State.mdata_congr {s t : State} {m i : Nat} (h : t.mcur (mkey m i) = s.mcur (mkey m i)) : t.mdata m i = s.mdata m i := by
  rw [State.mdata, State.mdata, h]

theorem State.mok_congr {s t : State} {m i : Nat} (h : t.mcur (mkey m i) = s.mcur (mkey m i)) : t.mok m i = s.mok m i := by
  rw [State.mok, State.mok, h]

/-- What a port sees of a word rests on the array, the merge buffers, the spares and the borrowed regions. -/
theorem State.mcur_congr {s t : State} (hm : t.mem = s.mem) (hg : t.mst.merge = s.mst.merge) (hs : t.mst.spares = s.mst.spares)
    (hb : t.bst = s.bst) (k : Nat) : t.mcur k = s.mcur k := by
  rw [State.mcur, State.mcur, State.mergeOf, State.mergeOf, State.mget, State.mget, hm, hg, hs, hb]

theorem retUnmerge_of_other {m : Nat} (hm : m ≠ 13) (i : Nat) (s : State) : retUnmerge m i s = s := by
  unfold retUnmerge
  split
  · exact if_neg hm
  · rfl

section Put

variable {s : State} (hs : s.bst.slice = []) {k : Nat} (hk : k / 2 ^ 32 ≠ 13) (w : MemWord)
include hs

/-- Where no region is borrowed, a word is that of its spare, or of the array. -/
theorem State.mget_of_plain (j : Nat) : s.mget j = (mapGet? s.mst.spares j).getD (mapGet 0 s.mem j) := by
  unfold State.mget
  rw [hs, borrowed?]
  cases mapGet? s.mst.spares j <;> rfl

include hk

/-- A word outside retained RAM is stored in its spare, or in the array. -/
theorem State.mput_of_plain :
    (∃ x, mapGet? s.mst.spares k = some x ∧ s.mput k w = { s with mst := { s.mst with spares := mapPut s.mst.spares k w } }) ∨
    (mapGet? s.mst.spares k = none ∧ s.mput k w = { s with mem := mapSet 0 s.mem k w }) := by
  unfold State.mput
  simp only [hk, hs, borrowed?, if_false]
  cases h : mapGet? s.mst.spares k with
  | some x => exact .inl ⟨x, rfl, rfl⟩
  | none => exact .inr ⟨rfl, rfl⟩

theorem State.mput_touches_mem : Touches [.mem, .mst] [] s (s.mput k w) := by
  obtain ⟨_, _, e⟩ | ⟨_, e⟩ := State.mput_of_plain hs hk w
  · exact e ▸ .of_puts [.mst]
  · exact e ▸ .of_puts [.mem]

theorem State.mput_merge : (s.mput k w).mst.merge = s.mst.merge := by
  obtain ⟨_, _, e⟩ | ⟨_, e⟩ := State.mput_of_plain hs hk w <;> rw [e]

theorem State.mget_mput (j : Nat) : (s.mput k w).mget j = if j = k then w else s.mget j := by
  rw [State.mget_of_plain hs]
  obtain ⟨x, hx, e⟩ | ⟨hx, e⟩ := State.mput_of_plain hs hk w
  · rw [e, State.mget_of_plain (by exact hs)]
    split
    · next h => simp [h]
    · next h => simp [mapGet?_mapPut_ne _ _ _ _ h]
  · rw [e, State.mget_of_plain (by exact hs)]
    split
    · next h => simp [h, hx]
    · next h => simp [mapGet_mapSet_ne _ _ _ _ _ h]

end Put

/-- A full write where no injection is armed stores the word's code. -/
theorem State.mwrite_of_unarmed {s : State} (ha : s.rdB Fd.MEM_INJ_ARMED = false) (m i : Nat) (d : W64) :
    s.mwrite m i d = s.mput (mkey m i) (eccEncode d) := by
  unfold State.mwrite
  rw [ha]
  rfl

theorem mkey_div (m i : Nat) (hi : i < 2 ^ 32) : mkey m i / 2 ^ 32 = m := by
  unfold mkey
  omega

/-- A word that a requester writes leaves the merge buffers, and no other does. -/
theorem touchWord_mergeOf (m i : Nat) (s : State) (k : Nat) :
    (touchWord m i s).mergeOf k = if k = mkey m i then none else s.mergeOf k := by
  unfold State.mergeOf touchWord
  rw [List.find?_filter]
  split
  · next h => simp [h]
  · next h =>
    refine congrArg (fun p => List.find? p s.mst.merge) (funext fun e => ?_)
    by_cases he : e.key = k
    · simp [he, h]
    · simp [he]

section Write

variable {s : State} (hp : s.plainMem) {m i : Nat} (hm : m ≠ 13) (hi : i < 2 ^ 32) (d : W64)
include hp hm

theorem writeWord_of_plain : writeWord m i d s = (touchWord m i s).mput (mkey m i) (eccEncode d) := by
  rw [writeWord, retUnmerge_of_other hm]
  exact State.mwrite_of_unarmed (s := touchWord m i s) hp.1 m i d

include hi

/-- A write reaches the memories and their bookkeeping alone. -/
theorem writeWord_touches_mem : Touches [.mem, .mst] [] s (writeWord m i d s) := by
  have hk : mkey m i / 2 ^ 32 ≠ 13 := by rwa [mkey_div m i hi]
  rw [writeWord_of_plain hp hm d]
  exact .trans (.of_puts (t := touchWord m i s) [.mst]) (State.mput_touches_mem (s := touchWord m i s) hp.2 hk _)

/-- The word written reads as written, every other word as it did. -/
theorem mcur_writeWord (k : Nat) : (writeWord m i d s).mcur k = if k = mkey m i then eccEncode d else s.mcur k := by
  have hk : mkey m i / 2 ^ 32 ≠ 13 := by rwa [mkey_div m i hi]
  have hs : (touchWord m i s).bst.slice = [] := hp.2
  have hg : ((touchWord m i s).mput (mkey m i) (eccEncode d)).mergeOf k = if k = mkey m i then none else s.mergeOf k := by
    rw [← touchWord_mergeOf, State.mergeOf, State.mput_merge hs hk]
    rfl
  rw [writeWord_of_plain hp hm d, State.mcur, hg, State.mget_mput hs hk]
  split
  · next e h => 
    split at h
    · contradiction
    · next hne => rw [if_neg hne, State.mcur, h]
  · next h =>
    split at h
    · next he => rw [if_pos he, if_pos he]
    · next hne =>
      rw [if_neg hne, if_neg hne, State.mcur, h]
      rfl

theorem writeWord_plain : (writeWord m i d s).plainMem := by
  have h := writeWord_touches_mem hp hm hi d
  have hb : (writeWord m i d s).bst = s.bst := h.part .bst (by decide)
  exact ⟨by rw [State.rdB, h.rd _ rfl]; exact hp.1, by rw [hb]; exact hp.2⟩

end Write

end Sys2Proof.Machine

/-! Queue descriptors and event store entries as a requester writes and reads them (Tables 4.1 and 4.3, R102, R221). -/

namespace Sys2Proof.Machine

set_option Elab.async false

open Sys2Proof

/-! ### The fields of a descriptor (Table 4.3) -/

/-- The fields of a descriptor lie within their widths. -/
structure Desc.Fits (d : Desc) : Prop where
  base : d.base < 2 ^ 18
  log2 : d.log2 < 2 ^ 5
  pidx : d.pidx < 2 ^ 16
  sidx : d.sidx < 2 ^ 16
  cidx : d.cidx < 2 ^ 16
  armed : d.armed < 2 ^ 11
  state : d.state < 2 ^ 2
  late : d.late < 2 ^ 2
  dir : d.dir < 2
  group : d.group < 2 ^ 6
  cpl : d.cpl < 2 ^ 2
  prod : d.prod < 2 ^ 6
  owner : d.owner < 2 ^ 4
  cause : d.cause < 2 ^ 4

/-- A descriptor with every field cut to its width. -/
def Desc.cut (d : Desc) : Desc :=
  ⟨d.base % 2 ^ 18, d.log2 % 2 ^ 5, d.pidx % 2 ^ 16, d.sidx % 2 ^ 16, d.cidx % 2 ^ 16, d.armed % 2 ^ 11, d.state % 2 ^ 2, d.late % 2 ^ 2,
   d.dir % 2, d.group % 2 ^ 6, d.cpl % 2 ^ 2, d.prod % 2 ^ 6, d.owner % 2 ^ 4, d.cause % 2 ^ 4⟩

theorem Desc.Fits.cut {d : Desc} (h : d.Fits) : d.cut = d := by
  obtain ⟨h1, h2, h3, h4, h5, h6, h7, h8, h9, h10, h11, h12, h13, h14⟩ := h
  unfold Desc.cut
  congr 1 <;> exact Nat.mod_eq_of_lt ‹_›

theorem descOf_fits (a b : Nat) : (descOf a b).Fits := by
  constructor <;> exact Nat.mod_lt _ (by decide)

theorem descLo_lt (d : Desc) : descLo d < 2 ^ 64 := by
  unfold descLo
  omega

theorem descHi_lt (d : Desc) : descHi d < 2 ^ 64 := by
  unfold descHi
  omega

/-- The two words of a descriptor spell its fields. -/
theorem descOf_descWords (d : Desc) : descOf (descLo d) (descHi d) = d.cut := by
  unfold descOf descLo descHi Desc.cut bits
  congr 1 <;> omega

/-! ### Descriptors in the descriptor memory -/

/-- A descriptor rests on what the ports see of its two words. -/
theorem getDesc_congr {s t : State} {q : Nat} (h0 : t.mcur (mkey 1 (2 * q)) = s.mcur (mkey 1 (2 * q)))
    (h1 : t.mcur (mkey 1 (2 * q + 1)) = s.mcur (mkey 1 (2 * q + 1))) : getDesc t q = getDesc s q := by
  simp only [getDesc, State.mok_congr h0, State.mok_congr h1, State.mdata_congr h0, State.mdata_congr h1]

theorem getEntry_congr {s t : State} {e : Nat} (h0 : t.mcur (mkey 0 (2 * e)) = s.mcur (mkey 0 (2 * e)))
    (h1 : t.mcur (mkey 0 (2 * e + 1)) = s.mcur (mkey 0 (2 * e + 1))) : getEntry t e = getEntry s e := by
  simp only [getEntry, State.mok_congr h0, State.mok_congr h1, State.mdata_congr h0, State.mdata_congr h1]

/-- A word that holds the code of its data reads as that data. -/
theorem State.mok_of_code {s : State} {m i : Nat} {d : W64} (h : s.mcur (mkey m i) = eccEncode d) : s.mok m i = true := by
  simp [State.mok, h]

theorem State.mdata_of_code {s : State} {m i : Nat} {d : W64} (h : s.mcur (mkey m i) = eccEncode d) : s.mdata m i = d.toNat := by
  simp [State.mdata, h]

/-- A word of the descriptor memory is written where it does not read as it is to (R102). -/
def keepWord (i : Nat) (a : W64) (s : State) : State := if s.mok 1 i && s.mdata 1 i == a.toNat then s else writeWord 1 i a s

theorem putDesc_eq (q : Nat) (d : Desc) (s : State) : putDesc q d s =
    keepWord (2 * q + 1) (BitVec.ofNat 64 (descHi d)) (keepWord (2 * q) (BitVec.ofNat 64 (descLo d)) s) := rfl

section Word

variable {s : State} (hp : s.plainMem) {i : Nat} (hi : i < 2 ^ 32) (a : W64)
include hp hi

theorem keepWord_touches : Touches [.mem, .mst] [] s (keepWord i a s) :=
  .ite (fun _ => .refl s) (fun _ => writeWord_touches_mem hp (by decide) hi a)

theorem keepWord_plain : (keepWord i a s).plainMem := by
  unfold keepWord
  split
  · exact hp
  · exact writeWord_plain hp (by decide) hi a

theorem mcur_keepWord_ne {k : Nat} (hk : k ≠ mkey 1 i) : (keepWord i a s).mcur k = s.mcur k := by
  unfold keepWord
  split
  · rfl
  · rw [mcur_writeWord hp (by decide) hi, if_neg hk]

theorem keepWord_reads : (keepWord i a s).mok 1 i = true ∧ (keepWord i a s).mdata 1 i = a.toNat := by
  unfold keepWord
  split
  · next h => simpa using h
  · have hc : (writeWord 1 i a s).mcur (mkey 1 i) = eccEncode a := by rw [mcur_writeWord hp (by decide) hi, if_pos rfl]
    exact ⟨State.mok_of_code hc, State.mdata_of_code hc⟩

end Word

section Desc

variable {s : State} (hp : s.plainMem) {q : Nat} (hq : q < 65536) (d : Desc)
include hp hq

theorem putDesc_touches_mem : Touches [.mem, .mst] [] s (putDesc q d s) := by
  rw [putDesc_eq]
  have h := keepWord_plain hp (i := 2 * q) (by omega) (BitVec.ofNat 64 (descLo d))
  exact (keepWord_touches hp (by omega) _).trans (keepWord_touches h (by omega) _)

/-- A descriptor that is written leaves every other word. -/
theorem mcur_putDesc_ne {k : Nat} (h0 : k ≠ mkey 1 (2 * q)) (h1 : k ≠ mkey 1 (2 * q + 1)) : (putDesc q d s).mcur k = s.mcur k := by
  rw [putDesc_eq, mcur_keepWord_ne (keepWord_plain hp (by omega) _) (by omega) _ h1, mcur_keepWord_ne hp (by omega) _ h0]

/-- A descriptor reads as it was written, its fields cut to their widths. -/
theorem getDesc_putDesc : getDesc (putDesc q d s) q = some d.cut := by
  have hp1 := keepWord_plain hp (i := 2 * q) (by omega) (BitVec.ofNat 64 (descLo d))
  obtain ⟨o0, r0⟩ := keepWord_reads hp (i := 2 * q) (by omega) (BitVec.ofNat 64 (descLo d))
  obtain ⟨o1, r1⟩ := keepWord_reads hp1 (i := 2 * q + 1) (by omega) (BitVec.ofNat 64 (descHi d))
  have hc := mcur_keepWord_ne hp1 (i := 2 * q + 1) (by omega) (BitVec.ofNat 64 (descHi d)) (k := mkey 1 (2 * q))
    (by unfold mkey; omega)
  rw [getDesc, putDesc_eq, State.mok_congr hc, State.mdata_congr hc, o0, o1, r0, r1, BitVec.toNat_ofNat, BitVec.toNat_ofNat,
    Nat.mod_eq_of_lt (descLo_lt d), Nat.mod_eq_of_lt (descHi_lt d), descOf_descWords]
  rfl

theorem getDesc_putDesc_ne {r : Nat} (h : r ≠ q) : getDesc (putDesc q d s) r = getDesc s r := by
  apply getDesc_congr <;> apply mcur_putDesc_ne hp hq <;> unfold mkey <;> omega

end Desc

theorem toNat_append (a b : W32) : (a ++ b).toNat = a.toNat * 2 ^ 32 + b.toNat := by
  rw [BitVec.toNat_append, ← Nat.shiftLeft_add_eq_or_of_lt b.isLt, Nat.shiftLeft_eq]

/-- The halves of a word of two. -/
theorem ofNat_append (a b : W32) : BitVec.ofNat 32 (a ++ b).toNat = b := by
  apply BitVec.eq_of_toNat_eq
  rw [BitVec.toNat_ofNat, toNat_append]
  omega

theorem ofNat_append_div (a b : W32) : BitVec.ofNat 32 ((a ++ b).toNat / 2 ^ 32) = a := by
  apply BitVec.eq_of_toNat_eq
  rw [BitVec.toNat_ofNat, toNat_append]
  omega

section Entry

variable {s : State} (hp : s.plainMem) {e : Nat} (he : e < 2 ^ 31) (v : Ev)
include hp he

theorem putEntry_touches_mem : Touches [.mem, .mst] [] s (putEntry e v s) :=
  .trans (writeWord_touches_mem hp (by decide) (by omega) _)
    (writeWord_touches_mem (writeWord_plain hp (by decide) (by omega) _) (by decide) (by omega) _)

/-- What the ports see of a word once an entry is written. -/
theorem mcur_putEntry (k : Nat) : (putEntry e v s).mcur k =
    if k = mkey 0 (2 * e + 1) then eccEncode (v.w3 ++ v.w2) else if k = mkey 0 (2 * e) then eccEncode (v.w1 ++ v.w0) else s.mcur k := by
  rw [putEntry, mcur_writeWord (writeWord_plain hp (by decide) (by omega) _) (by decide) (by omega),
    mcur_writeWord hp (by decide) (by omega)]

/-- An entry reads as it was written. -/
theorem getEntry_putEntry : getEntry (putEntry e v s) e = some v := by
  have h0 : (putEntry e v s).mcur (mkey 0 (2 * e)) = eccEncode (v.w1 ++ v.w0) := by
    rw [mcur_putEntry hp he, if_neg (by unfold mkey; omega), if_pos rfl]
  have h1 : (putEntry e v s).mcur (mkey 0 (2 * e + 1)) = eccEncode (v.w3 ++ v.w2) := by rw [mcur_putEntry hp he, if_pos rfl]
  rw [getEntry, State.mok_of_code h0, State.mok_of_code h1, State.mdata_of_code h0, State.mdata_of_code h1]
  simp only [Bool.and_self, if_true, ofNat_append, ofNat_append_div]

end Entry

end Sys2Proof.Machine

/-! Reads of descriptors and entries: what they answer, and that a read which leaves the state as it is also does so after an update
that does not bear on the memories (R221, R224). -/

namespace Sys2Proof.Machine

set_option Elab.async false

open Sys2Proof

/-! ### What a read answers -/

/-- A corrected read is counted and captured (R221). -/
def fixedCounted (m i r : Nat) (s : State) : State := memCap 1 m (memAddr m i) r ((s.set1 Fd.MEM_STAT_CE).incSat (Fd.MEM_ECNT_CORRECTED m))

/-- Its word waits for its write-back (R224). -/
def fixedQueued (m i : Nat) (s : State) : State :=
  if m = 15 ∨ (m, i) ∈ s.mst.writeBack then s
  else if (s.mst.writeBack.filter (fun e => e.1 == m)).length < 4 then
    { s with mst := { s.mst with writeBack := s.mst.writeBack ++ [(m, i)] } }
  else s.set1 Fd.MEM_STAT_WB_DROP

theorem noteFixed_eq (m i r : Nat) (s : State) : noteFixed m i r s = fixedQueued m i (fixedCounted m i r s) := rfl

theorem fixedCounted_mst (m i r : Nat) (s : State) : (fixedCounted m i r s).mst = s.mst := memCap_mst _ _ _ _ _

theorem fixedQueued_mst (m i : Nat) (s : State) :
    (fixedQueued m i s).mst.merge = s.mst.merge ∧ (fixedQueued m i s).mst.spares = s.mst.spares := by
  unfold fixedQueued
  split
  · exact ⟨rfl, rfl⟩
  · split <;> exact ⟨rfl, rfl⟩

theorem noteFixed_mcur (m i r : Nat) (s : State) (k : Nat) : (noteFixed m i r s).mcur k = s.mcur k := by
  obtain ⟨hg, hs⟩ := fixedQueued_mst m i (fixedCounted m i r s)
  rw [fixedCounted_mst] at hg hs
  exact State.mcur_congr (noteFixed_mem s m i r) hg hs (noteFixed_bst s m i r) k

theorem readWord_mcur (m i r : Nat) (s : State) (k : Nat) : (readWord m i r s).2.mcur k = s.mcur k := by
  unfold readWord
  split
  · rfl
  · exact noteFixed_mcur m i r s k
  · exact State.mcur_congr (noteUE_mem s m i r) (by rw [noteUE_mst]) (by rw [noteUE_mst]) (noteUE_bst s m i r) k

/-- The word a read answers. -/
theorem readWord_fst (m i r : Nat) (s : State) :
    (readWord m i r s).1 = if s.mok m i then some (BitVec.ofNat 64 (s.mdata m i)) else none := by
  cases h : eccDecode (s.mcur (mkey m i)) <;> simp [readWord, State.mok, State.mdata, h]

/-- Two words of a memory read one after the other, and what is made of them where both are delivered. -/
def readTwo {α : Type} (m i j : Nat) (f : Nat → Nat → α) (s : State) : Option α × State :=
  let a := readWord m i 0 s
  let b := readWord m j 0 a.2
  match a.1, b.1 with
  | some x, some y => (some (f x.toNat y.toNat), b.2)
  | _, _ => (none, b.2)

/-- The event of two words (Table 4.1). -/
def evWords (a b : Nat) : Ev := ⟨BitVec.ofNat 32 a, BitVec.ofNat 32 (a / 2 ^ 32), BitVec.ofNat 32 b, BitVec.ofNat 32 (b / 2 ^ 32)⟩

section Two

variable {α : Type} (m i j : Nat) (f : Nat → Nat → α) (s : State)

theorem mdata_lt (m i : Nat) (s : State) : s.mdata m i < 2 ^ 64 := by
  unfold State.mdata
  split
  · exact BitVec.isLt _
  · exact BitVec.isLt _
  · decide

theorem readTwo_fst : (readTwo m i j f s).1 = if s.mok m i && s.mok m j then some (f (s.mdata m i) (s.mdata m j)) else none := by
  have hj := readWord_fst m j 0 (readWord m i 0 s).2
  rw [State.mok_congr (readWord_mcur m i 0 s _), State.mdata_congr (readWord_mcur m i 0 s _)] at hj
  unfold readTwo
  simp only [hj, readWord_fst m i 0 s]
  cases s.mok m i with
  | false => rfl
  | true =>
    cases s.mok m j with
    | false => rfl
    | true => simp only [Bool.and_self, if_true, BitVec.toNat_ofNat, Nat.mod_eq_of_lt (mdata_lt m _ s)]

theorem readTwo_snd : (readTwo m i j f s).2 = (readWord m j 0 (readWord m i 0 s).2).2 := by
  unfold readTwo
  dsimp only
  split <;> rfl

end Two

/-- A read of a descriptor answers what it holds. -/
theorem readDesc_fst (q : Nat) (s : State) : (readDesc q s).1 = getDesc s q := readTwo_fst 1 _ _ descOf s

theorem getDesc_of_readDesc {q : Nat} {s t : State} {d : Desc} (h : readDesc q s = (some d, t)) : getDesc s q = some d := by
  rw [← readDesc_fst, h]

theorem fits_of_readDesc {q : Nat} {s t : State} {d : Desc} (h : readDesc q s = (some d, t)) : d.Fits := by
  have hg := getDesc_of_readDesc h
  unfold getDesc at hg
  split at hg
  · cases hg
    exact descOf_fits _ _
  · contradiction

/-! ### Updates that do not bear on the memories -/

/-- A register field of the memory block. -/
abbrev MemFld (f : Fld) : Prop := f.key / 2 ^ 22 = 0x0606

/-- An update that neither reads nor writes what a read of the memories rests on or leaves. -/
structure MemBlind (g : State → State) : Prop where
  wr : ∀ s f v, MemFld f → g (s.wr f v) = (g s).wr f v
  upd : ∀ (s : State) (x : MemSt), g { s with mst := x } = { g s with mst := x }
  rd : ∀ s f, MemFld f → (g s).rd f = s.rd f
  mem : ∀ s, (g s).mem = s.mem
  mst : ∀ s, (g s).mst = s.mst
  bst : ∀ s, (g s).bst = s.bst

/-- Two keys listed in either order give one table. -/
theorem mapPut_comm {α : Type} (m : SMap α) {a b : Nat} (x y : α) (h : a ≠ b) :
    mapPut (mapPut m a x) b y = mapPut (mapPut m b y) a x := by
  induction m with
  | nil =>
    simp only [mapPut]
    grind
  | cons e r ih =>
    simp only [mapPut]
    grind [mapPut]

theorem State.wr_wr_comm (s : State) {f g : Fld} (v w : Nat) (h : f.key ≠ g.key) : (s.wr f v).wr g w = (s.wr g w).wr f v := by
  simp only [State.wr, mapPut_comm s.regs _ _ h]

namespace MemBlind

variable {g h : State → State}

/-- A write of a field of another block. -/
theorem wr_of_off (f : Fld) (v : Nat) (hf : ¬MemFld f) : MemBlind (fun s => s.wr f v) where
  wr s k w hk := State.wr_wr_comm s w v (by rintro e; exact hf (by rwa [MemFld, ← e]))
  upd _ _ := rfl
  rd s k hk := State.rd_wr_ne s f k v (by rintro e; exact hf (by rwa [MemFld, ← e]))
  mem _ := rfl
  mst _ := rfl
  bst _ := rfl

/-- An update of the queues' and the nibs' records. -/
theorem que_nib (φ : QueSt → NibSt → QueSt) (ψ : QueSt → NibSt → NibSt) :
    MemBlind (fun s => { s with que := φ s.que s.nib, nib := ψ s.que s.nib }) where
  wr _ _ _ _ := rfl
  upd _ _ := rfl
  rd _ _ _ := rfl
  mem _ := rfl
  mst _ := rfl
  bst _ := rfl

theorem mcur (hg : MemBlind g) (s : State) (k : Nat) : (g s).mcur k = s.mcur k :=
  State.mcur_congr (hg.mem s) (by rw [hg.mst]) (by rw [hg.mst]) (hg.bst s) k

theorem set1 (hg : MemBlind g) (s : State) {f : Fld} (hf : MemFld f) : (g s).set1 f = g (s.set1 f) := (hg.wr s f 1 hf).symm

theorem memCap (hg : MemBlind g) (k m a c : Nat) (s : State) : memCap k m a c (g s) = g (memCap k m a c s) := by
  unfold Machine.memCap
  rw [hg.rd s Fd.MEM_ERR_CAP_VALID rfl, hg.rd s Fd.MEM_ERR_CAP_KIND rfl]
  split
  · rw [← hg.wr _ Fd.MEM_ERR_CAP_ADDR _ rfl, ← hg.wr _ Fd.MEM_ERR_CAP_MEMID _ rfl, ← hg.wr _ Fd.MEM_ERR_CAP_KIND _ rfl,
      ← hg.wr _ Fd.MEM_ERR_CAP_MASTER _ rfl, hg.set1 _ (f := Fd.MEM_ERR_CAP_VALID) rfl]
  · rfl

theorem noteFixed (hg : MemBlind g) {m : Nat} (hm : m < 2) (i r : Nat) (s : State) : noteFixed m i r (g s) = g (noteFixed m i r s) := by
  have he : MemFld (Fd.MEM_ECNT_CORRECTED m) := by
    simp only [MemFld, Fld.key, Fd.MEM_ECNT_CORRECTED]
    omega
  have hc : fixedCounted m i r (g s) = g (fixedCounted m i r s) := by
    rw [fixedCounted, hg.set1 s (f := Fd.MEM_STAT_CE) rfl, State.incSat, hg.rd _ _ he, ← hg.wr _ _ _ he, hg.memCap]
    rfl
  rw [noteFixed_eq, noteFixed_eq, hc]
  generalize fixedCounted m i r s = t
  unfold fixedQueued
  rw [hg.mst]
  split
  · rfl
  · split
    · exact (hg.upd t _).symm
    · exact hg.set1 t (f := Fd.MEM_STAT_WB_DROP) rfl

/-- A read that delivers its word makes of an updated state the update of what it makes. -/
theorem readWord (hg : MemBlind g) {m i : Nat} (hm : m < 2) {s : State} (ho : s.mok m i = true) :
    (readWord m i 0 (g s)).2 = g (readWord m i 0 s).2 := by
  unfold Machine.readWord
  unfold State.mok at ho
  rw [hg.mcur]
  cases h : eccDecode (s.mcur (mkey m i)) with
  | clean d => rfl
  | fixed d => exact hg.noteFixed hm i 0 s
  | bad => simp [h] at ho

/-- Two words that a read delivers and leaves as they are, it does so after the update too. -/
theorem readTwo {α : Type} (hg : MemBlind g) {m i j : Nat} (hm : m < 2) {f : Nat → Nat → α} {s : State} {x : α}
    (hr : readTwo m i j f s = (some x, s)) : Machine.readTwo m i j f (g s) = (some x, g s) := by
  have h1 := congrArg Prod.fst hr
  have h2 := congrArg Prod.snd hr
  rw [readTwo_snd] at h2
  rw [readTwo_fst] at h1
  have hk : s.mok m i = true ∧ s.mok m j = true := by
    rw [← Bool.and_eq_true]
    by_contra hc
    rw [if_neg hc] at h1
    contradiction
  have hj : (Machine.readWord m i 0 s).2.mok m j = true := (State.mok_congr (readWord_mcur m i 0 s _)).trans hk.2
  refine Prod.ext ?_ ?_
  · rw [readTwo_fst, State.mok_congr (hg.mcur s _), State.mok_congr (hg.mcur s _), State.mdata_congr (hg.mcur s _),
      State.mdata_congr (hg.mcur s _)]
    exact h1
  · rw [readTwo_snd, hg.readWord hm hk.1, hg.readWord hm hj]
    exact congrArg g h2

theorem readDesc (hg : MemBlind g) {q : Nat} {s : State} {d : Desc} (h : readDesc q s = (some d, s)) :
    Machine.readDesc q (g s) = (some d, g s) := hg.readTwo (m := 1) (f := descOf) (by decide) h

theorem readEntry (hg : MemBlind g) {e : Nat} {s : State} {x : Ev} (h : readEntry e s = (some x, s)) :
    Machine.readEntry e (g s) = (some x, g s) := hg.readTwo (m := 0) (f := evWords) (by decide) h

theorem getDesc (hg : MemBlind g) (s : State) (q : Nat) : getDesc (g s) q = getDesc s q := getDesc_congr (hg.mcur s _) (hg.mcur s _)

theorem getEntry (hg : MemBlind g) (s : State) (e : Nat) : getEntry (g s) e = getEntry s e := getEntry_congr (hg.mcur s _) (hg.mcur s _)

theorem plain (hg : MemBlind g) {s : State} (h : s.plainMem) : (g s).plainMem :=
  ⟨by rw [State.rdB, hg.rd s Fd.MEM_INJ_ARMED rfl]; exact h.1, by rw [hg.bst]; exact h.2⟩

end MemBlind

end Sys2Proof.Machine

/-! What the queue commands and the engine's queue rows share: sources on an awake device, calm states, the report of a command, the halt
map, and what is left of the other queues (R20, R97 to R102, R301). -/

namespace Sys2Proof.Machine

set_option Elab.async false

open Sys2Proof

/-! ### Sources and calm states -/

theorem irqEvent_pwr_of_awake (i : Nat) {s : State} (ha : s.pwr.sleep = .awake) : (irqEvent i s).pwr = s.pwr := by
  have hw : ∀ t : State, t.pwr = s.pwr → (irqWake t i).pwr = s.pwr := fun t ht => by
    unfold irqWake
    split
    · rw [ht, ha]
      exact ht
    · exact ht
  unfold irqEvent
  split
  · split
    · rfl
    · exact hw _ (irqSetSrc_pwr _ _)
  · rfl
  · split
    · rfl
    · exact hw _ (irqSetSrc_pwr _ _)
  · rfl

/-- On an awake device a source event reaches the interrupt block alone. -/
theorem irqEvent_touches_of_awake (i : Nat) {s : State} (ha : s.pwr.sleep = .awake) : Touches [.irq] irqKeys s (irqEvent i s) := by
  have h := irqEvent_touches i s
  refine ⟨fun p hp => ?_, h.rd⟩
  by_cases hw : p = .pwr
  · exact hw ▸ irqEvent_pwr_of_awake i ha
  · exact h.part p (by simpa [hw] using hp)

theorem irqJudge_touches_of_awake (i : Nat) {s : State} (ha : s.pwr.sleep = .awake) : Touches [.irq] irqKeys s (irqJudge i s) := by
  unfold irqJudge
  split
  · exact .ite (fun _ => irqEvent_touches_of_awake i ha) (fun _ => .refl s)
  · exact .refl s

theorem State.awake_of_calm {s : State} (h : s.calm = true) : s.pwr.sleep = .awake := ((State.calm_iff s).1 h).2

theorem State.live_iff (s : State) : s.live = true ↔ sysOn s = true ∧ s.calm = true := by simp [State.live]

namespace Touches

variable {ps : List Part} {ks : List Keys} {s t : State}

/-- An update that keeps the parts and fields a calm state rests on. -/
theorem calm (h : Touches ps ks s t) (hc : s.calm = true) (hp : ∀ p ∈ ps, p ∉ [.sys, .saf, .net, .pwr] := by decide)
    (hk : [Fd.SAF_ACTIVE_ACTIVE, Fd.SYS_MODE_MODE, Fd.NET_SRDO_VALID_VALID].all (fun f => !ks.any (·.has f.key)) = true := by decide) :
    t.calm = true := by
  have rd : ∀ f, f ∈ [Fd.SAF_ACTIVE_ACTIVE, Fd.SYS_MODE_MODE, Fd.NET_SRDO_VALID_VALID] → t.rd f = s.rd f :=
    fun f hf => h.rd f (by simpa using List.all_eq_true.1 hk f hf)
  have part : ∀ p, p ∈ [Part.sys, .saf, .net, .pwr] → p.kept s t := fun p hm => h.part p (fun hc => hp p hc hm)
  have saf : t.saf = s.saf := part .saf (by decide)
  have net : t.net = s.net := part .net (by decide)
  have pwr : t.pwr = s.pwr := part .pwr (by decide)
  have sys : { t.sys with free := 0 } = { s.sys with free := 0 } := part .sys (by decide)
  have phase : t.sys.phase = s.sys.phase := by
    have h := congrArg SysSt.phase sys
    exact h
  have mode : t.mode = s.mode := rd _ (by decide)
  rw [State.calm_iff, State.quiet_iff] at hc ⊢
  rw [saf, net, pwr, phase, mode, rd Fd.SAF_ACTIVE_ACTIVE (by decide), rd Fd.NET_SRDO_VALID_VALID (by decide)]
  exact hc

/-- Registers, memory words and their bookkeeping, queue state and interrupt sources are all that differ. -/
theorem queFrame (h : Touches ps ks s t) (hp : ∀ p ∈ ps, p ∈ [.mem, .mst, .que, .irq] := by decide) : QueFrame s t := by
  have part : ∀ p, p ∉ [Part.mem, .mst, .que, .irq] → p.kept s t := fun p hm => h.part p (fun hc => hm (hp p hc))
  have sys : t.sys = s.sys := by
    have h0 : { t.sys with free := 0 } = { s.sys with free := 0 } := part .sys (by decide)
    have h1 : t.sys.free = s.sys.free := part .free (by decide)
    have h2 := congrArg (fun x : SysSt => { x with free := t.sys.free }) h0
    exact h2.trans (by rw [h1])
  have e1 : t.pending = s.pending := part .pending (by decide)
  have e2 : t.xmc = s.xmc := part .xmc (by decide)
  have e3 : t.afe = s.afe := part .afe (by decide)
  have e4 : t.nib = s.nib := part .nib (by decide)
  have e5 : t.chn = s.chn := part .chn (by decide)
  have e6 : t.scr = s.scr := part .scr (by decide)
  have e7 : t.fab = s.fab := part .fab (by decide)
  have e8 : t.cfg = s.cfg := part .cfg (by decide)
  have e9 : t.ufl = s.ufl := part .ufl (by decide)
  have e10 : t.net = s.net := part .net (by decide)
  have e11 : t.log = s.log := part .log (by decide)
  have e12 : t.pwr = s.pwr := part .pwr (by decide)
  have e13 : t.saf = s.saf := part .saf (by decide)
  have e14 : t.bst = s.bst := part .bst (by decide)
  have e15 : t.lcs = s.lcs := part .lcs (by decide)
  have e16 : t.jtag = s.jtag := part .jtag (by decide)
  rw [QueFrame, e1, sys, e2, e3, e4, e5, e6, e7, e8, e9, e10, e11, e12, e13, e14, e15, e16]

end Touches

/-! ### The halt map (R99) -/

theorem qState_of_halt {s : State} {q : Nat} {x : HaltMapE} (h : mapGet? s.que.halt q = some x) : qState s q = x.state := by
  rw [qState, h]

theorem qCause_of_halt {s : State} {q : Nat} {x : HaltMapE} (h : mapGet? s.que.halt q = some x) : qCause s q = x.cause := by
  rw [qCause, h]

theorem qState_of_unlisted {s : State} {q : Nat} (h : mapGet? s.que.halt q = none) : qState s q = 0 := by rw [qState, h]

theorem qState_congr {s t : State} {q : Nat} (h : mapGet? t.que.halt q = mapGet? s.que.halt q) : qState t q = qState s q := by
  rw [qState, qState, h]

theorem qCause_congr {s t : State} {q : Nat} (h : mapGet? t.que.halt q = mapGet? s.que.halt q) : qCause t q = qCause s q := by
  rw [qCause, qCause, h]

/-- What leaves the other queues' descriptors and entries of the halt map. -/
theorem otherQueues_of {q : Nat} {s t : State} (hd : ∀ r, r ≠ q → getDesc t r = getDesc s r)
    (hh : ∀ r, r ≠ q → mapGet? t.que.halt r = mapGet? s.que.halt r) : OtherQueues q s t :=
  fun r hr _ => ⟨hd r hr, qState_congr (hh r hr), qCause_congr (hh r hr)⟩

/-- What the ports see of the memories after an update of other parts. -/
theorem Touches.mcur {ps : List Part} {ks : List Keys} {s t : State} (h : Touches ps ks s t)
    (hp : ∀ p ∈ ps, p ∉ [.mem, .mst, .bst] := by decide) (k : Nat) : t.mcur k = s.mcur k := by
  have mem : t.mem = s.mem := h.part .mem (fun hc => hp _ hc (by decide))
  have mst : t.mst = s.mst := h.part .mst (fun hc => hp _ hc (by decide))
  have bst : t.bst = s.bst := h.part .bst (fun hc => hp _ hc (by decide))
  exact State.mcur_congr mem (by rw [mst]) (by rw [mst]) bst k

theorem Touches.getDesc {ps : List Part} {ks : List Keys} {s t : State} (h : Touches ps ks s t)
    (hp : ∀ p ∈ ps, p ∉ [.mem, .mst, .bst] := by decide) (q : Nat) : getDesc t q = getDesc s q :=
  getDesc_congr (h.mcur hp _) (h.mcur hp _)

theorem Touches.getEntry {ps : List Part} {ks : List Keys} {s t : State} (h : Touches ps ks s t)
    (hp : ∀ p ∈ ps, p ∉ [.mem, .mst, .bst] := by decide) (e : Nat) : getEntry t e = getEntry s e :=
  getEntry_congr (h.mcur hp _) (h.mcur hp _)

/-! ### The report of a queue command (R20, R98) -/

/-- The registers of the QUE block and what a source event writes. -/
abbrev queKeys : List Keys := .blk 0x0601 :: irqKeys

/-- QUE_CMD_STAT shows the end of a command on a queue with a status. -/
def QueReports (q st : Nat) (t : State) : Prop :=
  t.rd Fd.QUE_CMD_STAT_STATUS = st ∧ t.rd Fd.QUE_CMD_STAT_BUSY = 0 ∧ t.rd Fd.QUE_CMD_STAT_QUEUE = q

theorem queStatus_touches (q st : Nat) {s : State} (ha : s.pwr.sleep = .awake) : Touches [.irq] queKeys s (queStatus q st s) :=
  .trans (.trans (.trans (.wr s Fd.QUE_CMD_STAT_STATUS st) (.wr _ Fd.QUE_CMD_STAT_BUSY 0)) (.wr _ Fd.QUE_CMD_STAT_QUEUE q))
    (irqEvent_touches_of_awake 161 (by exact ha)).mono

theorem queStatus_reports {q st : Nat} (hq : q < 65536) (hst : st < 256) (s : State) : QueReports q st (queStatus q st s) := by
  have h : ∀ (t : State) (f : Fld), irqKeys.any (·.has f.key) = false → (irqEvent 161 t).rd f = t.rd f :=
    fun t f hf => (irqEvent_touches 161 t).rd f hf
  unfold queStatus
  refine ⟨?_, ?_, ?_⟩
  · rw [h _ _ (by decide), State.rd_wr_ne _ _ _ _ (by decide), State.clr, State.rd_wr_ne _ _ _ _ (by decide)]
    exact State.rd_wr_lt _ _ _ hst
  · rw [h _ _ (by decide), State.rd_wr_ne _ _ _ _ (by decide), State.rd_clr]
  · rw [h _ _ (by decide)]
    exact State.rd_wr_lt _ _ _ hq

@[simp] theorem queStatus_que (q st : Nat) (s : State) : (queStatus q st s).que = s.que := irqEvent_que _ _
@[simp] theorem queStatus_nib (q st : Nat) (s : State) : (queStatus q st s).nib = s.nib := irqEvent_nib _ _
@[simp] theorem queStatus_mem (q st : Nat) (s : State) : (queStatus q st s).mem = s.mem := irqEvent_mem _ _

/-- A queue command that is taken shows its queue and acts (R20). -/
theorem queCmd_of_free {s : State} (hb : s.rdB Fd.QUE_CMD_STAT_BUSY = false) (q : Nat) (f : State → State) :
    queCmd q f s = f (s.wr Fd.QUE_CMD_STAT_QUEUE q) := by
  rw [queCmd, hb]
  rfl

section Command

variable {s : State} (hl : s.live = true)
include hl

/-- A command that leaves a calm state ends there. -/
theorem sysRun_of_live (f : State → State) (hc : (f s).calm = true) : sysRun f s = .next (f s) :=
  gated_of_calm sysOn f s ((State.live_iff s).1 hl).1 hc

theorem engRun_of_live (f : State → State) (hc : (f s).calm = true) : engRun f s = .next (f s) :=
  gated_of_calm engOn f s (engOn_of_sysOn s ((State.live_iff s).1 hl).1) hc

/-- A queue command that is taken and comes to its report answers the state that shows it. -/
theorem queCmd_answers (hb : s.rdB Fd.QUE_CMD_STAT_BUSY = false) {q st : Nat} {f : State → State} {u : State} {ps : List Part}
    (he : f (s.wr Fd.QUE_CMD_STAT_QUEUE q) = queStatus q st u) (ht : Touches ps [.blk 0x0601] (s.wr Fd.QUE_CMD_STAT_QUEUE q) u)
    (hp : ∀ p ∈ ps, p ∉ [.sys, .saf, .net, .pwr] := by decide) :
    sysRun (queCmd q f) s = .next (queStatus q st u) ∧ Touches [.irq] queKeys u (queStatus q st u) ∧
    Touches (.irq :: ps) queKeys s (queStatus q st u) := by
  have hc := ((State.live_iff s).1 hl).2
  have h0 : Touches ps [.blk 0x0601] s u := .trans (.wr s Fd.QUE_CMD_STAT_QUEUE q) ht
  have hu : u.calm = true := h0.calm hc hp
  have h1 := queStatus_touches q st (State.awake_of_calm hu)
  refine ⟨?_, h1, .trans (h0.mono (fun p hm => List.mem_cons_of_mem _ hm)) (h1.mono (fun p hm => by simp_all))⟩
  have e : queCmd q f s = queStatus q st u := by rw [queCmd_of_free hb, he]
  have hcalm : (queCmd q f s).calm = true := by
    rw [e]
    exact h1.calm hu
  rw [sysRun_of_live hl _ hcalm, e]

end Command

end Sys2Proof.Machine

/-! The queue commands INIT, RESUME, PAUSE, DISABLE and SET_LATE, and the end of a drain (R97 to R99, Table 4.9). -/

namespace Sys2Proof.Machine

set_option Elab.async false

open Sys2Proof

/-! ### Descriptors and the halt map under the commands' updates -/

@[simp] theorem putDesc_que (q : Nat) (d : Desc) (s : State) : (putDesc q d s).que = s.que := (putDesc_touches q d s).part .que (by decide)
@[simp] theorem putDesc_nib (q : Nat) (d : Desc) (s : State) : (putDesc q d s).nib = s.nib := (putDesc_touches q d s).part .nib (by decide)

@[simp] theorem setHalt_halt {st : Nat} (h : st ≠ 0) (q cause : Nat) (s : State) :
    (setHalt q st cause s).que.halt = mapPut s.que.halt q ⟨st, cause, 0⟩ := if_neg h

/-- The descriptor of a queue is written, each field cut to its width, and no other queue's. -/
structure DescTo (q : Nat) (d : Desc) (s u : State) : Prop where
  desc : getDesc u q = some d.cut
  others : ∀ r, r ≠ q → getDesc u r = getDesc s r

/-- A descriptor is written, and then parts beside the memories are updated. -/
theorem descTo_of_put {s u : State} {q : Nat} {d : Desc} {ps : List Part} {ks : List Keys} (hp : s.plainMem) (hq : q < 65536)
    (h : Touches ps ks (putDesc q d s) u) (hm : ∀ p ∈ ps, p ∉ [.mem, .mst, .bst] := by decide) : DescTo q d s u :=
  ⟨(h.getDesc hm q).trans (getDesc_putDesc hp hq d), fun r hr => (h.getDesc hm r).trans (getDesc_putDesc_ne hp hq d hr)⟩

namespace DescTo

variable {q : Nat} {d : Desc} {s t u v : State}

theorem otherQueues (h : DescTo q d s u) (hh : ∀ r, r ≠ q → mapGet? u.que.halt r = mapGet? s.que.halt r) : OtherQueues q s u :=
  otherQueues_of h.others hh

/-- The descriptor is seen so from a state with the same memories, and after an update beside them. -/
theorem of_touches {ps qs : List Part} {ks ls : List Keys} (h : DescTo q d t u) (g : Touches ps ks s t) (k : Touches qs ls u v)
    (hm : ∀ p ∈ ps, p ∉ [.mem, .mst, .bst] := by decide) (hk : ∀ p ∈ qs, p ∉ [.mem, .mst, .bst] := by decide) : DescTo q d s v :=
  ⟨(k.getDesc hk q).trans h.desc, fun r hr => (k.getDesc hk r).trans ((h.others r hr).trans (g.getDesc hm r))⟩

end DescTo

theorem mapPut_others {s u : State} {q : Nat} {x : HaltMapE} (h : u.que.halt = mapPut s.que.halt q x) (r : Nat) (hr : r ≠ q) :
    mapGet? u.que.halt r = mapGet? s.que.halt r := by rw [h, mapGet?_mapPut_ne _ _ _ _ hr]

theorem mapDel_others {s u : State} {q : Nat} (h : u.que.halt = mapDel s.que.halt q) (r : Nat) (hr : r ≠ q) :
    mapGet? u.que.halt r = mapGet? s.que.halt r := by rw [h, mapGet?_mapDel_ne _ _ _ hr]

theorem mapPut_shows {s u : State} {q : Nat} {x : HaltMapE} (h : u.que.halt = mapPut s.que.halt q x) :
    qState u q = x.state ∧ qCause u q = x.cause := by
  have hg : mapGet? u.que.halt q = some x := by rw [h, mapGet?_mapPut_self]
  exact ⟨qState_of_halt hg, qCause_of_halt hg⟩

/-! ### INIT -/

/-- The ring of QUE_INIT_CFG0 is within bounds and aligned, and its granules are free. -/
def InitFits (s : State) : Prop :=
  2 ≤ s.rd Fd.QUE_INIT_CFG0_LOG2LEN ∧ s.rd Fd.QUE_INIT_CFG0_LOG2LEN ≤ 16 ∧
  s.rd Fd.QUE_INIT_CFG0_BASE % 2 ^ s.rd Fd.QUE_INIT_CFG0_LOG2LEN = 0 ∧
  s.que.alloc &&& granMask (s.rd Fd.QUE_INIT_CFG0_BASE) (s.rd Fd.QUE_INIT_CFG0_LOG2LEN) = 0

theorem ringOk_granFree_iff (s : State) (base log2 : Nat) : (ringOk base log2 && granFree s base log2) = true ↔
    2 ≤ log2 ∧ log2 ≤ 16 ∧ base % 2 ^ log2 = 0 ∧ s.que.alloc &&& granMask base log2 = 0 := by
  simp [ringOk, granFree, and_assoc]

/-- The descriptor INIT makes of QUE_INIT_CFG0 and QUE_INIT_CFG1. -/
def initDesc (s : State) : Desc :=
  ⟨s.rd Fd.QUE_INIT_CFG0_BASE, s.rd Fd.QUE_INIT_CFG0_LOG2LEN, 0, 0, 0, 0, 2, s.rd Fd.QUE_INIT_CFG1_LATE, s.rd Fd.QUE_INIT_CFG1_DIR,
   s.rd Fd.QUE_INIT_CFG1_GROUP, s.rd Fd.QUE_INIT_CFG1_CPL, s.rd Fd.QUE_INIT_CFG1_PROD, s.rd Fd.QUE_INIT_CFG1_OWNER, 0⟩

/-- The queue is PAUSED with an empty ring, and nothing is kept of an earlier use. -/
def queInited (q : Nat) (s : State) : State :=
  let s1 := setHalt q 2 0 (granTake (s.rd Fd.QUE_INIT_CFG0_BASE) (s.rd Fd.QUE_INIT_CFG0_LOG2LEN) (putDesc q (initDesc s) s))
  { s1 with
    que := { s1.que with retired := setDel s1.que.retired q, barAt := mapDel s1.que.barAt q }
    nib := { s1.nib with lastFire := mapDel s1.nib.lastFire q } }

section Init

variable {s : State} {q : Nat}

theorem queInit_of_inUse (h : qState s q ≠ 0) : queInit q s = queStatus q St.refusedMode s := if_pos h

theorem queInit_of_unfit (h : qState s q = 0) (hf : ¬InitFits s) : queInit q s = queStatus q St.range s := by
  rw [InitFits, ← ringOk_granFree_iff] at hf
  rw [queInit, if_neg (not_not_intro h)]
  exact if_pos (by simpa [← Bool.not_and] using hf)

theorem queInit_of_fit (h : qState s q = 0) (hf : InitFits s) : queInit q s = queStatus q St.ok (queInited q s) := by
  rw [InitFits, ← ringOk_granFree_iff] at hf
  rw [queInit, if_neg (not_not_intro h)]
  exact if_neg (by simpa [← Bool.not_and] using hf)

theorem queInited_que (s : State) (q : Nat) : (queInited q s).que.halt = mapPut s.que.halt q ⟨2, 0, 0⟩ ∧
    (queInited q s).que.alloc = s.que.alloc ||| granMask (s.rd Fd.QUE_INIT_CFG0_BASE) (s.rd Fd.QUE_INIT_CFG0_LOG2LEN) := by
  rw [← putDesc_que q (initDesc s) s]
  exact ⟨rfl, rfl⟩

theorem queInited_of_put (s : State) (q : Nat) : Touches [.que, .nib] [] (putDesc q (initDesc s) s) (queInited q s) :=
  .of_puts [.que, .nib]

theorem queInited_touches (hp : s.plainMem) (hq : q < 65536) : Touches [.mem, .mst, .que, .nib] [.blk 0x0601] s (queInited q s) :=
  .trans (putDesc_touches_mem hp hq _).mono (queInited_of_put s q).mono

theorem queInited_descTo (hp : s.plainMem) (hq : q < 65536) : DescTo q (initDesc s) s (queInited q s) :=
  descTo_of_put hp hq (queInited_of_put s q)

end Init

/-! ### RESUME -/

/-- The queue runs. -/
def queResumed (q : Nat) (d : Desc) (s : State) : State := setHalt q 1 d.cause (putDesc q { d with state := 1 } s)

section Clean

variable {s : State} {q : Nat} {d : Desc} (hr : readDesc q s = (some d, s))
include hr

theorem queResume_of_empty (h : qState s q = 2) (he : d.pidx = d.cidx) : queResume q s = queStatus q St.ok (queResumed q d s) := by
  have hn : pendingOf d = 0 := by simp [pendingOf, ringDiff, he]
  unfold queResume
  rw [if_neg (by rw [h]; exact fun hc => absurd hc.1 (by decide)), if_neg (not_not_intro h), hr]
  exact if_pos hn

/-! ### PAUSE -/

theorem qSetState_of_clean (st cause : Nat) :
    qSetState q st cause s = setHalt q st cause (putDesc q { d with state := st, cause := cause } s) := by
  rw [qSetState, withDesc, hr]

omit hr in
/-- Where a queue holds locked nibs alone, its retraction withdraws what waits to be armed. -/
theorem retractQueue_of_locked (h : ∀ e ∈ s.nib.nibs, e.2.queue = q → e.2.mode = .locked) : retractQueue q s = withdraw q s := by
  have hg : s.nib.nibs.filter (fun e => e.2.queue == q && e.2.mode != NibMode.locked) = [] := by
    refine List.filter_eq_nil_iff.2 (fun e he => ?_)
    by_cases hq : e.2.queue = q
    · simp [h e he hq]
    · simp [hq]
  unfold retractQueue retractWhere
  rw [hg]
  rfl

omit hr in
theorem locked_of_drained (h : queueDrained s q = true) : ∀ e ∈ s.nib.nibs, e.2.queue = q → e.2.mode = .locked := by
  intro e he hq
  simp only [queueDrained, Bool.and_eq_true, Bool.not_eq_true', List.any_eq_false, beq_iff_eq] at h
  exact absurd hq (h.1.1 e he)

/-- The queue is PAUSED with a cause, and nothing of it waits to be armed. -/
def quePaused (q cause : Nat) (d : Desc) (s : State) : State :=
  withdraw q (setHalt q 2 cause (putDesc q { d with state := 2, cause := cause } s))

theorem quePause_of_locked (h : qState s q = 1) (hn : ∀ e ∈ s.nib.nibs, e.2.queue = q → e.2.mode = .locked) :
    quePause q s = queWait 2 q (queStatus q St.ok) (quePaused q 1 d s) := by
  have hm : ∀ e ∈ (setHalt q 2 1 (putDesc q { d with state := 2, cause := 1 } s)).nib.nibs, e.2.queue = q → e.2.mode = .locked := by
    rw [show (setHalt q 2 1 (putDesc q { d with state := 2, cause := 1 } s)).nib = s.nib from putDesc_nib _ _ s]
    exact hn
  unfold quePause
  rw [if_neg (not_not_intro h), hr]
  show queWait 2 q (queStatus q St.ok) (retractQueue q (qSetState q 2 1 s)) = _
  rw [qSetState_of_clean hr, retractQueue_of_locked hm]
  rfl

end Clean

section Wait

variable {s : State} {q : Nat}

theorem queWait_of_drained (h : queueDrained s q = true) (op : Nat) (fin : State → State) : queWait op q fin s = fin s := if_pos h

theorem queWait_of_held (h : queueDrained s q = false) (op : Nat) (fin : State → State) :
    queWait op q fin s = { s.set1 Fd.QUE_CMD_STAT_BUSY with que := { s.que with cmd := some ⟨op, q⟩ } } := if_neg (by simp [h])

/-- Whether a queue holds nibs rests on the nibs alone; what is withdrawn does not bear on a queue that holds none. -/
theorem queueDrained_congr {t : State} (h : t.nib = s.nib) : queueDrained t q = queueDrained s q := by rw [queueDrained, queueDrained, h]

theorem withdraw_nib_of_drained (h : queueDrained s q = true) : (withdraw q s).nib = s.nib := by
  simp only [queueDrained, Bool.and_eq_true, Bool.not_eq_true', List.any_eq_false] at h
  have hf : s.nib.arming.filter (fun n => n.queue != q) = s.nib.arming :=
    List.filter_eq_self.2 (fun n hn => by simpa using h.2 n hn)
  show { s.nib with arming := s.nib.arming.filter (fun n => n.queue != q) } = s.nib
  rw [hf]

theorem withdraw_nib_of_none (h : s.nib.arming = []) : (withdraw q s).nib = s.nib := by
  show { s.nib with arming := s.nib.arming.filter (fun n => n.queue != q) } = s.nib
  rw [h, List.filter_nil, ← h]

theorem withdraw_blind (q : Nat) : MemBlind (withdraw q) :=
  .que_nib (fun x _ => { x with dropPend := mapDel x.dropPend q }) (fun _ n => { n with arming := n.arming.filter (fun n => n.queue != q) })

theorem withdraw_touches (q : Nat) (s : State) : Touches [.que, .nib] [] s (withdraw q s) := .of_puts [.que, .nib]

end Wait

section Paused

variable (q cause : Nat) (d : Desc) (s : State)

theorem quePaused_of_put : Touches [.que, .nib] [] (putDesc q { d with state := 2, cause := cause } s) (quePaused q cause d s) :=
  .of_puts [.que, .nib]

theorem quePaused_halt : (quePaused q cause d s).que.halt = mapPut s.que.halt q ⟨2, cause, 0⟩ := by
  rw [← putDesc_que q { d with state := 2, cause := cause } s]
  rfl

theorem quePaused_nib : (quePaused q cause d s).nib = (withdraw q s).nib := by
  have h : (putDesc q { d with state := 2, cause := cause } s).nib = s.nib := putDesc_nib _ _ _
  exact congrArg (fun n : NibSt => { n with arming := n.arming.filter (fun n => n.queue != q) }) h

end Paused

/-! ### DISABLE -/

/-- The queue is DISABLED without events, and nothing is kept of its use. -/
def queDisabled (q : Nat) (d : Desc) (s : State) : State :=
  let t := setHalt q 0 0 (granGive d.base d.log2 (putDesc q { d with state := 0, sidx := d.cidx, pidx := d.cidx, armed := 0 } s))
  { t with
    que := { t.que with
      barAt := mapDel t.que.barAt q
      retired := setDel t.que.retired q
      dropPend := mapDel t.que.dropPend q }
    nib := { t.nib with lastFire := mapDel t.nib.lastFire q } }

section Disable

variable {s : State} {q : Nat} {d : Desc} (hr : readDesc q s = (some d, s))
include hr

theorem disableEnd_of_clean (h : qState s q = 2) : disableEnd q s = queStatus q St.ok (queDisabled q d s) := by
  unfold disableEnd
  extract_lets fin
  rw [if_neg (by rw [h]; exact fun hc => absurd hc.2 (by decide)), hr]
  rfl

theorem queDisable_of_drained (h : qState s q = 2) (hd : queueDrained s q = true) :
    queDisable q s = queStatus q St.ok (queDisabled q d (withdraw q s)) := by
  have hw : queueDrained (withdraw q s) q = true := by rw [queueDrained_congr (withdraw_nib_of_drained hd), hd]
  unfold queDisable
  rw [if_neg (fun hc => hc.1 h), if_neg (by rw [h]; exact fun hc => absurd hc.2 (by decide)), hr]
  show queWait 4 q (disableEnd q) (retractQueue q s) = _
  rw [retractQueue_of_locked (locked_of_drained hd), queWait_of_drained hw,
    disableEnd_of_clean ((withdraw_blind q).readDesc hr) h]

end Disable

section Disabled

variable (q : Nat) (d : Desc) (s : State)

theorem queDisabled_of_put :
    Touches [.que, .nib] [] (putDesc q { d with state := 0, sidx := d.cidx, pidx := d.cidx, armed := 0 } s) (queDisabled q d s) :=
  .of_puts [.que, .nib]

theorem queDisabled_que : (queDisabled q d s).que.halt = mapDel s.que.halt q ∧
    (queDisabled q d s).que.alloc = s.que.alloc ^^^ (s.que.alloc &&& granMask d.base d.log2) := by
  rw [← putDesc_que q { d with state := 0, sidx := d.cidx, pidx := d.cidx, armed := 0 } s]
  exact ⟨rfl, rfl⟩

/-- The granules of a ring that is freed are free. -/
theorem xor_and_and (a m : Nat) : (a ^^^ (a &&& m)) &&& m = 0 := by
  apply Nat.eq_of_testBit_eq
  intro i
  simp only [Nat.testBit_and, Nat.testBit_xor, Nat.zero_testBit]
  cases a.testBit i <;> cases m.testBit i <;> rfl

end Disabled

/-! ### SET_LATE and the end of a drain -/

theorem queSetLate_of_clean {s : State} {q : Nat} {d : Desc} (hr : readDesc q s = (some d, s)) (h0 : qState s q ≠ 0)
    (h8 : ¬(qState s q = 3 ∧ qCause s q = 8)) (late : Nat) :
    queSetLate q late s = queStatus q St.ok (putDesc q { d with late := late % 4 } s) := by
  unfold queSetLate
  rw [if_neg (by tauto), hr]

/-- A pause whose queue holds no nib any more is complete. -/
theorem drainDone_of_drained {s : State} {q : Nat} (hc : s.que.cmd = some ⟨2, q⟩) (hd : queueDrained s q = true) :
    drainDone s = queStatus q St.ok { s with que := { s.que with cmd := none } } := by
  unfold drainDone
  rw [hc]
  exact (if_pos hd).trans (if_neg (show ¬(2 = 4) by decide))

end Sys2Proof.Machine

/-! What the queue commands answer, and the obligation on INIT, RESUME, PAUSE, DISABLE and SET_LATE (R97 to R99, Table 4.9). -/

namespace Sys2Proof.Machine

set_option Elab.async false

open Sys2Proof

/-! ### A command that is taken -/

/-- A queue command has shown its queue. -/
abbrev queTook (q : Nat) (s : State) : State := s.wr Fd.QUE_CMD_STAT_QUEUE q

theorem queTook_blind (q : Nat) : MemBlind (queTook q) := .wr_of_off _ _ (by decide)

theorem queTook_touches (q : Nat) (s : State) : Touches [] [.blk 0x0601] s (queTook q s) := .wr s _ q

theorem queTook_rd (q : Nat) (s : State) (f : Fld) (h : f.key ≠ Fd.QUE_CMD_STAT_QUEUE.key := by decide) : (queTook q s).rd f = s.rd f :=
  State.rd_wr_ne s _ f q h

theorem initFits_queTook (q : Nat) (s : State) : InitFits (queTook q s) ↔ InitFits s := by
  unfold InitFits
  rw [queTook_rd q s Fd.QUE_INIT_CFG0_LOG2LEN, queTook_rd q s Fd.QUE_INIT_CFG0_BASE]
  rfl

section Answers

variable {s : State} (hl : s.live = true) {q : Nat} (hq : q < 65536) (hb : s.rdB Fd.QUE_CMD_STAT_BUSY = false)
include hl hq hb

/-- A queue command that is refused changes no queue. -/
theorem queCmd_refused {f : State → State} {st : Nat} (hst : st < 256) (he : f (queTook q s) = queStatus q st (queTook q s)) :
    ∃ t, sysRun (queCmd q f) s = .next t ∧ QueReports q st t ∧ t.que = s.que ∧ t.mem = s.mem := by
  obtain ⟨hx, -⟩ := queCmd_answers hl hb he (.refl (ps := []) _)
  exact ⟨_, hx, queStatus_reports hq hst _, queStatus_que _ _ _, queStatus_mem _ _ _⟩

/-- A queue command that writes its queue's descriptor and reports OK. -/
theorem queCmd_writes {f : State → State} {u : State} {d : Desc} {ps : List Part} (he : f (queTook q s) = queStatus q St.ok u)
    (ht : Touches ps [.blk 0x0601] (queTook q s) u) (hd : DescTo q d (queTook q s) u)
    (hp : ∀ p ∈ ps, p ∉ [.sys, .saf, .net, .pwr] := by decide) :
    ∃ t, sysRun (queCmd q f) s = .next t ∧ QueReports q 0 t ∧ DescTo q d s t ∧ t.que = u.que ∧ Touches (.irq :: ps) queKeys s t := by
  obtain ⟨hx, h, hs⟩ := queCmd_answers hl hb he ht hp
  exact ⟨_, hx, queStatus_reports hq (by decide) u, hd.of_touches (queTook_touches q s) h, queStatus_que _ _ _, hs⟩

end Answers

/-! ### The obligation -/

section Commands

variable {s : State} (hl : s.live = true) (hp : s.plainMem) {q : Nat} (hq : q < 65536) (hb : s.rdB Fd.QUE_CMD_STAT_BUSY = false)
include hl hp hq hb

/-- INIT makes a DISABLED queue PAUSED. -/
theorem queInit_answers (h : qState s q = 0) (hf : InitFits s) : ∃ t, exec (.queInit q) s = .next t ∧ QueReports q 0 t ∧
    getDesc t q = some (initDesc s).cut ∧ qState t q = 2 ∧ qCause t q = 0 ∧
    t.que.alloc = s.que.alloc ||| granMask (s.rd Fd.QUE_INIT_CFG0_BASE) (s.rd Fd.QUE_INIT_CFG0_LOG2LEN) ∧ OtherQueues q s t := by
  have hp' := (queTook_blind q).plain hp
  obtain ⟨t, hx, hr, hd, hque, -⟩ := queCmd_writes hl hq hb (queInit_of_fit h ((initFits_queTook q s).2 hf)) (queInited_touches hp' hq)
    (queInited_descTo hp' hq)
  obtain ⟨hh, ha⟩ := queInited_que (queTook q s) q
  rw [← hque] at hh ha
  obtain ⟨h2, hc⟩ := mapPut_shows (s := s) hh
  refine ⟨t, hx, hr, ?_, h2, hc, ?_, hd.otherQueues (mapPut_others hh)⟩
  · rw [hd.desc]
    simp only [initDesc, queTook_rd q s Fd.QUE_INIT_CFG0_LOG2LEN, queTook_rd q s Fd.QUE_INIT_CFG0_BASE, queTook_rd q s Fd.QUE_INIT_CFG1_LATE,
      queTook_rd q s Fd.QUE_INIT_CFG1_DIR, queTook_rd q s Fd.QUE_INIT_CFG1_GROUP, queTook_rd q s Fd.QUE_INIT_CFG1_CPL,
      queTook_rd q s Fd.QUE_INIT_CFG1_PROD, queTook_rd q s Fd.QUE_INIT_CFG1_OWNER]
  · rw [ha, queTook_rd q s Fd.QUE_INIT_CFG0_LOG2LEN, queTook_rd q s Fd.QUE_INIT_CFG0_BASE]
    rfl

variable {d : Desc} (hr : readDesc q s = (some d, s))
include hr

/-- RESUME makes a PAUSED queue with an empty ring RUNNING. -/
theorem queResume_answers (h : qState s q = 2) (he : d.pidx = d.cidx) : ∃ t, exec (.queResume q) s = .next t ∧ QueReports q 0 t ∧
    qState t q = 1 ∧ getDesc t q = some { d with state := 1 } ∧ OtherQueues q s t ∧ QueFrame s t := by
  have hp' := (queTook_blind q).plain hp
  have hf := fits_of_readDesc hr
  have hw : Touches [.que] [] (putDesc q { d with state := 1 } (queTook q s)) (queResumed q d (queTook q s)) := .of_puts [.que]
  obtain ⟨t, hx, hrep, hd, hque, ht⟩ := queCmd_writes hl hq hb (queResume_of_empty ((queTook_blind q).readDesc hr) h he)
    (.trans (putDesc_touches_mem hp' hq _).mono (hw.mono (qs := [.mem, .mst, .que]))) (descTo_of_put hp' hq hw)
  have hh : t.que.halt = mapPut s.que.halt q ⟨1, d.cause, 0⟩ := by
    rw [hque, queResumed, setHalt_halt (by decide), putDesc_que]
    rfl
  exact ⟨t, hx, hrep, (mapPut_shows hh).1, hd.desc.trans (congrArg some (Desc.Fits.cut { hf with state := (by decide : 1 < 2 ^ 2) })),
    hd.otherQueues (mapPut_others hh), ht.queFrame⟩

/-- PAUSE of a RUNNING queue that holds no nib. -/
theorem quePause_answers (h : qState s q = 1) (hn : queueDrained s q = true) : ∃ t, exec (.quePause q) s = .next t ∧ QueReports q 0 t ∧
    qState t q = 2 ∧ qCause t q = 1 ∧ getDesc t q = some { d with state := 2, cause := 1 } ∧ OtherQueues q s t := by
  have hp' := (queTook_blind q).plain hp
  have hf := fits_of_readDesc hr
  have hw := quePaused_of_put q 1 d (queTook q s)
  have hn' : queueDrained (quePaused q 1 d (queTook q s)) q = true := by
    rw [queueDrained_congr ((quePaused_nib q 1 d (queTook q s)).trans (withdraw_nib_of_drained hn))]
    exact hn
  obtain ⟨t, hx, hrep, hd, hque, -⟩ := queCmd_writes (d := { d with state := 2, cause := 1 }) hl hq hb
    ((quePause_of_locked ((queTook_blind q).readDesc hr) h (locked_of_drained hn)).trans (queWait_of_drained hn' 2 _))
    (.trans (putDesc_touches_mem hp' hq _).mono (hw.mono (qs := [.mem, .mst, .que, .nib]))) (descTo_of_put hp' hq hw)
  have hh : t.que.halt = mapPut s.que.halt q ⟨2, 1, 0⟩ := by
    rw [hque, quePaused_halt]
    rfl
  obtain ⟨h2, hc⟩ := mapPut_shows hh
  exact ⟨t, hx, hrep, h2, hc, hd.desc.trans (congrArg some (Desc.Fits.cut { hf with state := (by decide : 2 < 2 ^ 2), cause := (by decide : 1 < 2 ^ 4) })),
    hd.otherQueues (mapPut_others hh)⟩

/-- PAUSE of a RUNNING queue that holds a locked nib waits. -/
theorem quePause_waits (h : qState s q = 1) (ha : s.nib.arming = []) (hn : ∀ e ∈ s.nib.nibs, e.2.queue = q → e.2.mode = .locked)
    (hd : queueDrained s q = false) : ∃ t, exec (.quePause q) s = .next t ∧ t.rd Fd.QUE_CMD_STAT_BUSY = 1 ∧ t.que.cmd = some ⟨2, q⟩ ∧
    qState t q = 2 ∧ t.nib = s.nib := by
  have hp' := (queTook_blind q).plain hp
  have hw := quePaused_of_put q 1 d (queTook q s)
  have hnib : (quePaused q 1 d (queTook q s)).nib = s.nib := (quePaused_nib q 1 d _).trans (withdraw_nib_of_none ha)
  have hheld : queueDrained (quePaused q 1 d (queTook q s)) q = false := (queueDrained_congr hnib).trans hd
  have he := (quePause_of_locked ((queTook_blind q).readDesc hr) h hn).trans (queWait_of_held hheld 2 _)
  generalize hu : quePaused q 1 d (queTook q s) = u at *
  have ht : Touches [.mem, .mst, .que, .nib] [.blk 0x0601] s u :=
    .trans (queTook_touches q s).mono (.trans (putDesc_touches_mem hp' hq _).mono hw.mono)
  have hb1 : Touches [.que] [.blk 0x0601] u { u.set1 Fd.QUE_CMD_STAT_BUSY with que := { u.que with cmd := some ⟨2, q⟩ } } :=
    .trans (.wr u Fd.QUE_CMD_STAT_BUSY 1) (.of_puts [.que])
  have hcalm := (ht.trans hb1.mono).calm ((State.live_iff s).1 hl).2
  refine ⟨_, (sysRun_of_live hl _ ?_).trans (congrArg _ ((queCmd_of_free hb q _).trans he)), State.rd_set1 u Fd.QUE_CMD_STAT_BUSY, rfl, ?_, hnib⟩
  · rw [queCmd_of_free hb, he]
    exact hcalm
  · have hh : u.que.halt = mapPut s.que.halt q ⟨2, 1, 0⟩ := by
      rw [← hu, quePaused_halt]
      rfl
    exact (mapPut_shows hh).1

/-- DISABLE of a PAUSED queue that holds no nib. -/
theorem queDisable_answers (h : qState s q = 2) (hn : queueDrained s q = true) : ∃ t, exec (.queDisable q) s = .next t ∧ QueReports q 0 t ∧
    qState t q = 0 ∧ t.que.alloc &&& granMask d.base d.log2 = 0 ∧
    getDesc t q = some { d with state := 0, sidx := d.cidx, pidx := d.cidx, armed := 0 } ∧ OtherQueues q s t := by
  have hf := fits_of_readDesc hr
  have hp' := (withdraw_blind q).plain ((queTook_blind q).plain hp)
  have hw := queDisabled_of_put q d (withdraw q (queTook q s))
  have hwd := withdraw_touches q (queTook q s)
  have hd0 := (descTo_of_put hp' hq hw).of_touches hwd (.refl (ps := []) (ks := []) _)
  obtain ⟨t, hx, hrep, hd, hque, -⟩ := queCmd_writes hl hq hb (queDisable_of_drained ((queTook_blind q).readDesc hr) h hn)
    (.trans hwd.mono (.trans (putDesc_touches_mem hp' hq _).mono (hw.mono (qs := [.mem, .mst, .que, .nib])))) hd0
  obtain ⟨hh, ha⟩ := queDisabled_que q d (withdraw q (queTook q s))
  rw [← hque] at hh ha
  refine ⟨t, hx, hrep, qState_of_unlisted ?_, ?_, hd.desc.trans (congrArg some (Desc.Fits.cut ?_)), hd.otherQueues (mapDel_others hh)⟩
  · rw [hh, mapGet?_mapDel_self]
  · rw [ha, xor_and_and]
  · exact { hf with state := (by decide : 0 < 2 ^ 2), sidx := hf.cidx, pidx := hf.cidx, armed := (by decide : 0 < 2 ^ 11) }

/-- SET_LATE of a queue in use. -/
theorem queSetLate_answers (h0 : qState s q ≠ 0) (h8 : ¬(qState s q = 3 ∧ qCause s q = 8)) {late : Nat} (hlate : late < 4) :
    ∃ t, exec (.queSetLate q late) s = .next t ∧ QueReports q 0 t ∧ getDesc t q = some { d with late := late } ∧
    qState t q = qState s q ∧ OtherQueues q s t ∧ QueFrame s t := by
  have hp' := (queTook_blind q).plain hp
  have hf := fits_of_readDesc hr
  obtain ⟨t, hx, hrep, hd, hque, ht⟩ := queCmd_writes hl hq hb (queSetLate_of_clean ((queTook_blind q).readDesc hr) h0 h8 late)
    ((putDesc_touches_mem hp' hq _).mono (qs := [.mem, .mst])) (descTo_of_put hp' hq (.refl (ps := []) (ks := []) _))
  have hh : t.que.halt = s.que.halt := by
    rw [hque, putDesc_que]
    rfl
  refine ⟨t, hx, hrep, hd.desc.trans (congrArg some ?_), qState_congr (by rw [hh]), hd.otherQueues (fun r _ => by rw [hh]), ht.queFrame⟩
  rw [Nat.mod_eq_of_lt hlate]
  exact Desc.Fits.cut { hf with late := hlate }

end Commands

/-- A pause whose queue holds no nib any more ends with its report. -/
theorem drainDone_answers {s : State} (hl : s.live = true) {q : Nat} (hq : q < 65536) (hc : s.que.cmd = some ⟨2, q⟩)
    (hd : queueDrained s q = true) : ∃ t, exec .queDrainDone s = .next t ∧ QueReports q 0 t ∧ t.que.cmd = none ∧ t.mem = s.mem ∧
    t.nib = s.nib := by
  have he := drainDone_of_drained hc hd
  have hu : State.calm { s with que := { s.que with cmd := none } } = true := ((State.live_iff s).1 hl).2
  have ht := queStatus_touches q St.ok (State.awake_of_calm hu)
  refine ⟨_, (engRun_of_live hl _ ?_).trans (congrArg _ he), queStatus_reports hq (by decide) _, ?_, queStatus_mem _ _ _, queStatus_nib _ _ _⟩
  · rw [he]
    exact ht.calm hu
  · rw [queStatus_que]

/-- Settles O30: each command comes to its report through the equation of its case. -/
theorem queueCommands : Obligations.QueueCommands := by
  refine ⟨fun s q d hl hp hq hb => ?_, fun s q late d hl hp hq hlate hr _ => ?_⟩
  · intro base log2 fit reports
    refine ⟨fun h hf => ?init, fun h hf => ?unfit, fun h => ?inUse, fun h hr he _ => queResume_answers hl hp hq hb hr h he⟩
    case init =>
      obtain ⟨t, hx, hrep, hd, h2, hc, ha, ho⟩ := queInit_answers hl hp hq hb h hf
      have hlog : s.rd Fd.QUE_INIT_CFG0_LOG2LEN % 2 ^ 5 = log2 := Nat.mod_eq_of_lt (by have := hf.2.1; omega)
      exact ⟨t, _, hx, hrep, hd, rfl, hlog, rfl, rfl, rfl, rfl, rfl, rfl, rfl, rfl, rfl, h2, hc, ha, ho⟩
    case unfit => exact queCmd_refused hl hq hb (by decide) (queInit_of_unfit h (mt (initFits_queTook q s).1 hf))
    case inUse => exact queCmd_refused hl hq hb (by decide) (queInit_of_inUse h)
  · exact ⟨fun hb h hn => quePause_answers hl hp hq hb hr h hn, fun hb h ha hn hd => quePause_waits hl hp hq hb hr h ha hn hd,
      fun hb h hn => queDisable_answers hl hp hq hb hr h hn, fun hb h0 h8 => queSetLate_answers hl hp hq hb hr h0 h8 hlate,
      fun hc hd => drainDone_answers hl hq hc hd⟩

end Sys2Proof.Machine

/-! The checks of a push and the operations of a producer port (R80, R81, R190, Table 4.5). -/

namespace Sys2Proof.Machine

set_option Elab.async false

open Sys2Proof

/-! ### The port and its queue (checks 1 to 3) -/

section Port

variable {s : State} {p q : Nat} {d : Desc}

theorem portChecks_of_mode (h : pushMode s = false) : portChecks p q s = (.inr St.refusedMode, s) := if_pos (by rw [h]; rfl)

section Read

variable (hm : pushMode s = true) (h8 : ¬(qState s q = 3 ∧ qCause s q = 8)) (hr : readDesc q s = (some d, s))
include hm h8 hr

theorem portChecks_of_read : portChecks p q s =
    if d.prod ≠ p ∨ !portExists p then (.inr St.access, s) else if d.state = 1 ∨ d.state = 2 then (.inl d, s) else (.inr St.refusedMode, s) := by
  unfold portChecks
  rw [if_neg (by rw [hm]; decide), if_neg h8, hr]

theorem portChecks_of_other (ho : d.prod ≠ p) : portChecks p q s = (.inr St.access, s) :=
  (portChecks_of_read hm h8 hr).trans (if_pos (.inl ho))

theorem portChecks_of_idle (ho : d.prod = p) (he : portExists p = true) (h1 : d.state ≠ 1) (h2 : d.state ≠ 2) :
    portChecks p q s = (.inr St.refusedMode, s) := by
  rw [portChecks_of_read hm h8 hr, if_neg (by simp [ho, he]), if_neg (by tauto)]

end Read

/-- Port p produces queue q, whose descriptor d reads clean and is RUNNING or PAUSED, in a mode that admits pushes. -/
structure Produces (p q : Nat) (d : Desc) (s : State) : Prop where
  mode : pushMode s = true
  whole : ¬(qState s q = 3 ∧ qCause s q = 8)
  reads : readDesc q s = (some d, s)
  prod : d.prod = p
  there : portExists p = true
  inUse : d.state = 1 ∨ d.state = 2

theorem Produces.portChecks (h : Produces p q d s) : portChecks p q s = (.inl d, s) := by
  rw [portChecks_of_read h.mode h.whole h.reads, if_neg (by simp [h.prod, h.there]), if_pos h.inUse]

end Port

/-! ### The event (checks 4 to 9) -/

/-- The ring of a descriptor has room for one more event. -/
def HasRoom (d : Desc) : Prop := ringAdd d d.sidx 1 ≠ d.cidx % 2 ^ d.log2

section Event

variable {s : State} {d : Desc} {e : Ev}

theorem pushChecks_of_source (h : engValid s = false) : pushChecks d e s = (St.refusedMode, s) := if_pos (by rw [h]; rfl)

section Valid

variable (hv : engValid s = true)
include hv

theorem pushChecks_of_full (h : ¬HasRoom d) : pushChecks d e s = (St.busy, s) := by
  rw [pushChecks, if_neg (by rw [hv]; decide)]
  exact if_pos (not_not.1 h)

variable (hn : HasRoom d)
include hn

theorem pushChecks_of_fields (h : fieldsOk e s = false) : pushChecks d e s = (St.range, s) := by
  rw [pushChecks, if_neg (by rw [hv]; decide), if_neg hn, if_pos (by rw [h]; rfl)]

variable (hf : fieldsOk e s = true)
include hf

theorem pushChecks_of_window (h : windowOk e.target d.dir s = false) : pushChecks d e s = (St.range, s) := by
  rw [pushChecks, if_neg (by rw [hv]; decide), if_neg hn, if_neg (by rw [hf]; decide), if_pos (by rw [h]; rfl)]

theorem pushChecks_of_behind (hw : windowOk e.target d.dir s = true) (h : d.sidx ≠ d.cidx) {x : Ev}
    (hx : readEntry (ringEntry d (d.sidx + 2 ^ d.log2 - 1)) s = (some x, s)) :
    pushChecks d e s = (if behindOf e.target x.target d.dir then St.order else St.ok, s) := by
  rw [pushChecks, if_neg (by rw [hv]; decide), if_neg hn, if_neg (by rw [hf]; decide), if_neg (by rw [hw]; decide), if_neg h, hx]
  dsimp only
  split <;> rfl

end Valid

end Event

/-! ### The operations of a port -/

section Op

variable {s : State} {p q : Nat} {d : Desc} {e : Ev} {op : Nat}

theorem refuseCnt_of_counted {st : Nat} (h : 1 ≤ st ∧ st ≤ 10) (s : State) : refuseCnt st s = s.incSat (Fd.QUE_REFUSE_CNT_COUNT st) := if_pos h

theorem portOp_of_refused (ho : op ≤ 2) {st : Nat} (h : portChecks p q s = (.inr st, s)) : portOp op p q e s = (st, refuseCnt st s) := by
  rw [portOp, if_neg (by omega), h]

/-- A push whose event fails a check. -/
theorem Produces.portOp_refused (h : Produces p q d s) (ho : op ≤ 1) {st : Nat} (hc : pushChecks d e s = (st, s)) (hst : st ≠ St.ok) :
    portOp op p q e s = (st, refuseCnt st s) := by
  rw [portOp, if_neg (by omega), h.portChecks]
  dsimp only
  rw [if_neg (by omega), hc]
  exact if_neg hst

end Op

/-! ### Ports without push registers of their own -/

/-- What an operation of a port shows: a fabric port its status until its clock has seen it (R190). -/
def portEnds (p q st : Nat) (t : State) : State :=
  if p < 16 ∨ 24 ≤ p then t.ret st
  else { t with fab := { t.fab with push := mapPut t.fab.push (p - 16) ⟨true, true, st, stagedOf t q⟩ } }.ret st

/-- A fabric port is connected, READY and with its clock. -/
def PortReady (p : Nat) (s : State) : Prop :=
  16 ≤ p ∧ p < 24 → portOn s (p - 16) = true ∧ (mapGet pushZero s.fab.push (p - 16)).busy = false

section PushBy

variable {s : State} {p q op : Nat} {w0 w1 w2 w3 : W32}

theorem pushBy_of_off (h16 : 16 ≤ p) (h24 : p < 24) (h : portOn s (p - 16) = false ∨ (mapGet pushZero s.fab.push (p - 16)).busy = true) :
    pushBy op (.port p q w0 w1 w2 w3) s = s := by
  unfold pushBy
  dsimp only
  rw [if_neg (by omega), if_pos (by omega)]
  exact if_pos (by rcases h with h | h <;> simp [h])

theorem pushBy_of_ready (hh : ¬(8 ≤ p ∧ p < 11)) (hr : PortReady p s) : pushBy op (.port p q w0 w1 w2 w3) s =
    portEnds p q (portOp op p q ⟨w0, w1, w2, w3⟩ s).1 (portOp op p q ⟨w0, w1, w2, w3⟩ s).2 := by
  unfold pushBy portEnds
  dsimp only
  rw [if_neg (by omega)]
  by_cases hf : 16 ≤ p ∧ p < 24
  · obtain ⟨ho, hb⟩ := hr hf
    rw [if_pos (by omega), if_neg (by omega), fabPush, if_neg (by simp [ho, hb]), show 16 + (p - 16) = p by omega]
    rfl
  · rw [if_neg (by omega), if_pos (by omega)]
    rfl

end PushBy

/-- Settles O29: a failed check is named by its own equation, and a port that takes no operation changes nothing. -/
theorem failedPushHasNoOtherEffect : Obligations.FailedPushHasNoOtherEffect := by
  intro s p q w0 w1 w2 w3 d x he hq hp
  have run : ∀ op t, pushBy op (.port p q w0 w1 w2 w3) s = t → engRun (pushBy op (.port p q w0 w1 w2 w3)) s = .next (finish t) :=
    fun op t h => (engRun_of_engOn _ s he).trans (by rw [h])
  refine ⟨fun h16 h24 ho => ⟨run 0 s (pushBy_of_off h16 h24 ho), run 1 s (pushBy_of_off h16 h24 ho)⟩, fun hready h8 hr => ?_⟩
  intro e refused mine room
  have there : portExists p = true := by
    simp only [portExists, Bool.or_eq_true, Bool.and_eq_true, decide_eq_true_eq]
    omega
  have key : ∀ st, 1 ≤ st ∧ st ≤ 10 → (∀ op, op ≤ 1 → portOp op p q e s = (st, refuseCnt st s)) → refused st := by
    intro st hst ho c hc
    have hb : ∀ op, op ≤ 1 → engRun (pushBy op (.port p q w0 w1 w2 w3)) s =
        .next (finish (portEnds p q st (s.incSat (Fd.QUE_REFUSE_CNT_COUNT st)))) := fun op hop =>
      run op _ (by rw [pushBy_of_ready (by omega) hready, ho op hop, refuseCnt_of_counted hst])
    simp only [List.mem_cons, List.not_mem_nil, or_false] at hc
    rcases hc with rfl | rfl
    · exact hb 0 (by decide)
    · exact hb 1 (by decide)
  have produces : mine → Produces p q d s := fun h => ⟨h.1, h8, hr, h.2.1, there, h.2.2⟩
  have fails : ∀ st, 1 ≤ st ∧ st ≤ 10 → mine → pushChecks d e s = (st, s) → refused st := fun st hst hm hc =>
    key st hst (fun op ho => (produces hm).portOp_refused ho hc (by simp only [St.ok]; omega))
  refine ⟨fun hm => ?mode, fun hm ho => ?other, fun hm ho h1 h2 => ?idle, fun hm hv => fails 2 (by decide) hm (pushChecks_of_source hv),
    fun hm hv hn => fails 1 (by decide) hm (pushChecks_of_full hv (not_not_intro hn)),
    fun hr hf => fails 9 (by decide) hr.1 (pushChecks_of_fields hr.2.1 hr.2.2 hf),
    fun hr hf hw => fails 9 (by decide) hr.1 (pushChecks_of_window hr.2.1 hr.2.2 hf hw), fun hr hf hw hne hx hb => ?behind⟩
  case mode => exact key 2 (by decide) (fun op ho => portOp_of_refused (by omega) (portChecks_of_mode hm))
  case other => exact key 5 (by decide) (fun op hop => portOp_of_refused (by omega) (portChecks_of_other hm h8 hr ho))
  case idle => exact key 2 (by decide) (fun op hop => portOp_of_refused (by omega) (portChecks_of_idle hm h8 hr ho there h1 h2))
  case behind =>
    have hc := pushChecks_of_behind hr.2.1 hr.2.2 hf hw hne hx
    exact fails 4 (by decide) hr.1 (hc.trans (congrArg (fun st => (st, s)) (if_pos hb)))

end Sys2Proof.Machine

/-! The stale-head sweep, completion records and rings, the group enables and the halt log (R95, R100 to R102, Table 4.10). -/

namespace Sys2Proof.Machine

set_option Elab.async false

open Sys2Proof

/-! ### The sweep (R95) -/

/-- The sweep has moved to the next queue. -/
def sweepMoved (s : State) : State := { s with que := { s.que with sweep := (s.que.sweep + 1) % 65536 } }

theorem sweepMoved_blind : MemBlind sweepMoved := .que_nib (fun x _ => { x with sweep := (x.sweep + 1) % 65536 }) (fun _ n => n)

theorem sweepMoved_touches (s : State) : Touches [.que] [] s (sweepMoved s) := .of_puts [.que]

theorem sweepStep_of_disabled {s : State} (h : qState s s.que.sweep = 0) : sweepStep s = sweepMoved s :=
  if_neg (by rw [h]; decide)

/-- The sweep halts a queue whose pending unarmed head has left the angle window (R95). -/
theorem sweepStep_of_stale {s : State} {d : Desc} {e : Ev} (h : qState s s.que.sweep = 2) (hr : readDesc s.que.sweep s = (some d, s))
    (hp : pendingOf d ≠ 0) (ha : d.armed = 0) (hd : queueDrained s s.que.sweep = true)
    (he : readEntry (ringEntry d d.cidx) s = (some e, s)) (hw : windowOk e.target d.dir s = false) :
    sweepStep s = haltQueue s.que.sweep 7 d d.cidx (sweepMoved s) := by
  have hd' : queueDrained (sweepMoved s) s.que.sweep = true := hd
  have hw' : windowOk e.target d.dir (sweepMoved s) = false := hw
  unfold sweepStep
  extract_lets q _ s0
  rw [if_pos (.inr h), withDesc, show readDesc q s0 = (some d, s0) from sweepMoved_blind.readDesc hr]
  dsimp only
  rw [if_neg (by rw [show queueDrained s0 q = true from hd', ha]; simpa using hp),
    show readEntry (ringEntry d d.cidx) s0 = (some e, s0) from sweepMoved_blind.readEntry he]
  exact if_neg (by rw [show windowOk e.target d.dir s0 = false from hw']; decide)

theorem haltLog_touches_of_awake (q cause idx : Nat) {s : State} (ha : s.pwr.sleep = .awake) :
    Touches [.que, .irq] queKeys s (haltLog q cause idx s) := by
  refine .ite (fun _ => ?_) (fun _ => .wr s Fd.QUE_STAT_HALT_LOG_OVR 1)
  have hj : Touches [.que, .irq] queKeys { s with que := { s.que with haltLog := s.que.haltLog ++ [⟨q, cause, idx⟩] } }
      (irqJudge 160 { s with que := { s.que with haltLog := s.que.haltLog ++ [⟨q, cause, idx⟩] } }) :=
    (irqJudge_touches_of_awake 160 (by exact ha)).mono
  exact .trans (.of_puts [.que]) hj

theorem haltLog_halt (q cause idx : Nat) (s : State) : (haltLog q cause idx s).que.halt = s.que.halt ∧
    (haltLog q cause idx s).que.sweep = s.que.sweep := by
  unfold haltLog
  split
  · rw [irqJudge_que]
    exact ⟨rfl, rfl⟩
  · exact ⟨rfl, rfl⟩

/-- A halt for another cause than a late event is noted in the descriptor, the halt map and the halt log. -/
theorem haltQueue_of_notLate {cause : Nat} (h : cause ≠ 5) (q : Nat) (d : Desc) (idx : Nat) (s : State) : haltQueue q cause d idx s =
    haltLog q cause (idx % 2 ^ d.log2)
      (setHaltAt q cause (idx % 2 ^ d.log2) (putDesc q { d with state := 3, cause := cause } s)) := if_neg h

section Halt

variable {s : State} {q cause : Nat} (h5 : cause ≠ 5) (d : Desc) (idx : Nat)
include h5

theorem haltQueue_touches (hp : s.plainMem) (hq : q < 65536) (ha : s.pwr.sleep = .awake) :
    Touches [.mem, .mst, .que, .irq] queKeys s (haltQueue q cause d idx s) := by
  have h1 := putDesc_touches_mem hp hq { d with state := 3, cause := cause }
  have ha1 : (putDesc q { d with state := 3, cause := cause } s).pwr.sleep = .awake := by
    rw [show (putDesc q { d with state := 3, cause := cause } s).pwr = s.pwr from h1.part .pwr (by decide), ha]
  have h2 : Touches [.que, .irq] queKeys (putDesc q { d with state := 3, cause := cause } s) (haltQueue q cause d idx s) := by
    rw [haltQueue_of_notLate h5]
    exact .trans (.of_puts (t := setHaltAt q cause (idx % 2 ^ d.log2) _) [.que]) (haltLog_touches_of_awake _ _ _ ha1)
  exact h1.mono.trans h2.mono

theorem haltQueue_que : (haltQueue q cause d idx s).que.halt = mapPut s.que.halt q ⟨3, cause, idx % 2 ^ d.log2⟩ ∧
    (haltQueue q cause d idx s).que.sweep = s.que.sweep := by
  rw [haltQueue_of_notLate h5]
  obtain ⟨h1, h2⟩ := haltLog_halt q cause (idx % 2 ^ d.log2)
    (setHaltAt q cause (idx % 2 ^ d.log2) (putDesc q { d with state := 3, cause := cause } s))
  rw [h1, h2, ← putDesc_que q { d with state := 3, cause := cause } s]
  exact ⟨rfl, rfl⟩

end Halt

/-! ### Completion records (R101) -/

/-- The oldest outcome is taken and its record counted. -/
def recordCounted (c : Cpl) (rest : List Cpl) (s : State) : State :=
  { s with que := { s.que with cpl := rest, recCnt := mapPut s.que.recCnt c.group ((mapGet 0 s.que.recCnt c.group + 1) % 256) } }

theorem recordCounted_blind (c : Cpl) (rest : List Cpl) : MemBlind (recordCounted c rest) :=
  .que_nib (fun x _ => { x with cpl := rest, recCnt := mapPut x.recCnt c.group ((mapGet 0 x.recCnt c.group + 1) % 256) }) (fun _ n => n)

section Record

variable {s : State} {c : Cpl} {rest : List Cpl} (hc : s.que.cpl = c :: rest) (he : s.rdB (Fd.QUE_CRING_CFG_EN c.group) = true)
include hc he

theorem completionRecord_of_full (hf : (s.rd (Fd.QUE_CRING_PIDX_PIDX c.group) + 1) % cringLen s c.group =
    s.rd (Fd.QUE_CRING_CIDX_CIDX c.group) % cringLen s c.group) :
    completionRecord s = ((recordCounted c rest s).incSat (Fd.QUE_CRING_STAT_OVF_CNT c.group)).set1 Fd.QUE_STAT_CRING_OVF := by
  unfold completionRecord
  rw [hc]
  dsimp only
  rw [if_neg (by rw [he]; decide), if_pos hf]
  rfl

/-- The record stands at PIDX of the ring, and PIDX has advanced. -/
def recordPut (c : Cpl) (rest : List Cpl) (s : State) : State :=
  (putEntry (s.rd (Fd.QUE_CRING_CFG_BASE c.group) + s.rd (Fd.QUE_CRING_PIDX_PIDX c.group) % cringLen s c.group)
    (cplRecord c (mapGet 0 s.que.recCnt c.group)) (recordCounted c rest s)).wr (Fd.QUE_CRING_PIDX_PIDX c.group)
    ((s.rd (Fd.QUE_CRING_PIDX_PIDX c.group) + 1) % cringLen s c.group)

theorem completionRecord_of_room (hf : (s.rd (Fd.QUE_CRING_PIDX_PIDX c.group) + 1) % cringLen s c.group ≠
    s.rd (Fd.QUE_CRING_CIDX_CIDX c.group) % cringLen s c.group) :
    completionRecord s = irqJudge (32 + c.group) (recordPut c rest s) := by
  unfold completionRecord
  rw [hc]
  dsimp only
  rw [if_neg (by rw [he]; decide), if_neg hf]
  rfl

end Record

/-- The fields of two completion rings' registers and of the QUE block's status lie apart. -/
theorem cring_keys (g : Nat) :
    (Fd.QUE_CRING_PIDX_PIDX g).key ≠ (Fd.QUE_CRING_STAT_OVF_CNT g).key ∧ (Fd.QUE_CRING_PIDX_PIDX g).key ≠ Fd.QUE_STAT_CRING_OVF.key ∧
    (Fd.QUE_CRING_CFG_EN g).key ≠ (Fd.QUE_CRING_CFG_BASE g).key ∧ (Fd.QUE_CRING_CFG_EN g).key ≠ (Fd.QUE_CRING_CFG_LOG2LEN g).key ∧
    (Fd.QUE_CRING_CFG_EN g).key ≠ Fd.QUE_STAT_CRING_REFUSED.key ∧ (Fd.QUE_CRING_PIDX_PIDX g).key ≠ (Fd.QUE_CRING_CIDX_CIDX g).key ∧
    (Fd.QUE_CRING_PIDX_PIDX g).key ≠ (Fd.QUE_CRING_CFG_EN g).key ∧ (Fd.QUE_CRING_CIDX_CIDX g).key ≠ (Fd.QUE_CRING_CFG_EN g).key := by
  simp only [Fld.key, Fd.QUE_CRING_PIDX_PIDX, Fd.QUE_CRING_STAT_OVF_CNT, Fd.QUE_STAT_CRING_OVF, Fd.QUE_CRING_CFG_EN, Fd.QUE_CRING_CFG_BASE,
    Fd.QUE_CRING_CFG_LOG2LEN, Fd.QUE_STAT_CRING_REFUSED, Fd.QUE_CRING_CIDX_CIDX]
  omega

/-- They lie in the QUE block. -/
theorem cring_block {g : Nat} (hg : g < 64) :
    (Fd.QUE_CRING_CFG_BASE g).key / 2 ^ 22 = 0x0601 ∧ (Fd.QUE_CRING_CFG_LOG2LEN g).key / 2 ^ 22 = 0x0601 ∧
    (Fd.QUE_CRING_CFG_EN g).key / 2 ^ 22 = 0x0601 ∧ (Fd.QUE_CRING_PIDX_PIDX g).key / 2 ^ 22 = 0x0601 ∧
    (Fd.QUE_CRING_CIDX_CIDX g).key / 2 ^ 22 = 0x0601 ∧ (Fd.QUE_CRING_STAT_OVF_CNT g).key / 2 ^ 22 = 0x0601 := by
  simp only [Fld.key, Fd.QUE_CRING_PIDX_PIDX, Fd.QUE_CRING_STAT_OVF_CNT, Fd.QUE_CRING_CFG_EN, Fd.QUE_CRING_CFG_BASE,
    Fd.QUE_CRING_CFG_LOG2LEN, Fd.QUE_CRING_CIDX_CIDX]
  omega

/-! ### Completion rings (R76, R101) -/

/-- The ring's place and length are written. -/
def ringSet (g base log2 : Nat) (s : State) : State := (s.wr (Fd.QUE_CRING_CFG_BASE g) base).wr (Fd.QUE_CRING_CFG_LOG2LEN g) log2

/-- The ring is enabled and empty, and its granules are allocated. -/
def ringMade (g base log2 : Nat) (s : State) : State :=
  let t := (((granTake base log2 (ringSet g base log2 s)).clr (Fd.QUE_CRING_PIDX_PIDX g)).clr (Fd.QUE_CRING_CIDX_CIDX g)).set1
    (Fd.QUE_CRING_CFG_EN g)
  { t with que := { t.que with recCnt := mapDel t.que.recCnt g } }

section Ring

variable {s : State} {g base log2 : Nat} (he : s.rdB (Fd.QUE_CRING_CFG_EN g) = false)
include he

theorem cringEnable_of_fit (hf : (ringOk base log2 && granFree s base log2) = true) :
    cringEnable g base log2 s = irqJudge (32 + g) (ringMade g base log2 s) := by
  rw [cringEnable, he]
  exact if_pos hf

theorem cringEnable_of_bad (hf : ringOk base log2 = false) :
    cringEnable g base log2 s = (ringSet g base log2 s).set1 Fd.QUE_STAT_CRING_REFUSED := by
  rw [cringEnable, he, hf, Bool.false_and]
  rfl

end Ring

/-- A field of a completion ring's registers lies in the QUE block. -/
theorem touches_wr_ring {ps : List Part} (s : State) (f : Fld) (v : Nat) (h : f.key / 2 ^ 22 = 0x0601) :
    Touches ps [.blk 0x0601] s (s.wr f v) := .wr s f v (by rw [List.any_cons, Keys.has, h]; rfl)

/-- No source event writes a field of the QUE block. -/
theorem irqKeys_of_que {f : Fld} (h : f.key / 2 ^ 22 = 0x0601) : irqKeys.any (·.has f.key) = false := by
  have hs : ∀ g : Fld, g.key / 2 ^ 22 ≠ 0x0601 → (f.key == g.key) = false := fun g hg => by
    rw [beq_eq_false_iff_ne]
    rintro e
    exact hg (e ▸ h)
  have hb : (f.key / 2 ^ 22 == 0x060A) = false := by rw [h]; rfl
  have hr : (decide ((Fd.IRQ_TGT_CNT_REFIRES 0).key ≤ f.key)) = false := by
    rw [decide_eq_false_iff_not, show (Fd.IRQ_TGT_CNT_REFIRES 0).key = 0x060A0118 * 64 + 40 from rfl]
    omega
  simp only [List.any_cons, List.any_nil, Keys.has, hb, hr, hs Fd.PWR_WAKE_SRC_LATCHED (by decide), hs Fd.PWR_WAKE_SRC_FIRST (by decide),
    hs Fd.PWR_WAKE_SRC_IRQ_SRC (by decide), Bool.false_and, Bool.or_false]

theorem ringSet_touches {g : Nat} (hg : g < 64) (base log2 : Nat) (s : State) : Touches [] [.blk 0x0601] s (ringSet g base log2 s) := by
  obtain ⟨h1, h2, -⟩ := cring_block hg
  exact .trans (touches_wr_ring s _ base h1) (touches_wr_ring _ _ log2 h2)

/-! ### What the rows answer -/

section Rows

variable {s : State} (hl : s.live = true)
include hl

/-- An engine row whose effect keeps a calm state answers that effect. -/
theorem engRun_answers {f : State → State} {u : State} (he : f s = u) {ps : List Part} {ks : List Keys} (ht : Touches ps ks s u)
    (hp : ∀ p ∈ ps, p ∉ [.sys, .saf, .net, .pwr] := by decide)
    (hk : [Fd.SAF_ACTIVE_ACTIVE, Fd.SYS_MODE_MODE, Fd.NET_SRDO_VALID_VALID].all (fun f => !ks.any (·.has f.key)) = true := by decide) :
    engRun f s = .next u :=
  he ▸ engRun_of_live hl f (he ▸ ht.calm ((State.live_iff s).1 hl).2 hp hk)

theorem sysRun_answers {f : State → State} {u : State} (he : f s = u) {ps : List Part} {ks : List Keys} (ht : Touches ps ks s u)
    (hp : ∀ p ∈ ps, p ∉ [.sys, .saf, .net, .pwr] := by decide)
    (hk : [Fd.SAF_ACTIVE_ACTIVE, Fd.SYS_MODE_MODE, Fd.NET_SRDO_VALID_VALID].all (fun f => !ks.any (·.has f.key)) = true := by decide) :
    sysRun f s = .next u :=
  he ▸ sysRun_of_live hl f (he ▸ ht.calm ((State.live_iff s).1 hl).2 hp hk)

/-- A queue that is DISABLED is passed over. -/
theorem sweep_moves (h : qState s s.que.sweep = 0) : ∃ t, exec .staleHeadSweep s = .next t ∧
    t.que.sweep = (s.que.sweep + 1) % 65536 ∧ { t with que := s.que } = s := by
  refine ⟨_, engRun_answers hl (sweepStep_of_disabled h) (sweepMoved_touches s), ?_, ?_⟩
  · rfl
  · rfl

/-- The halt of a stale head shows in the halt map. -/
theorem sweep_halts (hp : s.plainMem) (hq : s.que.sweep < 65536) {d : Desc} {e : Ev} (h : qState s s.que.sweep = 2)
    (hr : readDesc s.que.sweep s = (some d, s)) (hn : pendingOf d ≠ 0) (ha : d.armed = 0) (hd : queueDrained s s.que.sweep = true)
    (he : readEntry (ringEntry d d.cidx) s = (some e, s)) (hw : windowOk e.target d.dir s = false) :
    ∃ t, exec .staleHeadSweep s = .next t ∧ t.que.sweep = (s.que.sweep + 1) % 65536 ∧ qState t s.que.sweep = 3 ∧ qCause t s.que.sweep = 7 := by
  have haw : (sweepMoved s).pwr.sleep = .awake := State.awake_of_calm ((State.live_iff s).1 hl).2
  have ht := haltQueue_touches (cause := 7) (by decide) d d.cidx (sweepMoved_blind.plain hp) hq haw
  obtain ⟨hh, hs⟩ := haltQueue_que (s := sweepMoved s) (q := s.que.sweep) (cause := 7) (by decide) d d.cidx
  obtain ⟨h3, hc⟩ := mapPut_shows hh
  exact ⟨_, engRun_answers hl (sweepStep_of_stale h hr hn ha hd he hw) ((sweepMoved_touches s).mono.trans ht), hs, h3, hc⟩

section Record

variable {c : Cpl} {rest : List Cpl} (hc : s.que.cpl = c :: rest) (he : s.rdB (Fd.QUE_CRING_CFG_EN c.group) = true) (hg : c.group < 64)
include hc he hg

/-- A record is discarded and counted where the ring is full. -/
theorem record_discarded (hf : (s.rd (Fd.QUE_CRING_PIDX_PIDX c.group) + 1) % cringLen s c.group =
    s.rd (Fd.QUE_CRING_CIDX_CIDX c.group) % cringLen s c.group) : ∃ t, exec .completionRecord s = .next t ∧ t.que.cpl = rest ∧
    t.rd Fd.QUE_STAT_CRING_OVF = 1 ∧ t.mem = s.mem ∧ t.rd (Fd.QUE_CRING_PIDX_PIDX c.group) = s.rd (Fd.QUE_CRING_PIDX_PIDX c.group) := by
  obtain ⟨hovf, hstat, -⟩ := cring_keys c.group
  obtain ⟨-, -, -, -, -, hb⟩ := cring_block hg
  have ht : Touches [.que] [.blk 0x0601] s
      (((recordCounted c rest s).incSat (Fd.QUE_CRING_STAT_OVF_CNT c.group)).set1 Fd.QUE_STAT_CRING_OVF) :=
    .trans (.of_puts (t := recordCounted c rest s) [.que]) (.trans (touches_wr_ring _ _ _ hb) (.wr _ Fd.QUE_STAT_CRING_OVF 1))
  refine ⟨_, engRun_answers hl (completionRecord_of_full hc he hf) ht, rfl, State.rd_set1 _ Fd.QUE_STAT_CRING_OVF, rfl, ?_⟩
  rw [State.set1, State.rd_wr_ne _ _ _ _ hstat, State.incSat, State.rd_wr_ne _ _ _ _ hovf]
  rfl

/-- A record is written at PIDX of a ring with room. -/
theorem record_written (hp : s.plainMem) (hlog : s.rd (Fd.QUE_CRING_CFG_LOG2LEN c.group) ≤ 16)
    (hbase : s.rd (Fd.QUE_CRING_CFG_BASE c.group) + 65536 ≤ 262144)
    (hf : (s.rd (Fd.QUE_CRING_PIDX_PIDX c.group) + 1) % cringLen s c.group ≠ s.rd (Fd.QUE_CRING_CIDX_CIDX c.group) % cringLen s c.group) :
    ∃ t, exec .completionRecord s = .next t ∧ t.que.cpl = rest ∧
    t.rd (Fd.QUE_CRING_PIDX_PIDX c.group) = (s.rd (Fd.QUE_CRING_PIDX_PIDX c.group) + 1) % cringLen s c.group % 65536 ∧
    getEntry t (s.rd (Fd.QUE_CRING_CFG_BASE c.group) + s.rd (Fd.QUE_CRING_PIDX_PIDX c.group) % cringLen s c.group) =
      some (cplRecord c (mapGet 0 s.que.recCnt c.group)) := by
  obtain ⟨-, -, -, hb, -, -⟩ := cring_block hg
  have hlen : cringLen s c.group ≤ 65536 := Nat.pow_le_pow_right (n := 2) (by decide) hlog
  have hpos : s.rd (Fd.QUE_CRING_PIDX_PIDX c.group) % cringLen s c.group < cringLen s c.group := Nat.mod_lt _ (Nat.two_pow_pos _)
  have hx : s.rd (Fd.QUE_CRING_CFG_BASE c.group) + s.rd (Fd.QUE_CRING_PIDX_PIDX c.group) % cringLen s c.group < 2 ^ 31 := by omega
  have hpr := (recordCounted_blind c rest).plain hp
  have hput := putEntry_touches_mem hpr hx (cplRecord c (mapGet 0 s.que.recCnt c.group))
  have h1 : Touches [.mem, .mst, .que] [.blk 0x0601] s (recordPut c rest s) :=
    .trans (.of_puts (t := recordCounted c rest s) [.que]) (.trans hput.mono (touches_wr_ring _ _ _ hb))
  have haw : (recordPut c rest s).pwr.sleep = .awake := State.awake_of_calm (h1.calm ((State.live_iff s).1 hl).2)
  have hj := irqJudge_touches_of_awake (32 + c.group) haw
  refine ⟨_, engRun_answers hl (completionRecord_of_room hc he hf) (h1.mono.trans (hj.mono (qs := [.mem, .mst, .que, .irq]) (ls := queKeys))),
    ?_, ?_, ?_⟩
  · rw [irqJudge_que]
    exact congrArg QueSt.cpl (show _ = (recordCounted c rest s).que from hput.part .que (by decide))
  · rw [hj.rd _ (irqKeys_of_que hb)]
    exact State.rd_wr _ _ _
  · rw [hj.getEntry]
    exact getEntry_putEntry hpr hx _

end Record

section Ring

variable {g base log2 : Nat} (hg : g < 64) (he : s.rdB (Fd.QUE_CRING_CFG_EN g) = false)
include hg he

/-- A ring that fits is enabled and empty, and its granules are allocated. -/
theorem ring_enabled (hf : (ringOk base log2 && granFree s base log2) = true) : ∃ t, exec (.cringEnable g base log2) s = .next t ∧
    t.rd (Fd.QUE_CRING_CFG_EN g) = 1 ∧ t.rd (Fd.QUE_CRING_PIDX_PIDX g) = 0 ∧ t.rd (Fd.QUE_CRING_CIDX_CIDX g) = 0 ∧
    t.que.alloc = s.que.alloc ||| granMask base log2 := by
  obtain ⟨-, -, hen, hpi, hci, -⟩ := cring_block hg
  obtain ⟨-, -, -, -, -, hpc, hpe, hce⟩ := cring_keys g
  have h1 : Touches [.que] [.blk 0x0601] s (ringMade g base log2 s) :=
    .trans (ringSet_touches hg base log2 s).mono <| .trans (.of_puts (t := granTake base log2 (ringSet g base log2 s)) [.que]) <|
      .trans (touches_wr_ring _ _ 0 hpi) <| .trans (touches_wr_ring _ _ 0 hci) <| .trans (touches_wr_ring _ _ 1 hen) (.of_puts [.que])
  have haw : (ringMade g base log2 s).pwr.sleep = .awake := State.awake_of_calm (h1.calm ((State.live_iff s).1 hl).2)
  have hj := irqJudge_touches_of_awake (32 + g) haw
  refine ⟨_, sysRun_answers hl (cringEnable_of_fit he hf) (h1.mono.trans (hj.mono (qs := [.que, .irq]) (ls := queKeys))), ?_, ?_, ?_, ?_⟩
  · rw [hj.rd _ (irqKeys_of_que hen)]
    exact State.rd_set1 _ (Fd.QUE_CRING_CFG_EN g) Nat.one_pos
  · rw [hj.rd _ (irqKeys_of_que hpi)]
    exact (State.rd_wr_ne _ _ _ _ hpe).trans ((State.rd_wr_ne _ _ _ _ hpc).trans (State.rd_clr _ _))
  · rw [hj.rd _ (irqKeys_of_que hci)]
    exact (State.rd_wr_ne _ _ _ _ hce).trans (State.rd_clr _ _)
  · rw [irqJudge_que]
    rfl

/-- A ring that is not within bounds or aligned is refused. -/
theorem ring_refused (hf : ringOk base log2 = false) : ∃ t, exec (.cringEnable g base log2) s = .next t ∧
    t.rd Fd.QUE_STAT_CRING_REFUSED = 1 ∧ t.rd (Fd.QUE_CRING_CFG_EN g) = s.rd (Fd.QUE_CRING_CFG_EN g) ∧ t.que = s.que := by
  obtain ⟨-, -, hb, hl2, hr, -⟩ := cring_keys g
  have ht : Touches [] [.blk 0x0601] s ((ringSet g base log2 s).set1 Fd.QUE_STAT_CRING_REFUSED) :=
    .trans (ringSet_touches hg base log2 s) (.wr _ Fd.QUE_STAT_CRING_REFUSED 1)
  refine ⟨_, sysRun_answers hl (cringEnable_of_bad he hf) ht, State.rd_set1 _ Fd.QUE_STAT_CRING_REFUSED, ?_, rfl⟩
  exact (State.rd_wr_ne _ _ _ _ hr).trans ((State.rd_wr_ne _ _ _ _ hl2).trans (State.rd_wr_ne _ _ _ _ hb))

end Ring

/-- With no nib armed a write of QUE_GROUP_EN sets it and does nothing else. -/
theorem groups_set (hn : s.nib.nibs = []) (ha : s.nib.arming = []) (v : Nat) :
    exec (.groupEnableWrite (BitVec.ofNat 64 v)) s = .next (s.wr Fd.QUE_GROUP_EN_EN v) := by
  have he : groupEnable (BitVec.ofNat 64 v).toNat s = s.wr Fd.QUE_GROUP_EN_EN v := by
    rw [groupEnable, hn, ha, BitVec.toNat_ofNat]
    simp [queuesOf, forEach, State.wr, Fd.QUE_GROUP_EN_EN]
  exact sysRun_answers hl he (.wr (ps := []) (ks := [.blk 0x0601]) s Fd.QUE_GROUP_EN_EN v)

/-- A read of the halt log answers its word and leaves the log without the entry shown. -/
theorem haltLog_read {x : Nat} {t : State} (hread : haltLogRead s = (x, t)) (ht : Touches [.que] [] s t) :
    exec .haltLogRead s = .next (t.ret x) := by
  have he : sysRun (fun s => (haltLogRead s).2.ret (haltLogRead s).1) s = _ :=
    sysRun_of_live hl (fun s => (haltLogRead s).2.ret (haltLogRead s).1) (by rw [hread]; exact ht.calm ((State.live_iff s).1 hl).2)
  rw [hread] at he
  exact he

theorem haltLog_read_shows {x : Nat} {l : List HaltEntry} (hread : haltLogRead s = (x, { s with que := { s.que with haltLog := l } })) :
    ∃ t, exec .haltLogRead s = .next t ∧ t.que.haltLog = l ∧ t.sys.rdData = x ∧ t.regs = s.regs ∧ t.mem = s.mem :=
  ⟨_, haltLog_read hl hread (.of_puts [.que]), rfl, rfl, rfl, rfl⟩

end Rows

/-! ### The obligation -/

/-- Settles O33: each row is brought to the effect of its case, which keeps a calm state. -/
theorem queueSweepRecordsAndRings : Obligations.QueueSweepRecordsAndRings := by
  intro s g base log2 v d e c rest h hs hl hp hg q fit
  refine ⟨fun h0 => sweep_moves hl h0,
    fun h2 hr hn ha hd he hw hq => sweep_halts hl hp hq h2 hr hn ha hd he hw, fun hc hcg he hlog hbase => ?records,
    fun he hf _ => ring_enabled hl hg he ((ringOk_granFree_iff s base log2).2 ⟨hf.1, hf.2.1, hf.2.2.1, hf.2.2.2.2⟩),
    fun he hf => ring_refused hl hg he hf, fun hn ha => groups_set hl hn ha v, fun hh => ?oldest, fun hh => ?empty⟩
  case records =>
    subst hcg
    exact ⟨fun hf => record_written hl hc he hg hp hlog hbase hf, fun hf => record_discarded hl hc he hg hf⟩
  case oldest => exact haltLog_read_shows hl (by rw [haltLogRead, hh])
  case empty => exact haltLog_read hl (by rw [haltLogRead, hh]) (.refl s)

end Sys2Proof.Machine

/-! SKIP of a queue whose ring is longer than Table 4.3 admits (R75, R102). -/

namespace Sys2Proof.Machine

set_option Elab.async false

open Sys2Proof

/-- A device in STANDBY, its start-up over and logged. -/
def standingBy : State :=
  { State.reset with sys := { State.reset.sys with phase := .over }, log := { State.reset.log with queue := [] } }.wr Fd.SYS_MODE_MODE Md.standby

/-- A queue HALTED with cause 4 whose LOG2LEN is 17, at the last index that a CIDX of 16 bits holds. -/
def longRing : Desc := ⟨0, 17, 0, 0, 65535, 0, 3, 0, 0, 0, 0, 0, 0, 4⟩

/-- Queue 0 is halted on the long ring. -/
def longRingHalted : State := setHaltAt 0 4 0 (putDesc 0 longRing standingBy)

theorem longRingHalted_live : longRingHalted.live = true ∧ longRingHalted.plainMem ∧ longRingHalted.rdB Fd.QUE_CMD_STAT_BUSY = false := by
  decide +kernel

theorem longRingHalted_ready : (qState longRingHalted 0 = 3 ∧ qCause longRingHalted 0 ∈ [4, 5, 7]) ∧ longRing.armed = 0 ∧
    queueDrained longRingHalted 0 = true ∧ pendingOf longRing ≠ 0 := by decide +kernel

theorem readDesc_longRingHalted : readDesc 0 longRingHalted = (some longRing, longRingHalted) :=
  readDesc_of_clean 0 longRingHalted (BitVec.ofNat 64 (descLo longRing)) (BitVec.ofNat 64 (descHi longRing)) (by decide +kernel)
    (by decide +kernel)

/-- Refutes O31: SKIP of a ring of LOG2LEN 17 at CIDX 65535 would leave CIDX 65536, which no descriptor of Table 4.3 holds. -/
theorem not_queueSkipAndRepair : ¬ Obligations.QueueSkipAndRepair := by
  intro h
  obtain ⟨hl, hp, hb⟩ := longRingHalted_live
  obtain ⟨skip, -⟩ := h longRingHalted 0 longRing hl hp (by decide) hb readDesc_longRingHalted (by decide)
  obtain ⟨t, -, -, -, -, hd, -⟩ := skip longRingHalted_ready
  have hfits := fits_of_readDesc (q := 0) (s := t) (t := (readDesc 0 t).2) (Prod.ext ((readDesc_fst 0 t).trans hd) rfl)
  exact absurd hfits.cidx (by decide)

end Sys2Proof.Machine

/-! A push at a port whose source reads VALID from a push word: what the end of a command leaves of a state that sends no message
(R80, R81). -/

namespace Sys2Proof.Machine

set_option Elab.async false

open Sys2Proof

/-! ### What the end of a command shows of the state before it -/

/-- An emergency message or a log entry waits. -/
def Noted (s : State) : Prop := s.net.emcy ≠ [] ∨ s.log.queue ≠ []

/-- `t` differs from `s` in the causes and faults that hold, and sends nothing. -/
structure Silent (s t : State) : Prop where
  touches : Touches [.saf, .net] [.one Fd.SAF_ACTIVE_ACTIVE, .one Fd.NET_ERR_REG_ER] s t
  emcy : t.net.emcy = s.net.emcy
  tx : t.net.tx = s.net.tx

theorem Silent.refl (s : State) : Silent s s := ⟨.refl s, rfl, rfl⟩

theorem Silent.trans {s t u : State} (h : Silent s t) (g : Silent t u) : Silent s u :=
  ⟨h.touches.trans g.touches, g.emcy.trans h.emcy, g.tx.trans h.tx⟩

theorem Silent.noted_iff {s t : State} (h : Silent s t) : Noted t ↔ Noted s := by
  unfold Noted
  rw [h.emcy, h.touches.part .log (by decide)]

/-- An update that stays silent, or is noted. -/
def Tells (s t : State) : Prop := Noted t ∨ Silent s t

theorem Tells.trans {s t u : State} (h : Tells s t) (g : Tells t u) : Tells s u := by
  rcases g with g | g
  · exact .inl g
  · exact h.imp g.noted_iff.2 (·.trans g)

theorem Tells.silent {s t : State} (h : Tells s t) (hn : ¬Noted t) : Silent s t := h.resolve_left hn

theorem noted_of_touches {ps : List Part} {ks : List Keys} {s t : State} (h : Touches ps ks s t) (hs : Noted s)
    (hn : Part.net ∉ ps := by decide) (hl : Part.log ∉ ps := by decide) : Noted t := by
  unfold Noted
  rw [h.part .net hn, h.part .log hl]
  exact hs

theorem emcy_noted (code origin detail : Nat) (s : State) : Noted (emcy code origin detail s) := by
  unfold emcy
  refine noted_of_touches (irqEvent_touches 391 _) (.inl ?_)
  exact List.append_ne_nil_of_right_ne_nil _ (List.cons_ne_nil _ _)

theorem logReq_noted (source code d0 d1 d2 : Nat) (s : State) : Noted (logReq source code d0 d1 d2 s) := by
  unfold logReq
  split
  · exact .inr (List.append_ne_nil_of_right_ne_nil _ (List.cons_ne_nil _ _))
  · next h =>
    refine .inr (fun hc => h ?_)
    rw [show s.log.queue = [] from hc]
    decide

/-! ### Safety inputs -/

theorem safLatch_noted (i c : Nat) (s : State) : Noted (safLatch i c s) :=
  noted_of_touches (irqEvent_touches 396 _) (logReq_noted _ _ _ _ _ _)

theorem safEmcy_noted (i : Nat) {s : State} (h : Noted s) : Noted (safEmcy i s) := by
  unfold safEmcy
  split
  · exact emcy_noted _ _ _ s
  · split
    · exact emcy_noted _ _ _ s
    · exact h

theorem enterSafe_noted (origin detail : Nat) (s : State) : Noted (enterSafe origin detail s) := by
  unfold enterSafe
  exact emcy_noted _ _ _ _

theorem enterLimited_noted (origin detail : Nat) (s : State) : Noted (enterLimited origin detail s) := by
  unfold enterLimited
  exact emcy_noted _ _ _ _

theorem safAct_noted (i c : Nat) {s : State} (h : Noted s) : Noted (safAct i c s) := by
  have refreshed : Noted (safRefresh { s with saf := { s.saf with reaction := true } }) := noted_of_touches (safRefresh_touches _) h
  have slept : Noted (if s.mode = Md.sleep then { s with saf := { s.saf with slept := s.saf.slept ||| 2 ^ i } } else s) := by
    split
    · exact h
    · exact h
  unfold safAct
  split
  · split
    · exact enterSafe_noted _ _ s
    · split
      · exact refreshed
      · exact slept
  · split
    · split
      · exact enterLimited_noted _ _ s
      · exact slept
    · exact h

/-- An input that is latched leaves a log entry. -/
theorem safInput_noted (i : Nat) (s : State) : Noted (safInput i s) := safAct_noted i _ (safEmcy_noted i (safLatch_noted i _ s))

theorem forEach_noted {α : Type} (f : α → State → State) (hf : ∀ a t, Noted (f a t)) {l : List α} (hl : l ≠ []) (s : State) :
    Noted (forEach l s f) := by
  unfold forEach
  rw [← List.dropLast_append_getLast hl, List.foldl_append]
  exact hf _ _

theorem safOrder_ne_nil (s : State) {l : List Nat} (hl : l ≠ []) : safOrder s l ≠ [] := by
  obtain ⟨i, hi⟩ := List.exists_mem_of_ne_nil l hl
  refine List.ne_nil_of_mem (a := i) ?_
  by_cases h : safClassOf s i = 2 <;> simp [safOrder, hi, h]

theorem settleLoop_tells (n : Nat) (s : State) : Tells s (settleLoop n s) := by
  induction n generalizing s with
  | zero => exact .inr ⟨.of_puts [.saf], rfl, rfl⟩
  | succ n ih =>
    rw [settleLoop]
    split
    · exact .inr (.refl s)
    · next h =>
      have hl : s.saf.due ≠ [] := fun hc => h (by rw [hc]; rfl)
      have h1 : Noted (forEach (safOrder s s.saf.due) { s with saf := { s.saf with due := [] } } safInput) :=
        forEach_noted safInput safInput_noted (safOrder_ne_nil s hl) _
      exact Tells.trans (.inl h1) (ih _)

theorem safClean_tells (s : State) : Tells s (safClean s) := by
  unfold safClean
  extract_lets a b
  split
  · exact .inr (.refl s)
  · split
    · exact .inr (.refl s)
    · exact .inr ⟨.wr s Fd.SAF_ACTIVE_ACTIVE b, rfl, rfl⟩

theorem emcyRefresh_tells (s : State) : Tells s (emcyRefresh s) := by
  unfold emcyRefresh
  split
  · exact .inr (.refl s)
  · extract_lets l t
    split
    · exact .inl (emcy_noted _ _ _ _)
    · exact .inr ⟨.trans (.of_puts (t := { s with net := { s.net with causes := l } }) [.net]) (.wr _ Fd.NET_ERR_REG_ER _), rfl, rfl⟩

theorem settle_tells (s : State) : Tells s (settle s) :=
  (settleLoop_tells 16 s).trans ((safClean_tells _).trans (emcyRefresh_tells _))

theorem srdoFail_noted (n : Nat) (s : State) : Noted (srdoFail n s) :=
  noted_of_touches (safRaise_touches 33 _) (emcy_noted _ _ _ _)

theorem srdoJudge_tells (s : State) : Tells s (srdoJudge s) := by
  unfold srdoJudge
  split
  · exact .inr ⟨.of_puts [.net], rfl, rfl⟩
  · split
    · exact .inr ⟨.of_puts [.net], rfl, rfl⟩
    · by_cases hl : (List.range 8).filter (fun n => (srdoIs s 1 n || srdoIs s 2 n) && !s.net.srdoFault.contains n) = []
      · rw [hl]
        exact .inr (.refl s)
      · exact .inl (forEach_noted _ srdoFail_noted hl s)

/-! ### Wakes, start-ups and Reset Communication -/

theorem wakeStart_touches (s : State) : Touches [.pwr] [] s (wakeStart s) := by
  unfold wakeStart
  split
  · split
    · exact .refl s
    · exact .of_puts [.pwr]
  · exact .refl s

theorem s3Wake_sleep_or (s : State) : (s3Wake s).pwr.sleep = .waking 3 ∨ s3Wake s = s := by
  unfold s3Wake
  split
  · split
    · exact .inr rfl
    · exact .inl rfl
  · exact .inr rfl

theorem bootUp_tx (s : State) : (bootUp s).net.tx ≠ [] := List.append_ne_nil_of_right_ne_nil _ (List.cons_ne_nil _ _)

theorem commResume_tx_or (s : State) : (commResume s).net.tx ≠ [] ∨ commResume s = s := by
  unfold commResume
  split
  · exact .inl (bootUp_tx _)
  · exact .inr rfl

theorem uflTally_touches (l : List Nat) (s : State) : Touches [] [.blk 0x0608] s (uflTally l s) := by
  unfold uflTally
  refine List.foldlRecOn (motive := Touches [] [.blk 0x0608] s) l _ (.refl s) (fun t ht i _ => ht.trans ?_)
  unfold uflRead
  split
  · exact .refl t
  · exact .wr t Fd.UFL_ECNT_CORRECTED _
  · exact .trans (.wr t Fd.UFL_ECNT_UNCORR _) (.wr _ Fd.UFL_STAT_UE 1)

theorem eimScan_scanned (s : State) : (eimScan s).ufl.scanned = true := by
  unfold eimScan
  split
  · assumption
  · extract_lets s1
    split
    · rfl
    · rw [logReq_ufl]
      rfl

theorem exportScan_ufl (s : State) : (exportScan s).ufl = s.ufl := (uflTally_touches _ s).part .ufl (by decide)

theorem xmcState_training_ufl (s : State) : (xmcState 1 s).ufl = s.ufl := by
  unfold xmcState
  split
  · rfl
  · exact (irqEvent_touches 389 _).part .ufl (by decide)

theorem xmcTrain_ufl (s : State) : (xmcTrain s).ufl = s.ufl := by
  unfold xmcTrain
  split
  · rfl
  · exact xmcState_training_ufl s

theorem loadCommon_scanned (man : Bool) (s : State) : (loadCommon man s).ufl.scanned = true := by
  unfold loadCommon
  dsimp only
  rw [xmcTrain_ufl]
  split
  · rw [exportScan_ufl, eimScan_scanned]
  · rw [eimScan_scanned]

theorem regionBegin_ufl (s : State) : (regionBegin s).ufl = s.ufl := by
  unfold regionBegin
  split
  · rfl
  · exact (retRewrite_touches s).part .ufl (by decide)

theorem retMessages_ufl (s : State) : (retMessages s).ufl = s.ufl := by
  unfold retMessages forEach
  split
  · refine List.foldlRecOn (motive := fun t : State => t.ufl = s.ufl) _ _ rfl (fun t ht r _ => ?_)
    rw [emcy_ufl, ht]
  · rfl

/-- A start-up that ends in SAFE scans the user flash. -/
theorem bootSafe_scanned_or (s : State) : (bootSafe s).ufl.scanned = true ∨ bootSafe s = s := by
  unfold bootSafe
  split
  · refine .inl ?_
    have h : ∀ c t, (when_ c bootUp t).ufl = t.ufl := by
      intro c t
      cases c <;> rfl
    extract_lets t
    rw [h, retMessages_ufl]
    show t.ufl.scanned = true
    unfold t
    rw [regionBegin_ufl]
    exact loadCommon_scanned false s
  · exact .inr rfl

/-- A state that shows no message, no scan and no wake. -/
structure Untold (t : State) : Prop where
  noted : ¬Noted t
  tx : t.net.tx = []
  scanned : t.ufl.scanned = false
  awake : t.pwr.sleep = .awake

/-- Where the end of a command leaves no message, no scan and no wake, it has judged and settled alone. -/
theorem silent_of_settle {s t : State} (h : settle (commResume (bootSafe (s3Wake s))) = t) (ht : Untold t) : Silent s t := by
  obtain ⟨hnoted, htx, hscan, hawake⟩ := ht
  subst h
  have last := (settle_tells (commResume (bootSafe (s3Wake s)))).silent hnoted
  have hresume := (commResume_tx_or (bootSafe (s3Wake s))).resolve_left (fun hne => hne (last.tx.symm.trans htx))
  rw [hresume] at last hscan hawake ⊢
  have hsafe := (bootSafe_scanned_or (s3Wake s)).resolve_left (fun hs => by
    rw [last.touches.part .ufl (by decide), hs] at hscan
    contradiction)
  rw [hsafe] at last hawake ⊢
  have hwake := (s3Wake_sleep_or s).resolve_left (fun hs => by
    rw [last.touches.part .pwr (by decide), hs] at hawake
    contradiction)
  rw [hwake] at last ⊢
  exact last

/-- Then the end of the command has changed two fields at most. -/
theorem rd_of_finish {s t : State} (h : finish s = t) (ht : Untold t) (f : Fld)
    (hf : ([.one Fd.SAF_ACTIVE_ACTIVE, .one Fd.NET_ERR_REG_ER] : List Keys).any (·.has f.key) = false) : t.rd f = s.rd f := by
  unfold finish at h
  split at h
  · rw [h]
  · have last := silent_of_settle h ht
    have wake := wakeStart_touches (settle (srdoJudge s))
    have hj : ¬Noted (settle (srdoJudge s)) := fun hn => ht.noted (last.noted_iff.2 (noted_of_touches wake hn))
    have first := ((srdoJudge_tells s).trans (settle_tells (srdoJudge s))).silent hj
    rw [last.touches.rd f hf, wake.rd f rfl, first.touches.rd f hf]

/-! ### A source that reads VALID from a push word -/

/-- An empty RUNNING queue that host port 10 produces. -/
def hostRing : Desc := ⟨0, 2, 0, 0, 0, 0, 1, 0, 0, 0, 0, 10, 0, 0⟩

/-- AFE_CTRL_SRC, a field of one bit, holds 256: the address of AFE_CH_STAT of channel 256 is that of the first push word of port 10, which
holds 1. -/
def straySource : State :=
  setHalt 0 1 0 (putDesc 0 hostRing ({ standingBy with regs := mapPut standingBy.regs Fd.AFE_CTRL_SRC.key 256 }.wr (Fd.QUE_PUSH_W_WORD 2 0) 1))

theorem readDesc_straySource : readDesc 0 straySource = (some hostRing, straySource) :=
  readDesc_of_clean 0 straySource (BitVec.ofNat 64 (descLo hostRing)) (BitVec.ofNat 64 (descHi hostRing)) (by decide +kernel)
    (by decide +kernel)

/-- What the port leaves once it has staged a first word of 0. -/
def strayRefused : State := pushBy 0 (.port 10 0 0 0 0 0) straySource

theorem strayRefused_untold : Untold strayRefused := by
  constructor
  · unfold Noted
    decide +kernel
  · decide +kernel
  · decide +kernel
  · decide +kernel

theorem exec_straySource : exec (.push (.port 10 0 0 0 0 0)) straySource = .next strayRefused := by
  have h : engRun (pushBy 0 (.port 10 0 0 0 0 0)) straySource = .next (finish strayRefused) :=
    engRun_of_engOn _ straySource (by decide +kernel)
  rw [finish_of_calm strayRefused (by decide +kernel)] at h
  exact h

/-- Refutes O28: a push of port 10 whose words pass the checks writes the register that the source is judged by, and is refused. -/
theorem not_pushStagesAnEvent : ¬ Obligations.PushStagesAnEvent := by
  intro h
  obtain ⟨-, -, host⟩ := h straySource 10 0 0 0 0 0 0 0 0 hostRing (by decide +kernel) (by decide) (by decide) (by decide) (by decide +kernel)
    (by decide +kernel) readDesc_straySource rfl (.inl rfl)
  obtain ⟨push, -⟩ := host (by decide) (by decide) (by decide +kernel) (by decide) (by decide)
  obtain ⟨⟨u, hu, ok, -⟩, -⟩ := push ⟨by decide +kernel, by decide, by decide +kernel, by decide +kernel, .inl rfl⟩
  rw [exec_straySource] at hu
  injection hu with hu
  have status : strayRefused.rd (Fd.QUE_PUSH_STAT_STATUS 2) = 2 := by decide +kernel
  rw [rd_of_finish hu.symm strayRefused_untold (Fd.QUE_PUSH_STAT_STATUS 2) (by decide)] at status
  exact absurd (ok.symm.trans status) (by decide)

end Sys2Proof.Machine

/-! What the engine's reads of the memories and its predictions leave of a state, and that the scheduler sees the same before and after
(R106 to R114, R221). -/

namespace Sys2Proof.Machine

set_option Elab.async false

open Sys2Proof

/-! ### Reads (R221) -/

/-- The fields that a read or a prediction can write: the memories' status, capture and error counts, what a source event writes, and the
saturation of a lead. -/
abbrev readKeys : List Keys :=
  .addrs 0x06060000 0x06060010 :: .addrs 0x06060100 0x06060180 :: .one Fd.NIB_ARITH_STAT_LEAD_SAT :: irqKeys

/-- A field of the registers of nibs and channels beyond the sticky bits of arithmetic is not among them. -/
theorem readKeys_of_addr {f : Fld} (h0 : 0x06020018 ≤ f.addr) (h1 : f.addr < 0x06050000) (hl : f.lo < 64) :
    readKeys.any (·.has f.key) = false := by
  simp only [List.any_cons, List.any_nil, Keys.has, Fld.key, Fd.NIB_ARITH_STAT_LEAD_SAT, Fd.IRQ_TGT_CNT_REFIRES, Fd.PWR_WAKE_SRC_LATCHED,
    Fd.PWR_WAKE_SRC_FIRST, Fd.PWR_WAKE_SRC_IRQ_SRC, Bool.or_eq_false_iff, beq_eq_false_iff_ne, Bool.and_eq_false_iff,
    decide_eq_false_iff_not]
  exact ⟨by omega, by omega, by omega, by omega, .inl (decide_eq_false (by omega)), by omega, by omega, by omega, trivial⟩

/-- Nor is one that repeats every 16 bytes there, for each lead class or string. -/
theorem readKeys_of_family {c : Nat} (hc : c < 256) (f : Nat → Fld)
    (h : (f 0).lo < 64 ∧ 0x06020018 ≤ (f 0).addr ∧ (f 0).addr < 0x06040000 := by decide)
    (hf : ∀ c, (f c).lo = (f 0).lo ∧ (f c).addr = (f 0).addr + 16 * c := by exact fun _ => ⟨rfl, rfl⟩) :
    readKeys.any (·.has (f c).key) = false := by
  obtain ⟨hlo, haddr⟩ := hf c
  exact readKeys_of_addr (by omega) (by omega) (by omega)

/-- `t` is `s` after reads: every word is as it was, and only their bookkeeping and what they raise differs. -/
structure AfterReads (s t : State) : Prop where
  touches : Touches [.mst, .irq, .pwr, .saf] readKeys s t
  mcur : ∀ k, t.mcur k = s.mcur k

namespace AfterReads

variable {s t u : State}

theorem refl (s : State) : AfterReads s s := ⟨.refl s, fun _ => rfl⟩

theorem trans (h : AfterReads s t) (g : AfterReads t u) : AfterReads s u :=
  ⟨h.touches.trans g.touches, fun k => (g.mcur k).trans (h.mcur k)⟩

theorem of_touches {ps : List Part} (h : Touches ps readKeys s t) (hp : ∀ p ∈ ps, p ∈ [.irq, .pwr, .saf] := by decide) : AfterReads s t :=
  ⟨⟨fun p hn => h.part p (fun hc => hn (List.mem_cons_of_mem _ (hp p hc))), h.rd⟩,
    h.mcur (fun p hc => (by decide : ∀ p ∈ [Part.irq, .pwr, .saf], p ∉ [Part.mem, .mst, .bst]) p (hp p hc))⟩

theorem plain (h : AfterReads s t) (hp : s.plainMem) : t.plainMem := by
  have hb : t.bst = s.bst := h.touches.part .bst (by decide)
  exact ⟨by rw [State.rdB, h.touches.rd _ (by decide)]; exact hp.1, by rw [hb]; exact hp.2⟩

theorem getDesc (h : AfterReads s t) (q : Nat) : getDesc t q = getDesc s q := getDesc_congr (h.mcur _) (h.mcur _)

end AfterReads

theorem readKeys_errCount : ∀ m < 16, readKeys.any (·.has (Fd.MEM_ECNT_CORRECTED m).key) = true ∧
    readKeys.any (·.has (Fd.MEM_ECNT_UNCORR m).key) = true := by decide

theorem memCap_touches_readKeys (kind m addr master : Nat) (s : State) : Touches [] readKeys s (memCap kind m addr master s) :=
  .ite (fun _ => .trans (.trans (.trans (.trans (.wr s Fd.MEM_ERR_CAP_ADDR _) (.wr _ Fd.MEM_ERR_CAP_MEMID _))
    (.wr _ Fd.MEM_ERR_CAP_KIND _)) (.wr _ Fd.MEM_ERR_CAP_MASTER _)) (.wr _ Fd.MEM_ERR_CAP_VALID _)) (fun _ => .refl s)

section Read

variable {m : Nat} (hm : m < 16) (i r : Nat) (s : State)
include hm

theorem noteFixed_afterReads : AfterReads s (noteFixed m i r s) := by
  have counted : Touches [] readKeys s (fixedCounted m i r s) :=
    .trans (.trans (.wr s Fd.MEM_STAT_CE 1) (.wr _ (Fd.MEM_ECNT_CORRECTED m) _ (readKeys_errCount m hm).1)) (memCap_touches_readKeys _ _ _ _ _)
  have queued : ∀ t, Touches [.mst] readKeys t (fixedQueued m i t) := fun t =>
    .ite (fun _ => .refl t) (fun _ => .ite (fun _ => .of_puts [.mst]) (fun _ => .wr t Fd.MEM_STAT_WB_DROP 1))
  exact ⟨counted.mono.trans (queued _).mono, noteFixed_mcur m i r s⟩

theorem noteUE_afterReads : AfterReads s (noteUE m i r s) := by
  have stat : Touches [.irq, .pwr] readKeys (s.incSat (Fd.MEM_ECNT_UNCORR m)) (memStat Fd.MEM_STAT_UE (s.incSat (Fd.MEM_ECNT_UNCORR m))) :=
    .trans (.wr _ Fd.MEM_STAT_UE 1) (irqEvent_touches 388 _).mono
  have counted : Touches [.irq, .pwr, .saf] readKeys s (s.incSat (Fd.MEM_ECNT_UNCORR m)) := .wr s _ _ (readKeys_errCount m hm).2
  exact .of_touches (counted.trans (stat.mono.trans ((memCap_touches_readKeys _ _ _ _ _).mono.trans (safRaise_touches 18 _).mono)))

theorem readWord_afterReads : AfterReads s (readWord m i r s).2 := by
  unfold readWord
  split
  · exact .refl s
  · exact noteFixed_afterReads hm i r s
  · exact noteUE_afterReads hm i r s

theorem readTwo_afterReads {α : Type} (j : Nat) (f : Nat → Nat → α) : AfterReads s (readTwo m i j f s).2 := by
  rw [readTwo_snd]
  exact (readWord_afterReads hm i 0 s).trans (readWord_afterReads hm j 0 _)

end Read

theorem readDesc_afterReads (q : Nat) (s : State) : AfterReads s (readDesc q s).2 := readTwo_afterReads (m := 1) (by decide) _ s _ descOf

theorem readEntry_afterReads (e : Nat) (s : State) : AfterReads s (readEntry e s).2 := readTwo_afterReads (m := 0) (by decide) _ s _ evWords

theorem slotRead_afterReads (j : Nat) (s : State) : AfterReads s (slotRead j s).2 := readWord_afterReads (m := 14) (by decide) _ 0 s

theorem slotRead_fst (j : Nat) (s : State) : (slotRead j s).1 = if slotOk s j then some (slotVal s j) else none := by
  show (readWord 14 (j / 2) 0 s).1.map _ = _
  rw [readWord_fst, slotOk]
  split
  · simp only [Option.map_some, BitVec.toNat_ofNat, Nat.mod_eq_of_lt (mdata_lt 14 _ s), slotVal]
  · rfl

/-- A readable descriptor is read, and its queue goes on with it. -/
theorem withDesc_of_getDesc {q : Nat} {d : Desc} {s : State} (h : getDesc s q = some d) (f : Desc → State → State) :
    withDesc q f s = f d (readDesc q s).2 := by
  have hr : readDesc q s = (some d, (readDesc q s).2) := Prod.ext ((readDesc_fst q s).trans h) rfl
  unfold withDesc
  rw [hr]

theorem readEntry_of_getEntry {e : Nat} {v : Ev} {s : State} (h : getEntry s e = some v) :
    readEntry e s = (some v, (readEntry e s).2) := Prod.ext ((readTwo_fst 0 _ _ evWords s).trans h) rfl

theorem fits_of_getDesc {q : Nat} {d : Desc} {s : State} (h : getDesc s q = some d) : d.Fits :=
  fits_of_readDesc (t := (readDesc q s).2) (Prod.ext ((readDesc_fst q s).trans h) rfl)

/-! ### What the scheduler takes from a state -/

/-- The words, nibs, channels, estimates and register fields that the scheduler goes by are in `t` as in `s`. -/
structure SchedView (s t : State) : Prop where
  mcur : ∀ k, t.mcur k = s.mcur k
  rd : ∀ f : Fld, readKeys.any (·.has f.key) = false → t.rd f = s.rd f
  nibs : t.nib.nibs = s.nib.nibs
  arming : t.nib.arming = s.nib.arming
  lastFire : t.nib.lastFire = s.nib.lastFire
  horizon : t.nib.horizon = s.nib.horizon
  chn : t.chn = s.chn
  afe : t.afe = s.afe
  mem : t.mem = s.mem

theorem AfterReads.schedView {s t : State} (h : AfterReads s t) : SchedView s t := by
  have nib : t.nib = s.nib := h.touches.part .nib (by decide)
  exact ⟨h.mcur, h.touches.rd, by rw [nib], by rw [nib], by rw [nib], by rw [nib], h.touches.part .chn (by decide),
    h.touches.part .afe (by decide), h.touches.part .mem (by decide)⟩

theorem Ev.cls_lt (e : Ev) : e.cls < 256 := Nat.mod_lt _ (by decide)

theorem Ev.channel_lt (e : Ev) : e.channel < 16384 := Nat.mod_lt _ (by decide)

namespace SchedView

variable {s t u : State}

theorem trans (h : SchedView s t) (g : SchedView t u) : SchedView s u :=
  ⟨fun k => (g.mcur k).trans (h.mcur k), fun f hf => (g.rd f hf).trans (h.rd f hf), g.nibs.trans h.nibs, g.arming.trans h.arming,
    g.lastFire.trans h.lastFire, g.horizon.trans h.horizon, g.chn.trans h.chn, g.afe.trans h.afe, g.mem.trans h.mem⟩

/-- The list of examined candidates is not among it. -/
theorem of_examined (s : State) (l : List Nat) : SchedView s { s with nib := { s.nib with examined := l } } :=
  ⟨fun _ => rfl, fun _ _ => rfl, rfl, rfl, rfl, rfl, rfl, rfl, rfl⟩

variable (h : SchedView s t)
include h

theorem getDesc (q : Nat) : getDesc t q = getDesc s q := getDesc_congr (h.mcur _) (h.mcur _)

theorem getEntry (e : Nat) : getEntry t e = getEntry s e := getEntry_congr (h.mcur _) (h.mcur _)

theorem slotOk (j : Nat) : slotOk t j = slotOk s j := State.mok_congr (h.mcur _)

theorem slotVal (j : Nat) : slotVal t j = slotVal s j := by rw [Machine.slotVal, Machine.slotVal, State.mdata_congr (h.mcur _)]

theorem now : t.now = s.now := h.rd Fd.LOG_TIME_TIME (by decide)

theorem crossing : crossing t = crossing s := by rw [Machine.crossing, Machine.crossing, State.rdB, State.rdB, h.rd _ (by decide)]

theorem tRel (f : Nat) : tRel t f = tRel s f := by rw [Machine.tRel, Machine.tRel, h.now]

theorem laterOf (a b : Nat) : laterOf t a b = laterOf s a b := by simp only [Machine.laterOf, h.tRel]

theorem engSrc : engSrc t = engSrc s := h.rd Fd.AFE_CTRL_SRC (by decide)

theorem engAch : t.ach (Machine.engSrc t) = s.ach (Machine.engSrc s) := by rw [h.engSrc, State.ach, State.ach, h.afe]

theorem engTheta : engTheta t = engTheta s := by
  simp only [Machine.engTheta, engOffset, State.ach, h.engSrc, State.afeRd, h.afe, h.rd Fd.AFE_CHK_OFFSET_OFFSET (by decide)]

theorem engV : engV t = engV s := by rw [Machine.engV, Machine.engV, h.engAch]

theorem engA : engA t = engA s := by rw [Machine.engA, Machine.engA, h.engAch]

theorem fireOf (tau : Int) : fireOf t tau = fireOf s tau := by rw [Machine.fireOf, Machine.fireOf, engTu, engTu, h.engAch]

theorem ringPos (n : Nib) : ringPos t n = ringPos s n := by simp only [Machine.ringPos, ringOf, cidxOf, h.getDesc]

theorem nibsAhead (n : Nib) : nibsAhead t n = nibsAhead s n := by simp only [Machine.nibsAhead, h.ringPos, h.nibs]

theorem onString {ch : Nat} (hc : ch < 16384) : onString t ch = onString s ch := by
  have hl := h.rd _ (readKeys_of_family (c := (chString ch).1) (by unfold chString; omega) Fd.CHN_SCFG2_LEN8)
  unfold Machine.onString strLen
  rw [hl]

theorem frameOf (k : Nat) (n : Nib) : frameOf t k n = frameOf s k n := by
  simp only [Machine.frameOf, h.onString n.ev.channel_lt, State.strOf, h.chn]

theorem effFire (k : Nat) (n : Nib) : effFire t k n = effFire s k n := by simp only [Machine.effFire, h.frameOf]

theorem afterPred (q f : Nat) : afterPred t q f = afterPred s q f := by
  simp only [Machine.afterPred, predFire, h.arming, h.nibs, h.ringPos, h.effFire, h.lastFire, h.laterOf]

end SchedView

/-! ### Predictions (R113, R125) -/

theorem leadDelay_afterReads (c : Nat) (e : Ev) (s : State) : AfterReads s (leadDelay c e s).2 := by
  have hs := slotRead_afterReads (slotDelay e.channel) s
  unfold leadDelay
  split
  · split
    · next v t hr =>
      rw [hr] at hs
      exact hs
    · next t hr =>
      rw [hr] at hs
      exact hs.trans (.of_touches (ps := [.saf]) (safRaise_touches 4 t).mono)
  · exact .refl s

/-- The delay of a lead is that of a seeded and readable entry of the channel where its class asks for it, else that of the class. -/
theorem leadDelay_fst {c : Nat} (hc : c < 256) (e : Ev) (s : State) : (leadDelay c e s).1 =
    if (s.rd (Fd.NIB_LC_LEARN_DSRC c) = 1 ∧ e.action ≤ 4) ∧ slotOk s (slotDelay e.channel) = true ∧
        (slotVal s (slotDelay e.channel)).testBit 31 = true then slotVal s (slotDelay e.channel) % 2 ^ 24
    else s.rd (Fd.NIB_LC_DELAY_DELAY c) := by
  have hd : (slotRead (slotDelay e.channel) s).2.rd (Fd.NIB_LC_DELAY_DELAY c) = s.rd (Fd.NIB_LC_DELAY_DELAY c) :=
    (slotRead_afterReads _ s).touches.rd _ (readKeys_of_family hc Fd.NIB_LC_DELAY_DELAY)
  have hf := slotRead_fst (slotDelay e.channel) s
  unfold leadDelay
  split
  · next hg =>
    split
    · next v t hr =>
      rw [hr] at hd hf
      split at hf
      · next ho =>
        obtain rfl := Option.some.inj hf
        simp [hg, ho, hd]
      · contradiction
    · next t hr =>
      rw [hr] at hd hf
      split at hf
      · contradiction
      · next ho => simp [ho, hd]
  · next hg => simp [hg]

theorem eventLead_afterReads (e : Ev) (s : State) : AfterReads s (eventLead e s).2 := by
  unfold eventLead
  split
  · exact .refl s
  · refine (leadDelay_afterReads e.cls e s).trans (.of_touches (ps := []) ?_)
    exact .ite (fun _ => .wr _ Fd.NIB_ARITH_STAT_LEAD_SAT 1) (fun _ => .refl _)

theorem predictEv_afterReads (e : Ev) (qdir : Nat) (s : State) : AfterReads s (predictEv e qdir s).2.2 := eventLead_afterReads e s

/-- The lead of an event. -/
theorem eventLead_fst (e : Ev) (s : State) : (eventLead e s).1 =
    if e.action = 6 then 0
    else (leadOf (leadDelay e.cls e s).1 (velWord (engV s)) (s.rdI (Fd.NIB_LC_OFFSET_OFFSET e.cls))).1 := by
  have ho : (leadDelay e.cls e s).2.rdI (Fd.NIB_LC_OFFSET_OFFSET e.cls) = s.rdI (Fd.NIB_LC_OFFSET_OFFSET e.cls) := by
    rw [State.rdI, State.rdI, (leadDelay_afterReads e.cls e s).touches.rd _ (readKeys_of_family e.cls_lt Fd.NIB_LC_OFFSET_OFFSET)]
  unfold eventLead
  dsimp only
  rw [ho]
  split <;> rfl

namespace SchedView

variable {s t : State} (h : SchedView s t)
include h

theorem leadDelay {c : Nat} (hc : c < 256) (e : Ev) : (leadDelay c e t).1 = (leadDelay c e s).1 := by
  rw [leadDelay_fst hc, leadDelay_fst hc, h.slotOk, h.slotVal, h.rd _ (readKeys_of_family hc Fd.NIB_LC_LEARN_DSRC),
    h.rd _ (readKeys_of_family hc Fd.NIB_LC_DELAY_DELAY)]

theorem eventLead (e : Ev) : (eventLead e t).1 = (eventLead e s).1 := by
  rw [eventLead_fst, eventLead_fst, h.leadDelay e.cls_lt, h.engV, State.rdI, State.rdI, h.rd _ (readKeys_of_family e.cls_lt Fd.NIB_LC_OFFSET_OFFSET)]

/-- An event's fire time and fire angle are predicted alike. -/
theorem predictEv (e : Ev) (qdir : Nat) :
    (predictEv e qdir t).1 = (predictEv e qdir s).1 ∧ (predictEv e qdir t).2.1 = (predictEv e qdir s).2.1 := by
  have ha : t.rdB Fd.NIB_CTRL_ACC_EN = s.rdB Fd.NIB_CTRL_ACC_EN := by rw [State.rdB, State.rdB, h.rd _ (by decide)]
  unfold Machine.predictEv
  dsimp only
  rw [h.eventLead, h.engTheta, h.engV, h.engA, ha]
  exact ⟨rfl, rfl⟩

end SchedView

end Sys2Proof.Machine

/-! The select stage, and what the nib operations leave of the rest: records, retraction, descriptors (R104 to R110, R120, R121). -/

namespace Sys2Proof.Machine

set_option Elab.async false

open Sys2Proof

/-! ### The select stage (R109 to R113) -/

/-- `t` hands the listed predictions to arming, and has the nibs and words of `s`. -/
def HandsOn (s : State) (added : List Nib) (t : State) : Prop :=
  t.nib.arming = s.nib.arming ++ added ∧ t.nib.nibs = s.nib.nibs ∧ t.mem = s.mem

namespace SchedView

variable {s t : State} (h : SchedView s t)
include h

theorem handsOn_nil : HandsOn s [] t := ⟨by rw [h.arming, List.append_nil], h.nibs, h.mem⟩

theorem handsOn_toArm (n : Nib) : HandsOn s [n] (toArm n t) := ⟨congrArg (· ++ [n]) h.arming, h.nibs, h.mem⟩

end SchedView

theorem selectTick_of_idle {s : State} (h : mayArm s = false ∨ candidates s = []) : selectTick s = s := by
  unfold selectTick
  rcases h with h | h
  · rw [h]
    rfl
  · rw [h]
    exact ite_self s

theorem selectTick_of_single {s : State} {c : Cand} (hm : mayArm s = true) (hc : candidates s = [c]) : selectTick s = examine c s := by
  rw [selectTick, if_pos hm, hc]
  rfl

/-- A readable candidate is examined by its fire time outside crossing mode. -/
theorem examine_of_timed {s : State} {c : Cand} {d : Desc} {e : Ev} (hx : crossing s = false) (hd : getDesc s c.queue = some d)
    (he : getEntry s (ringEntry d c.idx) = some e) : ∃ u, SchedView s u ∧ examine c s = examineTimed c.queue c.idx d e u := by
  have v0 := SchedView.of_examined s (setIns s.nib.examined c.key)
  have v1 := v0.trans (readDesc_afterReads c.queue _).schedView
  have v2 := v1.trans (readEntry_afterReads (ringEntry d c.idx) _).schedView
  refine ⟨_, v2, ?_⟩
  unfold examine
  dsimp only
  rw [withDesc_of_getDesc ((v0.getDesc _).trans hd), readEntry_of_getEntry ((v1.getEntry _).trans he)]
  exact if_neg (by rw [v2.crossing, hx]; decide)

section Timed

variable {q idx : Nat} {d : Desc} {e : Ev} {s : State} (ha : e.action ≠ 6)
include ha

theorem examineTimed_of_no_crossing (hr : (predictEv e d.dir s).1 = none) : examineTimed q idx d e s = (predictEv e d.dir s).2.2 := by
  simp [examineTimed, ha, hr]

variable {tau : Int} (hr : (predictEv e d.dir s).1 = some tau)
include hr

theorem examineTimed_of_far (ht : 2 ^ 22 * 16 < tau) : examineTimed q idx d e s = (predictEv e d.dir s).2.2 := by
  simp only [examineTimed, hr, beq_iff_eq, ha, Bool.and_eq_true, false_and, if_false]
  exact if_pos ht

/-- An event with a crossing within the range of a prediction is judged by its fire time. -/
theorem examineTimed_of_near (ht : tau ≤ 2 ^ 22 * 16) (hb : e.bidir = false) :
    examineTimed q idx d e s =
      (let r := predictEv e d.dir s
       let t := r.2.2
       let f := afterPred t q (fireOf t tau)
       if tRel t f < 256 then lateEvent q idx r.2.1 d.dir d e t
       else if tRel t f ≤ (t.nib.horizon * 16 : Nat) then toArm (nibFor q idx f r.2.1 d.dir e false .armed) t else t) := by
  have hg : (e.action == 6) = false := beq_false_of_ne ha
  simp only [examineTimed, hr, hg, hb, Bool.false_and, Bool.or_self, if_false, fireDir, Bool.false_eq_true]
  exact if_neg (Int.not_lt.2 ht)

end Timed

/-- Under LATE 0 a late event is armed at the earliest tick. -/
theorem lateEvent_of_fire {d : Desc} {s : State} (hl : d.late = 0) (hx : crossing s = false) (q idx phi dir : Nat) (e : Ev) :
    lateEvent q idx phi dir d e s = toArm (nibFor q idx (afterPred s q (atTick (s.now + 16))) phi dir e true .armed) s := by
  simp [lateEvent, hl, atOwnTick, hx, nibFor, armLatency]

section Select

variable {s : State} {c : Cand} {d : Desc} {e : Ev} (hm : mayArm s = true) (hx : crossing s = false) (hc : candidates s = [c])
  (hd : getDesc s c.queue = some d) (he : getEntry s (ringEntry d c.idx) = some e) (ha : e.action ≠ 6)
include hm hx hc hd he ha

theorem selectTick_of_no_crossing (hr : (predictEv e d.dir s).1 = none) : HandsOn s [] (selectTick s) := by
  obtain ⟨u, hv, hu⟩ := examine_of_timed hx hd he
  rw [selectTick_of_single hm hc, hu, examineTimed_of_no_crossing ha ((hv.predictEv e d.dir).1.trans hr)]
  exact (hv.trans (predictEv_afterReads e d.dir u).schedView).handsOn_nil

variable {tau : Int} (hr : (predictEv e d.dir s).1 = some tau)
include hr

theorem selectTick_of_far (ht : 2 ^ 22 * 16 < tau) : HandsOn s [] (selectTick s) := by
  obtain ⟨u, hv, hu⟩ := examine_of_timed hx hd he
  rw [selectTick_of_single hm hc, hu, examineTimed_of_far ha ((hv.predictEv e d.dir).1.trans hr) ht]
  exact (hv.trans (predictEv_afterReads e d.dir u).schedView).handsOn_nil

/-- The candidate is judged by its fire time as the state before the command gives it. -/
theorem selectTick_of_near (ht : tau ≤ 2 ^ 22 * 16) (hb : e.bidir = false) : ∃ t, SchedView s t ∧ selectTick s =
    (let phi := (predictEv e d.dir s).2.1
     let f := afterPred s c.queue (fireOf s tau)
     if tRel s f < 256 then lateEvent c.queue c.idx phi d.dir d e t
     else if tRel s f ≤ (s.nib.horizon * 16 : Nat) then toArm (nibFor c.queue c.idx f phi d.dir e false .armed) t else t) := by
  obtain ⟨u, hv, hu⟩ := examine_of_timed hx hd he
  obtain ⟨h1, h2⟩ := hv.predictEv e d.dir
  have hw := hv.trans (predictEv_afterReads e d.dir u).schedView
  refine ⟨_, hw, ?_⟩
  rw [selectTick_of_single hm hc, hu, examineTimed_of_near ha (h1.trans hr) ht hb]
  dsimp only
  rw [hw.afterPred, hw.fireOf, hw.tRel, hw.horizon, h2]

theorem selectTick_of_beyond (ht : tau ≤ 2 ^ 22 * 16) (hb : e.bidir = false)
    (hh : (s.nib.horizon * 16 : Nat) < tRel s (afterPred s c.queue (fireOf s tau)))
    (hl : 256 ≤ tRel s (afterPred s c.queue (fireOf s tau))) : HandsOn s [] (selectTick s) := by
  obtain ⟨t, hv, e⟩ := selectTick_of_near hm hx hc hd he ha hr ht hb
  dsimp only at e
  rw [e, if_neg (Int.not_lt.2 hl), if_neg (Int.not_le.2 hh)]
  exact hv.handsOn_nil

theorem selectTick_of_within (ht : tau ≤ 2 ^ 22 * 16) (hb : e.bidir = false)
    (hl : 256 ≤ tRel s (afterPred s c.queue (fireOf s tau)))
    (hh : tRel s (afterPred s c.queue (fireOf s tau)) ≤ (s.nib.horizon * 16 : Nat)) :
    HandsOn s [nibFor c.queue c.idx (afterPred s c.queue (fireOf s tau)) (predictEv e d.dir s).2.1 d.dir e false .armed] (selectTick s) := by
  obtain ⟨t, hv, e⟩ := selectTick_of_near hm hx hc hd he ha hr ht hb
  dsimp only at e
  rw [e, if_neg (Int.not_lt.2 hl), if_pos hh]
  exact hv.handsOn_toArm _

theorem selectTick_of_late (ht : tau ≤ 2 ^ 22 * 16) (hb : e.bidir = false)
    (hl : tRel s (afterPred s c.queue (fireOf s tau)) < 256) (h0 : d.late = 0) :
    HandsOn s [nibFor c.queue c.idx (afterPred s c.queue (atTick (s.now + 16))) (predictEv e d.dir s).2.1 d.dir e true .armed]
      (selectTick s) := by
  obtain ⟨t, hv, e⟩ := selectTick_of_near hm hx hc hd he ha hr ht hb
  dsimp only at e
  rw [e, if_pos hl, lateEvent_of_fire h0 (hv.crossing.trans hx), hv.afterPred, hv.now]
  exact hv.handsOn_toArm _

end Select

/-! ### Nib records (R106) -/

/-- A word of a memory beyond retained RAM is no word of retained RAM. -/
theorem mkey_tables_div_ne (i : Nat) : mkey 14 i / 2 ^ 32 ≠ 13 := by
  unfold mkey
  omega

theorem mput_touches_words {k : Nat} (hk : k / 2 ^ 32 ≠ 13) (w : MemWord) (s : State) : Touches [.mem, .mst, .bst] [] s (s.mput k w) := by
  unfold State.mput
  simp only [hk, if_false]
  split
  · split
    · exact .of_puts [.bst]
    · exact .refl s
  · split
    · exact .of_puts [.mst]
    · exact .of_puts [.mem]

/-- A write to the engine tables reaches the words, and disarms an injection at most. -/
theorem writeTable_touches (i : Nat) (d : W64) (s : State) : Touches [.mem, .mst, .bst] [.one Fd.MEM_INJ_ARMED] s (writeWord 14 i d s) := by
  rw [writeWord, retUnmerge_of_other (by decide)]
  refine .trans (.of_puts (t := touchWord 14 i s) [.mst]) ?_
  exact .trans (.ite (fun _ => .wr _ Fd.MEM_INJ_ARMED 0) (fun _ => .refl _)) (mput_touches_words (mkey_tables_div_ne i) _ _).mono

theorem writeRec_touches_words (k : Nat) (w : List W32) (s : State) :
    Touches [.mem, .mst, .bst] [.one Fd.MEM_INJ_ARMED] s (writeRec k w s) :=
  (writeTable_touches _ _ s).trans (writeTable_touches _ _ _)

@[simp] theorem writeRec_nib (k : Nat) (w : List W32) (s : State) : (writeRec k w s).nib = s.nib :=
  (writeRec_touches_words k w s).part .nib (by decide)

@[simp] theorem putNib_nib (k : Nat) (n : Nib) (s : State) : (putNib k n s).nib = { s.nib with nibs := mapPut s.nib.nibs k n } :=
  writeRec_nib _ _ _

theorem putNib_touches (k : Nat) (n : Nib) (s : State) :
    Touches [.mem, .mst, .bst, .nib] [.one Fd.MEM_INJ_ARMED] s (putNib k n s) :=
  .trans (.of_puts (t := { s with nib := { s.nib with nibs := mapPut s.nib.nibs k n } }) [.nib]) (writeRec_touches_words _ _ _).mono

theorem slotNib_word_lt {k w : Nat} (hk : k < 1024) (hw : w < 4) : slotNib k w / 2 < 2 ^ 32 := by
  unfold slotNib
  omega

section Plain

variable {s : State} (hp : s.plainMem) {k : Nat} (hk : k < 1024) (w : List W32)
include hp hk

theorem writeRec_plain : (writeRec k w s).plainMem :=
  writeWord_plain (writeWord_plain hp (by decide) (slotNib_word_lt hk (by decide)) _) (by decide) (slotNib_word_lt hk (by decide)) _

theorem writeRec_touches_mem : Touches [.mem, .mst] [] s (writeRec k w s) :=
  .trans (writeWord_touches_mem hp (by decide) (slotNib_word_lt hk (by decide)) _)
    (writeWord_touches_mem (writeWord_plain hp (by decide) (slotNib_word_lt hk (by decide)) _) (by decide) (slotNib_word_lt hk (by decide)) _)

/-- A nib record lies in no other memory. -/
theorem mcur_writeRec {j : Nat} (hj : j < mkey 14 0) : (writeRec k w s).mcur j = s.mcur j := by
  rw [writeRec, mcur_writeWord (writeWord_plain hp (by decide) (slotNib_word_lt hk (by decide)) _) (by decide) (slotNib_word_lt hk (by decide)),
    mcur_writeWord hp (by decide) (slotNib_word_lt hk (by decide)), if_neg (by unfold mkey at *; omega), if_neg (by unfold mkey at *; omega)]

theorem getDesc_writeRec {q : Nat} (hq : q < 65536) : getDesc (writeRec k w s) q = getDesc s q :=
  getDesc_congr (mcur_writeRec hp hk w (by unfold mkey; omega)) (mcur_writeRec hp hk w (by unfold mkey; omega))

end Plain

/-- Nib k and its record are put where memory is plain: descriptors read as they did. -/
theorem putNib_of_plain {s : State} (hp : s.plainMem) {k : Nat} (hk : k < 1024) (n : Nib) :
    Touches [.mem, .mst, .nib] [] s (putNib k n s) ∧ (putNib k n s).plainMem ∧
    ∀ q, q < 65536 → getDesc (putNib k n s) q = getDesc s q := by
  have hp' : State.plainMem { s with nib := { s.nib with nibs := mapPut s.nib.nibs k n } } := hp
  exact ⟨.trans (.of_puts [.nib]) (writeRec_touches_mem hp' hk _).mono, writeRec_plain hp' hk _, fun q hq => getDesc_writeRec hp' hk _ hq⟩

/-! ### A descriptor is changed (R102) -/

/-- A readable descriptor that is read, changed and written reads as changed. -/
theorem withDesc_putDesc {s : State} (hp : s.plainMem) {q : Nat} (hq : q < 65536) {d : Desc} (hd : getDesc s q = some d)
    (g : Desc → Desc) :
    Touches [.mem, .mst, .irq, .pwr, .saf] readKeys s (withDesc q (fun d t => putDesc q (g d) t) s) ∧
    getDesc (withDesc q (fun d t => putDesc q (g d) t) s) q = some (g d).cut := by
  have hr := readDesc_afterReads q s
  rw [withDesc_of_getDesc hd]
  exact ⟨hr.touches.mono.trans (putDesc_touches_mem (hr.plain hp) hq _).mono, getDesc_putDesc (hr.plain hp) hq _⟩

/-! ### Retraction (R106, R120) -/

theorem recompose_touches (st : Nat) (gone : List Nat) (s : State) :
    Touches [.chn] [.one (Fd.CHN_CNT_COUNT 1)] s (recompose st gone s) := by
  unfold recompose
  split
  · exact .refl s
  · exact .ite (fun _ => .refl s) (fun _ => .trans (.of_puts (t := s.setStr st _) [.chn]) (.wr _ (Fd.CHN_CNT_COUNT 1) _))

theorem recomposeAll_touches (gone : List Nat) (s : State) :
    Touches [.chn] [.one (Fd.CHN_CNT_COUNT 1)] s (recomposeAll gone s) := .forEach _ (fun st t => recompose_touches st gone t) _ s

@[simp] theorem recomposeAll_nib (gone : List Nat) (s : State) : (recomposeAll gone s).nib = s.nib :=
  (recomposeAll_touches gone s).part .nib (by decide)

/-- The unlocked nibs that are taken back leave the nibs in use, and no other does. -/
theorem retractWhere_nibs (p : Nib → Bool) (ctr : Fld) (s : State) :
    (retractWhere p ctr s).nib.nibs = s.nib.nibs.filter (fun e => !(p e.2 && e.2.mode != NibMode.locked)) := by
  unfold retractWhere
  extract_lets gone qs _ _ s1
  split
  · next h =>
    symm
    rw [List.filter_eq_self]
    intro e he
    rw [List.isEmpty_iff, List.filter_eq_nil_iff] at h
    rw [Bool.not_eq_true']
    exact Bool.eq_false_iff.2 (h e he)
  · rw [recomposeAll_nib, forEach_view (fun t => t.nib) _ (fun k t => writeRec_nib k [] t)]
    rfl

/-- An unlocked nib that is retracted is in use no more. -/
theorem not_mem_retractFrom {n : Nib} (hm : n.mode ≠ .locked) (k : Nat) (ctr : Fld) (s : State) :
    (k, n) ∉ (retractFrom n ctr s).nib.nibs := by
  rw [retractFrom, retractWhere_nibs]
  simp [hm]

end Sys2Proof.Machine

/-! Arming, re-timing and descriptor restores, and the obligation on the select stage and arming (R106, R111, R114, R116, R121). -/

namespace Sys2Proof.Machine

set_option Elab.async false

open Sys2Proof

/-! ### Arming (R106, R111) -/

section Arm

variable {s : State} {n : Nib} {rest : List Nib} (ha : s.nib.arming = n :: rest)
include ha

/-- A prediction whose queue no longer arms, or that no nib can be had for, is withdrawn. -/
theorem armOldest_of_barred (h : qState s n.queue ≠ 1 ∨ mayArm s = false ∨ dirAdmitted s n = false ∨
    (freeIdx s = none ∧ displaced { s with nib := { s.nib with arming := rest } } n = none)) :
    armOldest s = withdraw n.queue { s with nib := { s.nib with arming := rest } } := by
  unfold armOldest
  rw [ha]
  dsimp only
  split
  · rfl
  · next hn =>
    simp only [Bool.not_eq_true', not_or] at hn
    obtain ⟨hq, hm, hdir⟩ := hn
    obtain ⟨hf, hd⟩ := ((h.resolve_left hq).resolve_left hm).resolve_left hdir
    have hf' : freeIdx { s with nib := { s.nib with arming := rest } } = none := hf
    rw [hf', hd]

theorem armOldest_of_free {k : Nat} (hq : qState s n.queue = 1) (hm : mayArm s = true) (hd : dirAdmitted s n = true)
    (hf : freeIdx s = some k) : armOldest s = armInto k n { s with nib := { s.nib with arming := rest } } := by
  have hf' : freeIdx { s with nib := { s.nib with arming := rest } } = some k := hf
  unfold armOldest
  rw [ha]
  dsimp only
  rw [if_neg (by simp [hq, hm, hd]), hf']

end Arm

theorem freeIdx_lt {s : State} {k : Nat} (h : freeIdx s = some k) : k < 1024 := by
  unfold freeIdx at h
  exact List.mem_range.1 (List.mem_of_find?_eq_some h)

/-- A descriptor within its widths counts a further armed event. -/
theorem Desc.Fits.arm {d : Desc} (h : d.Fits) (ha : d.armed < 2047) : { d with armed := d.armed + 1 }.cut = { d with armed := d.armed + 1 } :=
  Desc.Fits.cut { h with armed := Nat.succ_lt_succ ha }

theorem Desc.Fits.lower {d : Desc} (h : d.Fits) (n : Nat) : { d with armed := d.armed - n }.cut = { d with armed := d.armed - n } :=
  Desc.Fits.cut { h with armed := Nat.lt_of_le_of_lt (Nat.sub_le _ _) h.armed }

section Into

variable {s : State} (hp : s.plainMem) {k : Nat} (hk : k < 1024) {n : Nib} (hq : n.queue < 65536) {d : Desc}
  (hd : getDesc s n.queue = some d)
include hp hk hq hd

/-- The nib's record is written and ARMED of its queue rises; then the counters follow. -/
theorem armInto_shows (ha : d.armed < 2047) : (armInto k n s).nib = { s.nib with nibs := mapPut s.nib.nibs k n } ∧
    (armInto k n s).rd (Fd.NIB_CNT_COUNT 0) = (s.rd (Fd.NIB_CNT_COUNT 0) + 1) % 2 ^ 64 ∧
    getDesc (armInto k n s) n.queue = some { d with armed := d.armed + 1 } := by
  obtain ⟨tput, hp1, hget⟩ := putNib_of_plain hp hk n
  obtain ⟨tdesc, hdesc⟩ := withDesc_putDesc hp1 hq ((hget _ hq).trans hd) (fun d => { d with armed := d.armed + 1 })
  rw [(fits_of_getDesc hd).arm ha] at hdesc
  generalize hs1 : withDesc n.queue (fun d t => putDesc n.queue { d with armed := d.armed + 1 } t) (putNib k n s) = s1 at tdesc hdesc
  have hu : armInto k n s = (s1.incWrap (Fd.NIB_CNT_COUNT 0)).wr Fd.NIB_HWM_IN_USE_MAX
      (max ((s1.incWrap (Fd.NIB_CNT_COUNT 0)).rd Fd.NIB_HWM_IN_USE_MAX) s1.nib.nibs.length) := by
    rw [← hs1]
    rfl
  have hn : s1.nib = { s.nib with nibs := mapPut s.nib.nibs k n } := (tdesc.part .nib (by decide)).trans (putNib_nib k n s)
  have hc : s1.rd (Fd.NIB_CNT_COUNT 0) = s.rd (Fd.NIB_CNT_COUNT 0) := (tdesc.rd _ (by decide)).trans (tput.rd _ rfl)
  refine ⟨by rw [hu]; exact hn, ?_, ?_⟩
  · rw [hu, State.rd_wr_ne _ _ _ _ (by decide), ← hc]
    exact State.rd_wr _ _ _
  · rw [hu]
    exact hdesc

end Into

/-! ### Re-timing (R114, R116) -/

theorem retimeNib_of_free {s : State} {k : Nat} (h : mapGet? s.nib.nibs k = none) : retimeNib k s = s := by
  unfold retimeNib
  rw [h]

theorem retimeNib_of_locked {s : State} {k : Nat} {n : Nib} (h : mapGet? s.nib.nibs k = some n) (hm : n.mode = .locked) :
    retimeNib k s = s := by
  unfold retimeNib
  rw [h]
  exact if_pos hm

/-- A frame loses the nib where it moves beyond its window. -/
theorem placeNib_nib (k : Nat) (m : Nib) (s : State) : (placeNib k m s).nib = { s.nib with nibs := mapPut s.nib.nibs k m } := by
  unfold placeNib
  dsimp only
  split
  · split
    · rw [recomposeAll_nib, putNib_nib]
    · exact putNib_nib k m s
  · exact putNib_nib k m s

theorem placeNib_touches (k : Nat) (m : Nib) (s : State) :
    Touches [.mem, .mst, .bst, .nib, .chn] [.one Fd.MEM_INJ_ARMED, .one (Fd.CHN_CNT_COUNT 1)] s (placeNib k m s) := by
  have hput : Touches [.mem, .mst, .bst, .nib, .chn] [.one Fd.MEM_INJ_ARMED, .one (Fd.CHN_CNT_COUNT 1)] s (putNib k m s) :=
    (putNib_touches k m s).mono
  unfold placeNib
  dsimp only
  split
  · exact .ite (fun _ => hput.trans (recomposeAll_touches _ _).mono) (fun _ => hput)
  · exact hput

/-- Where no nib of the queue stands behind a nib, only predictions that wait are raised to its time. -/
theorem raiseBehind_of_none {k : Nat} {n : Nib} {s : State}
    (h : ∀ x, x ∈ s.nib.nibs → x.2.queue = n.queue → ringPos s x.2 ≤ ringPos s n) :
    (raiseBehind k n s).nib.nibs = s.nib.nibs ∧ (raiseBehind k n s).regs = s.regs := by
  unfold raiseBehind
  extract_lets pos f late s1
  have hl : s.nib.nibs.filter (fun e => late e.2 && decide (pos < ringPos s e.2)) = [] := by
    rw [List.filter_eq_nil_iff]
    rintro x hx hc
    simp only [late, Bool.and_eq_true, beq_iff_eq, decide_eq_true_eq] at hc
    exact absurd hc.2 (Nat.not_lt.2 (h x hx hc.1.1.1))
  rw [hl]
  exact ⟨rfl, rfl⟩

/-- A nib alone in its queue holds the new fire time and fire angle, and RETIME_MOVED counts a change. -/
theorem moveNib_of_alone {k : Nat} {n : Nib} {s : State} (h : ∀ x, x ∈ s.nib.nibs → x.2.queue = n.queue → x = (k, n)) (fire phi : Nat) :
    ∃ m, mapGet? (moveNib k n fire phi s).nib.nibs k = some m ∧ m.fire = fire ∧ m.phi = phi ∧ m.mode = .armed ∧ m.fire0 = n.fire0 ∧
      (moveNib k n fire phi s).rd (Fd.NIB_CNT_COUNT 1) =
        (if fire = n.fire then s.rd (Fd.NIB_CNT_COUNT 1) else (s.rd (Fd.NIB_CNT_COUNT 1) + 1) % 2 ^ 64) := by
  unfold moveNib
  extract_lets moved m
  generalize hs1 : (if moved then s.incWrap (Fd.NIB_CNT_COUNT 1) else s) = s1
  have hn : s1.nib = s.nib := by
    rw [← hs1]
    split <;> rfl
  have hc : s1.rd (Fd.NIB_CNT_COUNT 1) =
      (if fire = n.fire then s.rd (Fd.NIB_CNT_COUNT 1) else (s.rd (Fd.NIB_CNT_COUNT 1) + 1) % 2 ^ 64) := by
    rw [← hs1]
    by_cases hf : fire = n.fire
    · simp [moved, hf]
    · rw [if_pos (decide_eq_true hf), if_neg hf]
      exact State.rd_wr _ _ _
  have hmem : ∀ x, x ∈ (placeNib k m s1).nib.nibs → x.2.queue = m.queue → ringPos (placeNib k m s1) x.2 ≤ ringPos (placeNib k m s1) m := by
    intro x hx hq
    rw [placeNib_nib, hn] at hx
    rcases mem_mapPut _ _ _ _ hx with rfl | hx
    · exact Nat.le_refl _
    · rw [h x hx hq]
      exact Nat.le_refl _
  obtain ⟨hnibs, hregs⟩ := raiseBehind_of_none (k := k) hmem
  refine ⟨m, ?_, rfl, rfl, rfl, rfl, ?_⟩
  · rw [hnibs, placeNib_nib, mapGet?_mapPut_self]
  · rw [State.rd, hregs]
    exact ((placeNib_touches k m s1).rd _ (by decide)).trans hc

/-- The fire time of a nib with no nib ahead of it: the predicted one, and no earlier than the last event of its queue. -/
def headFire (s : State) (n : Nib) (tau : Int) : Nat :=
  match mapGet? s.nib.lastFire n.queue with
  | some p => laterOf s (fireOf s tau) p
  | none => fireOf s tau

section Retime

variable {s : State} {k : Nat} {n : Nib} (hn : mapGet? s.nib.nibs k = some n) (hm : n.mode ≠ .locked)
include hn hm

theorem retimeNib_of_unreadable (h : slotOk s (slotNib k 0) = false ∨ slotOk s (slotNib k 2) = false) :
    retimeNib k s = safRaise 4 (retractFrom n Fd.NIB_RET_REC_COUNT s) := by
  unfold retimeNib
  rw [hn]
  dsimp only
  rw [if_neg hm, if_pos (by simpa using h)]

variable {d : Desc} {tau : Int} (h0 : slotOk s (slotNib k 0) = true) (h2 : slotOk s (slotNib k 2) = true) (hv : engValid s = true)
  (hdir : dirAdmitted s n = true) (hx : crossing s = false) (hd : getDesc s n.queue = some d)
  (hal : ∀ x, x ∈ s.nib.nibs → x.2.queue = n.queue → x = (k, n)) (hr : (predictEv n.ev d.dir s).1 = some tau)
  (ht : tau ≤ 2 ^ 22 * 16) (hlo : 32 ≤ tRel s (headFire s n tau)) (hhi : tRel s (headFire s n tau) ≤ (s.nib.horizon * 20 : Nat))
include h0 h2 hv hdir hx hd hal hr ht hlo hhi

/-- A nib alone in its queue, whose new fire time lies within range, moves to it. -/
theorem retimeNib_of_alone : retimeNib k s = moveNib k n (headFire s n tau) (predictEv n.ev d.dir s).2.1 (predictEv n.ev d.dir s).2.2 := by
  have view := (predictEv_afterReads n.ev d.dir s).schedView
  have hnone : nibsAhead (predictEv n.ev d.dir s).2.2 n = [] := by
    have hf : s.nib.nibs.filter (fun e => e.2.queue == n.queue && decide (ringPos s e.2 < ringPos s n)) = [] := by
      rw [List.filter_eq_nil_iff]
      rintro x hx hc
      rw [Bool.and_eq_true, beq_iff_eq, decide_eq_true_eq] at hc
      rw [hal x hx hc.1] at hc
      exact absurd hc.2 (Nat.lt_irrefl _)
    rw [view.nibsAhead, nibsAhead, hf]
    rfl
  have hlast : aheadFire (predictEv n.ev d.dir s).2.2 n = mapGet? s.nib.lastFire n.queue := by
    rw [aheadFire, hnone, view.lastFire]
    rfl
  unfold retimeNib
  rw [hn]
  dsimp only
  rw [if_neg hm, h0, h2, hv, hdir, hx, hd]
  simp only [Bool.not_true, Bool.or_self, Bool.false_eq_true, if_false, hr, hlast]
  rcases hl : mapGet? s.nib.lastFire n.queue with _ | p
  · have hf : headFire s n tau = fireOf s tau := by rw [headFire, hl]
    rw [hf] at hlo hhi ⊢
    simp only [view.fireOf, view.tRel, view.horizon]
    rw [if_neg (by omega), if_neg (by omega)]
  · have hf : headFire s n tau = laterOf s (fireOf s tau) p := by rw [headFire, hl]
    rw [hf] at hlo hhi ⊢
    simp only [view.fireOf, view.laterOf, view.tRel, view.horizon]
    rw [if_neg (by omega), if_neg (by omega)]

end Retime

/-! ### The obligation -/

theorem exec_engRun {c : Instr} {f : State → State} {s : State} (h : engOn s = true) (hc : exec c s = engRun f s := by rfl) :
    exec c s = .next (finish (f s)) := hc.trans (engRun_of_engOn f s h)

/-- Settles O24: each row is brought to the branch of its operation that the clause names; the reads on the way show the scheduler the
state as it was. -/
theorem nibSelectionAndArming : Obligations.NibSelectionAndArming := by
  intro s k i n c d e tau rest l hon
  have hsel : exec .selectTick s = .next (finish (selectTick s)) := exec_engRun hon
  have harm : exec .nibArm s = .next (finish (armOldest s)) := exec_engRun hon
  have hret : exec (.retime k) s = .next (finish (retimeNib k s)) := exec_engRun hon
  have hres : exec .descriptorRestore s = .next (finish (restoreOldest s)) := exec_engRun hon
  refine ⟨fun h => ?idle, ?selects, fun h => ?noneToArm, fun h => ⟨fun hb => ?barred, fun hq hm hdir hp hf hlt hd ha => ?arms⟩, fun h => ?noNib,
    fun hn => ⟨fun hm => ?locked, fun hm hr => ?unreadable, ?moved⟩, fun h => ?noRestore, fun h hk hp hd => ?restores⟩
  case idle => rw [hsel, selectTick_of_idle h]
  case selects =>
    intro r f armed hm hx hc hd he hb ha
    have hand : ∀ added, HandsOn s added (selectTick s) → armed added := fun _ h => ⟨_, hsel, h⟩
    refine ⟨fun hr => hand _ ?none, fun hr ht => hand _ ?far, fun hr ht hh hl => hand _ ?beyond, fun hr ht hl hh => hand _ ?within,
      fun hr ht hl h0 => hand _ ?late⟩
    case none => exact selectTick_of_no_crossing hm hx hc hd he ha hr
    case far => exact selectTick_of_far hm hx hc hd he ha hr ht
    case beyond => exact selectTick_of_beyond hm hx hc hd he ha hr ht hb hh hl
    case within => exact selectTick_of_within hm hx hc hd he ha hr ht hb hl hh
    case late => exact selectTick_of_late hm hx hc hd he ha hr ht hb hl h0
  case noneToArm =>
    rw [harm, armOldest, h]
  case barred =>
    exact ⟨_, harm, by rw [armOldest_of_barred h hb]; rfl, by rw [armOldest_of_barred h hb]; rfl, by rw [armOldest_of_barred h hb]; rfl⟩
  case arms =>
    obtain ⟨hnib, hcnt, hdesc⟩ := armInto_shows (s := { s with nib := { s.nib with arming := rest } }) (n := n) hp (freeIdx_lt hf) hlt hd ha
    rw [armOldest_of_free h hq hm hdir hf] at harm
    refine ⟨_, harm, ?_, ?_, fun j hj => ?_, hcnt, hdesc⟩
    · rw [hnib, mapGet?_mapPut_self]
    · rw [hnib]
    · rw [hnib]
      exact mapGet?_mapPut_ne _ _ _ _ hj
  case noNib => rw [hret, retimeNib_of_free h]
  case locked => rw [hret, retimeNib_of_locked hn hm]
  case unreadable =>
    rw [retimeNib_of_unreadable hn hm hr] at hret
    refine ⟨_, hret, safRaise_due 4 _, ?_⟩
    rw [safRaise_nib]
    exact not_mem_retractFrom hm k _ s
  case moved =>
    intro hm h0 h2 hv hdir hx hd hal r f hr ht hlo hhi
    have view := (predictEv_afterReads n.ev d.dir s).schedView
    rw [retimeNib_of_alone hn hm h0 h2 hv hdir hx hd hal hr ht hlo hhi] at hret
    obtain ⟨m, hget, hfire, hphi, hmode, hfire0, hcnt⟩ := moveNib_of_alone (s := r.2.2) (by rw [view.nibs]; exact hal) f r.2.1
    rw [view.rd (Fd.NIB_CNT_COUNT 1) (by decide)] at hcnt
    exact ⟨_, m, hret, hget, hfire, hphi, hmode, hfire0, hcnt⟩
  case noRestore =>
    rw [hres, restoreOldest, h]
  case restores =>
    have hp' : State.plainMem { s with nib := { s.nib with restores := l } } := hp
    obtain ⟨touches, hdesc⟩ := withDesc_putDesc hp' hk hd (fun d => { d with armed := d.armed - i })
    rw [(fits_of_getDesc hd).lower i] at hdesc
    have he : restoreOldest s = withDesc k (fun d t => putDesc k { d with armed := d.armed - i } t)
        { s with nib := { s.nib with restores := l } } := by
      rw [restoreOldest, h]
    have hnib : (restoreOldest s).nib = { s.nib with restores := l } := by
      rw [he]
      exact touches.part .nib (by decide)
    rw [← he] at hdesc
    exact ⟨_, hres, by rw [hnib], hdesc, by rw [hnib]⟩

end Sys2Proof.Machine

/-! A write of a channel delay where two BIST slices, listed out of order, hold one word of the engine tables (R127, R222, R229). -/

namespace Sys2Proof.Machine

set_option Elab.async false

open Sys2Proof

/-- Where the end of a command shows no message, no scan and no wake, it has changed causes, faults and the sleep phase at most. -/
theorem touches_of_finish {s t : State} (h : finish s = t) (ht : Untold t) :
    Touches [.saf, .net, .pwr] [.one Fd.SAF_ACTIVE_ACTIVE, .one Fd.NET_ERR_REG_ER] s t := by
  unfold finish at h
  split at h
  · exact h ▸ .refl s
  · have last := silent_of_settle h ht
    have wake := wakeStart_touches (settle (srdoJudge s))
    have hj : ¬Noted (settle (srdoJudge s)) := fun hn => ht.noted (last.noted_iff.2 (noted_of_touches wake hn))
    have first := ((srdoJudge_tells s).trans (settle_tells (srdoJudge s))).silent hj
    exact first.touches.mono.trans (wake.mono.trans last.touches.mono)

/-- Then every slot of the engine tables reads as it did. -/
theorem slotVal_of_finish {s t : State} (h : finish s = t) (ht : Untold t) (j : Nat) : slotVal t j = slotVal s j := by
  rw [slotVal, slotVal, State.mdata_congr ((touches_of_finish h ht).mcur (by decide) _)]

/-- A save buffer. -/
def sliceOf (saved : SMap MemWord) : SliceSt := ⟨0, saved, false, false, none⟩

/-- The slice of target 1 stands before that of target 0, and both hold word 1 of the engine tables: that of target 1 with 1, that of target 0
with 0 and beside word 0, a write to which waits in the merge buffer. -/
def crossedSlices : State :=
  { standingBy with
    mst := { standingBy.mst with merge := [⟨mkey 14 0, 0, 0, 0⟩] }
    bst := { standingBy.bst with
      slice := [(1, sliceOf [(mkey 14 1, eccEncode 1)]), (0, sliceOf [(mkey 14 0, eccEncode 0), (mkey 14 1, eccEncode 0)])] } }

/-- A write of channel 0's delay sends the waiting word to the slice of target 0, which the table of slices then lists first. -/
def delayWritten : State := delayWrite true 0 0 crossedSlices

theorem delayWritten_untold : Untold delayWritten := by
  constructor
  · unfold Noted
    decide +kernel
  · decide +kernel
  · decide +kernel
  · decide +kernel

theorem exec_crossedSlices : exec (.delayWrite true 0 0) crossedSlices = .next delayWritten := by
  have h : sysRun (delayWrite true 0 0) crossedSlices = .next (finish delayWritten) := sysRun_of_sysOn _ crossedSlices (by decide +kernel)
  rw [finish_of_calm delayWritten (by decide +kernel)] at h
  exact h

/-- Slot 2 of the engine tables, the lower half of word 1, reads 1 before the write and 0 after it. -/
theorem slotVal_crossedSlices : slotVal crossedSlices 2 = 1 ∧ slotVal delayWritten 2 = 0 := by decide +kernel

/-- Refutes O25: where the slices stand out of order, the word that a write of channel 0's delay moves out of the merge buffer takes its
slice to the front of their table, and slot 2, which both slices hold, no longer reads as it did. -/
theorem not_nibGuardFireAndLearning : ¬ Obligations.NibGuardFireAndLearning := by
  intro h
  obtain ⟨-, -, -, -, -, -, -, -, channelDelay, -⟩ := h crossedSlices 0 0 0 0 ⟨0, 0, 0⟩ (nibFor 0 0 0 0 0 ⟨0, 0, 0, 0⟩ false .armed) descZero
    ⟨0, 0, 0, 0, 0, false, false⟩ (by decide +kernel)
  obtain ⟨u, hu, -, others⟩ := channelDelay (by decide +kernel) (by decide) (by decide +kernel)
  rw [exec_crossedSlices] at hu
  injection hu with hu
  obtain ⟨before, after⟩ := slotVal_crossedSlices
  rw [slotVal_of_finish hu.symm delayWritten_untold 2, others 2 (by decide), before] at after
  exact absurd after (by decide)

end Sys2Proof.Machine

/-! STRING_LATCH where the table of strings lists one string twice (R138, R140). -/

namespace Sys2Proof.Machine

set_option Elab.async false

open Sys2Proof

/-- A locked and shifted frame without members, whose latch tick is tick 0. -/
def emptyFrameDue : Frame :=
  { tL := 0, phase := 0, members := [], trails := [], opener := 0, openEntry := 0, image := 0, shiftEnd := 0, shifted := true, locked := true,
    acts := [] }

/-- String 0 stands twice in the table of strings: first with nothing in progress, then with a frame due. -/
def twiceListed : State :=
  { standingBy with chn := { standingBy.chn with str := [(0, strZero), (0, { strZero with frame := some emptyFrameDue })] } }

/-- A look-up of string 0 finds its first row, which shows no frame. -/
theorem strOf_twiceListed : (twiceListed.strOf 0).frame = none := rfl

/-- The latch goes through all rows, and takes the frame of the second. -/
theorem latchable_twiceListed : latchable twiceListed = [(0, emptyFrameDue)] := by decide +kernel

theorem stringLatch_twiceListed : stringLatch 0 twiceListed = fireStage [(0, emptyFrameDue)] twiceListed := by
  simp [stringLatch, latchable_twiceListed, emptyFrameDue]

theorem twiceListed_live : twiceListed.live = true := by decide +kernel

/-- The latch of that frame is counted. -/
theorem latchCount_twiceListed :
    twiceListed.rd (Fd.CHN_CNT_COUNT 0) = 0 ∧ (fireStage [(0, emptyFrameDue)] twiceListed).rd (Fd.CHN_CNT_COUNT 0) = 1 := by decide +kernel

theorem fireStage_twiceListed_calm : (fireStage [(0, emptyFrameDue)] twiceListed).calm = true := by decide +kernel

/-- Refutes O26: string 0, listed twice, shows no frame, yet STRING_LATCH latches the frame of its second row and counts it, where a string
without a frame is to be left alone. No statement that the strings are listed once each is among the hypotheses. -/
theorem not_channelsAndStrings : ¬ Obligations.ChannelsAndStrings := by
  intro h
  obtain ⟨hsys, hcalm⟩ := (State.live_iff twiceListed).1 twiceListed_live
  have hon : engOn twiceListed = true := engOn_of_sysOn twiceListed hsys
  obtain ⟨-, -, -, -, idle, -⟩ := h twiceListed 0 0 0 0 0 0 false 0 ⟨0, false, 0, 0, false, false⟩ emptyFrameDue ⟨0, false⟩ hon
    (by decide) (by decide)
  have hlatch : exec (.stringLatch 0) twiceListed = .next (finish twiceListed) := (idle strOf_twiceListed).2
  rw [exec_engRun (f := stringLatch 0) hon, stringLatch_twiceListed, finish_of_calm _ hcalm,
    finish_of_calm _ fireStage_twiceListed_calm] at hlatch
  injection hlatch with hsame
  obtain ⟨before, after⟩ := latchCount_twiceListed
  rw [hsame, before] at after
  exact absurd after (by decide)

end Sys2Proof.Machine

/-! What the scribe instructions share (R155, R159, R160): the fields of a pair in the register file, what an instruction leaves of the rest, and
the end of an instruction with one result. -/

namespace Sys2Proof.Machine

set_option Elab.async false

open Sys2Proof

/-! ### The fields of a pair -/

/-- The fields that repeat for every pair differ in their keys where they differ in their place. -/
theorem pairFld_key_ne {p a b lo lo' w w' r r' : Nat} (h : a * 64 + lo ≠ b * 64 + lo' := by decide) :
    (⟨a + 64 * p, lo, w, r⟩ : Fld).key ≠ (⟨b + 64 * p, lo', w', r'⟩ : Fld).key := by
  simp only [Fld.key]
  omega

/-- They lie in the registers of the SCR block. -/
theorem pairFld_blk {p a lo w r : Nat} (hp : p < 8) (h : 0x06030000 ≤ a ∧ a + 448 < 0x06040000 ∧ lo < 64 := by decide) :
    ([.blk 0x0603] : List Keys).any (·.has (⟨a + 64 * p, lo, w, r⟩ : Fld).key) = true := by
  simp only [List.any_cons, List.any_nil, Keys.has, Fld.key, Bool.or_false, beq_iff_eq]
  omega

/-- A read of one of them after a write of another. -/
theorem pairFld_rd_wr_ne {p a b lo lo' w w' r r' : Nat} (s : State) (v : Nat) (h : a * 64 + lo ≠ b * 64 + lo' := by decide) :
    (s.wr ⟨b + 64 * p, lo', w', r'⟩ v).rd ⟨a + 64 * p, lo, w, r⟩ = s.rd ⟨a + 64 * p, lo, w, r⟩ :=
  State.rd_wr_ne s _ _ v (pairFld_key_ne h)

/-- A write of one of them keeps a calm state. -/
theorem calm_wr_pairFld {p a lo w r : Nat} {s : State} (hp : p < 8) (hc : s.calm = true) (v : Nat)
    (h : 0x06030000 ≤ a ∧ a + 448 < 0x06040000 ∧ lo < 64 := by decide) : (s.wr ⟨a + 64 * p, lo, w, r⟩ v).calm = true :=
  (Touches.wr (ps := []) s _ v (pairFld_blk hp h)).calm hc

/-- A field of a pair other than PC and RETIRED is left by the end of an instruction. -/
theorem scrRetire_rd_pairFld {p a lo w r : Nat} (s : State)
    (h : a * 64 + lo ≠ 0x0603010C * 64 ∧ a * 64 + lo ≠ 0x06030128 * 64 := by decide) :
    (scrRetire p s).rd ⟨a + 64 * p, lo, w, r⟩ = s.rd ⟨a + 64 * p, lo, w, r⟩ :=
  (pairFld_rd_wr_ne (b := 0x0603010C) _ _ h.1).trans (pairFld_rd_wr_ne (b := 0x06030128) _ _ h.2)

/-! ### What an instruction leaves alone -/

namespace ScrFrame

variable {p : Nat} {l m : List Fld} {s t u : State}

theorem refl (s : State) : ScrFrame p l s s := ⟨rfl, fun _ _ => rfl, fun _ _ => rfl⟩

theorem trans (h : ScrFrame p l s t) (g : ScrFrame p l t u) : ScrFrame p l s u := by
  obtain ⟨hb, ho, hr⟩ := h
  obtain ⟨gb, go, gr⟩ := g
  refine ⟨?_, fun q hq => (go q hq).trans (ho q hq), fun f hf => (gr f hf).trans (hr f hf)⟩
  have := congrArg (fun x : State => { x with regs := s.regs, scr := s.scr }) gb
  exact this.trans hb

theorem mono (h : ScrFrame p l s t) (hm : l ⊆ m) : ScrFrame p m s t :=
  ⟨h.1, h.2.1, fun f hf => h.2.2 f (fun hc => hf (List.map_subset _ hm hc))⟩

theorem wr (s : State) (f : Fld) (v : Nat) (hf : f ∈ l) : ScrFrame p l s (s.wr f v) :=
  ⟨rfl, fun _ _ => rfl, fun g hg => State.rd_wr_ne s f g v (fun hc => hg (hc ▸ List.mem_map_of_mem hf))⟩

theorem updPair (s : State) (f : Pair → Pair) : ScrFrame p l s (s.updPair p f) :=
  ⟨rfl, fun q hq => State.pairOf_updPair_ne s p q f hq, fun _ _ => rfl⟩

end ScrFrame

/-- The end of an instruction at the next address. -/
theorem scrRetire_frame (p : Nat) (s : State) : ScrFrame p (scrPcFlds p) s (scrRetire p s) := scrJump_frame p (scrNext p s) s

theorem scrRetire_goes (p : Nat) (s : State) : ScrGoes p (scrNext p s) s (scrRetire p s) := scrJump_goes p (scrNext p s) s

@[simp] theorem scrRetire_pairOf (p q : Nat) (s : State) : (scrRetire p s).pairOf q = s.pairOf q := rfl

theorem scrRetire_calm {p : Nat} {s : State} (hp : p < 8) (hc : s.calm = true) : (scrRetire p s).calm = true :=
  (scrJump_calm p _ s hp).trans hc

/-- An instruction goes on as one that starts where PC and RETIRED stand as they did. -/
theorem ScrGoes.of_rd {p pc : Nat} {s s' t : State} (h : ScrGoes p pc s' t)
    (hr : s'.rd (Fd.SCR_RETIRED_COUNT p) = s.rd (Fd.SCR_RETIRED_COUNT p)) : ScrGoes p pc s t := ⟨h.1, hr ▸ h.2⟩

/-- A register of a pair after an update of the pair that keeps its registers. -/
theorem gRead_updPair {p : Nat} {f : Pair → Pair} (s : State) (hf : (f (s.pairOf p)).g = (s.pairOf p).g) (r : Nat) :
    gRead (s.updPair p f) p r = gRead s p r := by
  rw [gRead, gRead, State.pairOf_updPair, hf]

/-- A pair is its entry in the scribes' part of the state. -/
theorem pairOf_of_scr {s t : State} (h : t.scr = s.scr) (p : Nat) : t.pairOf p = s.pairOf p := by rw [State.pairOf, h, State.pairOf]

theorem gRead_of_pairOf {s t : State} {p : Nat} (h : t.pairOf p = s.pairOf p) (r : Nat) : gRead t p r = gRead s p r := by
  rw [gRead, gRead, h]

theorem gRead_lt (s : State) (p r : Nat) : gRead s p r < 2 ^ 32 := by
  unfold gRead
  split
  · decide
  · exact BitVec.isLt _


/-- An instruction whose effect leaves PC and RETIRED goes on at the next instruction. -/
theorem scrRetire_goes_from {p : Nat} {s u : State} (hpc : u.rd (Fd.SCR_PC_PC p) = s.rd (Fd.SCR_PC_PC p))
    (hr : u.rd (Fd.SCR_RETIRED_COUNT p) = s.rd (Fd.SCR_RETIRED_COUNT p)) : ScrGoes p (scrNext p s) s (scrRetire p u) := by
  have h := (scrRetire_goes p u).of_rd hr
  rwa [scrNext, hpc] at h

/-- A field of a pair other than PC and RETIRED is left by an instruction with one result. -/
theorem scrSet_rd_pairFld {p rd v a lo w r : Nat} (s : State)
    (h : a * 64 + lo ≠ 0x0603010C * 64 ∧ a * 64 + lo ≠ 0x06030128 * 64 := by decide) :
    (scrSet p rd v s).rd ⟨a + 64 * p, lo, w, r⟩ = s.rd ⟨a + 64 * p, lo, w, r⟩ :=
  (scrRetire_rd_pairFld _ h).trans (gWrite_rd p rd v s _)

/-- An instruction with one result that first writes fields of its pair other than PC and RETIRED. -/
theorem scrSet_of_frame {p : Nat} {l : List Fld} {s u : State} (rd v : Nat) (hf : ScrFrame p l s u) (hp : u.pairOf p = s.pairOf p)
    (hpc : u.rd (Fd.SCR_PC_PC p) = s.rd (Fd.SCR_PC_PC p))
    (hr : u.rd (Fd.SCR_RETIRED_COUNT p) = s.rd (Fd.SCR_RETIRED_COUNT p)) :
    ScrFrame p (l ++ scrPcFlds p) s (scrSet p rd v u) ∧ ScrGoes p (scrNext p s) s (scrSet p rd v u) ∧
    ScrSets p rd v s (scrSet p rd v u) := by
  obtain ⟨hframe, -, hsets, helse⟩ := scrSet_gives p rd v u
  refine ⟨(hf.mono (List.subset_append_left _ _)).trans (hframe.mono (List.subset_append_right _ _)), ?_, fun r => ?_, hp ▸ helse⟩
  · exact scrRetire_goes_from ((gWrite_rd p rd v u _).trans hpc) ((gWrite_rd p rd v u _).trans hr)
  · rw [hsets r, gRead_of_pairOf hp]

/-! ### The answer of an instruction row -/

section Answers

variable {p w : Nat} {s : State} {f : State → State} (hs : ScrFree p s) (hw : ScrHas p w s)
include hs

theorem ScrFree.lt : p < 8 := hs.1

theorem ScrFree.engOn : engOn s = true := engOn_of_sysOn s ((State.live_iff s).1 hs.2.1).1

include hw

/-- A row whose word stands at the PC answers its effect, where that is calm. -/
theorem scr_answers {P : State → Prop} (hc : (f s).calm = true) (hP : P (f s)) : ∃ t, engRun (scrIssue p w f) s = .next t ∧ P t :=
  ⟨f s, scr_exec p w f s hs hw hc, hP⟩

/-- A row that leaves a value in a register answers with any number that agrees with it in its low 32 bits. -/
theorem result_answers {rd v v' : Nat} (hf : f s = scrSet p rd v s) (hv : v % 2 ^ 32 = v' % 2 ^ 32) :
    ∃ t, engRun (scrIssue p w f) s = .next t ∧ ScrGives p rd v' s t := by
  obtain ⟨hframe, hgoes, hsets, helse⟩ := scrSet_gives p rd v s
  refine scr_answers hs hw ?_ ?_
  · rw [hf, scrSet_calm p rd v s hs.lt]
    exact hs.calm
  · rw [hf]
    exact ⟨hframe, hgoes, fun r => (hsets r).trans (by rw [hv]), helse⟩

/-- A row that leaves a value in a register, the value given in another form. -/
theorem value_answers {rd v v' : Nat} (hf : f s = scrSet p rd v s) (hv : v = v') :
    ∃ t, engRun (scrIssue p w f) s = .next t ∧ ScrGives p rd v' s t := result_answers hs hw hf (hv ▸ rfl)

end Answers

end Sys2Proof.Machine

/-! The scribe instructions that compute one 32-bit result (Table 7.3). -/

namespace Sys2Proof.Machine

set_option Elab.async false

open Sys2Proof

theorem sx_eq_toInt (v : Nat) : sx 32 v = (BitVec.ofNat 32 v).toInt := by
  simp only [sx, BitVec.toInt_eq_toNat_cond, BitVec.toNat_ofNat]
  split <;> split <;> omega

theorem gInt_eq_toInt (s : State) (p r : Nat) : gInt s p r = (BitVec.ofNat 32 (gRead s p r)).toInt := sx_eq_toInt _

theorem enc_toInt (a : W32) : enc 32 a.toInt = a.toNat := by
  have h := a.isLt
  rw [enc, BitVec.toInt_eq_toNat_cond]
  split <;> omega

theorem toNat_ofInt_eq_enc (x : Int) : (BitVec.ofInt 32 x).toNat = enc 32 x := by
  rw [BitVec.toNat_ofInt, enc]

theorem bitW_toNat (b : Bool) : (bitW b).toNat = if b then 1 else 0 := by cases b <;> rfl

theorem slt_eq (a b : W32) : a.slt b = decide (a.toInt < b.toInt) := rfl
theorem ult_eq (a b : W32) : a.ult b = decide (a.toNat < b.toNat) := rfl

theorem sltW_toNat (a b : W32) : (sltW a b).toNat = if a.toInt < b.toInt then 1 else 0 := by
  simp [sltW, bitW_toNat, slt_eq]

theorem sltuW_toNat (a b : W32) : (sltuW a b).toNat = if a.toNat < b.toNat then 1 else 0 := by
  simp [sltuW, bitW_toNat, ult_eq]

theorem minW_toNat (a b : W32) : (minW a b).toNat = if a.toInt ≤ b.toInt then a.toNat else b.toNat := by
  simp only [minW, slt_eq, decide_eq_true_eq]
  rcases lt_trichotomy a.toInt b.toInt with h | h | h
  · simp [h, h.le]
  · rw [BitVec.eq_of_toInt_eq h]
    simp
  · simp [h.not_gt, h.not_ge]

theorem maxW_toNat (a b : W32) : (maxW a b).toNat = if a.toInt ≤ b.toInt then b.toNat else a.toNat := by
  simp only [maxW, slt_eq, decide_eq_true_eq]
  rcases lt_trichotomy a.toInt b.toInt with h | h | h
  · simp [h, h.le]
  · rw [BitVec.eq_of_toInt_eq h]
    simp
  · simp [h.not_gt, h.not_ge]

theorem minuW_toNat (a b : W32) : (minuW a b).toNat = min a.toNat b.toNat := by
  simp only [minuW, ult_eq, decide_eq_true_eq]
  split <;> omega

theorem maxuW_toNat (a b : W32) : (maxuW a b).toNat = max a.toNat b.toNat := by
  simp only [maxuW, ult_eq, decide_eq_true_eq]
  split <;> omega

theorem awinW_toNat (a b : W32) : (awinW a b).toNat = if -16777216 ≤ (a - b).toInt ∧ (a - b).toInt ≤ 2130706432 then 1 else 0 := by
  simp [awinW, bitW_toNat, inWindow]

theorem mulhuW_toNat (a b : W32) : (mulhuW a b).toNat = a.toNat * b.toNat / 2 ^ 32 := by
  have h : a.toNat * b.toNat < 2 ^ 32 * 2 ^ 32 := Nat.mul_lt_mul'' a.isLt b.isLt
  rw [mulhuW, BitVec.toNat_ofNat, Nat.mod_eq_of_lt (Nat.div_lt_of_lt_mul h)]

/-! ### Counting bits -/

theorem clzAux_spec (n v : Nat) (hv : v < 2 ^ n) :
    clzAux n v ≤ n ∧ v < 2 ^ (n - clzAux n v) ∧ (clzAux n v < n → 2 ^ (n - 1 - clzAux n v) ≤ v) := by
  induction n with
  | zero => simpa [clzAux] using hv
  | succ n ih =>
    unfold clzAux
    split
    · next h => exact ⟨Nat.zero_le _, hv, fun _ => Nat.ge_two_pow_of_testBit h⟩
    · next h =>
      have hlt : v < 2 ^ n := by
        by_contra hge
        exact h (Nat.testBit_of_two_pow_le_and_two_pow_add_one_gt (by omega) hv)
      obtain ⟨h1, h2, h3⟩ := ih hlt
      refine ⟨by omega, ?_, fun hn => ?_⟩
      · rwa [show n + 1 - (1 + clzAux n v) = n - clzAux n v by omega]
      · rw [show n + 1 - 1 - (1 + clzAux n v) = n - 1 - clzAux n v by omega]
        exact h3 (by omega)

theorem ctzAux_spec (n v : Nat) : ctzAux n v ≤ n ∧ v % 2 ^ ctzAux n v = 0 ∧ (ctzAux n v < n → v.testBit (ctzAux n v) = true) := by
  induction n generalizing v with
  | zero => simp [ctzAux, Nat.mod_one]
  | succ n ih =>
    unfold ctzAux
    split
    · next h => exact ⟨Nat.zero_le _, Nat.mod_one v, fun _ => by simpa [Nat.testBit_zero] using h⟩
    · next h =>
      obtain ⟨h1, h2, h3⟩ := ih (v / 2)
      refine ⟨by omega, ?_, fun hn => ?_⟩
      · rw [Nat.add_comm, pow_succ', Nat.mod_mul, h2]
        omega
      · rw [Nat.add_comm, Nat.testBit_add_one]
        exact h3 (by omega)

theorem popAux_eq (n v : Nat) : popAux n v = ((List.range n).filter v.testBit).length := by
  induction n generalizing v with
  | zero => rfl
  | succ n ih =>
    have shift : (fun i => v.testBit (i + 1)) = (v / 2).testBit := funext fun i => Nat.testBit_add_one v i
    rw [popAux, ih, List.range_succ_eq_map, List.filter_cons, List.filter_map, Function.comp_def, shift, Nat.testBit_zero]
    by_cases h : v % 2 = 1
    · simp [h, Nat.add_comm]
    · simp [show v % 2 = 0 by omega]

theorem popAux_le (n v : Nat) : popAux n v ≤ n := by
  rw [popAux_eq]
  exact (List.length_filter_le _ _).trans_eq List.length_range

theorem revAux_spec (n v : Nat) : revAux n v < 2 ^ n ∧ ∀ i, i < n → (revAux n v).testBit i = v.testBit (n - 1 - i) := by
  induction n generalizing v with
  | zero => simp [revAux]
  | succ n ih =>
    obtain ⟨hlt, hbit⟩ := ih (v / 2)
    have h2 : v % 2 < 2 := Nat.mod_lt v (by decide)
    refine ⟨?_, fun i hi => ?_⟩
    · rw [revAux, pow_succ]
      rcases (show v % 2 = 0 ∨ v % 2 = 1 by omega) with h | h <;> rw [h] <;> omega
    · rw [revAux, Nat.mul_comm, Nat.testBit_two_pow_mul_add _ hlt]
      split
      · next hin => rw [hbit i hin, ← Nat.testBit_add_one, show n - 1 - i + 1 = n + 1 - 1 - i by omega]
      · next hin =>
        obtain rfl : i = n := by omega
        simp [Nat.testBit_zero]

/-- A number with its lowest set bit cleared. -/
theorem and_sub_one_of_lowBit {v n : Nat} (hz : v % 2 ^ n = 0) (hb : v.testBit n = true) : v &&& (v - 1) = v - 2 ^ n := by
  have hpos : 0 < 2 ^ n := Nat.two_pow_pos n
  have hsucc : 2 ^ (n + 1) = 2 * 2 ^ n := pow_succ' 2 n
  have hdiv : v / 2 ^ n % 2 = 1 := by simpa [Nat.testBit_eq_decide_div_mod_eq] using hb
  have hmod : v % 2 ^ (n + 1) = 2 ^ n := by rw [Nat.mod_pow_succ, hz, hdiv, Nat.mul_one, Nat.zero_add]
  obtain ⟨q, hq⟩ : ∃ q, v = 2 ^ (n + 1) * q + 2 ^ n := ⟨v / 2 ^ (n + 1), by rw [← hmod, Nat.div_add_mod]⟩
  have hpred : v - 1 = 2 ^ (n + 1) * q + (2 ^ n - 1) := by omega
  have hclear : v - 2 ^ n = 2 ^ (n + 1) * q + 0 := by omega
  refine Nat.eq_of_testBit_eq fun i => ?_
  rw [Nat.testBit_and, hpred, hclear, hq, Nat.testBit_two_pow_mul_add _ (by omega), Nat.testBit_two_pow_mul_add _ (by omega),
    Nat.testBit_two_pow_mul_add _ (by omega)]
  split
  · rw [Nat.testBit_two_pow, Nat.testBit_two_pow_sub_one, Nat.zero_testBit, Bool.and_eq_false_iff, decide_eq_false_iff_not,
      decide_eq_false_iff_not]
    omega
  · exact Bool.and_self _

theorem loclrW_toNat (a : W32) : (loclrW a).toNat = a.toNat &&& (a.toNat - 1) := by
  have h := a.isLt
  rw [loclrW, BitVec.toNat_and, BitVec.toNat_sub]
  by_cases h0 : a.toNat = 0
  · simp [h0]
  · rw [show (1 : W32).toNat = 1 from rfl, show (2 ^ 32 - 1 + a.toNat) % 2 ^ 32 = a.toNat - 1 by omega]

/-! ### Results of one word -/

theorem ofNat_gRead_toNat (s : State) (p r : Nat) : (BitVec.ofNat 32 (gRead s p r)).toNat = gRead s p r := by
  rw [BitVec.toNat_ofNat, Nat.mod_eq_of_lt (gRead_lt s p r)]

theorem clzW_spec (a : W32) : (clzW a).toNat ≤ 32 ∧ a.toNat < 2 ^ (32 - (clzW a).toNat) ∧
    ((clzW a).toNat < 32 → 2 ^ (31 - (clzW a).toNat) ≤ a.toNat) := by
  have h := clzAux_spec 32 a.toNat a.isLt
  have e : (clzW a).toNat = clzAux 32 a.toNat := by
    rw [clzW, BitVec.toNat_ofNat]
    omega
  rwa [e]

theorem ctzW_spec (a : W32) : (ctzW a).toNat ≤ 32 ∧ a.toNat % 2 ^ (ctzW a).toNat = 0 ∧
    ((ctzW a).toNat < 32 → a.toNat.testBit (ctzW a).toNat = true) := by
  have h := ctzAux_spec 32 a.toNat
  have e : (ctzW a).toNat = ctzAux 32 a.toNat := by
    rw [ctzW, BitVec.toNat_ofNat]
    omega
  rwa [e]

theorem popW_toNat (a : W32) : (popW a).toNat = ((List.range 32).filter a.toNat.testBit).length := by
  have h := popAux_le 32 a.toNat
  rw [popW, BitVec.toNat_ofNat, ← popAux_eq]
  omega

theorem loclrW_spec (a : W32) : (a.toNat = 0 → (loclrW a).toNat = 0) ∧
    ∀ n, n < 32 → a.toNat % 2 ^ n = 0 → a.toNat.testBit n = true → (loclrW a).toNat = a.toNat - 2 ^ n := by
  rw [loclrW_toNat]
  exact ⟨fun h => by rw [h, Nat.zero_and], fun n _ hz hb => and_sub_one_of_lowBit hz hb⟩

theorem brevW_spec (a : W32) : (brevW a).toNat < 2 ^ 32 ∧ ∀ n, n < 32 → (brevW a).toNat.testBit n = a.toNat.testBit (31 - n) := by
  obtain ⟨hlt, hbit⟩ := revAux_spec 32 a.toNat
  have e : (brevW a).toNat = revAux 32 a.toNat := by rw [brevW, BitVec.toNat_ofNat, Nat.mod_eq_of_lt hlt]
  rw [e]
  exact ⟨hlt, hbit⟩

theorem mulhW_toNat (a b : W32) : (mulhW a b).toNat = enc 32 (a.toInt * b.toInt / 4294967296) := toNat_ofInt_eq_enc _

/-! ### Sums and differences modulo 2^32 (R43) -/

theorem enc_add_toInt (a b : W32) : enc 32 (a.toInt + b.toInt) = (a.toNat + b.toNat) % 2 ^ 32 := by
  rw [enc, BitVec.toInt_eq_toNat_cond, BitVec.toInt_eq_toNat_cond]
  split <;> split <;> omega

theorem enc_sub_toInt (a b : W32) : enc 32 (a.toInt - b.toInt) = (a.toNat + 2 ^ 32 - b.toNat) % 2 ^ 32 := by
  have := b.isLt
  rw [enc, BitVec.toInt_eq_toNat_cond, BitVec.toInt_eq_toNat_cond]
  split <;> split <;> omega

/-! ### Immediates -/

theorem immZ_toNat {imm : Nat} (h : imm < 65536) : (immZ imm).toNat = imm := by
  rw [immZ, BitVec.toNat_ofNat]
  omega

theorem immZ_amount {sh : Nat} (h : sh < 32) : (immZ sh).toNat % 32 = sh := by
  rw [immZ_toNat (by omega)]
  omega

theorem sllW_immZ (a : W32) {sh : Nat} (h : sh < 32) : (sllW a (immZ sh)).toNat = a.toNat * 2 ^ sh % 2 ^ 32 := by
  rw [sllW, immZ_amount h, BitVec.toNat_shiftLeft, Nat.shiftLeft_eq]

theorem srlW_immZ (a : W32) {sh : Nat} (h : sh < 32) : (srlW a (immZ sh)).toNat = a.toNat / 2 ^ sh := by
  rw [srlW, immZ_amount h, BitVec.toNat_ushiftRight, Nat.shiftRight_eq_div_pow]

theorem sraW_immZ (a : W32) {sh : Nat} (h : sh < 32) : (sraW a (immZ sh)).toNat = enc 32 (a.toInt / ((2 ^ sh : Nat) : Int)) := by
  rw [sraW, immZ_amount h, ← enc_toInt, BitVec.toInt_sshiftRight, Int.shiftRight_eq_div_pow]

/-! ### The obligation -/

/-- A row of one operand answers with a number of which whatever holds of its result holds. -/
theorem op1_answers {p rd ra w : Nat} {s : State} {g : W32 → W32} {P : Nat → Prop} (hs : ScrFree p s) (hw : ScrHas p w s)
    (hP : P (g (BitVec.ofNat 32 (gRead s p ra))).toNat) :
    ∃ t n, engRun (scrIssue p w (scrOp1 g p rd ra)) s = .next t ∧ ScrGives p rd n s t ∧ P n := by
  obtain ⟨t, ht, hg⟩ := value_answers (f := scrOp1 g p rd ra) hs hw rfl rfl
  exact ⟨t, _, ht, hg, hP⟩

/-- Settles O34: each row ends in its result, and the result is the one of Table 7.3 by the lemma on its operation. -/
theorem scribeRegisterResults : Obligations.ScribeRegisterResults := by
  refine ⟨fun s p rd ra rb hs => ?_, fun s p rd ra hs => ?_, fun s p rd ra imm sh rm hs himm hsh hrm => ?_⟩
  · intro a b
    exact ⟨fun hw => result_answers hs hw rfl rfl, fun hw => result_answers hs hw rfl rfl, fun hw => result_answers hs hw rfl rfl,
      fun hw => result_answers hs hw rfl rfl, fun hw => result_answers hs hw rfl rfl, fun hw => result_answers hs hw rfl rfl,
      fun hw => result_answers hs hw rfl rfl, fun hw => result_answers hs hw rfl rfl,
      fun hw => value_answers hs hw rfl (sltW_toNat a b), fun hw => value_answers hs hw rfl (sltuW_toNat a b),
      fun hw => value_answers hs hw rfl (minW_toNat a b), fun hw => value_answers hs hw rfl (maxW_toNat a b),
      fun hw => value_answers hs hw rfl (minuW_toNat a b), fun hw => value_answers hs hw rfl (maxuW_toNat a b),
      fun hw => value_answers hs hw rfl (BitVec.toNat_mul a b), fun hw => value_answers hs hw rfl (mulhuW_toNat a b),
      fun hw => value_answers hs hw rfl (mulhW_toNat a b),
      fun hw => value_answers hs hw (by rw [scrAddSubM, gInt_eq_toInt, gInt_eq_toInt]; rfl) (enc_add_toInt a b),
      fun hw => value_answers hs hw (by rw [scrAddSubM, gInt_eq_toInt, gInt_eq_toInt]; rfl) (enc_sub_toInt a b),
      fun hw => value_answers hs hw rfl (awinW_toNat a b)⟩
  · intro a
    have ha : (BitVec.ofNat 32 a).toNat = a := ofNat_gRead_toNat s p ra
    have clz := clzW_spec (BitVec.ofNat 32 a)
    have ctz := ctzW_spec (BitVec.ofNat 32 a)
    have pop := popW_toNat (BitVec.ofNat 32 a)
    have loclr := loclrW_spec (BitVec.ofNat 32 a)
    have brev := brevW_spec (BitVec.ofNat 32 a)
    rw [ha] at clz ctz pop loclr brev
    exact ⟨fun hw => op1_answers hs hw clz, fun hw => op1_answers hs hw ctz, fun hw => value_answers hs hw rfl pop,
      fun hw => op1_answers hs hw loclr, fun hw => op1_answers hs hw brev⟩
  · intro a i
    have hi : (immZ imm).toNat = imm := immZ_toNat himm
    refine ⟨fun hw => value_answers hs hw rfl (BitVec.toNat_add a i), fun hw => value_answers hs hw rfl ?_,
      fun hw => value_answers hs hw rfl ?_, fun hw => value_answers hs hw rfl ?_,
      fun hw => value_answers hs hw rfl (sltW_toNat a i), fun hw => value_answers hs hw rfl (sltuW_toNat a i),
      fun hw => value_answers hs hw rfl rfl, fun hw => value_answers hs hw rfl (sllW_immZ a hsh),
      fun hw => value_answers hs hw rfl (srlW_immZ a hsh), fun hw => value_answers hs hw rfl (sraW_immZ a hsh),
      fun hw => value_answers hs hw rfl (by rw [gInt_eq_toInt])⟩
    · rw [BitVec.toNat_and, hi]
    · rw [BitVec.toNat_or, hi]
    · rw [BitVec.toNat_xor, hi]

end Sys2Proof.Machine

/-! The scribe instructions that round and fit, and those of the accumulator and DIV (R39, R41, R160). -/

namespace Sys2Proof.Machine

set_option Elab.async false

open Sys2Proof

/-! ### Fits and their flags (R160) -/

theorem fits_eq_false_iff (sgn : Bool) (n : Nat) (x : Int) : fits sgn n x = false ↔ x < fitLo sgn n ∨ fitHi sgn n < x := by
  rw [← Bool.not_eq_true, fits, Bool.and_eq_true, decide_eq_true_eq, decide_eq_true_eq]
  omega

theorem fitLo_word (sgn : Bool) : fitLo sgn 32 = if sgn then -2147483648 else 0 := by cases sgn <;> rfl
theorem fitHi_word (sgn : Bool) : fitHi sgn 32 = if sgn then 2147483647 else 4294967295 := by cases sgn <;> rfl

section Flag

variable (p n : Nat) (sat sgn : Bool) (x : Int) (s : State)

theorem fitFlag_frame : ScrFrame p [Fd.SCR_PSTAT_SAT p, Fd.SCR_PSTAT_OVF p] s (fitFlag p sat sgn n x s) := by
  unfold fitFlag
  split
  · exact .refl s
  · exact .wr s _ 1 (by cases sat <;> simp)

theorem fitFlag_pairOf (q : Nat) : (fitFlag p sat sgn n x s).pairOf q = s.pairOf q := by
  unfold fitFlag
  split <;> rfl

theorem fitFlag_rd_pairFld {a lo w r : Nat} (h : a * 64 + lo ≠ 0x06030104 * 64 + 16 ∧ a * 64 + lo ≠ 0x06030104 * 64 + 17 := by decide) :
    (fitFlag p sat sgn n x s).rd ⟨a + 64 * p, lo, w, r⟩ = s.rd ⟨a + 64 * p, lo, w, r⟩ := by
  unfold fitFlag
  split
  · rfl
  · cases sat
    · exact pairFld_rd_wr_ne (b := 0x06030104) (lo' := 17) s 1 h.2
    · exact pairFld_rd_wr_ne (b := 0x06030104) (lo' := 16) s 1 h.1

theorem fitFlag_sat : (fitFlag p sat sgn n x s).rd (Fd.SCR_PSTAT_SAT p) =
    if (x < fitLo sgn n ∨ fitHi sgn n < x) ∧ sat = true then 1 else s.rd (Fd.SCR_PSTAT_SAT p) := by
  simp only [fitFlag, ← fits_eq_false_iff]
  cases fits sgn n x
  · cases sat
    · exact pairFld_rd_wr_ne (b := 0x06030104) (lo' := 17) s 1
    · exact State.rd_set1 s (Fd.SCR_PSTAT_SAT p) Nat.one_pos
  · rfl

theorem fitFlag_ovf : (fitFlag p sat sgn n x s).rd (Fd.SCR_PSTAT_OVF p) =
    if (x < fitLo sgn n ∨ fitHi sgn n < x) ∧ sat = false then 1 else s.rd (Fd.SCR_PSTAT_OVF p) := by
  simp only [fitFlag, ← fits_eq_false_iff]
  cases fits sgn n x
  · cases sat
    · exact State.rd_set1 s (Fd.SCR_PSTAT_OVF p) Nat.one_pos
    · exact pairFld_rd_wr_ne (b := 0x06030104) (lo' := 16) s 1
  · rfl

theorem fitFlag_calm (hp : p < 8) (hc : s.calm = true) : (fitFlag p sat sgn n x s).calm = true := by
  unfold fitFlag
  split
  · exact hc
  · cases sat
    · exact calm_wr_pairFld hp hc 1
    · exact calm_wr_pairFld hp hc 1

end Flag

/-- A fitted result: the value, its flag, and nothing else. -/
theorem scrFit_fits (p rd : Nat) (sat sgn : Bool) (x : Int) (s : State) : ScrFits p rd sat sgn x s (scrFit p rd sat sgn x s) := by
  obtain ⟨hframe, hgoes, hsets⟩ := scrSet_of_frame rd (fitVal sat sgn 32 x) (fitFlag_frame p 32 sat sgn x s)
    (fitFlag_pairOf p 32 sat sgn x s p) (fitFlag_rd_pairFld p 32 sat sgn x s) (fitFlag_rd_pairFld p 32 sat sgn x s)
  have hsat := (scrSet_rd_pairFld (rd := rd) (v := fitVal sat sgn 32 x) _).trans (fitFlag_sat p 32 sat sgn x s)
  have hovf := (scrSet_rd_pairFld (rd := rd) (v := fitVal sat sgn 32 x) _).trans (fitFlag_ovf p 32 sat sgn x s)
  rw [fitVal, fitLo_word, fitHi_word] at hsets
  rw [fitLo_word, fitHi_word] at hsat hovf
  exact ⟨hframe, hgoes, hsets, hsat, hovf⟩

/-- A row that leaves a fitted result. -/
theorem fit_answers {p rd w : Nat} {sat sgn : Bool} {x : Int} {s : State} {f : State → State} (hs : ScrFree p s) (hw : ScrHas p w s)
    (hf : f s = scrFit p rd sat sgn x s) : ∃ t, engRun (scrIssue p w f) s = .next t ∧ ScrFits p rd sat sgn x s t := by
  refine scr_answers hs hw ?_ (hf ▸ scrFit_fits p rd sat sgn x s)
  rw [hf, scrFit, scrSet_calm _ _ _ _ hs.lt]
  exact fitFlag_calm p 32 sat sgn x s hs.lt hs.calm

/-! ### The accumulator -/

theorem ofNat_enc (n : Nat) (x : Int) : BitVec.ofNat n (enc n x) = BitVec.ofInt n x := by
  apply BitVec.eq_of_toNat_eq
  rw [BitVec.toNat_ofNat, BitVec.toNat_ofInt, Nat.mod_eq_of_lt (enc_lt n x), enc]

/-- The accumulator has taken a value fitted to 64 bits. -/
def AccTakes (p : Nat) (sat : Bool) (x : Int) (s t : State) : Prop :=
  let out := x < -9223372036854775808 ∨ 9223372036854775807 < x
  ScrFrame p (Fd.SCR_PSTAT_SAT p :: Fd.SCR_PSTAT_OVF p :: scrPcFlds p) s t ∧ ScrGoes p (scrNext p s) s t ∧
  t.pairOf p = { s.pairOf p with
    acc := BitVec.ofInt 64 (if sat then clampI (-9223372036854775808) 9223372036854775807 x else x) } ∧
  t.rd (Fd.SCR_PSTAT_SAT p) = (if out ∧ sat = true then 1 else s.rd (Fd.SCR_PSTAT_SAT p)) ∧
  t.rd (Fd.SCR_PSTAT_OVF p) = (if out ∧ sat = false then 1 else s.rd (Fd.SCR_PSTAT_OVF p))

/-- The accumulator after MAC, MSU and MULA. -/
def accPut (p : Nat) (sat : Bool) (x : Int) (s : State) : State :=
  scrRetire p ((fitFlag p sat true 64 x s).updPair p (fun y => { y with acc := BitVec.ofNat 64 (fitVal sat true 64 x) }))

theorem accPut_takes (p : Nat) (sat : Bool) (x : Int) (s : State) : AccTakes p sat x s (accPut p sat x s) := by
  have hflag := fitFlag_frame p 64 sat true x s
  refine ⟨?_, ?_, ?_, ?_, ?_⟩
  · exact (hflag.mono (List.subset_append_left _ (scrPcFlds p))).trans ((ScrFrame.updPair _ _).trans
      ((scrRetire_frame p _).mono (List.subset_append_right [Fd.SCR_PSTAT_SAT p, Fd.SCR_PSTAT_OVF p] _)))
  · exact scrRetire_goes_from (fitFlag_rd_pairFld p 64 sat true x s) (fitFlag_rd_pairFld p 64 sat true x s)
  · rw [accPut, scrRetire_pairOf, State.pairOf_updPair, fitFlag_pairOf, fitVal, ofNat_enc]
    rfl
  · exact (scrRetire_rd_pairFld _).trans (fitFlag_sat p 64 sat true x s)
  · exact (scrRetire_rd_pairFld _).trans (fitFlag_ovf p 64 sat true x s)

theorem acc_answers {p w : Nat} {sat : Bool} {x : Int} {s : State} {f : State → State} (hs : ScrFree p s) (hw : ScrHas p w s)
    (hf : f s = accPut p sat x s) : ∃ t, engRun (scrIssue p w f) s = .next t ∧ AccTakes p sat x s t := by
  refine scr_answers hs hw ?_ (hf ▸ accPut_takes p sat x s)
  rw [hf]
  exact scrRetire_calm hs.lt (fitFlag_calm p 64 sat true x s hs.lt hs.calm)

/-! ### Quotients (R39) -/

theorem divRtz_eq_tdiv (a b : Int) : divRtz a b = a.tdiv b := by
  unfold divRtz
  split
  · next h => exact (Int.tdiv_eq_ediv_of_nonneg h).symm
  · next h => rw [← Int.tdiv_eq_ediv_of_nonneg (by omega), Int.neg_tdiv, neg_neg]

theorem divBy_rtz (x y : Int) : divBy 2 x y = x.tdiv y := by
  show divRtz _ _ = _
  rw [divRtz_eq_tdiv]
  split
  · exact Int.neg_tdiv_neg x y
  · rfl

theorem divBy_rdn (x y : Int) : divBy 3 x y = x.fdiv y := by
  show (if y < 0 then -x else x) / (if y < 0 then -y else y) = _
  split
  · rw [← Int.fdiv_eq_ediv_of_nonneg _ (by omega), Int.neg_fdiv_neg]
  · exact (Int.fdiv_eq_ediv_of_nonneg _ (by omega)).symm

/-- DIV by zero (R160). -/
theorem scrDiv_zero {p rd ra rb rm : Nat} {sat u : Bool} {s : State} (h : gRead s p rb = 0) :
    scrDiv p rd ra rb rm sat u s = scrSet p rd
      (if u then 0xFFFFFFFF else if 0 ≤ gInt s p ra then 0x7FFFFFFF else 0x80000000) (s.set1 (Fd.SCR_PSTAT_DIV0 p)) := if_pos h

theorem scrDiv_nonzero {p rd ra rb rm : Nat} {sat u : Bool} {s : State} (h : gRead s p rb ≠ 0) :
    scrDiv p rd ra rb rm sat u s = scrFit p rd sat (!u) (divBy rm (gOp s p ra u) (gOp s p rb u)) s := if_neg h

/-! ### The obligation -/

/-- Settles O35: a fitted result and a fitted accumulator each have one lemma, which the rows use with their exact value. -/
theorem scribeArithmeticResults : Obligations.ScribeArithmeticResults := by
  refine ⟨fun s p rd ra rb sh rm sat u hs hsh hrm => ?_, fun s p rd ra rb sat hs => ?_, fun s p rd ra rb rm sat u hs hrm => ?_⟩
  · intro x y xu yu m
    refine ⟨fun hw => fit_answers hs hw rfl, fun hw => fit_answers hs hw rfl, fun hw => fit_answers hs hw rfl,
      fun hw => fit_answers hs hw rfl, fun hw => fit_answers hs hw ?_, fun hw => fit_answers hs hw rfl⟩
    cases u <;> rfl
  · intro m a lo hi takes
    refine ⟨fun hw => acc_answers hs hw rfl, fun hw => acc_answers hs hw rfl, fun hw => acc_answers hs hw ?_,
      fun hw => scr_answers hs hw (scrRetire_calm hs.lt hs.calm) ⟨?_, ?_, ?_⟩,
      fun hw => value_answers hs hw rfl rfl, fun hw => value_answers hs hw rfl rfl⟩
    · show accPut p sat (0 + m) s = _
      rw [zero_add]
    · exact (ScrFrame.updPair s _).trans (scrRetire_frame p _)
    · exact scrRetire_goes_from rfl rfl
    · rw [scrAccw, scrRetire_pairOf, State.pairOf_updPair]
      rfl
  · intro x y
    refine ⟨fun hy hw => ?_, fun hy hw => ?_⟩
    · obtain ⟨t, ht, hfit⟩ := fit_answers hs hw (scrDiv_nonzero (rd := rd) (ra := ra) (rm := rm) (sat := sat) (u := u) hy)
      exact ⟨t, ht, hfit, fun h => h ▸ divBy_rtz x y, fun h => h ▸ divBy_rdn x y⟩
    · have hd := scrDiv_zero (rd := rd) (ra := ra) (rm := rm) (sat := sat) (u := u) hy
      have hv : (if u then 0xFFFFFFFF else if 0 ≤ gInt s p ra then 0x7FFFFFFF else 0x80000000 : Nat) =
          if u then 0xFFFFFFFF else if x < 0 then 0x80000000 else 0x7FFFFFFF := by
        cases u
        · show (if 0 ≤ gInt s p ra then _ else _) = if gInt s p ra < 0 then _ else _
          split <;> split <;> omega
        · rfl
      obtain ⟨hframe, hgoes, hsets⟩ := scrSet_of_frame (s := s) rd (if u then 0xFFFFFFFF else if x < 0 then 0x80000000 else 0x7FFFFFFF)
        (ScrFrame.wr (l := [Fd.SCR_PSTAT_DIV0 p]) s (Fd.SCR_PSTAT_DIV0 p) 1 (by simp)) rfl (pairFld_rd_wr_ne s 1) (pairFld_rd_wr_ne s 1)
      rw [hv] at hd
      refine scr_answers hs hw ?_ (hd ▸ ⟨hframe, hgoes, ?_, hsets⟩)
      · rw [hd, scrSet_calm _ _ _ _ hs.lt]
        exact calm_wr_pairFld hs.lt hs.calm 1
      · exact (scrSet_rd_pairFld _).trans (State.rd_set1 s (Fd.SCR_PSTAT_DIV0 p) Nat.one_pos)

end Sys2Proof.Machine

/-! Traps and stops of a pair (R167), and the data memory of the scribes: loads, narrow stores through a merge buffer, and the accesses that trap
(R155, R222). -/

namespace Sys2Proof.Machine

set_option Elab.async false

open Sys2Proof

/-! ### A pair stops -/

/-- The fields of the SCR block and what a source event writes. -/
abbrev scrKeys : List Keys := .blk 0x0603 :: irqKeys

/-- The fields of a pair are none that a source event writes. -/
theorem pairFld_offIrq {p a lo w r : Nat} (hp : p < 8) (h : 0x06030000 ≤ a ∧ a + 448 < 0x06040000 ∧ lo < 64 := by decide) :
    irqKeys.any (·.has (⟨a + 64 * p, lo, w, r⟩ : Fld).key) = false := by
  simp only [List.any_cons, List.any_nil, Keys.has, Fld.key, Fd.IRQ_TGT_CNT_REFIRES, Fd.PWR_WAKE_SRC_LATCHED, Fd.PWR_WAKE_SRC_FIRST,
    Fd.PWR_WAKE_SRC_IRQ_SRC, Bool.or_eq_false_iff, beq_eq_false_iff_ne, Bool.and_eq_false_iff]
  exact ⟨by omega, .inl (decide_eq_false (by omega)), by omega, by omega, by omega, trivial⟩

theorem irqEvent_rd_pairFld {p a lo w r : Nat} (hp : p < 8) (i : Nat) (s : State)
    (h : 0x06030000 ≤ a ∧ a + 448 < 0x06040000 ∧ lo < 64 := by decide) :
    (irqEvent i s).rd ⟨a + 64 * p, lo, w, r⟩ = s.rd ⟨a + 64 * p, lo, w, r⟩ :=
  (irqEvent_touches i s).rd _ (pairFld_offIrq hp h)

theorem Touches.wr_pairFld {p a lo w r : Nat} {ps : List Part} (hp : p < 8) (s : State) (v : Nat)
    (h : 0x06030000 ≤ a ∧ a + 448 < 0x06040000 ∧ lo < 64 := by decide) : Touches ps [.blk 0x0603] s (s.wr ⟨a + 64 * p, lo, w, r⟩ v) :=
  .wr s _ v (pairFld_blk hp h)

section Stop

variable {p : Nat} (hp : p < 8) (s : State)
include hp

theorem scrStop_state : (scrStop p s).rd (Fd.SCR_PSTAT_STATE p) = 0 :=
  (irqEvent_rd_pairFld hp _ _).trans ((State.rd_wr _ _ _).trans rfl)

theorem scrStop_rd_pairFld {a lo w r : Nat}
    (h : (0x06030000 ≤ a ∧ a + 448 < 0x06040000 ∧ lo < 64) ∧ a * 64 + lo ≠ 0x06030104 * 64 := by decide) :
    (scrStop p s).rd ⟨a + 64 * p, lo, w, r⟩ = s.rd ⟨a + 64 * p, lo, w, r⟩ :=
  (irqEvent_rd_pairFld hp _ _ h.1).trans (pairFld_rd_wr_ne (b := 0x06030104) s 0 h.2)

theorem scrStop_touches (ha : s.pwr.sleep = .awake) : Touches [.irq] scrKeys s (scrStop p s) :=
  .trans (.mono (.wr_pairFld hp s 0) (ps := [])) (irqEvent_touches_of_awake _ (by exact ha)).mono

end Stop

/-! ### Trap entry (R167) -/

/-- The trap registers name a trap. -/
def trapNoted (p cause info pcv : Nat) (s : State) : State :=
  (((s.wr (Fd.SCR_TRAP_PC_VALUE p) pcv).wr (Fd.SCR_TRAP_CAUSE p) cause).wr (Fd.SCR_TRAP_INFO_VALUE p) info).incSat (Fd.SCR_TRAP_COUNT p)

section Trap

variable {p : Nat} (cause info pcv : Nat) (s : State)

theorem scrTrap_of_first (h : s.rdB (Fd.SCR_PSTAT_IN_TRAP p) = false) : scrTrap p cause info pcv s =
    ((trapNoted p cause info pcv s).set1 (Fd.SCR_PSTAT_IN_TRAP p)).wr (Fd.SCR_PC_PC p) (s.pairOf p).tvec.toNat :=
  if_neg (by rw [h]; exact Bool.false_ne_true)

theorem scrTrap_of_second (h : s.rdB (Fd.SCR_PSTAT_IN_TRAP p) = true) :
    scrTrap p cause info pcv s = scrStop p (trapNoted p cause info pcv s) := if_pos h

theorem trapNoted_pc : (trapNoted p cause info pcv s).rd (Fd.SCR_TRAP_PC_VALUE p) = pcv % 2 ^ 32 :=
  (pairFld_rd_wr_ne _ _).trans ((pairFld_rd_wr_ne _ _).trans ((pairFld_rd_wr_ne _ _).trans (State.rd_wr _ _ _)))

theorem trapNoted_cause (h : cause < 8) : (trapNoted p cause info pcv s).rd (Fd.SCR_TRAP_CAUSE p) = cause :=
  (pairFld_rd_wr_ne _ _).trans ((pairFld_rd_wr_ne _ _).trans (State.rd_wr_lt _ _ _ h))

theorem trapNoted_info : (trapNoted p cause info pcv s).rd (Fd.SCR_TRAP_INFO_VALUE p) = info % 2 ^ 32 :=
  (pairFld_rd_wr_ne _ _).trans (State.rd_wr _ _ _)

theorem trapNoted_count : (trapNoted p cause info pcv s).rd (Fd.SCR_TRAP_COUNT p) =
    min (s.rd (Fd.SCR_TRAP_COUNT p) + 1) 65535 % 65536 := by
  have h : (((s.wr (Fd.SCR_TRAP_PC_VALUE p) pcv).wr (Fd.SCR_TRAP_CAUSE p) cause).wr (Fd.SCR_TRAP_INFO_VALUE p) info).rd
      (Fd.SCR_TRAP_COUNT p) = s.rd (Fd.SCR_TRAP_COUNT p) :=
    (pairFld_rd_wr_ne _ _).trans ((pairFld_rd_wr_ne _ _).trans (pairFld_rd_wr_ne _ _))
  refine (State.rd_wr _ _ _).trans ?_
  rw [h]
  rfl

variable (hp : p < 8)
include hp

theorem trapNoted_touches : Touches [] [.blk 0x0603] s (trapNoted p cause info pcv s) :=
  .trans (.trans (.trans (.wr_pairFld hp s pcv) (.wr_pairFld hp _ cause)) (.wr_pairFld hp _ info)) (.wr_pairFld hp _ _)

theorem scrTrap_touches (ha : s.pwr.sleep = .awake) : Touches [.irq] scrKeys s (scrTrap p cause info pcv s) := by
  have noted := trapNoted_touches cause info pcv s hp
  cases h : s.rdB (Fd.SCR_PSTAT_IN_TRAP p)
  · rw [scrTrap_of_first _ _ _ _ h]
    exact .mono (.trans noted (.trans (.wr_pairFld hp _ 1) (.wr_pairFld hp _ _)))
  · rw [scrTrap_of_second _ _ _ _ h]
    exact noted.mono.trans (scrStop_touches hp _ (by rw [noted.part .pwr (by decide)]; exact ha))

/-- A trap is entered, or, as the second, stops the pair. -/
theorem scrTrap_traps (hc : cause < 8) : ScrTraps p cause info pcv s (scrTrap p cause info pcv s) := by
  have pc := trapNoted_pc (p := p) cause info pcv s
  have cs := trapNoted_cause (p := p) cause info pcv s hc
  have inf := trapNoted_info (p := p) cause info pcv s
  have count := trapNoted_count (p := p) cause info pcv s
  unfold ScrTraps
  cases h : s.rdB (Fd.SCR_PSTAT_IN_TRAP p)
  · rw [scrTrap_of_first _ _ _ _ h, if_neg Bool.false_ne_true]
    exact ⟨((pairFld_rd_wr_ne _ _).trans (pairFld_rd_wr_ne _ _)).trans pc, ((pairFld_rd_wr_ne _ _).trans (pairFld_rd_wr_ne _ _)).trans cs,
      ((pairFld_rd_wr_ne _ _).trans (pairFld_rd_wr_ne _ _)).trans inf, ((pairFld_rd_wr_ne _ _).trans (pairFld_rd_wr_ne _ _)).trans count,
      (pairFld_rd_wr_ne _ _).trans (State.rd_set1 _ _ Nat.one_pos), State.rd_wr_lt _ _ _ (BitVec.isLt _)⟩
  · rw [scrTrap_of_second _ _ _ _ h, if_pos rfl]
    exact ⟨(scrStop_rd_pairFld hp _).trans pc, (scrStop_rd_pairFld hp _).trans cs, (scrStop_rd_pairFld hp _).trans inf,
      (scrStop_rd_pairFld hp _).trans count, scrStop_state hp _⟩

end Trap

/-- A row whose instruction traps. -/
theorem trap_answers {p w cause info : Nat} {s : State} {f : State → State} (hs : ScrFree p s) (hw : ScrHas p w s)
    (hf : f s = scrTrapHere p cause info s) (hc : cause < 8 := by decide) :
    ∃ t, engRun (scrIssue p w f) s = .next t ∧ ScrTraps p cause info (s.rd (Fd.SCR_PC_PC p)) s t ∧ t.mem = s.mem ∧ t.scr = s.scr := by
  have ht : Touches [.irq] scrKeys s (f s) := hf ▸ scrTrap_touches _ _ _ s hs.lt (State.awake_of_calm hs.calm)
  exact scr_answers hs hw (ht.calm hs.calm) ⟨hf ▸ scrTrap_traps _ _ _ s hs.lt hc, ht.part .mem (by decide), ht.part .scr (by decide)⟩

/-! ### Loads (R155) -/

theorem sx_mod (n v : Nat) : sx n (v % 2 ^ n) = sx n v := by simp only [sx, Nat.mod_mod]

section Access

variable {p ra imm size : Nat} {s : State}

theorem scrLoad_of_bad (h : 0x10000 ≤ dataAddr s p ra imm ∨ dataAddr s p ra imm % size ≠ 0) (rd : Nat) (sgn : Bool) :
    scrLoad p rd ra imm size sgn s = scrTrapHere p 4 (dataAddr s p ra imm) s := if_pos h

theorem scrStore_of_bad (h : 0x10000 ≤ dataAddr s p ra imm ∨ dataAddr s p ra imm % size ≠ 0) (rs : Nat) :
    scrStore p rs ra imm size s = scrTrapHere p 4 (dataAddr s p ra imm) s := if_pos h

variable {d : W64} (hlt : dataAddr s p ra imm < 65536) (ha : dataAddr s p ra imm % size = 0)
  (hd : eccDecode (s.mcur (mkey 12 (p * 8192 + dataAddr s p ra imm / 8))) = .clean d)
include hlt ha hd

theorem scrLoad_of_clean (rd : Nat) (sgn : Bool) : scrLoad p rd ra imm size sgn s =
    scrSet p rd (if sgn then enc 32 (sx (8 * size) (laneOf d.toNat (dataAddr s p ra imm) size)) else
      laneOf d.toNat (dataAddr s p ra imm) size) s := by
  unfold scrLoad
  rw [if_neg (by omega), readWord_of_clean _ _ _ _ _ hd]

end Access

/-! ### Narrow writes of plain memory (R222) -/

/-- Dropping the entries of one key from the merge buffers leaves those of every other. -/
theorem find?_key_filter (l : List Merge) (j k : Nat) :
    (l.filter (fun e => e.key != k)).find? (fun e => e.key == j) = if j = k then none else l.find? (fun e => e.key == j) := by
  rw [List.find?_filter]
  split
  · next h => simp [h]
  · next h =>
    refine congrArg (fun q => List.find? q l) (funext fun e => ?_)
    by_cases he : e.key = j
    · simp [he, h]
    · simp [he]

theorem mergePort_lt (m side : Nat) {i : Nat} (hi : i < 2 ^ 32) : mergePort m i (side % 2) < 2 ^ 32 := by
  unfold mergePort
  split
  · omega
  · split <;> omega

theorem mergeKey_div (m side : Nat) {i : Nat} (hi : i < 2 ^ 32) : mergeKey m i side / 2 ^ 32 = m := by
  have h := mergePort_lt m side hi
  rw [mergeKey]
  omega

/-- An entry of a port's merge buffer holds a word of the port's memory. -/
theorem Merge.key_div_of_port {e : Merge} {m i side : Nat} (hi : i < 2 ^ 32) (h : e.port = mergeKey m i side) : e.key / 2 ^ 32 = m := by
  have he := mergeKey_div (e.key / 2 ^ 32) e.side (Nat.mod_lt e.key (by decide : 0 < 2 ^ 32))
  rw [← he, ← mergeKey_div m side hi, ← h, Merge.port]

/-- The entry of a key leaves the merge buffers, and a scrub correction of its word is cancelled. -/
def mergeDropped (k : Nat) (s : State) : State :=
  { s with mst := { s.mst with
    merge := s.mst.merge.filter (fun x => x.key != k)
    scrubFix := match mapGet? s.mst.scrubFix (k / 2 ^ 32) with
      | some f => if f.idx = k % 2 ^ 32 then mapDel s.mst.scrubFix (k / 2 ^ 32) else s.mst.scrubFix
      | none => s.mst.scrubFix } }

theorem mergeDropped_mergeOf (j k : Nat) (s : State) : (mergeDropped k s).mergeOf j = if j = k then none else s.mergeOf j :=
  find?_key_filter s.mst.merge j k

/-- A port's merge buffer makes room for a word: the entry it holds goes to its word, but where the same requester writes the same word. -/
def portCleared (side m i master : Nat) (s : State) : State :=
  match s.mst.merge.find? (fun e => e.port == mergeKey m i side) with
  | some e => if e.key = mkey m i ∧ e.by_ = master then s else mergeStore e.key s
  | none => s

/-- A merge buffer takes a word. -/
def mergeTaken (side m i : Nat) (new : W64) (master : Nat) (s : State) : State :=
  { touchWord m i s with mst := { (touchWord m i s).mst with merge := (touchWord m i s).mst.merge ++ [⟨mkey m i, side, new, master⟩] } }

theorem narrowBits_of_read {side m i master : Nat} {d mask old : W64} {s : State} (hm : m ≠ 13)
    (hd : eccDecode (s.mcur (mkey m i)) = .clean old) : narrowBits side m i d mask master s =
    (true, mergeTaken side m i ((old &&& ~~~mask) ||| (d &&& mask)) master (portCleared side m i master s)) := by
  unfold narrowBits
  rw [readWord_of_clean _ _ _ _ _ hd]
  simp only [retUnmerge_of_other hm, retMerge, if_neg hm]
  rfl

theorem mergeTaken_mcur (side m i : Nat) (new : W64) (master : Nat) (s : State) (k : Nat) :
    (mergeTaken side m i new master s).mcur k = if k = mkey m i then eccEncode new else s.mcur k := by
  have hg : (mergeTaken side m i new master s).mergeOf k =
      (if k = mkey m i then none else s.mergeOf k).or (if k = mkey m i then some ⟨mkey m i, side, new, master⟩ else none) := by
    rw [← touchWord_mergeOf, State.mergeOf, mergeTaken, List.find?_append]
    refine congrArg (Option.or _) ?_
    by_cases hk : k = mkey m i
    · simp [hk]
    · simp [hk, Ne.symm hk]
  rw [State.mcur, hg]
  split_ifs with hk
  · rfl
  · rw [Option.or_none, State.mcur]
    rfl

section Store

variable {s : State} (hp : s.plainMem)
include hp

/-- Writing a merge-buffer entry to its word leaves every word as the ports see it. -/
theorem mergeStore_of_plain {k : Nat} (hk : k / 2 ^ 32 ≠ 13) :
    Touches [.mem, .mst] [] s (mergeStore k s) ∧ ∀ j, (mergeStore k s).mcur j = s.mcur j := by
  cases hg : s.mergeOf k with
  | none =>
    have e : mergeStore k s = s := by rw [mergeStore, hg]
    rw [e]
    exact ⟨.refl s, fun _ => rfl⟩
  | some x =>
    have e : mergeStore k s = (mergeDropped k s).mput k (eccEncode x.data) := by
      rw [mergeStore, hg]
      simp only [retUnmerge_of_other hk]
      rfl
    have hb : (mergeDropped k s).bst.slice = [] := hp.2
    rw [e]
    refine ⟨.trans (.of_puts [.mst]) (State.mput_touches_mem hb hk _), fun j => ?_⟩
    have hm : ((mergeDropped k s).mput k (eccEncode x.data)).mergeOf j = if j = k then none else s.mergeOf j := by
      rw [← mergeDropped_mergeOf, State.mergeOf, State.mput_merge hb hk]
      rfl
    rw [State.mcur, hm, State.mget_mput hb hk, State.mcur]
    split_ifs with hj
    · rw [hj, hg]
    · rfl

theorem portCleared_of_plain {m i : Nat} (hm : m ≠ 13) (hi : i < 2 ^ 32) (side master : Nat) :
    Touches [.mem, .mst] [] s (portCleared side m i master s) ∧ ∀ j, (portCleared side m i master s).mcur j = s.mcur j := by
  unfold portCleared
  split
  · next e he =>
    have hport : e.port = mergeKey m i side := by simpa using List.find?_some he
    split
    · exact ⟨.refl s, fun _ => rfl⟩
    · exact mergeStore_of_plain hp (by rwa [Merge.key_div_of_port hi hport])
  · exact ⟨.refl s, fun _ => rfl⟩

/-- A narrow write of a word that reads clean merges the bits of its mask into it, and leaves every other word (R222). -/
theorem narrowBits_of_clean {m i : Nat} (hm : m ≠ 13) (hi : i < 2 ^ 32) {old : W64} (hd : eccDecode (s.mcur (mkey m i)) = .clean old)
    (side master : Nat) (d mask : W64) : ∃ u, narrowBits side m i d mask master s = (true, u) ∧ Touches [.mem, .mst] [] s u ∧
      ∀ k, u.mcur k = if k = mkey m i then eccEncode ((old &&& ~~~mask) ||| (d &&& mask)) else s.mcur k := by
  obtain ⟨htouch, hcur⟩ := portCleared_of_plain hp hm hi side master
  refine ⟨_, narrowBits_of_read hm hd, htouch.trans (.of_puts [.mst]), fun k => ?_⟩
  rw [mergeTaken_mcur, hcur]

end Store

end Sys2Proof.Machine

/-! The loads and stores of the scribes, and the accesses that trap (R155, R222). -/

namespace Sys2Proof.Machine

set_option Elab.async false

open Sys2Proof

/-! ### The bytes of a lane -/

theorem byteBits_lane {size o : Nat} (hs : size ∈ [1, 2, 4]) (ho : o + size ≤ 8) :
    byteBits 8 ((2 ^ size - 1) * 2 ^ o) = (2 ^ (8 * size) - 1) * 2 ^ (8 * o) := by
  have h : ∀ z ∈ [1, 2, 4], ∀ k < 8, k + z ≤ 8 → byteBits 8 ((2 ^ z - 1) * 2 ^ k) = (2 ^ (8 * z) - 1) * 2 ^ (8 * k) := by decide
  have hz : 0 < size := by
    revert size
    simp
  exact h size hs o (by omega) ho

/-- Replacing n bits of a number from bit lo on, bit by bit. -/
theorem testBit_setBits (v x lo n i : Nat) (hn : 0 < n) :
    (setBits v (lo + n - 1) lo x).testBit i = if lo ≤ i ∧ i < lo + n then x.testBit (i - lo) else v.testBit i := by
  have hw : lo + n - 1 + 1 - lo = n := by omega
  have hlo : v % 2 ^ lo < 2 ^ lo := Nat.mod_lt _ (Nat.two_pow_pos lo)
  have hx : x % 2 ^ n < 2 ^ n := Nat.mod_lt _ (Nat.two_pow_pos n)
  have hv : v = 2 ^ lo * (2 ^ n * (v / 2 ^ lo / 2 ^ n) + v / 2 ^ lo % 2 ^ n) + v % 2 ^ lo := by
    rw [Nat.div_add_mod, Nat.div_add_mod]
  have e : setBits v (lo + n - 1) lo x = 2 ^ lo * (2 ^ n * (v / 2 ^ lo / 2 ^ n) + x % 2 ^ n) + v % 2 ^ lo := by
    rw [Nat.mul_add] at hv
    rw [setBits, bits, hw, Nat.mul_add, Nat.mul_comm (v / 2 ^ lo % 2 ^ n), Nat.mul_comm (x % 2 ^ n)]
    omega
  rw [e, Nat.testBit_two_pow_mul_add _ hlo, Nat.testBit_two_pow_mul_add _ hx]
  by_cases h1 : i < lo
  · rw [if_pos h1, if_neg (by omega), Nat.testBit_mod_two_pow]
    simp [h1]
  · rw [if_neg h1]
    by_cases h2 : i < lo + n
    · rw [if_pos (by omega), if_pos ⟨by omega, h2⟩, Nat.testBit_mod_two_pow]
      simp only [Bool.and_eq_right_iff_imp, decide_eq_true_eq]
      omega
    · rw [if_neg (by omega), if_neg (by omega), Nat.div_div_eq_div_mul, ← pow_add, Nat.testBit_div_two_pow]
      congr 1
      omega

/-- A lane of a word under the mask of its bits is replaced as the bits of the number. -/
theorem lane_merged (old : W64) {x lo n : Nat} (hn : 0 < n) :
    (old &&& ~~~BitVec.ofNat 64 ((2 ^ n - 1) * 2 ^ lo)) ||| (BitVec.ofNat 64 (x % 2 ^ n * 2 ^ lo) &&& BitVec.ofNat 64 ((2 ^ n - 1) * 2 ^ lo)) =
    BitVec.ofNat 64 (setBits old.toNat (lo + n - 1) lo x) := by
  have hmask : ∀ i, ((2 ^ n - 1) * 2 ^ lo).testBit i = (decide (lo ≤ i) && decide (i < lo + n)) := fun i => by
    rw [Nat.testBit_mul_two_pow, Nat.testBit_two_pow_sub_one]
    by_cases hi : lo ≤ i
    · simp only [hi, decide_true, Bool.true_and]
      exact decide_eq_decide.2 (by omega)
    · simp [hi]
  apply BitVec.eq_of_getLsbD_eq
  intro i hi
  simp only [BitVec.getLsbD_or, BitVec.getLsbD_and, BitVec.getLsbD_not, BitVec.getLsbD_ofNat, hi, decide_true, Bool.true_and, hmask,
    testBit_setBits _ _ _ _ _ hn, Nat.testBit_mul_two_pow, Nat.testBit_mod_two_pow]
  by_cases hin : lo ≤ i ∧ i < lo + n
  · rw [if_pos hin]
    simp [hin.1, hin.2, show i - lo < n by omega]
  · rw [if_neg hin]
    have : (decide (lo ≤ i) && decide (i < lo + n)) = false := by
      simpa using hin
    simp [this]
    rfl

/-! ### Stores -/

section Store

variable {p rs ra imm size : Nat} {s : State} {d : W64} (hs : s.plainMem) (hp : p < 8)

/-- The word a store leaves. -/
def storedWord (d : W64) (addr size v : Nat) : W64 :=
  BitVec.ofNat 64 (setBits d.toNat (8 * (addr % 8) + 8 * size - 1) (8 * (addr % 8)) v)

/-- What a store leaves: the bytes in their lanes, PC and RETIRED. -/
structure Stored (p i : Nat) (w : W64) (s t : State) : Prop where
  word : t.mcur (mkey 12 i) = eccEncode w
  others : ∀ k, k ≠ mkey 12 i → t.mcur k = s.mcur k
  blocks : { t with regs := s.regs, mem := s.mem, mst := s.mst } = s
  regs : ∀ f : Fld, f.key ∉ (scrPcFlds p).map Fld.key → t.rd f = s.rd f
  goes : ScrGoes p (scrNext p s) s t

variable (hz : size ∈ [1, 2, 4]) (hlt : dataAddr s p ra imm < 65536) (ha : dataAddr s p ra imm % size = 0)
  (hd : eccDecode (s.mcur (mkey 12 (p * 8192 + dataAddr s p ra imm / 8))) = .clean d)
include hs hp hz hlt ha hd

theorem scrStore_of_clean : ∃ u, scrStore p rs ra imm size s = scrRetire p u ∧ Touches [.mem, .mst] [] s u ∧
    ∀ k, u.mcur k = if k = mkey 12 (p * 8192 + dataAddr s p ra imm / 8) then
      eccEncode (storedWord d (dataAddr s p ra imm) size (gRead s p rs)) else s.mcur k := by
  have hsize : 0 < size ∧ dataAddr s p ra imm % 8 + size ≤ 8 := by
    simp only [List.mem_cons, List.not_mem_nil, or_false] at hz
    rcases hz with rfl | rfl | rfl <;> omega
  obtain ⟨u, hu, htouch, hcur⟩ := narrowBits_of_clean hs (m := 12) (by decide) (by omega) hd 0 0
    (BitVec.ofNat 64 ((gRead s p rs % 2 ^ (8 * size)) * 2 ^ (8 * (dataAddr s p ra imm % 8))))
    (BitVec.ofNat 64 (byteBits 8 ((2 ^ size - 1) * 2 ^ (dataAddr s p ra imm % 8))))
  rw [byteBits_lane hz hsize.2, lane_merged d (by omega)] at hcur
  refine ⟨u, ?_, htouch, hcur⟩
  unfold scrStore
  rw [if_neg (by omega)]
  simp only [narrowWrite, hu]

theorem scrStore_stored : Stored p (p * 8192 + dataAddr s p ra imm / 8) (storedWord d (dataAddr s p ra imm) size (gRead s p rs)) s
    (scrStore p rs ra imm size s) := by
  obtain ⟨u, e, htouch, hcur⟩ := scrStore_of_clean (rs := rs) hs hp hz hlt ha hd
  have hrd : ∀ f : Fld, u.rd f = s.rd f := fun f => htouch.rd f rfl
  have hret : Touches [] [.blk 0x0603] u (scrRetire p u) := .trans (.wr_pairFld hp u _) (.wr_pairFld hp _ _)
  have hmcur := hret.mcur
  rw [e]
  refine ⟨?_, fun k hk => ?_, ?_, fun f hf => ?_, scrRetire_goes_from (hrd _) (hrd _)⟩
  · rw [hmcur, hcur, if_pos rfl]
  · rw [hmcur, hcur, if_neg hk]
  · have ht : Touches [.mem, .mst] [.blk 0x0603] s (scrRetire p u) := htouch.mono.trans hret.mono
    have hque : (scrRetire p u).que = s.que := ht.part .que (by decide)
    have hirq : (scrRetire p u).irq = s.irq := ht.part .irq (by decide)
    have hq : QueFrame s (scrRetire p u) := ht.queFrame
    rwa [QueFrame, ← hque, ← hirq] at hq
  · exact ((scrRetire_frame p u).2.2 f hf).trans (hrd f)

theorem scrStore_calm (hc : s.calm = true) : (scrStore p rs ra imm size s).calm = true := by
  obtain ⟨u, e, htouch, -⟩ := scrStore_of_clean (rs := rs) hs hp hz hlt ha hd
  rw [e]
  exact scrRetire_calm hp (htouch.calm hc)

end Store

/-- A store row to an aligned address of the data RAM. -/
theorem store_answers {p rs ra imm size w : Nat} {s : State} {d : W64} (hs : ScrFree p s) (hw : ScrHas p w s) (hm : s.plainMem)
    (hz : size ∈ [1, 2, 4]) (hlt : dataAddr s p ra imm < 65536) (ha : dataAddr s p ra imm % size = 0)
    (hd : eccDecode (s.mcur (mkey 12 (p * 8192 + dataAddr s p ra imm / 8))) = .clean d) :
    ∃ t, engRun (scrIssue p w (scrStore p rs ra imm size)) s = .next t ∧
      Stored p (p * 8192 + dataAddr s p ra imm / 8) (storedWord d (dataAddr s p ra imm) size (gRead s p rs)) s t :=
  scr_answers hs hw (scrStore_calm hm hs.lt hz hlt ha hd hs.calm) (scrStore_stored hm hs.lt hz hlt ha hd)

/-! ### The obligations -/

/-- Settles O36: a load gives the lane of the word that reads clean, a store leaves the word with its lane replaced. -/
theorem scribeDataAccesses : Obligations.ScribeDataAccesses := by
  refine ⟨fun s p rd ra imm d hs himm => ?_, fun s p rs ra imm d hs himm hinj hslice => ?_⟩
  · intro a v hlt hd
    have load := fun size sgn h => scrLoad_of_clean (size := size) hlt h hd rd sgn
    have signed : ∀ n, enc 32 (sx n (v % 2 ^ n)) = enc 32 (sx n v) := fun n => congrArg (enc 32) (sx_mod n v)
    exact ⟨fun h hw => value_answers hs hw (load 4 false h) rfl, fun h hw => value_answers hs hw (load 2 true h) (signed 16),
      fun h hw => value_answers hs hw (load 2 false h) rfl, fun hw => value_answers hs hw (load 1 true (Nat.mod_one _)) (signed 8),
      fun hw => value_answers hs hw (load 1 false (Nat.mod_one _)) rfl⟩
  · intro a i hlt hd stores
    have store : ∀ {size w : Nat}, size ∈ [1, 2, 4] → a % size = 0 → ScrHas p w s →
        ∃ t, engRun (scrIssue p w (scrStore p rs ra imm size)) s = .next t ∧ stores size t := fun hz h hw => by
      obtain ⟨t, ht, word, others, blocks, regs, goes⟩ := store_answers hs hw ⟨hinj, hslice⟩ hz hlt h hd
      exact ⟨t, ht, word, others, blocks, regs, goes⟩
    exact ⟨fun h hw => store (by decide) h hw, fun h hw => store (by decide) h hw, fun hw => store (by decide) (Nat.mod_one a) hw⟩

/-- Settles O37: each of the rows finds its address outside the data space or misaligned, and traps. -/
theorem scribeMisalignedDataTraps : Obligations.ScribeMisalignedDataTraps := by
  intro s p rd ra imm c size w hs himm a hbad hmem hw
  simp only [List.mem_cons, Prod.mk.injEq, List.not_mem_nil, or_false] at hmem
  rcases hmem with ⟨rfl, rfl, rfl⟩ | ⟨rfl, rfl, rfl⟩ | ⟨rfl, rfl, rfl⟩ | ⟨rfl, rfl, rfl⟩ | ⟨rfl, rfl, rfl⟩ | ⟨rfl, rfl, rfl⟩ |
    ⟨rfl, rfl, rfl⟩ | ⟨rfl, rfl, rfl⟩
  · exact trap_answers hs hw (scrLoad_of_bad hbad rd _)
  · exact trap_answers hs hw (scrLoad_of_bad hbad rd _)
  · exact trap_answers hs hw (scrLoad_of_bad hbad rd _)
  · exact trap_answers hs hw (scrLoad_of_bad hbad rd _)
  · exact trap_answers hs hw (scrLoad_of_bad hbad rd _)
  · exact trap_answers hs hw (scrStore_of_bad hbad rd)
  · exact trap_answers hs hw (scrStore_of_bad hbad rd)
  · exact trap_answers hs hw (scrStore_of_bad hbad rd)

end Sys2Proof.Machine

/-! The special registers of a pair, and the instructions that trap, return, stop and signal (R162, R167). -/

namespace Sys2Proof.Machine

set_option Elab.async false

open Sys2Proof

/-! ### Special registers -/

section Special

variable {p : Nat} {s : State}

theorem scrRds_of_some {k v : Nat} (h : specialGet s p k = some v) (rd word : Nat) :
    scrRds p rd k word s = scrSet p rd v (specialTouch p k s) := by
  rw [scrRds, h]

theorem scrRds_of_none {k : Nat} (h : specialGet s p k = none) (rd word : Nat) : scrRds p rd k word s = scrTrapHere p 1 word s := by
  rw [scrRds, h]
  rfl

theorem scrWrs_of_some {k ra : Nat} {t : State} (h : specialPut p k (gRead s p ra) s = some t) (word : Nat) :
    scrWrs p ra k word s = scrRetire p t := by
  rw [scrWrs, h]

theorem scrWrs_of_none {k ra : Nat} (h : specialPut p k (gRead s p ra) s = none) (word : Nat) :
    scrWrs p ra k word s = scrTrapHere p 1 word s := by
  rw [scrWrs, h]
  rfl

theorem specialTouch_of_other {k : Nat} (h : k ≠ 0 ∧ k ≠ 4 ∧ k ≠ 9) : specialTouch p k s = s := by
  rw [specialTouch, if_neg h.1, if_neg h.2.1, if_neg h.2.2]

/-- Selectors from 0x10 on are undefined (Table 7.5). -/
theorem specialGet_of_undefined {k : Nat} (h : 16 ≤ k) : specialGet s p k = none := by
  obtain ⟨n, rfl⟩ := Nat.exists_eq_add_of_le' h
  rfl

theorem specialPut_of_readOnly {k : Nat} (h : k ∉ [0x06, 0x07, 0x08, 0x0A, 0x0B]) (v : Nat) : specialPut p k v s = none := by
  simp only [List.mem_cons, List.not_mem_nil, or_false, not_or] at h
  unfold specialPut
  split <;> simp_all

/-- The registers RDS reads without a side effect. -/
theorem specialGet_of_plain {k v : Nat} (h : (k, v) ∈ [(0x01, (s.pairOf p).fineFrac.toNat), (0x02, (s.pairOf p).velCap.toNat),
    (0x05, (s.pairOf p).timeHi.toNat),
    (0x06, s.rd (Fd.SCR_PSTAT_SAT p) + 2 * s.rd (Fd.SCR_PSTAT_OVF p) + 4 * s.rd (Fd.SCR_PSTAT_DIV0 p)), (0x07, (s.pairOf p).sdhi.toNat),
    (0x08, (s.pairOf p).waitTmo.toNat), (0x0A, (s.pairOf p).tvec.toNat), (0x0B, s.rd (Fd.SCR_TRAP_PC_VALUE p)),
    (0x0C, s.rd (Fd.SCR_TRAP_CAUSE p)), (0x0D, s.rd (Fd.SCR_TRAP_INFO_VALUE p)), (0x0E, p)]) :
    specialGet s p k = some v ∧ specialTouch p k s = s := by
  simp only [List.mem_cons, List.not_mem_nil, or_false, Prod.mk.injEq] at h
  rcases h with ⟨rfl, rfl⟩ | ⟨rfl, rfl⟩ | ⟨rfl, rfl⟩ | ⟨rfl, rfl⟩ | ⟨rfl, rfl⟩ | ⟨rfl, rfl⟩ | ⟨rfl, rfl⟩ | ⟨rfl, rfl⟩ | ⟨rfl, rfl⟩ |
    ⟨rfl, rfl⟩ | ⟨rfl, rfl⟩
  all_goals exact ⟨rfl, specialTouch_of_other (by decide)⟩

/-- An instruction with one result that first updates its pair beside the registers. -/
theorem scrSet_updPair (rd v : Nat) (s : State) (f : Pair → Pair) (hg : (f (s.pairOf p)).g = (s.pairOf p).g) :
    ScrFrame p (scrPcFlds p) s (scrSet p rd v (s.updPair p f)) ∧ ScrGoes p (scrNext p s) s (scrSet p rd v (s.updPair p f)) ∧
    (∀ r, gRead (scrSet p rd v (s.updPair p f)) p r = if r = rd ∧ r ≠ 0 then v % 2 ^ 32 else gRead s p r) ∧
    { (scrSet p rd v (s.updPair p f)).pairOf p with g := (s.pairOf p).g } = f (s.pairOf p) := by
  obtain ⟨hframe, hgoes, hsets, helse⟩ := scrSet_gives p rd v (s.updPair p f)
  refine ⟨(ScrFrame.updPair s f).trans hframe, hgoes, fun r => ?_, ?_⟩
  · rw [hsets r, gRead_updPair s hg]
  · rwa [State.pairOf_updPair, hg] at helse

/-- A write that updates the pair alone. -/
theorem scrRetire_updPair (s : State) (f : Pair → Pair) : ScrFrame p (scrPcFlds p) s (scrRetire p (s.updPair p f)) ∧
    ScrGoes p (scrNext p s) s (scrRetire p (s.updPair p f)) ∧ (scrRetire p (s.updPair p f)).pairOf p = f (s.pairOf p) :=
  ⟨(ScrFrame.updPair s f).trans (scrRetire_frame p _), scrRetire_goes p (s.updPair p f), State.pairOf_updPair s p f⟩

/-! ### Writing flags clears them -/

/-- The flags of a pair whose bits are written as 1 are cleared. -/
def flagsCleared (p v : Nat) (s : State) : State :=
  when_ (bit v 2) (fun t => t.clr (Fd.SCR_PSTAT_DIV0 p))
    (when_ (bit v 1) (fun t => t.clr (Fd.SCR_PSTAT_OVF p)) (when_ (bit v 0) (fun t => t.clr (Fd.SCR_PSTAT_SAT p)) s))

theorem when_clr_rd (c : Bool) (s : State) (f : Fld) : (when_ c (fun t => t.clr f) s).rd f = if c then 0 else s.rd f := by
  cases c
  · rfl
  · exact State.rd_clr s f

theorem when_clr_rd_ne (c : Bool) (s : State) {f g : Fld} (h : f.key ≠ g.key) : (when_ c (fun t => t.clr g) s).rd f = s.rd f := by
  cases c
  · rfl
  · exact State.rd_wr_ne s g f 0 h

theorem when_clr_touches (c : Bool) {ks : List Keys} (s : State) {f : Fld} (h : ks.any (·.has f.key) = true) :
    Touches [] ks s (when_ c (fun t => t.clr f) s) := by
  cases c
  · exact .refl s
  · exact .wr s f 0 h

theorem flagsCleared_touches (hp : p < 8) (v : Nat) (s : State) : Touches [] [.blk 0x0603] s (flagsCleared p v s) :=
  .trans (.trans (when_clr_touches _ s (pairFld_blk hp)) (when_clr_touches _ _ (pairFld_blk hp))) (when_clr_touches _ _ (pairFld_blk hp))

theorem flagsCleared_sat (v : Nat) (s : State) :
    (flagsCleared p v s).rd (Fd.SCR_PSTAT_SAT p) = if bit v 0 then 0 else s.rd (Fd.SCR_PSTAT_SAT p) :=
  (when_clr_rd_ne _ _ pairFld_key_ne).trans ((when_clr_rd_ne _ _ pairFld_key_ne).trans (when_clr_rd _ s _))

theorem flagsCleared_ovf (v : Nat) (s : State) :
    (flagsCleared p v s).rd (Fd.SCR_PSTAT_OVF p) = if bit v 1 then 0 else s.rd (Fd.SCR_PSTAT_OVF p) :=
  (when_clr_rd_ne _ _ pairFld_key_ne).trans ((when_clr_rd _ _ _).trans
    (congrArg (fun x => if bit v 1 then 0 else x) (when_clr_rd_ne _ s pairFld_key_ne)))

theorem flagsCleared_div0 (v : Nat) (s : State) :
    (flagsCleared p v s).rd (Fd.SCR_PSTAT_DIV0 p) = if bit v 2 then 0 else s.rd (Fd.SCR_PSTAT_DIV0 p) :=
  (when_clr_rd _ _ _).trans (congrArg (fun x => if bit v 2 then 0 else x)
    ((when_clr_rd_ne _ _ pairFld_key_ne).trans (when_clr_rd_ne _ s pairFld_key_ne)))

end Special

/-! ### Signals -/

/-- Source events on an awake device reach the interrupt block alone. -/
theorem irqEvents_touches (f : Nat → Nat) (l : List Nat) {s : State} (ha : s.pwr.sleep = .awake) :
    Touches [.irq] irqKeys s (forEach l s (fun j t => irqEvent (f j) t)) := by
  induction l generalizing s with
  | nil => exact .refl s
  | cons j l ih =>
    have h := irqEvent_touches_of_awake (f j) ha
    exact h.trans (ih ((congrArg (·.sleep) (h.part .pwr (by decide))).trans ha))

/-- The bits of SIGNAL are set and their sources raised. -/
def signalled (p m : Nat) (s : State) : State :=
  forEach ((List.range 4).filter (fun j => bit m j)) (s.orF (Fd.SCR_SIGNAL_SIG p) (m % 16)) (fun j t => irqEvent (200 + 4 * p + j) t)

section Signal

variable {p : Nat} (m : Nat) {s : State} (hp : p < 8) (ha : s.pwr.sleep = .awake)
include hp ha

theorem signalled_touches : Touches [.irq] scrKeys s (signalled p m s) :=
  .trans (.mono (Touches.wr_pairFld (ps := []) hp s _)) (irqEvents_touches (200 + 4 * p + ·) _ (s := s.orF _ _) ha).mono

/-- A field of a pair other than its SIGNAL is left. -/
theorem signalled_rd_pairFld {a lo w r : Nat}
    (h : (0x06030000 ≤ a ∧ a + 448 < 0x06040000 ∧ lo < 64) ∧ a * 64 + lo ≠ 0x06030120 * 64 := by decide) :
    (signalled p m s).rd ⟨a + 64 * p, lo, w, r⟩ = s.rd ⟨a + 64 * p, lo, w, r⟩ :=
  ((irqEvents_touches (200 + 4 * p + ·) _ (s := s.orF _ _) ha).rd _ (pairFld_offIrq hp h.1)).trans (pairFld_rd_wr_ne s _ h.2)

theorem signalled_sig : (signalled p m s).rd (Fd.SCR_SIGNAL_SIG p) = (s.rd (Fd.SCR_SIGNAL_SIG p) ||| m % 16) % 16 :=
  ((irqEvents_touches (200 + 4 * p + ·) _ (s := s.orF _ _) ha).rd _ (pairFld_offIrq hp)).trans (State.rd_wr s _ _)

end Signal

/-! ### The obligations -/

/-- A trap does not see what changed beside the pair, its trap count and IN_TRAP. -/
theorem ScrTraps.of_rd {p cause info pc : Nat} {s s' t : State} (h : ScrTraps p cause info pc s' t)
    (hcount : s'.rd (Fd.SCR_TRAP_COUNT p) = s.rd (Fd.SCR_TRAP_COUNT p))
    (hin : s'.rd (Fd.SCR_PSTAT_IN_TRAP p) = s.rd (Fd.SCR_PSTAT_IN_TRAP p)) (hp : s'.pairOf p = s.pairOf p) :
    ScrTraps p cause info pc s t := by
  unfold ScrTraps State.rdB at *
  rwa [hcount, hin, hp] at h

/-- Settles O39: RDS is a read of Table 7.5 and its side effect, WRS a write of one register; both trap where there is none. -/
theorem scribeSpecialRegisters : Obligations.ScribeSpecialRegisters := by
  intro s p rd ra sel hs hsel hrd hra v x writes
  have wrs : ∀ {k : Nat} {f : Pair → Pair}, specialPut p k v s = some (s.updPair p f) → ScrHas p (wordI 0x21 0 ra k) s →
      ∃ t, exec (.sWrs p ra k) s = .next t ∧ writes (f x) t := fun {k f} h hw => by
    have e := scrWrs_of_some (ra := ra) h (wordI 0x21 0 ra k)
    exact scr_answers hs hw (e ▸ scrRetire_calm hs.lt hs.calm) (e ▸ scrRetire_updPair s f)
  refine ⟨fun hw => ?_, fun hw => ?_, fun hw => ?_, fun w hmem hw => ?_, fun h hw => ?_, fun hw => wrs rfl hw, fun hw => wrs rfl hw,
    fun hw => wrs (f := fun x => { x with tvec := BitVec.ofNat 32 (v / 4 * 4) }) ?_ hw, fun hw => ?_, fun hw => ?_, fun h hw => ?_⟩
  · have e := scrRds_of_some (s := s) (p := p) (k := 4) rfl rd (wordI 0x20 rd 0 4)
    obtain ⟨hframe, hgoes, hsets, helse⟩ := scrSet_updPair (p := p) rd (s.now % 2 ^ 32) s
      (fun x => { x with timeHi := BitVec.ofNat 32 (s.now / 2 ^ 32) }) rfl
    refine scr_answers hs hw (e ▸ (scrSet_calm p rd _ _ hs.lt).trans hs.calm) (e ▸ ⟨hframe, hgoes, ?_, congrArg Pair.timeHi helse⟩)
    exact fun r => (hsets r).trans (by rw [Nat.mod_mod])
  · have e := scrRds_of_some (s := s) (p := p) (k := 9) rfl rd (wordI 0x20 rd 0 9)
    have hc := calm_wr_pairFld (a := 0x0603011C) (lo := 16) (w := 16) (r := 0) hs.lt hs.calm 0
    obtain ⟨hframe, -, hsets⟩ := scrSet_of_frame (p := p) (s := s) rd (s.rd (Fd.SCR_DOORBELL_PENDING p))
      (ScrFrame.wr (l := [Fd.SCR_DOORBELL_PENDING p]) s _ 0 (List.mem_singleton_self _)) rfl (pairFld_rd_wr_ne s 0) (pairFld_rd_wr_ne s 0)
    exact scr_answers hs hw (e ▸ (scrSet_calm p rd _ _ hs.lt).trans hc)
      (e ▸ ⟨hframe, hsets, (scrSet_rd_pairFld _).trans (State.rd_clr s _)⟩)
  · have e := scrRds_of_some (s := s) (p := p) (k := 0) rfl rd (wordI 0x20 rd 0 0)
    obtain ⟨hframe, -, hsets, helse⟩ := scrSet_updPair (p := p) rd (engWord s) s
      (fun x => { x with fineFrac := BitVec.ofNat 32 (engTheta s % 256), velCap := BitVec.ofInt 32 (velWord (engV s)) }) rfl
    exact scr_answers hs hw (e ▸ (scrSet_calm p rd _ _ hs.lt).trans hs.calm) (e ▸ ⟨hframe, hsets, congrArg Pair.fineFrac helse⟩)
  · obtain ⟨hget, htouch⟩ := specialGet_of_plain hmem
    exact value_answers hs hw ((scrRds_of_some hget rd _).trans (congrArg _ htouch)) rfl
  · obtain ⟨t, ht, htrap, -, hscr⟩ := trap_answers hs hw (scrRds_of_none (specialGet_of_undefined h) rd (wordI 0x20 rd 0 sel))
    exact ⟨t, ht, by simpa [wordI] using htrap, hscr⟩
  · exact congrArg (fun n => some (s.updPair p (fun x => { x with tvec := BitVec.ofNat 32 n }))) (by omega : v - v % 4 = v / 4 * 4)
  · have e := scrWrs_of_some (p := p) (s := s) (k := 0x0B) (ra := ra) rfl (wordI 0x21 0 ra 0x0B)
    exact scr_answers hs hw (e ▸ scrRetire_calm hs.lt (calm_wr_pairFld hs.lt hs.calm v))
      (e ▸ ⟨(scrRetire_rd_pairFld _).trans (State.rd_wr_lt s _ v (gRead_lt s p ra)), rfl⟩)
  · have e := scrWrs_of_some (p := p) (s := s) (k := 6) (ra := ra) (t := flagsCleared p v s) rfl (wordI 0x21 0 ra 6)
    have hc := flagsCleared_touches hs.lt v s
    exact scr_answers hs hw (e ▸ scrRetire_calm hs.lt (hc.calm hs.calm)) (e ▸ ⟨pairOf_of_scr (hc.part .scr (by decide)) p,
      (scrRetire_rd_pairFld _).trans (flagsCleared_sat v s), (scrRetire_rd_pairFld _).trans (flagsCleared_ovf v s),
      (scrRetire_rd_pairFld _).trans (flagsCleared_div0 v s)⟩)
  · obtain ⟨t, ht, htrap, -, hscr⟩ := trap_answers hs hw (scrWrs_of_none (specialPut_of_readOnly h v) (wordI 0x21 0 ra sel))
    exact ⟨t, ht, by simpa [wordI] using htrap, hscr⟩

/-- Settles O40: a trap saves the next address, a return goes to the saved one, a halt stops after the end of the instruction. -/
theorem scribeTrapsAndReturns : Obligations.ScribeTrapsAndReturns := by
  intro s p n m hs hn hm
  have ha := State.awake_of_calm hs.calm
  refine ⟨fun hw => ?_, fun hw => ?_, fun hw => ?_, fun hw => ?_⟩
  · have counted := calm_wr_pairFld (a := 0x06030128) (lo := 0) (w := 64) (r := 0) hs.lt hs.calm (s.rd (Fd.SCR_RETIRED_COUNT p) + 1)
    have ht := scrTrap_touches 6 (n % 256) (scrNext p s) _ hs.lt (State.awake_of_calm counted)
    have h := scrTrap_traps (p := p) 6 (n % 256) (scrNext p s) (s.incWrap (Fd.SCR_RETIRED_COUNT p)) hs.lt (by decide)
    refine scr_answers hs hw (ht.calm counted) ⟨?_, ht.part .scr (by decide)⟩
    have hp := h.of_rd (s := s) (pairFld_rd_wr_ne s _) (pairFld_rd_wr_ne s _) rfl
    simpa only [scrSoft, scrNext, Nat.mod_eq_of_lt hn] using hp
  · have hc := calm_wr_pairFld (a := 0x06030104) (lo := 3) (w := 1) (r := 0) hs.lt hs.calm 0
    have hg := scrJump_goes p (s.rd (Fd.SCR_TRAP_PC_VALUE p)) (s.clr (Fd.SCR_PSTAT_IN_TRAP p))
    have cleared : ScrFrame p (Fd.SCR_PSTAT_IN_TRAP p :: scrPcFlds p) s (s.clr (Fd.SCR_PSTAT_IN_TRAP p)) :=
      .wr s _ 0 List.mem_cons_self
    have kept : (scrRett p s).rd (Fd.SCR_PSTAT_IN_TRAP p) = 0 :=
      (pairFld_rd_wr_ne _ _).trans ((pairFld_rd_wr_ne _ _).trans (State.rd_clr s _))
    exact scr_answers hs hw ((scrJump_calm p _ _ hs.lt).trans hc) ⟨cleared.trans ((scrJump_frame p _ _).mono (List.subset_cons_self _ _)),
      rfl, hg.of_rd (pairFld_rd_wr_ne s 0), kept⟩
  · have ht := scrStop_touches hs.lt (scrRetire p s) (State.awake_of_calm (scrRetire_calm hs.lt hs.calm))
    have hg := scrRetire_goes p s
    exact scr_answers hs hw (ht.calm (scrRetire_calm hs.lt hs.calm)) ⟨scrStop_state hs.lt _, ⟨(scrStop_rd_pairFld hs.lt _).trans hg.1,
      (scrStop_rd_pairFld hs.lt _).trans hg.2⟩, ht.part .scr (by decide), ht.part .mem (by decide)⟩
  · have ht := signalled_touches m hs.lt ha
    refine scr_answers hs hw (scrRetire_calm hs.lt (ht.calm hs.calm)) ⟨(scrRetire_rd_pairFld _).trans ((signalled_sig m hs.lt ha).trans ?_),
      scrRetire_goes_from (signalled_rd_pairFld m hs.lt ha) (signalled_rd_pairFld m hs.lt ha),
      ht.part .scr (by decide), ht.part .mem (by decide)⟩
    rw [Nat.mod_eq_of_lt hm]

end Sys2Proof.Machine

/-! WAIT, PWAIT, PFETCH and the QFREE of a queue that is not in use (R163, R165, R166). -/

namespace Sys2Proof.Machine

set_option Elab.async false

open Sys2Proof

/-! ### Waits -/

section Wait

variable {p rd ra : Nat} {s : State}

/-- An instruction that leaves its pair waiting changes nothing else. -/
theorem waiting_of_updPair (s : State) (w : ScrWait) (hw : w ≠ .none) :
    ScrFrame p [] s (s.updPair p (fun x => { x with waiting := w })) ∧
    pairWaiting (s.updPair p (fun x => { x with waiting := w })) p = true ∧
    ∀ r, gRead (s.updPair p (fun x => { x with waiting := w })) p r = gRead s p r := by
  refine ⟨.updPair s _, ?_, gRead_updPair s rfl⟩
  rw [pairWaiting, State.pairOf_updPair]
  exact bne_iff_ne.2 hw

/-- A WAIT for the doorbell alone. -/
theorem waitBits_bell (s : State) (p ref start : Nat) : waitBits s p 1 ref start = b2n (s.rd (Fd.SCR_DOORBELL_PENDING p) != 0) := by
  have h1 : bit 1 1 = false := rfl
  have h2 : bit 1 2 = false := rfl
  have h4 : bit 1 4 = false := rfl
  have h0 : bit 1 0 = true := rfl
  simp only [waitBits, h0, h1, h2, h4, Bool.false_and, Bool.true_and, b2n, Bool.false_eq_true, if_false, Nat.mul_zero, Nat.add_zero]

theorem scrWait_of_none {mask : Nat} (h : mask &&& 0x17 = 0) (word : Nat) : scrWait p rd ra mask word s = scrTrapHere p 1 word s := if_pos h

theorem scrWait_of_held {mask : Nat} (h : mask &&& 0x17 ≠ 0) (hb : waitBits s p mask (gRead s p ra) s.now ≠ 0) (word : Nat) :
    scrWait p rd ra mask word s = scrSet p rd (waitBits s p mask (gRead s p ra) s.now) s := by
  rw [scrWait, if_neg h]
  exact if_neg hb

theorem scrWait_of_waits {mask : Nat} (h : mask &&& 0x17 ≠ 0) (hb : waitBits s p mask (gRead s p ra) s.now = 0) (word : Nat) :
    scrWait p rd ra mask word s = s.updPair p (fun x => { x with waiting := .wait rd mask (gRead s p ra) s.now }) := by
  rw [scrWait, if_neg h]
  exact if_pos hb

theorem scrPwait_of_free (h : tagBusy s p (gRead s p ra % 4) = false) :
    scrPwait p rd ra s = scrSet p rd (tagStatus s p (gRead s p ra % 4)) s := if_neg (by rw [h]; exact Bool.false_ne_true)

theorem scrPwait_of_busy (h : tagBusy s p (gRead s p ra % 4) = true) :
    scrPwait p rd ra s = s.updPair p (fun x => { x with waiting := .pwait rd (gRead s p ra % 4) }) := if_pos h

end Wait

/-- A row whose instruction leaves its pair waiting. -/
theorem waiting_answers {p w : Nat} {s : State} {f : State → State} {v : ScrWait} (hs : ScrFree p s) (hw : ScrHas p w s) (hv : v ≠ .none)
    (hf : f s = s.updPair p (fun x => { x with waiting := v })) : ∃ t, engRun (scrIssue p w f) s = .next t ∧ ScrFrame p [] s t ∧
      pairWaiting t p = true ∧ ∀ r, gRead t p r = gRead s p r :=
  scr_answers hs hw (hf ▸ hs.calm) (hf ▸ waiting_of_updPair s v hv)

/-! ### Pattern fetches -/

section Fetch

variable {p : Nat} {s t : State}

theorem tagBusy_of_put {k : Nat} {x : FetchTag} (h : (t.pairOf p).tags = mapPut (s.pairOf p).tags k x) (j : Nat) :
    tagBusy t p j = if j = k then x.busy else tagBusy s p j := by
  unfold tagBusy
  rw [h]
  split_ifs with hj
  · rw [hj, mapGet?_mapPut_self]
  · rw [mapGet?_mapPut_ne _ _ _ _ hj]

theorem freeTags_of_idle (h : (List.range 4).any (tagBusy s p) = false) : freeTags s p = List.range 4 := by
  rw [List.any_eq_false] at h
  rw [freeTags, List.filter_eq_self]
  exact fun k hk => by simpa using h k hk

/-- The first fetch of an idle pair is its only one. -/
theorem fetchesOf_of_put {k : Nat} {x : FetchTag} (hidle : (List.range 4).any (tagBusy s p) = false) (hk : k < 4) (hx : x.busy = true)
    (h : (t.pairOf p).tags = mapPut (s.pairOf p).tags k x) : fetchesOf t p = 1 := by
  have count : ∀ k < 4, ((List.range 4).filter (fun j => decide (j = k))).length = 1 := by decide
  rw [fetchesOf, List.filter_congr (q := fun j => decide (j = k)), count k hk]
  intro j hj
  have hfree := List.any_eq_false.1 hidle j hj
  rw [tagBusy_of_put h, hx]
  by_cases hjk : j = k
  · simp [hjk]
  · simpa [hjk] using hfree

theorem nth_range {d n : Nat} (i : Nat) (h : i < n) : nth d (List.range n) i = i := by simp [nth, h]

variable {rd ra rb n : Nat}

theorem scrPfetch_of_bad (h : gRead s p ra % 64 ≠ 0 ∨ 0x10000 < gRead s p ra + 64 * (if n = 0 then 256 else n)) :
    scrPfetch p rd ra rb n s = scrTrapHere p 4 (gRead s p ra) s := if_pos h

/-- The address in the SDRAM a PFETCH names. -/
def fetchSrc (s : State) (p rb : Nat) : Nat := (s.pairOf p).sdhi.toNat % 256 * 2 ^ 32 + gRead s p rb

/-- A fetch of `n` bursts begins on tag `k`. -/
def fetchBegun (p rd src dst n : Nat) (s : State) (k : Nat) : State :=
  scrSet p rd k (s.drawn.updPair p (fun y => { y with tags := mapPut y.tags k ⟨src, dst, n, St.ok, true⟩ }))

theorem scrPfetch_of_good (hdst : gRead s p ra % 64 = 0) (hlen : gRead s p ra + 64 * (if n = 0 then 256 else n) ≤ 65536)
    (hsrc : fetchSrc s p rb % 64 = 0) (hin : fetchSrc s p rb + 64 * (if n = 0 then 256 else n) ≤ xmcLines s * 64)
    (hidle : (List.range 4).any (tagBusy s p) = false) :
    ∃ k < 4, scrPfetch p rd ra rb n s = fetchBegun p rd (fetchSrc s p rb) (gRead s p ra) (if n = 0 then 256 else n) s k := by
  have hk := Nat.mod_lt (Config.freeValue s.sys.free).toNat (by decide : 0 < 4)
  refine ⟨_, hk, ?_⟩
  unfold fetchSrc at hsrc hin
  unfold scrPfetch
  simp only
  rw [if_neg (by omega), if_neg (by omega), freeTags_of_idle hidle, decide_eq_false (by omega)]
  exact congrArg (fetchBegun p rd _ _ _ s) (nth_range _ hk)

/-- A fetch that begins gives its tag, which is outstanding then. -/
theorem fetchBegun_gives {k : Nat} (hk : k < 4) (hidle : (List.range 4).any (tagBusy s p) = false) (src dst : Nat) :
    tagBusy (fetchBegun p rd src dst n s k) p k = true ∧ fetchesOf (fetchBegun p rd src dst n s k) p = 1 ∧
    (∀ r, gRead (fetchBegun p rd src dst n s k) p r = if r = rd ∧ r ≠ 0 then k else gRead s p r) ∧
    ScrGoes p (scrNext p s) s (fetchBegun p rd src dst n s k) := by
  obtain ⟨-, hgoes, hsets, helse⟩ := scrSet_updPair (p := p) rd k s.drawn
    (fun y => { y with tags := mapPut y.tags k ⟨src, dst, n, St.ok, true⟩ }) rfl
  have tags := congrArg Pair.tags helse
  refine ⟨(tagBusy_of_put (s := s) tags k).trans (if_pos rfl), fetchesOf_of_put (s := s) hidle hk rfl tags, fun r => ?_, hgoes⟩
  rw [fetchBegun, hsets r, Nat.mod_eq_of_lt (by omega)]
  rfl

end Fetch

/-! ### The obligation -/

/-- Settles O41: each instruction by the case its state selects: a result at once, the wait entered, the fetch begun, or a trap. -/
theorem scribeWaitsAndFetches : Obligations.ScribeWaitsAndFetches := by
  intro s p rd ra rb n hs hrd hra hrb hn bell tag dst src len
  have bits := waitBits_bell s p (gRead s p ra) s.now
  refine ⟨fun h hw => ?_, fun h hw => ?_, fun hw => ?_, fun h hw => ?_, fun h hw => ?_, fun h hw => ?_, fun hdst hlen hsrc hin hidle hw => ?_,
    fun h hw => ?_⟩
  · have one : waitBits s p 1 (gRead s p ra) s.now = 1 := bits.trans (by rw [bne_iff_ne.2 h, b2n, if_pos rfl])
    exact value_answers hs hw (scrWait_of_held (by decide) (by rw [one]; decide) _) one
  · have none_ : waitBits s p 1 (gRead s p ra) s.now = 0 := bits.trans (by rw [bne_eq_false_iff_eq.2 h, b2n]; rfl)
    exact waiting_answers hs hw (by simp) (scrWait_of_waits (by decide) none_ _)
  · obtain ⟨t, ht, htrap, -, -⟩ := trap_answers hs hw (scrWait_of_none (rd := rd) (ra := ra) (mask := 8) (by decide) (wordR 0x27 rd ra 0 8))
    exact ⟨t, ht, by simpa [wordR, wordI] using htrap⟩
  · exact value_answers hs hw (scrPwait_of_free h) rfl
  · obtain ⟨t, ht, hframe, hwait, -⟩ := waiting_answers hs hw (by simp) (scrPwait_of_busy (rd := rd) h)
    exact ⟨t, ht, hframe, hwait⟩
  · obtain ⟨t, ht, htrap, -, hscr⟩ := trap_answers hs hw (scrPfetch_of_bad (rd := rd) (rb := rb) h)
    exact ⟨t, ht, htrap, hscr⟩
  · obtain ⟨k, hk, e⟩ := scrPfetch_of_good (rd := rd) hdst hlen hsrc hin hidle
    have gives := fetchBegun_gives (rd := rd) (s := s) (n := if n = 0 then 256 else n) hk hidle (fetchSrc s p rb) (gRead s p ra)
    rw [← e] at gives
    exact ⟨_, k, scr_exec p _ _ s hs hw (e ▸ (scrSet_calm p rd _ _ hs.lt).trans hs.calm), hk, gives⟩
  · exact value_answers hs hw (if_pos h) rfl

end Sys2Proof.Machine

/-! The queue instructions of the scribes (R163, R164): QFREE and XPUSH. -/

namespace Sys2Proof.Machine

set_option Elab.async false

open Sys2Proof

theorem scrQfree_of_produced {p rd ra : Nat} {s : State} {d : Desc} (h0 : qState s (gRead s p ra % 65536) ≠ 0)
    (hd : readDesc (gRead s p ra % 65536) s = (some d, s)) (hp : d.prod = p) :
    scrQfree p rd ra s = scrSet p rd (2 ^ d.log2 - 1 - ringDiff d d.sidx d.cidx) s := by
  unfold scrQfree
  simp only [if_neg h0, hd, if_pos hp]

/-! ### The lowest set bit of a mask -/

/-- A bit under which a number is 0 is clear in it. -/
theorem testBit_of_mod_two_pow {m k n : Nat} (hz : m % 2 ^ n = 0) (hk : k < n) : m.testBit k = false := by
  have h := Nat.testBit_mod_two_pow m n k
  rw [hz, Nat.zero_testBit, decide_eq_true hk, Bool.true_and] at h
  exact h.symm

theorem lowBit_eq {m b : Nat} (hb : b < 32) (hbit : m.testBit b = true) (hz : m % 2 ^ b = 0) : lowBit m = b := by
  obtain ⟨-, hlow, hset⟩ := ctzAux_spec 32 m
  rcases Nat.lt_trichotomy (lowBit m) b with h | h | h
  · have hclear := testBit_of_mod_two_pow hz h
    rw [lowBit, hset (Nat.lt_trans h hb)] at hclear
    contradiction
  · exact h
  · have hclear := testBit_of_mod_two_pow hlow h
    rw [hbit] at hclear
    contradiction

/-! ### XPUSH -/

/-- The registers of an XPUSH and its template keep apart (R164). -/
def TemplateApart (rd ra rb t0 : Nat) : Prop := t0 ≠ 0 ∧ t0 % 4 = 0 ∧ rd / 4 ≠ t0 / 4 ∧ ra / 4 ≠ t0 / 4 ∧ rb / 4 ≠ t0 / 4

theorem xpushOk_iff {rd ra rb t0 : Nat} : xpushOk rd ra rb t0 = true ↔ TemplateApart rd ra rb t0 := by
  simp [xpushOk, TemplateApart, and_assoc]

section Xpush

variable {p rd ra rb t0 : Nat} {s u : State}

theorem scrXpush_of_apart (h : TemplateApart rd ra rb t0) (c : Bool) (word : Nat) :
    scrXpush p rd ra rb t0 c word s = xpushStep p rd ra rb t0 c s := if_pos (xpushOk_iff.2 h)

theorem scrXpush_of_overlap (h : ¬TemplateApart rd ra rb t0) (c : Bool) (word : Nat) :
    scrXpush p rd ra rb t0 c word s = scrTrapHere p 1 word s := if_neg (mt xpushOk_iff.1 h)

theorem xpushStep_of_empty (h : gRead s p rb = 0) : xpushStep p rd ra rb t0 false s = scrSet p rd 0 s := if_pos h

theorem xpushStep_of_commit {st : Nat} (h : gRead s p rb = 0) (hport : portOp 2 p (gRead s p ra % 65536) (gEvent s p t0) s = (st, u)) :
    xpushStep p rd ra rb t0 true s = scrSet p rd st u :=
  (if_pos h).trans (congrArg (fun r : Nat × State => scrSet p rd r.1 r.2) hport)

/-- What an XPUSH does with the answer to its push of bit `b`. -/
def xpushed (p rd rb : Nat) (c : Bool) (m b : Nat) (r : Nat × State) : State :=
  if r.1 = 0 then
    if m = 2 ^ b ∧ !c then scrSet p rd 0 (gWrite p rb (m - 2 ^ b) r.2) else gWrite p rb (m - 2 ^ b) r.2
  else scrSet p rd r.1 r.2

theorem xpushStep_of_bit {b : Nat} (hb : b < 32) (hbit : (gRead s p rb).testBit b = true) (hz : gRead s p rb % 2 ^ b = 0) (c : Bool) :
    xpushStep p rd ra rb t0 c s =
      xpushed p rd rb c (gRead s p rb) b (portOp 0 p (gRead s p ra % 65536) (xTemplate (gEvent s p t0) b) s) := by
  have h0 : gRead s p rb ≠ 0 := fun h => by simp [h] at hbit
  rw [xpushStep, lowBit_eq hb hbit hz]
  exact if_neg h0

theorem xpushed_calm (hp : p < 8) (c : Bool) (m b : Nat) {st : Nat} (hu : u.calm = true) : (xpushed p rd rb c m b (st, u)).calm = true := by
  unfold xpushed
  split
  · split
    · rwa [scrSet_calm _ _ _ _ hp, gWrite_calm]
    · rwa [gWrite_calm]
  · rwa [scrSet_calm _ _ _ _ hp]

end Xpush

/-- Settles O42: QFREE by the descriptor, XPUSH by its mask and the answer of its one push. -/
theorem scribeQueueInstructions : Obligations.ScribeQueueInstructions := by
  intro s p rd ra rb t0 d hs hrd hra hrb ht0 q apart m word
  refine ⟨fun h0 hd hp hw => value_answers hs hw (scrQfree_of_produced h0 hd hp) rfl, fun h hm hw => ?_, fun st u h hm hport hu hw => ?_,
    fun b c u st h hb hbit hz hport hu => ?_, fun h hw => ?_⟩
  · exact value_answers hs hw ((scrXpush_of_apart h false _).trans (xpushStep_of_empty hm)) rfl
  · have e := (scrXpush_of_apart h true (wordR 0x23 rd ra rb (t0 * 32 + b2n true))).trans (xpushStep_of_commit (rd := rd) hm hport)
    exact scr_answers hs hw (e ▸ (scrSet_calm p rd st u hs.lt).trans hu) e
  · have e := (scrXpush_of_apart (p := p) h c (wordR 0x23 rd ra rb (t0 * 32 + b2n c))).trans
      (xpushStep_of_bit (rd := rd) (ra := ra) (t0 := t0) hb hbit hz c)
    rw [hport] at e
    have pushes : ∀ {v : State}, xpushed p rd rb c m b (st, u) = v → ScrHas p (wordR 0x23 rd ra rb (t0 * 32 + b2n c)) s →
        ∃ t, exec (.sXpush p rd ra rb t0 c) s = .next t ∧ t = v := fun hv hw =>
      scr_answers hs hw (e ▸ xpushed_calm hs.lt c m b hu) (e.trans hv)
    refine ⟨fun hst hm hc => pushes ?_, fun hst hmc => pushes ?_, fun hst => pushes (if_neg hst)⟩
    · rw [xpushed, if_pos hst, if_pos ⟨hm, by rw [hc]; rfl⟩, hm, Nat.sub_self]
    · rw [xpushed, if_pos hst, if_neg (fun ⟨hm, hc⟩ => hmc.elim (absurd hm) (fun h => by simp [h] at hc))]
  · obtain ⟨t, ht, htrap, -, hscr⟩ := trap_answers hs hw (scrXpush_of_overlap (p := p) h false (wordR 0x23 rd ra rb (t0 * 32)))
    exact ⟨t, ht, by simpa only [word, wordR, wordI, Nat.add_assoc] using htrap, hscr⟩

end Sys2Proof.Machine

/-! The ends of WAIT and PWAIT (R165, R166). -/

namespace Sys2Proof.Machine

set_option Elab.async false

open Sys2Proof

/-- The condition bits of a WAIT as one number. -/
theorem conditionBits (a b c d : Bool) : (b2n a + 2 * b2n b + 4 * b2n c + 16 * b2n d = 0 ↔ a = false ∧ b = false ∧ c = false ∧ d = false) ∧
    bit (b2n a + 2 * b2n b + 4 * b2n c + 16 * b2n d) 4 = d := by
  revert a b c d
  decide

section Poll

variable {p rd mask ref start tag v : Nat} {tmo : Bool} {s : State}

/-- What the end of a WAIT or PWAIT leaves. -/
theorem waitEnd_gives (p rd v : Nat) (s : State) : pairWaiting (waitEnd p rd v s) p = false ∧ ScrGoes p (scrNext p s) s (waitEnd p rd v s) ∧
    (∀ r, gRead (waitEnd p rd v s) p r = if r = rd ∧ r ≠ 0 then v % 2 ^ 32 else gRead s p r) ∧
    ScrFrame p (scrPcFlds p) s (waitEnd p rd v s) := by
  obtain ⟨hframe, hgoes, hsets, helse⟩ := scrSet_updPair (p := p) rd v s (fun x => { x with waiting := .none }) rfl
  exact ⟨bne_eq_false_iff_eq.2 (congrArg Pair.waiting helse), hgoes, hsets, hframe⟩

variable (hst : pairState s p = 1) (hm : scrMode s = true)
include hst hm

/-- A poll of a running pair by what the pair waits in. -/
theorem scrPoll_of_running : scrPoll p tmo s = match (s.pairOf p).waiting with
    | .none => s
    | .wait rd mask ref start =>
      if waitBits s p mask ref start = 0 ∨ tmo ∧ !bit (waitBits s p mask ref start) 4 then s
      else waitEnd p rd (waitBits s p mask ref start) s
    | .pwait rd t => if tagBusy s p t then s else waitEnd p rd (tagStatus s p t) s :=
  if_neg (by simp [hst, hm])

theorem scrPoll_of_held (hw : (s.pairOf p).waiting = .wait rd mask ref start) (hb : waitBits s p mask ref start ≠ 0)
    (ht : tmo = true → bit (waitBits s p mask ref start) 4 = true) :
    scrPoll p tmo s = waitEnd p rd (waitBits s p mask ref start) s := by
  rw [scrPoll_of_running hst hm, hw]
  refine if_neg ?_
  rintro (h | ⟨h, hbit⟩)
  · exact hb h
  · simp [ht h] at hbit

theorem scrPoll_of_unmet (hw : (s.pairOf p).waiting = .wait rd mask ref start)
    (h : waitBits s p mask ref start = 0 ∨ tmo = true ∧ bit (waitBits s p mask ref start) 4 = false) : scrPoll p tmo s = s := by
  rw [scrPoll_of_running hst hm, hw]
  exact if_pos (h.imp_right fun ⟨h1, h2⟩ => ⟨h1, by rw [h2]; rfl⟩)

theorem scrPoll_of_fetched (hw : (s.pairOf p).waiting = .pwait rd tag) (hb : tagBusy s p tag = false) :
    scrPoll p tmo s = waitEnd p rd (tagStatus s p tag) s := by
  rw [scrPoll_of_running hst hm, hw]
  exact if_neg (by rw [hb]; exact Bool.false_ne_true)

end Poll

theorem waitEnd_calm {p : Nat} {s : State} (hp : p < 8) (hc : s.calm = true) (rd v : Nat) : (waitEnd p rd v s).calm = true :=
  (scrSet_calm p rd v _ hp).trans hc

/-- Settles O45: the bits of the conditions that hold decide whether a poll ends the WAIT, bit 4 whether the passing of its time-out does. -/
theorem scribeWaitEnds : Obligations.ScribeWaitEnds := by
  intro s p rd mask ref start tag hp hl hst hm d bell idle there tmo b ends
  have hc := ((State.live_iff s).1 hl).2
  obtain ⟨hzero, hbit⟩ := conditionBits bell idle there tmo
  have ended : ∀ {v : Nat} {late : Bool}, scrPoll p late s = waitEnd p rd v s → ∃ t, engRun (scrPoll p late) s = .next t ∧ ends v t :=
    fun {v _} e => ⟨_, engRun_of_live hl _ (e ▸ waitEnd_calm hp hc rd v), e ▸ waitEnd_gives p rd v s⟩
  have unmet : ∀ {late : Bool}, scrPoll p late s = s → engRun (scrPoll p late) s = .next s := fun e =>
    (engRun_of_live hl _ (e.symm ▸ hc)).trans (congrArg _ e)
  refine ⟨fun hw => ⟨fun h => ?_, fun h0 h1 h2 h4 => ?_, fun h => ?_, fun h => ?_⟩, fun hw hb => ?_⟩
  · have hne : waitBits s p mask ref start ≠ 0 := fun hz => by
      obtain ⟨h0, h1, h2, h4⟩ := hzero.1 hz
      simp [h0, h1, h2, h4] at h
    exact ended (scrPoll_of_held hst hm hw hne nofun)
  · exact unmet (scrPoll_of_unmet hst hm hw (.inl (hzero.2 ⟨h0, h1, h2, h4⟩)))
  · have hne : waitBits s p mask ref start ≠ 0 := fun hz => by
      obtain ⟨-, -, -, h4⟩ := hzero.1 hz
      rw [h4] at h
      contradiction
    exact ended (scrPoll_of_held hst hm hw hne fun _ => hbit.trans h)
  · exact unmet (scrPoll_of_unmet hst hm hw (.inr ⟨rfl, hbit.trans h⟩))
  · exact ended (scrPoll_of_fetched hst hm hw hb)

end Sys2Proof.Machine

/-! The words of the scribes and the instructions they are (Table 7.2, Table 7.3). -/

namespace Sys2Proof.Machine

set_option Elab.async false

open Sys2Proof

/-! ### The fields of a word -/

section Fields

variable {op rd ra rb fn imm : Nat}

theorem scrFields_wordI (hop : op < 64) (hrd : rd < 32) (hra : ra < 32) (himm : imm < 65536) :
    scrFields (wordI op rd ra imm) = ⟨op, rd, ra, imm / 2048, imm % 2048, imm⟩ := by
  simp only [scrFields, wordI, bits, ScrFields.mk.injEq, Nat.reduceAdd, Nat.reduceSub, Nat.reducePow]
  omega

theorem scrFields_wordR (hop : op < 64) (hrd : rd < 32) (hra : ra < 32) (hrb : rb < 32) (hfn : fn < 2048) :
    scrFields (wordR op rd ra rb fn) = ⟨op, rd, ra, rb, fn, rb * 2048 + fn⟩ := by
  rw [wordR, scrFields_wordI hop hrd hra (by omega)]
  simp only [ScrFields.mk.injEq, true_and, Nat.reducePow, and_true]
  omega

/-- The parts of the function field of a Q instruction. -/
theorem qFields {sh rm x : Nat} (hsh : sh < 32) (hrm : rm < 4) (hx : x < 16) : sh * 64 + rm * 16 + x < 2048 ∧
    bits (sh * 64 + rm * 16 + x) 10 6 = sh ∧ bits (sh * 64 + rm * 16 + x) 5 4 = rm ∧ (sh * 64 + rm * 16 + x) % 16 = x ∧
    (sh * 64 + rm * 16 + x) % 4 = x % 4 ∧ bit (sh * 64 + rm * 16 + x) 3 = bit x 3 ∧ bit (sh * 64 + rm * 16 + x) 2 = bit x 2 := by
  simp only [bits, bit, Nat.testBit_eq_decide_div_mod_eq, decide_eq_decide, Nat.reduceAdd, Nat.reduceSub, Nat.reducePow]
  omega

end Fields

/-! ### ADD and SUB, and the immediates -/

theorem runAlu_addSub {p op rd ra rb imm : Nat} {s : State} (fn : Nat) (hfn : fn % 64 ≤ 3 := by decide)
    (hrest : fn - fn % 64 = 0 ∨ fn - fn % 64 = 256 := by decide) : runAlu p ⟨op, rd, ra, rb, fn, imm⟩ s =
      some (scrAddSub p rd ra rb (fn % 64 % 2 == 1) (decide (2 ≤ fn % 64)) (bit fn 8) s) :=
  (if_pos hfn).trans (if_pos hrest)

theorem immZ_of_lt {imm : Nat} (h : imm < 65536) : immZ imm = BitVec.ofNat 32 imm := congrArg _ (Nat.mod_eq_of_lt h)

/-! ### Words that are no instruction -/

theorem runWord_of_reserved_op {p w : Nat} {s : State} (h : 0x2C ≤ (scrFields w).op) : runWord p w s = none := by
  obtain ⟨n, hn⟩ := Nat.exists_eq_add_of_le' h
  rw [runWord]
  simp only [hn]

theorem runAlu_of_reserved {p : Nat} {s : State} {f : ScrFields} (h : 0x1D ≤ f.fn) (hlt : f.fn < 64) : runAlu p f s = none := by
  have hmod := Nat.mod_eq_of_lt hlt
  obtain ⟨n, hn⟩ := Nat.exists_eq_add_of_le' h
  rw [runAlu]
  simp only [hmod]
  rw [if_neg (by omega), if_neg (by omega)]
  simp only [hn]

/-! ### A row whose word is not the one at the PC -/

theorem scrIssue_of_other {p w enc : Nat} {f : State → State} {s : State} (h : ScrFree p s) (hw : ScrHas p w s) (hne : w ≠ enc) :
    scrIssue p enc f s = scrRun p w s := by
  obtain ⟨-, -, hready, hbp, -, -⟩ := h
  unfold ScrHas at hw
  simp [scrIssue, hready, hbp, scrDo, hw, hne]

theorem other_answers {p w enc : Nat} {f : State → State} {s : State} (h : ScrFree p s) (hw : ScrHas p w s) (hne : w ≠ enc) :
    engRun (scrIssue p enc f) s = .next (finish (scrRun p w s)) := by
  rw [engRun_of_engOn _ s h.engOn, scrIssue_of_other h hw hne]

/-- Settles O44: the fields of a built word are those it was built of, and select the instruction. -/
theorem scribeWordsAreTable73 : Obligations.ScribeWordsAreTable73 := by
  intro s p rd ra rb rm imm hrd hra hrb hrm himm
  refine ⟨?_, ?_, ?_, ?_, ?_, ?_, ?_, ?_, ?_, ?_, ?_, ?_, ?_, ?_, ?_, ?_, ?_, ?_, ?_, ?_, ?_, ?_, ?_, ?_, ?_, ?_, ?_, fun op h hlt => ?_,
    fun fn h hlt => ?_, fun w hs hw => ?_⟩
  · rw [runWord, scrFields_wordR (by decide) hrd hra hrb (by decide)]
    exact runAlu_addSub 0x00
  · rw [runWord, scrFields_wordR (by decide) hrd hra hrb (by decide)]
    exact runAlu_addSub 0x101
  · rw [runWord, scrFields_wordR (by decide) hrd hra hrb (by decide)]
    exact runAlu_addSub 0x02
  · rw [runWord, scrFields_wordR (by decide) hrd hra hrb (by decide)]; rfl
  · rw [runWord, scrFields_wordR (by decide) hrd hra hrb (by decide)]; rfl
  · rw [runWord, scrFields_wordR (by decide) hrd hra hrb (by decide)]; rfl
  · rw [runWord, scrFields_wordR (by decide) hrd hra hrb (by decide)]; rfl
  · rw [runWord, scrFields_wordR (by decide) hrd hra (by decide) (by decide)]; rfl
  · rw [runWord, scrFields_wordR (by decide) hrd hra (by decide) (by decide)]; rfl
  · rw [runWord, scrFields_wordR (by decide) hrd hra hrb (by decide)]; rfl
  · rw [runWord, scrFields_wordI (by decide) hrd hra himm]; rfl
  · rw [runWord, scrFields_wordI (by decide) hrd hra himm]
    exact congrArg (fun x => some (scrOpI (· &&& ·) p rd ra x s)) (immZ_of_lt himm)
  · rw [runWord, scrFields_wordI (by decide) hrd (by decide) himm]; rfl
  · rw [runWord, scrFields_wordI (by decide) hrd hra (by omega)]
    exact (if_pos hrb).trans (congrArg (fun x => some (scrOpI sraW p rd ra x s)) (immZ_of_lt (hrb.trans (by decide))))
  · obtain ⟨hlt, hsh, hrmf, h16, -, -, -⟩ := qFields hrb hrm (x := 0) (by decide)
    simp only [Nat.add_zero] at hlt hsh hrmf h16
    rw [runWord, scrFields_wordR (by decide) hrd hra (by decide) hlt]
    exact (if_pos ⟨rfl, h16⟩).trans (by rw [hsh, hrmf])
  · obtain ⟨hlt, hsh, hrmf, -, h4, h3, h2⟩ := qFields hrb hrm (x := 8) (by decide)
    rw [runWord, scrFields_wordR (by decide) hrd hra hra hlt]
    exact (if_pos h4).trans (by rw [hsh, hrmf, h3, h2]; rfl)
  · rw [runWord, scrFields_wordR (by decide) (by decide) hra hrb (by decide)]
    simp [runQ, bits, bit, Nat.testBit_eq_decide_div_mod_eq]
  · rw [runWord, scrFields_wordR (by decide) (by decide) hra (by decide) (by decide)]; rfl
  · obtain ⟨hlt, hsh, hrmf, -, h4, h3, h2⟩ := qFields (sh := 0) (by decide) hrm (x := 4) (by decide)
    simp only [Nat.zero_mul, Nat.zero_add] at hlt hsh hrmf h4 h3 h2
    rw [runWord, scrFields_wordR (by decide) hrd hra hrb hlt]
    exact (if_pos ⟨hsh, h4⟩).trans (by rw [hrmf, h3, h2]; rfl)
  · rw [runWord, scrFields_wordI (by decide) hrd hra himm]; rfl
  · rw [runWord, scrFields_wordI (by decide) hrd hra himm]; rfl
  · rw [runWord, scrFields_wordI (by decide) hrd hra himm]; rfl
  · rw [runWord, scrFields_wordI (by decide) hrd hra himm]; rfl
  · rw [runWord, scrFields_wordR (by decide) hrd hra (by decide) (by decide)]; rfl
  · rw [runWord, scrFields_wordR (by decide) hrd hra (by decide) (by decide)]; rfl
  · rfl
  · rfl
  · exact runWord_of_reserved_op (by rw [scrFields_wordI hlt hrd hra himm]; exact h)
  · rw [runWord, scrFields_wordR (by decide) hrd hra hrb (by omega)]
    exact runAlu_of_reserved h hlt
  · exact ⟨other_answers hs hw, other_answers hs hw, other_answers hs hw, other_answers hs hw, other_answers hs hw⟩

end Sys2Proof.Machine

/-! The debug commands of the scribes (R170). -/

namespace Sys2Proof.Machine

set_option Elab.async false

open Sys2Proof

/-! ### Writes of a field -/

/-- A field takes the bits of its width. -/
theorem State.wr_congr (s : State) {f : Fld} {v w : Nat} (h : v % 2 ^ f.w = w % 2 ^ f.w) : s.wr f v = s.wr f w := by
  rw [State.wr, State.wr, h]

theorem mapPut_mapPut_self {α : Type} (m : SMap α) (k : Nat) (a b : α) : mapPut (mapPut m k a) k b = mapPut m k b := by
  induction m with
  | nil => simp [mapPut]
  | cons e r ih =>
    rcases Nat.lt_trichotomy k e.1 with h | h | h
    · simp [mapPut, h]
    · simp [mapPut, h]
    · simp [mapPut, ih, Nat.lt_asymm h, Nat.ne_of_gt h]

theorem State.wr_wr (s : State) (f : Fld) (v w : Nat) : (s.wr f v).wr f w = s.wr f w := by
  simp only [State.wr, mapPut_mapPut_self]

/-- The fields of a pair are none of those of the debug registers. -/
theorem pairFld_ne_dbg {p a lo w r d e x y : Nat} (hp : p < 8) (h : a < 0x06030140 ∧ lo < 64 ∧ 0x06030400 ≤ d := by decide) :
    (⟨a + 64 * p, lo, w, r⟩ : Fld).key ≠ (⟨d, e, x, y⟩ : Fld).key := by
  simp only [Fld.key]
  omega

theorem scrPoll_of_idle {p : Nat} {tmo : Bool} {s : State} (h : (s.pairOf p).waiting = .none) : scrPoll p tmo s = s := by
  unfold scrPoll
  rw [h]
  exact ite_self s

/-! ### SCR_DBG_CTRL -/

/-- The pair and the breakpoint enables of a write of SCR_DBG_CTRL. -/
def dbgSelected (p : Nat) (b0 b1 : Bool) (s : State) : State :=
  ((s.wr Fd.SCR_DBG_CTRL_PAIR p).wrB Fd.SCR_DBG_CTRL_BP0_EN b0).wrB Fd.SCR_DBG_CTRL_BP1_EN b1

/-- A pair is selected, and the status is OK unless its command reports another. -/
def dbgAsked (p : Nat) (b0 b1 : Bool) (s : State) : State := dbgStatus St.ok (dbgSelected p b0 b1 s)

/-- The value of SCR_DBG_CTRL with one command bit. -/
def dbgWord (p : Nat) (b0 b1 : Bool) (k : Nat) : Nat := p + b2n b0 * 2 ^ 16 + b2n b1 * 2 ^ 17 + 2 ^ k

theorem dbgWord_fields {p : Nat} (hp : p < 8) (b0 b1 : Bool) {k : Nat} (hk : k ∈ [8, 9, 10]) : dbgWord p b0 b1 k % 2 ^ 3 = p ∧
    bit (dbgWord p b0 b1 k) 16 = b0 ∧ bit (dbgWord p b0 b1 k) 17 = b1 ∧ bit (dbgWord p b0 b1 k) 8 = decide (k = 8) ∧
    bit (dbgWord p b0 b1 k) 9 = decide (k = 9) ∧ bit (dbgWord p b0 b1 k) 10 = decide (k = 10) := by
  revert p b0 b1 k
  decide

section Ctrl

variable {p v : Nat} {b0 b1 : Bool} {s : State}

theorem dbgServe_of_right (h : hasRight 3 s = true) (f : State → State) : dbgServe f s = f s := if_pos h

theorem dbgServe_of_noRight (h : hasRight 3 s = false) (f : State → State) : dbgServe f s = dbgStatus St.access s :=
  if_neg (by rw [h]; exact Bool.false_ne_true)

/-- A write of SCR_DBG_CTRL with one command bit runs its command on the selected pair. -/
theorem dbgCtrl_of_right (hp : p < 8) (h : hasRight 3 s = true) {k : Nat} (hk : k ∈ [8, 9, 10]) :
    dbgCtrl (dbgWord p b0 b1 k) s = when_ (decide (k = 10)) dbgResume (when_ (decide (k = 9)) dbgStep
      (when_ (decide (k = 8)) dbgHalt (dbgAsked p b0 b1 s))) := by
  obtain ⟨hpair, h0, h1, h8, h9, h10⟩ := dbgWord_fields hp b0 b1 hk
  have hsel : s.wr Fd.SCR_DBG_CTRL_PAIR (dbgWord p b0 b1 k) = s.wr Fd.SCR_DBG_CTRL_PAIR p :=
    State.wr_congr s (hpair.trans (Nat.mod_eq_of_lt hp).symm)
  rw [dbgCtrl, dbgServe_of_right h]
  simp only [hsel, h0, h1, h8, h9, h10]
  rfl

theorem dbgCtrl_halt (hp : p < 8) (h : hasRight 3 s = true) : dbgCtrl (dbgWord p b0 b1 8) s = dbgHalt (dbgAsked p b0 b1 s) :=
  dbgCtrl_of_right hp h (by decide)

theorem dbgCtrl_step (hp : p < 8) (h : hasRight 3 s = true) : dbgCtrl (dbgWord p b0 b1 9) s = dbgStep (dbgAsked p b0 b1 s) :=
  dbgCtrl_of_right hp h (by decide)

theorem dbgCtrl_resume (hp : p < 8) (h : hasRight 3 s = true) : dbgCtrl (dbgWord p b0 b1 10) s = dbgResume (dbgAsked p b0 b1 s) :=
  dbgCtrl_of_right hp h (by decide)

/-- The selected pair, its command bits aside. -/
theorem dbgSelected_touches : Touches [] [.blk 0x0603] s (dbgSelected p b0 b1 s) :=
  .trans (.trans (.wr s _ p) (.wr _ _ _)) (.wr _ _ _)

theorem dbgSelected_pair (hp : p < 8) : (dbgSelected p b0 b1 s).rd Fd.SCR_DBG_CTRL_PAIR = p :=
  (State.rd_wr_ne _ _ _ _ (by decide)).trans ((State.rd_wr_ne _ _ _ _ (by decide)).trans (State.rd_wr_lt s _ p hp))

theorem dbgSelected_rd_pairFld {a lo w r : Nat} (hp : p < 8) (h : a < 0x06030140 ∧ lo < 64 := by decide) :
    (dbgSelected p b0 b1 s).rd ⟨a + 64 * p, lo, w, r⟩ = s.rd ⟨a + 64 * p, lo, w, r⟩ := by
  have ne : ∀ {e x y : Nat}, (⟨a + 64 * p, lo, w, r⟩ : Fld).key ≠ (⟨0x06030400, e, x, y⟩ : Fld).key := fun {_ _ _} =>
    pairFld_ne_dbg hp ⟨h.1, h.2, Nat.le_refl _⟩
  exact (State.rd_wr_ne _ _ _ _ ne).trans ((State.rd_wr_ne _ _ _ _ ne).trans (State.rd_wr_ne _ _ _ _ ne))

/-! ### HALT, STEP and RESUME of the selected pair -/

/-- A pair enters another state, with OK. -/
def dbgMoved (p a : Nat) (u : State) : State := dbgStatus St.ok (setPair p a (u.updPair p (fun x => { x with stepDue := false })))

theorem dbgMoved_pairOf (a : Nat) (u : State) : (dbgMoved p a u).pairOf p = { u.pairOf p with stepDue := false } :=
  State.pairOf_updPair u p (fun x => { x with stepDue := false })

section Commands

variable {u : State} (hpair : u.rd Fd.SCR_DBG_CTRL_PAIR = p)
include hpair

theorem dbgHalt_of_running (h : pairState u p = 1) : dbgHalt u = dbgMoved p 3 u := by
  unfold dbgHalt
  simp only [hpair]
  exact if_pos h

theorem dbgStep_of_other (h : pairState u p ≠ 3) : dbgStep u = dbgStatus St.order u := by
  unfold dbgStep
  simp only [hpair]
  exact if_pos h

variable (h : pairState u p = 3) (hm : scrMode u = true) (hw : (u.pairOf p).waiting = .none)
include h hm hw

theorem dbgStep_of_debug : dbgStep u = dbgRun p (dbgStatus St.ok u) := by
  have hw' : ((dbgStatus St.ok u).pairOf p).waiting = .none := hw
  unfold dbgStep
  simp only [hpair, hw']
  rw [if_neg (not_not.2 h), if_neg (by simp [hm])]

theorem dbgResume_of_debug : dbgResume u = dbgMoved p 1 u := by
  have hw' : ((dbgMoved p 1 u).pairOf p).waiting = .none := (congrArg Pair.waiting (dbgMoved_pairOf 1 u)).trans hw
  unfold dbgResume
  simp only [hpair]
  rw [if_neg (not_not.2 h), if_neg (by simp [hm])]
  exact scrPoll_of_idle hw'

end Commands

theorem dbgRun_of_word {w : Nat} {u : State} (h : scrFetch p u = (.word w, u)) : dbgRun p u = scrRun p w u := by
  rw [dbgRun, h]

/-- What a debug command shows of its pair. -/
def DbgShows (p a st : Nat) (put s t : State) : Prop := pairState t p = a ∧ t.rd Fd.SCR_DBG_STAT_STATUS = st ∧
  t.rd Fd.SCR_DBG_CTRL_PAIR = p ∧ t.rd Fd.SCR_DBG_CTRL_BP0_EN = put.rd Fd.SCR_DBG_CTRL_BP0_EN ∧
  t.pairOf p = { s.pairOf p with stepDue := (t.pairOf p).stepDue } ∧ t.mem = s.mem

theorem dbgAsked_touches : Touches [] [.blk 0x0603] s (dbgAsked p b0 b1 s) := .trans dbgSelected_touches (.wr _ _ _)

theorem dbgAsked_pair (hp : p < 8) : (dbgAsked p b0 b1 s).rd Fd.SCR_DBG_CTRL_PAIR = p :=
  (State.rd_wr_ne _ _ _ _ (by decide)).trans (dbgSelected_pair hp)

theorem dbgAsked_state (hp : p < 8) : pairState (dbgAsked p b0 b1 s) p = pairState s p :=
  (State.rd_wr_ne _ _ _ _ (pairFld_ne_dbg hp)).trans (dbgSelected_rd_pairFld hp)

theorem dbgAsked_mode : scrMode (dbgAsked p b0 b1 s) = scrMode s := by
  rw [scrMode, State.mode, (dbgAsked_touches (b0 := b0) (b1 := b1)).rd _ (by decide)]
  rfl

theorem dbgMoved_touches (hp : p < 8) (a : Nat) (u : State) : Touches [.scr] [.blk 0x0603] u (dbgMoved p a u) :=
  .trans (.trans (.of_puts [.scr] rfl) (.wr _ _ _ (pairFld_blk hp))) (.wr _ _ _)

/-- A debug register other than the status under the move of a pair. -/
theorem dbgMoved_rd_dbg (hp : p < 8) (a : Nat) (u : State) {d e x y : Nat} (h : 0x06030400 ≤ d ∧ d ≠ 0x06030404 ∧ e < 64 := by decide) :
    (dbgMoved p a u).rd ⟨d, e, x, y⟩ = u.rd ⟨d, e, x, y⟩ :=
  (State.rd_wr_ne _ _ _ _ (by simp only [Fld.key, Fd.SCR_DBG_STAT_STATUS]; omega)).trans
    (State.rd_wr_ne _ _ _ _ (pairFld_ne_dbg hp ⟨by decide, by decide, h.1⟩).symm)

theorem dbgMoved_shows (hp : p < 8) {a : Nat} (ha : a < 8) :
    DbgShows p a 0 (dbgSelected p b0 b1 s) s (dbgMoved p a (dbgAsked p b0 b1 s)) := by
  refine ⟨(State.rd_wr_ne _ _ _ _ (pairFld_ne_dbg hp)).trans (State.rd_wr_lt _ _ a ha), State.rd_wr _ _ _,
    (dbgMoved_rd_dbg hp a _).trans (dbgAsked_pair hp), (dbgMoved_rd_dbg hp a _).trans (State.rd_wr_ne _ _ _ _ (by decide)), ?_, rfl⟩
  rw [dbgMoved_pairOf]
  rfl

theorem dbgOrder_shows (hp : p < 8) :
    DbgShows p (pairState s p) 4 (dbgSelected p b0 b1 s) s (dbgStatus St.order (dbgAsked p b0 b1 s)) :=
  ⟨(State.rd_wr_ne _ _ _ _ (pairFld_ne_dbg hp)).trans (dbgAsked_state hp), State.rd_wr _ _ _,
    (State.rd_wr_ne _ _ _ _ (by decide)).trans (dbgAsked_pair hp),
    (State.rd_wr_ne _ _ _ _ (by decide)).trans (State.rd_wr_ne _ _ _ _ (by decide)), rfl, rfl⟩

end Ctrl

/-! ### Breakpoints and the registers -/

section Breakpoint

variable {p i : Nat} {s : State}

theorem scrBreakpoint_of_hit (h : pairState s p = 1) (hm : scrMode s = true) (hi : bpHit p s = some i) :
    scrBreakpoint p s = bpStop p i s := by
  rw [scrBreakpoint, if_neg (by simp [h, hm]), hi]

/-- The hit bit of a breakpoint. -/
def hitFld (i : Nat) : Fld := if i = 0 then Fd.SCR_DBG_STAT_BP0_HIT else Fd.SCR_DBG_STAT_BP1_HIT

theorem hitFld_cases (i : Nat) : hitFld i = Fd.SCR_DBG_STAT_BP0_HIT ∨ hitFld i = Fd.SCR_DBG_STAT_BP1_HIT := ite_eq_or_eq _ _ _

theorem bpStop_touches (hp : p < 8) : Touches [.scr] [.blk 0x0603] s (bpStop p i s) := by
  refine .trans (.trans (t := s.set1 (hitFld i)) (.wr s _ 1 ?_) (.of_puts [.scr] rfl)) (.wr _ _ _ (pairFld_blk hp))
  rcases hitFld_cases i with h | h <;> rw [h] <;> rfl

theorem bpStop_pairOf : (bpStop p i s).pairOf p = { s.pairOf p with stepDue := false } :=
  State.pairOf_updPair (s.set1 (hitFld i)) p (fun x => { x with stepDue := false })

theorem bpStop_hit (hp : p < 8) : (bpStop p i s).rd (hitFld i) = 1 := by
  have ne : (hitFld i).key ≠ (Fd.SCR_PSTAT_STATE p).key := by
    rcases hitFld_cases i with h | h <;> rw [h] <;> exact (pairFld_ne_dbg hp).symm
  refine (State.rd_wr_ne _ _ _ _ ne).trans (State.rd_set1 s (hitFld i) ?_)
  rcases hitFld_cases i with h | h <;> rw [h] <;> exact Nat.one_pos

end Breakpoint

theorem dbgRegWrite_of_general {p i v : Nat} {s : State} (hr : hasRight 3 s = true) (hsel : s.rd Fd.SCR_DBG_CTRL_PAIR = p)
    (h : pairState s p = 3) (hreg : s.rd Fd.SCR_DBG_REG_SEL_SEL = i) (hi : i < 32) :
    dbgRegWrite v s = dbgStatus St.ok (gWrite p i v s) := by
  unfold dbgRegWrite
  simp only [hsel]
  rw [dbgServe_of_right hr, if_neg (not_not.2 h), dbgPut, hreg, if_pos hi]

theorem dbgRegWrite_of_noRight {s : State} (h : hasRight 3 s = false) (v : Nat) : dbgRegWrite v s = dbgStatus St.access s := by
  unfold dbgRegWrite
  exact dbgServe_of_noRight h _

/-- Settles O46: a write of SCR_DBG_CTRL selects its pair and runs its command there; without the right it is refused. -/
theorem scribeDebugCommands : Obligations.ScribeDebugCommands := by
  intro s p i v b0 b1 hp hl put dbg
  have hc := ((State.live_iff s).1 hl).2
  have asked := dbgAsked_touches (p := p) (b0 := b0) (b1 := b1) (s := s)
  have pair := dbgAsked_pair (b0 := b0) (b1 := b1) (s := s) hp
  have state := dbgAsked_state (b0 := b0) (b1 := b1) (s := s) hp
  have mode := dbgAsked_mode (p := p) (b0 := b0) (b1 := b1) (s := s)
  have answers : ∀ {f : State → State} {P : State → Prop} {u : State}, f s = u → u.calm = true → P u → ∃ t, sysRun f s = .next t ∧ P t :=
    fun {f P u} hf hu hP => ⟨u, hf ▸ sysRun_of_live hl f (hf ▸ hu), hP⟩
  refine ⟨fun hr => ⟨fun h => ?_, fun h hm hw => ?_, fun w h hm hw hfetch => ?_, fun h => ?_, fun h hm hi => ?_, fun hsel h hreg hi => ?_⟩,
    fun hr c hcmd => ?_⟩
  · exact answers ((dbgCtrl_halt hp hr).trans (dbgHalt_of_running pair (state.trans h)))
      ((dbgMoved_touches hp 3 _).calm (asked.calm hc)) (dbgMoved_shows hp (by decide))
  · exact answers ((dbgCtrl_resume hp hr).trans (dbgResume_of_debug pair (state.trans h) (mode.trans hm) hw))
      ((dbgMoved_touches hp 1 _).calm (asked.calm hc)) (dbgMoved_shows hp (by decide))
  · have again : dbgStatus St.ok (dbgAsked p b0 b1 s) = dbgAsked p b0 b1 s := State.wr_wr _ _ _ _
    have e := (dbgCtrl_step hp hr).trans (dbgStep_of_debug pair (state.trans h) (mode.trans hm) hw)
    rw [again] at e
    exact (sysRun_of_sysOn _ s ((State.live_iff s).1 hl).1).trans
      (congrArg (fun x => Host.Outcome.next (finish x)) (e.trans (dbgRun_of_word hfetch)))
  · exact answers ((dbgCtrl_step hp hr).trans (dbgStep_of_other pair (by rwa [state])))
      ((Touches.wr (ps := []) (ks := [.blk 0x0603]) _ _ _).calm (asked.calm hc)) (dbgOrder_shows hp)
  · have e := scrBreakpoint_of_hit h hm hi
    exact ⟨_, (engRun_of_live hl _ (e ▸ (bpStop_touches hp).calm hc)).trans (congrArg _ e), State.rd_wr _ _ _,
      bpStop_hit hp, bpStop_pairOf⟩
  · have e := dbgRegWrite_of_general (v := v) hr hsel h hreg hi
    exact answers e ((State.calm_wr _ _ _ (by decide)).trans ((gWrite_calm p i v s).trans hc)) 
      ⟨State.rd_wr _ _ _, fun r => gRead_gWrite p i v r s⟩
  · have refused : ∀ {f : State → State}, dbgServe f s = dbgStatus St.access s := fun {f} => dbgServe_of_noRight hr f
    have answer : ∀ {f : State → State}, f s = dbgStatus St.access s → sysRun f s = .next (s.wr Fd.SCR_DBG_STAT_STATUS 5) := fun {f} e =>
      (sysRun_of_live hl f (e ▸ (State.calm_wr s _ _ (by decide)).trans hc)).trans (congrArg _ e)
    simp only [List.mem_cons, List.not_mem_nil, or_false] at hcmd
    rcases hcmd with rfl | rfl | rfl | rfl
    · exact answer refused
    · exact answer refused
    · exact answer refused
    · exact answer (dbgRegWrite_of_noRight hr v)

end Sys2Proof.Machine

/-! The commands of a pair, its lockstep failure, and what its fetch cache and its pattern fetches bring (R152, R154, R156, R165). -/

namespace Sys2Proof.Machine

set_option Elab.async false

open Sys2Proof

/-! ### START, STOP, RESET and FC_INVAL -/

section Commands

variable {p : Nat} {s : State}

/-- A pair runs from now on. -/
def scrStarted (p : Nat) (s : State) : State := scrStatus p St.ok (setPair p 1 (s.updPair p (fun x => { x with start := s.now })))

theorem scrStarted_pairOf : (scrStarted p s).pairOf p = { s.pairOf p with start := s.now } :=
  State.pairOf_updPair s p (fun x => { x with start := s.now })

theorem scrStart_of_stopped (h : pairState s p = 0) (hm : scrMode s = true) (hw : (s.pairOf p).waiting = .none) :
    scrStart p true s = scrStarted p s := by
  have idle : ((scrStarted p s).pairOf p).waiting = .none := (congrArg Pair.waiting scrStarted_pairOf).trans hw
  rw [scrStart, if_neg (not_not.2 h), if_neg (by simp [hm]), if_neg (by decide)]
  exact scrPoll_of_idle idle

/-- A pair is stopped by its command. -/
def scrHalted (p : Nat) (s : State) : State := scrStatus p St.ok (setPair p 0 (s.updPair p (fun x => { x with stepDue := false })))

theorem scrHalted_pairOf : (scrHalted p s).pairOf p = { s.pairOf p with stepDue := false } :=
  State.pairOf_updPair s p (fun x => { x with stepDue := false })

theorem scrStopCmd_of_running (h : pairState s p = 1 ∨ pairState s p = 3) : scrStopCmd p s = scrHalted p s := if_pos h

/-- A pair in a state, with a status, whatever it holds. -/
theorem moved_state (a st : Nat) (ha : a < 8) (f : Pair → Pair) : pairState (scrStatus p st (setPair p a (s.updPair p f))) p = a :=
  (pairFld_rd_wr_ne _ _).trans (State.rd_wr_lt _ _ a ha)

theorem moved_touches (hp : p < 8) (a st : Nat) (f : Pair → Pair) :
    Touches [.scr] [.blk 0x0603] s (scrStatus p st (setPair p a (s.updPair p f))) :=
  .trans (.trans (.of_puts [.scr] rfl) (.wr _ _ _ (pairFld_blk hp))) (.wr _ _ _ (pairFld_blk hp))

theorem scrReset_of_stopped (h : pairState s p = 0) : scrReset p s = scrStatus p St.ok (scrClear p s) := if_pos h

theorem scrStart_of_other (h : pairState s p ≠ 0) (pass : Bool) : scrStart p pass s = scrStatus p St.order s := if_pos h

theorem scrStopCmd_of_stopped (h : pairState s p = 0) : scrStopCmd p s = scrStatus p St.order s := if_neg (by rw [h]; decide)

theorem scrReset_of_running (h : pairState s p = 1) : scrReset p s = scrStatus p St.order s := by
  rw [scrReset, if_neg (by rw [h]; decide), if_neg (by rw [h]; decide)]

theorem scrClear_pairOf : (scrClear p s).pairOf p = pairZero := by
  show (mapGet? (mapDel s.scr.pair p) p).getD pairZero = pairZero
  rw [mapGet?_mapDel_self]
  rfl

theorem scrClear_touches (hp : p < 8) : Touches [.scr] [.blk 0x0603] s (scrClear p s) := by
  have clr : ∀ {a lo w r v : Nat} (t : State), 0x06030000 ≤ a ∧ a + 448 < 0x06040000 ∧ lo < 64 →
      Touches [.scr] [.blk 0x0603] t (t.wr ⟨a + 64 * p, lo, w, r⟩ v) := fun t h => (Touches.wr_pairFld hp t _ h).mono (ps := [])
  exact .trans (.of_puts [.scr] (t := { s with scr := { s.scr with pair := mapDel s.scr.pair p } }) rfl) <|
    .trans (clr _ (by decide)) <| .trans (clr _ (by decide)) <| .trans (clr _ (by decide)) <| .trans (clr _ (by decide)) <|
    .trans (clr _ (by decide)) <| .trans (clr _ (by decide)) <| .trans (clr _ (by decide)) <| .trans (clr _ (by decide)) (clr _ (by decide))

/-- The fields a RESET clears. -/
theorem scrClear_cleared : (scrClear p s).rd (Fd.SCR_PSTAT_SAT p) = 0 ∧ (scrClear p s).rd (Fd.SCR_PSTAT_OVF p) = 0 ∧
    (scrClear p s).rd (Fd.SCR_PSTAT_DIV0 p) = 0 ∧ (scrClear p s).rd (Fd.SCR_PSTAT_IN_TRAP p) = 0 ∧
    (scrClear p s).rd (Fd.SCR_TRAP_PC_VALUE p) = 0 := by
  simp (disch := decide) only [scrClear, State.clr, Fd.SCR_PSTAT_SAT, Fd.SCR_PSTAT_OVF, Fd.SCR_PSTAT_DIV0, Fd.SCR_PSTAT_IN_TRAP,
    Fd.SCR_TRAP_CAUSE, Fd.SCR_TRAP_PC_VALUE, Fd.SCR_TRAP_INFO_VALUE, Fd.SCR_DOORBELL_PENDING, Fd.SCR_PC_PC, pairFld_rd_wr_ne, State.rd_wr,
    Nat.zero_mod, and_self]

theorem scrClear_pc : (scrClear p s).rd (Fd.SCR_PC_PC p) = s.rd (Fd.SCR_PC_INIT_ADDR p) * 4 % 2 ^ 32 := State.rd_wr _ _ _

/-- A field of a pair other than its status is left by a report. -/
theorem scrStatus_rd_pairFld {a lo w r : Nat} (st : Nat) (t : State) (h : a * 64 + lo ≠ 0x06030104 * 64 + 8 := by decide) :
    (scrStatus p st t).rd ⟨a + 64 * p, lo, w, r⟩ = t.rd ⟨a + 64 * p, lo, w, r⟩ := pairFld_rd_wr_ne t st h

/-- What a RESET shows of its pair. -/
theorem scrReset_shows (s : State) : (∀ r, gRead (scrStatus p St.ok (scrClear p s)) p r = 0) ∧
    ((scrStatus p St.ok (scrClear p s)).pairOf p).acc = 0 ∧
    (scrStatus p St.ok (scrClear p s)).rd (Fd.SCR_PC_PC p) = s.rd (Fd.SCR_PC_INIT_ADDR p) * 4 % 2 ^ 32 ∧
    (scrStatus p St.ok (scrClear p s)).rd (Fd.SCR_PSTAT_SAT p) = 0 ∧ (scrStatus p St.ok (scrClear p s)).rd (Fd.SCR_PSTAT_OVF p) = 0 ∧
    (scrStatus p St.ok (scrClear p s)).rd (Fd.SCR_PSTAT_DIV0 p) = 0 ∧ (scrStatus p St.ok (scrClear p s)).rd (Fd.SCR_PSTAT_IN_TRAP p) = 0 ∧
    (scrStatus p St.ok (scrClear p s)).rd (Fd.SCR_TRAP_PC_VALUE p) = 0 ∧
    (scrStatus p St.ok (scrClear p s)).rd (Fd.SCR_PSTAT_STATUS p) = 0 ∧ (scrStatus p St.ok (scrClear p s)).mem = s.mem := by
  obtain ⟨sat, ovf, div0, intrap, tpc⟩ := scrClear_cleared (p := p) (s := s)
  have hpair : (scrStatus p St.ok (scrClear p s)).pairOf p = pairZero := (State.pairOf_wr _ _ _ p).trans scrClear_pairOf
  refine ⟨fun r => ?_, congrArg Pair.acc hpair, (scrStatus_rd_pairFld _ _).trans scrClear_pc, (scrStatus_rd_pairFld _ _).trans sat,
    (scrStatus_rd_pairFld _ _).trans ovf, (scrStatus_rd_pairFld _ _).trans div0, (scrStatus_rd_pairFld _ _).trans intrap,
    (scrStatus_rd_pairFld _ _).trans tpc, State.rd_wr _ _ _, rfl⟩
  rw [gRead, hpair]
  exact ite_self 0

end Commands

/-! ### A lockstep failure (R152) -/

section Lockstep

variable {p cause : Nat} {s : State}

/-- A pair is FAILED and its input raised; its queues are not yet halted. -/
def failNoted (p cause : Nat) (s : State) : State :=
  safRaise (8 + p) (fetchesEnd p (((setPair p 4 s).wr (Fd.SCR_PSTAT_FAIL_CAUSE p) cause).updPair p (fun x => { x with waiting := .none })))

theorem haltOwner_of_noQueues (h : queuesIn s 1 ++ queuesIn s 2 = []) : haltOwner p s = s := by
  rw [haltOwner, h]
  rfl

theorem scrFail_of_noQueues (h : queuesIn s 1 ++ queuesIn s 2 = []) : scrFail p cause s = failNoted p cause s := by
  have hque : (failNoted p cause s).que = s.que := (safRaise_touches (8 + p) _).part .que (by decide)
  refine haltOwner_of_noQueues (s := failNoted p cause s) ?_
  rwa [queuesIn, queuesIn, hque]

theorem scrMismatch_of_executing (h : pairState s p ∈ [1, 2, 3]) : scrMismatch p s = irqEvent (192 + p) (scrFail p 1 s) :=
  if_pos (by simpa using h)

/-- A lockstep failure leaves the pair FAILED and its input due. -/
theorem failed_shows (hp : p < 8) (hc : cause < 4) : pairState (irqEvent (192 + p) (failNoted p cause s)) p = 4 ∧
    (irqEvent (192 + p) (failNoted p cause s)).rd (Fd.SCR_PSTAT_FAIL_CAUSE p) = cause ∧
    8 + p ∈ (irqEvent (192 + p) (failNoted p cause s)).saf.due ∧ (irqEvent (192 + p) (failNoted p cause s)).mem = s.mem := by
  have raised := safRaise_touches (8 + p)
    (fetchesEnd p (((setPair p 4 s).wr (Fd.SCR_PSTAT_FAIL_CAUSE p) cause).updPair p (fun x => { x with waiting := .none })))
  have event := irqEvent_touches (192 + p) (failNoted p cause s)
  have failed : pairState (setPair p 4 s) p = 4 := State.rd_wr_lt s _ 4 (by norm_num [Fd.SCR_PSTAT_STATE])
  refine ⟨(irqEvent_rd_pairFld hp _ _).trans ((raised.rd _ rfl).trans ((pairFld_rd_wr_ne _ _).trans failed)),
    (irqEvent_rd_pairFld hp _ _).trans ((raised.rd _ rfl).trans (State.rd_wr_lt (setPair p 4 s) _ cause hc)), ?_,
    (event.part .mem (by decide)).trans (raised.part .mem (by decide))⟩
  rw [event.part .saf (by decide)]
  exact List.contains_iff_mem.1 (safRaise_due _ _)

end Lockstep

/-! ### A refill of the fetch cache (R156) -/

section Refill

variable {p line addr : Nat} {s : State}

/-- A write of a word whose key is none of retained RAM reaches the words, and disarms an injection at most. -/
theorem writeWord_touches_of_other {m i : Nat} (hm : m ≠ 13) (hk : mkey m i / 2 ^ 32 ≠ 13) (d : W64) (s : State) :
    Touches [.mem, .mst, .bst] [.one Fd.MEM_INJ_ARMED] s (writeWord m i d s) := by
  rw [writeWord, retUnmerge_of_other hm]
  refine .trans (.of_puts (t := touchWord m i s) [.mst]) ?_
  exact .trans (.ite (fun _ => .wr _ Fd.MEM_INJ_ARMED 0) (fun _ => .refl _)) (mput_touches_words hk _ _).mono

theorem mkey_cache_div_ne (i : Nat) : mkey 15 i / 2 ^ 32 ≠ 13 := by
  unfold mkey
  omega

/-- The keys a refill's words can reach. -/
abbrev refillKeys : List Keys := [.one Fd.MEM_INJ_ARMED, .blk 0x0608]

/-- A word of the array is read and put into its place in the fetch cache; the words that read bad are listed. -/
def refillWord (p first slot : Nat) (a : List Nat × State) (k : Nat) : List Nat × State :=
  match uflRead (first + k) a.2 with
  | (some d, t) => (a.1, writeWord 15 (cacheWord p slot k) (BitVec.ofNat 64 d) t)
  | (none, t) => (a.1 ++ [k], t)

theorem refillWord_touches (first slot : Nat) (a : List Nat × State) (k : Nat) :
    Touches [.mem, .mst, .bst] refillKeys a.2 (refillWord p first slot a k).2 := by
  have read : Touches [] [.blk 0x0608] a.2 (uflRead (first + k) a.2).2 := uflTally_touches [first + k] a.2
  unfold refillWord
  split
  · next d t h =>
    rw [h] at read
    exact read.mono.trans (writeWord_touches_of_other (by decide) (mkey_cache_div_ne _) _ t).mono
  · next t h =>
    rw [h] at read
    exact read.mono

theorem refillWords_touches (first slot : Nat) (l : List Nat) (a : List Nat × State) :
    Touches [.mem, .mst, .bst] refillKeys a.2 (l.foldl (refillWord p first slot) a).2 := by
  induction l generalizing a with
  | nil => exact .refl _
  | cons k l ih => exact (refillWord_touches first slot a k).trans (ih _)

/-- A line is first in a pair's fetch cache, and the miss counted. -/
def lineCached (p line slot : Nat) (r : List Nat × State) : State :=
  (r.2.incSat (Fd.SCR_FC_CNT_MISSES p)).updPair p (fun x =>
    { x with cache := ⟨line, slot, r.1⟩ :: x.cache.filter (fun y => y.line != line && y.slot != slot) })

theorem cacheFind_lineCached (slot : Nat) (r : List Nat × State) : (cacheFind (lineCached p line slot r) p line).isSome = true := by
  rw [cacheFind, lineCached, State.pairOf_updPair]
  simp

theorem cacheRefill_of_running (h : pairState s p = 1) (hlo : 0x02000000 ≤ addr) (hhi : addr < 0x04000000) (hxo : xoFetch s p addr = true)
    (hb : uflBusy s = false) : ∃ slot, cacheRefill p addr false s = lineCached p (addr / 64) slot
      ((List.range 8).foldl (refillWord p ((addr - 0x02000000) / 64 * 8) slot) ([], s)) := by
  refine ⟨cacheSlot (cacheDrop p (addr / 64) s) p (addr / 64), ?_⟩
  unfold cacheRefill
  rw [if_neg (by simp [h, hxo, hb]; omega)]
  rfl

theorem refillDone_of_running {drop : Bool} (h : pairState (cacheRefill p addr drop s) p = 1) :
    refillDone p addr drop s = cacheRefill p addr drop s := if_neg (fun hc => absurd (h.symm.trans hc.1) (by decide))

/-- The fields of a pair are none that a refill's words reach. -/
theorem pairFld_offRefill {a lo w r : Nat} (hp : p < 8) (h : 0x06030000 ≤ a ∧ a + 448 < 0x06040000 ∧ lo < 64 := by decide) :
    refillKeys.any (·.has (⟨a + 64 * p, lo, w, r⟩ : Fld).key) = false := by
  simp only [List.any_cons, List.any_nil, Keys.has, Fld.key, Fd.MEM_INJ_ARMED, Bool.or_eq_false_iff, beq_eq_false_iff_ne, and_true]
  omega

/-- What a refill shows of its pair. -/
theorem lineCached_shows (hp : p < 8) {slot : Nat} {r : List Nat × State} (ht : Touches [.mem, .mst, .bst] refillKeys s r.2) :
    pairState (lineCached p line slot r) p = pairState s p ∧
    (lineCached p line slot r).rd (Fd.SCR_FC_CNT_MISSES p) = min (s.rd (Fd.SCR_FC_CNT_MISSES p) + 1) 65535 ∧
    ∀ g, gRead (lineCached p line slot r) p g = gRead s p g := by
  refine ⟨(pairFld_rd_wr_ne _ _).trans (ht.rd _ (pairFld_offRefill hp)), ?_, fun g => ?_⟩
  · have count : (lineCached p line slot r).rd (Fd.SCR_FC_CNT_MISSES p) = min (2 ^ 16 - 1) (r.2.rd (Fd.SCR_FC_CNT_MISSES p) + 1) :=
      State.rd_incSat r.2 _
    have kept : r.2.rd (Fd.SCR_FC_CNT_MISSES p) = s.rd (Fd.SCR_FC_CNT_MISSES p) := ht.rd _ (pairFld_offRefill hp)
    rw [count, kept, Nat.min_comm]
    rfl
  · exact (gRead_updPair _ (by rfl) g).trans (gRead_of_pairOf (pairOf_of_scr (ht.part .scr (by decide)) p) g)

end Refill

/-! ### A burst of a pattern fetch (R165) -/

section Burst

variable {p tag dst : Nat} {s : State}

theorem burstWrite_touches (d : Nat) : Touches memParts [.all] s (burstWrite p dst false d s) :=
  .forEach _ (fun _ _ => writeWord_touches _ _ _ _) _ _

/-- A tag after a burst that arrived clean. -/
def burstTaken (p tag : Nat) (x : FetchTag) (u : State) : State :=
  u.updPair p (fun z => { z with tags := mapPut z.tags tag ⟨x.src + 64, x.dst + 64, x.left - 1, St.ok, true⟩ })

theorem burstTaken_pairOf (x : FetchTag) (u : State) : (burstTaken p tag x u).pairOf p =
    { u.pairOf p with tags := mapPut (u.pairOf p).tags tag ⟨x.src + 64, x.dst + 64, x.left - 1, St.ok, true⟩ } :=
  State.pairOf_updPair u p (fun z => { z with tags := mapPut z.tags tag ⟨x.src + 64, x.dst + 64, x.left - 1, St.ok, true⟩ })

theorem fetchBurst_of_clean {x : FetchTag} {d0 d1 : Nat} {l : BitVec 576} (ht : mapGet? (s.pairOf p).tags tag = some x)
    (hx : x.busy = true) (hok : lineOk (x.src / 64) s = true) (hr : lineRead (x.src / 64) (1 + p) s = (some d0, some d1, l, s))
    (hw : (s.pairOf p).waiting = .none) (hleft : 1 < x.left) :
    ∃ u : State, u.pairOf p = s.pairOf p ∧ fetchBurst p tag s = burstTaken p tag x u := by
  have hpair : (burstWrite p x.dst false (d0 + d1 * 2 ^ 256) s).pairOf p = s.pairOf p :=
    pairOf_of_scr ((burstWrite_touches _).part .scr (by decide)) p
  have idle : ((burstTaken p tag x (burstWrite p x.dst false (d0 + d1 * 2 ^ 256) s)).pairOf p).waiting = .none := by
    rw [burstTaken_pairOf, hpair]
    exact hw
  refine ⟨_, hpair, ?_⟩
  unfold fetchBurst
  rw [ht]
  simp only [hx, hok, hr, hleft, decide_true]
  rw [if_neg (by decide)]
  exact scrPoll_of_idle idle

end Burst

/-! ### The obligation -/

/-- The commands of a live device, each by the state of the pair. -/
theorem pairCommands {s : State} {p : Nat} (hp : p < 8) (hl : s.live = true) :
    (pairState s p = 0 → scrMode s = true → (s.pairOf p).waiting = .none → exec (.scrStart p true) s = .next (scrStarted p s)) ∧
    (pairState s p = 1 ∨ pairState s p = 3 → exec (.scrStop p) s = .next (scrHalted p s)) ∧
    (pairState s p = 0 → exec (.scrReset p) s = .next (scrStatus p St.ok (scrClear p s))) ∧
    exec (.fcInval p) s = .next (scrInval p s) := by
  have hc := ((State.live_iff s).1 hl).2
  have answers : ∀ {f : State → State} {u : State}, f s = u → u.calm = true → sysRun f s = .next u := fun {f u} hf hu =>
    (sysRun_of_live hl f (hf ▸ hu)).trans (congrArg _ hf)
  have cleared : Touches [.scr] [.blk 0x0603] s (scrStatus p St.ok (scrClear p s)) := (scrClear_touches hp).trans (.wr _ _ _ (pairFld_blk hp))
  exact ⟨fun h hm hw => answers (scrStart_of_stopped h hm hw) ((moved_touches hp 1 _ _).calm hc),
    fun h => answers (scrStopCmd_of_running h) ((moved_touches hp 0 _ _).calm hc),
    fun h => answers (scrReset_of_stopped h) (cleared.calm hc), answers rfl (calm_wr_pairFld hp (s := s.updPair p _) hc _)⟩

/-- A command that the state of its pair does not take reports ORDER. -/
theorem pairCommands_order {s : State} {p : Nat} {f : State → State} (hp : p < 8) (hl : s.live = true)
    (hf : f s = scrStatus p St.order s) : sysRun f s = .next (s.wr (Fd.SCR_PSTAT_STATUS p) 4) :=
  (sysRun_of_live hl f (hf ▸ calm_wr_pairFld hp ((State.live_iff s).1 hl).2 _)).trans (congrArg _ hf)

/-- Settles O43: the commands by the state of their pair; the failure, the refill and the burst by the one state each leads to. -/
theorem scribePairControl : Obligations.ScribePairControl := by
  refine ⟨fun s p hp hl => ?_, fun s p addr tag x d0 d1 l hp heng =>
    ⟨fun h hq => ?_, fun h hlo hhi hxo hb => ?_, fun ht hx hok hr hw hleft => ?_⟩⟩
  · intro st
    obtain ⟨start, stop, reset, inval⟩ := pairCommands hp hl
    refine ⟨fun h hm hw => ⟨_, start h hm hw, moved_state 1 _ (by decide) _, State.rd_wr _ _ _,
        congrArg Pair.start scrStarted_pairOf, rfl, fun f hf => ?_⟩,
      fun h => ⟨_, stop h, moved_state 0 _ (by decide) _, State.rd_wr _ _ _, scrHalted_pairOf, rfl⟩, fun h => ⟨_, reset h, scrReset_shows s⟩,
      ⟨_, inval, State.pairOf_updPair s p (fun x => { x with cache := [] }), State.rd_wr _ _ _,
        (ScrFrame.updPair s _).trans (.wr _ _ _ List.mem_cons_self)⟩, fun c hcmd => ?_⟩
    · simp only [List.map_cons, List.map_nil, List.mem_cons, List.not_mem_nil, or_false, not_or] at hf
      exact (State.rd_wr_ne _ _ _ _ hf.2).trans (State.rd_wr_ne _ _ _ _ hf.1)
    · rcases hcmd with ⟨rfl, h⟩ | ⟨rfl, h⟩ | ⟨rfl, h⟩
      · exact pairCommands_order hp hl (scrStart_of_other h true)
      · exact pairCommands_order hp hl (scrStopCmd_of_stopped h)
      · exact pairCommands_order hp hl (scrReset_of_running h)
  · have e := (scrMismatch_of_executing h).trans (congrArg _ (scrFail_of_noQueues (cause := 1) hq))
    exact ⟨_, (exec_engRun heng).trans (congrArg (fun u => Host.Outcome.next (finish u)) e), failed_shows hp (by decide)⟩
  · obtain ⟨slot, e⟩ := cacheRefill_of_running h hlo hhi hxo hb
    obtain ⟨state, count, regs⟩ := lineCached_shows (p := p) (line := addr / 64) (slot := slot) hp
      (refillWords_touches ((addr - 0x02000000) / 64 * 8) slot (List.range 8) ([], s))
    have done := (refillDone_of_running (e ▸ state.trans h)).trans e
    exact ⟨_, (exec_engRun heng).trans (congrArg (fun u => Host.Outcome.next (finish u)) done), cacheFind_lineCached slot _, count, regs⟩
  · obtain ⟨u, hu, e⟩ := fetchBurst_of_clean ht hx hok hr hw hleft
    refine ⟨_, (exec_engRun heng).trans (congrArg (fun u => Host.Outcome.next (finish u)) e), ?_, fun r => ?_⟩
    · rw [burstTaken_pairOf]
      exact mapGet?_mapPut_self _ _ _
    · exact (gRead_updPair u rfl r).trans (gRead_of_pairOf hu r)

end Sys2Proof.Machine
